-- ==== Sys2Proof/Word.lean ====
section
/-! DEFINITION. The plain types of the model: bytes, the three lanes, the two networks, and numbers that
wrap or saturate as the manual's fields do (00_scope.md R8). -/

namespace Sys2Proof

/-- One byte. -/
abbrev Byte := BitVec 8

/-- A string of bytes, lowest address first. -/
abbrev Bytes := List Byte

/-- A vector of one bit per I/O cell, cell n in bit n. -/
abbrev CellMask := BitVec 48

/-- The three computing lanes, in regions LA, LB and LC (00_scope.md R6). -/
inductive Lane where
  | a | b | c
  deriving DecidableEq, Repr

/-- The lane's number: 0 A, 1 B, 2 C (05 R150, VFLANE). -/
def Lane.num : Lane → Nat
  | .a => 0
  | .b => 1
  | .c => 2

/-- The lanes in the order A, B, C. -/
def Lane.all : List Lane := [.a, .b, .c]

/-- One value for each lane. -/
structure Trio (α : Type) where
  a : α
  b : α
  c : α
  deriving DecidableEq, Repr

def Trio.get {α : Type} (t : Trio α) : Lane → α
  | .a => t.a
  | .b => t.b
  | .c => t.c

def Trio.set {α : Type} (t : Trio α) (l : Lane) (v : α) : Trio α :=
  match l with
  | .a => { t with a := v }
  | .b => { t with b := v }
  | .c => { t with c := v }

def Trio.all {α : Type} (v : α) : Trio α := ⟨v, v, v⟩

def Trio.map {α β : Type} (f : α → β) (t : Trio α) : Trio β := ⟨f t.a, f t.b, f t.c⟩

/-- The two safety networks. -/
inductive Net where
  | a | b
  deriving DecidableEq, Repr

/-- One value for each network, for each partner link, or for each of two producers. -/
structure Duo (α : Type) where
  fst : α
  snd : α
  deriving DecidableEq, Repr

def Duo.at {α : Type} (d : Duo α) : Net → α
  | .a => d.fst
  | .b => d.snd

def Duo.put {α : Type} (d : Duo α) (n : Net) (v : α) : Duo α :=
  match n with
  | .a => { d with fst := v }
  | .b => { d with snd := v }

def Duo.sel {α : Type} (d : Duo α) : Bool → α
  | false => d.fst
  | true => d.snd

def Duo.upd {α : Type} (d : Duo α) (i : Bool) (v : α) : Duo α :=
  match i with
  | false => { d with fst := v }
  | true => { d with snd := v }

def Duo.both {α : Type} (v : α) : Duo α := ⟨v, v⟩

end Sys2Proof
end

