-- ==== Sys2Proof/Syntax.lean ====
section
/-! DEFINITION. The commands of the block: one constructor of Instr for each row of
spec/opcode_table.json, and before it the types of their operands. The table gives no operand and no bits;
an operand is what the row's event names (a lane, a cell, a frame) or what the outside world decides
(a measured value, a test's outcome). -/

namespace Sys2Proof

/-! ### Fault source IDs -/

/-- A fault source ID as its five fields (01 R18): level [31:29], region [28:26], block [25:20],
cell [19:8], detector [7:0]. -/
structure Fsid where
  level  : Nat
  region : Nat
  block  : Nat
  cell   : Nat
  det    : Nat
  deriving DecidableEq, Repr

/-! ### Frames -/

/-- A GVT as its header fields, raw (08 R231): reserved bits are kept so that the receiver can refuse them. -/
structure Gvt where
  ver     : Nat
  typ     : Nat
  flags   : BitVec 8
  src     : BitVec 16
  dst     : BitVec 16
  conn    : Nat
  resv7   : Byte
  epoch   : Nat
  alive   : Nat
  seq     : Nat
  stampMs : Nat
  stampUs : Nat
  serial  : Nat
  len     : Nat
  resv1e  : BitVec 16
  payload : Bytes
  macv    : Bytes
  sc1     : Nat
  sc2     : Nat
  deriving DecidableEq, Repr

/-- The IPv4 header without options and the UDP header of a GVT (08 R230). -/
structure UdpHead where
  srcIp : Nat
  dstIp : Nat
  df    : Bool
  ttl   : Nat
  sport : Nat
  dport : Nat
  csum  : Nat
  deriving DecidableEq, Repr

/-- How a frame is carried (08 R230); a frame that carries no GVT has an EtherType and data of its own. -/
inductive Carriage where
  | raw (etype : Nat)
  | udp (ip : UdpHead)
  | other (etype : Nat) (data : Bytes)
  deriving DecidableEq, Repr

/-- A frame as it arrives at a network port: whether the frame check sequence and length are right,
the carriage, the VLAN tag (VID 0: untagged), the MAC addresses and the GVT. -/
structure Frame where
  fcsOk    : Bool
  lengthOk : Bool
  carriage : Carriage
  vid      : Nat
  prio     : Nat
  srcMac   : Nat
  dstMac   : Nat
  gvt      : Gvt
  deriving DecidableEq, Repr

/-! ### Access to the register window -/

/-- The path of an NSP datagram (12 R337). -/
inductive NspPath where
  | svc | vido (net : Net)
  deriving DecidableEq, Repr

/-- An NSP header with its datagram's origin and destination (12 R337 to R339), the address and the data apart. -/
structure NspHead where
  path  : NspPath
  ip    : Nat
  port  : Nat
  dst   : Nat
  dport : Nat
  magic : Nat
  ver   : Nat
  op    : Nat
  xid   : Nat
  dlen  : Nat
  nstat : Nat
  nflag : BitVec 8
  nsess : Nat
  tag   : Bytes
  deriving DecidableEq, Repr

/-- Who accesses the register window, and how (12 R337, R341): a CSPI write frame, a CSPI read frame of some bytes, an NSP
datagram that reads or writes as its OP says. -/
inductive Access where
  | cspi
  | cspiRead (len : Nat)
  | nsp (h : NspHead)
  deriving DecidableEq, Repr

/-! ### The vital cycle -/

/-- One connection of a vote form (05 R150): its number and payload, the reserved half of its directory entry and the
bytes that pad the payload to a multiple of 8 where they are not zeros. -/
structure FormConn where
  conn    : Nat
  payload : Bytes
  dirHigh : Nat := 0
  pad     : Bytes := []
  deriving DecidableEq, Repr

/-- A lane's vote form (05 R150), VFLANE apart. Reserved fields are carried too: `resvHead` is 0x006, `driveHigh` bits
63 to 48 of DRIVE, `resv` the bytes 0x028 to 0x03F, `resvDir` 0x43C. -/
structure VoteForm where
  mode   : Nat
  bank   : Nat
  flags  : Nat
  nconn  : Nat
  cyc    : Nat
  img    : Nat
  digest : Nat
  drive  : CellMask
  resv   : Nat
  conns  : List FormConn
  resvHead  : Nat := 0
  driveHigh : Nat := 0
  resvDir   : Nat := 0
  deriving DecidableEq, Repr

/-- The exchange trailer (05 R153): tick count, computation time of the previous executed cycle, the lane's view of the
three lane states in their codes, and DIGPART0 to DIGPART7. -/
structure Trailer where
  ticks    : Nat
  comp     : Nat
  view     : Trio Nat
  digparts : List Nat
  deriving DecidableEq, Repr

/-- What one lane sends in the exchange (05 R153 to R155): no form, the form the lane's own correct computation gives, or
some other form with its trailer, and whether what differs in its DIGEST is TBLCHK (03 R112); with its arrival stamp and
the lanes at which it arrived incomplete or with an illegal code, where it counts as missing. -/
inductive FormIn where
  | missing
  | own (stamp : Nat) (lost : List Lane)
  | sent (stamp : Nat) (form : VoteForm) (trailer : Trailer) (tables : Bool) (lost : List Lane)
  deriving DecidableEq, Repr

/-- A token of a core pair over address, data and control: 16 slices of 8 bits (05 R141, R143). -/
abbrev CoreTok := BitVec 128

/-- One handshake of a lane's core pair (05 R141): the input token, and the tokens of core 0 and core 1. -/
structure Handshake where
  lane  : Lane
  input : Option CoreTok
  core0 : Option CoreTok
  core1 : Option CoreTok
  deriving DecidableEq, Repr

/-- A transfer a lane issues to the span bridge (13 R374). -/
inductive BridgeOp where
  | read (len : Nat)
  | write (data : Bytes)
  deriving DecidableEq, Repr

structure LaneTransfer where
  win : Nat
  off : Nat
  op  : BridgeOp
  deriving DecidableEq, Repr

/-- What the world gives at a due mark that starts a cycle: the µs within the ms of OT, each lane's tick
count since the last start in units of 0.1 µs (01 R33), what each lane's comparator reports of the 17 test tokens
where that is not what the tokens give (05 R144: for each token the slices reported), and whether an illegal lane C code
is found in the Trellis pass (03 R110), and whether function-block code of a lane stores to a live STG field in the cycle
(11 R311). -/
structure StartEnv where
  us        : Nat
  ticks     : Trio Nat
  cmp       : Trio (Option (List (List Nat)))
  trellisBad : Bool
  stores    : Trio Bool
  deriving DecidableEq, Repr

/-- Outcome of a resynchronisation copy (05 R166): whether each half matched the other donor's check
value and the whole the voted DIGEST. -/
structure CopyResult where
  half1 : Bool
  half2 : Bool
  whole : Bool
  deriving DecidableEq, Repr

/-- Kinds of cache error (05 R142). -/
inductive CacheErr where
  | corrected | uncorrectable | parity
  deriving DecidableEq, Repr

/-- A cache error and the core whose cache it is: `true` for core 1 (05 R142). -/
structure CacheEvent where
  core : Bool
  err  : CacheErr
  deriving DecidableEq, Repr

/-- What the background scan found, and in which half of the lane's memory (10 R307, 05 R176). -/
structure ScrubEvent where
  upper     : Bool
  corrected : Bool
  deriving DecidableEq, Repr

/-- A slot mark: OT in µs, and what the lane's timebase has counted since the start of the present slot, in ticks of 0.1 µs
(06 R185). -/
structure SlotStamp where
  us    : Nat
  ticks : Nat
  deriving DecidableEq, Repr

/-- Who waited for the fabric (01 R21). -/
inductive FabricUser where
  | service (mb : Nat)
  | selfTest
  deriving DecidableEq, Repr

/-! ### Outputs -/

/-- The three conducting paths of an output switch (07 R204). -/
inductive Path where
  | ab | bc | ca
  deriving DecidableEq, Repr

/-- A midpoint comparator's reading (07 R205). -/
inductive Mid where
  | low | mid | high
  deriving DecidableEq, Repr

structure Paths (α : Type) where
  ab : α
  bc : α
  ca : α
  deriving DecidableEq, Repr

def Paths.get {α : Type} (p : Paths α) : Path → α
  | .ab => p.ab
  | .bc => p.bc
  | .ca => p.ca

/-- Causes of an overload trip (07 R211). -/
inductive Overload where
  | limitOutside | limitInside | overload
  deriving DecidableEq, Repr

/-! ### Pairs -/

/-- The health report (09 R268). -/
structure Health where
  pstate   : Nat
  flags    : BitVec 8
  epoch    : Nat
  inStep   : Nat
  lstat    : Nat
  pcyc     : Nat
  msdig    : Nat
  outdig   : Nat
  imgid    : Nat
  setchk   : Nat
  compt    : Nat
  faultsum : Nat
  mirabort : Nat
  modstate : Nat
  mode     : Nat
  holdoff  : Nat
  deriving DecidableEq, Repr

/-- One slot of a manifest (09 R270). -/
structure ManifestSlot where
  conn  : Nat
  prod  : Bool
  net   : Net
  seq   : Nat
  alive : Nat
  isNew : Bool
  deriving DecidableEq, Repr

/-- Operations and force commands as they travel to the lanes (12 R359, 09 R271, 11 R333). -/
inductive OpKind where
  | routeSet (route : Nat)
  | routeCancel (route : Nat)
  | autoSet (route : Nat) (on : Bool)
  | trigArm (route : Nat)
  | keyRelease (elem : Nat)
  | emergRelease (route : Nat)
  | axleArm (elem : Nat)
  | axleReset (elem : Nat)
  deriving DecidableEq, Repr

/-- Who gave a command: session, credential, TAG and CMD; `here` is false for a command the partner
accepted and forwarded (09 R271). -/
structure CmdRef where
  session : Nat
  cred    : Nat
  tag     : Nat
  cmd     : Nat
  here    : Bool
  deriving DecidableEq, Repr

/-- An operations command, with the command sequence number that the pacer gave it; 0 before (09 R271). -/
structure OpCmd where
  ref    : CmdRef
  kind   : OpKind
  cmdseq : Nat := 0
  deriving DecidableEq, Repr

/-- One force change (11 R331, R333). -/
structure ForceCmd where
  ref   : CmdRef
  set   : Bool
  fkind : Nat
  fpos  : Nat
  fid   : Nat
  deriving DecidableEq, Repr

/-- PSTART (09 R265): pair cycle, the pacer's OTS, the manifest, the command list, an apply listed by its
STGID, and whether a level switch is listed (16 R444). -/
structure PStart where
  pcyc     : Nat
  ots      : Nat
  manifest : List ManifestSlot
  ops      : List OpCmd
  forces   : List ForceCmd
  apply    : Option Nat
  switch   : Bool
  crcOk    : Bool
  deriving DecidableEq, Repr

/-- CMDFWD (09 R265, R271, 11 R322, 16 R444). -/
inductive CmdFwd where
  | op (c : OpCmd)
  | force (c : ForceCmd)
  | apply (stgid : Nat)
  | levelReady
  deriving DecidableEq, Repr

/-- CMDFWD as it arrives, its check value right or not (09 R265). -/
structure CmdFwdMsg where
  crcOk : Bool
  cmd   : CmdFwd
  deriving DecidableEq, Repr

/-- Kinds of SFP+ optic (18 R473). -/
inductive Optic where
  | sr | lr | other
  deriving DecidableEq, Repr

/-! ### Declared data records (02, 03, 08) that commands and the mirror set carry -/

structure PointBody where
  posdet : Nat
  poscmd : Nat
  movest : Nat
  trailWired : Bool
  keyWired : Bool
  movepre : Nat
  posreq : Nat
  moveelap : Nat
  deriving DecidableEq, Repr

structure SlipBody where
  membera : Nat
  memberb : Nat
  routdet : Nat
  forbid : Nat
  deriving DecidableEq, Repr

structure SignalBody where
  aspreq : Nat
  aspshown : Nat
  indreq : Nat
  route : Nat
  provpre : Nat
  provelap : Nat
  deriving DecidableEq, Repr

structure TcBody where
  occ : Nat
  clrpre : Nat
  clrelap : Nat
  deriving DecidableEq, Repr

structure AcBody where
  occ : Nat
  rststate : Nat
  rstpre : Nat
  rstelap : Nat
  rstseq : Nat
  clrpre : Nat
  clrelap : Nat
  deriving DecidableEq, Repr

structure LxBody where
  lxstate : Nat
  closepre : Nat
  closeelap : Nat
  opendly : Nat
  openelap : Nat
  deriving DecidableEq, Repr

structure BlkBody where
  blkstate : Nat
  dirwant : Nat
  nbraddr : Nat
  dirpre : Nat
  linesec : Nat
  direlap : Nat
  deriving DecidableEq, Repr

structure KeyBody where
  klstate : Nat
  relreq : Nat
  arearoute : Nat
  deriving DecidableEq, Repr

structure AreaBody where
  sastate : Nat
  arearoute : Nat
  deriving DecidableEq, Repr

structure GvarBody where
  value : Nat
  default : Nat
  width : Nat
  gdir : Nat
  deriving DecidableEq, Repr

structure DriveBody where
  cmdconn : Nat
  cmdslot : Nat
  rptconn : Nat
  rptslot : Nat
  cmdword : Nat
  rptword : Nat
  nin : Nat
  deriving DecidableEq, Repr

/-- The body of an element record, by type (02 R49 to R69). -/
inductive Body where
  | point (b : PointBody)
  | sslip (b : SlipBody)
  | dslip (b : SlipBody)
  | signal (b : SignalBody)
  | tcsec (b : TcBody)
  | acsec (b : AcBody)
  | lxing (b : LxBody)
  | blockif (b : BlkBody)
  | keylock (b : KeyBody)
  | shuntarea (b : AreaBody)
  | gvar (b : GvarBody)
  | ptdrive (b : DriveBody)
  deriving DecidableEq, Repr

/-- Working facts of an element that the rules need from one executed cycle to the next and no record
field names (02 R54, R58, R62, R64, R66, R70, R71): whether the source was valid at the last executed
cycle, edges barred, the aspect tolerated after a change, the position last held, whether POSDET has been
0 since fault 0x0010, the sweep's falling edge seen, the sweep done, DIRREQ barred, a condition that held
for the last full cycle, and the reference of the command in hand. -/
structure ElemWork where
  validPrev   : Bool
  noEdge      : Bool
  edges       : Bool
  tolAspect   : Nat
  tolInd      : Bool
  lastPos     : Nat
  seenZero    : Bool
  sweepFell   : Bool
  swept       : Bool
  dirBarred   : Bool
  clearPrev   : BitVec 8
  holdPrev    : Bool
  withdrawn   : Bool
  ref         : Option CmdRef
  deriving DecidableEq, Repr

/-- An element record (02 R45) with its number. HSTAT is held as its four causes; AVAIL is derived. -/
structure Elem where
  num      : Nat
  instid   : Nat
  hedged   : Bool
  undertest : Bool
  forceblk : Bool
  lockcnt  : Nat
  claimcnt : Nat
  curin    : BitVec 16
  previn   : BitVec 16
  outcmd   : BitVec 16
  fltheld  : BitVec 16
  fltcode  : Nat
  body     : Body
  work     : ElemWork
  deriving DecidableEq, Repr

/-- The eight bits of RFLAGS (03 R77). -/
structure RFlags where
  admitted : Bool
  cancel   : Bool
  autoon   : Bool
  trigarm  : Bool
  blocked  : Bool
  condlost : Bool
  clrseen  : Bool
  erl      : Bool
  deriving DecidableEq, Repr

/-- A route cell record (03 R77), with the commands that wait for its outcome. -/
structure RouteCell where
  rstate   : Nat
  flags    : RFlags
  origin   : Nat
  lastfail : Nat
  reqseq   : Nat
  cmdseq   : Nat
  failelem : Nat
  reldone  : Nat
  relocc   : BitVec 16
  ovlused  : Nat
  stelap   : Nat
  alelap   : Nat
  olelap   : Nat
  subs     : List Nat
  ref      : Option CmdRef
  cancels  : List (CmdRef × Nat)
  deriving DecidableEq, Repr

/-- The Trellis status record (03 R111). -/
structure TrellisRec where
  nextseq : Nat
  nwait : Nat
  neval : Nat
  tblslice : Nat
  tblchk : Nat
  notentered : Nat
  deriving DecidableEq, Repr

/-- A send record (02 R74). -/
structure SendRec where
  conn : Nat
  sseq : Nat
  salive : Nat
  deriving DecidableEq, Repr

/-- A receive record (08 R246). -/
structure RecvRec where
  conn : Nat
  cstate : Nat
  cusedp : Nat
  lastepoch : Nat
  lastseq : Nat
  arrival : Nat
  lastot : Duo Nat
  base : Duo Int
  lastalive : Duo Nat
  serial : Duo Nat
  estseq : Nat
  payload : Bytes
  deriving DecidableEq, Repr

/-- A force table entry (11 R331). -/
structure ForceEntry where
  fkind : Nat
  fpos : Nat
  fnum : Nat
  fid : Nat
  fcred : Nat
  ftype : Nat
  deriving DecidableEq, Repr

/-- A pending first step of a two-step command (12 R357). -/
structure FirstStep where
  session : Nat
  cmd : Nat
  body : Bytes
  code : Nat
  givenAt : Nat
  deriving DecidableEq, Repr

/-- One item of a mirror set block (09 R273, parts 1 to 7). A command not completed stands at its route, or at its element. -/
inductive MirrorItem where
  | header (pcyc epoch imgid setchk bank : Nat)
  | route (n : Nat) (c : RouteCell)
  | trellis (t : TrellisRec)
  | element (e : Elem)
  | send (r : SendRec)
  | recv (r : RecvRec)
  | cmdseq (next : Nat)
  | routeCmd (n : Nat) (ref : CmdRef) (cmdseq : Nat)
  | cancelCmd (n : Nat) (ref : CmdRef) (cmdseq : Nat)
  | elemCmd (n : Nat) (ref : CmdRef)
  | requests (elems : List (Nat × Nat × Bool)) (autos : List (Nat × Nat))
  | step (f : FirstStep)
  | force (i : Nat) (f : ForceEntry)
  | fbData (off : Nat) (b : Bytes)
  deriving DecidableEq, Repr

/-- MBLOCK (09 R265). -/
structure MBlock where
  pcyc  : Nat
  index : Nat
  crcOk : Bool
  items : List MirrorItem
  deriving DecidableEq, Repr

/-- MCLOSE (09 R265). -/
structure MClose where
  pcyc   : Nat
  blocks : Nat
  msdig  : Nat
  crcOk  : Bool
  deriving DecidableEq, Repr

/-! ### Start-up, self-test, update -/

/-- The ports on which the IEEE 1588 slave listens (14 R388). -/
inductive PtpPort where
  | svc
  | a
  | b
  deriving DecidableEq, Repr

/-- The master of a sync message: its port, its identity, its data set as the best master clock algorithm orders it (the
lower is the better), and its time in ms (14 R388). -/
structure PtpMaster where
  port  : PtpPort
  ident : BitVec 64
  rank  : Nat
  ms    : Nat
  deriving DecidableEq, Repr

/-- The address plug as read (17 R459). -/
structure Plug where
  adr   : BitVec 10
  par0  : Bool
  par1  : Bool
  deriving DecidableEq, Repr

/-- What a boot finds: the plug, whether the seal loop is intact, whether the button is pressed, whether
every junction lies in the boot range (17 R457 to R464, 15 R428). -/
structure BootEnv where
  plug     : Plug
  loopOk   : Bool
  pressed  : Bool
  tempOk   : Bool
  deriving DecidableEq, Repr

/-- The quantities of the self-test preconditions (15 R412): lane, commons and service supplies and FSV in
mV, oscillator offset in 0.01 ppm. -/
structure Quantities where
  lanes   : Trio Nat
  commons : Nat
  service : Nat
  fsv     : List Nat
  deriving DecidableEq, Repr

/-- The logs (14 R391, kind 0x0D). -/
inductive Log where
  | fault | event | archive | change
  deriving DecidableEq, Repr

/-- Why a restart is made (17 R457, R466). -/
inductive RestartKind where
  | warm | cold
  deriving DecidableEq, Repr

/-- How a legacy frame ended (13 R377). -/
inductive LegacyEnd where
  | good | bad
  deriving DecidableEq, Repr

/-- The commands: one constructor for each row of spec/opcode_table.json, in its order. -/
inductive Instr where
  -- mailbox commands (12 R358): the SP takes the request POSTED in mailbox mb
  | openSession (mb : Nat)
  | auth (mb : Nat)
  | close (mb : Nat)
  | sessionList (mb : Nat)
  | credAdd (mb : Nat)
  | credRevoke (mb : Nat)
  | credList (mb : Nat)
  | identity (mb : Nat)
  | cycleStatus (mb : Nat)
  | laneStatus (mb : Nat)
  | inputStatus (mb : Nat)
  | outputStatus (mb : Nat)
  | connStatus (mb : Nat)
  | elementRead (mb : Nat)
  | routeRead (mb : Nat)
  | trellisStatus (mb : Nat)
  | routeIdent (mb : Nat)
  | lcTransition (mb : Nat)
  | mode (mb : Nat)
  | restart (mb : Nat)
  | maint (mb : Nat)
  | stageOpen (mb : Nat)
  | stageWrite (mb : Nat)
  | stageRead (mb : Nat)
  | stageDiscard (mb : Nat)
  | stageCheck (mb : Nat)
  | stageApply (mb : Nat)
  | stageStatus (mb : Nat)
  | connKey (mb : Nat)
  | imageInfo (mb : Nat)
  | activate (mb : Nat)
  | updOpen (mb : Nat)
  | updData (mb : Nat)
  | updVerify (mb : Nat)
  | updActivate (mb : Nat)
  | updAbort (mb : Nat)
  | updStatus (mb : Nat)
  | recOpen (mb : Nat)
  | recNext (mb : Nat)
  | recClose (mb : Nat)
  | recCounters (mb : Nat)
  | testRun (mb : Nat)
  | testList (mb : Nat)
  | testAbort (mb : Nat)
  | hedgeRelease (mb : Nat)
  | faultStatus (mb : Nat)
  | escBounds (mb : Nat)
  | hedgeList (mb : Nat)
  | routeSet (mb : Nat)
  | routeCancel (mb : Nat)
  | autoSet (mb : Nat)
  | trigArm (mb : Nat)
  | keyRelease (mb : Nat)
  | emergRelease (mb : Nat)
  | axleReset (mb : Nat)
  | timeGet (mb : Nat)
  | timeSet (mb : Nat)
  | timeSource (mb : Nat)
  | pairStatus (mb : Nat)
  | handover (mb : Nat)
  | coldAssume (mb : Nat)
  | sbStatus (mb : Nat)
  | sbErrlog (mb : Nat)
  | sbErrclr (mb : Nat)
  | windowSet (mb : Nat)
  | tunnelSet (mb : Nat)
  | tunnelStatus (mb : Nat)
  | forceSet (mb : Nat)
  | forceClear (mb : Nat)
  | forceList (mb : Nat)
  -- register window writes (12 R337 to R349)
  | mailboxClaim (acc : Access) (mb : Nat) (ownkey : Nat)
  | mailboxRelease (acc : Access) (mb : Nat)
  | doorbellRing (acc : Access) (mb : Nat) (tag : Nat)
  | doorbellAck (acc : Access) (mb : Nat)
  | registerWrite (acc : Access) (addr : Nat) (data : Bytes)
  -- mailbox and session timeouts
  | commandResponseTimeout (mb : Nat)
  | mailboxAgeTimeout (mb : Nat)
  | sessionIdleTimeout (session : Nat)
  | authTimeout
  -- the vital cycle (01, 04)
  | dueMark (lane : Lane) (env : StartEnv)
  | overrunLimit
  | exchangeClose (forms : Trio FormIn) (issued : Trio (List LaneTransfer)) (comp : Trio Nat)
      (done : Trio Bool)
  | telegramRelease (conn : Nat) (sc1 sc2 : Option Nat) (comp : Trio Nat) (done : Trio Bool)
  | safetyCodeFailLimit
  | mcloseSend
  | resyncCopy (lane : Lane) (r : CopyResult)
  | resyncRetry (lane : Lane)
  | rejoin (lane : Lane)
  -- lanes (05)
  | comparatorMismatch (x : Handshake)
  | arbitrationSelfTestDone (lane : Lane) (core0 core1 cmp : Bool)
  | arbitrationSelfTestTimeout (lane : Lane)
  | restartCheckDone (lane : Lane) (cmpOk bankOk : Bool)
  | progressTimeout (lane : Lane)
  | laneStall (lane : Lane)
  | illegalDualRailCode (region block : Nat)
  | cacheError (lane : Lane) (kind : CacheEvent)
  | memoryScrubError (lane : Lane) (found : ScrubEvent)
  | laneSupplyLoss (lane : Lane)
  | laneSupplyReturn (lane : Lane)
  | commonsSupplyLoss
  | serviceSupplyLoss
  | serviceRegionReturn
  | timebaseTrim (offs : Trio (Option Int))
  | tokenOverrun
  | tokenRegenerate
  | fabricGrantTimeout (user : FabricUser)
  -- faults (10)
  | faultEventCollected (fsid : Fsid)
  | escalation (fsid : Fsid)
  | escalationWindowExpiry (fsid : Fsid)
  | laneLatchOut (lane : Lane)
  | safeCountLimit
  | eventAck (lane : Lane) (seq : Nat)
  | graceExpiry (seq : Nat)
  | settleWindowEnd (block : Nat) (pass : Bool)
  | mfSelfCheck (agree illegal : Bool) (conducting : Trio Bool)
  | duoLimit
  | holdLimit (lane : Lane)
  -- element and route timers (02, 03)
  | moveTimeLimit (elem : Nat)
  | provingTime (elem : Nat)
  | clearingDelay (elem : Nat)
  | resetStepLimit (elem : Nat)
  | closeTimeLimit (elem : Nat)
  | openDelay (elem : Nat)
  | directionExchangeLimit (elem : Nat)
  | settingTimeLimit (route : Nat)
  | requestLifetime (route : Nat)
  | approachReleaseTimer (route : Nat)
  | overlapReleaseTimer (route : Nat)
  | releasingTimeout (route : Nat)
  -- inputs (06)
  | slotMark (lane : Lane) (stamp : SlotStamp)
  | testPulseStart (cell : Nat) (on : Trio CellMask)
  | testPulseEnd (cell : Nat) (dropped : Trio Bool)
  | pulseWindowEnd (slot : Nat) (dropped recovered nextOn : Trio CellMask) (sxFell sxBack : Bool)
  | sxCurrentLimit (cell : Nat)
  | inputFilterChange (lane : Lane) (cell : Nat) (samples : List Bool)
  | channelDisagreement (lane : Lane) (cell : Nat)
  | discrepancyFault (lane : Lane) (cell : Nat)
  | bankSupplyTrip (bank : Nat) (high : Bool)
  | bankSupplyRecover (bank : Nat)
  -- outputs (07)
  | roundMark (lane : Lane)
  | testNotCompleted (cell : Nat) (lane : Lane)
  | testPosition (bank : Nat) (midOk : Bool)
  | darkStepEnd (bank : Nat) (current : Paths Bool)
  | lightStepEnd (bank : Nat) (mids : Paths Mid) (current : Paths Bool) (pxOn : Bool)
  | midpointStuck (cell : Nat) (path : Path) (high : Bool)
  | pathCurrentWithdrawn (cell : Nat) (path : Path)
  | readbackFault (lane : Lane) (cell : Nat) (samples : List Bool)
  | externalVoltage (cell : Nat)
  | overloadTrip (cell : Nat) (cause : Overload)
  | clampOvertemp (cell : Nat)
  | bankOvercurrent (bank : Nat)
  | feedbackMismatch (lane : Lane) (cell : Nat)
  -- telegrams and rings (08)
  | frameReceived (net : Net) (f : Frame) (us : Nat)
  | skewExpiry (conn : Nat) (peer2 : Bool)
  | oneNetworkSilent (conn : Nat)
  | ringtestSend (net : Net)
  | ringtestReceived (net : Net) (port2 : Bool) (f : Frame)
  | ringBreak (net : Net)
  | ringClose (net : Net)
  -- pairs (09)
  | pstartReceived (m : PStart) (us : Nat)
  | mblockReceived (m : MBlock)
  | mcloseReceived (m : MClose)
  | preportReceived (crcOk : Bool) (h : Health)
  | cmdfwdReceived (m : CmdFwdMsg)
  | heartbeatReceived (net : Net) (f : Frame)
  | plLinkLoss (link2 : Bool)
  | opticInserted (link2 : Bool) (kind : Optic)
  | partnerSilent
  | inStep
  | leadClaimConflict
  | joinWaitExpiry
  | revertHoldOff
  | pairApplyTimeout
  -- span bridge and tunnels (13)
  | sbWrite (win off : Nat) (data : Bytes)
  | sbRead (win off len : Nat)
  | sbPostedWrite (win off : Nat) (data : Bytes)
  | bridgeFrameReceived (net : Net) (f : Frame)
  | sbTransferTimeout (seq : Nat)
  | sbBusyRetry (seq : Nat)
  | sbHeldResultExpiry (vk : Bool) (win off len : Nat)
  | legacyFrameReceived (port : Nat) (data : Bytes) (ending : LegacyEnd)
  | tunnelFrameReceived (net : Net) (f : Frame)
  | legacyTransmit (tunnel : Nat)
  | tunnelKeepalive (tunnel : Nat)
  | tunnelDown (tunnel : Nat)
  -- records and time (14)
  | otCheckpoint
  | otShadowWrite
  | archiveWindowEnd
  | coalescingWindowEnd (kind source : Nat)
  | dropRecord
  | logSegmentFailure (log : Log) (segment : Nat)
  | ptpSync (offsetUs : Int) (master : PtpMaster)
  | ptpUnlock
  -- staged changes and update (11, 16)
  | stageCheckDone (differs : Trio Bool)
  | updVerifyDone
  | updateSessionTimeout
  | laneTurn (lane : Lane)
  | kernelLoadDone (lane : Lane)
  | levelSwitch
  | imageConfirmed
  -- self-test and tamper (15)
  | testComplete (codes : List Nat)
  | preconditionCheck (q : Quantities)
  | oscillatorMeasurement (offset : Int)
  | tamperSwitchOpen
  | sealLoopCheck (intact : Bool)
  -- power, boot, temperature, button (17)
  | powerFailWarning
  | powerReturn
  | powerUp (env : BootEnv) (kaFed : Bool) (offMs : Nat)
  | bootRestart (kind : RestartKind) (env : BootEnv)
  | laneBootSelfTestDone (lane : Lane) (pass : Bool)
  | syncTimeout
  | inputLoss (second : Bool)
  | inputRestored (second : Bool)
  | addressPlugPoll (plug : Plug)
  | thermalWarning
  | thermalTrip
  | resetButtonRelease (ms : Nat)
  | resetButtonStuck
  | buttonContactDisagree
  | buttonReenable
  | unpoweredEnclosureOpening
  | bootSelfTestTimeout (lane : Lane)
  | postActivationTimeout
  | thermalWarningCleared
  | bootTemperatureInRange
  -- windows, links and switches
  | withdrawalWindowExpiry (lane : Lane)
  | safeCountWindowExpiry
  | plLinkReturn (link2 : Bool)
  | ethernetLinkChange (net : Net) (port2 : Bool) (up : Bool)
  | switchForwarding (net : Net) (port2 : Bool) (f : Frame)
  | learnedAddressAgeing (net : Net) (mac : Nat)
  deriving DecidableEq, Repr

end Sys2Proof
end

