-- ==== Sys2Proof/Machine/Bytes.lean ====
section
/-! DEFINITION. Bytes and check values: little-endian fields (00 R8), slices and patches of byte strings,
CRC-32C and the CRC-64 of ECMA-182 (05 R152). -/

namespace Sys2Proof.Machine

/-- v as n bytes, least significant first; higher bits are dropped. -/
def le : Nat → Nat → Bytes
  | 0, _ => []
  | n + 1, v => BitVec.ofNat 8 v :: le n (v / 256)

/-- The number that a byte string spells, least significant byte first. -/
def ofLe : Bytes → Nat
  | [] => 0
  | b :: bs => b.toNat + 256 * ofLe bs

/-- n bytes that read 0. -/
def zeros (n : Nat) : Bytes := List.replicate n 0

/-- b cut or filled with zeros to n bytes. -/
def padTo (n : Nat) (b : Bytes) : Bytes := (b ++ zeros (n - b.length)).take n

/-- n bytes of b from off; bytes beyond the end read 0. -/
def slice (b : Bytes) (off n : Nat) : Bytes := padTo n (b.drop off)

/-- The little-endian field of n bytes at off. -/
def rd (b : Bytes) (off n : Nat) : Nat := ofLe (slice b off n)

/-- b with the bytes v written at off. -/
def patch (b : Bytes) (off : Nat) (v : Bytes) : Bytes :=
  padTo off b ++ v ++ b.drop (off + v.length)

/-- Are all n bytes from off zero? -/
def zeroAt (b : Bytes) (off n : Nat) : Bool := rd b off n == 0

def b2n (b : Bool) : Nat := if b then 1 else 0

/-- A little-endian number as a big-endian string of n bytes. -/
def bigE (n v : Nat) : Bytes := (le n v).reverse

/-- v + 1, saturating at the largest n-bit number (00 R8). -/
def satInc (n v : Nat) : Nat := if v + 1 < 2 ^ n then v + 1 else v

/-- v + k, saturating at the largest n-bit number. -/
def satAdd (n v k : Nat) : Nat := if v + k < 2 ^ n then v + k else 2 ^ n - 1

/-- v + 1, wrapping at n bits. -/
def wrapInc (n v : Nat) : Nat := (v + 1) % 2 ^ n

/-- Serial order (R88): a comes after b in n-bit serial numbers. -/
def serialAfter (n a b : Nat) : Bool :=
  let d := (a + 2 ^ n - b % 2 ^ n) % 2 ^ n
  0 < d && d < 2 ^ (n - 1)

/-- One byte into CRC-32C, reflected. -/
def crc32cByte (c : BitVec 32) (b : Byte) : BitVec 32 :=
  (List.range 8).foldl (fun c _ =>
    if c.getLsbD 0 then (c >>> 1) ^^^ 0x82F63B78#32 else c >>> 1) (c ^^^ b.zeroExtend 32)

/-- CRC-32C of a byte string. -/
def crc32c (b : Bytes) : Nat := (~~~(b.foldl crc32cByte 0xFFFFFFFF#32)).toNat

/-- One byte into the CRC-64 of ECMA-182, not reflected. -/
def crc64Byte (c : BitVec 64) (b : Byte) : BitVec 64 :=
  (List.range 8).foldl (fun c _ =>
    if c.getLsbD 63 then (c <<< 1) ^^^ 0x42F0E1EBA9EA3693#64 else c <<< 1) (c ^^^ (b.zeroExtend 64 <<< 56))

/-- The state digest's CRC-64 (05 R152): from all ones, inverted at the end. -/
def crc64 (b : Bytes) : Nat := (~~~(b.foldl crc64Byte 0xFFFFFFFFFFFFFFFF#64)).toNat

/-- A value reflected over n bits. -/
def reflectBits : Nat → Nat → Nat
  | 0, _ => 0
  | n + 1, v => (v % 2) * 2 ^ n + reflectBits n (v / 2)

/-- A 32-bit check value with the parameters of R236: polynomial, initial value, final XOR, reflect in and out. -/
def crc32With (poly init xor : Nat) (refIn refOut : Bool) (b : Bytes) : Nat :=
  let stepByte (c : BitVec 32) (x : Byte) : BitVec 32 :=
    let x := if refIn then BitVec.ofNat 8 (reflectBits 8 x.toNat) else x
    (List.range 8).foldl (fun c _ =>
      if c.getLsbD 31 then (c <<< 1) ^^^ BitVec.ofNat 32 poly else c <<< 1) (c ^^^ (x.zeroExtend 32 <<< 24))
  let r := b.foldl stepByte (BitVec.ofNat 32 init)
  let r := if refOut then BitVec.ofNat 32 (reflectBits 32 r.toNat) else r
  (r ^^^ BitVec.ofNat 32 xor).toNat

/-- The bit string of a list of numbers taken as set bits. -/
def maskOf (w : Nat) (l : List Nat) : BitVec w := l.foldl (fun m i => m ||| (1#w <<< i)) 0

/-- xs with the element at i replaced through f; unchanged beyond the end. -/
def modAt {α : Type} (f : α → α) : Nat → List α → List α
  | _, [] => []
  | 0, x :: xs => f x :: xs
  | n + 1, x :: xs => x :: modAt f n xs

/-- The elements that satisfy p, changed through f. -/
def modWhere {α : Type} (p : α → Bool) (f : α → α) (xs : List α) : List α :=
  xs.map fun x => if p x then f x else x

end Sys2Proof.Machine
end

