-- ==== Sys2Proof/Config.lean ====
section
/-! DEFINITION. What an implementation or an image fixes: the types of an application image as the lanes
use it, the live settings, the constants the manual gives, and the functions and values the manual leaves
open, which are opaque (no proof can see their value). -/

namespace Sys2Proof

/-! ### The application image (02, 03, 11) -/

/-- An element table entry (02 R41). -/
structure ElemEntry where
  num      : Nat
  typ      : Nat
  srclocal : Bool
  dstlocal : Bool
  paired   : Bool
  group    : Nat
  instid   : Nat
  idoff    : Nat
  srcconn  : Nat
  srcpos   : Nat
  dstconn  : Nat
  dstpos   : Nat
  body     : Body
  deriving DecidableEq, Repr

/-- An element reference (03 R83): element number and its code from *Element codes*. -/
structure ElemRef where
  elem : Nat
  code : Nat
  deriving DecidableEq, Repr

/-- A release group record with its elements (03 R83). -/
structure RelGroup where
  gsec  : Nat
  elems : List Nat
  deriving DecidableEq, Repr

/-- A route table entry (03 R81) with its vectors (R82) in canonical form, listing what they name, its
release groups, and the identity the image gives the route (11 R327). -/
structure RouteEntry where
  cls      : Nat
  auto     : Bool
  trig     : Bool
  almode   : Nat
  area     : Bool
  ind      : Bool
  prio     : Nat
  entrysig : Nat
  nextsig  : Nat
  ovl      : Nat
  altovl   : Nat
  setpre   : Nat
  alpre    : Nat
  reqpre   : Nat
  appr     : List Nat
  trigsec  : Nat
  owner    : Nat
  req      : List ElemRef
  flank    : List ElemRef
  groups   : List RelGroup
  conflicts : List Nat
  rid      : Nat
  rchk     : Nat
  deriving DecidableEq, Repr

/-- An overlap table entry (03 R83). -/
structure Overlap where
  olrel : Nat
  elems : List ElemRef
  deriving DecidableEq, Repr

/-- A substitute table entry (03 R83). -/
structure Subst where
  flankpt : Nat
  elems   : List ElemRef
  deriving DecidableEq, Repr

/-- A transfer rule of the image for one instance (11 R330): fields copied, fields set to constants, field
values mapped through a table, each by byte offset and length in the record. -/
structure TransferRule where
  instid : Nat
  copies : List (Nat × Nat × Nat)
  consts : List (Nat × Bytes)
  maps   : List (Nat × Nat × Nat × List (Nat × Nat))
  deriving DecidableEq, Repr

/-- An instance of an optional function block: instance ID, type, layout, the data that the image gives it (02 R74, 11
R329). -/
structure FbInst where
  instid : Nat
  typ    : Nat
  layout : Nat
  data   : Bytes
  deriving DecidableEq, Repr

/-! ### Live settings: the STG fields (11 R310) -/

/-- A cell's 8-byte configuration record (06 R180, 07 R209). -/
structure CellCfg where
  cmode  : Nat
  flags  : BitVec 8
  tfilt  : Nat
  ogroup : Nat
  td     : Nat
  deriving DecidableEq, Repr

/-- A connection record (08 R239). -/
structure ConnCfg where
  num      : Nat
  cdir     : Nat
  cflags   : BitVec 8
  peer1    : Nat
  peer2    : Nat
  pconn    : Nat
  scset    : Nat
  key      : Nat
  len      : Nat
  tout     : Nat
  skew     : Nat
  alivewin : Nat
  dlymax   : Nat
  ipdst    : Nat
  deriving DecidableEq, Repr

/-- A check-value parameter set (08 R236). -/
structure CvSet where
  poly  : Nat
  init  : Nat
  xor   : Nat
  flags : BitVec 8
  deriving DecidableEq, Repr

/-- Network settings (08 R259), LINK apart. -/
structure NetCfg where
  ringmode : Nat
  etype    : Nat
  vidv     : Nat
  vido     : Nat
  ipaddr   : Nat
  netmask  : Nat
  gvtport  : Nat
  deriving DecidableEq, Repr

/-- Pair settings (09 R261). -/
structure PairCfg where
  prole    : Nat
  pflags   : BitVec 8
  paddr    : Nat
  revhold  : Nat
  psilent  : Nat
  joinwait : Nat
  pkey     : Nat
  deriving DecidableEq, Repr

/-- An escalation entry (10 R297). -/
structure EscEntry where
  index : Nat
  level : Nat
  block : Nat
  det   : Nat
  base  : Nat
  ceil  : Nat
  n     : Nat
  w     : Nat
  deriving DecidableEq, Repr

/-- The live settings (11 R310), element presets and forces apart. -/
structure Settings where
  tc      : Nat
  holdlim : Nat
  cells   : List CellCfg
  tframe  : Nat
  tpulse  : Nat
  conns   : List ConnCfg
  cvsets  : List CvSet
  mackeys : List (Nat × Bytes)
  nets    : Duo NetCfg
  pair    : PairCfg
  duolim  : Nat
  grace   : Nat
  esc     : List EscEntry
  deriving DecidableEq, Repr

/-- A section of an image bank as the header gives it (02 R38): its offset in the bank, its size, its check value. -/
structure Section where
  off   : Nat
  size  : Nat
  check : Nat
  deriving DecidableEq, Repr

/-- An application image as the lanes use it: header (02 R38), element table, Trellis tables, rules and defaults. `secs` are
each lane's bank sections in the order of R38: header, code, element table, Trellis tables, declared data, scratch;
`dataOff` the offsets of the six parts of declared data (02 R74); `tables` the Trellis tables in each lane's own encoding,
`tblcheck` the check value of their canonical form (03 R84); `parts` the partitions of the cores in split mode. -/
structure Image where
  imgid     : Nat
  role      : Nat
  split     : Bool
  level     : Nat
  tc        : Nat
  wcet      : Nat
  mirt      : Nat
  rsyt      : Nat
  grft      : Nat
  startmode : Nat
  secs      : Trio (List Section)
  dataOff   : List Nat
  tables    : Trio Bytes
  tblcheck  : Nat
  hasAuto   : Bool
  hasTrig   : Bool
  ents      : List ElemEntry
  routes    : List RouteEntry
  overlaps  : List Overlap
  substs    : List Subst
  rules     : List TransferRule
  tests     : List (Nat × Nat × Nat)
  fbs       : List FbInst
  parts     : List Bytes
  settings  : Settings
  deriving DecidableEq, Repr

/-- The data of the optional function blocks as the image gives it (02 R74). -/
def Image.fbData (img : Image) : Bytes := img.fbs.flatMap (·.data)

/-- A section of a lane's bank. -/
def Image.sec (img : Image) (l : Lane) (k : Nat) : Section := (img.secs.get l).getD k ⟨0, 0, 0⟩

/-- Header, code, element table and Trellis tables of a lane: they share 12 MiB (02 R38, R39). -/
def Image.codeSize (img : Image) (l : Lane) : Nat :=
  (img.sec l 0).size + (img.sec l 1).size + (img.sec l 2).size + (img.sec l 3).size

/-- Size of declared instance data, and of scratch: the same in every lane (02 R40). -/
def Image.dataSize (img : Image) : Nat := (img.sec .a 4).size
def Image.scratch (img : Image) (l : Lane) : Nat := (img.sec l 5).size

namespace Config

/-! ### Constants the manual gives -/

def nCells : Nat := 48
def nConns : Nat := 255
def maxElems : Nat := 4096
def maxRoutes : Nat := 2048
def maxOverlaps : Nat := 1024

/-! ### Values the manual leaves open -/

/-- The destination MAC address of a GVT carried by UDP, by its IPv4 address: the manual gives none (08 R230). (log 125, DESIGN CHOICE) -/
opaque udpMac : Nat → Nat

/-- Fresh random bits: session identifiers, challenges, keys, CONFCODE (12 R354, R357). (log 5, DESIGN CHOICE) -/
opaque freeValue : Nat → BitVec 64

/-- Detector number of an event that the manual gives a class and no detector number; the argument names the event. (log 6, DESIGN CHOICE) -/
opaque openDet : Nat → Nat

/-- Further inbound requests for which the n-th inbound transfer still holds its slot: the manual bounds its time alone
(13 R373). (log 128, DESIGN CHOICE) -/
opaque slotHold : Nat → Nat

/-- Phase correction of a non-pacer's lanes at a start that came so many µs after PSTART, before its limit of ±0.02 %
(09 R269). (log 129, DESIGN CHOICE) -/
opaque phaseTrim : Int → Int

/-- Class of an event to which the manual gives none; the argument names the event. (log 7, DESIGN CHOICE) -/
opaque openClass : Nat → Nat

/-- The core state record of a cycle (05 R145): the architectural state of core 0. (log 10, DESIGN CHOICE) -/
opaque coreRecord : Nat → List (BitVec 8)

/-- Where the lane identity register and the timebase counter register stand in the core state record. (log 10, DESIGN CHOICE) -/
opaque coreIdOff : Nat
opaque coreTbOff : Nat

/-- The core that a block of a split lane which serves both cores belongs to (05 R178), by block code. (log 117, DESIGN CHOICE) -/
opaque openCore : Nat → Bool

/-- The data of a core's own program after a cycle in split mode (05 R176): core 0 to 5, data, cycle. (log 104, DESIGN CHOICE) -/
opaque coreNext : Nat → Bytes → Nat → Bytes

/-- Declared data of the optional function blocks after a cycle (02 R38): the image's own code. (log 9, DESIGN CHOICE) -/
opaque fbNext : Bytes → Nat → Bytes

/-- A piece of function-block data, by its offset, with every permissive-expiry elapsed count in it set to 0 (09 R276): where
they stand is the image's own. (log 137, DESIGN CHOICE) -/
opaque fbRestart : Nat → Bytes → Bytes

/-- What the image's function blocks write into an internal or output GVAR (02 R67): element, cycle. -/
opaque gvarNext : Nat → Nat → Nat

/-- The layout of a Yarek image is the toolchain's own: what the lanes read from the image bytes. (log 9, DESIGN CHOICE) -/
opaque parseImage : List (BitVec 8) → Option Image

/-- AES-128 in CMAC mode (NIST SP 800-38B; 08 R238, 12 R340): key, message, 128-bit tag. (log 8, DESIGN CHOICE) -/
opaque cmac : List (BitVec 8) → List (BitVec 8) → BitVec 128

/-- SHA-384 (FIPS 180-4). -/
opaque sha384 : List (BitVec 8) → List (BitVec 8)

/-- ECDSA P-384 verification (FIPS 186-5): public key, digest, signature. -/
opaque ecdsaOk : List (BitVec 8) → List (BitVec 8) → List (BitVec 8) → Bool

/-- ECDH shared secret (NIST SP 800-56A): the module's ephemeral secret, the host's public key. -/
opaque ecdh : Nat → List (BitVec 8) → List (BitVec 8)

/-- The module's ephemeral public key of 97 bytes (12 R354, R358). -/
opaque modKey : Nat → List (BitVec 8)

end Config

end Sys2Proof
end

