-- ==== Sys2Proof/Machine/State.lean ====
section
/-! DEFINITION. The state of one WV4810 as plain data: everything the spec gives the module, the queue of
waiting commands, and the model's own counter of free values. A field's comment gives its width, its rule
and its value in State.reset; a star marks a value that the assumption log names
(log 12 the identity, 13 the nonvolatile store, 14 the settings, 15 the potting bench, 16 the rest; DESIGN CHOICE). -/

namespace Sys2Proof.Machine

/-! ### Codes -/

/-- Module states (17 R456), in the order of their codes. -/
inductive ModState where
  | boot | sync | rejoin | service | safe | terminal
  deriving DecidableEq, Repr

/-- Execution modes (04 R129). -/
inductive ExecMode where
  | run | stop | hold
  deriving DecidableEq, Repr

/-- Life-cycle states (15 R420), in the order of their codes. -/
inductive LcState where
  | blank | provisioned | commissioning | service | maintenance | quarantine | retired | bench
  deriving DecidableEq, Repr

/-- Lane states (05 R161). -/
inductive LaneState where
  | active | withdrawn | resync | split
  deriving DecidableEq, Repr

/-- Why a lane is not ACTIVE (05 R172, LHOLD). -/
inductive LHold where
  | none | checking | waiting | untilRestart | latchedOut
  deriving DecidableEq, Repr

/-- Pair states (09 R262). -/
inductive PairState where
  | unpaired | joining | followOut | followIn | lead | silent
  deriving DecidableEq, Repr

/-- Mailbox states (12 R346). -/
inductive MbState where
  | free | owned | posted | running | done
  deriving DecidableEq, Repr

/-- Cold frame states (11 R335). -/
inductive StgState where
  | empty | opened | checking | checked | applying
  deriving DecidableEq, Repr

/-- Where the executed cycle stands: no cycle open, waiting for the exchange to close, emitting. -/
inductive Phase where
  | idle | exchange | emit
  deriving DecidableEq, Repr

/-- Kinds of hedged item (10 R291, 12 HEDGE_LIST). -/
inductive HKind where
  | cell | conn | bank | net | block | group | cv
  deriving DecidableEq, Repr

/-- Traffic classes of a region's fabric, the highest first (01 R21). -/
inductive FabricClass where
  | vital | exchange | selfTest | service
  deriving DecidableEq, Repr

/-- Holders of the commons token (01 R22). -/
inductive Token where
  | la | lb | lc | sv
  deriving DecidableEq, Repr

/-! ### Identity, life cycle -/

/-- A credential (12 R356). -/
structure Cred where
  id : Nat
  role : Nat
  key : Bytes
  deriving DecidableEq, Repr

structure Ident where
  /-- PARTNO in ASCII [16 bytes; 12 R344; *"WV4810-S"] -/
  partno : Bytes
  /-- SERIAL [32; 12 R344; *0] -/
  serial : Nat
  /-- HWREV [16; 12 R344; *1] -/
  hwrev : Nat
  /-- source MAC address of GVT frames on networks A and B, from the identity partition [48 each; 08 R230; *0] -/
  macs : Duo (Duo Nat)
  /-- MODADDR in use, read from the plug at boot [10; 12 R344, 17 R459; *0] -/
  modaddr : Nat
  /-- LCSTATE [8; 12 R344, 15 R420; *BLANK] -/
  lc : LcState
  /-- LCCNT [32; 15 R420; *0] -/
  lccnt : Nat
  /-- credentials held, at most 64 [list; 12 R356; *none] -/
  creds : List Cred
  /-- a MAINT change accepted for the next executed start, with its command [1 or none; 15 R422; none] -/
  maintReq : Option (Bool × CmdRef)
  /-- a transition between COMMISSIONING and SERVICE accepted for the next start, with its command, TSIGNER and TREASON [15 R425; none] -/
  lcReq : Option (LcState × CmdRef × Nat × Bytes)
  /-- record of commissioning tests passed: TESTID, TARGET [list; 15 R426; *none] -/
  passes : List (Nat × Nat)
  deriving DecidableEq, Repr

/-! ### Lanes -/

structure LaneSt where
  /-- state of the lane held by MF [2; 05 R161, R172; WITHDRAWN] -/
  st : LaneState
  /-- LHOLD [8; 05 R172; 0] -/
  hold : LHold
  /-- OT of each counted withdrawal in the 24 h window; WDCNT is their number [list; 05 R164, R172; Kept, empty at power-up] -/
  wds : List Nat
  /-- latched out [1; 05 R164; 0] -/
  latched : Bool
  /-- FAULTCORE bits of core 0 and core 1 [2; 05 R172; Kept, 0 at power-up] -/
  faultcore : Duo Bool
  /-- LASTWD [32; 05 R172; Kept, none at power-up] -/
  lastwd : Option Fsid
  /-- WDOT [48; 05 R172; Kept, 0 at power-up] -/
  wdot : Nat
  /-- record SEQ of the lane's last withdrawal, the parent of consequential events [64; 10 R301; 0] -/
  wdseq : Nat
  /-- drive gate closed [1; 05 R158; open] -/
  gate : Bool
  /-- progress ring running: the lane's drive alternates [1; 01 R28; stopped] -/
  ring : Bool
  /-- drive the lane applies to its switch elements [48; 07 R204; 0] -/
  drive : CellMask
  /-- due mark posted [1; 01 R32; 0] -/
  due : Bool
  /-- done mark posted for the last executed cycle [1; 01 R32, 04 R120; 0] -/
  done : Bool
  /-- arbitration self-test running [1; 05 R146; 0] -/
  arb : Bool
  /-- restart check running [1; 05 R163; 0] -/
  rcheck : Bool
  /-- Trellis tables, or image banks, to be reloaded by the restart check [1; 05 R162, R163; 0] -/
  reload : Bool
  /-- the lane's Trellis tables in its own encoding [bytes; 02 R38, 03 R108; empty] -/
  tables : Bytes
  /-- Trellis vectors of the last pass in the lane's own encoding: AV, Q1, Q2, H and the routes' check results
  [bytes; 03 R108; empty] -/
  vecs : Bytes
  /-- resynchronisation: 0 none, 1 entered and copy due, 2 first shadow cycle, 3 second, 4 both matched [3; 05 R166; 0] -/
  rsync : Nat
  /-- abandoned copies in succession [2; 05 R167; 0] -/
  abandons : Nat
  /-- OT at which an abandoned copy is tried again [48 or none; 05 R167; none] -/
  retryAt : Option Nat
  /-- COMP: computation time of the last executed cycle in µs [32; 04 R137; 0] -/
  comp : Nat
  /-- MAX: largest computation time since boot in µs [32; 04 R137; 0] -/
  maxcomp : Nat
  /-- largest value since the lane's last budget warning [32; 04 R123; 0] -/
  warnmax : Nat
  /-- executed cycles until the next budget warning may be recorded [10; 04 R123; 0] -/
  warnwait : Nat
  /-- timebase counter in ticks of 0.1 µs [64; 01 R30; *0] -/
  tb : Nat
  /-- tick count between the last two executed starts, in 0.1 µs [32; 01 R33; 0] -/
  ticks : Nat
  /-- the two stages of the delay registers: output tokens of core 0 for the comparator, and input tokens for core 1
  [128 each; 05 R141; *empty] -/
  outDelay : Duo (Option CoreTok)
  inDelay : Duo (Option CoreTok)
  /-- ring trim in units of 0.01 % [signed; 01 R30; *0] -/
  trim : Int
  /-- slot mark posted [1; 06 R185; 0] -/
  slotmark : Bool
  /-- round mark posted [1; 07 R213; 0] -/
  roundmark : Bool
  /-- the lane's timebase counter at the common start of the present round [64; 07 R213; 0] -/
  roundTb : Nat
  /-- CYCCNT of the cycles in which a failed safety-code check named the lane [list; 08 R237; empty] -/
  scfails : List Nat
  /-- HOLDLIM reached on this lane's timebase [1; 04 R134; 0] -/
  holdhit : Bool
  /-- cores stopped in split mode, core 0 and core 1 [2; 05 R178; 0] -/
  stopped : Duo Bool
  /-- the core whose own block raised the event being collected: false core 0, true core 1 [1 or none; 05 R178; none] -/
  blame : Option Bool
  /-- lane supply inside its monitor window [1; 01 R13; in] -/
  supply : Bool
  /-- boot self-test passed [1; 17 R457; 0] -/
  passed : Bool
  /-- lane kernel map: kernel slot the lane runs [1; 16 R432; *0] -/
  kslot : Nat
  /-- CV engines hedged, 0 to 7 [8; 10 R290; none] -/
  cvhedge : List Nat
  /-- items, then partitions, in which the lane's form differed at the last vote that withdrew it [lists; 05 R160; empty] -/
  lastdiff : List Nat × List Nat
  /-- the hold the lane keeps after a test in place, while a self-test covers it [15 R416; none] -/
  testHold : Option LHold
  /-- withdrawn for a kernel turn; its load is due [1; 16 R442; 0] -/
  turn : Bool
  deriving DecidableEq, Repr

/-! ### The vital cycle -/

/-- One telegram formed and waiting for its safety codes (04 R120). -/
structure OutTg where
  conn : Nat
  gvt : Gvt
  deriving DecidableEq, Repr

structure CycleSt where
  /-- MODE [8; 04 R137; *RUN] -/
  mode : ExecMode
  /-- phase of the executed cycle [2; 04 R117; idle] -/
  phase : Phase
  /-- an executed cycle has run since boot [1; 01 R32; 0] -/
  started : Bool
  /-- CYCCNT [64; 04 R137; 0] -/
  cyccnt : Nat
  /-- SKIPCNT [32; 04 R137; 0] -/
  skipcnt : Nat
  /-- slots skipped since the last executed start, or a graft slot [8; 02 R72; 0] -/
  skipped : Nat
  /-- overruns in the window: CYCCNT and attributed lane; OVRWIN is their number [list; 04 R127; empty] -/
  overruns : List (Nat × Lane)
  /-- OVRLAST [8; 04 R137; none] -/
  ovrlast : Option Lane
  /-- HOLDELAP in 10 ms steps [16; 04 R137; 0] -/
  holdelap : Nat
  /-- OT of the first start in HOLD [48; 04 R134; 0] -/
  holdstart : Nat
  /-- HOLDLIM has been reached: the TG emits no further telegram [1; 04 R134; 0] -/
  holdover : Bool
  /-- WARNCNT [32; 04 R137; 0] -/
  warncnt : Nat
  /-- MIRABORT [32; 04 R137; 0] -/
  mirabort : Nat
  /-- OTS of the present executed start in µs of OT [64; 08 R245; 0] -/
  ots : Nat
  /-- OTS of the previous executed start [64; 08 R245; 0] -/
  otsprev : Nat
  /-- OT in ms of the last executed start in SERVICE, kept across warm restarts [48; 17 R461; 0] -/
  runot : Nat
  /-- mode command accepted for the next executed start [04 R130; none] -/
  modereq : Option (ExecMode × CmdRef)
  /-- arrival stamp of each lane's form at the last exchange close; none when it did not arrive [04 R124; none] -/
  stamps : Trio (Option Nat)
  /-- the lanes that were ACTIVE at the last exchange close [list; 04 R124; empty] -/
  voters : List Lane
  /-- the exchange trailers of the last exchange [05 R153; none] -/
  trailers : Trio (Option Trailer)
  /-- the vote form a correctly computing lane sends in this cycle [05 R150; empty] -/
  form : VoteForm
  /-- the voted form of the last vote [05 R155; none] -/
  voted : Option VoteForm
  /-- drive and payloads of the last image voted: what HOLD repeats [48, list; 04 R129; 0, empty] -/
  lastimg : CellMask × List FormConn
  /-- last voted DIGEST, kept across warm restarts [64; 17 R461; *none] -/
  lastdigest : Option Nat
  /-- the end of the executed cycle has been taken: done marks posted, completions and pair messages sent [1; 04 R120, R121; 1] -/
  ended : Bool
  /-- telegrams of this cycle not yet released [list; 04 R120; empty] -/
  tosend : List OutTg
  /-- the graft slot: no snapshot, no drive or telegram items [1; 11 R328; 0] -/
  graftslot : Bool
  /-- consecutive SYNC cycles in which the lanes agreed [2; 17 R458; 0] -/
  synccnt : Nat
  /-- LEADCLAIM of this cycle [1; 05 R150; 0] -/
  leadclaim : Bool
  /-- DUOELAP in ms of OT [16 in minutes; 05 R172; 0] -/
  duoelap : Nat
  /-- RSYFAIL [32; 05 R172; 0] -/
  rsyfail : Nat
  /-- image bank in use [1; 05 R150; *0] -/
  bank : Nat
  /-- the core state record of the last output pass [512 bytes; 05 R145; none formed: empty] -/
  corerec : Bytes
  /-- holder of the commons token, and the transfers it has made since it got it [2, 5; 01 R22; LA, 0] -/
  token : Token
  tokencnt : Nat
  /-- TCXO declared lost [1; 01 R31; 0] -/
  tcxolost : Bool
  /-- in split mode, the lane whose own cycle this is [2; 05 R176; none] -/
  lane : Option Lane
  deriving DecidableEq, Repr

/-! ### Application state -/

structure AppSt where
  /-- element records in use, ascending [64 bytes each; 02 R45; from the image] -/
  elems : List Elem
  /-- route cell records, by route number [64 bytes each; 03 R77; Reset values] -/
  cells : List RouteCell
  /-- Trellis status record [64 bytes; 03 R111; NEXTSEQ 1, else 0] -/
  trellis : TrellisRec
  /-- send records, ascending [16 bytes each; 02 R74; 0] -/
  sends : List SendRec
  /-- receive records, ascending [1,088 bytes each; 08 R246; 0] -/
  recvs : List RecvRec
  /-- data of optional function blocks [bytes; 02 R74; from the image] -/
  fbData : Bytes
  deriving DecidableEq, Repr

structure TrellisSt where
  /-- next command sequence number [32; 03 R87; *1] -/
  cmdseq : Nat
  /-- operations commands accepted and not yet entered, oldest first, at most 256 [list; 12 R359; empty] -/
  ops : List OpCmd
  /-- requests (true) and release requests (false) raised by element blocks in the last cycle: route, element [list; 03 R87; empty] -/
  elemreqs : List (Nat × Nat × Bool)
  /-- automatic (2) and triggered (3) requests raised in the last cycle: route, origin [list; 03 R87; empty] -/
  autoreqs : List (Nat × Nat)
  /-- declared data as the previous executed cycle left it, for the record list [14 R394; empty] -/
  prev : AppSt
  /-- scratch [bytes; 02 R75; empty] -/
  scratch : Bytes
  deriving DecidableEq, Repr

/-- One lane in split mode (05 R176): its own cycle, core 0's element and Trellis state, and the data of the programs of
its two cores in their halves of the lane's vital memory. -/
structure SplitSt where
  cyc  : CycleSt
  app  : AppSt
  trl  : TrellisSt
  data : Duo Bytes
  deriving DecidableEq, Repr

/-! ### Cells and banks -/

/-- One lane's channel of a cell. -/
structure ChSt where
  /-- samples of the channel's comparator at the ticks before, the latest first [256; 06 R182, R188; empty] -/
  hist : List Bool
  /-- filtered value of Px [1; 06 R182; 0] -/
  filt : Bool
  /-- filtered value of Fx [1; 07 R220; 0] -/
  fx : Bool
  /-- the channel observed detector 0x02 to 0x05 and holds 0 [1; 06 R190; 0] -/
  held : Bool
  /-- test-fault flags not yet latched at a start: the detector observed, and whether its event has been raised [list; 06 R183,
  R190; empty] -/
  flags : List (Nat × Bool)
  /-- consecutive executed starts at which the channel differed from the cell, 4 beyond the third [3; 06 R184; 0] -/
  dis : Nat
  /-- OT of the first tick of a disagreement run of the pair [48 or none; 06 R195; none] -/
  run : Option Nat
  /-- discrepancy latch [1; 06 R194; 0] -/
  latch : Bool
  /-- both channels seen 0 together after the latch was set [1; 06 R196; 0] -/
  bothoff : Bool
  /-- Px read ON at the start of the slot in progress [1; 06 R189; 0] -/
  onslot : Bool
  /-- the tick in the cell's own pulse window has been taken in this pulse [1; 06 R188; 0] -/
  ownTick : Bool
  /-- readback sample of Px [1; 07 R210; 0] -/
  rb : Bool
  /-- what the channel was last found to read of Px where that is not the effective drive [1 or none; 07 R210; none] -/
  px : Option Bool
  /-- consecutive sampled ticks at which Px differed from the effective drive, 4 beyond the third [3; 07 R210; 0] -/
  diff : Nat
  /-- end of the settle window in ms of OT [48; 07 R210; 0] -/
  settle : Nat
  /-- OT at which the feedback window last opened [48 or none; 07 R220; none] -/
  fbopen : Option Nat
  deriving DecidableEq, Repr

/-- A hedge release accepted (12 HEDGE_RELEASE, 06 R191, 07 R212, R222): kind, index and the cells it covers. -/
structure RelSt where
  kind   : Nat
  index  : Nat
  ref    : CmdRef
  cells  : List Nat
  /-- the frame in progress began after the release was accepted -/
  inFrame : Bool
  frameOk : Bool
  /-- the round in progress began after the release was accepted -/
  inRound : Bool
  roundOk : Bool
  failed : Bool
  deriving DecidableEq, Repr

structure CellSt where
  /-- the three channels [06 R183; reset] -/
  ch : Trio ChSt
  /-- CHVAL as latched at the last start [3; 06 R203; 0] -/
  chval : Trio Bool
  /-- CVAL [1; 06 R203; 0] -/
  cval : Bool
  /-- discrepancy flag of an ACTIVE channel latched at the last start [1; 06 R183, R196; 0] -/
  disc : Bool
  /-- under the cloche [1; 06 R203; 0] -/
  under : Bool
  /-- warm-up [1; 06 R203, 07 R227; 1] -/
  warm : Bool
  /-- warm-up: a whole frame since the entry has begun, and has ended clean [2; 06 R199; 0] -/
  warmFrame : Bool
  warmClean : Bool
  /-- warm-up: light step passed since the entry, per lane [3; 07 R223; 0] -/
  warmLight : Trio Bool
  /-- a test-pulse fault was observed in the frame in progress [1; 06 R191; 0] -/
  faulted : Bool
  /-- FSLOT [8; 06 R203; 0xFF] -/
  fslot : Nat
  /-- TFCNT [16; 06 R203; 0] -/
  tfcnt : Nat
  /-- voted DRIVE bit [1; 07 R227; 0] -/
  voted : Bool
  /-- effective drive [1; 07 R210; 0] -/
  eff : Bool
  /-- protection latch [1; 07 R206; 0] -/
  prot : Bool
  /-- OLAST [8; 07 R227; 0] -/
  olast : Nat
  /-- OT of the last completed step of each lane group; none before any [48; 07 R227 TESTAGE; none] -/
  stepOt : Trio (Option Nat)
  /-- group completed a step in the round in progress [3; 07 R218; 0] -/
  stepped : Trio Bool
  /-- a step of the group ran, or could have run, in the round in progress [3; 07 R218; 0] -/
  counted : Trio Bool
  /-- successive counted rounds without a completed step [2 each; 07 R218; 0] -/
  missed : Trio Nat
  /-- a light step of the round has passed, per lane, for release checks [3; 07 R222; 0] -/
  lightOk : Trio Bool
  /-- the tests and targets that must pass before a hedge by detector 0x40 is released, while they have not [list of 16, 16; 15 R419; empty] -/
  needTest : List (Nat × Nat)
  /-- ICELL as of the last executed start [16; 07 R227; 0] -/
  icell : Nat
  deriving DecidableEq, Repr

/-- A step of an element test (07 R214). -/
structure StepSt where
  cell : Nat
  lane : Lane
  dark : Bool
  deriving DecidableEq, Repr

structure BankSt where
  /-- FSV outside the trip points [1; 06 R197; 0] -/
  fsvOut : Bool
  /-- FSV has been inside for 100 ms; the hedge waits for one clean frame [1; 06 R197; 0] -/
  fsvBack : Bool
  /-- a clean whole frame has run since FSV returned [2; 06 R197; 0] -/
  fsvFrame : Bool
  fsvClean : Bool
  /-- bank protection latch, the cut-off open [1; 07 R206; 0] -/
  prot : Bool
  /-- arbiter's rotation: the lane next served [2; 01 R20; A] -/
  arb : Lane
  /-- element test step in progress [07 R214; none] -/
  step : Option StepSt
  /-- position of the round, 0 to 49 [6; 07 R213; 0] -/
  pos : Nat
  /-- repeats waiting for a position from 24 onwards [list; 07 R218; empty] -/
  repeats : List (Nat × Lane)
  /-- OT at which the cut-off opened, and the cells that have raised detector 0x13 and not 0x18 since [07 R212; none] -/
  cutoff : Option (Nat × List Nat)
  /-- the round in progress raised detector 0x10, 0x13 or 0x14 [1; 07 R212; 0] -/
  badRound : Bool
  /-- the bank was hedged in the round in progress [1; 07 R218; 0] -/
  hedgedRound : Bool
  /-- test that must pass before a hedge by detector 0x40 is released [16 or none; 15 R419; none] -/
  needTest : Option Nat
  deriving DecidableEq, Repr

structure FrameSt where
  /-- the frame runs [1; 06 R185; 0] -/
  running : Bool
  /-- slot in progress, 0 to 47 [6; 06 R185; 0] -/
  slot : Nat
  /-- next tick of every lane's channels in µs of OT: 1 ms after the one before, and after each slot start [64; 06 R181; 0] -/
  tickAt : Nat
  /-- TFRAME and TPULSE in force in this frame [16 each; 06 R186; 0] -/
  tframe : Nat
  tpulse : Nat
  /-- FRAMECNT [32; 06 R186; 0] -/
  framecnt : Nat
  /-- SLOTSKEW of the last frame, and the largest of this one [16; 06 R186; 0] -/
  slotskew : Nat
  skewmax : Nat
  /-- time of the first counting slot mark posted for the next slot in µs [06 R186; none] -/
  firstMark : Option Nat
  /-- cell whose Sx is open [6 or none; 06 R187; none] -/
  pulse : Option Nat
  /-- element test rounds run, and rounds started [1, 32; 07 R213; 0] -/
  rounds : Bool
  roundcnt : Nat
  /-- OT of the common start of the present round [48; 07 R213; 0] -/
  roundAt : Nat
  deriving DecidableEq, Repr

/-! ### Connections and networks -/

/-- A copy held by the TG with its arrival stamp in µs of OT (08 R245). -/
structure TgCopy where
  gvt : Gvt
  arrival : Nat
  net : Net
  deriving DecidableEq, Repr

/-- The four slots of a connection: producer, then network (08 R245). -/
structure Slots (α : Type) where
  p1 : Duo α
  p2 : Duo α
  deriving DecidableEq, Repr

structure ConnSt where
  /-- connection number [8; 08 R239; -] -/
  num : Nat
  /-- the four slots [08 R245; empty] -/
  slots : Slots (Option TgCopy)
  /-- the copy each slot last replaced, in a module with PROLE not 0 [09 R270; empty] -/
  kept : Slots (Option TgCopy)
  /-- frozen slots with the NEW fact [08 R118, R245, 09 R270; empty] -/
  frozen : Slots (Option (TgCopy × Bool))
  /-- copy held for its twin under the both policy, per producer [08 R245; none] -/
  held : Duo (Option TgCopy)
  /-- OT in ms of the last copy from each network [48; 08 R252; 0] -/
  lastnet : Duo Nat
  /-- detector 0x07 stands for this network [08 R252; none] -/
  silent : Duo Bool
  /-- FAULT latched [1; 08 R246; 0] -/
  fault : Bool
  /-- releases accepted for the next start [list; 08 R247; empty] -/
  release : List CmdRef
  /-- a staged change returns the connection to NOTEST [1; 08 R247; 0] -/
  changed : Bool
  /-- CNTBAD, CNTSTALE, CNTALIVE, CNTLATE, CNTDELAY, CNTDIV, CNTTOUT, CNTXPORT [32 each; 08 R254; 0] -/
  cntbad : Nat
  cntstale : Nat
  cntalive : Nat
  cntlate : Nat
  cntdelay : Nat
  cntdiv : Nat
  cnttout : Nat
  cntxport : Nat
  /-- decided VALID at the last executed start: its payload may be used in this cycle [1; 08 R247; 0] -/
  inuse : Bool
  /-- the stored payload came with LEAD [1; 08 R249; 0] -/
  usedLead : Bool
  /-- KEYID in use for sending [1; 08 R238; *0] -/
  keyid : Nat
  deriving DecidableEq, Repr

/-- A frame queued for an egress port of an internal switch: port 0 TG, 1, 2 (08 R256). -/
structure Egress where
  port : Nat
  high : Bool
  frame : Frame
  deriving DecidableEq, Repr

/-- A unicast address learned by a switch (08 R256). -/
structure Learned where
  mac : Nat
  port : Nat
  ot : Nat
  deriving DecidableEq, Repr

structure NetSt where
  /-- LINK [0], [1]: port links up [2; 08 R259; 0] -/
  link : Duo Bool
  /-- LINK [2]: port 2 blocked as ring manager [1; 08 R257; 0] -/
  blocked : Bool
  /-- LINK [3]: ring closed [1; 08 R259; 0] -/
  closed : Bool
  /-- learned addresses [list; 08 R256; empty] -/
  learned : List Learned
  /-- egress queues, in order of arrival [list; 08 R256; empty] -/
  egress : List Egress
  /-- low-queue bytes taken from each external port in this ms [08 R256; 0] -/
  lowbytes : Duo Nat
  /-- ring test counter [32; 08 R257; *0] -/
  ringctr : Nat
  /-- OT of the last RINGTEST sent [48 or none; 08 R257; none] -/
  ringsent : Option Nat
  /-- OT of the last RINGTEST returned, and since when they return without a break [48; 08 R257; none] -/
  ringlast : Option Nat
  ringsince : Option Nat
  deriving DecidableEq, Repr

/-! ### Pairs -/

structure PairSt where
  /-- pair state [3; 09 R262; UNPAIRED] -/
  st : PairState
  /-- epoch held, and the value in the nonvolatile store [16; 09 R263; *0] -/
  epoch : Nat
  stored : Nat
  /-- highest epoch seen [16; 09 R263; *0] -/
  seenEpoch : Nat
  /-- this member is the pacer [1; 09 R269; *0] -/
  pacer : Bool
  /-- silence count [4; 09 R267; 0] -/
  silence : Nat
  /-- partner seen since the last executed start [1; 09 R267; 0] -/
  seenNow : Bool
  /-- partner seen in the cycle before the last executed start [1; 09 R264, R267; 0] -/
  seenLast : Bool
  /-- INSTEPCNT [16; 09 R268; 0] -/
  instep : Nat
  /-- RELINQ set, LEAD claimed [1 each; 09 R268; 0] -/
  relinq : Bool
  claim : Bool
  /-- STALE [1; 09 R268; 1] -/
  stale : Bool
  /-- executed starts at which both members claimed LEAD [2; 09 R281; 0] -/
  both : Nat
  /-- was in step when the partner fell silent [1; 09 R280; 0] -/
  wasIn : Bool
  /-- partner's last health report [64 bytes or none; 09 R268; none] -/
  partner : Option Health
  /-- reports of this member and of the partner not yet compared [lists; 09 R277; empty] -/
  own : List Health
  theirs : List Health
  /-- member's own last report [64 bytes; 09 R268; its Reset values] -/
  report : Health
  /-- cycles for which the leader's report is missing [4; 09 R277; 0] -/
  missing : Nat
  /-- heartbeat counter, own [32; 09 R266; 0] -/
  hbctr : Nat
  /-- last heartbeat accepted from the partner: SEQ, ALIVE, PSTAMP, SERIAL, EPOCH [09 R266; none] -/
  hblast : Option (Nat × Nat × Nat × Nat × Nat)
  /-- PCYC [64; 09 R269; 0] -/
  pcyc : Nat
  /-- PSTART received since the last start, with its arrival in µs of OT [09 R269; none] -/
  pstart : Option (PStart × Nat)
  /-- PCYC of the last PSTART taken, whose second copy is discarded [64 or none; 09 R265; none] -/
  tookStart : Option Nat
  /-- PCYC of the last PREPORT and MCLOSE taken, whose second copies are discarded [64 or none each; 09 R265; none] -/
  tookReport : Option Nat
  tookClose : Option Nat
  /-- commands whose CMDFWD was taken since the last executed start, and in the cycle before [lists; 09 R265; empty] -/
  fwd : List CmdRef
  fwdPrev : List CmdRef
  /-- operator commands entered at the last executed start, and at the one before [lists; 09 R271; empty] -/
  entered : List CmdRef
  enteredPrev : List CmdRef
  /-- phase correction of the lanes' trim, in 0.01 % [-2 to 2; 09 R269; 0] -/
  phase : Int
  /-- the partner link: PL1, PL2 up [2; 09 R264; 0] -/
  plup : Duo Bool
  /-- optic in each cage [18 R473; none] -/
  optic : Duo (Option Optic)
  /-- OT since which the member has been in step without a break [48 or none; 09 R282; none] -/
  since : Option Nat
  /-- OT at which the join wait began; a partner heartbeat in JOINING, and a LEAD partner since the last start, have been seen [09 R284; none] -/
  joinOt : Option Nat
  sawJoining : Bool
  sawLead : Bool
  /-- blocks and closing record of the mirror set being received [09 R275; empty] -/
  blocks : List MBlock
  mclose : Option MClose
  /-- mirror set being sent: blocks not yet sent [09 R273; empty] -/
  sending : List MBlock
  /-- number of blocks of the set being sent, and whether MCLOSE is due [09 R265; 0] -/
  nblocks : Nat
  closing : Bool
  /-- a mirror set has been committed since JOINING [1; 09 R283; 0] -/
  committed : Bool
  /-- routes whose record is unconfirmed in this pass [list; 09 R276; empty] -/
  unconf : List Nat
  /-- phase restart due: the next start follows the leader's PSTART [1; 09 R272; 0] -/
  restartDue : Bool
  /-- MSDIG and OUTDIG of the cycle [64 each; 09 R274; 0] -/
  msdig : Nat
  outdig : Nat
  /-- the revert hold-off is complete: LEAD is taken at the next executed start [1; 09 R282; 0] -/
  returnDue : Bool
  /-- HANDOVER and COLD_ASSUME waiting for their completion [09 R279, R280; none] -/
  handover : Option CmdRef
  assume : Option CmdRef
  /-- apply forwarded by the partner: its STGID; OT at which this member's own apply was accepted [11 R322; none] -/
  farApply : Option Nat
  /-- OT at which it came [48 or none; 11 R322; none] -/
  farOt : Option Nat
  applyOt : Option Nat
  /-- commands listed in the last PSTART sent, partner ready to switch level [09 R271, 16 R444; 0] -/
  farReady : Bool
  deriving DecidableEq, Repr

/-! ### Faults -/

/-- A hedge in effect, or taking effect at the next executed start (10 R291). -/
structure Hedge where
  kind : HKind
  index : Nat
  latched : Bool
  fsid : Fsid
  /-- takes effect on the element and the drive from the next executed start -/
  pending : Bool
  /-- lifts at the next executed start -/
  lifting : Bool
  /-- record SEQ of the event that caused it (10 R299, R301) -/
  seq : Nat
  deriving DecidableEq, Repr

/-- An event MF has recorded since the last executed start (10 R287). -/
structure Event where
  fsid : Fsid
  cls : Nat
  seq : Nat
  deriving DecidableEq, Repr

/-- A running grace timer (10 R295). -/
structure GraceT where
  seq : Nat
  fsid : Fsid
  due : Nat
  wait : List Lane
  deriving DecidableEq, Repr

/-- Counting of one fault source (10 R296). -/
structure EscSt where
  fsid : Fsid
  times : List Nat
  last : Nat
  present : Nat
  deriving DecidableEq, Repr

/-- An open reaction shadow (10 R299). -/
structure Shadow where
  block : Nat
  due : Nat
  fsid : Fsid
  seq : Nat
  deriving DecidableEq, Repr

/-- A route that stands in RELEASING: its released groups as last seen, the ms without a further one, its event raised
(03 R101). (log 121, DEDUCED) -/
structure RelWatch where
  route  : Nat
  groups : Nat
  ms     : Nat
  raised : Bool
  deriving DecidableEq, Repr

structure FaultSt where
  /-- hedges [list; 10 R291; empty] -/
  hedges : List Hedge
  /-- events since the last executed start, in MF's order [list; 10 R287; empty] -/
  events : List Event
  /-- grace timers [list; 10 R295; empty] -/
  grace : List GraceT
  /-- escalation state of each source counted [list; 10 R296; empty] -/
  esc : List EscSt
  /-- open shadows [list; 10 R299; empty] -/
  shadows : List Shadow
  /-- OT of the last reset of each block [list; 10 R300; empty] -/
  resets : List (Nat × Nat)
  /-- OT of each entry into SAFE in the 24 h window; SAFECNT is their number [list; 10 R304; Kept, empty at power-up] -/
  safes : List Nat
  /-- hedge releases accepted and not completed [list; 10 R293; empty] -/
  rels : List RelSt
  /-- safe-state latch [1; 10 R302; 0] -/
  safelatch : Bool
  /-- record SEQ of the event that caused SAFE or TERMINAL [64; 10 R301; 0] -/
  safeseq : Nat
  /-- every drive gate latched open: TERMINAL or split mode [1; 10 R305, 05 R177; 0] -/
  gatelatch : Bool
  /-- ALARMCNT, ESCCNT, CONSEQ [32 each; 10 R306; 0] -/
  alarmcnt : Nat
  esccnt : Nat
  conseq : Nat
  /-- FAULTSUM ESCAL, SVRST [1 each; 10 R306; 0] -/
  escal : Bool
  svrst : Bool
  /-- routes that stand in RELEASING, watched by the fault collectors [list; 03 R101; empty] -/
  watch : List RelWatch
  deriving DecidableEq, Repr

/-! ### Mailboxes, sessions, notifications -/

structure Mbox where
  /-- state [3; 12 R346; FREE] -/
  st : MbState
  /-- endpoint and OWNKEY of the owner [5, 16; 12 R346; 0] -/
  ep : Nat
  ownkey : Nat
  /-- MBLAST: STATUS and TAG of the last response [16 each; 12 R346; 0] -/
  status : Nat
  tag : Nat
  /-- MBAGE [32; 12 R346; 0] -/
  age : Nat
  /-- OT of the doorbell of a POSTED request [48; 12 R349; 0] -/
  rung : Nat
  /-- the last response answered OPEN [1; 12 R348; 0] -/
  openOk : Bool
  /-- the sessions whose tags the writes of the request buffer carried since the last response, none for a write without a
  tag [list; 12 R340, R354; empty] -/
  writers : List (Option Nat)
  /-- the owner's session ended while the request was POSTED or RUNNING: FREE once the response is written [1; 12 R348; 0] -/
  orphan : Bool
  /-- request buffer and response buffer, 4 KiB each, bytes beyond the list read 0 [12 R343; 0] -/
  req : Bytes
  resp : Bytes
  deriving DecidableEq, Repr

/-- An open session (12 R354, R355). -/
structure Sess where
  id : Nat
  cred : Nat
  role : Nat
  ep : Nat
  key : Bytes
  idle : Nat
  /-- latest tagged XID (12 R340) -/
  xid : Option Nat
  deriving DecidableEq, Repr

/-- The provisional session (12 R354). -/
structure Prov where
  id : Nat
  cred : Nat
  ep : Nat
  chal : Bytes
  hostkey : Bytes
  modkey : Bytes
  secret : Nat
  age : Nat
  /-- latest tagged XID (12 R340) -/
  xid : Option Nat
  deriving DecidableEq, Repr

/-- A reply of the module to an NSP datagram: endpoint, reply OP, XID, NSTAT, the data of a READ (12 R338). -/
structure Reply where
  ep : Nat
  op : Nat
  xid : Nat
  nstat : Nat
  data : Bytes
  deriving DecidableEq, Repr

/-- An NSP endpoint with its kept replies (12 R339). -/
structure Endpoint where
  num : Nat
  path : NspPath
  ip : Nat
  port : Nat
  idle : Nat
  kept : List Reply
  deriving DecidableEq, Repr

/-- A command that answered ACCEPTED and has not completed (12 R349, R351). -/
structure OpenCmd where
  ref : CmdRef
  /-- the route, element or item it acts on -/
  item : Nat
  cmdseq : Nat
  reqseq : Nat
  deriving DecidableEq, Repr

/-- A notification record (12 R361), its body as bytes. -/
structure Notif where
  kind : Nat
  flags : Nat
  count : Nat
  nseq : Nat
  ot : Nat
  seq : Nat
  session : Nat
  tag : Nat
  status : Nat
  body : Bytes
  deriving DecidableEq, Repr

/-- A coalescing window of alarms (12 R361). -/
structure AlarmWin where
  fsid : Fsid
  body : Bytes
  since : Nat
  count : Nat
  /-- SEQ of the record that the closing notification matches (14 R386) -/
  seq : Nat
  deriving DecidableEq, Repr

/-- The final status of a command (12 R361, kind 0x02). -/
structure Compl where
  ref : CmdRef
  status : Nat
  cmdseq : Nat
  reqseq : Nat
  lastfail : Nat
  failelem : Nat
  result : Bytes
  deriving DecidableEq, Repr

structure MailSt where
  /-- mailboxes 0 to 15 [12 R346; reset] -/
  boxes : List Mbox
  /-- mailboxes POSTED, in the order of their doorbells [list; 12 R349; empty] -/
  order : List Nat
  /-- open sessions, at most 8 [list; 12 R355; empty] -/
  sessions : List Sess
  /-- provisional session [12 R354; none] -/
  prov : Option Prov
  /-- NSP endpoints served, at most 16 [list; 12 R339; empty] -/
  eps : List Endpoint
  /-- CSPI: the previous frame was refused [1; 12 R341; 0] -/
  cspiBad : Bool
  /-- CSPI: the status byte of the last frame, and the data that a read frame clocked out [8, bytes; 12 R341; 0, empty] -/
  cspiStat : BitVec 8
  cspiOut : Bytes
  /-- notifications written since the last ms: each drives CSALRT for 10 µs [12 R342; 0] -/
  alert : Nat
  /-- pending first steps [list; 12 R357; empty] -/
  steps : List FirstStep
  /-- commands ACCEPTED and not completed [list; 12 R351; empty] -/
  opened : List OpenCmd
  /-- completions that wait for the done mark of their cycle [list; 12 R359; empty] -/
  compl : List Compl
  /-- NEWSEQ, NEWSLOT, NLOST [32, 8, 32; 12 R360; *0, 62, 0] -/
  newseq : Nat
  newslot : Nat
  nlost : Nat
  /-- the 63 slots of the notification ring [64 bytes each; 12 R360; empty] -/
  ring : List (Option Notif)
  /-- slots of the ring that a host has read since they were written [list; 12 R360; empty] -/
  ringseen : List Nat
  /-- alarm coalescing windows [list; 12 R361; empty] -/
  alarms : List AlarmWin
  /-- notifications held while the service region is out [list; 12 R362; empty] -/
  waiting : List Notif
  /-- replies and NOTIFY datagrams sent since the last ms [list; 12 R338, R360; empty] -/
  replies : List Reply
  notifies : List (Nat × Nat)
  /-- SUMMARY as latched at the last executed start, OT apart [64 bytes; 12 R344; 0] -/
  summary : Bytes
  /-- element records as latched at the last executed start; none before one [list; 12 R358; none] -/
  elemStat : Option (List Elem)
  /-- input, output and connection status as latched at the last executed start; none before one [8, 8 and 48 bytes each; 06 R203, 07 R227, 08 R254; none] -/
  inStat : Option Bytes
  outStat : Option Bytes
  connStat : Option (List (Nat × Bytes))
  deriving DecidableEq, Repr

/-! ### Staged changes and forces -/

/-- A staged entry (11 R313). -/
structure StgEntry where
  cls : Nat
  index : Nat
  off : Nat
  value : Bytes
  deriving DecidableEq, Repr

/-- A settings generation: settings, presets by instance ID and offset, and force table (11 R317). -/
structure Generation where
  gen : Nat
  settings : Settings
  presets : List (Nat × Nat × Nat)
  forces : List ForceEntry
  deriving DecidableEq, Repr

/-- An accepted apply (11 R317, R318): command, starts to go, FTGEN at the check. -/
structure ApplySt where
  ref : CmdRef
  wait : Nat
  listed : Bool
  deriving DecidableEq, Repr

/-- A force command accepted: starts to go (11 R333). -/
structure ForceWait where
  cmd : ForceCmd
  wait : Nat
  deriving DecidableEq, Repr

structure StageSt where
  /-- STGSTATE, CHKCODE [8 each; 11 R335; 0] -/
  st : StgState
  chkcode : Nat
  /-- entries, at most 4,096; NENT is their number [list; 11 R313; empty] -/
  entries : List StgEntry
  /-- OWNER [32; 11 R335; 0] -/
  owner : Nat
  /-- FAILENT, FAILITEM [16 each; 11 R335; 0xFFFF] -/
  failent : Nat
  failitem : Nat
  /-- FTGEN, and its value taken at the check [32; 11 R321, R335; *0] -/
  ftgen : Nat
  ftgenChk : Nat
  /-- GSTATUS [16; 11 R335; 0] -/
  gstatus : Nat
  /-- NKEPT, NMAPPED, NNEW, NDISC [16 each; 11 R335; 0] -/
  nkept : Nat
  nmapped : Nat
  nnew : Nat
  ndisc : Nat
  /-- APPLYCYC [64; 11 R335; 0] -/
  applycyc : Nat
  /-- stage check running for this command [11 R315; none] -/
  checking : Option CmdRef
  /-- lanes that passed the check [3; 11 R318; none] -/
  passedLanes : List Lane
  /-- apply accepted and not made [11 R317; none] -/
  apply : Option ApplySt
  /-- apply made, its completion due at the done mark [11 R319; none] -/
  applying : Option CmdRef
  /-- GEN: current generation [32; 11 R335; *0] -/
  gen : Nat
  /-- generation marked pending in the store [11 R317, R320; none] -/
  pendingGen : Option Generation
  /-- generation in use before an apply whose generation is not yet current [11 R319, R320; none] -/
  backup : Option Generation
  /-- element presets that staged sets have written: instance ID, offset in the record, value [list; 11 R310, R317; *none] -/
  presets : List (Nat × Nat × Nat)
  /-- force table, at most 512; FNUM formed at each apply [16 bytes each; 11 R331; *empty] -/
  forces : List ForceEntry
  /-- force commands accepted and not yet applied [list; 11 R333; empty] -/
  forceWait : List ForceWait
  /-- pair settings as applied; PROLE, PADDR and PKEY of them are used from the next boot [09 R261; none] -/
  bootPair : Option PairCfg
  deriving DecidableEq, Repr

/-! ### Span bridge and tunnels -/

/-- A window descriptor with its entry of SB_STATUS (13 R363, R382). -/
structure Window where
  flags : BitVec 8
  fmod : Nat
  wbase : Nat
  wtout : Nat
  last : Nat
  count : Nat
  deriving DecidableEq, Repr

/-- Initiators of the bridge (13 R363). -/
inductive Initiator where
  | sp | vk
  deriving DecidableEq, Repr

/-- An outbound transfer (13 R367 to R371). -/
structure Xfer where
  seq : Nat
  win : Nat
  ini : Initiator
  off : Nat
  /-- FMOD and WTOUT of the window at the issue, and the far address: what a later WINDOW_SET changes is not theirs (R364, R370) -/
  fmod : Nat
  wtout : Nat
  addr : Nat
  /-- 1 read, 2 write, 3 posted write -/
  op : Nat
  len : Nat
  data : Bytes
  issued : Nat
  /-- OT of first sending; none while queued -/
  sent : Option Nat
  /-- answered BUSY: OT at which it is sent again -/
  busy : Option Nat
  /-- a read whose result is no longer wanted (R364, R368) -/
  stale : Bool
  deriving DecidableEq, Repr

/-- A held read result (13 R368). -/
structure HeldRes where
  ini : Initiator
  win : Nat
  off : Nat
  len : Nat
  fstat : Nat
  data : Bytes
  since : Nat
  deriving DecidableEq, Repr

/-- A posted-error entry (13 R372). -/
structure PostErr where
  ot : Nat
  addr : Nat
  win : Nat
  fstat : Nat
  fmod : Nat
  len : Nat
  seq : Nat
  issue : Nat
  deriving DecidableEq, Repr

/-- A completion in the SB completion queue (13 R367) or the answer to a local request. -/
structure SbDone where
  ini : Initiator
  win : Nat
  off : Nat
  op : Nat
  fstat : Nat
  /-- a read answered RETRY -/
  retry : Bool
  data : Bytes
  deriving DecidableEq, Repr

/-- A kept completion of an inbound transaction (13 R366). -/
structure KeptDone where
  src : Nat
  seq : Nat
  gvt : Gvt
  deriving DecidableEq, Repr

structure BridgeSt where
  /-- windows 0 to 63 [16 bytes each; 13 R363; WTOUT 200, else 0] -/
  windows : List Window
  /-- outbound slots in use, oldest first, at most 32 [list; 13 R367; empty] -/
  out : List Xfer
  /-- transaction counter [32; 13 R366; *0] -/
  seq : Nat
  /-- inbound slots, the last one the reserved slot: in use while `inctr` is below the number held [list of 16; 13 R373; empty] -/
  inslots : List (Option Nat)
  /-- inbound requests taken or answered BUSY: the model's own counter [13 R373; *0] -/
  inctr : Nat
  /-- held read results, at most 32 [list; 13 R368; empty] -/
  held : List HeldRes
  /-- SB completion queue and answers to local requests [list; 13 R367; empty] -/
  done : List SbDone
  /-- completions frozen for the lanes at the last start [list; 13 R374; empty] -/
  laneDone : List SbDone
  /-- SEQ of the transfers that timed out, until it is used again [list; 13 R370; empty] -/
  timedOut : List Nat
  /-- kept completions, newest first, 32 per initiating module [list; 13 R366; empty] -/
  kept : List KeptDone
  /-- potting bench: canonical list of address and byte, unlisted 0 [64 KiB; 13 R365; 0] -/
  bench : List Host.Cell
  /-- posted-error log, oldest first, at most 32, and PELOST [32 bytes each, 32; 13 R372; empty, 0] -/
  log : List PostErr
  pelost : Nat
  /-- CNTRESV, CNTBUSY, CNTTOUT, CNTLATE, CNTEXP, CNTCHK, CNTPERR [32 each; 13 R382; 0] -/
  cntresv : Nat
  cntbusy : Nat
  cnttout : Nat
  cntlate : Nat
  cntexp : Nat
  cntchk : Nat
  cntperr : Nat
  deriving DecidableEq, Repr

structure Tunnel where
  /-- descriptor [16 bytes; 13 R376; *0, TGAP 4, ADRF 0xFFFF, BAUD 9,600, TURN 8] -/
  flags : BitVec 8
  port : Nat
  fmod : Nat
  ftun : Nat
  tgap : Nat
  adrf : Nat
  baud : Nat
  turn : Nat
  /-- transmit queue of at most 8 frames [13 R378; empty] -/
  queue : List Bytes
  /-- SEQ sent and last SEQ taken [32 each; 13 R378; *0, none] -/
  seq : Nat
  taken : Option Nat
  /-- OT of the last frame or keepalive from the far end, UP [13 R379; none, DOWN] -/
  heard : Option Nat
  up : Bool
  /-- OT of the last frame or keepalive sent [48; 13 R379; 0] -/
  sentOt : Nat
  /-- OT of the last frame carried from, and sent on, the local port [13 R380; none] -/
  carried : Option Nat
  played : Option Nat
  /-- frames sent, received, discarded [32 each; 13 R382; 0] -/
  nsent : Nat
  nrecv : Nat
  ndisc : Nat
  deriving DecidableEq, Repr

/-- A legacy port (13 R378). -/
structure LegacyPort where
  /-- OT at which its line was last busy [48 or none; 13 R378; none] -/
  busy : Option Nat
  /-- its own last frame on a two-wire line, whose echo it ignores [bytes or none; 13 R378; none] -/
  echo : Option Bytes
  deriving DecidableEq, Repr

/-! ### Records and time -/

/-- A record of the event recorder, the archive or the change log (14 R391), its body as bytes. -/
structure Rec where
  seq : Nat
  ot : Nat
  flags : Nat
  kind : Nat
  wt : Nat
  count : Nat
  pc : Nat
  body : Bytes
  /-- priority by *Event kinds*; a count record has that of the kind it counts -/
  prio : Nat
  deriving DecidableEq, Repr

/-- A fault log record (14 R390). -/
structure FaultRec where
  seq : Nat
  ot : Nat
  flags : Nat
  raised : Nat
  applied : Nat
  conseq : Bool
  escal : Bool
  wt : Nat
  parent : Nat
  pc : Nat
  fsid : Fsid
  /-- what a rule says the record names or carries beside the layout of R390: items and partitions (05 R160), a time
  (04 R123), lanes (08 R237), elements (07 R215 to R217) [list; empty] -/
  named : List Nat
  deriving DecidableEq, Repr

/-- A coalescing window of the recorder (14 R401). -/
structure Coal where
  kind : Nat
  source : Nat
  body : Bytes
  first : Nat
  last : Nat
  count : Nat
  prio : Nat
  /-- SEQ of the record written in full -/
  seq : Nat
  deriving DecidableEq, Repr

/-- A last-resort register (14 R405). -/
structure LastRes where
  region : Nat
  fsid : Fsid
  ot : Nat
  seq : Nat
  deriving DecidableEq, Repr

/-- The read cursor (14 R398). -/
structure Cursor where
  log : Log
  session : Nat
  next : Nat
  hwm : Nat
  lastSeen : Nat
  deriving DecidableEq, Repr

/-- One log's ring with its segments out of service (14 R403). -/
structure RecSt where
  /-- SEQ counter and the ceiling in the store [64 each; 14 R385; *0, 2^32] -/
  seq : Nat
  seqceil : Nat
  /-- fault log, oldest first [8,192 x 32 bytes; 14 R395; empty] -/
  faults : List FaultRec
  /-- event recorder, oldest first [65,536 x 64 bytes; 14 R395; empty] -/
  events : List Rec
  /-- archive, oldest first [4,194,304 x 64 bytes; 14 R395; *empty] -/
  archive : List Rec
  /-- change log, oldest first [262,144 x 128 bytes; 14 R395; *empty] -/
  changes : List Rec
  /-- ingest queue with priorities: 0 trace, 1 event, 2 alarm [4,096; 14 R399; empty] -/
  queue : List (Nat × Rec)
  /-- coalescing windows [list; 14 R401; empty] -/
  coals : List Coal
  /-- rate counts of the present second: priority, kind, source, count [list; 14 R402; empty] -/
  rates : List (Nat × Nat × Nat × Nat)
  /-- drops of the present second: alarms, events, trace, by rate [14 R402; 0] -/
  drops : Nat × Nat × Nat × Nat
  /-- archiving of new records stops at this OT [48 or none; 14 R396; none] -/
  archUntil : Option Nat
  /-- a cold restart while RC did not work: the last SEQ it archives and clears when RC works again [64 or none; 14 R395; none] -/
  coldDue : Option Nat
  /-- ARCHSEQ, ARCHPASS, FLUSHCNT [64, 32, 32; 14 R406; *0] -/
  archseq : Nat
  archpass : Nat
  flushcnt : Nat
  /-- write positions in the rings of the fault log, event recorder and change log [13, 16, 18; 14 R403; *0] -/
  posF : Nat
  posE : Nat
  posC : Nat
  /-- records written in the present pass of the archive ring: its write position [23; 14 R406; *0] -/
  archpos : Nat
  /-- RECIN [64], COALCNT, DROPALM, DROPEVT, DROPTRC, DROPRATE, DROPLANE, LRLOST [32 each; 14 R406; 0] -/
  recin : Nat
  coalcnt : Nat
  dropalm : Nat
  dropevt : Nat
  droptrc : Nat
  droprate : Nat
  droplane : Nat
  lrlost : Nat
  /-- segments hedged, per log [lists; 14 R403, R406; none] -/
  segF : List Nat
  segE : List Nat
  segA : List Nat
  segC : List Nat
  /-- read cursor [14 R398; none] -/
  cursor : Option Cursor
  /-- recorder window, bytes beyond the list read 0 [64 KiB; 12 R343; 0] -/
  window : Bytes
  /-- last-resort registers, 16 per region [14 R405; empty] -/
  lastres : List LastRes
  /-- last-resort area of the identity partition, 64 lines [14 R403; *empty] -/
  lrarea : List Rec
  /-- records held in commons memory while the service region is out [list; 01 R15; empty] -/
  held : List (Nat × Rec)
  deriving DecidableEq, Repr

structure TimeSt where
  /-- OT in ms [48; 14 R383; *0] -/
  ot : Nat
  /-- OT ceilings of the 256 checkpoint lines: index and value [14 R384; *none] -/
  ceilings : List (Nat × Nat)
  /-- next checkpoint line [8; 14 R384; *0] -/
  line : Nat
  /-- shadow register of the keep-alive domain [48; 14 R384; *0] -/
  shadow : Nat
  /-- PC [32; 14 R383; *0] -/
  pc : Nat
  /-- WT in ms [48; 14 R383; *0] -/
  wt : Nat
  /-- WTVALID [1; 14 R387; *0] -/
  wtvalid : Bool
  /-- SOURCE: 0 host, 1 IEEE 1588 [8; 14 R387; *0] -/
  source : Nat
  /-- slave locked, consecutive offsets within 1 ms, OT of the last sync, slew still to make in µs [14 R388; 0] -/
  lock : Bool
  good : Nat
  synced : Option Nat
  slew : Int
  /-- the master chosen on SVC, A and B: its identity and its data set [64 and a number, or none; 14 R388; none] -/
  master : Option (BitVec 64 × Nat)
  deriving DecidableEq, Repr

/-! ### Self-test, tamper -/

/-- A self-test accepted or running (15 R408 to R418). -/
structure TestSt where
  id : Nat
  target : Nat
  ref : CmdRef
  /-- the cloche is in effect -/
  running : Bool
  /-- the last measurement has ended: RESULT pass, SIGNATURE, FIRSTBAD -/
  ended : Option (Bool × Nat × Nat)
  /-- abandoned: the cloche ends at the next start -/
  abandoned : Bool
  /-- the lane was withdrawn by the test -/
  tookLane : Bool
  /-- OT at which the test's next fabric transfer was asked for (01 R21) -/
  asked : Nat
  /-- a protection latch of a covered cell or of its bank was set during the test (15 R417) -/
  cut : Bool
  deriving DecidableEq, Repr

structure BeSt where
  /-- the test in hand [15 R414; none] -/
  test : Option TestSt
  /-- the quantities of R412 as last measured [15 R412; *0] -/
  q : Quantities
  /-- oscillator offset in 0.01 ppm; none until the first measurement [15 R413; none] -/
  osc : Option Int
  /-- tamper latch and the WT of the opening, with its validity [1, 48, 1; 15 R427; *0] -/
  tamper : Bool
  tamperWt : Nat
  tamperWtOk : Bool
  /-- seal loop intact [1; 15 R427; *1] -/
  loop : Bool
  deriving DecidableEq, Repr

/-! ### Update -/

/-- An image envelope (16 R433). -/
structure Envelope where
  magic : Nat
  ever : Nat
  kind : Nat
  units : Nat
  imgid : Nat
  version : Nat
  rbidx : Nat
  level : Nat
  levelmin : Nat
  vfmt : Nat
  vfmtmin : Nat
  nfmt : Nat
  nfmtmin : Nat
  size : Nat
  nblock : Nat
  signer : Nat
  deriving DecidableEq, Repr

/-- A slot of the nonvolatile store (16 R431). -/
structure Slot where
  /-- holds something usable: verified, or running -/
  valid : Bool
  env : Envelope
  /-- checked blocks by number -/
  blocks : List (Nat × Bytes)
  /-- what an application slot holds, as the lanes read it -/
  image : Option Image
  deriving DecidableEq, Repr

/-- The update session (16 R435, R450). -/
structure UpdSess where
  id : Nat
  kind : Nat
  size : Nat
  nblock : Nat
  token : Bytes
  mailSession : Nat
  idle : Nat
  /-- the block in progress: number and bytes so far -/
  part : Option (Nat × Bytes)
  /-- blocks checked -/
  checked : List Nat
  /-- rollback token found valid -/
  rollback : Bool
  deriving DecidableEq, Repr

/-- An activation running or unconfirmed (16 R441 to R449). -/
structure ActSt where
  kind : Nat
  /-- slot of the activated image: A or B -/
  slot : Bool
  ref : Option CmdRef
  /-- kernel: lanes still to take their turn, in order; lanes done -/
  todo : List Lane
  doneLanes : List Lane
  /-- lane whose turn runs -/
  turn : Option Lane
  /-- a lane's turn, or the level switch, asked for: it begins at an executed start that admits it (16 R442, R443) -/
  asked : Option Lane
  askedLevel : Bool
  /-- executed cycles since the last rejoin, switch or start in service -/
  cycles : Nat
  /-- the level switch has been made, or none is needed -/
  switched : Bool
  oldLm : Nat
  /-- falling back: lanes return to the previous slot -/
  back : Bool
  /-- rollback token used -/
  rollback : Bool
  /-- ms since the restart -/
  age : Nat
  deriving DecidableEq, Repr

/-- A firmware slot's settings set (16 R447): formats of the vital and the non-vital part, windows, tunnel
descriptors, time source. -/
structure SlotSet where
  vfmt : Nat
  nfmt : Nat
  windows : List Window
  tunnels : List Tunnel
  source : Nat
  deriving DecidableEq, Repr

structure UpdSt where
  /-- slots A and B of each kind: firmware, kernel, application [16 R431; *invalid] -/
  fw : Duo Slot
  kern : Duo Slot
  app : Duo Slot
  /-- running slot of firmware and application (kernel: the lane kernel map) [1 each; 16 R431; *A] -/
  fwRun : Bool
  appRun : Bool
  /-- LM [16; 16 R432; *0] -/
  lm : Nat
  /-- RBFLOOR per kind, RBCNT [32 each; 16 R432, R439; *0] -/
  rbfloor : Nat × Nat × Nat
  rbcnt : Nat
  /-- update session and its UPD_STATUS state code [16 R438, R450; none, 0] -/
  sess : Option UpdSess
  state : Nat
  /-- verification running for this command [16 R437; none] -/
  verify : Option CmdRef
  /-- activation running or unconfirmed [16 R438, R448; none] -/
  act : Option ActSt
  /-- settings set of each firmware slot: format of the vital and non-vital parts, windows, tunnels, time source [16 R447; none] -/
  sets : Duo (Option SlotSet)
  deriving DecidableEq, Repr

/-! ### Power and boot -/

structure PowerSt where
  /-- the module is powered [1; 17 R454; *0] -/
  on : Bool
  /-- power-fail warning given, flush begun [1; 17 R454; 0] -/
  pfail : Bool
  /-- PWR1 and PWR2 lost (detectors 0x30, 0x31 stand) [2; 17 R453; 0] -/
  lost : Duo Bool
  /-- module state [8; 17 R456; BOOT] -/
  mod : ModState
  /-- cause of the boot in progress: 0 power-up, 1 warm, 2 cold [8; 17 R457, R466; 0] -/
  cause : Nat
  /-- the module holds in BOOT: parity (0x34), temperature (0x36), duplicate address (R36), image, life cycle [17 R456; none] -/
  holdPlug : Bool
  holdTemp : Bool
  holdDup : Bool
  holdImage : Bool
  /-- service region in service [1; 01 R15; 0] -/
  sv : Bool
  /-- the service region starts as step 3 of a boot [1; 17 R457; 0] -/
  svBoot : Bool
  /-- commons and service supplies in their windows [1 each; 01 R14; *in] -/
  commons : Bool
  service : Bool
  /-- thermal warning stands [1; 17 R463; 0] -/
  hot : Bool
  /-- button: ignored until released for 1 s, and its detector [1; 17 R464, R465; 0] -/
  btnStuck : Bool
  btnBad : Bool
  /-- a change of the plug since step 1 has been reported [1; 17 R460; 0] -/
  plugSeen : Bool
  /-- restart accepted by command, to begin within 100 ms [17 R303; none] -/
  restart : Option RestartKind
  /-- split mode [1; 05 R175; 0] -/
  split : Bool
  /-- OT of the last power-up, from which MF tests the indicators [48 or none; 18 R477; none] -/
  lampOt : Option Nat
  deriving DecidableEq, Repr

/-! ### Partner-link messages -/

/-- What a member sends on the partner link (09 R265). -/
inductive PlMsg where
  | pstart (m : PStart)
  | mblock (m : MBlock)
  | mclose (m : MClose)
  | preport (h : Health)
  | cmdfwd (m : CmdFwd)
  deriving DecidableEq, Repr

/-! ### The state -/

structure State where
  pending : List Instr
  id      : Ident
  lanes   : Trio LaneSt
  cyc     : CycleSt
  app     : AppSt
  trl     : TrellisSt
  image   : Image
  set     : Settings
  cells   : List CellSt
  banks   : List BankSt
  frame   : FrameSt
  conns   : List ConnSt
  nets    : Duo NetSt
  pair    : PairSt
  flt     : FaultSt
  mail    : MailSt
  stage   : StageSt
  bridge  : BridgeSt
  tunnels : List Tunnel
  ports   : List LegacyPort
  recs    : RecSt
  time    : TimeSt
  be      : BeSt
  upd     : UpdSt
  pow     : PowerSt
  /-- frames the module has sent on its networks in this ms [08 R243; empty] -/
  netTx   : List (Net × Egress)
  /-- frames sent on legacy ports in this ms [13 R378; empty] -/
  legacyTx : List (Nat × Bytes)
  /-- partner-link messages sent in this ms [09 R265; empty] -/
  plTx    : List (Bool × PlMsg)
  /-- the lanes' own cycles in split mode [05 R176; none] -/
  splits  : Trio (Option SplitSt)
  /-- the model's own counter of free values (*) -/
  free    : Nat
  deriving DecidableEq, Repr

/-- No command makes the machine stop: every path of every meaning is a next state. -/
inductive Fault where
  /-- raised by nobody; kept so that the type is inhabited. Safe. -/
  | unused
  deriving DecidableEq, Repr

inductive Refusal where
  /-- an arm of Dispatch without its meaning yet. Safe: the machine stops. -/
  | notModelled (mnemonic : String)
  deriving DecidableEq, Repr


/-! ### Reset

Every field at the value the manual states for reset; where it states none, the value the assumption log
names (rows 3 and 10). The module is unpowered: POWER_UP is the command that starts a boot. -/

def fsidZero : Fsid := ⟨0, 0, 0, 0, 0⟩

def LaneSt.init : LaneSt :=
  { st := .withdrawn, hold := .none, wds := [], latched := false, faultcore := .both false, lastwd := none,
    wdot := 0, wdseq := 0, gate := false, ring := false, drive := 0, due := false, done := false, arb := false,
    rcheck := false, reload := false, tables := [], vecs := [], rsync := 0, abandons := 0, retryAt := none, comp := 0, maxcomp := 0,
    warnmax := 0, warnwait := 0, tb := 0, ticks := 0, outDelay := .both none, inDelay := .both none, trim := 0, slotmark := false, roundmark := false, roundTb := 0, scfails := [],
    holdhit := false, stopped := .both false, blame := none, supply := true, passed := false, kslot := 0, cvhedge := [],
    lastdiff := ([], []), testHold := none, turn := false }

def VoteForm.empty : VoteForm :=
  { mode := 0, bank := 0, flags := 0, nconn := 0, cyc := 0, img := 0, digest := 0, drive := 0, resv := 0,
    conns := [] }

def CycleSt.init : CycleSt :=
  { mode := .run, phase := .idle, started := false, cyccnt := 0, skipcnt := 0, skipped := 0, overruns := [],
    ovrlast := none, holdelap := 0, holdstart := 0, holdover := false, warncnt := 0, mirabort := 0, ots := 0,
    otsprev := 0, runot := 0, modereq := none, stamps := .all none, voters := [], trailers := .all none,
    form := VoteForm.empty, voted := none, lastimg := (0, []), lastdigest := none, ended := true, tosend := [], graftslot := false, synccnt := 0, leadclaim := false, duoelap := 0,
    rsyfail := 0, bank := 0, corerec := [], token := .la, tokencnt := 0, tcxolost := false, lane := none }

def TrellisRec.init : TrellisRec :=
  { nextseq := 1, nwait := 0, neval := 0, tblslice := 0, tblchk := 0, notentered := 0 }

def AppSt.init : AppSt :=
  { elems := [], cells := [], trellis := TrellisRec.init, sends := [], recvs := [], fbData := [] }

def TrellisSt.init : TrellisSt :=
  { cmdseq := 1, ops := [], elemreqs := [], autoreqs := [], prev := AppSt.init, scratch := [] }

def ChSt.init : ChSt :=
  { hist := [], filt := false, fx := false, held := false, flags := [], dis := 0, run := none, latch := false,
    bothoff := false, onslot := false, ownTick := false, rb := false, px := none, diff := 0, settle := 0, fbopen := none }

def CellSt.init : CellSt :=
  { ch := .all ChSt.init, chval := .all false, cval := false, disc := false, under := false, warm := true,
    warmFrame := false, warmClean := false, warmLight := .all false, faulted := false, fslot := 0xFF,
    tfcnt := 0, voted := false, eff := false, prot := false, olast := 0, stepOt := .all none,
    stepped := .all false, counted := .all false, missed := .all 0, lightOk := .all false, needTest := [], icell := 0 }

def BankSt.init : BankSt :=
  { fsvOut := false, fsvBack := false, fsvFrame := false, fsvClean := false, prot := false, arb := .a,
    step := none, pos := 0, repeats := [], cutoff := none, badRound := false, hedgedRound := false, needTest := none }

def FrameSt.init : FrameSt :=
  { running := false, slot := 0, tickAt := 0, tframe := 0, tpulse := 0, framecnt := 0, slotskew := 0, skewmax := 0,
    firstMark := none, pulse := none, rounds := false, roundcnt := 0, roundAt := 0 }

def NetSt.init : NetSt :=
  { link := .both false, blocked := false, closed := false, learned := [], egress := [], lowbytes := .both 0,
    ringctr := 0, ringsent := none, ringlast := none, ringsince := none }

def Health.init : Health :=
  { pstate := 0, flags := 0, epoch := 0, inStep := 0, lstat := 0, pcyc := 0, msdig := 0, outdig := 0,
    imgid := 0, setchk := 0, compt := 0, faultsum := 0, mirabort := 0, modstate := 0, mode := 0, holdoff := 0 }

def PairSt.init : PairSt :=
  { st := .unpaired, epoch := 0, stored := 0, seenEpoch := 0, pacer := false, silence := 0, seenNow := false,
    seenLast := false, tookStart := none, tookReport := none, tookClose := none, returnDue := false, fwd := [], fwdPrev := [], entered := [], enteredPrev := [], phase := 0, instep := 0, relinq := false, claim := false, stale := true, both := 0, wasIn := false, partner := none,
    own := [], theirs := [], report := { Health.init with pstate := 1, flags := 8 }, missing := 0, hbctr := 0, hblast := none, pcyc := 0,
    pstart := none, plup := .both false, optic := .both none, since := none, joinOt := none,
    sawJoining := false, sawLead := false, blocks := [], mclose := none, sending := [], nblocks := 0,
    closing := false, committed := false, unconf := [], restartDue := false, msdig := 0, outdig := 0,
    handover := none, assume := none, farApply := none, farOt := none, applyOt := none, farReady := false }

def FaultSt.init : FaultSt :=
  { hedges := [], events := [], grace := [], esc := [], shadows := [], resets := [], safes := [], rels := [],
    safelatch := false, safeseq := 0, gatelatch := false, alarmcnt := 0, esccnt := 0, conseq := 0, escal := false,
    svrst := false, watch := [] }

def Mbox.init : Mbox :=
  { st := .free, ep := 0, ownkey := 0, status := 0, tag := 0, age := 0, rung := 0, openOk := false,
    writers := [], orphan := false, req := [], resp := [] }

def MailSt.init : MailSt :=
  { boxes := List.replicate 16 Mbox.init, order := [], sessions := [], prov := none, eps := [],
    cspiBad := false, cspiStat := 0, cspiOut := [], elemStat := none, ringseen := [], alert := 0, steps := [], opened := [], compl := [], newseq := 0, newslot := 62,
    nlost := 0, ring := List.replicate 63 none, alarms := [], waiting := [], replies := [], notifies := [], summary := [],
    inStat := none, outStat := none, connStat := none }

def StageSt.init : StageSt :=
  { st := .empty, chkcode := 0, entries := [], owner := 0, failent := 0xFFFF, failitem := 0xFFFF, ftgen := 0,
    ftgenChk := 0, gstatus := 0, nkept := 0, nmapped := 0, nnew := 0, ndisc := 0, applycyc := 0,
    checking := none, passedLanes := [], apply := none, applying := none, gen := 0, pendingGen := none, backup := none,
    presets := [], forces := [], forceWait := [], bootPair := none }

def Window.init : Window := { flags := 0, fmod := 0, wbase := 0, wtout := 200, last := 0, count := 0 }

def BridgeSt.init : BridgeSt :=
  { windows := List.replicate 64 Window.init, out := [], seq := 0, inslots := List.replicate 16 none, inctr := 0,
    held := [], done := [], laneDone := [], timedOut := [], kept := [], bench := [], log := [], pelost := 0, cntresv := 0,
    cntbusy := 0, cnttout := 0, cntlate := 0, cntexp := 0, cntchk := 0, cntperr := 0 }

def Tunnel.init : Tunnel :=
  { flags := 0, port := 0, fmod := 0, ftun := 0, tgap := 4, adrf := 0xFFFF, baud := 9600, turn := 8,
    queue := [], seq := 0, taken := none, heard := none, up := false, sentOt := 0, carried := none,
    played := none, nsent := 0, nrecv := 0, ndisc := 0 }

def LegacyPort.init : LegacyPort := { busy := none, echo := none }

def RecSt.init : RecSt :=
  { seq := 0, seqceil := 2 ^ 32, faults := [], events := [], archive := [], changes := [], queue := [],
    coals := [], rates := [], drops := (0, 0, 0, 0), archUntil := none, coldDue := none, archseq := 0, archpass := 0,
    flushcnt := 0, posF := 0, posE := 0, posC := 0, archpos := 0, recin := 0, coalcnt := 0, dropalm := 0, dropevt := 0, droptrc := 0, droprate := 0,
    droplane := 0, lrlost := 0, segF := [], segE := [], segA := [], segC := [], cursor := none, window := [],
    lastres := [], lrarea := [], held := [] }

def TimeSt.init : TimeSt :=
  { ot := 0, ceilings := [], line := 0, shadow := 0, pc := 0, wt := 0, wtvalid := false, source := 0,
    lock := false, good := 0, synced := none, slew := 0, master := none }

def Quantities.init : Quantities := { lanes := .all 850, commons := 0, service := 0, fsv := [] }

def BeSt.init : BeSt :=
  { test := none, q := Quantities.init, osc := none, tamper := false, tamperWt := 0, tamperWtOk := false,
    loop := true }

def Envelope.init : Envelope :=
  { magic := 0, ever := 0, kind := 0, units := 0, imgid := 0, version := 0, rbidx := 0, level := 0,
    levelmin := 0, vfmt := 0, vfmtmin := 0, nfmt := 0, nfmtmin := 0, size := 0, nblock := 0, signer := 0 }

def Slot.init : Slot := { valid := false, env := Envelope.init, blocks := [], image := none }

def UpdSt.init : UpdSt :=
  { fw := .both Slot.init, kern := .both Slot.init, app := .both Slot.init, fwRun := false, appRun := false,
    lm := 0, rbfloor := (0, 0, 0), rbcnt := 0, sess := none, state := 0, verify := none, act := none,
    sets := .both none }

def PowerSt.init : PowerSt :=
  { on := false, pfail := false, lost := .both false, mod := .boot, cause := 0, holdPlug := false,
    holdTemp := false, holdDup := false, holdImage := false, sv := false, svBoot := false, commons := true, service := true,
    hot := false, btnStuck := false, btnBad := false, plugSeen := false, restart := none, split := false,
    lampOt := none }

def NetCfg.init : NetCfg :=
  { ringmode := 0, etype := 0x88B5, vidv := 0, vido := 1, ipaddr := 0, netmask := 0, gvtport := 48810 }

def PairCfg.init : PairCfg :=
  { prole := 0, pflags := 0, paddr := 0xFFFF, revhold := 60, psilent := 3, joinwait := 10, pkey := 0 }

def CellCfg.init : CellCfg := { cmode := 0, flags := 0, tfilt := 3, ogroup := 0, td := 20 }

def CvSet.init : CvSet := { poly := 0, init := 0xFFFFFFFF, xor := 0xFFFFFFFF, flags := 3 }

def Settings.init : Settings :=
  { tc := 10, holdlim := 200, cells := List.replicate 48 CellCfg.init, tframe := 48, tpulse := 400,
    conns := [], cvsets := List.replicate 6 CvSet.init, mackeys := [], nets := .both NetCfg.init,
    pair := PairCfg.init, duolim := 0, grace := 5, esc := [] }

def Image.init : Image :=
  { imgid := 0, role := 0, split := false, level := 0, tc := 10, wcet := 0, mirt := 0, rsyt := 0, grft := 0,
    startmode := 0, secs := .all [], dataOff := [], tables := .all [], tblcheck := 0, hasAuto := false,
    hasTrig := false, ents := [], routes := [], overlaps := [], substs := [], rules := [], tests := [],
    fbs := [], parts := [], settings := Settings.init }

/-- The ordering code WV4810-S in ASCII, padded with 0 (12 R344, 18 R480). -/
def Ident.partnoInit : Bytes :=
  [0x57, 0x56, 0x34, 0x38, 0x31, 0x30, 0x2D, 0x53, 0, 0, 0, 0, 0, 0, 0, 0]

def Ident.init : Ident :=
  { partno := Ident.partnoInit, serial := 0, hwrev := 1, macs := .both (.both 0), modaddr := 0, lc := .blank, lccnt := 0, creds := [],
    maintReq := none, lcReq := none, passes := [] }

/-- The module right after reset: as delivered, unpowered, with nothing loaded. -/
def State.reset : State :=
  { pending := [], id := Ident.init, lanes := .all LaneSt.init, cyc := CycleSt.init, app := AppSt.init,
    trl := TrellisSt.init, image := Image.init, set := Settings.init,
    cells := List.replicate 48 CellSt.init, banks := List.replicate 6 BankSt.init, frame := FrameSt.init,
    conns := [], nets := .both NetSt.init, pair := PairSt.init, flt := FaultSt.init, mail := MailSt.init,
    stage := StageSt.init, bridge := BridgeSt.init, tunnels := List.replicate 16 Tunnel.init,
    ports := List.replicate 4 LegacyPort.init, recs := RecSt.init, time := TimeSt.init, be := BeSt.init, upd := UpdSt.init, pow := PowerSt.init,
    netTx := [], legacyTx := [], plTx := [], splits := .all none, free := 0 }

end Sys2Proof.Machine
end

