-- ==== Sys2Proof/Machine/Ops.lean ====
section
/-! DEFINITION. Named reads and writes of the state: lanes, cells, banks, connections, networks, hedges,
stamps and free values. Every meaning goes through these. -/

namespace Sys2Proof.Machine

/-- The outcome type of every meaning. -/
abbrev Res := Host.Outcome State Fault Refusal

/-! ### Reads and writes of parts -/

def State.lane (s : State) (l : Lane) : LaneSt := s.lanes.get l

def State.updLane (s : State) (l : Lane) (f : LaneSt → LaneSt) : State :=
  { s with lanes := s.lanes.set l (f (s.lanes.get l)) }

/-- Every lane changed through f. -/
def State.updLanes (s : State) (f : LaneSt → LaneSt) : State := { s with lanes := s.lanes.map f }

def State.cell (s : State) (c : Nat) : CellSt := s.cells.getD c CellSt.init

def State.updCell (s : State) (c : Nat) (f : CellSt → CellSt) : State :=
  { s with cells := modAt f c s.cells }

def State.bank (s : State) (b : Nat) : BankSt := s.banks.getD b BankSt.init

def State.updBank (s : State) (b : Nat) (f : BankSt → BankSt) : State :=
  { s with banks := modAt f b s.banks }

def State.net (s : State) (n : Net) : NetSt := s.nets.at n

def State.updNet (s : State) (n : Net) (f : NetSt → NetSt) : State :=
  { s with nets := s.nets.put n (f (s.nets.at n)) }

def State.conn? (s : State) (n : Nat) : Option ConnSt := s.conns.find? (·.num == n)

def State.updConn (s : State) (n : Nat) (f : ConnSt → ConnSt) : State :=
  { s with conns := modWhere (·.num == n) f s.conns }

def State.connCfg? (s : State) (n : Nat) : Option ConnCfg := s.set.conns.find? (·.num == n)

def State.recv? (s : State) (n : Nat) : Option RecvRec := s.app.recvs.find? (·.conn == n)

def State.updRecv (s : State) (n : Nat) (f : RecvRec → RecvRec) : State :=
  { s with app := { s.app with recvs := modWhere (·.conn == n) f s.app.recvs } }

def State.elem? (s : State) (n : Nat) : Option Elem := s.app.elems.find? (·.num == n)

def State.updElem (s : State) (n : Nat) (f : Elem → Elem) : State :=
  { s with app := { s.app with elems := modWhere (·.num == n) f s.app.elems } }

def State.ent? (s : State) (n : Nat) : Option ElemEntry := s.image.ents.find? (·.num == n)

def routeInit : RouteCell :=
  { rstate := 0, flags := ⟨false, false, false, false, false, false, false, false⟩, origin := 0, lastfail := 0,
    reqseq := 0, cmdseq := 0, failelem := 0xFFFF, reldone := 0, relocc := 0, ovlused := 0xFFFF, stelap := 0,
    alelap := 0, olelap := 0, subs := [], ref := none, cancels := [] }

def State.cellRec (s : State) (r : Nat) : RouteCell := s.app.cells.getD r routeInit

def State.updRoute (s : State) (r : Nat) (f : RouteCell → RouteCell) : State :=
  { s with app := { s.app with cells := modAt f r s.app.cells } }

def State.box (s : State) (mb : Nat) : Mbox := s.mail.boxes.getD mb Mbox.init

def State.updBox (s : State) (mb : Nat) (f : Mbox → Mbox) : State :=
  { s with mail := { s.mail with boxes := modAt f mb s.mail.boxes } }

def State.tunnel (s : State) (t : Nat) : Tunnel := s.tunnels.getD t Tunnel.init

def State.updTunnel (s : State) (t : Nat) (f : Tunnel → Tunnel) : State :=
  { s with tunnels := modAt f t s.tunnels }

def State.port (s : State) (p : Nat) : LegacyPort := s.ports.getD p LegacyPort.init

def State.updPort (s : State) (p : Nat) (f : LegacyPort → LegacyPort) : State :=
  { s with ports := modAt f p s.ports }

def State.cellCfg (s : State) (c : Nat) : CellCfg := s.set.cells.getD c CellCfg.init

/-- The bank of a cell (01 R16). -/
def bankOf (c : Nat) : Nat := c / 8

/-- The cells of a bank. -/
def cellsOf (b : Nat) : List Nat := (List.range 8).map (8 * b + ·)

/-! ### Configuration bits of a cell (06 R180, 07 R209) -/

def cIn (c : CellCfg) : Bool := c.cmode == 1
def cOut (c : CellCfg) : Bool := c.cmode == 2
def cUsed (c : CellCfg) : Bool := c.cmode != 0
/-- PTEST of an input cell. -/
def cPtest (c : CellCfg) : Bool := cIn c && c.flags.getLsbD 0
def cPair (c : CellCfg) : Bool := cIn c && c.flags.getLsbD 1
def cAnti (c : CellCfg) : Bool := c.flags.getLsbD 2

/-! ### The effective drive falls (07 R210) -/

/-- A channel at a change of the effective drive: both windows open, and Px follows the drive again; the sample stands
until the settle window ends (07 R210, R220). (log 45, DESIGN CHOICE) (log 48, DEDUCED). -/
def ChSt.newDrive (now : Nat) (ch : ChSt) : ChSt := { ch with px := none, diff := 0, settle := now + 2, fbopen := some now }

/-- A cell's effective drive set, with its windows where it changes. (log 48, DEDUCED) -/
def State.putEff (s : State) (c : Nat) (e : Bool) : State :=
  if (s.cell c).eff == e then s
  else s.updCell c fun x => { x with eff := e, ch := x.ch.map (ChSt.newDrive s.time.ot) }

/-- Cells de-energised at once. -/
def State.dropEffs (s : State) (cs : List Nat) : State := cs.foldl (fun s c => s.putEff c false) s

/-! ### Lanes -/

def State.isActive (s : State) (l : Lane) : Bool := (s.lane l).st == .active

def State.actives (s : State) : List Lane := Lane.all.filter s.isActive

def State.nActive (s : State) : Nat := s.actives.length

/-- The lowest-lettered ACTIVE lane; A where none is. -/
def State.lowLane (s : State) : Lane := s.actives.headD .a

/-- The lane in RESYNC, if one is. -/
def State.resyncLane (s : State) : Option Lane := Lane.all.find? fun l => (s.lane l).st == .resync

/-- The lanes whose channels form the value of a cell: the ACTIVE lanes, or in split mode the one lane whose cycle runs
(05 R177). -/
def State.inLanes (s : State) : List Lane := if s.pow.split then s.cyc.lane.toList else s.actives

/-- Lanes that post slot and round marks: ACTIVE, or SPLIT in split mode (06 R185). -/
def State.markers (s : State) : List Lane :=
  Lane.all.filter fun l => (s.lane l).st == .active || (s.lane l).st == .split

/-- The lanes that compute the cycle in hand: ACTIVE or in RESYNC, or in split mode the one whose cycle runs (05 R168,
R176). -/
def State.computing (s : State) : List Lane :=
  if s.pow.split then s.cyc.lane.toList else Lane.all.filter fun l => s.isActive l || (s.lane l).st == .resync

def LaneState.code : LaneState → Nat
  | .active => 0
  | .withdrawn => 1
  | .resync => 2
  | .split => 3

def LHold.code : LHold → Nat
  | .none => 0
  | .checking => 1
  | .waiting => 2
  | .untilRestart => 3
  | .latchedOut => 4

def ModState.code : ModState → Nat
  | .boot => 0
  | .sync => 1
  | .rejoin => 2
  | .service => 3
  | .safe => 4
  | .terminal => 5

def ExecMode.code : ExecMode → Nat
  | .run => 0
  | .stop => 1
  | .hold => 2

def ExecMode.ofCode : Nat → ExecMode
  | 0 => .run
  | 1 => .stop
  | _ => .hold

def LcState.code : LcState → Nat
  | .blank => 0
  | .provisioned => 1
  | .commissioning => 2
  | .service => 3
  | .maintenance => 4
  | .quarantine => 5
  | .retired => 6
  | .bench => 7

def LcState.ofCode : Nat → Option LcState
  | 0 => some .blank
  | 1 => some .provisioned
  | 2 => some .commissioning
  | 3 => some .service
  | 4 => some .maintenance
  | 5 => some .quarantine
  | 6 => some .retired
  | 7 => some .bench
  | _ => none

def PairState.code : PairState → Nat
  | .unpaired => 0
  | .joining => 1
  | .followOut => 2
  | .followIn => 3
  | .lead => 4
  | .silent => 5

def MbState.code : MbState → Nat
  | .free => 0
  | .owned => 1
  | .posted => 2
  | .running => 3
  | .done => 4

def StgState.code : StgState → Nat
  | .empty => 0
  | .opened => 1
  | .checking => 2
  | .checked => 3
  | .applying => 4

/-- Does the module run vital cycles, in SYNC, REJOIN or SERVICE? -/
def State.cycling (s : State) : Bool :=
  s.pow.mod == .sync || s.pow.mod == .rejoin || s.pow.mod == .service

/-- SAFE or TERMINAL: the widest reactions. -/
def State.stopped (s : State) : Bool := s.pow.mod == .safe || s.pow.mod == .terminal

/-- The role of the image (02 R38): 1 LOGIC, 2 OBJECT, 3 LOGIC+OBJECT, 4 GATEWAY, 5 NON-VITAL. -/
def State.drives (s : State) : Bool := s.image.role == 2 || s.image.role == 3

/-- Is the Trellis used in the image's role (01 R34)? -/
def State.usesTe (s : State) : Bool := s.image.role == 1 || s.image.role == 3 || s.image.role == 5

/-- A member of a pair (09 R261): the partner link is used in the LOGIC role alone (01 R34). -/
def State.paired (s : State) : Bool := s.set.pair.prole != 0 && s.image.role == 1

/-! ### Fault source IDs -/

/-- The 32-bit word of a fault source ID (01 R18). -/
def fword (f : Fsid) : Nat :=
  (f.level % 8) * 2 ^ 29 + (f.region % 8) * 2 ^ 26 + (f.block % 64) * 2 ^ 20 + (f.cell % 4096) * 2 ^ 8 + f.det % 256

def fCell (c det : Nat) : Fsid := ⟨0, 3, 0x10 + bankOf c, c, det⟩
def fBank (b det : Nat) : Fsid := ⟨1, 3, 0x10 + b, 0, det⟩
def fConn (c det : Nat) : Fsid := ⟨0, 3, 0x16, c, det⟩
/-- Block level in a lane's region. -/
def fLaneBlk (l : Lane) (block det : Nat) : Fsid := ⟨1, l.num, block, 0, det⟩
/-- Region level, block 0x00, in a lane's region. -/
def fLane (l : Lane) (det : Nat) : Fsid := ⟨2, l.num, 0, 0, det⟩
def fMf (det : Nat) : Fsid := ⟨3, 3, 0x1D, 0, det⟩
def fXh (det : Nat) : Fsid := ⟨3, 3, 0x1C, 0, det⟩
/-- Block level in the commons or the service region. -/
def fBlk (block det : Nat) : Fsid := ⟨1, if block < 0x20 then 3 else 4, block, 0, det⟩
def fBe (det : Nat) : Fsid := ⟨3, 4, 0x24, 0, det⟩

/-- A detector number that the manual leaves open: the event `k` of log 6. In a word it is one of 0x80 to 0xBF, which no
rule gives to any block (10 R485); the model keeps it from 256 on, so that its class is the one its rule states.
(log 6, DESIGN CHOICE) -/
def openNum (k : Nat) : Nat := 256 + 0x80 + Config.openDet k % 64

def laneOfRegion : Nat → Option Lane
  | 0 => some .a
  | 1 => some .b
  | 2 => some .c
  | _ => none

/-! ### The commons token (01 R22) -/

def Token.region : Token → Nat
  | .la => 0
  | .lb => 1
  | .lc => 2
  | .sv => 4

def Token.succ : Token → Token
  | .la => .lb
  | .lb => .lc
  | .lc => .sv
  | .sv => .la

/-- Does the hub offer the token to this region? -/
def State.offered (s : State) (t : Token) : Bool :=
  match laneOfRegion t.region with
  | some l => (s.lane l).st != .withdrawn
  | none => s.pow.sv

/-- The next holder in the order LA, LB, LC, SV. -/
def State.nextToken (s : State) (t : Token) : Token :=
  (([t.succ, t.succ.succ, t.succ.succ.succ].find? s.offered)).getD t

/-- The token goes on to the next region that the hub offers it to. -/
def State.passToken (s : State) : State :=
  { s with cyc := { s.cyc with token := s.nextToken s.cyc.token, tokencnt := 0 } }

/-- A holder that the hub may no longer offer the token to gives it up. -/
def State.settleToken (s : State) : State := if s.offered s.cyc.token then s else s.passToken

/-- A region makes one transfer to a commons block. The token circulates to it past the regions with nothing to send; after
its 16th transfer the holder passes it on. -/
def State.spendToken (s : State) (t : Token) : State :=
  if !s.offered t then s
  else
    let n := if s.cyc.token == t then s.cyc.tokencnt + 1 else 1
    let s := { s with cyc := { s.cyc with token := t, tokencnt := n } }
    if 16 ≤ n then s.passToken else s

/-- The region of a lane as a holder. -/
def tokenOf : Lane → Token
  | .a => .la
  | .b => .lb
  | .c => .lc

/-! ### Hedges (10 R291) -/

/-- Is the item hedged in effect? -/
def State.hedgedNow (s : State) (k : HKind) (i : Nat) : Bool :=
  s.flt.hedges.any fun h => h.kind == k && h.index == i && !h.pending

/-- Is the item hedged, in effect or from the next executed start? -/
def State.hedgedAny (s : State) (k : HKind) (i : Nat) : Bool :=
  s.flt.hedges.any fun h => h.kind == k && h.index == i

def State.hedge? (s : State) (k : HKind) (i : Nat) : Option Hedge :=
  s.flt.hedges.find? fun h => h.kind == k && h.index == i

/-- The hedge of an item set, keeping one entry for each item and cause. -/
def State.addHedge (s : State) (h : Hedge) : State :=
  if s.flt.hedges.any (fun x => x.kind == h.kind && x.index == h.index && x.fsid == h.fsid) then s
  else { s with flt := { s.flt with hedges := s.flt.hedges ++ [h] } }

def State.dropHedges (s : State) (p : Hedge → Bool) : State :=
  { s with flt := { s.flt with hedges := s.flt.hedges.filter (!p ·) } }

def State.updHedges (s : State) (p : Hedge → Bool) (f : Hedge → Hedge) : State :=
  { s with flt := { s.flt with hedges := modWhere p f s.flt.hedges } }

/-- The members of the output group of a cell: the cell alone where OGROUP is 0 (07 R222). -/
def State.members (s : State) (c : Nat) : List Nat :=
  if cOut (s.cellCfg c) && (s.cellCfg c).ogroup != 0 then
    (List.range Config.nCells).filter fun d => cOut (s.cellCfg d) && (s.cellCfg d).ogroup == (s.cellCfg c).ogroup
  else [c]

/-- A bank hedged in effect, for any cause. -/
def State.bankHedged (s : State) (b : Nat) : Bool := s.hedgedNow .bank b || s.hedgedNow .block (0x10 + b)

/-- The cell's own hedge, its bank's, or its place under the cloche. -/
def State.cellOut (s : State) (c : Nat) : Bool :=
  s.hedgedNow .cell c || s.bankHedged (bankOf c) || (s.cell c).under

/-- A cell hedged in effect, through itself, its bank, the cloche or its group (07 R222). -/
def State.cellHedged (s : State) (c : Nat) : Bool := (s.members c).any s.cellOut

/-- Is the TG being reset (10 R300)? -/
def State.tgReset (s : State) : Bool := s.hedgedNow .block 0x16

/-- A connection hedged in effect: FAULT, or a reset of the TG. -/
def State.connHedged (s : State) (n : Nat) : Bool := s.hedgedNow .conn n || s.tgReset

/-- Does a network carry frames (10 R291, R300)? A hedge of a block acts at once. -/
def State.netUp (s : State) (n : Net) : Bool :=
  let blk := match n with | .a => 0x17 | .b => 0x18
  !(s.hedgedAny .net (match n with | .a => 0 | .b => 1) || s.hedgedAny .block blk)

/-- Are the commons supplied? -/
def State.cmUp (s : State) : Bool := s.pow.on && s.pow.commons

/-- Is a commons or service block reset or hedged? -/
def State.blockOut (s : State) (blk : Nat) : Bool := s.hedgedAny .block blk

/-- The partner link carries messages: a link up, PL and TV not under reset, commons supplied. -/
def State.plWorks (s : State) : Bool :=
  s.cmUp && !s.pow.split && (s.pair.plup.fst || s.pair.plup.snd) && !s.blockOut 0x19 && !s.blockOut 0x1E

/-- A message sent on both links: one copy on each that is up, `true` for PL2. -/
def State.plSend (s : State) (m : PlMsg) : State :=
  if s.plWorks then { s with plTx := s.plTx ++ ([false, true].filter s.pair.plup.sel).map fun l => (l, m) } else s

/-- The execution mode at a boot and on entry into SERVICE (04 R136, R137). -/
def State.firstMode (s : State) : ExecMode :=
  if s.image.startmode == 1 && (s.id.lc == .commissioning || s.id.lc == .bench) then .stop else .run

/-! ### Free values -/

/-- A fresh free value, and the state with the counter advanced. (log 5, DESIGN CHOICE) -/
def State.fresh (s : State) : BitVec 64 × State := (Config.freeValue s.free, { s with free := s.free + 1 })

/-- n fresh bytes. -/
def State.freshBytes : Nat → State → Bytes × State
  | 0, s => ([], s)
  | n + 1, s =>
    let (v, s) := s.fresh
    let (bs, s) := State.freshBytes n s
    (v.truncate 8 :: bs, s)

/-- A fresh number below 2^n. -/
def State.freshNat (s : State) (n : Nat) : Nat × State := ((Config.freeValue s.free).toNat % 2 ^ n, { s with free := s.free + 1 })

/-- A fresh number that is not 0, below 2^16 (12 R357). -/
def State.freshCode (s : State) : Nat × State :=
  ((Config.freeValue s.free).toNat % (2 ^ 16 - 1) + 1, { s with free := s.free + 1 })

/-! ### Sequencing -/

/-- The steps of a list, in order. -/
def State.each {α : Type} (s : State) (xs : List α) (f : State → α → State) : State := xs.foldl f s

/-- f where the condition holds; s where it does not. -/
def State.when (s : State) (p : Bool) (f : State → State) : State := if p then f s else s

end Sys2Proof.Machine
end

