-- ==== Sys2Proof/Machine/Layout.lean ====
section
/-! DEFINITION. Declared instance data as bytes (02 R45, R74, 03 R77, R111, 08 R246): each record in its
64-byte layout, and the whole string that the state digest covers (05 R152). -/

namespace Sys2Proof.Machine

/-! ### Element records -/

/-- Type codes (02 R49). -/
def bodyType : Body → Nat
  | .point _ => 0x01
  | .sslip _ => 0x02
  | .dslip _ => 0x03
  | .signal _ => 0x04
  | .tcsec _ => 0x05
  | .acsec _ => 0x06
  | .lxing _ => 0x07
  | .blockif _ => 0x08
  | .keylock _ => 0x09
  | .shuntarea _ => 0x0A
  | .gvar _ => 0x0B
  | .ptdrive _ => 0x0C

/-- HSTAT bit 4: no cause of bits 0 to 3 (02 R45). -/
def avail (e : Elem) : Bool := !e.hedged && !e.undertest && !e.forceblk && e.fltcode == 0

/-- HSTAT (02 R45). -/
def hstat (e : Elem) : Nat :=
  b2n e.hedged + 2 * b2n e.undertest + 4 * b2n e.forceblk + 8 * b2n (e.fltcode != 0) + 16 * b2n (avail e)

/-- Bytes 0x10 to 0x3D of an element record. -/
def bodyBytes : Body → Bytes
  | .point b => le 1 b.posdet ++ le 1 b.poscmd ++ le 1 b.movest ++
      le 1 (b2n b.trailWired + 2 * b2n b.keyWired) ++ le 2 b.movepre ++ le 1 b.posreq ++ zeros 1 ++ le 4 b.moveelap
  | .sslip b => le 2 b.membera ++ le 2 b.memberb ++ le 1 b.routdet ++ le 1 b.forbid
  | .dslip b => le 2 b.membera ++ le 2 b.memberb ++ le 1 b.routdet ++ le 1 b.forbid
  | .signal b => le 1 b.aspreq ++ le 1 b.aspshown ++ le 1 b.indreq ++ zeros 1 ++ le 2 b.route ++ le 2 b.provpre ++
      le 4 b.provelap
  | .tcsec b => le 1 b.occ ++ zeros 1 ++ le 2 b.clrpre ++ le 4 b.clrelap
  | .acsec b => le 1 b.occ ++ le 1 b.rststate ++ le 2 b.rstpre ++ le 4 b.rstelap ++ le 4 b.rstseq ++ le 2 b.clrpre ++
      zeros 2 ++ le 4 b.clrelap
  | .lxing b => le 1 b.lxstate ++ zeros 1 ++ le 2 b.closepre ++ le 4 b.closeelap ++ le 2 b.opendly ++ zeros 2 ++
      le 4 b.openelap
  | .blockif b => le 1 b.blkstate ++ le 1 b.dirwant ++ le 2 b.nbraddr ++ le 2 b.dirpre ++ le 2 b.linesec ++
      le 4 b.direlap
  | .keylock b => le 1 b.klstate ++ le 1 b.relreq ++ le 2 b.arearoute
  | .shuntarea b => le 1 b.sastate ++ zeros 1 ++ le 2 b.arearoute
  | .gvar b => le 4 b.value ++ le 4 b.default ++ le 1 b.width ++ le 1 b.gdir
  | .ptdrive b => le 1 b.cmdconn ++ le 1 b.cmdslot ++ le 1 b.rptconn ++ le 1 b.rptslot ++ le 2 b.cmdword ++
      le 2 b.rptword ++ le 1 b.nin

/-- The 64 bytes of an element record (02 R45). -/
def elemBytes (e : Elem) : Bytes :=
  le 1 (bodyType e.body) ++ le 1 (hstat e) ++ le 1 e.lockcnt ++ le 1 e.claimcnt ++ le 4 e.instid ++
  le 2 e.curin.toNat ++ le 2 e.previn.toNat ++ le 2 e.outcmd.toNat ++ le 2 e.fltcode ++
  padTo 46 (bodyBytes e.body) ++ le 2 e.fltheld.toNat

/-! ### Route cell and Trellis records -/

def rflagsByte (f : RFlags) : Nat :=
  b2n f.admitted + 2 * b2n f.cancel + 4 * b2n f.autoon + 8 * b2n f.trigarm + 16 * b2n f.blocked +
  32 * b2n f.condlost + 64 * b2n f.clrseen + 128 * b2n f.erl

/-- SUB0 to SUB3, unused as 0xFFFF. -/
def subWords (l : List Nat) : Bytes := ((l ++ [0xFFFF, 0xFFFF, 0xFFFF, 0xFFFF]).take 4).flatMap (le 2)

/-- The 64 bytes of a route cell record (03 R77). -/
def routeBytes (c : RouteCell) : Bytes :=
  le 1 c.rstate ++ le 1 (rflagsByte c.flags) ++ le 1 c.origin ++ le 1 c.lastfail ++ le 4 c.reqseq ++ le 4 c.cmdseq ++
  le 2 c.failelem ++ le 1 c.reldone ++ zeros 1 ++ le 2 c.relocc.toNat ++ le 2 c.ovlused ++ le 4 c.stelap ++
  le 4 c.alelap ++ le 4 c.olelap ++ subWords c.subs ++ zeros 24

/-- The Trellis status record (03 R111). -/
def trellisBytes (t : TrellisRec) : Bytes :=
  le 4 t.nextseq ++ le 2 t.nwait ++ le 2 t.neval ++ le 2 t.tblslice ++ zeros 6 ++ le 8 t.tblchk ++
  le 4 t.notentered ++ zeros 36

/-! ### Send and receive records -/

def sendBytes (r : SendRec) : Bytes := le 4 r.sseq ++ le 2 r.salive ++ zeros 10

/-- A signed 64-bit field. -/
def leInt (v : Int) : Bytes := le 8 (v % (2 ^ 64 : Int)).toNat

/-- The 1,088 bytes of a receive record (08 R246). -/
def recvBytes (r : RecvRec) : Bytes :=
  le 1 r.cstate ++ le 1 r.cusedp ++ le 2 r.lastepoch ++ le 4 r.lastseq ++ le 8 r.arrival ++
  le 8 r.lastot.fst ++ le 8 r.lastot.snd ++ zeros 0 ++ leInt r.base.fst ++ leInt r.base.snd ++
  le 2 r.lastalive.fst ++ le 2 r.lastalive.snd ++ le 4 r.serial.fst ++ le 4 r.serial.snd ++ le 4 r.estseq ++
  padTo 1024 r.payload

/-- Filled with zeros to a multiple of 64 bytes. -/
def pad64 (b : Bytes) : Bytes := b ++ zeros ((64 - b.length % 64) % 64)

/-- The element records, each at its IDOFF; gaps are 0. -/
def elemPart (img : Image) (es : List Elem) : Bytes :=
  es.foldl (fun b e => match img.ents.find? (·.num == e.num) with
    | some t => patch b t.idoff (elemBytes e)
    | none => b ++ elemBytes e) []

/-- A part placed after those before it, at the offset that the image header gives; where it gives none, at the next
64-byte boundary. -/
def placePart (offs : List Nat) (b : Bytes) (x : Bytes × Nat) : Bytes :=
  let off := offs.getD x.2 ((b.length + 63) / 64 * 64)
  b ++ zeros (off - b.length) ++ x.1

/-- The whole declared instance data, in its parts, to its declared size (02 R74). -/
def declared (img : Image) (a : AppSt) : Bytes :=
  let b := [elemPart img a.elems, a.cells.flatMap routeBytes, trellisBytes a.trellis, a.sends.flatMap sendBytes,
    a.recvs.flatMap recvBytes, a.fbData].zipIdx.foldl (placePart img.dataOff) []
  pad64 (b ++ zeros (img.dataSize - b.length))

/-- The state digest of a cycle (05 R152): declared data, then the core state record. -/
def digestOf (img : Image) (a : AppSt) (core : Bytes) : Nat := crc64 (declared img a ++ core)

/-- Size of a digest partition: an eighth of the declared size, rounded up to 64 bytes (05 R153). -/
def partSize (n : Nat) : Nat := ((n + 7) / 8 + 63) / 64 * 64

/-- DIGPART k (05 R153): over partition k, with the core state record appended to partition 7. -/
def digPart (img : Image) (a : AppSt) (core : Bytes) (k : Nat) : Nat :=
  let d := declared img a
  let n := partSize d.length
  let p := (d.drop (k * n)).take n
  crc64 (if k == 7 then p ++ core else p)

/-! ### Payload slots (08 R233) -/

/-- Slot n of a payload: 32 bits, most significant byte first. -/
def slot32 (p : Bytes) (n : Nat) : Nat := ofLe (slice p (4 * n) 4).reverse

/-- The bits [15:0] of a slot. -/
def slotWord (p : Bytes) (n : Nat) : BitVec 16 := BitVec.ofNat 16 (slot32 p n)

/-- A payload with the low half of slot n set. -/
def putSlot (p : Bytes) (n : Nat) (v : BitVec 16) : Bytes := patch p (4 * n) (bigE 4 v.toNat)

/-! ### Stamps (08 R231) -/

/-- A time in µs of OT in the format of PSTAMP: OT in ms above bit 16, µs below. -/
def stampOf (us : Nat) : Nat := us / 1000 * 65536 + us % 1000

/-- The µs of OT that a stamp says. -/
def stampUs (st : Nat) : Nat := st / 65536 * 1000 + st % 65536

end Sys2Proof.Machine
end

