-- ==== Sys2Proof/Machine/Detectors.lean ====
section
/-! DEFINITION. The detectors of the module: their vendor defaults and bounds (10 R297), the escalation
entries over them, and which detectors depend on a block under reset (10 R300). -/

namespace Sys2Proof.Machine

/-- A detector with its vendor defaults: level, block, detector, BASE, N, W in ms, ceiling, and whether it
accepts an escalation entry (R298). -/
structure DetRow where
  level : Nat
  block : Nat
  det : Nat
  base : Nat
  n : Nat
  w : Nat
  ceil : Nat
  fixed : Bool
  deriving DecidableEq, Repr

/-- A detector without counting: N 0, the ceiling its base. -/
def plainDet (level block base : Nat) (dets : List Nat) : List DetRow :=
  dets.map fun d => ⟨level, block, d, base, 0, 0, base, base == 5⟩

/-- Detectors of the cells and banks of one bank (06, 07 R219, R197, R198, R212, 15 R418). -/
def bankDets (b : Nat) : List DetRow :=
  let blk := 0x10 + b
  plainDet 0 blk 2 [0x01, 0x02, 0x03, 0x04, 0x05] ++ plainDet 0 blk 1 [0x06] ++
  plainDet 0 blk 2 [0x10, 0x11, 0x12, 0x13, 0x14, 0x15, 0x16] ++ plainDet 0 blk 1 [0x17] ++
  plainDet 0 blk 2 [0x18, 0x40] ++
  plainDet 1 blk 2 [0x01, 0x02, 0x03, 0x04, 0x05, 0x40, 0xE0, 0xF0]

/-- Detectors of the lane regions (R485, R288, 11 R311, 15 R418). -/
def laneDets : List DetRow :=
  plainDet 1 0x01 3 [0x40, 0xE0] ++ plainDet 1 0x02 3 [0x40, 0xE0] ++ plainDet 1 0x03 3 [0x40, 0xE0] ++
  plainDet 1 0x04 3 [0x10, 0x40, 0xE0] ++ plainDet 1 0x05 3 [0x01, 0x02, 0x40, 0xE0] ++
  plainDet 1 0x06 3 [0x01, 0x40, 0xE0] ++ plainDet 1 0x07 3 [0x40, 0xE0] ++
  plainDet 1 0x08 3 [0x01, 0x20, 0x40, 0xE0] ++
  plainDet 2 0x00 1 [0x01] ++ [⟨2, 0, 0x02, 1, 0, 0, 1, true⟩] ++ plainDet 2 0x00 3 [0x03] ++
  [⟨2, 0, 0x04, 3, 0, 0, 3, true⟩, ⟨2, 0, 0x05, 1, 0, 0, 1, true⟩] ++ plainDet 2 0x00 1 [0x06] ++
  plainDet 2 0x00 3 [0x07, 0x08]

/-- Element fault sources (02 R70) and route events (03 R101): ceiling fixed at F1. -/
def vitalDets : List DetRow :=
  [0x01, 0x02, 0x10, 0x11, 0x20, 0x21, 0x30, 0x40, 0x50].map (fun k => ⟨0, 0x02, k, 1, 0, 0, 1, false⟩) ++
  [⟨0, 0x03, 0x01, 1, 0, 0, 1, false⟩]

/-- Connection detectors (08 R253). -/
def connDets : List DetRow :=
  plainDet 0 0x16 1 [0x01] ++ plainDet 0 0x16 2 [0x02] ++ plainDet 0 0x16 1 [0x03] ++
  [⟨0, 0x16, 0x04, 0, 10, 1000, 2, false⟩, ⟨0, 0x16, 0x05, 0, 10, 1000, 2, false⟩,
   ⟨0, 0x16, 0x06, 0, 50, 10000, 2, false⟩] ++
  plainDet 0 0x16 1 [0x07, 0x08, 0x0A] ++ [⟨0, 0x16, 0x10, 1, 0, 0, 1, true⟩]

/-- Detectors of the other commons blocks (13 R381, 10 R288, R300, R485, 17 R453, R463, 18 R473, 14 R404). -/
def commonsDets : List DetRow :=
  plainDet 1 0x16 2 [0xE0] ++ plainDet 1 0x16 4 [0xF0] ++
  plainDet 1 0x17 2 [0xE0, 0xF0] ++ plainDet 1 0x18 2 [0xE0, 0xF0] ++ plainDet 1 0x19 2 [0xE0, 0xF0] ++
  plainDet 1 0x19 1 [0x10] ++
  [⟨1, 0x1A, 0x01, 0, 32, 60000, 1, false⟩, ⟨1, 0x1A, 0x02, 0, 32, 60000, 1, false⟩,
   ⟨1, 0x1A, 0x03, 0, 50, 10000, 1, false⟩, ⟨1, 0x1A, 0x04, 0, 0, 0, 1, false⟩] ++
  plainDet 1 0x1A 1 [0x05] ++ plainDet 1 0x1A 2 [0xE0, 0xF0] ++
  [⟨0, 0x1B, 0x01, 0, 50, 10000, 1, false⟩, ⟨0, 0x1B, 0x02, 0, 50, 10000, 1, false⟩] ++
  (List.range 16).map (fun t => ⟨0, 0x1B, 0x20 + t, 1, 0, 0, 1, false⟩) ++
  plainDet 1 0x1B 2 [0xE0, 0xF0] ++
  plainDet 3 0x1C 4 [0x01, 0x02] ++ [⟨3, 0x1C, 0x03, 4, 0, 0, 4, true⟩] ++ plainDet 1 0x1C 2 [0xE0] ++
  plainDet 3 0x1D 5 [0x01, 0x02, 0x03] ++ plainDet 3 0x1D 4 [0x04, 0x05, 0x33] ++
  plainDet 3 0x1D 1 [0x30, 0x31, 0x32, 0x34, 0x35, 0x36, 0x37, 0x38] ++ plainDet 1 0x1D 1 [0x10] ++
  plainDet 1 0x1E 2 [0xE0, 0xF0]

/-- Detectors of the service region (R485, R300, 14 R404, 15 R418, R428, R429). -/
def serviceDets : List DetRow :=
  plainDet 1 0x20 2 [0xE0] ++ plainDet 1 0x21 2 [0xE0] ++ plainDet 1 0x21 3 [0xF0] ++
  plainDet 1 0x22 1 [0x01, 0x04] ++ plainDet 1 0x22 2 [0xE0] ++ plainDet 1 0x22 3 [0xF0] ++
  plainDet 1 0x23 1 [0x02, 0x03] ++ plainDet 1 0x23 2 [0xE0] ++ plainDet 1 0x23 3 [0xF0] ++
  plainDet 1 0x24 1 [0x40] ++ plainDet 1 0x24 2 [0xE0] ++ plainDet 1 0x24 3 [0xF0] ++
  plainDet 3 0x24 4 [0x50] ++ plainDet 3 0x24 1 [0x51]

/-- Every detector the manual numbers, in ascending block within each group. -/
def detTable : List DetRow :=
  laneDets ++ vitalDets ++ (List.range 6).flatMap bankDets ++ connDets ++ commonsDets ++ serviceDets

/-- The row of a fault source ID. -/
def detRow? (f : Fsid) : Option DetRow :=
  detTable.find? fun d => d.level == f.level && d.block == f.block && d.det == f.det

/-- The settings in force for a detector: the escalation entry where one names it, else the defaults. A
detector the manual does not number has the base class its rule gives and no counting. -/
def detSettings (s : State) (f : Fsid) (dflt : Nat) : Nat × Nat × Nat × Nat :=
  match s.set.esc.find? fun e => e.level == f.level && e.block == f.block && e.det == f.det with
  | some e => (e.base, e.ceil, e.n, e.w)
  | none =>
    match detRow? f with
    | some d => (d.base, d.ceil, d.n, d.w)
    | none => (dflt, dflt, 0, 0)

/-- The vendor bounds of a detector: largest N and least W (R297). -/
def DetRow.nMax (d : DetRow) : Nat := if d.n == 0 then 255 else d.n
def DetRow.wMin (d : DetRow) : Nat := if d.n == 0 then 1000 else d.w

/-- Element fault sources and route events keep their ceiling (R298). -/
def DetRow.ceilFixed (d : DetRow) : Bool := d.level == 0 && (d.block == 0x02 || d.block == 0x03)

/-- Does an escalation entry stay inside the vendor bounds (R297, R298)? -/
def escOk (e : EscEntry) : Bool :=
  match detTable.find? fun d => d.level == e.level && d.block == e.block && d.det == e.det with
  | none => false
  | some d =>
    !d.fixed && d.base ≤ e.base && e.base ≤ 4 && e.base ≤ e.ceil && d.ceil ≤ e.ceil && e.ceil ≤ 4 &&
    (!d.ceilFixed || e.ceil == d.ceil) && (if e.n == 0 then d.n == 0 else e.n ≤ d.nMax) &&
    d.wMin ≤ e.w && e.w ≤ 86400000

/-! ### The reaction shadow (R299, R300) -/

/-- The settle window of a resettable block in ms; none for a block that is not reset. -/
def settleMs (blk : Nat) : Option Nat :=
  if 0x10 ≤ blk && blk ≤ 0x15 then some 2
  else match blk with
    | 0x16 => some 3
    | 0x17 => some 5
    | 0x18 => some 5
    | 0x19 => some 4
    | 0x1A => some 2
    | 0x1B => some 1
    | 0x1E => some 1
    | 0x21 => some 5
    | 0x22 => some 5
    | 0x23 => some 5
    | 0x24 => some 5
    | _ => none

/-- Does *Settle windows* list the detector as a dependant of the block under reset? -/
def dependant (blk : Nat) (f : Fsid) : Bool :=
  if 0x10 ≤ blk && blk ≤ 0x15 then
    f.block == blk && (f.level == 0 || (f.level == 1 && 1 ≤ f.det && f.det ≤ 3))
  else match blk with
    | 0x16 => f.block == 0x16 && f.level == 0 && 4 ≤ f.det && f.det ≤ 7
    | 0x17 => f.block == 0x16 && f.level == 0 && 4 ≤ f.det && f.det ≤ 7
    | 0x18 => f.block == 0x16 && f.level == 0 && 4 ≤ f.det && f.det ≤ 7
    | 0x19 => f.block == 0x19 && f.det != 0xF0
    | 0x1A => f.block == 0x1A && f.det != 0xF0
    | 0x1B => f.block == 0x1B && f.det != 0xF0
    | 0x1E => (f.block == 0x1E && f.det != 0xF0) || f.block == 0x19 || f.block == 0x23
    | _ => 0x21 ≤ blk && blk ≤ 0x24 && f.region == 4 && f.det != 0xF0

end Sys2Proof.Machine
end

