-- ==== Sys2Proof/Machine/Records.lean ====
section
/-! DEFINITION. Records, logs and time stamps (14): SEQ and its ceiling, the fault log, the ingest queue with
coalescing, rate limits and drops, the archive, the change log and the last-resort registers. -/

namespace Sys2Proof.Machine

/-- RFLAGS bits 0 and 1 as they stand (R391). -/
def State.rflags (s : State) : Nat := b2n s.time.wtvalid + 2 * b2n s.time.lock

/-- The next SEQ, with the ceiling raised by 2^32 whenever the counter comes within 2^31 of it (R385). -/
def State.takeSeq (s : State) : Nat × State :=
  let n := s.recs.seq + 1
  let ceil := if n + 2 ^ 31 ≥ s.recs.seqceil then s.recs.seqceil + 2 ^ 32 else s.recs.seqceil
  (n, { s with recs := { s.recs with seq := n, seqceil := ceil } })

def State.updRecs (s : State) (f : RecSt → RecSt) : State := { s with recs := f s.recs }

/-- n consecutive SEQ values: the number before the first, with the ceiling raised as for each of them. -/
def State.takeSeqs (s : State) (n : Nat) : Nat × State :=
  let m := s.recs.seq + n
  let ceil := if m + 2 ^ 31 ≥ s.recs.seqceil then s.recs.seqceil + 2 ^ 32 else s.recs.seqceil
  (s.recs.seq, if n == 0 then s else s.updRecs fun r => { r with seq := m, seqceil := ceil })

/-! ### Priorities and sources (R391) -/

/-- Priority of a kind: 0 trace, 1 event, 2 alarm; a fault event's depends on its class. -/
def kindPrio (kind cls : Nat) : Nat :=
  match kind with
  | 0x01 => if cls == 0 then 1 else 2
  | 0x08 => 0
  | 0x09 => 2
  | 0x0B => 2
  | 0x0C => 2
  | 0x0D => 2
  | _ => 1

/-- Rate limit of a priority in records per second (R399). -/
def rateLimit : Nat → Nat
  | 0 => 10
  | 1 => 20
  | _ => 100

/-! ### The ingest queue (R399, R400) -/

def queueCap : Nat := 4096
def queueReserve : Nat := 512

/-- The list without its newest entry of priority p; none where there is none. -/
def dropNewest (p : Nat) (q : List (Nat × Rec)) : Option (List (Nat × Rec)) :=
  if q.any (·.1 == p) then some ((q.reverse.eraseP (·.1 == p)).reverse) else none

def RecSt.countDrop (r : RecSt) (prio : Nat) (byRate : Bool) : RecSt :=
  let (a, e, t, rt) := r.drops
  let rt := rt + b2n byRate
  let r := { r with droprate := if byRate then satInc 32 r.droprate else r.droprate }
  match prio with
  | 0 => { r with droptrc := satInc 32 r.droptrc, drops := (a, e, t + 1, rt) }
  | 1 => { r with dropevt := satInc 32 r.dropevt, drops := (a, e + 1, t, rt) }
  | _ => { r with dropalm := satInc 32 r.dropalm, drops := (a + 1, e, t, rt) }

/-- A record into the queue, by R400. -/
def RecSt.enqueue (r : RecSt) (prio : Nat) (x : Rec) : RecSt :=
  let put (r : RecSt) (q : List (Nat × Rec)) : RecSt := { r with queue := q ++ [(prio, x)] }
  match prio with
  | 0 => if r.queue.length < queueCap - queueReserve then put r r.queue else r.countDrop 0 false
  | 1 =>
    if r.queue.length < queueCap - queueReserve then put r r.queue
    else match dropNewest 0 r.queue with
      | some q => put (r.countDrop 0 false) q
      | none => r.countDrop 1 false
  | _ =>
    if r.queue.length < queueCap then put r r.queue
    else match dropNewest 0 r.queue with
      | some q => put (r.countDrop 0 false) q
      | none =>
        match dropNewest 1 r.queue with
        | some q => put (r.countDrop 1 false) q
        | none => r.countDrop 2 false

/-- Does the recorder work: the service region in service, and RC answering (01 R15, 10 R300)? -/
def State.rcWorks (s : State) : Bool := s.pow.sv && !s.blockOut 0x22

/-- A record towards RC: queued, or held in commons memory while the service region is out of service
(01 R15) or RC answers nothing (10 R300). -/
def State.toRc (s : State) (prio : Nat) (x : Rec) : State :=
  if s.rcWorks then s.updRecs (·.enqueue prio x)
  else s.updRecs fun r => { r with held := r.held ++ [(prio, { x with flags := x.flags ||| 4 })] }

/-- A record with the present stamps. -/
def State.stamp (s : State) (seq ot kind flags : Nat) (body : Bytes) : Rec :=
  { seq := seq, ot := ot, flags := s.rflags ||| flags, kind := kind, wt := s.time.wt, count := 1,
    pc := s.time.pc, body := body, prio := kindPrio kind (rd body 4 1 / 8 % 8) }

/-- The body of a count record (R391, kind 0x0A). -/
def countBody (c : Coal) : Bytes :=
  le 1 c.kind ++ zeros 3 ++ le 4 c.source ++ le 8 c.first ++ le 8 c.last ++ le 4 c.count

/-! ### The fault log (R390, R395) -/

/-- Usable records of a log of n segments of size k, with those in `out` taken from its ring (R403). -/
def ringCap (n k : Nat) (out : List Nat) : Nat := (n - out.length) * k

/-- A list with x appended, cut at the front to the capacity. -/
def pushRing {α : Type} (cap : Nat) (xs : List α) (x : α) : List α :=
  let ys := xs ++ [x]
  ys.drop (ys.length - cap)

/-- A fault record into the fault log. A record overwritten before it was archived counts in DROPALM (R406). -/
def State.logFault (s : State) (x : FaultRec) : State :=
  s.updRecs fun r =>
    let cap := ringCap 8 1024 r.segF
    if cap == 0 then r.countDrop 2 false
    else
      let lost := r.faults.length ≥ cap && (match r.faults with
        | y :: _ => y.seq > r.archseq
        | [] => false)
      let r := { r with faults := pushRing cap r.faults x, posF := (r.posF + 1) % cap }
      if lost then r.countDrop 2 false else r

/-- PARENT of a fault log record (R390). -/
def parentField (seq : Nat) : Option Nat → Nat
  | none => 0
  | some p => if seq - p ≤ 0xFFFE then seq - p else 0xFFFF

/-- The fault source ID that a 32-bit word spells (01 R18). -/
def fsidOf (w : Nat) : Fsid := ⟨w / 2 ^ 29 % 8, w / 2 ^ 26 % 8, w / 2 ^ 20 % 64, w / 2 ^ 8 % 4096, w % 256⟩

/-- The count record of the fault log (R401): a fault record with COALESCED, its PARENT the first record; only
for class F1 and above. -/
def State.logCount (s : State) (c : Coal) (seq : Nat) : State :=
  let cls := rd c.body 4 1
  if c.kind == 1 && cls / 8 % 8 != 0 then
    s.logFault
      { seq := seq, ot := s.time.ot, flags := s.rflags ||| 8, raised := cls % 8, applied := cls / 8 % 8,
        conseq := cls / 64 % 2 == 1, escal := cls / 128 % 2 == 1, wt := s.time.wt,
        parent := parentField seq (some c.seq), pc := s.time.pc, fsid := fsidOf c.source, named := [] }
  else s

/-- The alarm window of a fault source matches its latest count record (R386). -/
def State.alarmSeq (s : State) (kind source seq : Nat) : State :=
  if kind == 1 then
    { s with mail := { s.mail with
        alarms := modWhere (fun w => fword w.fsid == source) (fun (w : AlarmWin) => { w with seq := seq }) s.mail.alarms } }
  else s

/-- A coalescing window ends: its count record is written where it counted anything (R401). -/
def State.closeCoal (s : State) (c : Coal) : State :=
  let s := s.updRecs fun r => { r with coals := r.coals.filter fun x => !(x.kind == c.kind && x.source == c.source) }
  if c.count == 0 then s
  else
    let (seq, s) := s.takeSeq
    let s := (s.logCount c seq).alarmSeq c.kind c.source seq
    s.toRc c.prio { s.stamp seq s.time.ot 0x0A 8 (countBody c) with count := min c.count 0xFFFF, prio := c.prio }

/-- The present second's count of a source, and the table with one added. -/
def bumpRate (kind source : Nat) (rs : List (Nat × Nat × Nat × Nat)) (prio : Nat) :
    Nat × List (Nat × Nat × Nat × Nat) :=
  match rs.find? fun x => x.2.1 == kind && x.2.2.1 == source with
  | some x => (x.2.2.2, rs.map fun y => if y.2.1 == kind && y.2.2.1 == source then (y.1, y.2.1, y.2.2.1, y.2.2.2 + 1) else y)
  | none => (0, rs ++ [(prio, kind, source, 1)])

/-- The first record of a coalescing window, under the rate limit. -/
def State.openCoal (s : State) (kind source prio ot : Nat) (x : Rec) (body : Bytes) : State :=
  let (n, rs) := bumpRate kind source s.recs.rates prio
  let s := s.updRecs fun r => { r with
    rates := rs
    coals := r.coals ++ [⟨kind, source, body, ot, ot, 0, prio, x.seq⟩] }
  if n ≥ rateLimit prio then s.updRecs (·.countDrop prio true) else s.toRc prio x

/-- A record of a source, coalesced and rate-limited, with the SEQ and OT of its origin (R401, R402). Drop and count
records bypass both. -/
def State.recordAt (s : State) (kind source seq ot flags cls : Nat) (body : Bytes) : State :=
  let prio := kindPrio kind cls
  let x := s.stamp seq ot kind flags body
  match s.recs.coals.find? fun c => c.kind == kind && c.source == source with
  | some c =>
    if c.body == body then
      s.updRecs fun r => { r with
        coalcnt := satInc 32 r.coalcnt
        coals := modWhere (fun y => y.kind == kind && y.source == source)
          (fun y => { y with count := y.count + 1, last := ot }) r.coals }
    else (s.closeCoal c).openCoal kind source prio ot x body
  | none => s.openCoal kind source prio ot x body

/-- A record that arises now. -/
def State.record (s : State) (kind source : Nat) (body : Bytes) : Nat × State :=
  let (seq, s) := s.takeSeq
  (seq, s.recordAt kind source seq s.time.ot 0 0 body)

/-! ### Event recorder and archive (R395, R396) -/

/-- A record into the archive; each SEQ at most once. -/
def RecSt.toArchive (r : RecSt) (x : Rec) : RecSt :=
  let cap := ringCap 256 16384 r.segA
  if cap == 0 || r.archive.any (·.seq == x.seq) then r
  else
    let full := r.archpos + 1 ≥ cap
    { r with
      archive := pushRing cap r.archive x
      archseq := max r.archseq x.seq
      archpos := if full then 0 else r.archpos + 1
      archpass := if full then satInc 32 r.archpass else r.archpass }

/-- RC takes one queued record into the event recorder, and into the archive while a trigger lasts. -/
def RecSt.take (r : RecSt) (x : Rec) : RecSt :=
  let r := { r with recin := satInc 64 r.recin }
  let cap := ringCap 16 4096 r.segE
  let r := if cap == 0 then r.countDrop x.prio false else { r with
    events := pushRing cap r.events x
    posE := (r.posE + 1) % cap }
  if r.archUntil.isSome then r.toArchive x else r

/-- Every event record not yet archived goes into the archive, oldest first. -/
def RecSt.copyEvents (r : RecSt) : RecSt := r.events.foldl RecSt.toArchive r

/-- A fault log record as event kind 0x01 (R397). -/
def faultRec (x : FaultRec) : Rec :=
  { seq := x.seq, ot := x.ot, flags := x.flags, kind := 0x01, wt := x.wt, count := 1, pc := x.pc,
    body := le 4 (fword x.fsid) ++ le 1 (x.raised % 8 + x.applied % 8 * 8 + b2n x.conseq * 64 + b2n x.escal * 128) ++ zeros 3 ++
      le 8 (if x.parent == 0 || x.parent == 0xFFFF then 0 else x.seq - x.parent)
    prio := 2 }

/-- A cold restart archives the fault log and the event recorder up to a SEQ, then clears them (R395). -/
def RecSt.archiveClear (n : Nat) (r : RecSt) : RecSt :=
  let r := (r.faults.filter fun x => x.seq ≤ n).foldl (fun r x => r.toArchive (faultRec x)) r.copyEvents
  { r with faults := r.faults.filter (n < ·.seq), events := r.events.filter (n < ·.seq), coldDue := none }

/-- RC takes up again what was held while it did not work: an archive trigger of that time is written and copies the events
now, and a cold restart of that time clears them. -/
def State.refill (s : State) : State :=
  if s.recs.held.isEmpty && s.recs.coldDue.isNone then s
  else s.updRecs fun r =>
    let trig := (r.held.map (·.2)).filter (·.kind == 0x0E)
    let r := r.held.foldl (fun r x => r.enqueue x.1 x.2) { r with held := [] }
    let r := if r.archUntil.isSome then (trig.foldl RecSt.toArchive r).copyEvents else r
    match r.coldDue with
    | some n => r.archiveClear n
    | none => r

/-- RC takes n of the records in the queue. -/
def RecSt.takeQueue (n : Nat) (r : RecSt) : RecSt :=
  (r.queue.take n).foldl (fun r x => r.take x.2) { r with queue := r.queue.drop n }

/-- Copying of new records ends 60 s after the last trigger. -/
def State.archiveEnd (s : State) : State :=
  if s.recs.archUntil.any (· ≤ s.time.ot) then s.updRecs fun r => { r with archUntil := none } else s

/-- Queued records taken by RC, at most n; what it takes after the 60 s of a trigger is not copied. -/
def State.drain (s : State) (n : Nat) : State :=
  if s.rcWorks then (s.refill.updRecs (RecSt.takeQueue n)).archiveEnd else s

/-- An archive trigger (R396): a trigger record, every record not yet archived, and 60 s of copying. RC copies while it
works, and where it does not, when it takes up its work again. -/
def State.archiveTrigger (s : State) (cause : Nat) : State :=
  let fresh := s.recs.archUntil.all (· ≤ s.time.ot)
  let s := s.updRecs fun r => { r with archUntil := some (s.time.ot + 60000) }
  if fresh then
    let x := s.stamp (s.recs.seq + 1) s.time.ot 0x0E 0 (le 8 cause)
    let s := (s.record 0x0E 0 (le 8 cause)).2
    if s.rcWorks then s.updRecs fun r => (r.toArchive x).copyEvents else s
  else s

/-! ### The change log (R392, R393) -/

/-- Are all segments of the change log hedged (R404)? -/
def State.changeOut (s : State) : Bool := ringCap 32 8192 s.recs.segC == 0

/-- A change-log record with a given SEQ. While the log is out of service it is dropped and counted; the record of a
force set (kind 0x07) goes to the last-resort area (R404). (log 73, DESIGN CHOICE) -/
def State.changeAt (s : State) (seq kind cred session ep cmd : Nat) (cbody : Bytes) : State :=
  let body := le 4 cred ++ le 4 session ++ le 1 ep ++ zeros 1 ++ le 2 cmd ++ padTo 88 cbody
  let x := s.stamp seq s.time.ot kind 0 body
  if s.changeOut then
    s.updRecs fun r =>
      if kind == 0x07 then
        let body := le 1 4 ++ zeros 3 ++ le 4 (fword ⟨1, 4, 0x22, 0, 0x04⟩) ++ le 1 3 ++ zeros 3
        { r with lrarea := (r.lrarea ++ [{ x with kind := 0x0D, body := body, prio := 2 }]).take 64 }
      else r.countDrop 1 false
  else
    s.updRecs fun r =>
      let cap := ringCap 32 8192 r.segC
      { r with changes := pushRing cap r.changes x, posC := (r.posC + 1) % cap }

/-- A change-log record of a kind, by a session or by the module (0xFF). -/
def State.change (s : State) (kind cred session ep cmd : Nat) (cbody : Bytes) : State :=
  let (seq, s) := s.takeSeq
  s.changeAt seq kind cred session ep cmd cbody

/-- A change made by the module itself. -/
def State.ownChange (s : State) (kind : Nat) (cbody : Bytes) : State := s.change kind 0 0 0xFF 0 cbody

/-- Boot record (R391, kind 0x0C): 0 power-up, 1 warm, 2 cold, 3 service restart, and the OT jump in ms. -/
def State.bootRecord (s : State) (cause jump : Nat) : State :=
  (s.record 0x0C 0 (le 1 cause ++ zeros 3 ++ le 4 jump)).2

/-! ### Last-resort registers (R403, R405) -/

/-- An entry into a region's last-resort registers: the first 16 are kept, the rest counted. (log 73, DESIGN CHOICE) -/
def State.lastResort (s : State) (region : Nat) (f : Fsid) (seq : Nat) : State :=
  s.updRecs fun r =>
    if (r.lastres.filter (·.region == region)).length < 16 then
      { r with lastres := r.lastres ++ [⟨region, f, s.time.ot, seq % 2 ^ 32⟩] }
    else { r with lrlost := satInc 32 r.lrlost }

end Sys2Proof.Machine
end

