-- ==== Sys2Proof/Machine/Notify.lean ====
section
/-! DEFINITION. The notification ring of mailbox 14 (12 R360 to R362): alarms with their coalescing,
completions, pair, lane and progress events, posted-write errors. -/

namespace Sys2Proof.Machine

/-- The endpoints that receive a NOTIFY datagram: NSP endpoints that hold a session. -/
def State.notifyEps (s : State) : List Nat :=
  ((s.mail.sessions.map (·.ep)).filter (· != 0)).eraseDups

/-- A notification record into the ring (R360): the slot after NEWSLOT, the next NSEQ, a NOTIFY datagram to
each endpoint that holds a session, and CSALRT (R342). (log 41, DEDUCED) -/
def State.ringPut (s : State) (n : Notif) : State :=
  let m := s.mail
  let slot := (m.newslot + 1) % 63
  let seq := wrapInc 32 m.newseq
  let lapped := (m.ring.getD slot none).isSome && !m.ringseen.contains slot
  { s with mail := { m with
      ring := modAt (fun _ => some { n with nseq := seq }) slot m.ring
      newseq := seq
      newslot := slot
      ringseen := m.ringseen.filter (· != slot)
      nlost := if lapped then satInc 32 m.nlost else m.nlost
      alert := m.alert + 1
      notifies := m.notifies ++ s.notifyEps.map fun e => (e, slot) } }

/-- The notifications held are written in their order of origin, once the service region and MB work (R362). -/
def State.flushWaiting (s : State) : State :=
  if s.pow.sv && !s.blockOut 0x21 then
    ({ s with mail := { s.mail with waiting := [] } }).each s.mail.waiting State.ringPut
  else s

/-- A notification written after those held, or held while the service region is out of service or MB answers nothing (R362). -/
def State.notify (s : State) (n : Notif) : State :=
  if s.pow.sv && !s.blockOut 0x21 then s.flushWaiting.ringPut n
  else { s with mail := { s.mail with waiting := s.mail.waiting ++ [n] } }

/-- A notification without session, TAG and status. -/
def plainNotif (kind seq ot : Nat) (body : Bytes) : Notif :=
  { kind := kind, flags := 0, count := 1, nseq := 0, ot := ot, seq := seq, session := 0, tag := 0,
    status := 0, body := padTo 32 body }

/-! ### Alarms (R361, kind 0x01) -/

def alarmBody (f : Fsid) (raised applied parent : Nat) : Bytes :=
  le 4 (fword f) ++ le 1 raised ++ le 1 applied ++ zeros 2 ++ le 8 parent ++ zeros 16

/-- An alarm window ends: one further record where it counted anything. -/
def State.closeAlarm (s : State) (w : AlarmWin) : State :=
  let s := { s with mail := { s.mail with alarms := s.mail.alarms.filter fun x => !(x.fsid == w.fsid) } }
  if w.count == 0 then s
  else s.notify { plainNotif 1 w.seq s.time.ot w.body with flags := 1, count := w.count }

def State.openAlarm (s : State) (f : Fsid) (seq : Nat) (body : Bytes) : State :=
  ({ s with mail := { s.mail with alarms := s.mail.alarms ++ [({ fsid := f, body := body, since := s.time.ot, count := 0, seq := seq } : AlarmWin)] } }).notify
    (plainNotif 1 seq s.time.ot body)

/-- An alarm on mailbox 14, coalesced; its record stands in full where `full`. -/
def State.alarm (s : State) (f : Fsid) (raised applied parent seq : Nat) (full : Bool) : State :=
  let body := alarmBody f raised applied parent
  match s.mail.alarms.find? (·.fsid == f) with
  | some w =>
    if w.body == body then
      { s with mail := { s.mail with
          alarms := modWhere (·.fsid == f) (fun x => { x with count := x.count + 1, seq := if full then seq else x.seq })
            s.mail.alarms } }
    else (s.closeAlarm w).openAlarm f seq body
  | none => s.openAlarm f seq body

/-! ### Completions (R361, kind 0x02) -/

def complBody (c : Compl) : Bytes :=
  le 2 c.ref.cmd ++ zeros 2 ++ le 4 c.cmdseq ++ le 4 c.reqseq ++ le 1 c.lastfail ++ zeros 1 ++
  le 2 c.failelem ++ padTo 16 c.result

/-- Body of an operator command record (14 R391, kind 0x06). -/
def opBody (r : CmdRef) (status cmdseq : Nat) : Bytes :=
  le 2 r.cmd ++ le 2 status ++ le 4 cmdseq ++ le 4 r.session ++ le 4 r.cred ++ le 2 r.tag ++ zeros 2

/-- A completion written: its notification where this member accepted the command (09 R271), its record, and
its TAG free again. -/
def State.writeCompl (s : State) (c : Compl) : State :=
  if c.ref.here then
    let (seq, s) := s.record 0x06 c.ref.cmd (opBody c.ref c.status c.cmdseq)
    let s := { s with mail := { s.mail with opened := s.mail.opened.filter fun o => o.ref != c.ref } }
    s.notify { plainNotif 2 seq s.time.ot (complBody c) with
      session := c.ref.session, tag := c.ref.tag, status := c.status }
  else s

/-- A completion at once, outside the cycle. -/
def State.complete (s : State) (r : CmdRef) (status : Nat) (result : Bytes) : State :=
  s.writeCompl ⟨r, status, 0, 0, 0, 0, result⟩

/-- A completion that waits for the done mark of its cycle (R359). -/
def State.completeLater (s : State) (c : Compl) : State :=
  { s with mail := { s.mail with compl := s.mail.compl ++ [c] } }

/-- The completions of the cycle, at its done mark. -/
def State.flushCompl (s : State) : State :=
  ({ s with mail := { s.mail with compl := [] } }).each s.mail.compl State.writeCompl

/-! ### Other events -/

/-- State change record (14 R391, kind 0x07): subject 0 module, 1 lane, 2 pair, 3 connection, 4 mode. -/
def stateBody (subject index old new epoch : Nat) : Bytes :=
  le 1 subject ++ zeros 1 ++ le 2 index ++ le 1 old ++ le 1 new ++ le 2 epoch

def State.recordState (s : State) (subject index old new : Nat) : Nat × State :=
  s.record 0x07 (subject * 65536 + index) (stateBody subject index old new s.pair.epoch)

/-- A lane event (kind 0x05), with its record. -/
def State.laneEvent (s : State) (l : Lane) (old new : Nat) (latch : Bool) (f : Option Fsid) : State :=
  let (seq, s) := s.recordState 1 l.num old new
  s.notify (plainNotif 5 seq s.time.ot
    (le 1 l.num ++ le 1 old ++ le 1 new ++ le 1 (b2n latch) ++ le 4 (f.elim 0 fword)))

/-- The record and the pair event (kind 0x04) of a change of pair state, in-step flag or epoch (09 R268). -/
def State.pairNotice (s : State) (old : PairState) : State :=
  let p := s.pair.st
  let (seq, s) := s.recordState 2 0 old.code p.code
  s.notify (plainNotif 4 seq s.time.ot
    (le 1 old.code ++ le 1 p.code ++ le 1 (b2n (p == .followIn)) ++ zeros 1 ++ le 2 s.pair.epoch ++ zeros 2 ++
      le 2 s.set.pair.paddr))

/-- A change of pair state. -/
def State.setPair (s : State) (p : PairState) : State :=
  if s.pair.st == p then s
  else
    let old := s.pair.st
    State.pairNotice { s with pair := { s.pair with st := p } } old

/-- A change of module state, with its record. -/
def State.setMod (s : State) (m : ModState) : State :=
  if s.pow.mod == m then s
  else
    let old := s.pow.mod.code
    let s := { s with pow := { s.pow with mod := m } }
    (s.recordState 0 0 old m.code).2

/-- A progress notification (kind 0x06): the manual names no record kind for it, so its record kind is free. (log 19, DESIGN CHOICE) -/
def State.progress (s : State) (r : Option CmdRef) (cmd step steps : Nat) : State :=
  let (kind, s) := s.freshNat 8
  let body := le 2 cmd ++ le 2 step ++ le 2 steps
  let (seq, s) := s.record kind cmd body
  s.notify { plainNotif 6 seq s.time.ot body with session := r.elim 0 (·.session), tag := r.elim 0 (·.tag) }

/-- A posted-write error (kind 0x03): source 0 register window, 1 span bridge. Its record kind is free. -/
def State.postErr (s : State) (source window addr fstat ep : Nat) : State :=
  let (kind, s) := s.freshNat 8
  let body := le 1 source ++ le 1 window ++ zeros 2 ++ le 8 addr ++ le 4 fstat ++ le 1 ep
  let (seq, s) := s.record kind (source * 256 + window) body
  s.notify (plainNotif 3 seq s.time.ot body)

/-- A change-log record in the name of a command's session. -/
def State.refChange (s : State) (r : CmdRef) (kind : Nat) (body : Bytes) : State :=
  let ep := ((s.mail.sessions.find? (·.id == r.session)).map (·.ep)).getD 0xFF
  s.change kind r.cred r.session ep r.cmd body

end Sys2Proof.Machine
end

