-- ==== Sys2Proof/Machine/Slots.lean ====
section
/-! DEFINITION. Slots of the nonvolatile store and the end of an update session (16 R431, R432, R435, R438). -/

namespace Sys2Proof.Machine

def State.updUpd (s : State) (f : UpdSt → UpdSt) : State := { s with upd := f s.upd }

/-! ### Slots -/

def State.slotOf (s : State) (kind : Nat) (b : Bool) : Slot :=
  match kind with
  | 0 => s.upd.fw.sel b
  | 1 => s.upd.kern.sel b
  | _ => s.upd.app.sel b

def State.setSlot (s : State) (kind : Nat) (b : Bool) (x : Slot) : State :=
  match kind with
  | 0 => { s with upd := { s.upd with fw := s.upd.fw.upd b x } }
  | 1 => { s with upd := { s.upd with kern := s.upd.kern.upd b x } }
  | _ => { s with upd := { s.upd with app := s.upd.app.upd b x } }

/-- The slot marked invalid: it holds nothing usable (R435). -/
def Slot.invalid (x : Slot) : Slot := { x with valid := false, blocks := [], image := none }

/-- The kernel slot of a lane as a slot letter. -/
def LaneSt.kSlot (x : LaneSt) : Bool := x.kslot == 1

/-- The running slot of a kind; of the kernel the one that most lanes run (R432). -/
def State.runSlot (s : State) (kind : Nat) : Bool :=
  match kind with
  | 0 => s.upd.fwRun
  | 1 => 2 ≤ (Lane.all.filter fun l => (s.lane l).kSlot).length
  | _ => s.upd.appRun

def LaneSt.setKslot (b : Bool) (x : LaneSt) : LaneSt := { x with kslot := b2n b }

def State.updAct (s : State) (f : ActSt → ActSt) : State := { s with upd := { s.upd with act := s.upd.act.map f } }

/-- The envelope of the image being activated. -/
def State.actEnv (s : State) (a : ActSt) : Envelope := (s.slotOf a.kind a.slot).env

/-! ### The end of an update session (R438) -/

/-- The update session ends without an activation: the idle slot is left invalid, state 8, change-log kind 0x37
with its cause (1 UPD_ABORT, 2 mailbox session, 3 idle for 600 s, 4 service region). A verification still running
completes RETRY. -/
def State.abortUpd (s : State) (cause : Nat) : State :=
  match s.upd.sess with
  | none => s
  | some u =>
    let b := !s.runSlot u.kind
    let s := s.setSlot u.kind b (s.slotOf u.kind b).invalid
    let v := s.upd.verify
    let s := { s with upd := { s.upd with sess := none, verify := none, state := 8 } }
    let s := s.ownChange 0x37 (le 1 cause)
    match v with
    | some r => s.complete r 0x80B0 []
    | none => s

end Sys2Proof.Machine
end

