-- ==== Sys2Proof/Machine/Sessions.lean ====
section
/-! DEFINITION. Ends of sessions and of mailbox ownership, the emptying of the cold frame, and the service
region going out of service (12 R348, R355, 11 R312, 14 R398). -/

namespace Sys2Proof.Machine

/-- The cold frame emptied and released (11 R312, R314). -/
def State.emptyFrame (s : State) : State :=
  { s with stage := { s.stage with
      st := .empty, chkcode := 0, entries := [], owner := 0, failent := 0xFFFF, failitem := 0xFFFF,
      checking := none, passedLanes := [] } }

/-- The mailbox FREE; its buffers keep their bytes. -/
def Mbox.release (b : Mbox) : Mbox :=
  { b with st := .free, ep := 0, ownkey := 0, openOk := false, orphan := false, writers := [] }

/-- A mailbox of an endpoint whose session ends: freed where it is OWNED or DONE; a POSTED or RUNNING one keeps its owner until
its response is written (R348). -/
def Mbox.lose (ep : Nat) (b : Mbox) : Mbox :=
  if b.st == .free || b.ep != ep then b
  else if b.st == .owned || b.st == .done then b.release
  else { b with orphan := true }

def freeBoxes (ep : Nat) (bs : List Mbox) : List Mbox := bs.map (Mbox.lose ep)

/-- The read cursor closed. -/
def State.closeCursor (s : State) : State := s.updRecs fun r => { r with cursor := none }

/-- A session ends (R355): its mailboxes are freed, its pending first steps and its read cursor go, and a cold
frame that it owns is emptied unless an apply of it has been accepted. -/
def State.endSession (s : State) (id : Nat) : State :=
  match s.mail.sessions.find? (·.id == id) with
  | none => s
  | some x =>
    let left := s.mail.sessions.filter fun y => !(y.id == id)
    let boxes := if left.any (·.ep == x.ep) then s.mail.boxes else freeBoxes x.ep s.mail.boxes
    let s := { s with mail := { s.mail with
        sessions := left
        boxes := boxes
        steps := s.mail.steps.filter fun f => !(f.session == id) } }
    let s := if s.recs.cursor.any (·.session == id) then s.closeCursor else s
    let s := if s.upd.sess.any (·.mailSession == id) then s.abortUpd 2 else s
    if s.stage.owner == id && s.stage.apply.isNone && s.stage.applying.isNone then s.emptyFrame else s

/-- The provisional session discarded (R354): its endpoint loses mailbox 0. -/
def State.dropProv (s : State) : State :=
  match s.mail.prov with
  | none => s
  | some p =>
    let s := { s with mail := { s.mail with prov := none } }
    s.updBox 0 (Mbox.lose p.ep)

/-- The service region goes out of service: every session and every mailbox ownership ends, the provisional
session and the endpoints go, the cold frame is emptied, a stage check ends unanswered, the read cursor
closes. Commands that have answered ACCEPTED go on (R355). `rc` says that RC's own fault caused it (14 R395). -/
def State.serviceDown (s : State) (rc : Bool) : State :=
  let s := s.each (s.mail.sessions.map (·.id)) State.endSession
  let s := { s with mail := { s.mail with
      boxes := s.mail.boxes.map Mbox.release
      order := []
      prov := none
      eps := []
      steps := [] } }
  let s := if s.stage.apply.isNone && s.stage.applying.isNone then s.emptyFrame else s
  let s := s.closeCursor.abortUpd 4
  let s := s.updRecs fun r => { r with
    queue := []
    held := r.queue.map (fun x => (x.1, { x.2 with flags := x.2.flags ||| 4 })) ++ r.held
    events := if rc then [] else r.events
    window := [] }
  State.settleToken { s with pow := { s.pow with sv := false } }

/-- The service region in service again: held records drain, held notifications are written in order of origin
(01 R15, 12 R362). -/
def State.serviceUp (s : State) : State :=
  let s := { s with pow := { s.pow with sv := true } }
  s.refill.flushWaiting

end Sys2Proof.Machine
end

