-- ==== Sys2Proof/Machine/Fallback.lean ====
section
/-! DEFINITION. Settings sets of the service firmware, and the fallback of an activated image that fails its
post-activation check (16 R447 to R449, R451). -/

namespace Sys2Proof.Machine

/-! ### Settings sets of the firmware slots (R447) -/

/-- The set of the running firmware. -/
def State.liveSet (s : State) : SlotSet :=
  let e := (s.slotOf 0 s.upd.fwRun).env
  { vfmt := e.vfmt, nfmt := e.nfmt, windows := s.bridge.windows, tunnels := s.tunnels, source := s.time.source }

/-- A window's descriptor taken from a set; its status, counted since power-up, stays (13 R382). -/
def Window.take (new old : Window) : Window := { new with last := old.last, count := old.count }

/-- A tunnel's descriptor taken from a set; its counters stay, and its numbers and queue where the far end does. -/
def Tunnel.take (new old : Tunnel) : Tunnel :=
  { old with
    flags := new.flags, port := new.port, fmod := new.fmod, ftun := new.ftun, tgap := new.tgap, adrf := new.adrf
    baud := new.baud, turn := new.turn
    queue := if new.port == old.port then old.queue else []
    taken := if new.fmod == old.fmod && new.ftun == old.ftun then old.taken else none }

/-- Non-vital settings taken from a set, or the defaults. -/
def State.useSet (s : State) (x : Option SlotSet) : State :=
  { s with
    bridge := { s.bridge with
      windows := List.zipWith Window.take (x.elim (List.replicate 64 Window.init) (·.windows)) s.bridge.windows }
    tunnels := List.zipWith Tunnel.take (x.elim (List.replicate 16 Tunnel.init) (·.tunnels)) s.tunnels
    time := { s.time with source := x.elim 0 (·.source) } }

/-- The service firmware of the other slot comes into use: its set is formed from the current generation where
the format can be read, else from the set it left, else from the defaults, which the change log records. -/
def State.switchFw (s : State) : State :=
  let old := s.upd.fwRun
  let now := s.liveSet
  let e := (s.slotOf 0 (!old)).env
  let s := { s with upd := { s.upd with fwRun := !old, sets := s.upd.sets.upd old (some now) } }
  if e.nfmtmin ≤ now.nfmt && now.nfmt ≤ e.nfmt then s
  else match s.upd.sets.sel (!old) with
    | some x => s.useSet (some x)
    | none => (s.useSet none).ownChange 0x38 (le 4 7 ++ le 2 now.nfmt ++ le 2 e.nfmt)

/-- The firmware of the other slot is taken up again, with the set it left (R449). -/
def State.revertFw (s : State) : State :=
  let old := s.upd.fwRun
  let now := s.liveSet
  let s := { s with upd := { s.upd with fwRun := !old, sets := s.upd.sets.upd old (some now) } }
  match s.upd.sets.sel (!old) with
  | some x => s.useSet (some x)
  | none => s

/-! ### Fallback (R449) -/

/-- The end of a fallback: UPD_ACTIVATE completes CHECK_FAIL and the failed image is invalid. -/
def State.endFallback (s : State) : State :=
  match s.upd.act with
  | none => s
  | some a =>
    let s := s.setSlot a.kind a.slot (s.slotOf a.kind a.slot).invalid
    let s := { s with upd := { s.upd with act := none, state := 7 } }
    match a.ref with
    | some r => s.complete r 0x8070 []
    | none => s

/-- Change-log record 0x36: IMGID and the failing item of *Post-activation check*. -/
def State.fallbackRec (s : State) (a : ActSt) (item : Nat) : State :=
  s.ownChange 0x36 (le 8 (s.actEnv a).imgid ++ le 1 item)

/-- Lanes that carry the new kernel, in the order of their turns. -/
def ActSt.newLanes (a : ActSt) : List Lane := a.doneLanes ++ a.turn.toList

/-- The kernel returns lane by lane, in reverse order of the turns; a latched-out lane takes the previous slot
from the map at its next boot. -/
def State.kernelBack (s : State) (a : ActSt) : State :=
  let lanes := a.newLanes.reverse
  let s := s.each lanes fun s l => s.updLane l fun x =>
    if x.latched then { x.setKslot (!a.slot) with turn := false } else { x with turn := false }
  let todo := lanes.filter fun l => !(s.lane l).latched
  let s := s.updAct fun a => { a with back := true, todo := todo, doneLanes := [], turn := none }
  if todo.isEmpty then s.endFallback else s

/-- All lanes named for the previous slot in the lane kernel map, at the previous level. -/
def State.kernelMapBack (s : State) (a : ActSt) : State :=
  let s := s.updLanes fun x => { x.setKslot (!a.slot) with turn := false }
  { s with upd := { s.upd with lm := a.oldLm } }

/-- Is the partner in step, by its last report? -/
def State.partnerReady (s : State) : Bool := s.paired && s.pair.partner.any fun h => h.flags.getLsbD 2

/-- The post-activation check fails at an item of its table. -/
def State.failAct (s : State) (item : Nat) : State :=
  match s.upd.act with
  | none => s
  | some a =>
    if a.back then s
    else
      let s := s.fallbackRec a item
      match a.kind with
      | 0 => s.revertFw.endFallback
      | 1 =>
        if s.partnerReady then
          let s := (s.kernelMapBack a).endFallback
          { s with pow := { s.pow with restart := if s.pow.restart == some .cold then some .cold else some .warm }
                   pair := { s.pair with relinq := s.pair.relinq || s.pair.st == .lead } }
        else s.kernelBack a
      | _ =>
        let s := { s with upd := { s.upd with appRun := !s.upd.appRun } }
        let s := s.endFallback
        { s with pow := { s.pow with restart := some .cold } }

/-- A lane running the new kernel, or on its turn, is withdrawn for a cause of 05 R162. -/
def State.actLane (s : State) (l : Lane) : State :=
  match s.upd.act with
  | some a => if a.kind == 1 && !a.back && a.newLanes.contains l then s.failAct 1 else s
  | none => s

/-- An entry into SAFE: the next boot loads the previous kernel slot in every lane; an application image falls
back by a cold restart. -/
def State.actSafe (s : State) : State :=
  match s.upd.act with
  | some a =>
    if a.kind == 1 then
      let s := if a.back then s else s.fallbackRec a 2
      (s.kernelMapBack a).endFallback
    else if a.kind == 2 then s.failAct 2
    else s
  | none => s

/-- A restart of the service region before the new firmware is confirmed. -/
def State.actService (s : State) : State :=
  match s.upd.act with
  | some a => if a.kind == 0 && a.switched then s.failAct 3 else s
  | none => s

end Sys2Proof.Machine
end

