-- ==== Sys2Proof/Machine/Transfers.lean ====
section
/-! DEFINITION. How an outbound transfer of the span bridge ends (13 R367 to R372, R375): its window entry, its
held result or completion, and the posted-error log. -/

namespace Sys2Proof.Machine

def State.updBridge (s : State) (f : BridgeSt → BridgeSt) : State := { s with bridge := f s.bridge }

def State.window (s : State) (w : Nat) : Window := s.bridge.windows.getD w Window.init

/-- BADDR: WBASE plus the offset. -/
def State.baddr (s : State) (w off : Nat) : Nat := ((s.window w).wbase + off) % 2 ^ 32

/-- A posted-error entry; a full log loses its oldest. -/
def BridgeSt.logErr (e : PostErr) (b : BridgeSt) : BridgeSt :=
  let lapped := b.log.length ≥ 32
  { b with
    log := (if lapped then b.log.drop 1 else b.log) ++ [e]
    pelost := if lapped then satInc 32 b.pelost else b.pelost
    cntperr := satInc 32 b.cntperr }

/-- A posted write that failed: log entry and notification of kind 0x03 (R371). Its detector is the caller's. -/
def State.postedFailed (s : State) (x : Xfer) (fstat : Nat) : State :=
  let e : PostErr :=
    { ot := s.time.ot, addr := x.addr, win := x.win, fstat := fstat, fmod := x.fmod, len := x.len,
      seq := x.seq, issue := s.time.ot - x.issued }
  (s.updBridge (BridgeSt.logErr e)).postErr 1 x.win x.addr fstat 0

def Window.ended (fstat : Nat) (w : Window) : Window := { w with last := fstat, count := satInc 32 w.count }

/-- A transfer leaves its outbound slot with an FSTAT. -/
def State.endXfer (s : State) (x : Xfer) (fstat : Nat) (data : Bytes) : State :=
  let s := s.updBridge fun b => { b with
    out := b.out.filter fun y => !(y.seq == x.seq)
    windows := modAt (Window.ended fstat) x.win b.windows }
  match x.op with
  | 1 =>
    if x.stale then s
    else s.updBridge fun b => { b with held := b.held ++ [⟨x.ini, x.win, x.off, x.len, fstat, data, s.time.ot⟩] }
  | 2 => s.updBridge fun b => { b with done := b.done ++ [⟨x.ini, x.win, x.off, 2, fstat, false, data⟩] }
  | _ => if fstat == 0 then s else s.postedFailed x fstat

/-- A reset of the SB: every outstanding transfer completes with FSTAT 0x05, held results are discarded (R375). -/
def State.resetSb (s : State) : State :=
  (s.each s.bridge.out fun s x => s.endXfer x 0x05 []).updBridge fun b => { b with held := [], inslots := List.replicate 16 none }

/-- The transmit queue of a tunnel emptied. -/
def Tunnel.empty (t : Tunnel) : Tunnel := { t with queue := [] }

end Sys2Proof.Machine
end

