-- ==== Sys2Proof/Machine/Faults.lean ====
section
/-! DEFINITION. Fault collection, hedging and reaction (10): class and counting of an event, its record, alarm
and grace timer, and its reaction: hedge, lane withdrawal, block reset, service restart, SAFE, TERMINAL. -/

namespace Sys2Proof.Machine

/-- The 24 h window of OT in ms (R164, R304). -/
def dayMs : Nat := 86400000

/-! ### Records of events -/

/-- Is a record identical to the one that opened its source's coalescing window (14 R401)? -/
def State.coalesced (s : State) (kind source : Nat) (body : Bytes) : Bool :=
  s.recs.coals.any fun c => c.kind == kind && c.source == source && c.body == body

/-- MF records an event (R285): fault log, alarm and ALARMCNT for class F1 and above, event recorder always,
and the list of events that the lanes take at the next executed start (R287). (log 23, DEDUCED) -/
def State.recordEvent (s : State) (f : Fsid) (raised applied : Nat) (conseq escal : Bool)
    (parent : Option Nat) : Nat × State :=
  let (seq, s) := s.takeSeq
  let clsByte := raised % 8 + applied % 8 * 8 + b2n conseq * 64 + b2n escal * 128
  let body := le 4 (fword f) ++ le 1 clsByte ++ zeros 3 ++ le 8 (parent.getD 0)
  let again := s.coalesced 0x01 (fword f) body
  let s := s.recordAt 0x01 (fword f) seq s.time.ot 0 applied body
  let s := if applied == 0 then s else
    let s := if again then s else s.logFault
      { seq := seq, ot := s.time.ot, flags := s.rflags, raised := raised, applied := applied, conseq := conseq,
        escal := escal, wt := s.time.wt, parent := parentField seq parent, pc := s.time.pc, fsid := f, named := [] }
    let s := { s with flt := { s.flt with alarmcnt := satInc 32 s.flt.alarmcnt } }
    s.alarm f raised applied (parent.getD 0) seq (!again)
  let fl := s.flt
  (seq, { s with flt := { fl with
      events := fl.events ++ [⟨f, applied, seq⟩]
      conseq := if conseq then satInc 32 fl.conseq else fl.conseq } })

/-- What a rule says a fault record names or carries, beside the layout of 14 R390. (log 108, DESIGN CHOICE) -/
def State.noteFault (s : State) (seq : Nat) (x : List Nat) : State :=
  { s with recs := { s.recs with faults := modWhere (·.seq == seq) (fun r => { r with named := x }) s.recs.faults } }

/-- The grace timer of an event (R294, R295): every ACTIVE lane but one the event withdraws. -/
def State.startGrace (s : State) (f : Fsid) (seq cls : Nat) (out : Option Lane) : State :=
  if 1 ≤ cls && cls ≤ 3 && s.set.grace != 0 then
    let wait := s.actives.filter fun l => !(out == some l)
    if wait.isEmpty then s
    else { s with flt := { s.flt with
        grace := s.flt.grace ++ [⟨seq, f, s.time.ot + s.set.grace, wait⟩] } }
  else s

/-! ### SAFE and TERMINAL (R302 to R305) -/

/-- A self-test abandoned with a final status and its result bytes; its cloche ends at the next executed start
(15 R417). `cause` is the line of *Events during a test*; change-log kind 0x23. (log 105, DEDUCED) -/
def State.abandonWith (s : State) (status cause : Nat) (result : Bytes) : State :=
  match s.be.test with
  | none => s
  | some t =>
    if t.abandoned || t.ended.isSome then s
    else
      let s := s.refChange t.ref 0x23 (le 2 t.id ++ le 2 t.target ++ le 1 cause ++ result)
      let s := s.complete t.ref status result
      { s with be := { s.be with test := if t.running then some { t with abandoned := true } else none } }

def State.abandonTest (s : State) (status cause : Nat) : State := s.abandonWith status cause []

/-- Is a hedge the one of a block under reset, of the blocks listed? -/
def Hedge.ofReset (h : Hedge) (blks : List Nat) : Bool :=
  !h.latched && h.kind == .block && blks.contains h.index

/-- The bank's test step dropped where it is the lane's. -/
def BankSt.dropStep (l : Lane) (b : BankSt) : BankSt :=
  match b.step with
  | some x => if x.lane == l then { b with step := none } else b
  | none => b

/-- What MF does on entry into SAFE (R302): every drive gate open, the safe-state latch set, vital telegrams
stopped; an F4 event cancels every grace timer and closes every shadow (R301). -/
def State.safeActions (s : State) : State :=
  let s := (s.updLanes fun l => { l with gate := false }).dropEffs (List.range Config.nCells)
  let s : State := { s with banks := s.banks.map fun b => { b with step := none } }
  let blks := s.flt.shadows.map (·.block)
  let s := { s with
    flt := { s.flt with
      safelatch := true, grace := [], shadows := []
      hedges := s.flt.hedges.filter fun h => !(h.ofReset blks) }
    cyc := { s.cyc with tosend := [], phase := .idle }
    pair := { s.pair with sending := [], closing := false } }
  let s := if s.paired && !s.pow.split then s.setPair .silent else s
  (s.abandonTest 0x80B0 8).actSafe

/-- The module becomes TERMINAL: as SAFE, with every gate latched open until the module is powered down (R305). -/
def State.enterTerminal (s : State) : State :=
  let s := s.safeActions
  ({ s with flt := { s.flt with gatelatch := true } }).setMod .terminal

/-- The entries into SAFE inside the window of 24 h of OT (R304). -/
def State.safesNow (s : State) : List Nat := s.flt.safes.filter fun t => s.time.ot - t < dayMs

/-- The third entry into SAFE within 24 h raises detector 0x01 of MF, class F5 (R304). -/
def State.safeLimit (s : State) : State :=
  if s.safesNow.length ≥ 3 then
    let (seq, s) := s.recordEvent (fMf 0x01) 5 5 false false (some s.flt.safeseq)
    ({ s with flt := { s.flt with safeseq := seq } }).enterTerminal
  else s

/-- An entry into SAFE by class F4, counted under R304 and a trigger of the archive (14 R396). -/
def State.enterSafe (s : State) (seq : Nat) : State :=
  if s.stopped then s
  else
    let s := s.safeActions
    let s := { s with flt := { s.flt with safes := s.safesNow ++ [s.time.ot], safeseq := seq } }
    let s := s.setMod .safe
    let s := s.archiveTrigger seq
    s.safeLimit

/-! ### Withdrawal of a lane (05 R158, R161 to R164) -/

/-- The withdrawals of a lane inside the window of 24 h of OT. -/
def State.wdsNow (s : State) (l : Lane) : List Nat := (s.lane l).wds.filter fun t => s.time.ot - t < dayMs

/-- The latch-out of a lane (R164): class F1, region level, detector 0x05 (R485). (log 40, DESIGN CHOICE) -/
def State.latchMark (s : State) (l : Lane) : State :=
  if (s.lane l).latched then s
  else
    let (seq, s) := s.recordEvent (fLane l 0x05) 1 1 false false (some (s.lane l).wdseq)
    let s := s.startGrace (fLane l 0x05) seq 1 none
    s.updLane l fun x => { x with latched := true, hold := .latchedOut, rcheck := false }

/-- A withdrawn lane is latched out, with its lane event. -/
def State.latchOut (s : State) (l : Lane) : State :=
  if (s.lane l).latched then s
  else ((s.latchMark l).updLane l fun x => { x with arb := false }).laneEvent l (s.lane l).st.code (s.lane l).st.code true
    (s.lane l).lastwd

/-- The lane stops contributing: no drive, no marks, no form. -/
def LaneSt.stop (x : LaneSt) : LaneSt :=
  { x with gate := false, ring := false, drive := 0, due := false, done := false, slotmark := false,
           roundmark := false, rsync := 0, retryAt := none, outDelay := .both none, inDelay := .both none }

/-- A lane withdrawn with the given hold; `counted` adds one to its withdrawals and may latch it out. (log 40, DESIGN CHOICE) -/
def State.withdraw (s : State) (l : Lane) (f : Fsid) (seq : Nat) (hold : LHold) (counted : Bool) : State :=
  let x := s.lane l
  let was := s.nActive
  let wds := if counted then s.wdsNow l ++ [s.time.ot] else s.wdsNow l
  let old := x.st.code
  let s := s.updLane l fun x => { x.stop with
    st := .withdrawn
    hold := if x.latched then .latchedOut else hold
    rcheck := hold == .checking
    wds := wds, lastwd := some f, wdot := s.time.ot, wdseq := seq }
  let s := ({ s with banks := s.banks.map (BankSt.dropStep l), cyc := { s.cyc with overruns := [] } }).settleToken
  let latch := counted && 3 ≤ wds.length
  let s := s.laneEvent l old 1 (x.latched || latch) (some f)
  let s := if was == 3 && s.nActive == 2 then
      let relinq := s.pair.st == .lead && s.set.pair.pflags.getLsbD 0 &&
        s.pair.partner.any fun h => h.flags.getLsbD 2
      { s with cyc := { s.cyc with duoelap := 0 }
               pair := { s.pair with relinq := s.pair.relinq || relinq } }
    else s
  let s := if counted then s.actLane l else s
  if latch then s.latchMark l else s

/-- What a withdrawn lane does next, by the source of the event (R162): the arbitration self-test for the core
pair, nothing until restart for its timebase, nothing until its supply returns, else the restart check. -/
def nextHold (f : Fsid) : LHold :=
  if f.block == 0x06 && f.det == 0x01 then .untilRestart
  else if f.block == 0 && f.det == 0x08 then .none
  else .checking

/-- The further work of the lane after its withdrawal: arbitration self-test, or a reload. A latch-out bars the restart
check, not the arbitration self-test (R146, R164). -/
def State.afterWithdraw (s : State) (l : Lane) (f : Fsid) : State :=
  s.updLane l fun x =>
    if f.block == 0x01 then { x with arb := true, rcheck := false }
    else if x.latched then x
    else if f.block == 0x04 then { x with reload := true }
    else x

/-! ### Counting escalation (R296) -/

/-- A class that counting gave a source of a lane: a lane withdrawal never becomes the safe state by counting alone while
the two other lanes remain ACTIVE (05 R164). -/
def State.countCap (s : State) (f : Fsid) (base cls : Nat) : Nat :=
  match laneOfRegion f.region with
  | some l => if 2 ≤ (s.actives.filter (· != l)).length then max base (min cls 3) else cls
  | none => cls

/-- The present class of a source: BASE once W has passed with no event. -/
def State.presentClass (s : State) (f : Fsid) (dflt : Nat) : Nat :=
  let (base, _, _, w) := detSettings s f dflt
  match s.flt.esc.find? (·.fsid == f) with
  | some e => if s.time.ot - e.last < w then s.countCap f base (max e.present base) else base
  | none => base

/-- Would this event be the Nth of its source within W? (log 25, DEDUCED). -/
def State.reachesN (s : State) (f : Fsid) (dflt : Nat) : Bool :=
  let (_, _, n, w) := detSettings s f dflt
  let times := match s.flt.esc.find? (·.fsid == f) with
    | some e => e.times.filter fun t => s.time.ot - t < w
    | none => []
  0 < n && n ≤ times.length + 1

/-- The event counted: its class as applied, and whether counting raised it. -/
def State.countEvent (s : State) (f : Fsid) (dflt : Nat) : Nat × Bool × State :=
  let (base, ceil, n, w) := detSettings s f dflt
  let present := s.presentClass f dflt
  if n == 0 then (present, false, s)
  else
    let times := match s.flt.esc.find? (·.fsid == f) with
      | some e => e.times.filter fun t => s.time.ot - t < w
      | none => []
    let hit := s.reachesN f dflt
    let cls := if hit then s.countCap f base (max present (min (present + 1) ceil)) else present
    let rest := s.flt.esc.filter fun x => !(x.fsid == f)
    let e : EscSt := ⟨f, if hit then [] else times ++ [s.time.ot], s.time.ot, cls⟩
    let up := hit && present < cls
    (cls, up, { s with flt := { s.flt with
        esc := rest ++ [e]
        esccnt := if up then satInc 32 s.flt.esccnt else s.flt.esccnt
        escal := s.flt.escal || up } })

/-! ### Blocks under reset (R299, R300) -/

/-- The service region restarts (R289): class F3 of a source in SV. -/
def State.serviceRestart (s : State) (rc : Bool) : State :=
  let s := (s.abandonTest 0x80B0 9).actService
  let s := s.serviceDown rc
  { s with flt := { s.flt with svrst := true } }

/-- The cut-off of a bank opens at once (R291, R300): its cells de-energised, its step dropped, its round not counted. -/
def State.openCut (s : State) (b : Nat) : State :=
  (s.updBank b fun x => { x with step := none, hedgedRound := true }).dropEffs (cellsOf b)

/-- The cut-off of a bank opened where the block is one. -/
def State.cutOf (s : State) (blk : Nat) : State := if 0x10 ≤ blk && blk ≤ 0x15 then s.openCut (blk - 0x10) else s

/-- The hedge of a block that has not settled: it stays, latched (*Settle windows*). -/
def State.hedgeUnsettled (s : State) (blk : Nat) (f : Fsid) (seq : Nat) : State :=
  (s.cutOf blk).addHedge (
    if 0x10 ≤ blk && blk ≤ 0x15 then ⟨.bank, blk - 0x10, true, f, false, false, seq⟩
    else if blk == 0x17 then ⟨.net, 0, true, f, false, false, seq⟩
    else if blk == 0x18 then ⟨.net, 1, true, f, false, false, seq⟩
    else ⟨.block, blk, true, f, false, false, seq⟩)

/-- Detector 0xF0: the block stays hedged and latched; TG stops the module; a service block restarts the region. It
is counted as any event is. -/
def State.notSettled (s : State) (blk : Nat) (parent : Option Nat) : State :=
  let f := fBlk blk 0xF0
  let (base, _, _, _) := detSettings s f 2
  let (cls, up, s) := s.countEvent f 2
  let cls := if cls == 3 && blk < 0x20 then 4 else cls
  let (seq, s) := s.recordEvent f base cls false up parent
  if 4 ≤ cls then (s.archiveTrigger seq).enterSafe seq
  else
    let s := (s.startGrace f seq cls none).archiveTrigger seq
    if cls == 3 then s.serviceRestart (blk == 0x22) else s.hedgeUnsettled blk f seq

/-- What a reset clears in a block. -/
def State.clearBlock (s : State) (blk : Nat) : State :=
  if 0x10 ≤ blk && blk ≤ 0x15 then
    s.openCut (blk - 0x10)
  else if blk == 0x16 then
    { s with conns := s.conns.map fun c => { c with
        slots := ⟨.both none, .both none⟩, held := .both none, kept := ⟨.both none, .both none⟩ } }
  else if blk == 0x17 then s.updNet .a fun n => { n with learned := [], egress := [] }
  else if blk == 0x18 then s.updNet .b fun n => { n with learned := [], egress := [] }
  else if blk == 0x19 then { s with pair := { s.pair with sending := [], closing := false, blocks := [], mclose := none } }
  else if blk == 0x1A then s.resetSb
  else if blk == 0x1B then { s with tunnels := s.tunnels.map Tunnel.empty }
  else s

/-- The posted writes that a reset of the SB fails (13 R371, R375): their detector 0x01 is masked by the shadow. -/
def State.postedMasked (s : State) (n seq : Nat) : State :=
  let f := fBlk 0x1A 0x01
  let (base, _, _, _) := detSettings s f 0
  s.each (List.range n) fun s _ => (s.recordEvent f base 0 true false (some seq)).2

/-- A block is reset: its shadow opens and it is hedged for its settle window; a second reset within 10 s
raises 0xF0 instead. -/
def State.resetBlock (s : State) (blk : Nat) (f : Fsid) (seq : Nat) : State :=
  match settleMs blk with
  | none =>
    -- SP is reset too, and no settle window is stated: its hedge lifts at the next executed start (log 114, DESIGN CHOICE)
    if blk == 0x20 then s.addHedge ⟨.block, blk, false, f, false, true, seq⟩ else s
  | some w =>
    if s.flt.resets.any fun x => x.1 == blk && s.time.ot - x.2 < 10000 then s.notSettled blk (some seq)
    else
      let posted := if blk == 0x1A then (s.bridge.out.filter (·.op == 3)).length else 0
      let s := s.clearBlock blk
      let s := s.addHedge ⟨.block, blk, false, f, false, false, seq⟩
      let s : State := { s with flt := { s.flt with
          shadows := (s.flt.shadows.filter fun x => !(x.block == blk)) ++ [⟨blk, s.time.ot + w, f, seq⟩]
          resets := (s.flt.resets.filter fun x => !(x.1 == blk)) ++ [(blk, s.time.ot)] } }
      s.postedMasked posted seq

/-! ### Consequential and masked events (R299, R301) -/

/-- Would the reaction of an event lie wholly within the hedge of a block under reset (R299)? Class F0 and F1 react on
nothing; an F2 lies within where it hedges no more than *Settle windows* does for the block. -/
def State.inHedge (s : State) (blk : Nat) (f : Fsid) (cls : Nat) : Bool :=
  cls ≤ 1 || (cls == 2 &&
    (if 0x10 ≤ blk && blk ≤ 0x15 then f.level != 0 || (s.members f.cell).all fun c => bankOf c + 0x10 == blk
     else if blk == 0x16 then true
     else f.block == blk || (blk == 0x1E && f.block == 0x19)))

/-- The open shadow that masks an event of a class, if any. `via` is the network of a connection's copy. (log 24, DEDUCED) -/
def State.maskedBy (s : State) (f : Fsid) (cls : Nat) (via : Option Net) : Option Shadow :=
  s.flt.shadows.find? fun x => dependant x.block f && s.inHedge x.block f cls &&
    (if f.block == 0x16 && x.block == 0x17 then via == some .a
     else if f.block == 0x16 && x.block == 0x18 then via == some .b else true)

/-- The parent that an event not masked names as related while a shadow is open: of the shadow of its own block where
there is one, else of the first (R299). (log 24, DEDUCED) -/
def State.related (s : State) (f : Fsid) : Option Nat :=
  ((s.flt.shadows.find? fun x => dependant x.block f).orElse fun _ => s.flt.shadows.head?).map (·.seq)

/-- The hedge in effect in which the reaction of an event of a commons block lies wholly (R291, R301). -/
def State.cmWithin (s : State) (f : Fsid) : Option Hedge :=
  if 0x10 ≤ f.block && f.block ≤ 0x15 then
    let bank (p : Hedge → Bool) : Option Hedge :=
      s.flt.hedges.find? fun h => h.kind == .bank && h.index == f.block - 0x10 && p h
    if f.level == 0 then
      let g := (s.cellCfg f.cell).ogroup
      let group := if 0x10 ≤ f.det && cOut (s.cellCfg f.cell) && g != 0 then s.hedge? .group g else none
      (s.hedge? .cell f.cell).orElse fun _ => group.orElse fun _ => bank (·.latched)
    else bank fun h => h.latched || f.det == 0x01 || f.det == 0x02
  else if f.block == 0x16 then if f.level == 0 then s.hedge? .conn f.cell else none
  else if f.block == 0x17 then s.hedge? .net 0
  else if f.block == 0x18 then s.hedge? .net 1
  else s.flt.hedges.find? fun h => h.kind == .block && h.index == f.block && h.latched

/-- The SEQ of the event whose reaction, still in effect, contains the reaction of an event (R301): TERMINAL, SAFE, the
withdrawal of a lane, or a hedge. -/
def State.within (s : State) (f : Fsid) (cls : Nat) : Option Nat :=
  if cls ≥ 5 then if s.pow.mod == .terminal then some s.flt.safeseq else none
  else if s.stopped then some s.flt.safeseq
  else
    match laneOfRegion f.region with
    | some l =>
      if (s.lane l).st == .withdrawn && !(f.block == 0 && f.det == 0x08) && (s.lane l).lastwd.isSome then
        some (s.lane l).wdseq
      else if cls ≤ 2 && f.level == 0 && f.block == 0x07 then (s.hedge? .cv (l.num * 8 + f.cell % 8)).map (·.seq)
      else none
    | none => if f.region == 3 && cls ≤ 2 then (s.cmWithin f).map (·.seq) else none

/-- Is the source under the cloche (R301.7)? A cell or its bank, or the lane under test. -/
def State.underCloche (s : State) (f : Fsid) : Bool :=
  if f.region == 3 && 0x10 ≤ f.block && f.block ≤ 0x15 then
    if f.level == 0 then (s.cell f.cell).under else (cellsOf (f.block - 0x10)).all fun c => (s.cell c).under
  else match laneOfRegion f.region with
    | some l => (s.lane l).testHold.isSome && 0 < f.level
    | none => false

/-! ### Reactions (R289) -/

/-- Is the source a check-value engine of a lane? -/
def ofEngine (f : Fsid) : Bool := f.level == 0 && f.block == 0x07

/-- Would the lane have fewer than four engines left, with this one hedged (R290)? -/
def State.fewEngines (s : State) (l : Lane) (f : Fsid) : Bool :=
  8 - ((s.lane l).cvhedge ++ [f.cell % 8]).eraseDups.length < 4

/-- The class as the module's state makes it: a lane with too few engines is withdrawn, XH and MF are not reset, a lane fault in the commons names no
lane, with two lanes ACTIVE a cause of withdrawal stops the module, and so does a second lane
supply lost in any state (R289, R300, 05 R170, 01 R14). (log 27, DEDUCED) -/
def State.widen (s : State) (f : Fsid) (cls : Nat) (named : Option Lane) : Nat :=
  let out := named.orElse fun _ => laneOfRegion f.region
  match out with
  | some l =>
    let cv := ofEngine f
    let noSupply := f.block == 0 && f.det == 0x08 && Lane.all.any fun m => m != l && !(s.lane m).supply
    let cls := if noSupply then 4 else if cls == 2 && cv && s.fewEngines l f then 3 else cls
    let tests := cls == 3 || (cls == 2 && !cv)
    if tests && s.isActive l && s.nActive ≤ 2 && s.cycling then 4 else cls
  | none =>
    if f.region == 3 then
      if cls == 3 then 4 else if cls == 2 && (f.block == 0x1C || f.block == 0x1D) then 4 else cls
    else cls

/-- The hedge of a cell, latched, with its output group (R291, 07 R222). -/
def State.hedgeCell (s : State) (c : Nat) (f : Fsid) (seq : Nat) : State :=
  let s := s.addHedge ⟨.cell, c, true, f, true, false, seq⟩
  let g := (s.cellCfg c).ogroup
  if cOut (s.cellCfg c) && g != 0 then s.addHedge ⟨.group, g, true, f, true, false, seq⟩ else s

/-- The contained reaction, class F2, in the commons. -/
def State.containCm (s : State) (f : Fsid) (seq : Nat) : State :=
  if f.level != 0 && f.det == 0xF0 then s.hedgeUnsettled f.block f seq
  else if 0x10 ≤ f.block && f.block ≤ 0x15 then
    let b := f.block - 0x10
    if f.level == 0 then s.hedgeCell f.cell f seq
    else if f.det == 0x01 || f.det == 0x02 then s.addHedge ⟨.bank, b, false, f, true, false, seq⟩
    else if f.det == 0xE0 then s.resetBlock f.block f seq
    else (s.openCut b).addHedge ⟨.bank, b, true, f, f.det == 0x03 || f.det == 0x40, false, seq⟩
  else if f.level == 0 && f.block == 0x16 then
    let s := s.updConn f.cell fun c => { c with fault := true }
    s.addHedge ⟨.conn, f.cell, true, f, true, false, seq⟩
  else s.resetBlock f.block f seq

/-- A hedged check-value engine (R290). -/
def State.hedgeEngine (s : State) (l : Lane) (f : Fsid) (seq : Nat) : State :=
  let s := s.updLane l fun x => { x with cvhedge := (x.cvhedge ++ [f.cell % 8]).eraseDups }
  s.addHedge ⟨.cv, l.num * 8 + f.cell % 8, true, f, false, false, seq⟩

/-- The core of a split lane that an event names (05 R178): the core whose own block raised it; the Trellis serves core 0;
a block that serves both cores names one that the manual does not state. (log 117, DESIGN CHOICE) -/
def State.coreOf (s : State) (l : Lane) (f : Fsid) : Bool :=
  (s.lane l).blame.getD (if f.block == 0x02 || f.block == 0x03 then false else Config.openCore f.block)

/-- A core of a split lane stops and is named. -/
def LaneSt.stopCore (core : Bool) (x : LaneSt) : LaneSt :=
  { x with stopped := x.stopped.upd core true, faultcore := x.faultcore.upd core true }

/-- A resynchronisation that fails (R168): back to WITHDRAWN, counted, RSYFAIL, and the restart check again. Its event is
collected as any other: counted, and consequential once the module has stopped. -/
def State.failResync (s : State) (l : Lane) (parent : Option Nat) : State :=
  let f := fLane l 0x07
  let (base, _, _, _) := detSettings s f 3
  match s.within f 3 with
  | some p => (s.recordEvent f base 3 true false (some p)).2
  | none =>
    let (cls, up, s) := s.countEvent f 3
    let (seq, s) := s.recordEvent f base cls false up parent
    let s := (s.startGrace f seq cls (some l)).archiveTrigger seq
    let s := { s with cyc := { s.cyc with rsyfail := satInc 32 s.cyc.rsyfail } }
    let s := s.withdraw l f seq .checking true
    if 4 ≤ cls then s.enterSafe seq else s

/-- A lane-class reaction against a lane: withdrawn, or its resynchronisation fails (R162, R168). In split mode class F3
stops the one core, and class F2 resets its block alone (05 R178). -/
def State.reactLane (s : State) (l : Lane) (f : Fsid) (cls seq : Nat) : State :=
  match (s.lane l).st with
  | .active => (s.withdraw l f seq (nextHold f) true).afterWithdraw l f
  | .resync => s.failResync l (some seq)
  | .split => if cls == 2 then s else s.updLane l (LaneSt.stopCore (s.coreOf l f))
  | .withdrawn => s

/-- The reaction of an event of a class. -/
def State.react (s : State) (f : Fsid) (cls seq : Nat) (named : Option Lane) : State :=
  let s := if cls ≥ 2 then s.archiveTrigger seq else s
  match cls with
  | 0 => s
  | 1 => s
  | 2 =>
    match laneOfRegion f.region with
    | some l =>
      if ofEngine f then
        let s := s.hedgeEngine l f seq
        if (s.lane l).st == .resync then s.reactLane l f 2 seq else s
      else s.reactLane l f 2 seq
    | none => if f.region == 3 then s.containCm f seq else s.resetBlock f.block f seq
  | 3 =>
    match named.orElse fun _ => laneOfRegion f.region with
    | some l =>
      let s := if ofEngine f && s.fewEngines l f then s.hedgeEngine l f seq else s
      s.reactLane l f 3 seq
    | none => if f.region == 4 then s.serviceRestart (f.block == 0x22) else s.enterSafe seq
  | 4 => s.enterSafe seq
  | _ => ({ s with flt := { s.flt with safeseq := seq } }).enterTerminal

/-- MF collects an event (R285): class by counting, masking and widening; record; grace timer; reaction.
`dflt` is the class its rule gives where the manual numbers no detector, `named` the lane a rule names,
`via` the network of a copy. Answers the SEQ. (log 23, DEDUCED) -/
def State.collectFull (s : State) (f : Fsid) (dflt : Nat) (parent : Option Nat) (named : Option Lane)
    (via : Option Net) : Nat × State :=
  if s.underCloche f then (s.recs.seq, s)
  else
    let (base, _, _, _) := detSettings s f dflt
    let present := s.presentClass f dflt
    match s.maskedBy f present via with
    | some x => s.recordEvent f base 0 true false (some x.seq)
    | none =>
      match s.within f present with
      | some p =>
        let (seq, s) := s.recordEvent f base present true false (some p)
        (seq, if 2 ≤ present then s.archiveTrigger seq else s)
      | none =>
        let (cls, up, s) := s.countEvent f dflt
        let cls := s.widen f cls named
        let (seq, s) := s.recordEvent f base cls false up (parent.orElse fun _ => s.related f)
        let out := if cls == 3 || (cls == 2 && !(ofEngine f)) then named.orElse fun _ => laneOfRegion f.region else none
        let s := s.startGrace f seq cls out
        (seq, s.react f cls seq named)

/-- An event with the class of its detector. -/
def State.collect (s : State) (f : Fsid) : State := (s.collectFull f 1 none none none).2

/-- An event whose record names or carries something beside its source. -/
def State.collectNamed (s : State) (f : Fsid) (x : List Nat) : State :=
  let r := s.collectFull f 1 none none none
  r.2.noteFault r.1 x

/-- An event whose detector number the manual leaves open: a free number, the class its rule gives. (log 6, DESIGN CHOICE) -/
def State.collectOpen (s : State) (level region block cell k cls : Nat) : State :=
  (s.collectFull ⟨level, region, block, cell, openNum k⟩ cls none none none).2

/-- A module-stop event, class F4, under a given source. -/
def State.stopModule (s : State) (f : Fsid) : State := (s.collectFull f 4 none none none).2

end Sys2Proof.Machine
end

