-- ==== Sys2Proof/Machine/Inputs.lean ====
section
/-! DEFINITION. Vital inputs (06): channels, filters, pairs, the test frame, test-pulse checks, warm-up and the
bank supply. -/

namespace Sys2Proof.Machine

/-- Sense thresholds by pulse length: TFALL and TREC in µs (R192). -/
def tRec (tpulse : Nat) : Nat := if tpulse ≤ 550 then 200 else if tpulse ≤ 750 then 300 else 500

/-- Slot length in µs (R185). (log 18, DESIGN CHOICE) -/
def slotUs (tframe : Nat) : Nat := tframe * 1000 / 48

/-! ### Channels and pairs -/

/-- What a channel shows: its filtered value; 0 while it is held, in warm-up, or on an unused cell (R180, R190, R199). -/
def State.shown (s : State) (c : Nat) (l : Lane) : Bool :=
  let x := s.cell c
  let ch := x.ch.get l
  cIn (s.cellCfg c) && ch.filt && !ch.held && !x.warm

/-- The logical values of a pair's two channels in one lane (R193). -/
def State.pairAB (s : State) (c : Nat) (l : Lane) : Bool × Bool :=
  let b := s.shown (c + 1) l
  (s.shown c l, if cAnti (s.cellCfg c) then !b else b)

/-- Is the bank of a pair hedged, from its event on (R197)? -/
def State.bankOut (s : State) (b : Nat) : Bool := s.hedgedAny .bank b || s.hedgedAny .block (0x10 + b)

/-- Are disagreement runs of a pair held at 0: bank hedged, a cell in warm-up or under the cloche (R197, R199, R200)? -/
def State.pairSuspended (s : State) (c : Nat) : Bool :=
  s.bankOut (bankOf c) ||
  (s.cell c).warm || (s.cell (c + 1)).warm || (s.cell c).under || (s.cell (c + 1)).under

/-- A channel changed in one lane of one cell. -/
def State.updCh (s : State) (c : Nat) (l : Lane) (f : ChSt → ChSt) : State :=
  s.updCell c fun x => { x with ch := x.ch.set l (f (x.ch.get l)) }

/-- A pair's logic at a tick in one lane (R194 to R196): the latch clears when both are 1 after both were 0
together, and is kept while the bank is hedged (R197); a run begins where they differ and ends where they agree. -/
def State.pairTick (s : State) (c : Nat) (l : Lane) : State :=
  if !cPair (s.cellCfg c) then s
  else
    let (a, b) := s.pairAB c l
    let off := s.pairSuspended c
    let keep := s.bankOut (bankOf c)
    let now := s.time.ot
    s.updCh c l fun ch =>
      let clears := ch.latch && a && b && ch.bothoff && !keep
      let latch := ch.latch && !clears
      { ch with
        latch := latch
        bothoff := if keep then ch.bothoff else latch && (ch.bothoff || (!a && !b))
        run := if a == b || latch || off then none else ch.run.orElse fun _ => some now }

/-- The pair logic of every lane for the pair that holds a cell. -/
def State.pairTicks (s : State) (c : Nat) : State :=
  let c := c / 2 * 2
  ((s.pairTick c .a).pairTick c .b).pairTick c .c

/-- The value of a pair in one lane: both logical values 1 and no latch (R194). -/
def State.pairVal (s : State) (c : Nat) (l : Lane) : Bool :=
  let (a, b) := s.pairAB c l
  a && b && !((s.cell c).ch.get l).latch

/-- Consolidation of three channels (R183): majority of three ACTIVE lanes, both of two; in split mode the lane's own
channel (05 R177). -/
def State.consolidate (s : State) (v : Lane → Bool) : Bool :=
  match s.inLanes with
  | [x, y, z] => (v x && v y) || (v y && v z) || (v x && v z)
  | [x, y] => v x && v y
  | [x] => s.pow.split && v x
  | _ => false

/-- Is a cell the second of a pair? -/
def State.pairSecond (s : State) (c : Nat) : Bool := c % 2 == 1 && cPair (s.cellCfg (c - 1))

/-! ### Warm-up (R199, 07 R223) -/

/-- A channel at the entry into warm-up: its run ends, and the entry counts as a change of the effective drive
to 0 of an output cell (07 R223). -/
def ChSt.enterWarm (out : Bool) (now : Nat) (ch : ChSt) : ChSt :=
  let ch := { ch with run := none }
  if out then ch.newDrive now else ch

/-- A cell enters warm-up: its channels hold 0, its run ends, its effective drive falls to 0. -/
def State.enterWarm (s : State) (c : Nat) : State :=
  let cfg := s.cellCfg c
  (s.updCell c fun x => { x with
    warm := true, warmFrame := false, warmClean := false, warmLight := .all false, eff := false
    ch := x.ch.map (ChSt.enterWarm (cOut cfg) s.time.ot) }).pairTicks c

/-- Every cell enters warm-up, after power-up and after every restart. -/
def State.warmAll (s : State) : State := s.each (List.range Config.nCells) State.enterWarm

/-! ### The latches at a start (R183, R203) -/

/-- One cell's latched values at an executed start: the three channels, the consolidated value, the
discrepancy flag. A hedged cell, one in warm-up or under the cloche reads restrictive. -/
def State.latchCell (s : State) (c : Nat) : State :=
  let cfg := s.cellCfg c
  let out := s.cellHedged c || (s.cell c).warm
  let v (l : Lane) : Bool := if cPair cfg then s.pairVal c l else s.shown c l
  let val := !s.pairSecond c && !out && cIn cfg && s.consolidate v
  let disc := cPair cfg && s.inLanes.any fun l => ((s.cell c).ch.get l).latch
  s.updCell c fun x => { x with
    chval := ⟨s.shown c .a, s.shown c .b, s.shown c .c⟩
    cval := val
    disc := disc }

/-- A discrepancy flag newly latched raises detector 0x06 (R195). (log 43, DEDUCED) -/
def State.latchAll (s : State) : State :=
  let before := (List.range Config.nCells).filter fun c => (s.cell c).disc
  let s := s.each (List.range Config.nCells) State.latchCell
  s.each (List.range Config.nCells) fun s c =>
    if (s.cell c).disc && !before.contains c then s.collect (fCell c 0x06) else s

/-- At the drive step every ACTIVE lane sets the latch of its own channel of a pair whose flag is latched (R196). (log 43, DEDUCED) -/
def State.setLatches (s : State) : State :=
  s.each (List.range Config.nCells) fun s c =>
    if (s.cell c).disc then
      s.each s.actives fun s l => s.updCh c l fun ch =>
        if ch.latch then ch else { ch with latch := true, bothoff := false, run := none }
    else s

/-! ### Channel disagreement (R184) -/

/-- What R184 compares: the filtered channel of an input cell, the readback of an output cell. -/
def State.cmpVal (s : State) (c : Nat) (l : Lane) : Bool :=
  if cOut (s.cellCfg c) then ((s.cell c).ch.get l).rb else s.shown c l

/-- The count of one lane's channel of one cell at an executed start. -/
def State.countDis (s : State) (c : Nat) (l : Lane) : State :=
  let v := s.consolidate (s.cmpVal c)
  let differs := s.isActive l && cUsed (s.cellCfg c) && !(s.cell c).under && s.cmpVal c l != v
  s.updCh c l fun ch => { ch with dis := if differs then min 4 (ch.dis + 1) else 0 }

/-- The hedge releases changed through f. -/
def State.updRels (s : State) (f : RelSt → RelSt) : State :=
  { s with flt := { s.flt with rels := s.flt.rels.map f } }

/-- A release whose frame runs fails with its cell. -/
def RelSt.failFrame (c : Nat) (r : RelSt) : RelSt :=
  if r.cells.contains c && r.inFrame && !r.frameOk then { r with failed := true } else r

/-- Detector 0x01 of a cell: its event, consequential while the cell is hedged (10 R301), and the end of a release whose
frame runs (R191). -/
def State.raiseDis (s : State) (c : Nat) : State := (s.updRels (RelSt.failFrame c)).collect (fCell c 0x01)

def Hedge.inEffect (h : Hedge) : Hedge := { h with pending := false }

/-- The disagreement check of every cell at an executed start: the cell is hedged from this start, the third. Split mode
compares nothing (05 R177). -/
def State.disagreements (s : State) : State :=
  if s.pow.split then s
  else
    let s := s.each (List.range Config.nCells) fun s c =>
      let s := s.each Lane.all fun s l => s.countDis c l
      s.each Lane.all fun s l => if s.isActive l && ((s.cell c).ch.get l).dis == 3 then s.raiseDis c else s
    s.updHedges (fun h => h.pending && h.fsid.level == 0 && h.fsid.det == 0x01 && h.kind != .conn) Hedge.inEffect

/-! ### Test-pulse checks (R189, R190) -/

/-- The lanes whose channels check their comparators: every lane that is supplied (R189). -/
def State.sensing (s : State) : List Lane := Lane.all.filter fun l => (s.lane l).supply

/-- Does the check of a channel run: a used cell not under the cloche, its PTEST set where it is an input, and
its precondition ON at the start of the slot? (log 44, DEDUCED). -/
def State.pulseCheck (s : State) (c : Nat) (l : Lane) : Bool :=
  let cfg := s.cellCfg c
  (cPtest cfg || cOut cfg) && !(s.cell c).under && s.sensing.contains l && ((s.cell c).ch.get l).onslot

/-- Is a bank hedged for its FSV, so that no test-pulse fault of its cells is recorded (R197)? -/
def State.fsvHedged (s : State) (b : Nat) : Bool :=
  s.hedgedAny .bank b && ((s.bank b).fsvOut || (s.bank b).fsvBack)

/-- A channel observes a test-pulse fault: it holds 0 from now on, with its flag set. -/
def ChSt.flag (det : Nat) (raised : Bool) (ch : ChSt) : ChSt := { ch with held := true, flags := ch.flags ++ [(det, raised)] }

/-- A test-pulse fault of a cell, observed by some channels: they hold 0 from now on, the fault is counted, and where a lane
that is ACTIVE observes it its detector is raised (R183, R190). A bank hedged for FSV records none (R197), but the frame is
not clean. -/
def State.pulseFault (s : State) (c det : Nat) (ls : List Lane) : State :=
  if ls.isEmpty then s
  else
    let s := s.updCell c fun x => { x with faulted := true }
    if s.fsvHedged (bankOf c) then s
    else
      let raised := ls.any s.markers.contains
      let s := s.each ls fun s l => s.updCh c l (ChSt.flag det raised)
      let s := (s.updCell c fun x => { x with tfcnt := satInc 16 x.tfcnt }).pairTicks c
      if raised then s.collect (fCell c det) else s

/-- Does a channel of a lane that is ACTIVE at this start show a test-fault flag of the cell set (R183)? -/
def State.flagShown (s : State) (c det : Nat) : Bool :=
  s.markers.any fun l => ((s.cell c).ch.get l).flags.any (·.1 == det)

/-- The hedge that an observation of a test-pulse fault asks for from this start on. -/
def asksHedge (c det : Nat) (h : Hedge) : Bool := h.pending && h.fsid == fCell c det

/-- One test-fault flag of a cell at a start: no hedge where no lane ACTIVE now shows it, and its event where only a lane
that has become ACTIVE since observed it. -/
def State.latchFlag (s : State) (c det : Nat) : State :=
  if s.flagShown c det then
    if s.markers.any fun l => ((s.cell c).ch.get l).flags.contains (det, true) then s else s.collect (fCell c det)
  else if s.flt.hedges.any (asksHedge c det) then
    let lower (ch : ChSt) : ChSt := { ch with flags := ch.flags.map fun f => if f.1 == det then (det, false) else f }
    (s.dropHedges (asksHedge c det)).updCell c fun x => { x with ch := x.ch.map lower }
  else s

/-- The test-fault flags of every cell latched at a start (R183, R190); those of the lanes ACTIVE now are taken. -/
def State.latchFlags (s : State) : State :=
  s.each (List.range Config.nCells) fun s c =>
    let s := s.each [2, 3, 4, 5] fun s d => s.latchFlag c d
    s.each s.markers fun s l => s.updCh c l fun ch => { ch with flags := [] }

/-! ### Frame boundaries (R185, R186, R191, R197, R199) -/

/-- A cell at the start of a frame. -/
def CellSt.beginFrame (x : CellSt) : CellSt := { x with faulted := false, warmFrame := x.warmFrame || x.warm }

/-- A bank at the start of a frame. -/
def BankSt.beginFrame (b : BankSt) : BankSt := if b.fsvBack then { b with fsvFrame := true, fsvClean := false } else b

/-- A cell at the end of a frame. -/
def CellSt.endFrame (x : CellSt) : CellSt :=
  if x.warm && x.warmFrame && !x.faulted then { x with warmClean := true } else x

/-- A release at the end of a frame; `bad` says that a covered cell observed a test-pulse fault. -/
def RelSt.endFrame (bad : Bool) (r : RelSt) : RelSt :=
  if r.inFrame && !r.frameOk then (if bad then { r with failed := true } else { r with frameOk := true }) else r

/-- The cells of releases that begin their frame: their flags are cleared (R191). A release of a bank leaves those of a cell
that is hedged itself. -/
def State.beginRels (s : State) : State :=
  s.each (s.flt.rels.filter (!·.inFrame)) fun s r =>
    s.each (r.cells.filter fun c => r.kind == 1 || !s.hedgedAny .cell c) fun s c =>
      s.each Lane.all fun s l => s.updCh c l fun ch => { ch with held := false, flags := [], dis := 0 }

/-- A frame starts: the settings in force, and what waits for a whole frame begins it. -/
def State.frameStart (s : State) : State :=
  let s := { s with frame := { s.frame with running := true, slot := 0, tframe := s.set.tframe, tpulse := s.set.tpulse, pulse := none } }
  let s := { s with cells := s.cells.map CellSt.beginFrame, banks := s.banks.map BankSt.beginFrame }
  s.beginRels.updRels fun r => { r with inFrame := true }

/-- Did any of the cells observe a test-pulse fault in the frame? -/
def State.anyFaulted (s : State) (cs : List Nat) : Bool := cs.any fun c => (s.cell c).faulted

/-- A frame ends: FRAMECNT and SLOTSKEW, and the outcome of what ran through it. -/
def State.frameEnd (s : State) : State :=
  let f := s.frame
  let s := { s with frame := { f with framecnt := satInc 32 f.framecnt, slotskew := f.skewmax, skewmax := 0 } }
  let s := { s with cells := s.cells.map CellSt.endFrame }
  let s := s.each (List.range 6) fun s b =>
    if (s.bank b).fsvBack && (s.bank b).fsvFrame then
      if s.anyFaulted (cellsOf b) then s
      else s.updBank b fun x => { x with fsvClean := true }
    else s
  s.updRels fun r => r.endFrame (s.anyFaulted r.cells)

/-- The pairs' logic in every lane at a tick (R194). -/
def State.pairsTick (s : State) : State := s.each (List.range 24) fun s p => s.pairTicks (2 * p)

/-- A cell's Sx opens for its test pulse; the channels that read ON at the start of the slot are those the
checks look at (R187, R189). -/
def execTestPulseStart (cell : Nat) (on : Trio CellMask) (s : State) : Res :=
  .next (
    if s.frame.running && s.frame.slot == cell && cell < Config.nCells && !(s.cell cell).under &&
        s.frame.pulse.isNone then
      let mark (l : Lane) (c : Nat) (ch : ChSt) : ChSt := { ch with onslot := (on.get l).getLsbD c, ownTick := false }
      let s := { s with frame := { s.frame with pulse := some cell } }
      s.each (List.range Config.nCells) fun s c =>
        s.each Lane.all fun s l => s.updCh c l (mark l c)
    else s)

/-- End of the own pulse: a channel that was ON and did not drop raises detector 0x04. (log 44, DEDUCED) -/
def execTestPulseEnd (cell : Nat) (dropped : Trio Bool) (s : State) : Res :=
  .next (
    if s.frame.pulse == some cell then
      s.pulseFault cell 0x04 (Lane.all.filter fun l => s.pulseCheck cell l && !dropped.get l)
    else s)

/-- End of a pulse window: slow recovery 0x02 and sensor supply 0x03 of the own cell, foreign drops 0x05 of the others. -/
def execPulseWindowEnd (slot : Nat) (dropped recovered nextOn : Trio CellMask) (sxFell sxBack : Bool)
    (s : State) : Res :=
  .next (
    if s.frame.pulse == some slot then
      let bit (m : Trio CellMask) (l : Lane) (c : Nat) : Bool := (m.get l).getLsbD c
      let s := { s with frame := { s.frame with pulse := none } }
      let s := s.pulseFault slot 0x02 (Lane.all.filter fun l =>
        s.pulseCheck slot l && bit dropped l slot && !bit recovered l slot && bit nextOn l slot)
      let s := if cUsed (s.cellCfg slot) && !(s.cell slot).under && !(sxFell && sxBack) then
          s.pulseFault slot 0x03 s.sensing else s
      s.each ((List.range Config.nCells).filter (· != slot)) fun s c =>
        let ls := Lane.all.filter fun l => s.pulseCheck c l && bit dropped l c && bit recovered l c
        if ls.isEmpty then s
        else (if s.fsvHedged (bankOf c) then s else s.updCell c fun x => { x with fslot := slot }).pulseFault c 0x05 ls
    else s)

/-- Sx held in its current limit for 10 ms: detector 0x03. -/
def execSxCurrentLimit (cell : Nat) (s : State) : Res :=
  .next (
    if cell < Config.nCells && cUsed (s.cellCfg cell) && !(s.cell cell).under && s.pow.on then
      s.pulseFault cell 0x03 s.sensing
    else s)

/-! ### Filters and pairs -/

/-- Does a tick now fall in the cell's own pulse window (R188)? With TPULSE at most 600 µs none does. -/
def State.ownWindow (s : State) (c : Nat) : Bool := s.frame.pulse == some c && 600 < s.frame.tpulse

/-- One tick of a channel: its sample, or the sample of the tick before it at the one tick of a frame that falls in the
cell's own pulse window; the filtered value changes where this sample and those of the TFILT ticks before it all show the
new value (R182, R188). Fx of an output cell is filtered the same way (07 R220). -/
def ChSt.sample (own out : Bool) (tfilt : Nat) (ch : ChSt) (v : Bool) : ChSt :=
  let hold := own && !ch.ownTick
  let v := if hold then ch.hist.headD v else v
  let hist := (v :: ch.hist).take 256
  let last := hist.take (tfilt + 1)
  let ch := { ch with hist := hist, ownTick := ch.ownTick || hold }
  if last.length == tfilt + 1 && last.all (· == v) then
    if out then { ch with fx := v } else { ch with filt := v }
  else ch

/-- The comparator's readings of a channel at one tick or at several that follow each other. During the cell's own pulse the
first of them is that of the tick in its window. (log 67, DEDUCED) -/
def execInputFilterChange (lane : Lane) (cell : Nat) (samples : List Bool) (s : State) : Res :=
  .next (
    let cfg := s.cellCfg cell
    if cell < Config.nCells && cUsed cfg && s.pow.on then
      (s.updCh cell lane fun ch =>
        samples.foldl (ChSt.sample (s.ownWindow cell) (cOut cfg) cfg.tfilt) ch).pairTicks cell
    else s)

/-- A channel that has differed at three executed starts hedges its cell (R184). -/
def execChannelDisagreement (lane : Lane) (cell : Nat) (s : State) : Res :=
  .next (if s.isActive lane && ((s.cell cell).ch.get lane).dis ≥ 3 then s.raiseDis cell else s)

/-- A disagreement run that has reached Td latches a discrepancy fault in that lane's channel (R195). -/
def execDiscrepancyFault (lane : Lane) (cell : Nat) (s : State) : Res :=
  .next (
    let ch := (s.cell cell).ch.get lane
    match ch.run with
    | some t0 =>
      let (a, b) := s.pairAB cell lane
      if cPair (s.cellCfg cell) && a != b && !ch.latch && !s.pairSuspended cell &&
          s.time.ot - t0 ≥ (s.cellCfg cell).td * 10 then
        s.updCh cell lane fun x => { x with latch := true, bothoff := false, run := none }
      else s
    | none => s)

/-! ### Bank supply (R197) -/

def ChSt.endRun (ch : ChSt) : ChSt := { ch with run := none }

/-- FSV outside its trip points for 1 ms: detector 0x02 high, 0x01 low. -/
def execBankSupplyTrip (bank : Nat) (high : Bool) (s : State) : Res :=
  .next (
    if bank < 6 && s.pow.on then
      let s := s.updBank bank fun b => { b with fsvOut := true, fsvBack := false, fsvFrame := false, fsvClean := false, step := none }
      let s := s.each (cellsOf bank) fun s c =>
        (s.updCell c fun x => { x with ch := x.ch.map ChSt.endRun }).putEff c false
      s.collect (fBank bank (if high then 0x02 else 0x01))
    else s)

/-- FSV has stayed inside for 100 ms: one clean frame later the bank's hedge lifts at an executed start. -/
def execBankSupplyRecover (bank : Nat) (s : State) : Res :=
  .next (
    if (s.bank bank).fsvOut && s.pow.on then
      s.updBank bank fun b => { b with fsvOut := false, fsvBack := true, fsvFrame := false, fsvClean := false }
    else s)

/-- At an executed start: banks whose FSV has returned and whose frame was clean lift (R197). -/
def State.liftFsv (s : State) : State :=
  s.each (List.range 6) fun s b =>
    if (s.bank b).fsvBack && (s.bank b).fsvClean then
      let s := s.updBank b fun x => { x with fsvBack := false, fsvFrame := false, fsvClean := false }
      s.dropHedges fun h => h.kind == .bank && h.index == b && !h.latched
    else s

end Sys2Proof.Machine
end

