-- ==== Sys2Proof/Machine/Outputs.lean ====
section
/-! DEFINITION. Vital outputs (07): effective drive and its windows, protection latches, element tests in
rounds, readback, feedback, warm-up and hedge releases of cells and banks. -/

namespace Sys2Proof.Machine

/-! ### Effective drive (R210) -/

/-- Do at least two lanes drive, their rings alternating? Every path needs the elements of two (01 R28, R204). -/
def State.twoDrive (s : State) : Bool := 2 ≤ (s.actives.filter fun l => (s.lane l).ring).length

/-- What the effective drive of a cell is: the voted DRIVE bit, held at 0 by warm-up, hedges, the cloche,
protection latches, the safe-state latch, latched gates, and a bank supply outside its trip points. -/
def State.effOf (s : State) (c : Nat) : Bool :=
  let x := s.cell c
  let b := s.bank (bankOf c)
  x.voted && cOut (s.cellCfg c) && s.drives && !x.warm && !s.cellHedged c && !x.prot && !b.prot && !b.fsvOut &&
    !s.flt.safelatch && !s.flt.gatelatch && s.twoDrive

/-- The effective drive of a cell brought up to date. (log 45, DESIGN CHOICE) -/
def State.setEff (s : State) (c : Nat) : State := s.putEff c (s.effOf c)

def State.setEffs (s : State) (cs : List Nat) : State := s.each cs State.setEff

/-- The cells whose effective drive is 1. -/
def State.effMask (s : State) : CellMask := maskOf 48 ((List.range Config.nCells).filter fun c => (s.cell c).eff)

/-- Is an element test of a cell in progress? -/
def State.stepping (s : State) (c : Nat) : Bool := (s.bank (bankOf c)).step.any (·.cell == c)

/-- A step that its cell's drive change ends: its results are discarded and it is repeated (R218). -/
def BankSt.abandonStep (c : Nat) (b : BankSt) : BankSt :=
  match b.step with
  | some x => if x.cell == c then { b with step := none, repeats := b.repeats ++ [(c, x.lane)] } else b
  | none => b

/-- The voted DRIVE bit of one cell at a drive step. -/
def State.driveCell (s : State) (m : CellMask) (c : Nat) : State :=
  let v := m.getLsbD c
  let s := if (s.cell c).voted != v then s.updBank (bankOf c) (BankSt.abandonStep c) else s
  (s.updCell c fun x => { x with voted := v }).setEff c

/-- The drive step: every ACTIVE lane drives its elements with the voted drive (04 R120). -/
def State.driveStep (s : State) (m : CellMask) : State :=
  let s := s.each (List.range Config.nCells) fun s c => s.driveCell m c
  let d := s.effMask
  s.each s.actives fun s l => s.updLane l fun x => { x with drive := if x.ring then d else 0 }

/-! ### Raising an output detector -/

def BankSt.noteDet (det : Nat) (b : BankSt) : BankSt :=
  if det == 0x10 || det == 0x13 || det == 0x14 then { b with badRound := true } else b

/-- An output detector of a cell, 0x10 to 0x18: OLAST and its fault event, with what the event names. -/
def State.raiseNamed (s : State) (c det : Nat) (x : List Nat) : State :=
  let s := s.updCell c fun x => { x with olast := det }
  let s := s.updBank (bankOf c) (BankSt.noteDet det)
  s.collectNamed (fCell c det) x

def State.raiseOut (s : State) (c det : Nat) : State := s.raiseNamed c det []

/-! ### Rounds (R213, R218) -/

/-- Could a step of a group run on a cell now (R214)? -/
def State.stepAllowed (s : State) (c : Nat) (l : Lane) : Bool :=
  let b := s.bank (bankOf c)
  cOut (s.cellCfg c) && s.drives && !(s.cell c).under && s.isActive l && !(s.cell c).prot && !b.prot &&
    !s.bankHedged (bankOf c) && !b.fsvOut && !s.flt.safelatch && !s.flt.gatelatch && !s.pow.split &&
    s.cycling && !s.pow.pfail

/-- Groups of a cell for which a step could have run so far in the round. (log 47, DEDUCED) -/
def State.noteCounted (s : State) (c : Nat) : State :=
  s.updCell c fun x => { x with counted :=
    ⟨x.counted.a || s.stepAllowed c .a, x.counted.b || s.stepAllowed c .b, x.counted.c || s.stepAllowed c .c⟩ }

/-- The count of successive counted rounds without a completed step. -/
def missNext (counted stepped hedged : Bool) (n : Nat) : Nat :=
  if !counted || hedged then n else if stepped then 0 else min 3 (n + 1)

/-- One cell at the end of a round. (log 47, DEDUCED) -/
def CellSt.roundEnd (hedged : Bool) (x : CellSt) : CellSt :=
  let f (l : Lane) : Nat := missNext (x.counted.get l) (x.stepped.get l) hedged (x.missed.get l)
  { x with missed := ⟨f .a, f .b, f .c⟩, stepped := .all false, counted := .all false }

/-- Light steps of every ACTIVE lane passed on a cell in the round. -/
def State.lightRound (s : State) (c : Nat) : Bool :=
  s.actives.all fun l => (s.cell c).lightOk.get l

/-- Did a release pass its round: a bank raised none of 0x10, 0x13, 0x14 (R212); every member of a group passed
the light step of each ACTIVE lane (R222)? -/
def State.relRound (s : State) (r : RelSt) : Bool :=
  if r.kind == 3 then !(s.bank r.index).badRound else r.cells.all s.lightRound

/-- A release at the end of a round. -/
def RelSt.endRound (ok : Bool) (r : RelSt) : RelSt :=
  if r.inRound && !r.roundOk then (if ok then { r with roundOk := true } else { r with failed := true }) else r

/-- A round ends. -/
def State.roundEnd (s : State) : State :=
  let s := s.updRels fun r => r.endRound (s.relRound r)
  s.each (List.range Config.nCells) fun s c =>
    let h := (s.bank (bankOf c)).hedgedRound || s.bankHedged (bankOf c)
    s.updCell c (CellSt.roundEnd h)

def BankSt.beginRound (hedged : Bool) (b : BankSt) : BankSt :=
  { b with pos := 0, repeats := [], badRound := false, hedgedRound := hedged }

def CellSt.beginRound (x : CellSt) : CellSt := { x with lightOk := .all false }

/-- A round starts: every lane counts its next mark from here. -/
def State.roundStart (s : State) : State :=
  let s := s.updLanes fun l => { l with roundmark := false, roundTb := l.tb }
  let s := { s with frame := { s.frame with rounds := true, roundcnt := satInc 32 s.frame.roundcnt, roundAt := s.time.ot } }
  let s := s.each (List.range 6) fun s b => s.updBank b (BankSt.beginRound (s.bankHedged b))
  let s := { s with cells := s.cells.map CellSt.beginRound }
  let s := s.each (List.range Config.nCells) State.noteCounted
  s.updRels fun r => { r with inRound := true }

/-- Have 1,000 ms passed on a lane's timebase since the start of the present round (R213)? -/
def State.roundCounted (s : State) (l : Lane) : Bool :=
  !s.frame.rounds || 10000000 ≤ ((s.lane l).tb + 2 ^ 64 - (s.lane l).roundTb) % 2 ^ 64

/-- A lane posts a round mark; the second one posted by an ACTIVE lane starts a round. -/
def execRoundMark (lane : Lane) (s : State) : Res :=
  .next (
    if !s.isActive lane || (s.lane lane).roundmark || !s.pow.on || !s.roundCounted lane then s
    else
      let s := s.updLane lane fun l => { l with roundmark := true }
      if (s.actives.filter fun l => (s.lane l).roundmark).length ≥ 2 then
        (if s.frame.rounds then s.roundEnd else s).roundStart
      else s)

/-- A cell that completed no step of a group in three successive counted rounds: detector 0x17, class F1. -/
def execTestNotCompleted (cell : Nat) (lane : Lane) (s : State) : Res :=
  .next (
    if (s.cell cell).missed.get lane ≥ 3 then
      (s.updCell cell fun x => { x with missed := x.missed.set lane 0 }).raiseOut cell 0x17
    else s)

/-! ### Steps (R214 to R216) -/

/-- Is a cell hedged by detector 0x10, with no release of it running? A release needs the light steps of its cells
(R222), so they run during one. -/
def State.stuckHedge (s : State) (c : Nat) : Bool :=
  (s.flt.hedges.any fun h => h.kind == .cell && h.index == c && h.fsid.det == 0x10) &&
    !s.flt.rels.any (fun r => r.kind == 1 && r.cells.contains c)

/-- The lane group at a position. -/
def groupAt (p : Nat) : Lane := if p % 3 == 0 then .a else if p % 3 == 1 then .b else .c

/-- The step scheduled at the present position of a bank, and the repeats left: cell n of the bank and group g
at position 3n + g, repeats from 24 onwards. -/
def schedule (bank : Nat) (b : BankSt) : Option (Nat × Lane) × List (Nat × Lane) :=
  if b.pos < 24 then (some (8 * bank + b.pos / 3, groupAt b.pos), b.repeats)
  else match b.repeats with
    | [] => (none, [])
    | x :: xs => (some x, xs)

/-- The rotation A, B, C of a bank's arbiter from a lane on (01 R20). -/
def rotation : Lane → List Lane
  | .a => [.a, .b, .c]
  | .b => [.b, .c, .a]
  | .c => [.c, .a, .b]

/-- The lane after one in the rotation. -/
def laneAfter : Lane → Lane
  | .a => .b
  | .b => .c
  | .c => .a

/-- The arbiter's grant: the first lane of the rotation that requests and is not WITHDRAWN. -/
def State.grantOf (s : State) (bank : Nat) (wants : Lane → Bool) : Option Lane :=
  (rotation (s.bank bank).arb).find? fun l => wants l && (s.lane l).st != .withdrawn

/-- The arbiter advances past the lane it has served. -/
def BankSt.served (l : Lane) (b : BankSt) : BankSt := { b with arb := laneAfter l }

/-- What a position's step is for, and the repeats left: the scheduled cell and group, or from 24 onwards the first repeat
of the lane that the arbiter grants. -/
def State.jobAt (s : State) (bank : Nat) : Option (Nat × Lane) × List (Nat × Lane) :=
  let b := s.bank bank
  if b.pos < 24 then schedule bank b
  else
    match s.grantOf bank fun l => b.repeats.any (·.2 == l) with
    | some l => (b.repeats.find? (·.2 == l), b.repeats.eraseP (·.2 == l))
    | none => (none, b.repeats)

/-- The step a position runs: dark on an energised cell, light on a de-energised one whose midpoints read MID
and that detector 0x10 has not hedged. -/
def State.stepFor (s : State) (c : Nat) (l : Lane) (midOk : Bool) : Option StepSt :=
  if !s.stepAllowed c l then none
  else if (s.cell c).eff then some ⟨c, l, true⟩
  else if midOk && !s.stuckHedge c then some ⟨c, l, false⟩
  else none

/-- A position of the round, 20 ms each, begins in a bank. -/
def execTestPosition (bank : Nat) (midOk : Bool) (s : State) : Res :=
  .next (
    let b := s.bank bank
    if bank < 6 && s.frame.rounds && b.pos < 50 && s.frame.roundAt + 20 * b.pos ≤ s.time.ot && b.step.isNone &&
        s.cycling && s.pow.on then
      let s := s.each (cellsOf bank) State.noteCounted
      let (job, rest) := s.jobAt bank
      let step := match job with
        | some (c, l) => s.stepFor c l midOk
        | none => none
      let s := match step with
        | some x => s.updBank bank (BankSt.served x.lane)
        | none => s
      s.updBank bank fun x => { x with
        pos := x.pos + 1, repeats := rest, step := step, hedgedRound := x.hedgedRound || s.bankHedged bank }
    else s)

/-- The path in which a lane's element is upper, the path in which it is lower, and the third path (R204). -/
def upperPath : Lane → Path
  | .a => .ab
  | .b => .bc
  | .c => .ca
def lowerPath : Lane → Path
  | .a => .ca
  | .b => .ab
  | .c => .bc
def thirdPath : Lane → Path
  | .a => .bc
  | .b => .ca
  | .c => .ab

/-- The two lanes whose elements a path has. -/
def pathLanes : Path → Lane × Lane
  | .ab => (.a, .b)
  | .bc => (.b, .c)
  | .ca => (.c, .a)

/-- A step of a group completed on a cell. -/
def CellSt.complete (l : Lane) (ot : Nat) (x : CellSt) : CellSt :=
  { x with stepped := x.stepped.set l true, stepOt := x.stepOt.set l (some ot) }

/-- A step ends: the lane's grant reads its result (01 R20). -/
def BankSt.endStep (l : Lane) (b : BankSt) : BankSt := { b.served l with step := none }

def pathNum : Path → Nat
  | .ab => 0
  | .bc => 1
  | .ca => 2

/-- A lane's element in a path, as an event names it: lane, path. -/
def elemName (l : Lane) (p : Path) : List Nat := [l.num, pathNum p]

/-- The other lane of a path. -/
def partner (l : Lane) (p : Path) : Lane := if (pathLanes p).1 == l then (pathLanes p).2 else (pathLanes p).1

/-- End of a dark step: a path with an element of lane X that carries current names that element, the third path without
current is named itself. -/
def execDarkStepEnd (bank : Nat) (current : Paths Bool) (s : State) : Res :=
  .next (
    match (s.bank bank).step with
    | some x =>
      if !x.dark then s
      else
        let third := thirdPath x.lane
        let (p, q) := pathLanes third
        let dead := s.isActive p && s.isActive q && !current.get third
        let s := (s.updBank bank (BankSt.endStep x.lane)).updCell x.cell (CellSt.complete x.lane s.time.ot)
        let s := s.each [upperPath x.lane, lowerPath x.lane] fun s p =>
          if current.get p then s.raiseNamed x.cell 0x10 (elemName x.lane p) else s
        if dead then s.raiseNamed x.cell 0x11 [pathNum third] else s
    | none => s)

def CellSt.passLight (l : Lane) (x : CellSt) : CellSt :=
  { x with lightOk := x.lightOk.set l true, warmLight := x.warmLight.set l true }

/-- End of a light step: a path with current names the partner element, a midpoint not reached the element; Px ON without
current in a path names none. -/
def execLightStepEnd (bank : Nat) (mids : Paths Mid) (current : Paths Bool) (pxOn : Bool) (s : State) : Res :=
  .next (
    match (s.bank bank).step with
    | some x =>
      if x.dark then s
      else
        let missed := (if mids.get (upperPath x.lane) == .high then [] else [upperPath x.lane]) ++
          (if mids.get (lowerPath x.lane) == .low then [] else [lowerPath x.lane])
        let live := [Path.ab, Path.bc, Path.ca].filter current.get
        let s := (s.updBank bank (BankSt.endStep x.lane)).updCell x.cell (CellSt.complete x.lane s.time.ot)
        let s := if missed.isEmpty && live.isEmpty && !pxOn then s.updCell x.cell (CellSt.passLight x.lane) else s
        let s := s.each live fun s p => s.raiseNamed x.cell 0x10 (elemName (partner x.lane p) p)
        let s := if live.isEmpty && pxOn then s.raiseOut x.cell 0x10 else s
        s.each missed fun s p => s.raiseNamed x.cell 0x11 (elemName x.lane p)
    | none => s)

/-! ### Checks at every tick (R217) -/

/-- Is a bank's rail cut off: by its protection latch, by the safe-state latch, or with its hedge for the test sequencer, a
failed test or a reset (R206, 10 R291, R300)? -/
def State.railCut (s : State) (b : Nat) : Bool :=
  (s.bank b).prot || s.flt.safelatch || s.hedgedAny .block (0x10 + b) ||
    s.flt.hedges.any fun h => h.kind == .bank && h.index == b && (h.fsid.det == 0x03 || h.fsid.det == 0x40 || h.fsid.det == 0xF0)

/-- A midpoint of a de-energised cell has read HIGH or LOW at three ticks: the element of the path's upper or
lower lane is stuck. Suspended while the rail is cut off or FSV is outside. -/
def execMidpointStuck (cell : Nat) (path : Path) (high : Bool) (s : State) : Res :=
  .next (
    let b := s.bank (bankOf cell)
    if cell < Config.nCells && cOut (s.cellCfg cell) && !(s.cell cell).eff && !(s.cell cell).under &&
        !s.stepping cell && !s.railCut (bankOf cell) && !b.fsvOut && s.pow.on then
      s.raiseNamed cell 0x10 (elemName (if high then (pathLanes path).1 else (pathLanes path).2) path)
    else s)

/-- A path that contains an element of a lane that is not ACTIVE carries current. -/
def execPathCurrentWithdrawn (cell : Nat) (path : Path) (s : State) : Res :=
  .next (
    let (p, q) := pathLanes path
    if cell < Config.nCells && cOut (s.cellCfg cell) && !(s.cell cell).under && s.pow.on &&
        !(s.isActive p && s.isActive q) then
      s.raiseNamed cell 0x10 (([p, q].filter fun l => !s.isActive l).flatMap fun l => elemName l path)
    else s)

/-! ### Readback and protection (R210 to R212) -/

def State.updTest (s : State) (f : TestSt → TestSt) : State := { s with be := { s.be with test := s.be.test.map f } }

def TestSt.cutOff (t : TestSt) : TestSt := { t with cut := true }

/-- A protection latch has been set on cells: a test that covers one of them measures no more (15 R417). -/
def State.cutTest (s : State) (cs : List Nat) : State :=
  if cs.any fun c => (s.cell c).under then s.updTest TestSt.cutOff else s

/-- The protection latch of a bank: the cut-off opens every element of the bank. -/
def BankSt.cut (now : Nat) (b : BankSt) : BankSt :=
  { b with prot := true, step := none, cutoff := if b.prot then b.cutoff else some (now, []) }

def State.cutBank (s : State) (b : Nat) : State :=
  ((s.updBank b (BankSt.cut s.time.ot)).setEffs (cellsOf b)).cutTest (cellsOf b)

/-- A cell whose Px reads ON with its bank cut off. -/
def BankSt.watch (now cell : Nat) (b : BankSt) : BankSt :=
  match b.cutoff with
  | some (t, cs) => { b with cutoff := some (t, if cs.contains cell then cs else cs ++ [cell]) }
  | none => { b with cutoff := some (now, [cell]) }

/-- A sampled tick of a readback channel: what it reads of Px, until the drive changes or it reads otherwise, and how many
such ticks in succession have differed from the expected value. -/
def ChSt.readPx (eff v : Bool) (ch : ChSt) : ChSt :=
  { ch with rb := v, px := if v == eff then none else some v, diff := if v == eff then 0 else min 4 (ch.diff + 1) }

/-- A readback fault, declared: of an energised output the cell's, of a de-energised one the bank's too (R212). Px is then
what the cut-off leaves. -/
def State.readFault (s : State) (c : Nat) : State :=
  if (s.cell c).eff then s.raiseOut c 0x12
  else
    let b := bankOf c
    let s := (s.cutBank b).updBank b (BankSt.watch s.time.ot c)
    let s := s.updCell c fun x => { x with ch := x.ch.map fun ch => { ch with px := none } }
    (s.raiseOut c 0x13).collect (fBank b 0x05)

/-- Does a tick now sample the readback channel of a lane: not in the settle window, not in a test step of the cell, and the
lane not WITHDRAWN, whose conversion the arbiter skips (R210, 01 R20)? -/
def State.samples (s : State) (c : Nat) (l : Lane) : Bool :=
  cOut (s.cellCfg c) && !s.stepping c && ((s.cell c).ch.get l).settle ≤ s.time.ot && (s.lane l).st != .withdrawn

/-- One conversion of a lane's readback channel; the fault is declared at the third sampled tick in succession that
differs. -/
def State.readOne (s : State) (c : Nat) (l : Lane) (v : Bool) : State :=
  let s := s.updCh c l (ChSt.readPx (s.cell c).eff v)
  if ((s.cell c).ch.get l).diff == 3 && !(s.cell c).under then s.readFault c else s

/-- The samples of a readback channel at consecutive sampled ticks, the last of them now; none of them from within the settle
window. Each is a conversion that the bank's arbiter grants. -/
def execReadbackFault (lane : Lane) (cell : Nat) (samples : List Bool) (s : State) : Res :=
  .next (
    let n := s.time.ot + 1 - ((s.cell cell).ch.get lane).settle
    if cell < Config.nCells && !(s.cell cell).under && s.pow.on && s.samples cell lane then
      (s.each (samples.drop (samples.length - n)) fun s v => s.readOne cell lane v).updBank (bankOf cell)
        (BankSt.served lane)
    else s)

/-- Px of the cell still reads ON 10 ms after the cut-off has opened: a voltage from outside the bank. -/
def execExternalVoltage (cell : Nat) (s : State) : Res :=
  .next (
    match (s.bank (bankOf cell)).cutoff with
    | some (t, cs) =>
      if cs.contains cell && t + 10 ≤ s.time.ot && (s.bank (bankOf cell)).prot then
        let s := s.updBank (bankOf cell) fun b => { b with cutoff := some (t, cs.filter (· != cell)) }
        (s.updCell cell fun x => { x with ch := x.ch.map (ChSt.readPx false true) }).raiseOut cell 0x18
      else s
    | none => s)

/-- A tick of the readback channels of a bank: the arbiter grants the lanes' conversions in its rotation, past a lane that is
WITHDRAWN (01 R20). Px follows the effective drive unless a channel was found to read otherwise. (log 45, DESIGN CHOICE) -/
def State.readTick (s : State) (b : Nat) : State :=
  s.each (rotation (s.bank b).arb) fun s l =>
    let cs := (cellsOf b).filter fun c => s.samples c l
    if cs.isEmpty then s
    else (s.each cs fun s c => s.readOne c l (((s.cell c).ch.get l).px.getD (s.cell c).eff)).updBank b (BankSt.served l)

/-! ### Ticks and slot marks (06 R181, R185) -/

/-- A tick of the cells: the pairs' logic, and the readback channels (06 R194, 07 R210). -/
def State.cellTick (s : State) : State := s.pairsTick.each (List.range 6) State.readTick

/-- A slot start at a time in µs of OT is a tick of every lane, after one that was due before it; the lanes' later ticks follow
1 ms apart from there. -/
def State.slotTick (s : State) (us : Nat) : State :=
  let now := s.time.ot * 1000 + us % 1000
  let s := if s.frame.tickAt < now then s.cellTick else s
  let s := s.cellTick
  { s with frame := { s.frame with tickAt := now + 1000 } }

/-- Slot length of the slot that marks end: of the frame in force, before the first frame of the settings. -/
def State.slotLen (s : State) : Nat := slotUs (if s.frame.running then s.frame.tframe else s.set.tframe)

/-- The next slot starts at a time in µs of OT, which is a tick of every lane (06 R181); every bank raises detector 0x03 where
the marks stood too far apart for the slot that they ended (06 R198). (log 42, DEDUCED) (log 108, DESIGN CHOICE). -/
def State.nextSlot (s : State) (us skew : Nat) : State :=
  let apart := skew * 20 > s.slotLen
  let s := s.updLanes fun l => { l with slotmark := false }
  let s := { s with frame := { s.frame with firstMark := none, skewmax := max s.frame.skewmax skew } }
  let s := if !s.frame.running then s.frameStart
    else if s.frame.slot ≥ 47 then s.frameEnd.frameStart
    else { s with frame := { s.frame with slot := s.frame.slot + 1, pulse := none } }
  let s := s.slotTick us
  if apart then
    s.each (List.range 6) fun s b => s.collect (fBank b 0x03)
  else s

/-- Has one slot length passed on the lane's timebase, in ticks of 0.1 µs, since the start of the present slot (06 R185)? The
first slot of a frame that does not run yet has none before it. -/
def State.slotCounted (s : State) (ticks : Nat) : Bool := !s.frame.running || slotUs s.frame.tframe * 10 ≤ ticks

/-- A lane posts a slot mark at a time in µs of OT; the second counting mark starts the next slot. -/
def execSlotMark (lane : Lane) (stamp : SlotStamp) (s : State) : Res :=
  .next (
    if !s.markers.contains lane || (s.lane lane).slotmark || !s.pow.on || !s.slotCounted stamp.ticks then s
    else
      let s := s.updLane lane fun l => { l with slotmark := true }
      let n := (s.markers.filter fun l => (s.lane l).slotmark).length
      if n ≥ 2 then s.nextSlot stamp.us (stamp.us - s.frame.firstMark.getD stamp.us)
      else { s with frame := { s.frame with firstMark := some stamp.us } })

/-! ### Protection latches (R211) -/

/-- A step in progress on one of the cells is dropped: none runs under a protection latch or the cloche (R214). -/
def State.dropSteps (s : State) (cs : List Nat) : State :=
  s.each cs fun s c => s.updBank (bankOf c) fun b => if b.step.any (·.cell == c) then { b with step := none } else b

/-- The protection latch of a cell: its six elements open. -/
def State.protCell (s : State) (c det : Nat) : State :=
  ((((s.updCell c fun x => { x with prot := true }).setEff c).dropSteps [c]).cutTest [c]).raiseOut c det

/-- Current limit or overload on a cell: its protection latch and detector 0x14. -/
def execOverloadTrip (cell : Nat) (_cause : Overload) (s : State) : Res :=
  .next (
    if cell < Config.nCells && cOut (s.cellCfg cell) && s.pow.on then s.protCell cell 0x14 else s)

/-- The clamp temperature sensor trips: the cell's protection latch and detector 0x15. -/
def execClampOvertemp (cell : Nat) (s : State) : Res :=
  .next (
    if cell < Config.nCells && cOut (s.cellCfg cell) && s.pow.on then s.protCell cell 0x15 else s)

/-- Bank current above 4.4 A for 10 ms: the bank's protection latch and block-level detector 0x04. -/
def execBankOvercurrent (bank : Nat) (s : State) : Res :=
  .next (
    if bank < 6 && s.pow.on then (s.cutBank bank).collect (fBank bank 0x04) else s)

/-! ### Feedback (R220, R221) -/

/-- E: the expected feedback of a cell (R220). -/
def State.expFb (s : State) (c : Nat) : Bool :=
  let e := (s.cell c).eff
  if (s.cellCfg c).flags.getLsbD 1 then e else !e

/-- Is the feedback of a cell checked? -/
def fbEn (c : CellCfg) : Bool := cOut c && c.flags.getLsbD 0

/-- The filtered Fx of a channel: 0 while it holds 0 after a test-pulse fault (06 R190). -/
def ChSt.fxVal (ch : ChSt) : Bool := ch.fx && !ch.held

/-- Filtered Fx differs from E in a lane. -/
def State.fbDiffers (s : State) (c : Nat) (l : Lane) : Bool :=
  fbEn (s.cellCfg c) && ((s.cell c).ch.get l).fxVal != s.expFb c

/-- The end of a channel's feedback window in ms of OT, with the FBTIME in force (R220, R225). -/
def State.fbEnd (s : State) (c : Nat) (l : Lane) : Nat :=
  ((s.cell c).ch.get l).fbopen.elim 0 (· + (s.cellCfg c).td * 10)

/-- A release of the cell fails in its round: Fx must equal E throughout it (R222). -/
def RelSt.failOn (c : Nat) (r : RelSt) : RelSt :=
  if r.cells.contains c && r.kind == 1 && r.inRound && !r.roundOk then { r with failed := true } else r

/-- At a tick at or after the window's end the filtered Fx differs from E: detector 0x16. -/
def execFeedbackMismatch (lane : Lane) (cell : Nat) (s : State) : Res :=
  .next (
    if cell < Config.nCells && s.fbDiffers cell lane && !(s.cell cell).under && s.pow.on &&
        s.markers.contains lane && s.fbEnd cell lane ≤ s.time.ot then
      (s.updRels (RelSt.failOn cell)).raiseOut cell 0x16
    else s)

/-! ### What an executed start does to the cells (R191, R199, R212, R222, R223) -/

/-- Has a cell completed its warm-up: one clean frame (R199), and for an output cell one light step for each
ACTIVE lane and Fx at E (R223)? (log 46, DEDUCED). -/
def State.warmDone (s : State) (c : Nat) : Bool :=
  let x := s.cell c
  x.warm && x.warmClean &&
  (!(cOut (s.cellCfg c)) ||
    (s.actives.all fun l => x.warmLight.get l && !s.fbDiffers c l))

/-- Cells that have completed their warm-up leave it. -/
def State.warmEnds (s : State) : State :=
  s.each (List.range Config.nCells) fun s c =>
    if s.warmDone c then s.updCell c fun x => { x with warm := false, warmFrame := false, warmClean := false } else s

/-- The hedges that a release of cells or of a bank lifts: latched ones of the item, with the group's. -/
def State.relCovers (s : State) (r : RelSt) (h : Hedge) : Bool :=
  h.latched &&
  match h.kind with
  | .cell => r.kind == 1 && r.cells.contains h.index
  | .group => r.kind == 1 && (s.cellCfg r.index).ogroup == h.index
  | .bank => r.kind == 3 && r.index == h.index
  | .net => r.kind == 4 && r.index == h.index
  | .block => (r.kind == 5 && r.index == h.index) || (r.kind == 3 && r.index + 0x10 == h.index)
  | .conn => false
  | .cv => false

/-- While a member's bank is hedged, a release of a cell or group fails (R212, R222). -/
def State.relBankOut (s : State) (r : RelSt) : Bool :=
  r.kind == 1 && r.cells.any fun c => cOut (s.cellCfg c) && s.bankHedged (bankOf c)

/-- The end of a release: change-log record 0x14 with its final status, and its completion. -/
def State.relDone (s : State) (kind index : Nat) (ref : CmdRef) (st : Nat) : State :=
  (s.refChange ref 0x14 (le 1 kind ++ zeros 1 ++ le 2 index ++ le 2 st)).complete ref st []

/-- One release at an executed start: failed, passed, or still running. -/
def State.finishRel (s : State) (r : RelSt) : State :=
  let s0 := { s with flt := { s.flt with rels := s.flt.rels.filter fun x => !(x == r) } }
  if r.failed || s.relBankOut r then s0.relDone r.kind r.index r.ref 0x8070
  else if r.frameOk && r.roundOk then (s0.dropHedges (s.relCovers r)).relDone r.kind r.index r.ref 0x0000
  else s

/-- The releases that have passed or failed their checks end at this start. -/
def State.finishRels (s : State) : State := s.each s.flt.rels State.finishRel

end Sys2Proof.Machine
end

