-- ==== Sys2Proof/Machine/Telegrams.lean ====
section
/-! DEFINITION. Vital telegrams (08): the GVT frame and its codes, what the telegram engine holds of arriving
copies, and the frames the module sends. -/

namespace Sys2Proof.Machine

/-! ### The frame (R231, R234 to R236, R238) -/

/-- PSTAMP as its 64-bit field. -/
def pstamp (g : Gvt) : Nat := g.stampMs * 65536 + g.stampUs

/-- PSTAMP in µs of OT. -/
def pstampUs (g : Gvt) : Nat := g.stampMs * 1000 + g.stampUs

def gLead (g : Gvt) : Bool := g.flags.getLsbD 0
def gMacp (g : Gvt) : Bool := g.flags.getLsbD 1
def gKeyid (g : Gvt) : Bool := g.flags.getLsbD 2

/-- Offset 0x00 to the end of PAYLOAD, big-endian. -/
def gvtBody (g : Gvt) : Bytes :=
  bigE 1 (g.ver % 16 * 16 + g.typ % 16) ++ [g.flags] ++ bigE 2 g.src.toNat ++ bigE 2 g.dst.toNat ++ bigE 1 g.conn ++
  [g.resv7] ++ bigE 2 g.epoch ++ bigE 2 g.alive ++ bigE 4 g.seq ++ bigE 6 g.stampMs ++ bigE 2 g.stampUs ++
  bigE 4 g.serial ++ bigE 2 g.len ++ bigE 2 g.resv1e.toNat ++ g.payload

/-- The span of the safety codes: to the end of MACV with MACP, else to the end of PAYLOAD. -/
def gvtSpan (g : Gvt) : Bytes := if gMacp g then gvtBody g ++ g.macv else gvtBody g

/-- The whole frame as sent. -/
def gvtBytes (g : Gvt) : Bytes := gvtSpan g ++ bigE 4 g.sc1 ++ bigE 4 g.sc2

/-- Are the reserved bits of a GVT 0? -/
def reservedOk (g : Gvt) : Bool :=
  g.flags.toNat < 8 && g.src.toNat < 1024 && g.dst.toNat < 1024 && g.resv7 == 0 && g.resv1e == 0

/-- Parameter sets 0 and 1 are fixed, 2 to 7 staged (R235, R236). -/
def State.cvSet (s : State) (n : Nat) : CvSet :=
  if n == 0 then ⟨0x1EDC6F41, 0xFFFFFFFF, 0xFFFFFFFF, 3⟩
  else if n == 1 then ⟨0xF4ACFB13, 0xFFFFFFFF, 0xFFFFFFFF, 3⟩
  else s.set.cvsets.getD (n - 2) CvSet.init

def cvWith (p : CvSet) (init : Nat) (b : Bytes) : Nat :=
  crc32With p.poly init p.xor (p.flags.getLsbD 0) (p.flags.getLsbD 1) b

/-- SC1: the connection's KEY as its initial value (R235). -/
def State.sc1 (s : State) (k : ConnCfg) (g : Gvt) : Nat := cvWith (s.cvSet (k.scset % 16)) k.key (gvtSpan g)

/-- SC2: the set's own initial value. -/
def State.sc2 (s : State) (k : ConnCfg) (g : Gvt) : Nat :=
  let p := s.cvSet (k.scset / 16 % 16)
  cvWith p p.init (gvtSpan g)

/-! ### CFLAGS of a connection record (R239) -/

def kUdp (k : ConnCfg) : Bool := k.cflags.getLsbD 0
def kMacen (k : ConnCfg) : Bool := k.cflags.getLsbD 1
def kBoth (k : ConnCfg) : Bool := k.cflags.getLsbD 2
def kNv (k : ConnCfg) : Bool := k.cflags.getLsbD 3

/-- The MAC key of a connection's slot (R238). -/
def State.macKey (s : State) (conn slot : Nat) : Bytes :=
  match s.set.mackeys.find? (·.1 == conn * 2 + slot) with
  | some x => x.2
  | none => zeros 16

/-- MACV: the 64 most significant bits of AES-128 CMAC. -/
def State.macvOf (s : State) (conn slot : Nat) (g : Gvt) : Bytes :=
  bigE 8 ((Config.cmac (s.macKey conn slot) (gvtBody g)).toNat / 2 ^ 64)

/-- Does MACV fit one of the two key slots? -/
def State.macOk (s : State) (k : ConnCfg) (g : Gvt) : Bool :=
  !kMacen k || (gMacp g && (g.macv == s.macvOf k.num 0 g || g.macv == s.macvOf k.num 1 g))

/-! ### Reception by the TG (R244, R245) -/

/-- The connection a frame's SRC and CONN identify, with the producer: false PEER1, true PEER2. -/
def State.identify (s : State) (g : Gvt) : Option (ConnCfg × Bool) :=
  (s.set.conns.find? fun k => k.cdir == 2 && k.pconn == g.conn &&
      (k.peer1 == g.src.toNat || (k.peer2 == g.src.toNat && k.peer2 != 0xFFFF))).map
    fun k => (k, k.peer1 != g.src.toNat)

/-- Does a frame carry a GVT? -/
def isGvt (f : Frame) : Bool := match f.carriage with | .other _ _ => false | _ => true

/-- Carriage as configured: ETYPE, or the GVT port; TYPE 0x8, 0x9 and 0xE by ETYPE only (R230). -/
def State.carriageOk (s : State) (n : Net) (f : Frame) : Bool :=
  match f.carriage with
  | .raw e => e == (s.set.nets.at n).etype
  | .udp h => h.dport == (s.set.nets.at n).gvtport && f.gvt.typ < 8
  | .other _ _ => false

/-- DST is this module, or the partner in the LOGIC role (R240). -/
def State.dstOk (s : State) (g : Gvt) : Bool :=
  g.dst.toNat == s.id.modaddr || (s.image.role == 1 && s.paired && g.dst.toNat == s.set.pair.paddr)

/-- The checks before a frame is handed on: check sequence, EtherType or port, version, length, DST. -/
def State.frameOk (s : State) (n : Net) (f : Frame) : Bool :=
  f.fcsOk && f.lengthOk && s.carriageOk n f && f.gvt.ver == 1 && s.dstOk f.gvt

/-- A slot's content replaced; a paired module keeps the copy it replaces (09 R270). -/
def ConnSt.present (paired p : Bool) (x : TgCopy) (c : ConnSt) : ConnSt :=
  let old := if p then c.slots.p2.at x.net else c.slots.p1.at x.net
  let put (sl : Slots (Option TgCopy)) (v : Option TgCopy) : Slots (Option TgCopy) :=
    if p then { sl with p2 := sl.p2.put x.net v } else { sl with p1 := sl.p1.put x.net v }
  { c with slots := put c.slots (some x), kept := if paired && old.isSome then put c.kept old else c.kept }

/-- A copy of a producer under the both policy. -/
def ConnSt.presentBoth (paired p : Bool) (x : TgCopy) (c : ConnSt) : ConnSt :=
  match c.held.sel p with
  | none => { c with held := c.held.upd p (some x) }
  | some h =>
    let c := c.present paired p h
    if h.gvt.seq == x.gvt.seq && h.net != x.net then { c.present paired p x with held := c.held.upd p none }
    else { c with held := c.held.upd p (some x) }

/-- A copy arrives for a connection. -/
def State.arrive (s : State) (k : ConnCfg) (p : Bool) (x : TgCopy) : State :=
  let s := s.updConn k.num fun c => { c with lastnet := c.lastnet.put x.net s.time.ot, silent := c.silent.put x.net false }
  s.updConn k.num (if kBoth k then ConnSt.presentBoth s.paired p x else ConnSt.present s.paired p x)

/-- A frame the TG discards, counted where a connection is identified. -/
def State.discard (s : State) (g : Gvt) : State :=
  match s.identify g with
  | some (k, _) => s.updConn k.num fun c => { c with cntxport := satInc 32 c.cntxport }
  | none => s

/-- This module's address with another serial number (01 R36): in BOOT or SYNC the module holds in BOOT, in
SERVICE it goes on; class F1 and an alarm. In REJOIN, which the rule does not name, it goes on too. (log 124, DESIGN CHOICE)
The event's source is the telegram engine at block level. (log 6, DESIGN CHOICE) -/
def State.duplicate (s : State) : State :=
  let s := s.collectOpen 1 3 0x16 0 2 1
  if s.pow.mod == .boot || s.pow.mod == .sync then
    let s := s.updLanes fun x => if x.st == .active then { x.stop with st := .withdrawn, hold := .checking } else x
    ({ s with pow := { s.pow with holdDup := true }, cyc := { s.cyc with tosend := [], phase := .idle } }).setMod .boot
  else s

/-- A frame with this module's address as SRC: its own is discarded without counting, one of another serial number is the
duplicate-address event (R244, 01 R36). Any other frame goes on to `k`. -/
def State.notOwn (s : State) (f : Frame) (k : State) : State :=
  if f.gvt.src.toNat == s.id.modaddr then (if f.gvt.serial == s.id.serial || !f.fcsOk then s else s.duplicate) else k

/-- A GVT frame of TYPE 0x1 to 0x3 reaches the TG at a µs of the present ms. Pair heartbeats, bridge, tunnel
and RINGTEST frames have events of their own. -/
def execFrameReceived (net : Net) (f : Frame) (us : Nat) (s : State) : Res :=
  .next (
    let g := f.gvt
    if !s.cmUp || !s.netUp net || s.tgReset || !isGvt f then s
    else s.notOwn f <|
    if g.typ == 8 || g.typ == 9 || g.typ == 0xE then s
    else if g.typ == 2 && g.conn == 0 && s.paired then s
    else if !(1 ≤ g.typ && g.typ ≤ 3) || !s.frameOk net f then s.discard g
    else
      match s.identify g with
      | none => s
      | some (k, p) =>
        if g.len == k.len && g.payload.length == g.len && s.macOk k g then
          s.arrive k p ⟨g, s.time.ot * 1000 + us % 1000, net⟩
        else s.discard g)

/-- The SKEW window of a held copy has passed: it is presented alone. (log 3, DESIGN CHOICE) -/
def execSkewExpiry (conn : Nat) (peer2 : Bool) (s : State) : Res :=
  .next (
    match s.conn? conn, s.connCfg? conn with
    | some c, some k =>
      match c.held.sel peer2 with
      | some x =>
        if x.arrival + k.skew * 100 < (s.time.ot + 1) * 1000 then
          s.updConn conn fun c => { c.present s.paired peer2 x with held := c.held.upd peer2 none }
        else s
      | none => s
    | _, _ => s)

/-- A VALID connection has received no copy from one network for 1,000 ms while the other delivers (R252). -/
def execOneNetworkSilent (conn : Nat) (s : State) : Res :=
  .next (
    match s.conn? conn, s.recv? conn with
    | some c, some r =>
      let old (n : Net) : Bool := s.time.ot - c.lastnet.at n ≥ 1000
      if r.cstate == 2 && s.cmUp then
        if old .a && !old .b && !c.silent.fst then
          (s.updConn conn fun c => { c with silent := c.silent.put .a true }).collect (fConn conn 0x07)
        else if old .b && !old .a && !c.silent.snd then
          (s.updConn conn fun c => { c with silent := c.silent.put .b true }).collect (fConn conn 0x07)
        else s
      else s
    | _, _ => s)

/-! ### Sending (R230, R242, R243) -/

/-- A GVT with nothing in it. -/
def gvtZero : Gvt :=
  { ver := 1, typ := 1, flags := 0, src := 0, dst := 0, conn := 0, resv7 := 0, epoch := 0, alive := 0, seq := 0,
    stampMs := 0, stampUs := 0, serial := 0, len := 0, resv1e := 0, payload := [], macv := [], sc1 := 0, sc2 := 0 }

/-- A GVT of this module with no safety codes; LEAD as its pair state says (R231). -/
def State.newGvt (s : State) (typ dst conn seq alive : Nat) (payload : Bytes) : Gvt :=
  { gvtZero with
    typ := typ, src := BitVec.ofNat 16 s.id.modaddr, dst := BitVec.ofNat 16 dst, conn := conn, seq := seq,
    alive := alive, serial := s.id.serial, len := payload.length, payload := payload,
    stampMs := s.time.ot, stampUs := 0, flags := if !s.paired || s.pair.st == .lead then 1 else 0 }

/-- The group address of a GVT: 03-49-53-hh-ll-cc. -/
def groupMac (src conn : Nat) : Nat := 0x034953 * 2 ^ 24 + src * 256 + conn

/-- Priority of a TYPE: 7, or 0 for BRIDGE and TUNNEL. -/
def typePrio (typ : Nat) : Nat := if typ == 8 || typ == 9 then 0 else 7

/-- The frame of a GVT on a network, raw or by UDP; the sending port puts its own source address. -/
def State.frameOf (s : State) (n : Net) (udp : Option Nat) (g : Gvt) : Frame :=
  let c := s.set.nets.at n
  { fcsOk := true, lengthOk := true
    carriage := match udp with
      | some ip => .udp ⟨c.ipaddr, ip, true, 64, c.gvtport, c.gvtport, 0⟩
      | none => .raw c.etype
    vid := c.vidv, prio := typePrio g.typ, srcMac := (s.id.macs.at n).fst
    dstMac := match udp with
      | some ip => Config.udpMac ip
      | none => groupMac g.src.toNat g.conn
    gvt := g }

/-! ### The internal switch (R256) -/

/-- Is a MAC address a group address? -/
def isGroup (mac : Nat) : Bool := mac / 2 ^ 40 % 2 == 1

/-- High queue: GVT of types 0x1, 0x2 and 0xE, and any frame tagged with priority 6 or 7. -/
def highQueue (f : Frame) : Bool :=
  (isGvt f && (f.gvt.typ == 1 || f.gvt.typ == 2 || f.gvt.typ == 0xE)) || (f.vid != 0 && 6 ≤ f.prio)

/-- Does an external port pass a frame: its link is up, and it is not port 2 blocked by the ring manager? -/
def NetSt.portOpen (x : NetSt) (port2 : Bool) : Bool := x.link.sel port2 && !(port2 && x.blocked)

/-- BOP of a bridge frame (13 R366): requests lie below 0x80, completions above. -/
def bopOf (f : Frame) : Nat := if isGvt f && f.gvt.typ == 8 then ofLe (slice f.gvt.payload 0 1) else 0

/-- A frame put into an egress queue: behind those queued, but for a completion of the bridge, which goes ahead of the requests
of its own module (13 R373). -/
def putEgress (e : Egress) (q : List Egress) : List Egress :=
  if bopOf e.frame < 0x80 then q ++ [e]
  else
    let ahead (x : Egress) : Bool :=
      !(x.port == e.port && x.frame.srcMac == e.frame.srcMac && 1 ≤ bopOf x.frame && bopOf x.frame < 0x80)
    q.takeWhile ahead ++ [e] ++ q.dropWhile ahead

/-- A frame towards a port: 0 the TG, 1 and 2 the external ports. -/
def NetSt.queueTo (f : Frame) (x : NetSt) (port : Nat) : NetSt :=
  if port == 0 || x.portOpen (port == 2) then { x with egress := putEgress ⟨port, highQueue f, f⟩ x.egress } else x

/-- A source address learned at a port. -/
def NetSt.learn (mac port ot : Nat) (x : NetSt) : NetSt :=
  if isGroup mac then x
  else { x with learned := (x.learned.filter fun l => !(l.mac == mac)) ++ [⟨mac, port, ot⟩] }

/-- The ports a frame leaves by: both others for a group or unknown address, else the learned one. -/
def NetSt.ports (x : NetSt) (port dst : Nat) : List Nat :=
  let others := [0, 1, 2].filter (· != port)
  if isGroup dst then others
  else match x.learned.find? (·.mac == dst) with
    | some l => others.filter (· == l.port)
    | none => others

/-- A frame of the TG enters at the internal port: it is forwarded like any other, each external port with its own source
address. -/
def NetSt.sendOwn (macs : Duo Nat) (ot : Nat) (f : Frame) (x : NetSt) : NetSt :=
  let x := (x.learn macs.fst 0 ot).learn macs.snd 0 ot
  (x.ports 0 f.dstMac).foldl (fun x p => x.queueTo { f with srcMac := macs.sel (p == 2) } p) x

/-- A frame of the TG goes to the switch of a network that carries frames. -/
def State.sendOn (s : State) (n : Net) (f : Frame) : State :=
  if s.netUp n && s.cmUp then s.updNet n (NetSt.sendOwn (s.id.macs.at n) s.time.ot f) else s

/-- A GVT sent on both networks. -/
def State.sendBoth (s : State) (udp : Option Nat) (g : Gvt) : State :=
  (s.sendOn .a (s.frameOf .a udp g)).sendOn .b (s.frameOf .b udp g)

/-- A non-vital GVT of the transport (TYPE 0x8, 0x9, 0xE): CRC-32C in the SC1 field, SC2 0 (R232). -/
def withCrc (g : Gvt) : Gvt := { g with sc1 := crc32c (gvtSpan g), sc2 := 0 }

/-- Is the CRC-32C of a transport frame right? -/
def crcOkGvt (g : Gvt) : Bool := g.sc1 == crc32c (gvtSpan g) && g.sc2 == 0

end Sys2Proof.Machine
end

