-- ==== Sys2Proof/Machine/Acceptance.lean ====
section
/-! DEFINITION. Acceptance of telegram copies by the lanes at a snapshot (08 R245 to R252): freezing, connection
states, the checks of each copy, comparison and choice. -/

namespace Sys2Proof.Machine

/-! ### Freezing (R118, R245, 09 R270) -/

/-- A frozen slot of a module that is not led: its content, new when it arrived after the previous start. -/
def freezeOwn (prev : Nat) (x : Option TgCopy) : Option (TgCopy × Bool) := x.map fun c => (c, prev < c.arrival)

/-- A frozen slot of the non-pacer: the copy the manifest names, nothing where it names none, else its own. -/
def freezeNamed (m : List ManifestSlot) (conn : Nat) (p : Bool) (n : Net) (prev : Nat) (own kept : Option TgCopy) :
    Option (TgCopy × Bool) :=
  match m.find? fun e => e.conn == conn && e.prod == p && e.net == n with
  | none => none
  | some e =>
    let fits (c : TgCopy) : Bool := c.gvt.seq == e.seq && c.gvt.alive == e.alive
    if own.any fits then own.map fun c => (c, e.isNew)
    else if kept.any fits then kept.map fun c => (c, e.isNew)
    else freezeOwn prev own

/-- One connection's slots frozen at a start. -/
def freezeConn (m : Option (List ManifestSlot)) (prev : Nat) (c : ConnSt) : ConnSt :=
  let f (p : Bool) (n : Net) : Option (TgCopy × Bool) :=
    let own := if p then c.slots.p2.at n else c.slots.p1.at n
    let kept := if p then c.kept.p2.at n else c.kept.p1.at n
    match m with
    | some m => freezeNamed m c.num p n prev own kept
    | none => freezeOwn prev own
  { c with frozen := ⟨⟨f false .a, f false .b⟩, ⟨f true .a, f true .b⟩⟩ }

/-- Every connection's slots frozen; the manifest of PSTART names the copies of a non-pacer. -/
def State.freezeAll (s : State) : State :=
  let m : Option (List ManifestSlot) :=
    if s.paired && !s.pair.pacer then s.pair.pstart.map fun x => x.1.manifest else none
  { s with conns := s.conns.map (freezeConn m s.cyc.otsprev) }

/-- The manifest a pacer sends: every frozen slot that holds a copy. -/
def slotEntry (conn : Nat) (p : Bool) (n : Net) (x : Option (TgCopy × Bool)) : List ManifestSlot :=
  match x with
  | some (c, isNew) => [⟨conn, p, n, c.gvt.seq, c.gvt.alive, isNew⟩]
  | none => []

def State.manifest (s : State) : List ManifestSlot :=
  s.conns.flatMap fun c =>
    slotEntry c.num false .a c.frozen.p1.fst ++ slotEntry c.num false .b c.frozen.p1.snd ++
    slotEntry c.num true .a c.frozen.p2.fst ++ slotEntry c.num true .b c.frozen.p2.snd

/-! ### Checks of each copy (R248) -/

/-- What the examination of a copy answers. -/
inductive Verdict where
  | take (replaced : Bool)
  | twin
  | drop
  | nonvital
  | bad | stale | alive | delay
  deriving DecidableEq, Repr

/-- Slots of a connection that element table entries name: sources, and command slots of PTDRIVE (R233). -/
def State.namedSlots (s : State) (conn : Nat) : List Nat :=
  s.image.ents.flatMap fun e =>
    (if !e.srclocal && e.srcconn == conn then [e.srcpos] else []) ++
    (match e.body with
     | .ptdrive b => if b.cmdconn == conn then [b.cmdslot] else []
     | _ => [])

/-- Bits [31:16] of every named slot are 0. -/
def State.slotsOk (s : State) (conn : Nat) (p : Bytes) : Bool :=
  (s.namedSlots conn).all fun n => slot32 p n < 65536

/-- Are both safety codes right? Not asked of NONVITAL copies (R251). -/
def State.codesOk (s : State) (k : ConnCfg) (g : Gvt) : Bool :=
  g.typ == 3 || (g.sc1 == s.sc1 k g && g.sc2 == s.sc2 k g)

/-- Does this module accept NONVITAL copies (R251)? -/
def State.nonVital (s : State) : Bool := s.pow.split || s.image.role == 5

/-- Examination of one new copy of producer p. -/
def State.judge (s : State) (k : ConnCfg) (r : RecvRec) (p : Bool) (x : TgCopy) : Verdict :=
  let g := x.gvt
  let est := r.cstate == 1 || r.cstate == 2
  if g.typ == 3 && !kNv k then .nonvital
  else if g.typ != 1 && !(g.typ == 3 && kNv k && s.nonVital) then .drop
  else if !s.codesOk k g || !reservedOk g || !s.slotsOk k.num g.payload then .bad
  else if g.alive == r.lastalive.sel p && pstamp g == r.lastot.sel p then .twin
  else if pstamp g ≤ r.lastot.sel p then .stale
  else if est then
    if g.serial != r.serial.sel p then .stale
    else
      let step := (g.alive + 65536 - r.lastalive.sel p % 65536) % 65536
      if step == 0 || k.alivewin < step then .alive
      else if serialAfter 16 r.lastepoch g.epoch then .stale
      else if 0 < k.dlymax &&
          (x.arrival : Int) - (pstampUs g : Int) - r.base.sel p > (k.dlymax * 1000 : Nat) then .delay
      else if p != (r.cusedp == 1) && g.seq == r.lastseq && g.epoch == r.lastepoch then .twin
      else if g.seq == r.lastseq || serialAfter 32 r.lastseq g.seq then .stale
      else .take false
  else .take (r.serial.sel p != 0 && g.serial != r.serial.sel p)

/-- A connection event of a copy: its counter and its detector. -/
def State.refuse (s : State) (conn det : Nat) (via : Net) (f : ConnSt → ConnSt) : State :=
  ((s.updConn conn f).collectFull (fConn conn det) 0 none none (some via)).2

def ConnSt.incBad (c : ConnSt) : ConnSt := { c with cntbad := satInc 32 c.cntbad }
def ConnSt.incStale (c : ConnSt) : ConnSt := { c with cntstale := satInc 32 c.cntstale }
def ConnSt.incAlive (c : ConnSt) : ConnSt := { c with cntalive := satInc 32 c.cntalive }
def ConnSt.incLate (c : ConnSt) : ConnSt := { c with cntlate := satInc 32 c.cntlate }
def ConnSt.incDelay (c : ConnSt) : ConnSt := { c with cntdelay := satInc 32 c.cntdelay }
def ConnSt.incDiv (c : ConnSt) : ConnSt := { c with cntdiv := satInc 32 c.cntdiv }
def ConnSt.incTout (c : ConnSt) : ConnSt := { c with cnttout := satInc 32 c.cnttout }

/-- A copy under examination: producer and copy. -/
abbrev PCopy := Bool × TgCopy

/-- One copy examined: the state with what its refusal counts, the copies taken and the twins. -/
def State.examine (k : ConnCfg) (r : RecvRec) (acc : State × List PCopy × List PCopy) (pc : PCopy) :
    State × List PCopy × List PCopy :=
  let (s, oks, twins) := acc
  let (p, x) := pc
  match s.judge k r p x with
  | .take replaced => (if replaced then s.collect (fConn k.num 0x0A) else s, oks ++ [pc], twins)
  | .twin => (s, oks, twins ++ [pc])
  | .drop => (s, oks, twins)
  | .nonvital => (s.refuse k.num 0x08 x.net (fun c => c), oks, twins)
  | .bad => (s.refuse k.num 0x04 x.net ConnSt.incBad, oks, twins)
  | .stale => (s.refuse k.num 0x05 x.net ConnSt.incStale, oks, twins)
  | .alive => (s.refuse k.num 0x05 x.net ConnSt.incAlive, oks, twins)
  | .delay => (s.refuse k.num 0x06 x.net ConnSt.incDelay, oks, twins)

/-! ### Comparison and choice (R249, R250) -/

/-- Distance of two arrivals in µs. (log 49, DEDUCED) -/
def apart (a b : Nat) : Nat := max a b - min a b

/-- Two copies equal in every byte of the GVT. -/
def sameBytes (a b : TgCopy) : Bool := gvtBytes a.gvt == gvtBytes b.gvt

/-- Content of copies of one producer: the whole GVT up to the end of PAYLOAD. (log 49, DEDUCED) -/
def sameGvt (a b : TgCopy) : Bool := gvtBody a.gvt == gvtBody b.gvt

/-- Is copy a to be used before b: LEAD, then arrival, then PEER1, then network A? -/
def usedBefore (a b : PCopy) : Bool :=
  let ka := (b2n (!gLead a.2.gvt), a.2.arrival, b2n a.1, b2n (a.2.net == .b))
  let kb := (b2n (!gLead b.2.gvt), b.2.arrival, b2n b.1, b2n (b.2.net == .b))
  ka.1 < kb.1 || (ka.1 == kb.1 && (ka.2.1 < kb.2.1 || (ka.2.1 == kb.2.1 &&
    (ka.2.2.1 < kb.2.2.1 || (ka.2.2.1 == kb.2.2.1 && ka.2.2.2 < kb.2.2.2)))))

/-- The copy that comes before every other. -/
def pickUsed : List PCopy → Option PCopy
  | [] => none
  | x :: xs => some (xs.foldl (fun a b => if usedBefore b a then b else a) x)

/-- The copies in order of arrival. -/
def byArrival (xs : List PCopy) : List PCopy :=
  xs.foldl (fun acc x => acc.takeWhile (fun y => y.2.arrival ≤ x.2.arrival) ++ [x] ++
    acc.dropWhile (fun y => y.2.arrival ≤ x.2.arrival)) []

/-- The candidate group: highest EPOCH, and among those the newest SEQ. -/
def candidates (oks : List PCopy) : List PCopy :=
  match oks with
  | [] => []
  | x :: xs =>
    let ep := xs.foldl (fun e y => if serialAfter 16 y.2.gvt.epoch e then y.2.gvt.epoch else e) x.2.gvt.epoch
    let g := oks.filter fun y => y.2.gvt.epoch == ep
    let sq := g.foldl (fun q y => if serialAfter 32 y.2.gvt.seq q then y.2.gvt.seq else q) (g.headD x).2.gvt.seq
    g.filter fun y => y.2.gvt.seq == sq

/-- Under the both policy a producer counts only with equal copies on both networks within SKEW: the copies
that stay and those refused as late. -/
def bothFilter (skew : Nat) (group : List PCopy) : List PCopy × List PCopy :=
  let good (p : Bool) : Bool :=
    let mine := group.filter (·.1 == p)
    mine.any fun a => a.2.net == .a && mine.any fun b =>
      b.2.net == .b && sameBytes a.2 b.2 && apart a.2.arrival b.2.arrival ≤ skew
  (group.filter fun x => good x.1, group.filter fun x => !good x.1)

/-- The outcome of the comparison. -/
structure Comparison where
  bad    : Bool
  div    : Bool
  late   : List PCopy
  /-- a twin whose payload replaces the stored one -/
  repl   : Option PCopy
  agreed : List PCopy
  deriving DecidableEq, Repr

/-- A twin against the stored payload. A twin of the used producer whose EPOCH, SERIAL or LEAD is not the stored one's differs
in content, although the row of different EPOCHs gives no comparison. (log 138, DESIGN CHOICE) -/
def compareTwin (k : ConnCfg) (r : RecvRec) (lead : Bool) (c : Comparison) (t : PCopy) : Comparison :=
  let g := t.2.gvt
  let same := slice r.payload 0 k.len == g.payload
  if g.seq != r.lastseq then c
  else if t.1 == (r.cusedp == 1) then
    if k.skew * 100 < apart t.2.arrival (stampUs r.arrival) then { c with late := c.late ++ [t] }
    else if same && g.epoch == r.lastepoch && g.serial == r.serial.sel t.1 && gLead g == lead then c
    else { c with bad := true }
  else if g.epoch != r.lastepoch || same then c
  else if gLead g == lead then { c with bad := true }
  else { c with div := true, repl := if gLead g then some t else c.repl }

/-- The candidates of one producer: the earliest, then those compared with it. -/
def compareOwn (k : ConnCfg) (c : Comparison) (mine : List PCopy) : Comparison :=
  match byArrival mine with
  | [] => c
  | x :: xs => xs.foldl (fun c y =>
      if k.skew * 100 < apart y.2.arrival x.2.arrival then { c with late := c.late ++ [y] }
      else if sameGvt x.2 y.2 then { c with agreed := c.agreed ++ [y] }
      else { c with bad := true }) { c with agreed := c.agreed ++ [x] }

/-- The candidates of both producers against each other. -/
def compareBoth (c : Comparison) : Comparison :=
  match c.agreed.find? (!·.1), c.agreed.find? (·.1) with
  | some x, some y =>
    if x.2.gvt.payload == y.2.gvt.payload then c
    else if gLead x.2.gvt == gLead y.2.gvt then { c with bad := true }
    else { c with div := true, agreed := c.agreed.filter fun z => gLead z.2.gvt }
  | _, _ => c

/-- The whole comparison of R249. -/
def compareCopies (k : ConnCfg) (r : RecvRec) (lead : Bool) (group twins : List PCopy) : Comparison :=
  let c : Comparison := ⟨false, false, [], none, []⟩
  let c := twins.foldl (compareTwin k r lead) c
  let c := compareOwn k c (group.filter (!·.1))
  let c := compareOwn k c (group.filter (·.1))
  compareBoth c

/-- LASTOT, LASTALIVE, SERIAL and BASE of a producer from its copy. -/
def setProducer (fresh : Bool) (r : RecvRec) (pc : PCopy) : RecvRec :=
  let (p, x) := pc
  let g := x.gvt
  let off : Int := (x.arrival : Int) - (pstampUs g : Int)
  let d := pstampUs g - stampUs (r.lastot.sel p)
  let old : Int := r.base.sel p + ((6 * d + 999) / 1000 : Nat)
  { r with
    base := r.base.upd p (if fresh then off else min off old)
    lastot := r.lastot.upd p (pstamp g)
    lastalive := r.lastalive.upd p g.alive
    serial := r.serial.upd p g.serial }

/-- The used copy of the accepted telegram into the record, and the change of state. -/
def acceptUsed (r : RecvRec) (u : PCopy) (agreed : List PCopy) : RecvRec :=
  let g := u.2.gvt
  let arr := agreed.foldl (fun a x => min a x.2.arrival) u.2.arrival
  let r' := { r with
    payload := padTo 1024 g.payload, lastseq := g.seq, lastepoch := g.epoch, cusedp := b2n u.1
    arrival := stampOf arr }
  if r.cstate == 0 || r.cstate == 3 then { r' with cstate := 1, estseq := g.seq }
  else if r.cstate == 1 && serialAfter 32 g.seq r.estseq then { r' with cstate := 2 }
  else r'

/-- A receive record after a comparison without FAULT. A producer's fields come from its accepted copy, else from its twin. -/
def acceptCopies (r : RecvRec) (c : Comparison) (group twins : List PCopy) : RecvRec :=
  let fresh := r.cstate == 0 || r.cstate == 3
  let r1 := match c.repl with
    | some t => { r with payload := padTo 1024 t.2.gvt.payload, cusedp := b2n t.1 }
    | none => r
  let firsts (p : Bool) : List PCopy :=
    ((byArrival group).filter (·.1 == p) ++ (byArrival twins).filter (·.1 == p)).take 1
  let r2 := (firsts false ++ firsts true).foldl (setProducer fresh) r1
  match pickUsed c.agreed with
  | some u => acceptUsed r2 u c.agreed
  | none => r2

/-! ### One connection at a snapshot -/

/-- The copies of the frozen slots that are new and not later than this start (R245). -/
def newCopies (ots : Nat) (c : ConnSt) : List PCopy :=
  let f (p : Bool) (x : Option (TgCopy × Bool)) : List PCopy :=
    match x with
    | some (x, true) => if x.arrival ≤ ots then [(p, x)] else []
    | _ => []
  byArrival (f false c.frozen.p1.fst ++ f false c.frozen.p1.snd ++ f true c.frozen.p2.fst ++ f true c.frozen.p2.snd)

/-- Timeouts, decided before the copies are examined (R247). -/
def State.connTimeout (s : State) (k : ConnCfg) (r : RecvRec) : State :=
  if s.cyc.ots - stampUs r.arrival ≤ k.tout * 1000 then s
  else match r.cstate with
    | 1 => s.updRecv k.num fun r => { r with cstate := 0 }
    | 2 => ((s.updConn k.num ConnSt.incTout).updRecv k.num fun r => { r with cstate := 3 }).collect (fConn k.num 0x01)
    | _ => s

/-- An accepted release takes a connection from FAULT to NOTEST, and completes OK (R247). -/
def State.connRelease (s : State) (n : Nat) : State :=
  match s.conn? n with
  | some c =>
    if c.release.isEmpty then s
    else
      let s := s.updConn n fun c => { c with fault := false, release := [] }
      let s := s.updRecv n fun r => { r with cstate := 0 }
      let s := s.dropHedges fun h => h.kind == .conn && h.index == n
      s.each c.release fun s ref => s.relDone 2 n ref 0x0000
  | none => s

def ConnSt.useNow (v : Bool) (c : ConnSt) : ConnSt := { c with inuse := v }

def ConnSt.setLead (v : Bool) (c : ConnSt) : ConnSt := { c with usedLead := v }

/-- Whether the stored payload came with LEAD after a comparison. -/
def leadAfter (old : Bool) (c : Comparison) : Bool :=
  match pickUsed c.agreed with
  | some u => gLead u.2.gvt
  | none => if c.repl.isSome then true else old

/-- The copies of one connection examined, compared and accepted; in FAULT they are examined and compared alone. -/
def State.snapCopies (s : State) (k : ConnCfg) (r : RecvRec) (c : ConnSt) : State :=
  let (s, oks, twins) := (newCopies s.cyc.ots c).foldl (State.examine k r) (s, [], [])
  let group := candidates oks
  let (group, late) := if kBoth k then bothFilter (k.skew * 100) group else (group, [])
  let cmp := compareCopies k r c.usedLead group twins
  let s := s.each (late ++ cmp.late) fun s x => s.refuse k.num 0x06 x.2.net ConnSt.incLate
  let s := if cmp.div && !cmp.bad then (s.updConn k.num ConnSt.incDiv).collect (fConn k.num 0x03) else s
  let s := if cmp.bad then s.collect (fConn k.num 0x02) else s
  if (s.conn? k.num).any (·.fault) then s.updRecv k.num fun r => { r with cstate := 4 }
  else
    (s.updRecv k.num fun r => acceptCopies r cmp group twins).updConn k.num (ConnSt.setLead (leadAfter c.usedLead cmp))

def ConnSt.unchanged (c : ConnSt) : ConnSt := { c with changed := false, fault := false }

/-- A staged change to a connection's record returns it to NOTEST, from FAULT too (R247). -/
def State.connChanged (s : State) (n : Nat) : State :=
  if (s.conn? n).any (·.changed) then
    let s := s.updConn n ConnSt.unchanged
    let s := s.updRecv n fun r => { r with cstate := 0 }
    s.dropHedges fun h => h.kind == .conn && h.index == n
  else s

/-- One receiving connection at a snapshot (R247 to R250). -/
def State.snapConn (s : State) (k : ConnCfg) : State :=
  let s := (s.connRelease k.num).connChanged k.num
  match s.recv? k.num with
  | none => s
  | some r0 =>
    let s := if r0.cstate == 4 then s else s.connTimeout k r0
    match s.recv? k.num, s.conn? k.num with
    | some r, some c =>
      let s := s.updConn k.num (ConnSt.useNow (r.cstate == 2))
      s.snapCopies k r c
    | _, _ => s

/-- Every receiving connection at a snapshot. A reset of the TG leaves each CSTATE as it is (10 R300). (log 37, DEDUCED) -/
def State.snapConns (s : State) : State :=
  if s.tgReset then s else s.each (s.set.conns.filter (·.cdir == 2)) State.snapConn

/-- May the payload of a connection be used in this cycle: VALID and not hedged (R247)? -/
def State.connValid (s : State) (n : Nat) : Bool :=
  (s.conn? n).any (·.inuse) && (s.recv? n).any (·.cstate == 2) && !s.connHedged n

end Sys2Proof.Machine
end

