-- ==== Sys2Proof/Machine/Elements.lean ====
section
/-! DEFINITION. Elements (02): sources, the input pass and the output pass of every element type, element faults,
edges and timers. -/

namespace Sys2Proof.Machine

/-! ### Timers (R72) -/

/-- An elapsed count stops at 1,000,000 ms. -/
def elapse (v dt : Nat) : Nat := min 1000000 (v + dt)

/-- Restrictive expiry: elapsed ≥ preset × 10. -/
def expR (elapsed preset : Nat) : Bool := preset * 10 ≤ elapsed

/-- Permissive expiry: elapsed ≥ ceil(preset × 10 × 1,000 / 997). -/
def expP (elapsed preset : Nat) : Bool := (preset * 10 * 1000 + 996) / 997 ≤ elapsed

/-! ### Fault codes (R70) -/

/-- The bit of FLTHELD that holds a type fault. -/
def faultBit (code : Nat) : Nat :=
  match code with
  | 0x0002 => 0
  | 0x0010 => 1
  | 0x0011 => 2
  | 0x0020 => 3
  | 0x0021 => 4
  | 0x0030 => 5
  | 0x0040 => 6
  | _ => 7

/-- The type faults in the order in which FLTCODE shows them. -/
def faultOrder : List Nat := [0x0002, 0x0021, 0x0010, 0x0011, 0x0020, 0x0030, 0x0040, 0x0050]

def held (code : Nat) (e : Elem) : Bool := e.fltheld.getLsbD (faultBit code)

/-- A type fault set: its bit is held and its clearing condition starts anew. -/
def setFault (code : Nat) (e : Elem) : Elem :=
  { e with
    fltheld := e.fltheld ||| (1#16 <<< faultBit code)
    work := { e.work with clearPrev := e.work.clearPrev &&& ~~~(1#8 <<< faultBit code) } }

def setIf (p : Bool) (code : Nat) (e : Elem) : Elem := if p then setFault code e else e

def clearFault (code : Nat) (e : Elem) : Elem := { e with fltheld := e.fltheld &&& ~~~(1#16 <<< faultBit code) }

/-- A condition noted for one pass. -/
def noteClear (code : Nat) (v : Bool) (e : Elem) : Elem :=
  { e with work := { e.work with clearPrev :=
      if v then e.work.clearPrev ||| (1#8 <<< faultBit code) else e.work.clearPrev &&& ~~~(1#8 <<< faultBit code) } }

/-- A type fault clears when its condition has held for one full cycle and the source is valid. -/
def clearAfter (code : Nat) (valid cond : Bool) (e : Elem) : Elem :=
  let now := valid && cond
  let e' := if now && e.work.clearPrev.getLsbD (faultBit code) then clearFault code e else e
  noteClear code now e'

/-- FLTCODE: 0x0001 while the source is invalid and in the first valid cycle, else the first held fault. -/
def showFault (valid : Bool) (e : Elem) : Elem :=
  { e with fltcode := if !valid || !e.work.validPrev then 1 else (faultOrder.find? fun c => held c e).getD 0 }

/-- FLTCODE after the output pass: a fault set there is shown; 0x0001 stays. -/
def reshow (e : Elem) : Elem :=
  { e with fltcode := if e.fltcode == 1 then 1 else (faultOrder.find? fun c => held c e).getD 0 }

/-- Codes whose bits are held after and were not before. -/
def newFaults (before after : Elem) : List Nat := faultOrder.filter fun c => held c after && !held c before

/-! ### Sources and destinations (R41, R45, R47) -/

/-- Input bits that an element reads from cells; an unwired point input reads no cell (R50). -/
def inBits : Body → List Nat
  | .point b => [0, 1] ++ (if b.trailWired then [2] else []) ++ (if b.keyWired then [3] else [])
  | .sslip _ => []
  | .dslip _ => []
  | .signal _ => [0, 1, 2, 3, 4]
  | .tcsec _ => [0]
  | .acsec _ => [0, 1, 2]
  | .lxing _ => [0, 1, 2]
  | .blockif _ => [0, 1, 2, 3]
  | .keylock _ => [0, 1]
  | .shuntarea _ => [0, 1]
  | .gvar b => if b.gdir == 1 then List.range (min 16 b.width) else []
  | .ptdrive b => List.range (min 4 b.nin)

/-- Number of output bits. -/
def outBits : Body → Nat
  | .point _ => 2
  | .sslip _ => 0
  | .dslip _ => 0
  | .signal _ => 4
  | .tcsec _ => 0
  | .acsec _ => 1
  | .lxing _ => 1
  | .blockif _ => 4
  | .keylock _ => 1
  | .shuntarea _ => 1
  | .gvar b => if b.gdir == 2 then min 16 b.width else 0
  | .ptdrive _ => 3

/-- Cells an element reads. -/
def srcCells (t : ElemEntry) (b : Body) : List Nat :=
  if !t.srclocal then []
  else if t.paired then (inBits b).flatMap fun n => [t.srcpos + 2 * n, t.srcpos + 2 * n + 1]
  else (inBits b).map (t.srcpos + ·)

/-- Cells an element drives. -/
def dstCells (t : ElemEntry) (b : Body) : List Nat :=
  if t.dstlocal then (List.range (outBits b)).map (t.dstpos + ·) else []

/-- Is an element's source valid (R47)? An element with no source has none to be invalid. -/
def State.srcValid (s : State) (t : ElemEntry) (b : Body) : Bool :=
  if t.srclocal then
    (srcCells t b).all fun c => !s.cellHedged c && !(s.cell c).warm && !(s.cell c).under &&
      !(t.paired && c % 2 == 0 && (s.cell c).disc)
  else t.srcconn == 0 || s.connValid t.srcconn

/-- Point inputs that are not wired read as 1 (R50). -/
def unwired : Body → BitVec 16
  | .point b => (if b.trailWired then 0 else 4) ||| (if b.keyWired then 0 else 8)
  | _ => 0

/-- The input word of an element from the snapshot. -/
def State.srcWord (s : State) (t : ElemEntry) (b : Body) : BitVec 16 :=
  unwired b ||| if t.srclocal then
    maskOf 16 ((inBits b).filter fun n => (s.cell (t.srcpos + (if t.paired then 2 * n else n))).cval)
  else if t.srcconn == 0 then 0
  else slotWord ((s.recv? t.srcconn).elim [] (·.payload)) t.srcpos

/-- Is the connection of a sending slot hedged? -/
def State.sendHedged (s : State) (t : ElemEntry) : Bool := !t.dstlocal && t.dstconn != 0 && s.connHedged t.dstconn

/-- HSTAT HEDGED: a cell or connection the element depends on is hedged, or such a cell is in warm-up. -/
def State.elemHedged (s : State) (t : ElemEntry) (b : Body) : Bool :=
  ((srcCells t b ++ dstCells t b).any fun c =>
      ((s.members c).any fun d => s.hedgedNow .cell d || s.bankHedged (bankOf d)) || (s.cell c).warm) ||
  (!t.srclocal && t.srcconn != 0 && s.connHedged t.srcconn) || s.sendHedged t ||
  (match b with
   | .ptdrive d => s.connHedged d.cmdconn || s.connHedged d.rptconn
   | _ => false)

/-- HSTAT UNDERTEST: a cell the element depends on is under the cloche. -/
def State.elemUnder (s : State) (t : ElemEntry) (b : Body) : Bool :=
  (srcCells t b ++ dstCells t b).any fun c => (s.members c).any fun d => (s.cell d).under

/-! ### Input pass, by type -/

/-- What a block sees of its pass: validity, the new word, the word of the last executed cycle, whether edges may
be formed, and the time since the last executed start. -/
structure InEnv where
  valid : Bool
  w     : BitVec 16
  p     : BitVec 16
  edges : Bool
  dt    : Nat
  deriving DecidableEq, Repr

def InEnv.rise (v : InEnv) (n : Nat) : Bool := v.edges && v.w.getLsbD n && !v.p.getLsbD n
def InEnv.fall (v : InEnv) (n : Nat) : Bool := v.edges && !v.w.getLsbD n && v.p.getLsbD n

/-- A movement that reaches its limit fails (R51). -/
def failMove (e : Elem) (b : PointBody) : Elem :=
  setFault 0x0010 { e with body := .point { b with movest := 2 }, work := { e.work with seenZero := b.posdet == 0 } }

/-- A point in the input pass. A movement whose limit is reached in the pass in which POSDET equals POSCMD ends and does
not fail. (log 119, DESIGN CHOICE) -/
def inPoint (v : InEnv) (e : Elem) (b : PointBody) : Elem :=
  let detn := v.w.getLsbD 0
  let detr := v.w.getLsbD 1
  let home := v.w.getLsbD 2 && v.w.getLsbD 3
  let pos := if !home then 0 else if detn && !detr then 1 else if detr && !detn then 2 else 0
  let elap := if b.movest == 1 then elapse b.moveelap v.dt else b.moveelap
  let b := { b with posdet := pos, moveelap := elap }
  let e := { e with body := .point b, work := { e.work with seenZero := e.work.seenZero || pos == 0 } }
  -- clearing (R70)
  let e := clearAfter 0x0002 v.valid (!(detn && detr)) e
  let was10 := held 0x0010 e
  let e := clearAfter 0x0010 v.valid (was10 && (pos == b.poscmd || (pos != 0 && e.work.seenZero))) e
  let b := if was10 && !held 0x0010 e && b.movest == 2 then { b with movest := 0, poscmd := 0 } else b
  let e := clearAfter 0x0011 v.valid (pos == e.work.lastPos) { e with body := .point b }
  -- setting
  let e := setIf (v.valid && detn && detr) 0x0002 e
  let e := setIf (v.valid && b.movest == 0 && pos == 0 && e.work.lastPos != 0 && !held 0x0011 e) 0x0011 e
  let e := if v.valid && pos != 0 && !held 0x0011 e then { e with work := { e.work with lastPos := pos } } else e
  if b.movest == 1 && expR elap b.movepre && pos != b.poscmd then failMove e b else e

/-- ROUTDET from the members' positions; a forbidden routing reads 0 (R52). -/
def routing (b : SlipBody) (pa pb : Nat) : Nat :=
  let n := if pa == 0 || pb == 0 then 0 else (pa - 1) * 2 + pb
  if n != 0 && b.forbid / 2 ^ (n - 1) % 2 == 1 then 0 else n

/-- The aspect code that the proving inputs show, or 0xFF. -/
def shownAspect (w : BitVec 16) : Nat :=
  match w.getLsbD 0, w.getLsbD 1, w.getLsbD 2, w.getLsbD 3 with
  | true, false, false, false => 0
  | false, true, false, false => 1
  | false, false, true, false => 2
  | false, false, false, true => 3
  | _, _, _, _ => 0xFF

/-- More than one aspect proving input at 1. -/
def manyAspects (w : BitVec 16) : Bool :=
  b2n (w.getLsbD 0) + b2n (w.getLsbD 1) + b2n (w.getLsbD 2) + b2n (w.getLsbD 3) > 1

/-- Is a proved aspect above the commanded one (R54)? -/
def aspectAbove (shown req : Nat) : Bool :=
  shown != 0 && shown != 0xFF && shown != req && !(shown == 1 && req == 2)

def inSignal (v : InEnv) (e : Elem) (b : SignalBody) : Elem :=
  let ind := v.w.getLsbD 4
  let indWas := e.curin.getLsbD 4
  let shown := shownAspect v.w
  let stood := b.aspshown != b.aspreq || indWas != (b.indreq == 1)
  let same := shown == b.aspreq && ind == (b.indreq == 1)
  let elap := if same then 0 else if stood then elapse b.provelap v.dt else b.provelap
  let tol := if shown == e.work.tolAspect then e.work.tolAspect else 0xFF
  let tolInd := e.work.tolInd && ind
  let e := { e with
    body := .signal { b with aspshown := shown, provelap := elap }
    work := { e.work with tolAspect := tol, tolInd := tolInd } }
  let e := clearAfter 0x0002 v.valid (!manyAspects v.w) e
  let e := clearAfter 0x0020 v.valid same e
  let e := clearAfter 0x0021 v.valid same e
  let e := setIf (v.valid && manyAspects v.w) 0x0002 e
  let e := setIf (v.valid && aspectAbove shown b.aspreq && shown != tol) 0x0021 e
  let e := setIf (v.valid && ind && b.indreq == 0 && !tolInd) 0x0021 e
  setIf (!same && expR elap b.provpre) 0x0020 e

def inTcsec (v : InEnv) (e : Elem) (b : TcBody) : Elem :=
  if !v.valid then { e with body := .tcsec { b with occ := 2, clrelap := 0 } }
  else if !v.w.getLsbD 0 then { e with body := .tcsec { b with occ := 1, clrelap := 0 } }
  else
    let elap := if e.curin.getLsbD 0 then elapse b.clrelap v.dt else 0
    { e with body := .tcsec { b with clrelap := elap, occ := if expP elap b.clrpre then 0 else b.occ } }

/-- The reset is abandoned at its step limit (R58). -/
def abandonReset (e : Elem) (b : AcBody) : Elem := setFault 0x0030 { e with body := .acsec { b with rststate := 0 } }

/-- A reset step as it is entered: the arming, or the second step with its command sequence number. -/
inductive AxleStep where
  | arm (ref : CmdRef) (cmdseq : Nat)
  | reset (ref : CmdRef) (cmdseq : Nat)
  deriving DecidableEq, Repr

/-- One reset step in the input pass: the element, and whether the step was accepted. -/
def axleStep (sound : Bool) (e : Elem) (x : AxleStep) : Elem × Bool :=
  match e.body with
  | .acsec b =>
    match x with
    | .arm _ _ =>
      if sound && b.occ == 2 then (clearFault 0x0030 { e with body := .acsec { b with rststate := 1, rstelap := 0 } }, true)
      else (e, false)
    | .reset _ q =>
      if b.rststate == 1 then ({ e with body := .acsec { b with rststate := 2, rstelap := 0, rstseq := q } }, true)
      else (e, false)
  | _ => (e, false)

/-- Sweep and clearing of a section that is not disturbed. -/
def sweepAc (v : InEnv) (e : Elem) (b : AcBody) : Elem :=
  let clear := v.w.getLsbD 0
  let both := e.curin.getLsbD 0 && e.curin.getLsbD 1
  let elap := if !clear then 0 else if both then elapse b.clrelap v.dt else 0
  if b.occ == 3 then
    if v.fall 0 then
      { e with body := .acsec { b with clrelap := 0 }, work := { e.work with sweepFell := true, swept := false } }
    else
      let swept := e.work.swept || (e.work.sweepFell && v.rise 0)
      let done := swept && clear && expP elap b.clrpre
      { e with
        body := .acsec { b with clrelap := elap, occ := if done then 0 else 3 }
        work := { e.work with swept := swept && !done, sweepFell := e.work.sweepFell && !done } }
  else if b.occ == 2 then { e with body := .acsec { b with clrelap := elap } }
  else if !clear then { e with body := .acsec { b with occ := 1, clrelap := 0 } }
  else { e with body := .acsec { b with clrelap := elap, occ := if b.occ == 1 && expP elap b.clrpre then 0 else b.occ } }

/-- RESETACK within the limit ends the command: OCC 3 (R58). -/
def ackAc (v : InEnv) (was2 : Bool) (e : Elem) : Elem :=
  match e.body with
  | .acsec b =>
    if was2 && b.rststate == 2 && v.w.getLsbD 2 then
      { e with body := .acsec { b with occ := 3, rststate := 0 }, work := { e.work with sweepFell := false, swept := false } }
    else e
  | _ => e

/-- The section before its reset steps: the step timer, its limit, and a disturbance or invalid source. RSTELAP runs while
RSTSTATE is not 0 and then stands. (log 133, DESIGN CHOICE) -/
def inAcsec (v : InEnv) (e : Elem) (b : AcBody) : Elem :=
  let elap := if b.rststate == 0 then b.rstelap else elapse b.rstelap v.dt
  let b := { b with rstelap := elap }
  let e := { e with body := .acsec b }
  let late := b.rststate != 0 && expR elap b.rstpre
  let e := if late then abandonReset e b else e
  let b := if late then { b with rststate := 0 } else b
  if !v.valid || !v.w.getLsbD 1 then
    { e with
      body := .acsec { b with occ := 2, rststate := 0, clrelap := 0 }
      work := { e.work with sweepFell := false, swept := false } }
  else sweepAc v e b

def inLxing (v : InEnv) (e : Elem) (b : LxBody) : Elem :=
  let closed := v.w.getLsbD 0
  let notopen := v.w.getLsbD 1
  let proved := closed && notopen && v.w.getLsbD 2
  let hold := e.outcmd.getLsbD 0
  let close := if v.valid && e.work.validPrev && b.lxstate == 1 then elapse b.closeelap v.dt else b.closeelap
  let open_ := if e.lockcnt == 0 && e.claimcnt == 0 then elapse b.openelap v.dt else 0
  let b := { b with openelap := open_ }
  let e := clearAfter 0x0002 v.valid (!(closed && !notopen)) e
  let e := setIf (v.valid && closed && !notopen) 0x0002 e
  let go (st elap : Nat) : Elem := { e with body := .lxing { b with lxstate := st, closeelap := elap } }
  if !v.valid then go 1 0
  else match b.lxstate with
    | 0 => if !hold then go 1 0 else go 0 b.closeelap
    | 1 =>
      if proved then clearFault 0x0040 (go 2 close)
      else if expR close b.closepre then setFault 0x0040 (go 4 close)
      else if hold then go 3 close
      else go 1 close
    | 2 => if !proved && !hold then go 1 0 else if hold then go 3 b.closeelap else go 2 b.closeelap
    | 3 => if !notopen && !closed then go 0 b.closeelap else if !hold then go 1 0 else go 3 b.closeelap
    | _ => if proved then clearFault 0x0040 (go 2 b.closeelap) else go 4 b.closeelap

/-- The direction exchange limit is reached: 0x0050, and DIRREQ is barred (R62). -/
def failExchange (e : Elem) : Elem := setFault 0x0050 { e with work := { e.work with dirBarred := true } }

/-- 0x0002 of a block interface clears once the combination has been legal for one full cycle and BLKSTATE has left 4. -/
def clearBlk (e : Elem) : Elem :=
  match e.body with
  | .blockif b =>
    noteClear 0x0002 true (if e.work.clearPrev.getLsbD 0 && b.blkstate != 4 then clearFault 0x0002 e else e)
  | _ => e

/-- A block interface in the input pass; `line` says that line clear here holds. In BLKSTATE 2 a train that reaches this
end goes before DIRREQ falling in the same pass (log 119, DESIGN CHOICE). DIRELAP runs in BLKSTATE 0 while DIRREQ is
energised and stands otherwise. (log 133, DESIGN CHOICE) -/
def inBlockif (v : InEnv) (line : Bool) (e : Elem) (b : BlkBody) : Elem :=
  let give := v.w.getLsbD 2
  let req := v.w.getLsbD 3
  let asking := b.blkstate == 0 && e.outcmd.getLsbD 3
  let elap := if asking then elapse b.direlap v.dt else b.direlap
  let b := { b with direlap := elap }
  let late := asking && expR elap b.dirpre
  let e := if late then failExchange e else e
  let go (st : Nat) (hold : Bool) (e : Elem) : Elem :=
    { e with body := .blockif { b with blkstate := st }, work := { e.work with holdPrev := hold } }
  let illegal := (give && b.blkstate == 2) || (give && req)
  if !v.valid then
    noteClear 0x0002 false (go (if b.blkstate == 1 || b.blkstate == 2 then 0 else b.blkstate) false e)
  else
    if illegal then setFault 0x0002 (go 4 false e)
    else clearBlk <| match b.blkstate with
      | 0 => if asking && !late && give then clearFault 0x0050 (go 1 false e) else go 0 false e
      | 1 => if v.fall 0 then go 3 false e else go 1 false e
      | 2 => if e.work.holdPrev && !line then go 3 false e else if !req then go 0 false e else go 2 line e
      | 3 =>
        let c := line && v.w.getLsbD 0 && e.lockcnt == 0
        if c && e.work.holdPrev then go 0 false e else go 3 c e
      | _ =>
        let c := v.w &&& 0xF#16 == 0#16
        if c && e.work.holdPrev && e.lockcnt == 0 then go 0 false e else go 4 c e

/-- A key lock in the input pass; the flag says that a release request of AREAROUTE is due (R64). -/
def inKeylock (v : InEnv) (e : Elem) (b : KeyBody) : Elem × Bool :=
  let both := v.w.getLsbD 0 && v.w.getLsbD 1
  if !v.w.getLsbD 0 then
    ({ e with body := .keylock { b with klstate := 2, relreq := 0 }, work := { e.work with holdPrev := false } }, false)
  else if b.klstate == 2 then
    if both && e.work.holdPrev then
      ({ e with body := .keylock { b with klstate := 0 }, work := { e.work with holdPrev := false, withdrawn := false } }, true)
    else ({ e with work := { e.work with holdPrev := both } }, false)
  else if b.klstate == 1 && e.work.withdrawn && both then
    ({ e with body := .keylock { b with klstate := 0, relreq := 0 }, work := { e.work with withdrawn := false } }, true)
  else (e, false)

/-- A shunting area in the input pass, with the state of its area route: the request or release request raised (R66). -/
def inShunt (v : InEnv) (rstate : Nat) (e : Elem) (b : AreaBody) : Elem × Option Bool :=
  if !v.valid then (e, none)
  else match b.sastate with
    | 0 => if v.rise 0 then ({ e with body := .shuntarea { b with sastate := 1 } }, some true) else (e, none)
    | 2 => if v.rise 1 then ({ e with body := .shuntarea { b with sastate := 3 } }, some false) else (e, none)
    | 3 => if rstate == 0 then ({ e with body := .shuntarea { b with sastate := 0 } }, none) else (e, none)
    | _ => (e, none)

/-- The value of a generic vital variable: its input, its default, or what the image's function blocks give. -/
def inGvar (v : InEnv) (num cyc : Nat) (e : Elem) (b : GvarBody) : Elem :=
  let val := if b.gdir == 1 then (if v.valid then v.w.toNat else b.default) else Config.gvarNext num cyc
  { e with body := .gvar { b with value := val % 2 ^ b.width } }

/-- A point drive in the input pass: its command word, its report word (R69). -/
def inDrive (v : InEnv) (cmd : BitVec 16) (outHedged : Bool) (e : Elem) (b : DriveBody) : Elem :=
  let both := cmd.getLsbD 0 && cmd.getLsbD 1
  let rpt := if !v.valid || outHedged then 0 else (v.w &&& 0xF#16).toNat
  let e := { e with body := .ptdrive { b with cmdword := cmd.toNat, rptword := rpt } }
  let e := clearAfter 0x0002 v.valid (!both) e
  setIf both 0x0002 e

/-! ### The input pass of one element (R44, R71) -/

/-- S1 of a section (R82). -/
def sectionClear (e : Elem) : Bool :=
  match e.body with
  | .tcsec b => b.occ == 0
  | .acsec b => b.occ == 0
  | _ => false

def State.lineClear (s : State) (b : BlkBody) : Bool := b.linesec == 0xFFFF || (s.elem? b.linesec).any sectionClear

def State.posOf (s : State) (n : Nat) : Nat :=
  match s.elem? n with
  | some e => (match e.body with | .point b => b.posdet | _ => 0)
  | none => 0

/-- An element with its header formed: HSTAT causes, CURIN, and the view of its block. -/
def State.inEnv (s : State) (dt : Nat) (t : ElemEntry) (e : Elem) : InEnv :=
  let valid := s.srcValid t e.body
  { valid := valid, w := if valid then s.srcWord t e.body else 0, p := e.previn
    edges := valid && e.work.validPrev && !e.work.noEdge, dt := dt }

/-- A request (true) or release request (false) of an element for its area route, entered at the next snapshot. -/
def State.raiseReq (s : State) (route elem : Nat) (set : Bool) : State :=
  { s with trl := { s.trl with elemreqs := s.trl.elemreqs ++ [(route, elem, set)] } }

/-- What the input pass makes of one element, by its type, with a request it raises. -/
def State.inBody (s : State) (v : InEnv) (t : ElemEntry) (e : Elem) : Elem × Option (Nat × Bool) :=
  match e.body with
  | .point b => (inPoint v e b, none)
  | .sslip b => ({ e with body := .sslip { b with routdet := routing b (s.posOf b.membera) (s.posOf b.memberb) } }, none)
  | .dslip b => ({ e with body := .dslip { b with routdet := routing b (s.posOf b.membera) (s.posOf b.memberb) } }, none)
  | .signal b => (inSignal v e b, none)
  | .tcsec b => (inTcsec v e b, none)
  | .acsec b => (inAcsec v e b, none)
  | .lxing b => (inLxing v e b, none)
  | .blockif b => (inBlockif v (s.lineClear b) e b, none)
  | .keylock b =>
    let (e, rel) := inKeylock v e b
    (e, if rel then some (b.arearoute, false) else none)
  | .shuntarea b =>
    let (e, q) := inShunt v (s.cellRec b.arearoute).rstate e b
    (e, q.map fun x => (b.arearoute, x))
  | .gvar b => (inGvar v e.num s.cyc.cyccnt e b, none)
  | .ptdrive b =>
    let cmd := if s.connValid b.cmdconn then slotWord ((s.recv? b.cmdconn).elim [] (·.payload)) b.cmdslot else 0
    (inDrive v cmd ((dstCells t e.body).any s.cellHedged) e b, none)

/-- The fault source ID of an element (R70). -/
def State.elemFsid (s : State) (num code : Nat) : Fsid := ⟨0, s.lowLane.num, 0x02, num, code % 256⟩

/-- F1 events of an element for the codes raised. -/
def State.raiseElem (s : State) (num : Nat) (codes : List Nat) : State :=
  s.each codes fun s c => s.collect (s.elemFsid num c)

/-- Completion of a reset step at the snapshot's pass. (log 51, DEDUCED) -/
def State.axleDone (s : State) (x : AxleStep) (ok : Bool) (code : Nat) : State :=
  match x with
  | .arm ref q => s.completeLater ⟨ref, if ok then 0x0000 else 0x8070, q, 0, 0, 0, if ok then le 2 code else []⟩
  | .reset ref q => s.completeLater ⟨ref, if ok then 0x0000 else 0x8004, q, 0, 0, 0, []⟩

/-- The first step recorded when a reset is armed: its CONFCODE is what the second step must carry (12 R357). (log 51, DEDUCED) -/
def State.axleArmed (s : State) (num : Nat) (x : AxleStep) (code : Nat) : State :=
  match x with
  | .arm ref _ =>
    { s with mail := { s.mail with steps :=
        (s.mail.steps.filter fun f => !(f.session == ref.session && f.cmd == ref.cmd)) ++
        [⟨ref.session, ref.cmd, le 2 num ++ zeros 4, code, s.time.ot⟩] } }
  | .reset _ _ => s

/-- The reset steps entered for one section, in order. -/
def State.axleSteps (s : State) (num : Nat) (v : InEnv) (xs : List AxleStep) : State :=
  s.each xs fun s x =>
    match s.elem? num with
    | none => s
    | some e =>
      let (e', ok) := axleStep (v.valid && v.w.getLsbD 1) e x
      let (code, s) := s.freshCode
      let s := s.updElem num fun _ => e'
      let s := if ok then s.axleArmed num x code else s
      s.axleDone x ok code

/-- The input pass of one element. `steps` are the axle-counter reset steps entered at this snapshot. -/
def State.inElem (s : State) (dt : Nat) (steps : Nat → List AxleStep) (num : Nat) : State :=
  match s.elem? num, s.ent? num with
  | some e0, some t =>
    let v := s.inEnv dt t e0
    let e := { e0 with hedged := s.elemHedged t e0.body, undertest := s.elemUnder t e0.body }
    let (e, q) := s.inBody v t e
    let was2 := match e0.body with | .acsec b => b.rststate == 2 | _ => false
    let fresh := newFaults e0 e
    let s := s.updElem num fun _ => { e with curin := v.w }
    let s := s.axleSteps num v (steps num)
    let s := s.updElem num fun e => showFault v.valid (ackAc v was2 e)
    let lost := !v.valid && e0.work.validPrev
    let s := s.updElem num fun e => { e with work := { e.work with validPrev := v.valid, noEdge := false, edges := v.edges } }
    let s := match q with
      | some (route, set) => s.raiseReq route num set
      | none => s
    s.raiseElem num ((if lost then [1] else []) ++ fresh)
  | _, _ => s

/-- The input pass: every element in ascending number. -/
def State.inputPass (s : State) (dt : Nat) (steps : Nat → List AxleStep) : State :=
  s.each (s.app.elems.map (·.num)) fun s n => s.inElem dt steps n

/-! ### Output pass, by type -/

/-- Is a point locked by a force (11 R332)? -/
def State.ptLock (s : State) (num : Nat) : Option Nat :=
  (s.stage.forces.find? fun f => f.fkind == 4 && f.fnum == num).map (·.fpos)

/-- OUTCMD of a point position. -/
def driveWord (pos : Nat) : BitVec 16 := if pos == 1 then 1 else if pos == 2 then 2 else 0

/-- A point in the output pass. A reversal restarts MOVEELAP. (log 119, DESIGN CHOICE) -/
def outPoint (locked : Bool) (e : Elem) (b : PointBody) : Elem :=
  let free := e.lockcnt == 0 && e.claimcnt == 0 && !locked
  let out (b : PointBody) (w : BitVec 16) : Elem := { e with body := .point b, outcmd := w }
  if b.movest == 1 then
    if b.posdet == b.poscmd then out { b with movest := 0, poscmd := 0 } 0
    else if b.posreq != 0 && b.posreq != b.poscmd then out { b with poscmd := b.posreq, moveelap := 0 } 0
    else if avail e && free then out b (driveWord b.poscmd)
    else out b 0
  else if b.movest == 0 && b.posreq != 0 && b.posreq != b.posdet && free && avail e then
    out { b with movest := 1, poscmd := b.posreq, moveelap := 0 } (driveWord b.posreq)
  else out b 0

/-- OUTCMD of a signal: the required aspect only, and the indicator; nothing while FLTCODE is not 0. -/
def outSignal (e : Elem) (b : SignalBody) : Elem :=
  let asp : BitVec 16 := match b.aspreq with
    | 1 => 1
    | 2 => 2
    | 3 => 4
    | _ => 0
  { e with outcmd := if e.fltcode != 0 then 0 else asp ||| (if b.indreq == 1 then 8 else 0) }

def outAcsec (e : Elem) (b : AcBody) : Elem := { e with outcmd := if b.rststate == 2 then 1 else 0 }

/-- HOLDOPEN (R60). -/
def holdOpen (e : Elem) (b : LxBody) : Bool :=
  e.lockcnt == 0 && e.claimcnt == 0 && expP b.openelap b.opendly && e.curin.getLsbD 2 && e.fltcode == 0

def outLxing (e : Elem) (b : LxBody) : Elem := { e with outcmd := if holdOpen e b then 1 else 0 }

/-- A block interface in the output pass: what depends on DIRWANT and the counts (R62). -/
def outBlockif (valid line : Bool) (e : Elem) (b : BlkBody) : Elem :=
  let counts := e.lockcnt == 0 && e.claimcnt == 0
  let barred := e.work.dirBarred && b.dirwant == 1
  let e := { e with work := { e.work with dirBarred := barred } }
  let put (b : BlkBody) (w : BitVec 16) : Elem := { e with body := .blockif b, outcmd := w }
  if !valid then put b 0
  else match b.blkstate with
    | 0 =>
      if e.curin.getLsbD 3 && b.dirwant == 0 && counts && e.fltcode == 0 then
        { put { b with blkstate := 2 } (4 ||| (if line then 1 else 0) ||| 2) with
          work := { e.work with holdPrev := line } }
      else if b.dirwant == 1 && !barred then
        put (if e.outcmd.getLsbD 3 then b else { b with direlap := 0 }) 8
      else put b 0
    | 1 => if b.dirwant == 0 && e.lockcnt == 0 then put { b with blkstate := 0 } 0 else put b 8
    | 2 => put b (4 ||| (if line then 1 else 0) ||| (if counts then 2 else 0))
    | 3 => put b (if line then 1 else 0)
    | _ => put b 0

/-- RELEASE of a key lock: only while the area route is LOCKED and KLSTATE is 1 or 2 (R64); off while the key lock's own
source is invalid. (log 132, DESIGN CHOICE) -/
def outKeylock (valid : Bool) (rstate : Nat) (e : Elem) (b : KeyBody) : Elem :=
  { e with outcmd :=
      if valid && rstate == 5 && !e.work.withdrawn && (b.klstate == 1 || b.klstate == 2) then 1 else 0 }

/-- GRANTIND of a shunting area; SASTATE 2 when the area route is LOCKED (R66). In SASTATE 2 it goes off when the route is no
longer LOCKED. (log 132, DESIGN CHOICE) -/
def outShunt (valid : Bool) (rstate : Nat) (e : Elem) (b : AreaBody) : Elem :=
  let b := if valid && b.sastate == 1 && rstate == 5 then { b with sastate := 2 } else b
  { e with body := .shuntarea b, outcmd := if valid && b.sastate == 2 && rstate == 5 then 1 else 0 }

def outGvar (e : Elem) (b : GvarBody) : Elem :=
  { e with outcmd := if b.gdir == 2 then BitVec.ofNat 16 b.value else 0 }

/-- KS, KN, KR of a point drive; nothing while 0x0002 stands or an output cell is hedged (R48, R69). -/
def outDrive (outHedged : Bool) (e : Elem) (b : DriveBody) : Elem :=
  { e with outcmd := if held 0x0002 e || outHedged then 0 else match b.cmdword % 4 with
      | 1 => 3
      | 2 => 5
      | _ => 0 }

/-- An illegal output combination sets OUTCMD 0 and 0x0002 (R48): both positions of a point, or PROCEED with CAUTION. -/
def legalOut (e : Elem) : Elem :=
  let both := e.outcmd.getLsbD 0 && e.outcmd.getLsbD 1
  let bad := match e.body with
    | .point _ => both
    | .signal _ => both
    | _ => false
  if bad then setFault 0x0002 { e with outcmd := 0 } else e

/-- The output pass of one element; PREVIN then takes CURIN. -/
def State.outBody (s : State) (e : Elem) : Elem :=
  let valid := e.work.validPrev
  match e.body with
  | .point b => outPoint (s.ptLock e.num).isSome e b
  | .sslip _ => { e with outcmd := 0 }
  | .dslip _ => { e with outcmd := 0 }
  | .signal b => outSignal e b
  | .tcsec _ => { e with outcmd := 0 }
  | .acsec b => outAcsec e b
  | .lxing b => outLxing e b
  | .blockif b => outBlockif valid (s.lineClear b) e b
  | .keylock b => outKeylock valid (s.cellRec b.arearoute).rstate e b
  | .shuntarea b => outShunt valid (s.cellRec b.arearoute).rstate e b
  | .gvar b => outGvar e b
  | .ptdrive b => outDrive ((s.ent? e.num).any fun t => (dstCells t e.body).any s.cellHedged) e b

def State.outElem (s : State) (num : Nat) : State :=
  match s.elem? num with
  | some e0 =>
    let e := reshow (legalOut (s.outBody e0))
    let s := s.updElem num fun _ => { e with previn := e.curin }
    s.raiseElem num (newFaults e0 e)
  | none => s

/-- The output pass: every element in ascending number. -/
def State.outputPass (s : State) : State := s.each (s.app.elems.map (·.num)) State.outElem

/-! ### Timer events of elements

Each is what the pass makes of a timer that has reached its preset; it acts where the timer has and the pass has
not acted on it yet. -/

/-- An element changed, its new faults raised. -/
def State.elemEvent (s : State) (num : Nat) (f : Elem → Elem) : State :=
  match s.elem? num with
  | some e0 =>
    let e := reshow (f e0)
    (s.updElem num fun _ => e).raiseElem num (newFaults e0 e)
  | none => s

/-- MOVEELAP reaches the limit. (log 3, DESIGN CHOICE) -/
def execMoveTimeLimit (elem : Nat) (s : State) : Res :=
  .next (s.elemEvent elem fun e =>
    match e.body with
    | .point b => if b.movest == 1 && expR b.moveelap b.movepre && b.posdet != b.poscmd then { failMove e b with outcmd := 0 } else e
    | _ => e)

/-- The required aspect or indicator has not been proved for the proving time. -/
def execProvingTime (elem : Nat) (s : State) : Res :=
  .next (s.elemEvent elem fun e =>
    match e.body with
    | .signal b =>
      if expR b.provelap b.provpre && !held 0x0020 e && (b.aspshown != b.aspreq || e.curin.getLsbD 4 != (b.indreq == 1)) then
        { setFault 0x0020 e with outcmd := 0 }
      else e
    | _ => e)

/-- CLRELAP reaches the clearing delay. -/
def execClearingDelay (elem : Nat) (s : State) : Res :=
  .next (s.elemEvent elem fun e =>
    match e.body with
    | .tcsec b =>
      if e.work.validPrev && e.curin.getLsbD 0 && expP b.clrelap b.clrpre then { e with body := .tcsec { b with occ := 0 } } else e
    | .acsec b =>
      if e.work.validPrev && e.curin.getLsbD 0 && e.curin.getLsbD 1 && expP b.clrelap b.clrpre &&
          (b.occ == 1 || (b.occ == 3 && e.work.swept)) then
        { e with body := .acsec { b with occ := 0 }, work := { e.work with swept := false, sweepFell := false } }
      else e
    | _ => e)

/-- RSTELAP reaches the reset step limit. -/
def execResetStepLimit (elem : Nat) (s : State) : Res :=
  .next (s.elemEvent elem fun e =>
    match e.body with
    | .acsec b => if b.rststate != 0 && expR b.rstelap b.rstpre then { abandonReset e b with outcmd := 0 } else e
    | _ => e)

/-- CLOSEELAP reaches the proving time of a level crossing. -/
def execCloseTimeLimit (elem : Nat) (s : State) : Res :=
  .next (s.elemEvent elem fun e =>
    match e.body with
    | .lxing b =>
      let proved := e.curin.getLsbD 0 && e.curin.getLsbD 1 && e.curin.getLsbD 2
      if b.lxstate == 1 && e.work.validPrev && expR b.closeelap b.closepre && !proved then
        setFault 0x0040 { e with body := .lxing { b with lxstate := 4 }, outcmd := 0 }
      else e
    | _ => e)

/-- OPENELAP reaches the opening delay: HOLDOPEN is energised. -/
def execOpenDelay (elem : Nat) (s : State) : Res :=
  .next (s.elemEvent elem fun e =>
    match e.body with
    | .lxing b => if holdOpen e b then { e with outcmd := 1 } else e
    | _ => e)

/-- DIRELAP reaches the direction exchange limit. -/
def execDirectionExchangeLimit (elem : Nat) (s : State) : Res :=
  .next (s.elemEvent elem fun e =>
    match e.body with
    | .blockif b =>
      if b.blkstate == 0 && e.outcmd.getLsbD 3 && expR b.direlap b.dirpre then { failExchange e with outcmd := 0 } else e
    | _ => e)

end Sys2Proof.Machine
end

