-- ==== Sys2Proof/Machine/Blocks.lean ====
section
/-! DEFINITION. The register window as hosts and bridges read it (12 R343, R344, R360): IDENT, SUMMARY with its
LANESTATE, PAIRSTATE and FAULTSUM words (05 R173, 09 R264, 10 R306), mailbox control blocks and buffers, the
notification ring and the recorder window. -/

namespace Sys2Proof.Machine

/-! ### Words of SUMMARY -/

/-- LANESTATE (05 R173). -/
def State.laneWord (s : State) : Nat :=
  let l (x : Lane) : LaneSt := s.lane x
  (l .a).st.code + 4 * (l .b).st.code + 16 * (l .c).st.code +
  64 * b2n (l .a).latched + 128 * b2n (l .b).latched + 256 * b2n (l .c).latched + 512 * b2n (s.nActive == 2)

/-- The partner is seen: a message of it has arrived in this cycle or the one before (09 R267). (log 30, DEDUCED) -/
def State.partnerSeen (s : State) : Bool := s.paired && (s.pair.seenNow || s.pair.seenLast)

/-- The partner's last report shows it in step (09 R268). (log 30, DEDUCED) -/
def State.partnerInStep (s : State) : Bool := s.pair.partner.any fun h => h.flags.getLsbD 2

/-- PAIRSTATE (09 R264). -/
def State.pairWord (s : State) : Nat :=
  s.pair.st.code + 8 * b2n (s.set.pair.prole == 1) + 16 * b2n s.partnerSeen + 32 * b2n s.partnerInStep +
  64 * b2n s.pair.plup.fst + 128 * b2n s.pair.plup.snd + 256 * b2n s.pair.pacer + 65536 * (s.pair.epoch % 65536)

/-- HICLASS (10 R306): the widest reaction in effect. -/
def State.hiClass (s : State) : Nat :=
  if s.pow.mod == .terminal then 5
  else if s.pow.mod == .safe then 4
  else if s.nActive < 3 then 3
  else if s.flt.hedges.isEmpty then 0 else 2

/-- Is a CV engine of an ACTIVE lane hedged? -/
def State.cvHedged (s : State) : Bool := s.actives.any fun l => !(s.lane l).cvhedge.isEmpty

/-- FAULTSUM (10 R306). -/
def State.faultWord (s : State) : Nat :=
  let bank (b : Nat) : Nat := b2n (s.hedgedAny .bank b || s.blockOut (0x10 + b)) * 2 ^ (3 + b)
  let cells := s.flt.hedges.any fun h => h.kind == .cell || h.kind == .group
  s.hiClass + bank 0 + bank 1 + bank 2 + bank 3 + bank 4 + bank 5 + 2 ^ 9 * b2n cells +
  2 ^ 10 * b2n (s.conns.any (·.fault)) + 2 ^ 11 * b2n (!s.netUp .a) + 2 ^ 12 * b2n (!s.netUp .b) +
  2 ^ 13 * b2n (s.blockOut 0x19) + 2 ^ 14 * b2n (s.blockOut 0x1A) + 2 ^ 15 * b2n (s.blockOut 0x1B) +
  2 ^ 16 * b2n (s.blockOut 0x1E) + 2 ^ 17 * b2n s.cvHedged + 2 ^ 18 * b2n (!s.flt.shadows.isEmpty) +
  2 ^ 19 * b2n (!s.flt.grace.isEmpty) + 2 ^ 20 * b2n s.flt.escal + 2 ^ 21 * b2n s.flt.svrst +
  2 ^ 22 * b2n (!s.recs.lastres.isEmpty)

/-- SUMMARY as it stands, OT apart. -/
def State.summaryLive (s : State) : Bytes :=
  le 4 (s.pow.mod.code + 256 * s.cyc.mode.code) ++ le 4 s.laneWord ++ le 4 s.pairWord ++ le 4 s.faultWord ++
  le 4 s.flt.alarmcnt ++ le 4 s.mail.newseq ++ zeros 8 ++ le 4 s.time.pc ++ le 1 s.mail.sessions.length

/-- SUMMARY latched at an executed start (R344). -/
def State.latchSummary (s : State) : State := { s with mail := { s.mail with summary := s.summaryLive } }

/-- SUMMARY as read: latched at the last executed start while cycles run, else as it stands; OT always present. -/
def State.summaryBytes (s : State) : Bytes :=
  patch (padTo 64 (if s.cycling then s.mail.summary else s.summaryLive)) 0x18 (le 8 s.time.ot)

/-- IDENT (R344). -/
def State.identBytes (s : State) : Bytes :=
  padTo 16 s.id.partno ++ le 4 s.id.serial ++ le 2 s.id.hwrev ++ zeros 2 ++
  le 4 (s.upd.fw.sel s.upd.fwRun).env.version ++ le 2 s.id.modaddr ++ le 1 s.id.lc.code ++ le 1 s.image.role ++ zeros 32

/-! ### Mailboxes and the notification ring -/

/-- The 64 bytes of a notification record (R361). -/
def notifBytes (n : Notif) : Bytes :=
  le 1 n.kind ++ le 1 n.flags ++ le 2 (min n.count 0xFFFF) ++ le 4 n.nseq ++ le 8 n.ot ++ le 8 n.seq ++ le 4 n.session ++
  le 2 n.tag ++ le 2 n.status ++ padTo 32 n.body

/-- The response buffer of mailbox 14 (R360). -/
def State.ringBytes (s : State) : Bytes :=
  let m := s.mail
  le 4 m.newseq ++ le 1 m.newslot ++ zeros 3 ++ le 4 m.nlost ++ zeros 52 ++
  m.ring.flatMap fun x => match x with
    | some n => notifBytes n
    | none => zeros 64

/-- The control block of a mailbox (R346); the write-only words read 0. -/
def mboxBytes (b : Mbox) : Bytes :=
  zeros 4 ++ le 4 (b.st.code + 256 * b.ep + 65536 * b.ownkey) ++ zeros 4 ++ le 4 (b.status + 65536 * b.tag) ++
  le 4 b.age ++ zeros 44

/-- The response buffer of a mailbox as read. -/
def State.respOf (s : State) (mb : Nat) : Bytes := if mb == 14 then s.ringBytes else (s.box mb).resp

/-- The regions of the register window (R343): base, size, content. -/
def State.windowMap (s : State) : List (Nat × Nat × Bytes) :=
  (0, 0x1000, s.identBytes) :: (0x1000, 0x1000, s.summaryBytes) ::
    (0x2000, 0x400, (List.range 16).flatMap fun m => mboxBytes (s.box m)) :: (0x40000, 0x10000, s.recs.window) ::
    (List.range 16).flatMap fun m =>
      [(0x10000 + 0x2000 * m, 0x1000, (s.box m).req), (0x11000 + 0x2000 * m, 0x1000, s.respOf m)]

/-- A read of n bytes from an address with the part of it that a region holds. -/
def readPart (addr n : Nat) (out : Bytes) (r : Nat × Nat × Bytes) : Bytes :=
  let lo := max addr r.1
  let hi := min (addr + n) (r.1 + r.2.1)
  if lo < hi then patch out (lo - addr) (slice r.2.2 (lo - r.1) (hi - lo)) else out

/-- n bytes of the register window from an address, across its regions; unmapped bytes read 0 (R343). While the service region
is out of service every byte reads 0xFF (01 R15), by whichever path. (log 115, DEDUCED) -/
def State.windowRead (s : State) (addr n : Nat) : Bytes :=
  if !s.pow.sv then List.replicate n 0xFF else s.windowMap.foldl (readPart addr n) (zeros n)

/-- The records of the ring that a read touches count as read (R360). -/
def State.seeRing (s : State) (addr n : Nat) : State :=
  let hit := (List.range 63).filter fun k =>
    0x2D040 + 64 * k < addr + n && addr < 0x2D080 + 64 * k && (s.mail.ring.getD k none).isSome && !s.mail.ringseen.contains k
  if s.pow.sv then { s with mail := { s.mail with ringseen := s.mail.ringseen ++ hit } } else s

/-! ### The potting bench (13 R365): canonical cells, unlisted bytes 0 -/

/-- The canonical form: addresses strictly rising, no byte listed that an unlisted address reads. -/
def Memory.wf : List Host.Cell → Bool
  | [] => true
  | [x] => x.2 != 0
  | x :: y :: rest => x.2 != 0 && x.1 < y.1 && Memory.wf (y :: rest)

/-- One byte read. (log 15, DESIGN CHOICE) -/
def Memory.read (a : Nat) : List Host.Cell → Byte
  | [] => 0
  | x :: xs => if x.1 == a then x.2 else Memory.read a xs

/-- One byte written; writing 0 removes the entry. -/
def Memory.write (a : Nat) (v : Byte) : List Host.Cell → List Host.Cell
  | [] => if v == 0 then [] else [(a, v)]
  | x :: xs =>
    if a < x.1 then (if v == 0 then x :: xs else (a, v) :: x :: xs)
    else if a == x.1 then (if v == 0 then xs else (a, v) :: xs)
    else x :: Memory.write a v xs

/-- A byte string written from an address. -/
def Memory.writes (a : Nat) : Bytes → List Host.Cell → List Host.Cell
  | [], m => m
  | b :: bs, m => Memory.writes (a + 1) bs (Memory.write a b m)

/-- n bytes read from an address. -/
def Memory.reads (m : List Host.Cell) (a n : Nat) : Bytes := (List.range n).map fun i => Memory.read (a + i) m

end Sys2Proof.Machine
end

