-- ==== Sys2Proof/Machine/Trellis.lean ====
section
/-! DEFINITION. The Trellis route engine (03) in canonical terms: entry and admission of requests, checks,
arbitration, the transitions of every route cell, and the effects of a pass. -/

namespace Sys2Proof.Machine

/-! ### Element states seen by the Trellis (R82) -/

def stS1 (e : Elem) : Bool :=
  match e.body with
  | .point b => b.posdet == 1
  | .sslip b => b.routdet != 0
  | .dslip b => b.routdet != 0
  | .signal b => b.aspshown == 0
  | .tcsec b => b.occ == 0
  | .acsec b => b.occ == 0
  | .lxing b => b.lxstate == 2
  | .blockif b => b.blkstate == 1 && e.curin.getLsbD 0 && e.curin.getLsbD 1
  | .keylock _ => e.curin.getLsbD 0 && e.curin.getLsbD 1
  | .shuntarea b => b.sastate == 0
  | .gvar b => b.value != b.default
  | .ptdrive _ => false

def stS2 (e : Elem) : Bool :=
  match e.body with
  | .point b => b.posdet == 2
  | .signal b => b.aspshown == b.aspreq && b.aspreq != 0
  | .tcsec b => b.occ == 0 || b.occ == 1
  | .acsec b => b.occ == 0 || b.occ == 1 || b.occ == 3
  | _ => false

/-- Does an element satisfy a code, availability apart? -/
def satCode (e : Elem) (code : Nat) : Bool := (code % 2 == 1 && stS1 e) || (code / 2 % 2 == 1 && stS2 e)

/-- Does an element pass a requirement (R108)? -/
def passes (e : Elem) (code : Nat) : Bool := code == 0 || (avail e && satCode e code)

def isPoint (e : Elem) : Bool := match e.body with | .point _ => true | _ => false

def isSection (e : Elem) : Bool :=
  match e.body with
  | .tcsec _ => true
  | .acsec _ => true
  | _ => false

def isSignal (e : Elem) : Bool := match e.body with | .signal _ => true | _ => false

/-- Is an element free of locks and claims? -/
def freeElem (e : Elem) : Bool := e.lockcnt == 0 && e.claimcnt == 0

def State.entry? (s : State) (r : Nat) : Option RouteEntry := s.image.routes[r]?

/-- First section of a route: GSEC of release group 0. -/
def firstSec (t : RouteEntry) : Option Nat := t.groups.head?.map (·.gsec)

/-- S1 of an element by number; an element that does not exist holds nothing. -/
def State.s1 (s : State) (n : Nat) : Bool := (s.elem? n).any stS1

/-- Does a lock force narrow what a point satisfies (11 R332)? -/
def State.ptSat (s : State) (e : Elem) (code : Nat) : Bool :=
  match s.ptLock e.num with
  | none => satCode e code
  | some p =>
    let at_ := match e.body with | .point b => b.posdet == p | _ => false
    at_ && satCode e code

/-! ### Locks and claims (R92) -/

/-- Elements with a path code. -/
def pathElems (t : RouteEntry) : List Nat := (t.req.filter (·.code != 0)).map (·.elem)

/-- Flank points and signals protected directly: not served by substitutes. -/
def directFlank (t : RouteEntry) (c : RouteCell) : List ElemRef :=
  t.flank.filter fun f => f.code != 0 && !c.subs.contains f.elem

/-- The elements of the substitute entries in use. -/
def State.subElems (s : State) (c : RouteCell) : List ElemRef :=
  c.subs.flatMap fun p => ((s.image.substs.find? (·.flankpt == p)).elim [] (·.elems))

/-- The elements of the overlap in use. -/
def State.ovlElems (s : State) (c : RouteCell) : List ElemRef :=
  if c.ovlused == 0xFFFF then [] else (s.image.overlaps[c.ovlused]?).elim [] (·.elems)

/-- Elements of the groups already released. -/
def releasedElems (t : RouteEntry) (c : RouteCell) : List Nat := (t.groups.take c.reldone).flatMap (·.elems)

/-- What a route locks, or would lock: every element with a path code whose group is not released. -/
def locksOf (t : RouteEntry) (c : RouteCell) : List Nat :=
  (pathElems t).filter fun n => !(releasedElems t c).contains n

/-- What a route claims, or would claim, one claim for each kind that names an element: two references of one kind that name
it are one claim. (log 134, DESIGN CHOICE) -/
def State.claimsOf (s : State) (t : RouteEntry) (c : RouteCell) : List Nat :=
  let ovl := ((s.ovlElems c).map (·.elem)).eraseDups
  if t.groups.length ≤ c.reldone && !t.groups.isEmpty then ovl
  else ovl ++ ((directFlank t c).map (·.elem)).eraseDups ++ ((s.subElems c).map (·.elem)).eraseDups

/-- A route has its locks and claims placed from LOCKED to RELEASING. -/
def placed (c : RouteCell) : Bool := 5 ≤ c.rstate && c.rstate ≤ 8

/-- CHECKED, SETTING or SET: counted as if locked (R85). -/
def pendingLocks (c : RouteCell) : Bool := 2 ≤ c.rstate && c.rstate ≤ 4

/-- A route holds from CHECKED to RELEASING (R78). -/
def holds (c : RouteCell) : Bool := 2 ≤ c.rstate && c.rstate ≤ 8

/-- Routes with their entries and cells. -/
def State.routes (s : State) : List (Nat × RouteEntry × RouteCell) :=
  (List.range s.image.routes.length).filterMap fun r => (s.entry? r).map fun t => (r, t, s.cellRec r)

/-! ### Checks (R85, R86, R102) -/

/-- The lowest of a list of element numbers. -/
def lowest : List Nat → Option Nat
  | [] => none
  | x :: xs => some (xs.foldl min x)

/-- Check 1: the lowest-numbered conflicting route that holds. -/
def State.chkConflict (s : State) (r : Nat) (t : RouteEntry) : Option Nat :=
  lowest (t.conflicts.filter fun j => j != r && holds (s.cellRec j))

/-- The elements whose availability check 2 asks for: path codes and the entry signal. -/
def availElems (t : RouteEntry) : List Nat :=
  pathElems t ++ (if t.entrysig == 0xFFFF then [] else [t.entrysig])

/-- Check 2, with the cause in its precedence. -/
def State.chkAvail (s : State) (t : RouteEntry) : Option (Nat × Nat) :=
  let bad := (availElems t).filter fun n => !((s.elem? n).any avail)
  let of (p : Elem → Bool) : Option Nat := lowest (bad.filter fun n => (s.elem? n).any p)
  match of (·.hedged) with
  | some n => some (2, n)
  | none =>
    match of (·.undertest) with
    | some n => some (3, n)
    | none => (lowest bad).map fun n => (4, n)

/-- Check 3: points that neither satisfy their code nor may be moved, and elements with code 11 that do not satisfy it. -/
def State.chkPos (s : State) (t : RouteEntry) : Option Nat :=
  lowest ((t.req.filter fun q =>
    match s.elem? q.elem with
    | some e =>
      if isPoint e && (q.code == 1 || q.code == 2) then
        !(s.ptSat e q.code || (freeElem e && (s.ptLock e.num).isNone))
      else q.code == 3 && !s.ptSat e 3
    | none => false).map (·.elem))

/-- Direct flank protection (R102). -/
def State.flankDirect (s : State) (f : ElemRef) : Bool :=
  match s.elem? f.elem with
  | some e =>
    if isPoint e then avail e && (s.ptSat e f.code || (freeElem e && (s.ptLock e.num).isNone))
    else avail e && stS1 e
  | none => false

/-- Substitute protection of a flank point: every element of its entry is available and satisfies its code. -/
def State.subOk (s : State) (q : ElemRef) : Bool :=
  (s.elem? q.elem).any fun e => avail e && (if isPoint e then s.ptSat e q.code else stS1 e)

def State.flankSub (s : State) (f : ElemRef) : Bool :=
  match s.image.substs.find? (·.flankpt == f.elem) with
  | some x => x.elems.all s.subOk
  | none => false

/-- Check 4: the flank points served by substitutes, or the lowest that is not protected; with more than four to serve, the
lowest of those after the first four. (log 134, DESIGN CHOICE) -/
def State.chkFlank (s : State) (t : RouteEntry) : Except Nat (List Nat) :=
  let need := (t.flank.filter fun f => f.code != 0 && !s.flankDirect f)
  let bad := need.filter fun f => !s.flankSub f
  match lowest (bad.map (·.elem)) with
  | some n => .error n
  | none =>
    if need.length ≤ 4 then .ok (need.map (·.elem))
    else .error ((lowest ((need.drop 4).map (·.elem))).getD 0xFFFF)

/-- The elements of an overlap that keep it from being provided. -/
def State.ovlBad (s : State) (i : Nat) : List Nat :=
  match s.image.overlaps[i]? with
  | none => [0xFFFF]
  | some o => (o.elems.filter fun q =>
      match s.elem? q.elem with
      | some e => !(avail e && (satCode e q.code || (isPoint e && freeElem e)))
      | none => true).map (·.elem)

/-- Check 5: the overlap to use, 0xFFFF for none, or the lowest failing element of both entries tried. (log 134, DESIGN CHOICE) -/
def State.chkOvl (s : State) (t : RouteEntry) : Except Nat Nat :=
  if t.ovl == 0xFFFF then .ok 0xFFFF
  else if (s.ovlBad t.ovl).isEmpty then .ok t.ovl
  else if t.altovl != 0xFFFF && (s.ovlBad t.altovl).isEmpty then .ok t.altovl
  else .error ((lowest (s.ovlBad t.ovl ++ (if t.altovl == 0xFFFF then [] else s.ovlBad t.altovl))).getD 0xFFFF)

/-- Check 6: sections of the path and of the overlap that do not satisfy their codes. -/
def State.chkSections (s : State) (t : RouteEntry) (ovl : List ElemRef) : Option Nat :=
  lowest (((t.req ++ ovl).filter fun q =>
    match s.elem? q.elem with
    | some e => isSection e && !passes e q.code
    | none => false).map (·.elem))

/-- Other routes in CHECKED, SETTING or SET count as if locked. -/
def State.pendingOthers (s : State) (r : Nat) : List (Nat × RouteEntry × RouteCell) :=
  s.routes.filter fun x => x.1 != r && pendingLocks x.2.2

/-- Locks and claims that others would still place on an element. -/
def wouldLock (xs : List (Nat × RouteEntry × RouteCell)) (n : Nat) : Nat :=
  (xs.filter fun x => (locksOf x.2.1 x.2.2).contains n).length

def State.wouldClaim (s : State) (xs : List (Nat × RouteEntry × RouteCell)) (n : Nat) : Nat :=
  (xs.map fun x => (s.claimsOf x.2.1 x.2.2).count n).sum

/-- Check 7: the lowest element whose count would exceed 255, with the routes counted as if locked. -/
def State.chkRoom (s : State) (others : List (Nat × RouteEntry × RouteCell)) (t : RouteEntry) (c : RouteCell) :
    Option Nat :=
  let locks := locksOf t c
  let claims := s.claimsOf t c
  lowest ((locks ++ claims).eraseDups.filter fun n =>
    match s.elem? n with
    | some e =>
      (locks.contains n && 255 < e.lockcnt + wouldLock others n + 1) ||
      (claims.contains n && 255 < e.claimcnt + s.wouldClaim others n + claims.count n)
    | none => false)

/-- The outcome of the checks of a request: the first failing check with its element, or the overlap and the
substitutes it would use. -/
inductive Eval where
  | fail (code elem : Nat)
  | ok (ovl : Nat) (subs : List Nat)
  deriving DecidableEq, Repr

def State.evalRoute (s : State) (r : Nat) (t : RouteEntry) (c : RouteCell) : Eval :=
  match s.chkConflict r t with
  | some j => .fail 1 j
  | none =>
    match s.chkAvail t with
    | some (k, n) => .fail k n
    | none =>
      match s.chkPos t with
      | some n => .fail 4 n
      | none =>
        match s.chkFlank t with
        | .error n => .fail 5 n
        | .ok subs =>
          match s.chkOvl t with
          | .error n => .fail 6 n
          | .ok ovl =>
            let c' := { c with ovlused := ovl, subs := subs }
            match s.chkSections t (s.ovlElems c') with
            | some n => .fail 7 n
            | none =>
              match s.chkRoom (s.pendingOthers r) t c' with
              | some n => .fail 8 n
              | none => .ok ovl subs

/-! ### Admission and arbitration (R89, R90) -/

/-- Order of requests: descending PRIO, then ascending REQSEQ in serial order. -/
def reqBefore (a b : Nat × RouteEntry × RouteCell) : Bool :=
  b.2.1.prio < a.2.1.prio || (a.2.1.prio == b.2.1.prio && serialAfter 32 b.2.2.reqseq a.2.2.reqseq)

/-- Insertion into a list in the order of requests. -/
def insReq (x : Nat × RouteEntry × RouteCell) : List (Nat × RouteEntry × RouteCell) → List (Nat × RouteEntry × RouteCell)
  | [] => [x]
  | y :: ys => if reqBefore x y then x :: y :: ys else y :: insReq x ys

def sortReqs (xs : List (Nat × RouteEntry × RouteCell)) : List (Nat × RouteEntry × RouteCell) :=
  xs.foldl (fun acc x => insReq x acc) []

/-- The first 64 waiting requests enter evaluation. -/
def State.admission (s : State) : State :=
  let waiting := s.routes.filter fun x => x.2.2.rstate == 1 && !x.2.2.flags.admitted
  let now := ((sortReqs waiting).take 64).map (·.1)
  s.each now fun s r => s.updRoute r fun c => { c with flags := { c.flags with admitted := true } }

/-- The lifetime of a request is reached. -/
def lifeOver (t : RouteEntry) (c : RouteCell) : Bool := t.reqpre != 0 && expR c.stelap t.reqpre

/-- The admitted requests with their evaluation; one whose lifetime is reached in the pass of its entry, `dt` after it, has
none (R86). -/
def State.evaluations (s : State) (dt : Nat) : List (Nat × Eval) :=
  (s.routes.filter fun x => x.2.2.rstate == 1 && x.2.2.flags.admitted && !(lifeOver x.2.1 x.2.2 && x.2.2.stelap ≤ dt)).map
    fun x => (x.1, s.evalRoute x.1 x.2.1 x.2.2)

/-- One candidate against those taken: taken, or the loser with the route that R90 names. -/
def State.arbOne (s : State) (acc : List (Nat × RouteEntry × RouteCell) × List (Nat × Nat))
    (x : Nat × RouteEntry × RouteCell) : List (Nat × RouteEntry × RouteCell) × List (Nat × Nat) :=
  let (taken, lost) := acc
  match lowest ((taken.filter fun y => x.2.1.conflicts.contains y.1).map (·.1)) with
  | some j => (taken, lost ++ [(x.1, j)])
  | none =>
    match s.chkRoom (s.pendingOthers x.1 ++ taken) x.2.1 x.2.2 with
    | some e =>
      let by_ := taken.filter fun y => (locksOf y.2.1 y.2.2).contains e || (s.claimsOf y.2.1 y.2.2).contains e
      (taken, lost ++ [(x.1, (lowest (by_.map (·.1))).getD 0xFFFF)])
    | none => (taken ++ [x], lost)

/-- Arbitration: the winners and the losers of a pass. -/
def State.arbitrate (s : State) (evs : List (Nat × Eval)) : List Nat × List (Nat × Nat) :=
  let cand := evs.filterMap fun x =>
    match x.2 with
    | .ok ovl subs => (s.entry? x.1).map fun t => (x.1, t, { s.cellRec x.1 with ovlused := ovl, subs := subs })
    | .fail _ _ => none
  let (taken, lost) := (sortReqs cand).foldl s.arbOne ([], [])
  (taken.map (·.1), lost)

/-! ### Clearing conditions and aspects (R94, R95) -/

/-- Conditions 1 to 4 of R94: path, overlap, flank and substitute elements, and the entry signal, to which a
signal-at-danger force denies clearing (11 R332). -/
def State.elemsClear (s : State) (r : Nat) (t : RouteEntry) (c : RouteCell) : Bool :=
  (t.req.all fun q => q.code == 0 || (s.elem? q.elem).any fun e => passes e q.code) &&
  ((s.ovlElems c).all fun q => (s.elem? q.elem).any fun e => passes e q.code) &&
  ((directFlank t c).all fun q => (s.elem? q.elem).any fun e =>
    avail e && (if isSignal e then stS1 e else s.ptSat e q.code)) &&
  ((s.subElems c).all s.subOk) &&
  ((s.elem? t.entrysig).any fun e => avail e && freeElem e &&
    (match e.body with | .signal b => b.route == r | _ => false)) &&
  !(s.stage.forces.any fun f => f.fkind == 3 && f.fnum == t.entrysig)

/-- Every clearing condition of a route (R94): those of the elements, and CANCEL, BLOCKED and ERL all 0. -/
def State.clearing (s : State) (r : Nat) (t : RouteEntry) (c : RouteCell) : Bool :=
  s.elemsClear r t c && !c.flags.cancel && !c.flags.blocked && !c.flags.erl

/-- CONDLOST after a pass: 0 when the route clears; set when a condition of its elements is lost (R92, R97). A
cancel, a block or an emergency release alone does not set it. (log 38, DEDUCED) -/
def State.condlostNow (s : State) (r : Nat) (t : RouteEntry) (c : RouteCell) : Bool :=
  !s.clearing r t c && (c.flags.condlost || !s.elemsClear r t c)

/-- AL: approach locking active (R92). -/
def State.al (s : State) (t : RouteEntry) (c : RouteCell) : Bool :=
  c.flags.clrseen && (t.almode == 1 || t.appr.any fun n => !s.s1 n)

/-- Is the entry signal proved at danger, or is there none? -/
def State.entryDanger (s : State) (t : RouteEntry) : Bool :=
  t.entrysig == 0xFFFF || (s.elem? t.entrysig).any fun e =>
    match e.body with | .signal b => b.aspshown == 0 | _ => false

/-- The aspect of a route's class. -/
def State.aspectOf (s : State) (t : RouteEntry) : Nat × Nat :=
  let ind := b2n t.ind
  match t.cls with
  | 0 =>
    let ahead := (s.elem? t.nextsig).any fun e => e.fltcode == 0 &&
      (match e.body with | .signal b => b.aspshown == 1 || b.aspshown == 2 | _ => false)
    (if ahead then 2 else 1, ind)
  | 1 => (3, ind)
  | 2 => (3, 1)
  | _ => (1, ind)

/-! ### Transitions (R92, R97 to R101) -/

/-- Preset of the approach release timer: the greater of ALPRE and 3,000 for ERL. -/
def alPreset (t : RouteEntry) (c : RouteCell) : Nat := if c.flags.erl then max t.alpre 3000 else t.alpre

/-- ALELAP runs: in APPROACH-LOCKED under CANCEL or ERL, in LOCKED and RELEASING under ERL (R97, R98). -/
def alRuns (c : RouteCell) : Bool :=
  (c.rstate == 7 && (c.flags.cancel || c.flags.erl)) || ((c.rstate == 5 || c.rstate == 8) && c.flags.erl)

/-- OLELAP runs: the last group is released (R100). -/
def olRuns (t : RouteEntry) (c : RouteCell) : Bool := c.rstate == 8 && !t.groups.isEmpty && t.groups.length ≤ c.reldone

/-- ALELAP has expired. -/
def alExpired (t : RouteEntry) (c : RouteCell) : Bool := alRuns c && expP c.alelap (alPreset t c)

/-- The cell RELEASED. FAILELEM stays as the check before left it where LASTFAIL names no element. (log 134, DESIGN CHOICE) -/
def toReleased (fail : Nat) (c : RouteCell) : RouteCell :=
  { c with rstate := 9, lastfail := if fail == 0 then c.lastfail else fail }

/-- LASTFAIL of a cancelled or blocked route: 13 where it is both. (log 134, DESIGN CHOICE) -/
def cancelFail (c : RouteCell) : Nat := if c.flags.cancel then 13 else 10

/-- LASTFAIL and FAILELEM of a request as the pass finds them. -/
def noteChecks (c : RouteCell) (ev : Option Eval) (lost : Option Nat) : RouteCell :=
  match ev with
  | some (.fail k n) => { c with lastfail := k, failelem := n }
  | some (.ok _ _) =>
    (match lost with
     | some j => { c with lastfail := 9, failelem := j }
     | none => { c with lastfail := 0, failelem := 0xFFFF })
  | none => c

/-- The check whose status a request reports at its lifetime, with its FAILELEM: the first that failed in this pass, else
the one recorded before; 0 and 0xFFFF when none has failed (R86). -/
def lifeCheck (c : RouteCell) (ev : Option Eval) (lost : Option Nat) : Nat × Nat :=
  let c1 := noteChecks c ev lost
  if c1.lastfail != 0 then (c1.lastfail, c1.failelem)
  else if c.lastfail != 0 then (c.lastfail, c.failelem)
  else (0, 0xFFFF)

/-- REQUESTED, with what the pass found. -/
def moveRequested (t : RouteEntry) (c : RouteCell) (ev : Option Eval) (won : Bool) (lost : Option Nat) : RouteCell :=
  let c1 := noteChecks c ev lost
  if c.flags.cancel then toReleased 13 c
  else if c.flags.blocked then toReleased 10 c
  else if lifeOver t c then toReleased 12 { c1 with failelem := (lifeCheck c ev lost).2 }
  else if c1.lastfail == 2 || c1.lastfail == 3 then toReleased 0 c1
  else match ev, won with
    | some (.ok ovl subs), true => { c1 with rstate := 2, ovlused := ovl, subs := subs }
    | _, _ => c1

/-- Points that a route drives in SETTING: path, overlap and direct flank points with a position. -/
def State.drivenPoints (s : State) (t : RouteEntry) (c : RouteCell) : List ElemRef :=
  (t.req ++ s.ovlElems c ++ directFlank t c).filter fun q =>
    (q.code == 1 || q.code == 2) && (s.elem? q.elem).any isPoint

/-- SETTING has reached its aim. -/
def State.settled (s : State) (r : Nat) (t : RouteEntry) (c : RouteCell) : Bool :=
  ((s.drivenPoints t c).all fun q => (s.elem? q.elem).any fun e =>
    match e.body with | .point b => b.posdet == q.code && b.movest == 0 | _ => false) &&
  (s.chkAvail t).isNone && (s.chkSections t (s.ovlElems c)).isNone &&
  (s.chkRoom (s.pendingOthers r) t c).isNone && (s.subElems c).all s.subOk

/-- The route enters APPROACH-LOCKED: ALELAP 0 unless it runs already. -/
def toApproach (c : RouteCell) : RouteCell :=
  { c with
    rstate := 7
    alelap := if alRuns c then c.alelap else 0 }

/-- The route enters RELEASING: a train is in its first section. ALELAP stops, but runs on under ERL (`alRuns`). -/
def toReleasing (c : RouteCell) : RouteCell := { c with rstate := 8, relocc := c.relocc ||| 1#16 }

/-- Is the first section occupied or disturbed? -/
def State.firstOcc (s : State) (t : RouteEntry) : Bool := (firstSec t).any fun n => !s.s1 n

/-- The route leaves LOCKED or RELEASING on an emergency release whose timer has expired (R98). -/
def State.erlDone (s : State) (t : RouteEntry) (c : RouteCell) : Bool :=
  c.flags.erl && alExpired t c && s.entryDanger t

/-- The OWNER of an area route does not want it any more: a key lock back in KLSTATE 0, a shunting area closed or returning.
Its release request, raised in the input pass, acts from the next pass on (R64, R66, R87, R106). -/
def State.areaReleased (s : State) (r : Nat) (t : RouteEntry) : Bool :=
  t.area && !(s.trl.elemreqs.any fun x => x.1 == r && !x.2.2) && (s.elem? t.owner).any fun e =>
    match e.body with
    | .keylock b => b.klstate == 0
    | .shuntarea b => b.sastate == 0 || b.sastate == 3
    | _ => false

/-- LOCKED: its transitions in their order (log 38, DEDUCED). A release by ERL or by the OWNER writes LASTFAIL 13.
(log 134, DESIGN CHOICE) -/
def State.moveLocked (s : State) (r : Nat) (t : RouteEntry) (c : RouteCell) : RouteCell :=
  if s.erlDone t c then toReleased 13 c
  else if c.flags.clrseen && s.firstOcc t then toReleasing c
  else if s.al t c then toApproach { c with flags := { c.flags with condlost := s.condlostNow r t c } }
  else if ((c.flags.cancel && !t.area) || s.areaReleased r t) && s.entryDanger t then toReleased 13 c
  else if !t.area && s.clearing r t c then
    { c with rstate := 6, flags := { c.flags with clrseen := true, condlost := false } }
  else c

def State.moveCleared (s : State) (r : Nat) (t : RouteEntry) (c : RouteCell) : RouteCell :=
  if s.firstOcc t then toReleasing c
  else if s.al t c then
    toApproach { c with flags := { c.flags with condlost := s.condlostNow r t c } }
  else if !s.clearing r t c then
    { c with rstate := 5, flags := { c.flags with condlost := s.condlostNow r t c } }
  else c

def State.moveApproach (s : State) (r : Nat) (t : RouteEntry) (c : RouteCell) : RouteCell :=
  if s.firstOcc t then toReleasing c
  else if (c.flags.cancel || c.flags.erl) && alExpired t c && s.entryDanger t then toReleased 13 c
  else { c with flags := { c.flags with condlost := s.condlostNow r t c } }

/-- GSEC of group g satisfies S1. -/
def State.grpClear (s : State) (t : RouteEntry) (g : Nat) : Bool := (t.groups[g]?).any fun x => s.s1 x.gsec

/-- RELOCC with the bits of the sections that are not clear. -/
def State.noteOcc (s : State) (t : RouteEntry) (c : RouteCell) : RouteCell :=
  { c with relocc := c.relocc ||| maskOf 16 ((List.range t.groups.length).filter fun g => !s.grpClear t g) }

/-- Is group RELDONE released in this pass (R99)? -/
def State.grpReleases (s : State) (t : RouteEntry) (c : RouteCell) : Bool :=
  let g := c.reldone
  let n := t.groups.length
  if n ≤ g then false
  else if g + 1 == n then c.relocc.getLsbD g && 0 < g
  else c.relocc.getLsbD g && s.grpClear t g && !s.grpClear t (g + 1)

/-- Is the overlap in use released (R100)? -/
def State.ovlReleases (s : State) (t : RouteEntry) (c : RouteCell) : Bool :=
  c.ovlused == 0xFFFF || s.grpClear t (t.groups.length - 1) ||
  expP c.olelap ((s.image.overlaps[c.ovlused]?).elim 0 (·.olrel))

def State.moveReleasing (s : State) (t : RouteEntry) (c : RouteCell) : RouteCell :=
  let c := s.noteOcc t c
  if s.erlDone t c then toReleased 13 c
  else if t.groups.length ≤ c.reldone then (if s.ovlReleases t c then toReleased 0 c else c)
  else if s.grpReleases t c then
    let c := { c with reldone := c.reldone + 1 }
    if c.reldone == t.groups.length then { c with olelap := 0 } else c
  else c

/-- The transition of one route cell, against the start-of-pass state. -/
def State.nextRoute (s : State) (r : Nat) (t : RouteEntry) (c : RouteCell) (ev : Option Eval) (won : Bool)
    (lost : Option Nat) : RouteCell :=
  match c.rstate with
  | 1 => moveRequested t c ev won lost
  | 2 =>
    if c.flags.cancel || c.flags.blocked then toReleased (cancelFail c) c else { c with rstate := 3 }
  | 3 =>
    if c.flags.cancel || c.flags.blocked then toReleased (cancelFail c) c
    else if expR c.stelap t.setpre then toReleased 11 c
    else if s.settled r t c then { c with rstate := 4 }
    else c
  | 4 =>
    if c.flags.cancel || c.flags.blocked then toReleased (cancelFail c) c
    else { c with rstate := 5, flags := { c.flags with clrseen := false } }
  | 5 => s.moveLocked r t c
  | 6 => s.moveCleared r t c
  | 7 => s.moveApproach r t c
  | 8 => s.moveReleasing t c
  | _ => c

/-- STELAP starts anew with a new state (R77). -/
def newState (old new : RouteCell) : RouteCell := if new.rstate == old.rstate then new else { new with stelap := 0 }

/-- One route cell in a pass. -/
def State.moveRoute (s : State) (r : Nat) (t : RouteEntry) (c : RouteCell) (ev : Option Eval) (won : Bool)
    (lost : Option Nat) : RouteCell :=
  newState c (s.nextRoute r t c ev won lost)

/-! ### Effects of a pass (R79, R92, R95, R62) -/

/-- Counts after a route's locks and claims changed from the old cell to the new. -/
def State.recount (s : State) (t : RouteEntry) (old new : RouteCell) : State :=
  let l0 := if placed old then locksOf t old else []
  let l1 := if placed new then locksOf t new else []
  let c0 := if placed old then s.claimsOf t old else []
  let c1 := if placed new then s.claimsOf t new else []
  if l0 == l1 && c0 == c1 then s
  else
    { s with app := { s.app with elems := s.app.elems.map fun e =>
      { e with
        lockcnt := e.lockcnt + l1.count e.num - l0.count e.num
        claimcnt := e.claimcnt + c1.count e.num - c0.count e.num } } }

/-- Does a pass take a lock or claim of a route away? -/
def shrinks (old new : RouteCell) : Bool :=
  placed old && (!placed new || old.reldone < new.reldone)

/-- POSREQ of a point: what a route in SETTING or SET requires. -/
def State.posReq (s : State) (n : Nat) : Nat :=
  match s.routes.find? fun x => (x.2.2.rstate == 3 || x.2.2.rstate == 4) &&
      (s.drivenPoints x.2.1 x.2.2).any (·.elem == n) with
  | some x => ((s.drivenPoints x.2.1 x.2.2).find? (·.elem == n)).elim 0 (·.code)
  | none => 0

/-- ROUTE of a signal at the end of a pass. -/
def State.formRoute (s : State) (sig old : Nat) : Nat :=
  let st := (s.cellRec old).rstate
  if old == 0xFFFF || st == 9 || st == 0 then
    match s.routes.find? fun x => x.2.1.entrysig == sig && 5 ≤ x.2.2.rstate && x.2.2.rstate ≤ 8 with
    | some x => x.1
    | none => 0xFFFF
  else old

/-- ASPREQ and INDREQ of a signal: those of the route that ROUTE names, when it may clear it. `s0` is the state
the pass evaluated. -/
def State.sigReq (s s0 : State) (r : Nat) : Nat × Nat :=
  match s.entry? r with
  | some t =>
    let c := s.cellRec r
    if c.rstate == 6 || (c.rstate == 7 && s0.clearing r t c) then s0.aspectOf t else (0, 0)
  | none => (0, 0)

/-- DIRWANT of a block interface (R62). -/
def State.dirWant (s : State) (n : Nat) : Bool :=
  s.routes.any fun x => 2 ≤ x.2.2.rstate && x.2.2.rstate ≤ 7 && x.2.1.req.any fun q => q.elem == n && q.code == 1

/-- A signal's requirements written; what was commanded before is tolerated for a time (R54). A mismatch that already runs
keeps its PROVELAP through the change. (log 119, DESIGN CHOICE) -/
def setSignal (e : Elem) (b : SignalBody) (route asp ind : Nat) : Elem :=
  let w := e.work
  { e with
    body := .signal { b with route := route, aspreq := asp, indreq := ind }
    work := { w with
      tolAspect := if asp == b.aspreq then w.tolAspect else b.aspreq
      tolInd := if ind == b.indreq then w.tolInd else ind == 0 } }

/-- What the pass writes into one element. -/
def State.writeElem (s s0 : State) (e : Elem) : Elem :=
  match e.body with
  | .point b => { e with body := .point { b with posreq := s.posReq e.num } }
  | .signal b =>
    let r := s.formRoute e.num b.route
    let (asp, ind) := if r == 0xFFFF then (0, 0) else s.sigReq s0 r
    setSignal e b r asp ind
  | .blockif b => { e with body := .blockif { b with dirwant := b2n (s.dirWant e.num) } }
  | _ => e

/-! ### Completions of a pass (R64, R86, R104) -/

/-- The status of the originating command at a release. -/
def failStatus (fail : Nat) : Nat :=
  match fail with
  | 0 => 0x0000
  | 2 => 0x80A0
  | 3 => 0x8040
  | 13 => 0x0000
  | _ => 0x8090

/-- Completion of a route's command. -/
def routeCompl (ref : CmdRef) (c : RouteCell) (status : Nat) : Compl :=
  ⟨ref, status, c.cmdseq, c.reqseq, c.lastfail, c.failelem, []⟩

/-- The OWNER of an area route learns that its request was not entered, or released without reaching LOCKED: a shunting
area returns to SASTATE 0. (log 119, DESIGN CHOICE) -/
def ownerFailed (e : Elem) : Elem :=
  match e.body with
  | .keylock b =>
    if b.klstate == 1 then
      { e with body := .keylock { b with klstate := 0, relreq := 0 }, work := { e.work with withdrawn := false } }
    else e
  | .shuntarea b => if b.sastate == 1 then { e with body := .shuntarea { b with sastate := 0 } } else e
  | _ => e

/-- The command that waits at the OWNER completes. -/
def State.ownerDone (s : State) (owner : Nat) (c : RouteCell) (status : Nat) : State :=
  match (s.elem? owner).bind fun e => e.work.ref with
  | some ref =>
    (s.completeLater (routeCompl ref c status)).updElem owner fun e => { e with work := { e.work with ref := none } }
  | none => s

/-- A request for automatic or triggered working, entered at the next snapshot. -/
def State.raiseAuto (s : State) (r origin : Nat) : State :=
  { s with trl := { s.trl with autoreqs := s.trl.autoreqs ++ [(r, origin)] } }

/-- The fault source ID of a route (R101). -/
def State.routeFsid (s : State) (r det : Nat) : Fsid := ⟨0, s.lowLane.num, 0x03, r, det⟩

/-- What follows when a route has moved to RELEASED; `check` is the check that a lifetime reached reports. -/
def State.afterReleased (s : State) (r : Nat) (t : RouteEntry) (old new : RouteCell) (check : Nat) : State :=
  let status := if new.lastfail == 12 then (if check == 0 then 0x8090 else failStatus check) else failStatus new.lastfail
  let s := match new.ref with
    | some ref => (s.completeLater (routeCompl ref new status)).updRoute r fun c => { c with ref := none }
    | none => s
  let s := s.each new.cancels fun s x => s.completeLater ⟨x.1, 0x0000, x.2, 0, new.lastfail, new.failelem, []⟩
  let s := s.updRoute r fun c => { c with cancels := [] }
  let s := if t.area && old.rstate < 5 then (s.ownerDone t.owner new status).updElem t.owner ownerFailed else s
  if new.origin == 2 && [2, 3, 10, 12].contains new.lastfail then
    let s := s.updRoute r fun c => { c with flags := { c.flags with autoon := false } }
    s.collectOpen 0 s.lowLane.num 0x03 r 4 1
  else if new.flags.autoon then s.raiseAuto r 2
  else s

/-- What follows when a route has moved. -/
def State.afterMove (s : State) (r : Nat) (t : RouteEntry) (old new : RouteCell) (check : Nat) : State :=
  if new.rstate == 9 && old.rstate != 9 then s.afterReleased r t old new check
  else if new.rstate == 6 && old.rstate != 6 then
    match new.ref with
    | some ref => (s.completeLater (routeCompl ref new 0x0000)).updRoute r fun c => { c with ref := none }
    | none => s
  else if new.rstate == 5 && old.rstate == 4 && t.area then s.ownerDone t.owner new 0x0000
  else s

/-- The watch over a route cell record after a pass: while it stands in RELEASING, the ms without a further group. -/
def watchNext (dt r : Nat) (c : RouteCell) (old : Option RelWatch) : Option RelWatch :=
  if c.rstate != 8 then none
  else match old with
    | some w => if w.groups == c.reldone then some { w with ms := elapse w.ms dt } else some ⟨r, c.reldone, 0, false⟩
    | none => some ⟨r, c.reldone, 0, false⟩

/-- The lanes' fault collectors watch the routes in RELEASING: the Trellis itself keeps nothing outside its records (R80). (log 121, DEDUCED) -/
def State.watchStep (s : State) (dt : Nat) : State :=
  let next := (List.range s.image.routes.length).filterMap fun r =>
    watchNext dt r (s.cellRec r) (s.flt.watch.find? (·.route == r))
  { s with flt := { s.flt with watch := next } }

/-- 600 s in RELEASING without a group: one F1 event (R101). -/
def State.quietCheck (s : State) (r : Nat) : State :=
  if s.flt.watch.any fun w => w.route == r && 600000 ≤ w.ms && !w.raised then
    let s : State := { s with flt := { s.flt with
        watch := modWhere (·.route == r) (fun w => { w with raised := true }) s.flt.watch } }
    s.collect (s.routeFsid r 0x01)
  else s

/-- Falling edge of CLEAR at the trigger section of an armed route (R105). -/
def State.trigger (s : State) (r : Nat) (t : RouteEntry) : State :=
  let c := s.cellRec r
  let fell := (s.elem? t.trigsec).any fun e => e.work.edges && e.previn.getLsbD 0 && !e.curin.getLsbD 0
  if c.flags.trigarm && fell then
    (s.updRoute r fun c => { c with flags := { c.flags with trigarm := false } }).raiseAuto r 3
  else s

/-! ### The pass -/

/-- ALELAP before the commands of a snapshot are entered: it stands at 0 in the pass that accepts CANCEL or ERL (R97). -/
def State.tickApproach (s : State) (dt : Nat) : State :=
  if s.usesTe then
    let count := fun (c : RouteCell) => if alRuns c then { c with alelap := elapse c.alelap dt } else c
    { s with app := { s.app with cells := s.app.cells.map count } }
  else s

/-- Route timers at the start of a pass (R72): STELAP in every state (R77), OLELAP while it runs. -/
def tickRoute (dt : Nat) (t : Option RouteEntry) (c : RouteCell) : RouteCell :=
  { c with
    stelap := elapse c.stelap dt
    olelap := if t.any fun t => olRuns t c then elapse c.olelap dt else c.olelap }

def State.tickRoutes (s : State) (dt : Nat) : State :=
  { s with app := { s.app with cells := s.app.cells.zipIdx.map fun x => tickRoute dt (s.entry? x.2) x.1 } }

/-- A route cell record with an RSTATE above 9: each lane that finds one is withdrawn (R78). -/
def State.badRoutes (s : State) : State :=
  match s.app.cells.zipIdx.find? fun x => 9 < x.1.rstate with
  | some x => s.each (Lane.all.filter fun l => s.isActive l || (s.lane l).st == .resync) fun s l =>
      s.collectOpen 1 l.num 0x03 x.2 27 3
  | none => s

/-- One route moved, its counts with it. Its release transitions wait while its record is unconfirmed (09 R276). (log 50, DEDUCED) -/
def State.passRoute (s s0 : State) (evs : List (Nat × Eval)) (won : List Nat) (lost : List (Nat × Nat)) (r : Nat) :
    State :=
  match s0.entry? r with
  | none => s
  | some t =>
    let old := s0.cellRec r
    let ev := (evs.find? (·.1 == r)).map (·.2)
    let new := s0.moveRoute r t old ev (won.contains r) ((lost.find? (·.1 == r)).map (·.2))
    let new := if s0.pair.unconf.contains r && shrinks old new then old else new
    ((s.updRoute r fun _ => new).recount t old new).afterMove r t old new
      (lifeCheck old ev ((lost.find? (·.1 == r)).map (·.2))).1

/-- Requests waiting, and requests under evaluation. -/
def State.countRequests (s : State) : State :=
  let n (p : RouteCell → Bool) : Nat := (s.app.cells.filter p).length
  { s with app := { s.app with trellis := { s.app.trellis with
      nwait := n fun c => c.rstate == 1 && !c.flags.admitted
      neval := n fun c => c.rstate == 1 && c.flags.admitted } } }

/-- Every route moved, in one evaluation and one arbitration over the state at the pass's start. -/
def State.passRoutes (s : State) (dt : Nat) : State :=
  let evs := s.evaluations dt
  let (won, lost) := s.arbitrate evs
  s.each (List.range s.image.routes.length) fun t r => t.passRoute s evs won lost r

def State.triggers (s : State) : State :=
  s.each (List.range s.image.routes.length) fun s r => match s.entry? r with
    | some t => s.trigger r t
    | none => s

def State.quietChecks (s : State) : State := s.each (List.range s.image.routes.length) State.quietCheck

/-- What the pass writes into the elements; `s0` is the state that it started from. -/
def State.writeElems (s s0 : State) : State :=
  { s with app := { s.app with elems := s.app.elems.map fun e => s.writeElem s0 e } }

/-- A record unconfirmed in this pass (09 R276) is not in the next. -/
def State.confirmAll (s : State) : State := { s with pair := { s.pair with unconf := [] } }

/-- The Trellis evaluates: one pass over every route cell. -/
def State.trellisPass (s : State) (dt : Nat) : State :=
  let s0 := (s.tickRoutes dt).badRoutes.admission
  (((((s0.passRoutes dt).triggers.watchStep dt).quietChecks).writeElems s0).confirmAll).countRequests

/-- After the vote a RELEASED cell is AVAILABLE: Reset values but AUTOON and BLOCKED. -/
def availableCell (c : RouteCell) : RouteCell :=
  if c.rstate == 9 then
    { routeInit with flags := { routeInit.flags with autoon := c.flags.autoon, blocked := c.flags.blocked } }
  else c

def State.endReleased (s : State) : State :=
  { s with app := { s.app with cells := s.app.cells.map availableCell } }

/-! ### Entry of requests (R87, R91) -/

/-- The next command sequence number, skipping 0. -/
def State.takeCmdseq (s : State) : Nat × State :=
  let n := s.trl.cmdseq
  let next := if wrapInc 32 n == 0 then 1 else wrapInc 32 n
  (n, { s with trl := { s.trl with cmdseq := next } })

/-- The next request sequence number, skipping 0. -/
def State.takeReqseq (s : State) : Nat × State :=
  let n := s.app.trellis.nextseq
  let next := if wrapInc 32 n == 0 then 1 else wrapInc 32 n
  (n, { s with app := { s.app with trellis := { s.app.trellis with nextseq := next } } })

def State.countNotEntered (s : State) : State :=
  { s with app := { s.app with trellis := { s.app.trellis with notentered := satInc 32 s.app.trellis.notentered } } }

/-- A request entered in its cell. -/
def State.enter (s : State) (r origin cmdseq : Nat) (ref : Option CmdRef) : State :=
  let (q, s) := s.takeReqseq
  s.updRoute r fun c => { c with
    rstate := 1, reqseq := q, origin := origin, cmdseq := cmdseq, stelap := 0, lastfail := 0, failelem := 0xFFFF
    ref := ref
    flags := { c.flags with admitted := false, cancel := false, condlost := false, clrseen := false, erl := false } }

/-- A route as the commands find it: none where the role leaves the Trellis unused (01 R34). (log 135, DESIGN CHOICE) -/
def State.route? (s : State) (r : Nat) : Option RouteEntry := if s.usesTe then s.entry? r else none

/-- Why a request is not entered; none where it is. An area route is requested by its OWNER alone (R106). (log 135, DESIGN CHOICE) -/
def State.notEntered (s : State) (r : Nat) (elem : Option Nat) : Option Nat :=
  match s.route? r with
  | none => some 0x8080
  | some t =>
    if t.area && elem != some t.owner then some 0x8080
    else if (s.cellRec r).rstate != 0 || (s.cellRec r).flags.blocked then some 0x8090
    else none

def State.doneOp (s : State) (ref : CmdRef) (status cmdseq : Nat) : State :=
  s.completeLater ⟨ref, status, cmdseq, 0, 0, 0xFFFF, []⟩

/-- A cancel command (R91, R97, R104, R105); an area route that is not AVAILABLE is none of the operator's (R106). (log 122, DEDUCED) -/
def State.enterCancel (s : State) (ref : CmdRef) (r q : Nat) : State :=
  match s.route? r with
  | none => s.doneOp ref 0x8080 q
  | some t =>
    let s := s.updRoute r fun c => { c with flags := { c.flags with autoon := false, trigarm := false } }
    let c := s.cellRec r
    if c.rstate == 0 || c.rstate == 9 then s.doneOp ref 0x0000 q
    else if t.area then s.doneOp ref 0x8080 q
    else s.updRoute r fun c => { c with
      flags := { c.flags with cancel := true }
      cancels := c.cancels ++ [(ref, q)]
      alelap := if c.rstate == 7 && !alRuns c then 0 else c.alelap }

/-- A release command of a key lock (R64). A command withdrawn by a second one stays open, and a further release command takes
its place. (log 132, DESIGN CHOICE) -/
def State.enterKey (s : State) (ref : CmdRef) (n q : Nat) : State :=
  match s.elem? n with
  | none => s.doneOp ref 0x8080 q
  | some e =>
    match e.body with
    | .keylock b =>
      if b.klstate == 2 then s.doneOp ref 0x8090 q
      else if b.klstate == 1 then
        (s.updElem n fun e => { e with
          body := .keylock { b with relreq := 0 }, work := { e.work with withdrawn := true } }).doneOp ref 0x0000 q
      else
        (s.updElem n fun e => { e with
          body := .keylock { b with klstate := 1, relreq := 1 }
          work := { e.work with ref := some ref, withdrawn := false } }).raiseReq b.arearoute n true
    | _ => s.doneOp ref 0x8070 q

/-- One operations command handled at the snapshot. Reset steps go on to the input pass. -/
def State.enterOp (s : State) (o : OpCmd) : State :=
  let q := o.cmdseq
  match o.kind with
  | .routeSet r =>
    match s.notEntered r none with
    | some st => s.countNotEntered.doneOp o.ref st q
    | none => s.enter r 0 q (some o.ref)
  | .routeCancel r => s.enterCancel o.ref r q
  | .autoSet r on =>
    match s.route? r with
    | none => s.doneOp o.ref 0x8080 q
    | some t =>
      if t.area then s.doneOp o.ref 0x8080 q
      else if !t.auto then s.doneOp o.ref 0x8070 q
      else (s.updRoute r fun c => { c with flags := { c.flags with autoon := on } }).doneOp o.ref 0x0000 q
  | .trigArm r =>
    match s.route? r with
    | none => s.doneOp o.ref 0x8080 q
    | some t =>
      if t.area then s.doneOp o.ref 0x8080 q
      else if !t.trig || t.trigsec == 0xFFFF then s.doneOp o.ref 0x8070 q
      else if (s.cellRec r).rstate != 0 then s.doneOp o.ref 0x8090 q
      else (s.updRoute r fun c => { c with flags := { c.flags with trigarm := true } }).doneOp o.ref 0x0000 q
  | .keyRelease n => s.enterKey o.ref n q
  | .emergRelease r =>
    match s.route? r with
    | none => s.doneOp o.ref 0x8080 q
    | some _ =>
      let st := (s.cellRec r).rstate
      if st == 5 || st == 7 || st == 8 then
        (s.updRoute r fun c => { c with
          flags := { c.flags with erl := true }
          alelap := if alRuns c then c.alelap else 0 }).doneOp o.ref 0x0000 q
      else s.doneOp o.ref 0x8070 q
  | .axleArm n => if (s.elem? n).isNone then s.doneOp o.ref 0x8080 q else s
  | .axleReset n => if (s.elem? n).isNone then s.doneOp o.ref 0x8080 q else s

/-- The reset steps among the commands, each with its command sequence number. -/
def axleStepsOf (ops : List OpCmd) (n : Nat) : List AxleStep :=
  ops.filterMap fun o =>
    match o.kind with
    | .axleArm m => if m == n then some (.arm o.ref o.cmdseq) else none
    | .axleReset m => if m == n then some (.reset o.ref o.cmdseq) else none
    | _ => none

/-- A request or release request of an element block. A release request acts in the pass that follows (`areaReleased`). -/
def State.enterElemReq (s : State) (x : Nat × Nat × Bool) : State :=
  let (r, n, set) := x
  if set then
    match s.notEntered r (some n) with
    | some st =>
      let c := s.cellRec r
      (s.countNotEntered.ownerDone n { c with reqseq := 0, cmdseq := 0 } st).updElem n ownerFailed
    | none => s.enter r 1 0 none
  else s

def State.enterAuto (s : State) (x : Nat × Nat) : State :=
  match s.notEntered x.1 none with
  | some _ => s.countNotEntered
  | none => s.enter x.1 x.2 0 none

/-- Insertion by a number, behind its equals. -/
def insBy {α : Type} (key : α → Nat) (x : α) : List α → List α
  | [] => [x]
  | y :: ys => if key x < key y then x :: y :: ys else y :: insBy key x ys

/-- A list in ascending order of a number. -/
def sortBy {α : Type} (key : α → Nat) (xs : List α) : List α := xs.foldl (fun acc x => insBy key x acc) []

/-- Requests entered at the snapshot, in the order of R87: commands, those of elements in ascending element number, automatic
and triggered ones in ascending route number. -/
def State.enterRequests (s : State) (ops : List OpCmd) : State :=
  let elems := sortBy (·.2.1) s.trl.elemreqs
  let autos := sortBy (·.1) s.trl.autoreqs
  let s := { s with trl := { s.trl with elemreqs := [], autoreqs := [] } }
  ((s.each ops State.enterOp).each elems State.enterElemReq).each autos State.enterAuto

/-- Commands whose entry start is not in RUN are not handled: REFUSED_LIFECYCLE (12 R359). -/
def State.refuseOps (s : State) (ops : List OpCmd) : State := s.each ops fun s o => s.doneOp o.ref 0x8010 0

/-! ### Timer events of routes -/

/-- One route moved outside the pass by a timer of its own that has reached its preset, with its counts. -/
def State.routeEvent (s : State) (r : Nat) (states : List Nat) (due : RouteEntry → RouteCell → Bool) : State :=
  match s.entry? r with
  | none => s
  | some t =>
    let c := s.cellRec r
    if states.contains c.rstate && due t c then
      let new := s.moveRoute r t c none false none
      (((s.updRoute r fun _ => new).recount t c new).afterMove r t c new (lifeCheck c none none).1).writeElems s
    else s

/-- STELAP reaches SETPRE in SETTING: RELEASED with LASTFAIL 11. -/
def execSettingTimeLimit (route : Nat) (s : State) : Res :=
  .next (s.routeEvent route [3] fun t c => expR c.stelap t.setpre)

/-- STELAP reaches REQPRE in REQUESTED: RELEASED with LASTFAIL 12. -/
def execRequestLifetime (route : Nat) (s : State) : Res :=
  .next (s.routeEvent route [1] fun t c => t.reqpre != 0 && expR c.stelap t.reqpre)

/-- ALELAP expires in APPROACH-LOCKED, or under ERL in LOCKED or RELEASING. -/
def execApproachReleaseTimer (route : Nat) (s : State) : Res :=
  .next (s.routeEvent route [5, 7, 8] fun t c =>
    alExpired t c && (c.rstate == 7 || c.flags.erl) && s.entryDanger t)

/-- OLELAP expires after the last group's release: the overlap is released. -/
def execOverlapReleaseTimer (route : Nat) (s : State) : Res :=
  .next (s.routeEvent route [8] fun t c =>
    t.groups.length ≤ c.reldone && c.ovlused != 0xFFFF &&
      expP c.olelap ((s.image.overlaps[c.ovlused]?).elim 0 (·.olrel)))

/-- 600 s in RELEASING without a group released. -/
def execReleasingTimeout (route : Nat) (s : State) : Res := .next (s.quietCheck route)

end Sys2Proof.Machine
end

