-- ==== Sys2Proof/Machine/Tables.lean ====
section
/-! DEFINITION. The three lane encodings of the Trellis (03 R108, R109), the canonical tables as bytes, and the
background check of their slices (R111). -/

namespace Sys2Proof.Machine

/-! ### Lane A, B and C (R108)

A canonical vector has bit k at 1 where fact k is permissive. Lane A stores it as it is, lane B inverted, lane C
dual-rail: 01 for 1, 10 for 0, the left digit the higher bit. -/

/-- Lane A's element check: all ones means pass. -/
def okA {n : Nat} (m0 m1 av q1 q2 : BitVec n) : BitVec n :=
  (m0 &&& m1) ||| (av &&& ((~~~m0 &&& q1) ||| (~~~m1 &&& q2)))

/-- Lane B's element check on its inverted planes: all zeros means pass. -/
def nokB {n : Nat} (m0 m1 av q1 q2 : BitVec n) : BitVec n :=
  (m0 ||| m1) &&& (av ||| ((~~~m0 ||| q1) &&& (~~~m1 ||| q2)))

/-- A dual-rail plane of lane C: the lower digits (1 where permissive) and the higher digits. -/
structure DualRail (n : Nat) where
  lo : BitVec n
  hi : BitVec n
  deriving DecidableEq, Repr

/-- A canonical vector in dual rail. -/
def toDual {n : Nat} (v : BitVec n) : DualRail n := ⟨v, ~~~v⟩

/-- Dual-rail gates. -/
def dAnd {n : Nat} (a b : DualRail n) : DualRail n := ⟨a.lo &&& b.lo, a.hi ||| b.hi⟩
def dOr {n : Nat} (a b : DualRail n) : DualRail n := ⟨a.lo ||| b.lo, a.hi &&& b.hi⟩
def dNot {n : Nat} (a : DualRail n) : DualRail n := ⟨a.hi, a.lo⟩

/-- Every code is 01 or 10 (R110: 00 and 11 are illegal). -/
def dLegal {n : Nat} (a : DualRail n) : Bool := (a.lo ^^^ a.hi) == ~~~0#n

/-- Lane C's element check: the function of lane A in dual-rail gates. -/
def okC {n : Nat} (m0 m1 av q1 q2 : DualRail n) : DualRail n :=
  dOr (dAnd m0 m1) (dAnd av (dOr (dAnd (dNot m0) q1) (dAnd (dNot m1) q2)))

/-- The conflict check of each lane: conflict row and holding vector. -/
def confA {n : Nat} (row h : BitVec n) : BitVec n := row ||| h
def confB {n : Nat} (row h : BitVec n) : BitVec n := row &&& h
def confC {n : Nat} (row h : DualRail n) : DualRail n := dOr row h

/-- Canonical form of a lane's result (R109). -/
def canonB {n : Nat} (v : BitVec n) : BitVec n := ~~~v
def canonC {n : Nat} (v : DualRail n) : BitVec n := v.lo

/-- Stored word of lane C: the code of bit k at bits [2k+1:2k]. -/
def dualWord : Nat → Nat → Nat
  | 0, _ => 0
  | n + 1, v => (if v % 2 == 1 then 1 else 2) + 4 * dualWord n (v / 2)

/-! ### Canonical tables (R81 to R83, R111) -/

/-- Bits of a list, 8 to a byte, the first in bit 0. -/
def packBits : Nat → List Bool → Bytes
  | 0, _ => []
  | k + 1, bs => BitVec.ofNat 8 ((bs.take 8).foldr (fun b v => 2 * v + b2n b) 0) :: packBits k (bs.drop 8)

/-- A row of n bits. (log 52, DESIGN CHOICE) -/
def bitRow (n : Nat) (p : Nat → Bool) : Bytes := packBits ((n + 7) / 8) ((List.range n).map p)

/-- An element reference word (R83). -/
def refWord (q : ElemRef) : Nat := q.elem % 4096 + q.code % 4 * 4096

/-- References padded with the unused word. -/
def refWords (n : Nat) (qs : List ElemRef) : Bytes := ((qs.map refWord ++ List.replicate n 0xFFFF).take n).flatMap (le 2)

/-- A route table entry; `base` is the index of its first release group record. -/
def entryBytes (t : RouteEntry) (base : Nat) : Bytes :=
  let cls := t.cls % 4 + 4 * b2n t.auto + 8 * b2n t.trig + 16 * (t.almode % 2) + 32 * b2n t.area + 64 * b2n t.ind
  padTo 64 (le 1 cls ++ le 1 t.prio ++ le 2 t.entrysig ++ le 2 t.nextsig ++ le 2 t.ovl ++ le 2 t.altovl ++
    le 2 t.setpre ++ le 2 t.alpre ++ le 2 t.reqpre ++
    ((t.appr ++ [0xFFFF, 0xFFFF, 0xFFFF]).take 3).flatMap (le 2) ++ le 1 t.groups.length ++ zeros 1 ++ le 2 base ++
    le 2 0 ++ le 2 t.trigsec ++ le 2 t.owner)

/-- The route table, each entry with its group base. -/
def routeTable : Nat → List RouteEntry → Bytes
  | _, [] => []
  | base, t :: ts => entryBytes t base ++ routeTable (base + t.groups.length) ts

/-- The code of an element in a vector. -/
def codeOf (qs : List ElemRef) (n : Nat) : Nat := (qs.find? (·.elem == n)).elim 0 (·.code)

/-- The two planes of a vector in lane A's form: M0 = NOT c[0], M1 = NOT c[1]. -/
def planes (n : Nat) (qs : List ElemRef) : Bytes :=
  bitRow n (fun i => codeOf qs i % 2 == 0) ++ bitRow n (fun i => codeOf qs i / 2 % 2 == 0)

/-- One more than the highest element number. -/
def elemSpan (img : Image) : Nat := (img.ents.map fun e => e.num + 1).foldl max 0

/-- Release group records, each with the index of its first element, and the element list. -/
def groupRecs : Nat → List RelGroup → Bytes
  | _, [] => []
  | i, g :: gs => le 2 g.gsec ++ le 2 g.elems.length ++ le 4 i ++ groupRecs (i + g.elems.length) gs

/-- The canonical tables of an image, in the order of R111. (log 52, DESIGN CHOICE) -/
def tableBytes (img : Image) : Bytes :=
  let n := elemSpan img
  let gs := img.routes.flatMap (·.groups)
  routeTable 0 img.routes ++
  img.routes.flatMap (fun t => bitRow img.routes.length fun j => !t.conflicts.contains j) ++
  img.routes.flatMap (fun t => planes n t.req) ++
  img.routes.flatMap (fun t => planes n t.flank) ++
  img.overlaps.flatMap (fun o => le 1 o.elems.length ++ zeros 1 ++ le 2 o.olrel ++ refWords 8 o.elems ++ zeros 12) ++
  img.substs.flatMap (fun x => le 2 x.flankpt ++ le 1 x.elems.length ++ zeros 1 ++ refWords 4 x.elems ++ zeros 4) ++
  groupRecs 0 gs ++ gs.flatMap fun g => g.elems.flatMap (le 2)

/-- Slice k of 1,024 equal parts, each rounded up to a multiple of 64 bytes. -/
def sliceBytes (b : Bytes) (k : Nat) : Bytes :=
  let n := ((b.length + 1023) / 1024 + 63) / 64 * 64
  (b.drop (k * n)).take n

/-- Slices checked in a cycle: ceil(1,024 × Tc / 500 ms). -/
def slicesPerCycle (tc : Nat) : Nat := (1024 * tc + 499) / 500

/-- The check value of the slices of a canonical table string from k on. -/
def checkOf (b : Bytes) (k n : Nat) : Nat :=
  crc64 ((List.range n).flatMap fun i => sliceBytes b ((k + i) % 1024))

def sliceCheck (img : Image) (k n : Nat) : Nat := checkOf (tableBytes img) k n

/-! ### The tables as each lane stores them (R108) -/

/-- The Trellis tables in a lane's own encoding: lane A as in the field maps, lane B in ones' complement, lane C each bit
dual-rail. -/
def laneTables (l : Lane) (img : Image) : Bytes :=
  match l with
  | .a => tableBytes img
  | .b => (tableBytes img).map (~~~ ·)
  | .c => (tableBytes img).flatMap fun x => le 2 (dualWord 8 x.toNat)

/-- The bits that the lower digits of a dual-rail word spell. -/
def dualBits : Nat → Nat → Nat
  | 0, _ => 0
  | n + 1, w => w % 2 + 2 * dualBits n (w / 4)

/-- Lane C's bytes in canonical form, two to one. -/
def canonDual : Bytes → Bytes
  | x :: y :: rest => BitVec.ofNat 8 (dualBits 8 (x.toNat + 256 * y.toNat)) :: canonDual rest
  | _ => []

/-- Is every code of a dual-rail word 01 or 10 (R108)? -/
def dualOk : Nat → Nat → Bool
  | 0, _ => true
  | n + 1, w => (w % 4 == 1 || w % 4 == 2) && dualOk n (w / 4)

/-- Does a lane's form hold legal codes alone? -/
def formLegal (l : Lane) (b : Bytes) : Bool := l != .c || b.all fun x => dualOk 4 x.toNat

/-- A lane's tables in canonical form (R109, R111). -/
def canonTables (l : Lane) (b : Bytes) : Bytes :=
  match l with
  | .a => b
  | .b => b.map (~~~ ·)
  | .c => canonDual b

/-- Are the tables that the lane holds other than the image's? -/
def State.tablesOff (s : State) (l : Lane) : Bool := (s.lane l).tables != s.image.tables.get l

/-- The tables of every lane are those of the image in use. -/
def State.storeTables (s : State) : State :=
  s.each Lane.all fun s l => s.updLane l fun x => { x with tables := s.image.tables.get l }

/-- Each lane's tables, converted to canonical form, are the image's and match the check value of its header (R84). The
check value is the CRC-64 of R152. (log 123, DEDUCED) -/
def tablesOk (img : Image) : Bool :=
  Lane.all.all fun l =>
    let b := canonTables l (img.tables.get l)
    formLegal l (img.tables.get l) && b == tableBytes img && crc64 b == img.tblcheck

/-! ### The vectors of a pass in each lane's form (R108) -/

/-- A canonical vector as a lane holds it: as it is, inverted, or dual-rail. -/
def laneVec (l : Lane) {n : Nat} (v : BitVec n) : Bytes :=
  match l with
  | .a => le ((n + 7) / 8) v.toNat
  | .b => le ((n + 7) / 8) (~~~v).toNat
  | .c => le ((2 * n + 7) / 8) (dualWord n v.toNat)

/-- A lane's element check over its own planes, its result in canonical form: 1 where the element passes. -/
def laneCheck (l : Lane) {n : Nat} (m0 m1 av q1 q2 : BitVec n) : BitVec n :=
  match l with
  | .a => okA m0 m1 av q1 q2
  | .b => canonB (nokB (~~~m0) (~~~m1) (~~~av) (~~~q1) (~~~q2))
  | .c => canonC (okC (toDual m0) (toDual m1) (toDual av) (toDual q1) (toDual q2))

/-- The elements of the snapshot for which a fact holds, as a vector. -/
def State.plane (s : State) (n : Nat) (p : Elem → Bool) : BitVec n :=
  maskOf n ((s.app.elems.filter p).map (·.num))

/-- The holding vector H: 1 where route j does not hold. -/
def State.holdingVec (s : State) (n : Nat) : BitVec n :=
  maskOf n ((List.range n).filter fun r => !holds (s.cellRec r))

/-- What a lane builds in a pass: AV, Q1, Q2 and H, and the check result of every route, in its own form. -/
def State.laneVecs (s : State) (l : Lane) : Bytes :=
  let n := elemSpan s.image
  let (av, q1, q2) := (s.plane n avail, s.plane n stS1, s.plane n stS2)
  let ok (t : RouteEntry) : BitVec n :=
    laneCheck l (maskOf n ((List.range n).filter fun i => codeOf t.req i % 2 == 0))
      (maskOf n ((List.range n).filter fun i => codeOf t.req i / 2 % 2 == 0)) av q1 q2
  laneVec l av ++ laneVec l q1 ++ laneVec l q2 ++ laneVec l (s.holdingVec s.image.routes.length) ++
  s.image.routes.flatMap fun t => laneVec l (ok t)

/-- Every lane that computes builds the vectors of the pass to come. -/
def State.buildVecs (s : State) : State :=
  s.each s.computing fun s l => s.updLane l fun x => { x with vecs := s.laneVecs l }

/-- Each lane converts its next slices and writes TBLCHK (R111). -/
def State.tableCheck (s : State) : State :=
  let t := s.app.trellis
  let n := slicesPerCycle s.set.tc
  { s with app := { s.app with trellis := { t with
      tblchk := sliceCheck s.image t.tblslice n
      tblslice := (t.tblslice + n) % 1024 } } }

end Sys2Proof.Machine
end

