-- ==== Sys2Proof/Machine/Images.lean ====
section
/-! DEFINITION. The checks of an image and of a set of live settings (02 R39, R43, 03 R84, 04 R115, 06 R186, R192,
R193, 07 R209, 08 R235, R236, R239, R240, R259, 09 R261, 10 R294, R297). -/

namespace Sys2Proof.Machine

/-- Are no two members of a list equal? -/
def distinct {α : Type} [DecidableEq α] : List α → Bool
  | [] => true
  | x :: xs => !xs.contains x && distinct xs

/-! ### Settings -/

/-- What the settings are checked against: role, split mode, WCET and MIRT, the element table. -/
structure CheckEnv where
  role  : Nat
  split : Bool
  wcet  : Nat
  mirt  : Nat
  own   : Nat
  ents  : List ElemEntry
  deriving DecidableEq, Repr

def CheckEnv.of (img : Image) (own : Nat) : CheckEnv := ⟨img.role, img.split, img.wcet, img.mirt, own, img.ents⟩

/-- µs rounded up to whole ms. -/
def msUp (us : Nat) : Nat := (us + 999) / 1000

/-- Connections of a direction, in ascending number. -/
def connsOf (dir : Nat) (st : Settings) : List Nat :=
  (List.range 256).filter fun n => st.conns.any fun k => k.num == n && k.cdir == dir

/-- R115; the failing connection, 0xFFFF for another failure. -/
def chkTc (e : CheckEnv) (st : Settings) : Option Nat :=
  if st.tc < 5 || 250 < st.tc || st.tc < msUp e.wcet then some 0xFFFF
  else if e.role == 1 && st.pair.prole != 0 && st.tc < msUp (e.wcet + e.mirt) then some 0xFFFF
  else (st.conns.find? fun k => k.cdir == 2 && k.tout < 3 * st.tc).map (·.num)

/-- TREC for a pulse length (R192). -/
def recTime (tpulse : Nat) : Nat := if tpulse ≤ 550 then 200 else if tpulse ≤ 750 then 300 else 500

/-- R186: the pulse and its window fit the slot. -/
def chkFrame (st : Settings) : Bool :=
  48 ≤ st.tframe && st.tframe ≤ 480 && st.tframe % 48 == 0 && 200 ≤ st.tpulse && st.tpulse ≤ 1000 &&
  st.tpulse % 50 == 0 && 100 + st.tpulse + recTime st.tpulse ≤ st.tframe * 1000 / 48

def cfgAt (st : Settings) (c : Nat) : CellCfg := st.cells.getD c CellCfg.init

/-- Is cell c the second of a pair? -/
def secondOf (st : Settings) (c : Nat) : Bool := c % 2 == 1 && cPair (cfgAt st (c - 1))

/-- The rules of one cell: R180, R192, R193, R209. -/
def cellOk (role : Nat) (st : Settings) (c : Nat) : Bool :=
  let k := cfgAt st c
  let other := cfgAt st (c + 1)
  1 ≤ k.tfilt && k.tfilt ≤ 20 &&
  match k.cmode with
  | 0 => k.flags.toNat / 2 % 4 == 0 && k.flags.toNat < 8 && 1 ≤ k.td && k.td ≤ 500 && k.ogroup == 0
  | 1 =>
    k.flags.toNat < 8 && 1 ≤ k.td && k.td ≤ 500 && k.ogroup == 0 &&
    (if cPair k then c % 2 == 0 && cIn other && !cPair other && !cAnti other && other.tfilt == k.tfilt else true) &&
    (cPtest k || cPair k || secondOf st c)
  | 2 => k.flags.toNat < 4 && 2 ≤ k.td && k.td ≤ 50 && k.ogroup ≤ 24 && role != 1 && role != 4
  | _ => false

/-- Does an element read the cells of pairs through the pair only (R193)? -/
def readsPairs (st : Settings) (t : ElemEntry) : Bool :=
  !t.srclocal ||
  (if t.paired then t.srcpos % 2 == 0 && (inBits t.body).all fun n => cPair (cfgAt st (t.srcpos + 2 * n))
   else (inBits t.body).all fun n => !cPair (cfgAt st (t.srcpos + n)) && !secondOf st (t.srcpos + n))

/-- Check code 0x03: the failing cell or element. -/
def chkCells (e : CheckEnv) (st : Settings) : Option Nat :=
  match (List.range Config.nCells).find? fun c => !cellOk e.role st c with
  | some c => some c
  | none => (e.ents.find? fun t => !readsPairs st t).map (·.num)

/-- Polynomial of a parameter set; sets 0 and 1 are fixed. -/
def polyOf (st : Settings) (n : Nat) : Nat :=
  if n == 0 then 0x1EDC6F41 else if n == 1 then 0xF4ACFB13 else (st.cvsets.getD (n - 2) CvSet.init).poly

/-- The rules of one connection record: R235, R236, R239, R240; a record not in use keeps those that name no peer. -/
def connOk (e : CheckEnv) (st : Settings) (k : ConnCfg) : Bool :=
  let a := k.scset % 16
  let b := k.scset / 16
  a ≤ 7 && b ≤ 7 && polyOf st a != polyOf st b && polyOf st a % 2 == 1 && polyOf st b % 2 == 1 &&
  (!k.cflags.getLsbD 3 || e.split || e.role == 5) && k.cflags.toNat < 16 &&
  4 ≤ k.len && k.len ≤ 1024 && k.len % 4 == 0 &&
  (k.cdir == 0 || (if k.cdir == 1 then k.peer2 == 0xFFFF && k.pconn == 0 else 1 ≤ k.pconn && k.pconn ≤ 255))

/-- A custom set that differs from its Reset values has a polynomial with bit 0 at 1 (R235). -/
def cvSetOk (p : CvSet) : Bool := p == CvSet.init || p.poly % 2 == 1

def chkConns (e : CheckEnv) (st : Settings) : Option Nat := (st.conns.find? fun k => !connOk e st k).map (·.num)

/-- VIDO differs from VIDV on each network (R259). (log 56, DEDUCED) -/
def chkNets (st : Settings) : Bool := st.nets.fst.vido != st.nets.fst.vidv && st.nets.snd.vido != st.nets.snd.vidv

/-- R261. -/
def chkPair (e : CheckEnv) (st : Settings) : Bool :=
  st.pair.prole == 0 || (e.role == 1 && st.pair.paddr != e.own && st.pair.paddr ≤ 1023)

/-- R297: every entry in bounds, no detector twice. -/
def chkEsc (st : Settings) : Option Nat :=
  match st.esc.find? fun x => !escOk x with
  | some x => some x.index
  | none =>
    if distinct (st.esc.map fun x => (x.level, x.block, x.det)) then none else some 0xFFFF

/-! ### The element table (R43, R67) -/

def entOf (img : Image) (n : Nat) : Option ElemEntry := img.ents.find? (·.num == n)

def isSlip (b : Body) : Bool :=
  match b with
  | .sslip _ => true
  | .dslip _ => true
  | _ => false

/-- The output slots an element claims: connection and slot. -/
def outSlots (t : ElemEntry) : List (Nat × Nat) :=
  (if !t.dstlocal && t.dstconn != 0 then [(t.dstconn, t.dstpos)] else []) ++
  (match t.body with
   | .ptdrive b => [(b.rptconn, b.rptslot)]
   | _ => [])

/-- Slots an element reads. -/
def inSlots (t : ElemEntry) : List (Nat × Nat) :=
  (if !t.srclocal && t.srcconn != 0 then [(t.srcconn, t.srcpos)] else []) ++
  (match t.body with
   | .ptdrive b => [(b.cmdconn, b.cmdslot)]
   | _ => [])

/-- Does a slot lie in the payload of its connection? -/
def slotIn (st : Settings) (dir : Nat) (x : Nat × Nat) : Bool :=
  st.conns.any fun k => k.num == x.1 && k.cdir == dir && 4 * x.2 + 4 ≤ k.len

/-- Members of a slip group lie below it and are points. -/
def slipOk (img : Image) (t : ElemEntry) : Bool :=
  let mem (m : Nat) : Bool := m < t.num && (entOf img m).any fun e => match e.body with | .point _ => true | _ => false
  match t.body with
  | .sslip b => mem b.membera && mem b.memberb
  | .dslip b => mem b.membera && mem b.memberb
  | _ => true

def gvarOk (t : ElemEntry) : Bool :=
  match t.body with
  | .gvar b =>
    let src := t.srclocal || t.srcconn != 0
    let dst := t.dstlocal || t.dstconn != 0
    (match b.gdir with
     | 0 => !src && !dst
     | 1 => src && !dst
     | 2 => !src && dst
     | _ => false) &&
    1 ≤ b.width && (if b.gdir == 0 then b.width ≤ 32 else b.width ≤ 16) && (!t.dstlocal || b.default == 0)
  | _ => true

/-- One entry of the element table, its slots in the payloads of the connections of some settings. -/
def entOk (img : Image) (st : Settings) (t : ElemEntry) : Bool :=
  t.typ == bodyType t.body && t.num < Config.maxElems && t.instid != 0 && t.instid != 0xFFFFFFFF &&
  t.idoff % 64 == 0 && t.idoff + 64 ≤ img.dataSize &&
  (t.group == 0xFFFF || (entOf img t.group).any fun e => isSlip e.body) &&
  slipOk img t && gvarOk t &&
  (srcCells t t.body).all (· < Config.nCells) && (dstCells t t.body).all (· < Config.nCells) &&
  (inSlots t).all (slotIn st 2) && (outSlots t).all (slotIn st 1) &&
  ((img.role != 1 && img.role != 4) ||
    (!t.srclocal && !t.dstlocal && match t.body with | .ptdrive _ => false | _ => true))

def entsOk (img : Image) (st : Settings) : Bool :=
  img.ents.all (entOk img st) && distinct (img.ents.map (·.num)) && distinct (img.ents.map (·.instid)) &&
  distinct (img.ents.map (·.idoff)) && distinct (img.ents.flatMap fun t => dstCells t t.body) &&
  distinct (img.ents.flatMap outSlots)

/-! ### The Trellis tables (R84) -/

/-- Codes allowed in a requirement vector. -/
def reqCodeOk (b : Body) (code : Nat) : Bool :=
  match b with
  | .point _ => code ≤ 3
  | .tcsec _ => code ≤ 2
  | .acsec _ => code ≤ 2
  | .ptdrive _ => code == 0
  | _ => code ≤ 1

/-- Codes allowed in flank vectors. -/
def flankCodeOk (b : Body) (code : Nat) : Bool :=
  match b with
  | .point _ => code ≤ 2
  | .signal _ => code == 0 || code == 3
  | _ => code == 0

/-- Codes allowed in a substitute entry (R83): points with 01 or 10, signals with 11. -/
def subCodeOk (b : Body) (code : Nat) : Bool :=
  match b with
  | .point _ => code == 1 || code == 2
  | .signal _ => code == 3
  | _ => false

/-- Codes allowed in an overlap. -/
def ovlCodeOk (b : Body) (code : Nat) : Bool :=
  match b with
  | .point _ => code == 1 || code == 2
  | .tcsec _ => code == 1
  | .acsec _ => code == 1
  | _ => false

def refOk (img : Image) (p : Body → Nat → Bool) (q : ElemRef) : Bool := (entOf img q.elem).any fun t => p t.body q.code

/-- What a route requires of points, by path, flank and overlap. -/
def pointNeeds (img : Image) (t : RouteEntry) : List ElemRef :=
  let ovl (i : Nat) : List ElemRef := (img.overlaps[i]?).elim [] (·.elems)
  (t.req ++ t.flank ++ ovl t.ovl ++ ovl t.altovl).filter fun q =>
    (q.code == 1 || q.code == 2) && (entOf img q.elem).any fun e => match e.body with | .point _ => true | _ => false

/-- Do two routes require a point in opposite positions? -/
def opposed (img : Image) (a b : RouteEntry) : Bool :=
  (pointNeeds img a).any fun p => (pointNeeds img b).any fun q => p.elem == q.elem && p.code != q.code

def groupsOk (t : RouteEntry) : Bool :=
  (t.req.all fun q => q.code == 0 || (t.groups.filter fun g => g.elems.contains q.elem).length == 1) &&
  t.groups.all fun g => t.req.any fun q => q.elem == g.gsec && (q.code == 1 || q.code == 2)

/-- The OWNER of an area route names it as its AREAROUTE. -/
def ownerOk (img : Image) (r : Nat) (t : RouteEntry) : Bool :=
  (entOf img t.owner).any fun e =>
    match e.body with
    | .keylock b => b.arearoute == r
    | .shuntarea b => b.arearoute == r
    | _ => false

/-- One route of the tables. -/
def routeOk (img : Image) (r : Nat) (t : RouteEntry) : Bool :=
  t.conflicts.contains r && t.conflicts.all (fun j => ((img.routes[j]?).any fun u => u.conflicts.contains r)) &&
  t.req.all (refOk img reqCodeOk) && t.flank.all (refOk img flankCodeOk) &&
  (t.cls != 0 || t.area || t.ovl != 0xFFFF) && (t.cls != 2 || t.ind) &&
  (t.cls != 0 || t.req.all fun q => !(q.code == 2 && (entOf img q.elem).any fun e =>
    match e.body with | .tcsec _ => true | .acsec _ => true | _ => false)) &&
  (if t.area then t.entrysig == 0xFFFF && t.ovl == 0xFFFF && ownerOk img r t
   else 2 ≤ t.groups.length && t.groups.length ≤ 16 && (t.almode == 1 || !t.appr.isEmpty) && groupsOk t) &&
  !(t.req.any fun q => q.elem == t.entrysig && q.code != 0) &&
  (!t.auto || img.hasAuto) && (!t.trig || img.hasTrig) &&
  t.cls ≤ 3 && t.prio ≤ 7

/-- The presets and counts of a route are in their ranges (R37, R81, R83). -/
def routeRanges (t : RouteEntry) : Bool :=
  100 ≤ t.setpre && t.setpre ≤ 6000 && t.alpre ≤ 60000 && t.reqpre ≤ 60000 && t.appr.length ≤ 3 &&
  t.groups.all fun g => 1 ≤ g.elems.length && g.elems.length ≤ 64

def routesOk (img : Image) : Bool :=
  tablesOk img && img.routes.length ≤ Config.maxRoutes && img.routes.all routeRanges &&
  img.overlaps.length ≤ Config.maxOverlaps &&
  (img.routes.zipIdx.all fun (t, r) => routeOk img r t) &&
  (img.routes.zipIdx.all fun (a, i) => img.routes.zipIdx.all fun (b, j) =>
    i == j || a.conflicts.contains j || !opposed img a b) &&
  (img.overlaps.all fun o => o.elems.all (refOk img ovlCodeOk) && 1 ≤ o.elems.length && o.elems.length ≤ 8 && o.olrel ≤ 60000) &&
  (img.substs.all fun x => x.elems.all (refOk img subCodeOk) && 1 ≤ x.elems.length && x.elems.length ≤ 4) &&
  distinct (img.routes.map (·.rid))

/-! ### The whole image -/

/-- R38, R39, and of a core's partition in split mode 05 R176: program and data of at most 8 MiB. (log 136, DEDUCED) -/
def sizesOk (img : Image) : Bool :=
  (img.parts.all fun p => p.length ≤ 8 * 2 ^ 20) &&
  Lane.all.all fun l =>
    (img.sec l 0).size == 4096 && (img.sec l 2).size == 64 * 1024 &&
    img.codeSize l ≤ 12 * 2 ^ 20 && (img.sec l 4).size + img.scratch l ≤ 4 * 2 ^ 20 && img.scratch l ≤ 512 * 1024

/-- A connection as the image gives it: the fields with Reset "Image", the others at their defaults. -/
def imageConn (k : ConnCfg) : ConnCfg :=
  { k with scset := 0x10, tout := 50, skew := 20, alivewin := 10, dlymax := 20 }

def imageNet (n : NetCfg) : NetCfg :=
  { NetCfg.init with ringmode := n.ringmode, vido := n.vido, ipaddr := n.ipaddr, netmask := n.netmask }

def imagePair (p : PairCfg) : PairCfg :=
  { PairCfg.init with prole := p.prole, pflags := p.pflags, paddr := p.paddr, pkey := p.pkey }

/-- The settings that an image brings: the fields with Reset "Image", Tc from its header (04 R115); every other parameter
has its stated default until a staged change replaces it (00 R11). -/
def imageSettings (img : Image) : Settings :=
  let st := img.settings
  { Settings.init with
    tc := img.tc
    cells := st.cells
    tframe := st.tframe
    tpulse := st.tpulse
    esc := st.esc
    conns := st.conns.map imageConn
    nets := ⟨imageNet st.nets.fst, imageNet st.nets.snd⟩
    pair := imagePair st.pair }

/-- The settings that an image brings pass their checks. -/
def imgSettingsOk (img : Image) (own : Nat) : Bool :=
  let e := CheckEnv.of img own
  let st := imageSettings img
  (chkTc e st).isNone && chkFrame st && (chkCells e st).isNone && (chkConns e st).isNone && chkNets st && chkPair e st &&
  (chkEsc st).isNone

/-- Is an image accepted that runs on some settings (CHECK_FAIL otherwise)? -/
def imageOkOn (img : Image) (st : Settings) (own : Nat) : Bool :=
  1 ≤ img.role && img.role ≤ 5 && sizesOk img && entsOk img st && routesOk img && imgSettingsOk img own

/-- Is an image accepted when it is loaded, on the settings that it brings? -/
def imageOk (img : Image) (own : Nat) : Bool := imageOkOn img img.settings own

/-! ### The signature of an image (16 R434) -/

/-- The bytes 57 56 49 4D. -/
def envMagic : Nat := ofLe [0x57, 0x56, 0x49, 0x4D]

def State.cred? (s : State) (id : Nat) : Option Cred := s.id.creds.find? (·.id == id)

/-- An ECDSA P-384 signature of the last 96 bytes over the SHA-384 digest of the bytes before. -/
def signedBy (c : Cred) (b : Bytes) : Bool :=
  Config.ecdsaOk c.key (Config.sha384 (b.take (b.length - 96))) (b.drop (b.length - 96))

/-- The signer's role suffices: a Factory credential for firmware and kernel, at least Engineer for an image. -/
def signerOk (kind : Nat) (c : Cred) : Bool := if kind == 2 then 3 ≤ c.role else c.role == 5

/-- The image bytes of a slot, its blocks in order. -/
def slotBytes (n : Nat) (bs : List (Nat × Bytes)) : Bytes :=
  (List.range n).flatMap fun i => (bs.find? (·.1 == i)).elim [] (·.2)

/-- The envelope's signer is held, suffices, and signed the bytes of the slot (R434). -/
def State.slotSigned (s : State) (kind : Nat) (x : Slot) : Bool :=
  (s.cred? x.env.signer).any fun k => signerOk kind k && signedBy k ((slotBytes x.env.nblock x.blocks).take x.env.size)

end Sys2Proof.Machine
end

