-- ==== Sys2Proof/Machine/Start.lean ====
section
/-! DEFINITION. Application state at a start: Reset values of every record (02 R45, R76, 03 R113), presets that
staged sets have written, marks of forces (11 R332), cold start and warm start (17 R461). -/

namespace Sys2Proof.Machine

/-! ### Reset values (R45 and the body tables) -/

/-- A body with its Reset values, the presets' among them; fields with Reset "Image" keep the image's. (log 120, DEDUCED) -/
def bodyReset : Body → Body
  | .point b => .point { b with posdet := 0, poscmd := 0, movest := 0, movepre := 800, posreq := 0, moveelap := 0 }
  | .sslip b => .sslip { b with routdet := 0 }
  | .dslip b => .dslip { b with routdet := 0 }
  | .signal b => .signal { b with aspreq := 0, aspshown := 0xFF, indreq := 0, route := 0xFFFF, provpre := 30, provelap := 0 }
  | .tcsec b => .tcsec { b with occ := 2, clrpre := 200, clrelap := 0 }
  | .acsec b =>
    .acsec { b with occ := 2, rststate := 0, rstpre := 1000, rstelap := 0, rstseq := 0, clrpre := 0, clrelap := 0 }
  | .lxing b => .lxing { b with lxstate := 1, closepre := 2500, closeelap := 0, opendly := 500, openelap := 0 }
  | .blockif b => .blockif { b with blkstate := 0, dirwant := 0, dirpre := 1000, direlap := 0 }
  | .keylock b => .keylock { b with klstate := 0, relreq := 0 }
  | .shuntarea b => .shuntarea { b with sastate := 0 }
  | .gvar b => .gvar { b with value := b.default }
  | .ptdrive b => .ptdrive { b with cmdword := 0, rptword := 0 }

/-- The presets of a type: offset in the record, least and largest value (02 R50 to R61). -/
def presetsOf : Body → List (Nat × Nat × Nat)
  | .point _ => [(0x14, 100, 6000)]
  | .signal _ => [(0x16, 5, 200)]
  | .tcsec _ => [(0x12, 0, 6000)]
  | .acsec _ => [(0x12, 100, 6000), (0x1C, 0, 6000)]
  | .lxing _ => [(0x12, 100, 12000), (0x18, 0, 6000)]
  | .blockif _ => [(0x14, 100, 6000)]
  | _ => []

/-- The preset of a body at an offset. -/
def getPreset (b : Body) (off : Nat) : Nat :=
  match b with
  | .point b => b.movepre
  | .signal b => b.provpre
  | .tcsec b => b.clrpre
  | .acsec b => if off == 0x12 then b.rstpre else b.clrpre
  | .lxing b => if off == 0x12 then b.closepre else b.opendly
  | .blockif b => b.dirpre
  | _ => 0

/-- A body with the preset at an offset set. -/
def setPreset (off v : Nat) (b : Body) : Body :=
  if !(presetsOf b).any (·.1 == off) then b
  else match b with
    | .point b => .point { b with movepre := v }
    | .signal b => .signal { b with provpre := v }
    | .tcsec b => .tcsec { b with clrpre := v }
    | .acsec b => if off == 0x12 then .acsec { b with rstpre := v } else .acsec { b with clrpre := v }
    | .lxing b => if off == 0x12 then .lxing { b with closepre := v } else .lxing { b with opendly := v }
    | .blockif b => .blockif { b with dirpre := v }
    | b => b

/-- Working facts of an instance that has just come to be: no edge in its first cycle (R71, R76), and its source counts as
valid before that cycle. (log 119, DESIGN CHOICE) -/
def workInit : ElemWork :=
  { validPrev := true, noEdge := true, edges := false, tolAspect := 0, tolInd := false, lastPos := 0, seenZero := false,
    sweepFell := false, swept := false, dirBarred := false, clearPrev := 0, holdPrev := false, withdrawn := false,
    ref := none }

/-- The presets that staged sets have written for an instance. -/
def withPresets (ps : List (Nat × Nat × Nat)) (instid : Nat) (b : Body) : Body :=
  ps.foldl (fun b p => if p.1 == instid then setPreset p.2.1 p.2.2 b else b) b

/-- An element record with its Reset values. -/
def elemReset (ps : List (Nat × Nat × Nat)) (t : ElemEntry) : Elem :=
  { num := t.num, instid := t.instid, hedged := false, undertest := false, forceblk := false, lockcnt := 0,
    claimcnt := 0, curin := 0, previn := 0, outcmd := 0, fltheld := 0, fltcode := 0
    body := withPresets ps t.instid (bodyReset t.body), work := workInit }

def sendInit (n : Nat) : SendRec := { conn := n, sseq := 0, salive := 0 }

/-- A receive record in NOTEST, or in FAULT where the connection's hedge is latched. -/
def recvInit (n : Nat) (fault : Bool) : RecvRec :=
  { conn := n, cstate := if fault then 4 else 0, cusedp := 0, lastepoch := 0, lastseq := 0, arrival := 0,
    lastot := .both 0, base := .both 0, lastalive := .both 0, serial := .both 0, estseq := 0, payload := zeros 1024 }

/-- The telegram engine's state of a connection after a reset: slots empty; the latched FAULT and the key slot
in use stay. (log 55, DESIGN CHOICE) -/
def connInit (n : Nat) (fault : Bool) (keyid : Nat) : ConnSt :=
  { num := n, slots := ⟨.both none, .both none⟩, kept := ⟨.both none, .both none⟩,
    frozen := ⟨.both none, .both none⟩, held := .both none, lastnet := .both 0, silent := .both false, fault := fault,
    release := [], changed := false, cntbad := 0, cntstale := 0, cntalive := 0, cntlate := 0, cntdelay := 0,
    cntdiv := 0, cnttout := 0, cntxport := 0, inuse := false, usedLead := false, keyid := keyid }

/-- Connections in use, in ascending number. -/
def connNums (st : Settings) : List Nat :=
  (List.range 256).filter fun n => st.conns.any fun k => k.num == n && k.cdir != 0

/-- One ConnSt for each connection in use; those that exist stay. -/
def State.syncConns (s : State) : State :=
  { s with conns := (connNums s.set).map fun n => (s.conn? n).getD (connInit n false 0) }

/-- A connection reset with the telegram engine; its counters count since power-up (08 R254). -/
def connAgain (c : ConnSt) : ConnSt :=
  { connInit c.num c.fault c.keyid with
    cntbad := c.cntbad, cntstale := c.cntstale, cntalive := c.cntalive, cntlate := c.cntlate, cntdelay := c.cntdelay,
    cntdiv := c.cntdiv, cnttout := c.cnttout, cntxport := c.cntxport }

/-- Every connection reset with the telegram engine. (log 55, DESIGN CHOICE) -/
def State.resetConns (s : State) : State :=
  { s with conns := (connNums s.set).map fun n =>
      match s.conn? n with
      | some c => connAgain c
      | none => connInit n false 0 }

/-! ### Forces (11 R331, R332) -/

/-- FNUM of a force in an image: the route with its RID, or the element with its instance ID. -/
def fnumIn (img : Image) (f : ForceEntry) : Nat :=
  if f.fkind == 0 then 0xFFFF
  else if f.fkind == 1 then (img.routes.zipIdx.find? fun x => x.1.rid == f.fid).elim 0xFFFF (·.2)
  else (img.ents.find? (·.instid == f.fid)).elim 0xFFFF (·.num)

/-- FNUM of every entry of the force table formed anew. -/
def State.bindForces (s : State) : State :=
  { s with stage := { s.stage with forces := s.stage.forces.map fun f => { f with fnum := fnumIn s.image f } } }

def State.forced (s : State) (kind num : Nat) : Bool := s.stage.forces.any fun f => f.fkind == kind && f.fnum == num

def markRoute (b : Bool) (c : RouteCell) : RouteCell := { c with flags := { c.flags with blocked := b } }
def markElem (b : Bool) (e : Elem) : Elem := { e with forceblk := b }

/-- BLOCKED of every route cell and FORCEBLK of every element as the force table says. -/
def State.applyForceMarks (s : State) : State :=
  { s with app := { s.app with
      cells := s.app.cells.zipIdx.map fun x => markRoute (s.forced 1 x.2) x.1
      elems := s.app.elems.map fun e => markElem (s.forced 2 e.num) e } }

/-! ### Cold start (02 R76, 03 R113) -/

/-- The declared data at a cold start. -/
def State.coldApp (s : State) : AppSt :=
  { elems := ((List.range Config.maxElems).filterMap fun n => s.ent? n).map (elemReset s.stage.presets)
    cells := s.image.routes.map fun _ => routeInit
    trellis := TrellisRec.init
    sends := (connsOf 1 s.set).map sendInit
    recvs := (connsOf 2 s.set).map fun n => recvInit n ((s.conn? n).any (·.fault))
    fbData := s.image.fbData }

/-- Cold start of the application: Reset values, no request survives, forces set their marks again. -/
def State.coldStart (s : State) : State :=
  let s := { s with app := s.coldApp, trl := { TrellisSt.init with cmdseq := s.trl.cmdseq } }
  let s := s.syncConns.bindForces.applyForceMarks
  { s with trl := { s.trl with prev := s.app } }

/-! ### Warm start (17 R461) -/

/-- Timers of an element at a warm start: restrictive-expiry timers add the time that passed, permissive-expiry
counts become 0. -/
def warmTimers (passed : Nat) (outcmd : BitVec 16) : Body → Body
  | .point b => .point { b with moveelap := if b.movest == 1 then elapse b.moveelap passed else b.moveelap }
  | .signal b => .signal { b with provelap := if b.aspshown == b.aspreq then b.provelap else elapse b.provelap passed }
  | .tcsec b => .tcsec { b with clrelap := 0 }
  | .acsec b => .acsec { b with rstelap := if b.rststate == 0 then b.rstelap else elapse b.rstelap passed, clrelap := 0 }
  | .lxing b => .lxing { b with closeelap := if b.lxstate == 1 then elapse b.closeelap passed else b.closeelap, openelap := 0 }
  | .blockif b => .blockif { b with direlap := if b.blkstate == 0 && outcmd.getLsbD 3 then elapse b.direlap passed else b.direlap }
  | b => b

/-- A signal whose route was CLEARED or approach-locked without release: ASPREQ 0. -/
def dangerBody : Body → Body
  | .signal b => .signal { b with aspreq := 0, indreq := 0 }
  | b => b

/-- Does a warm start place a route in APPROACH-LOCKED at danger? -/
def warmReplaced (c : RouteCell) : Bool := c.rstate == 6 || (c.rstate == 7 && !c.flags.cancel && !c.flags.erl)

/-- A route cell at a warm start. -/
def warmRoute (passed : Nat) (c : RouteCell) : RouteCell :=
  let c := { c with stelap := elapse c.stelap passed, alelap := 0, olelap := 0 }
  if warmReplaced c then
    { c with rstate := 7, flags := { c.flags with condlost := true }, stelap := if c.rstate == 7 then c.stelap else 0 }
  else c

def warmElem (passed : Nat) (danger : Bool) (e : Elem) : Elem :=
  let body := warmTimers passed e.outcmd e.body
  { e with body := if danger then dangerBody body else body, work := { e.work with noEdge := true, validPrev := true } }

/-- Is a signal that of a route placed at danger? -/
def State.warmDanger (s : State) (e : Elem) : Bool :=
  match e.body with
  | .signal b => (s.app.cells[b.route]?).any warmReplaced
  | _ => false

def warmRecv (fault : Bool) (r : RecvRec) : RecvRec := { r with cstate := if fault then 4 else 0 }

def State.warmRecvs (s : State) (rs : List RecvRec) : List RecvRec :=
  rs.map fun (r : RecvRec) => warmRecv ((s.conn? r.conn).any (·.fault)) r

/-- The kept state is used: R461's changes, before the first snapshot. (log 53, DEDUCED) -/
def State.warmStart (s : State) (passed : Nat) : State :=
  let a := s.app
  let s := { s with
    app := { a with
      elems := a.elems.map fun e => warmElem passed (s.warmDanger e) e
      cells := a.cells.map (warmRoute passed)
      recvs := s.warmRecvs a.recvs }
    trl := { s.trl with ops := [] } }
  s.syncConns.bindForces.applyForceMarks

/-- Does the kept declared data give the last voted DIGEST? (log 53, DEDUCED). -/
def State.keptGood (s : State) : Bool := s.cyc.lastdigest == some (digestOf s.image s.app s.cyc.corerec)

/-- The start of the application at the end of SYNC: warm where the boot was warm and the kept data matches,
else cold. A warm restart that proceeds as a cold start writes that in a boot record. -/
def State.startApp (s : State) : State :=
  if s.pow.cause == 1 then
    if s.keptGood then s.warmStart (s.time.ot - s.cyc.runot) else (s.coldStart).bootRecord 2 0
  else s.coldStart

end Sys2Proof.Machine
end

