-- ==== Sys2Proof/Machine/SetFields.lean ====
section
/-! DEFINITION. The staged record classes (11 R310): the fields of each record with their ranges, records as
bytes, and the value of a field set. -/

namespace Sys2Proof.Machine

/-- A field of a staged record: offset, length, and whether a value lies in its stated range. -/
structure Fld where
  off : Nat
  len : Nat
  ok  : Nat → Bool

def inRange (lo hi : Nat) (v : Nat) : Bool := lo ≤ v && v ≤ hi
def anyVal (_ : Nat) : Bool := true

/-! ### Records as bytes -/

/-- A cell's configuration record (06 R180, 07 R209). -/
def cellCfgBytes (k : CellCfg) : Bytes := le 1 k.cmode ++ [k.flags] ++ le 1 k.tfilt ++ le 1 k.ogroup ++ le 2 k.td ++ zeros 2

/-- A connection record (08 R239). -/
def connCfgBytes (k : ConnCfg) : Bytes :=
  le 1 k.cdir ++ [k.cflags] ++ le 2 k.peer1 ++ le 2 k.peer2 ++ le 1 k.pconn ++ le 1 k.scset ++ le 4 k.key ++ le 2 k.len ++
  le 2 k.tout ++ le 1 k.skew ++ le 1 k.alivewin ++ le 2 k.dlymax ++ le 4 k.ipdst ++ zeros 8

def cvSetBytes (p : CvSet) : Bytes := le 4 p.poly ++ le 4 p.init ++ le 4 p.xor ++ [p.flags] ++ zeros 3

/-- LINK of a network (08 R259). -/
def NetSt.linkByte (x : NetSt) : Nat := b2n x.link.fst + 2 * b2n x.link.snd + 4 * b2n x.blocked + 8 * b2n x.closed

/-- Network settings with LINK (08 R259). -/
def netCfgBytes (link : Nat) (n : NetCfg) : Bytes :=
  le 1 n.ringmode ++ zeros 1 ++ le 2 n.etype ++ le 2 n.vidv ++ le 2 n.vido ++ le 4 n.ipaddr ++ le 4 n.netmask ++
  le 2 n.gvtport ++ le 1 link ++ zeros 13

/-- Pair settings (09 R261). -/
def pairCfgBytes (p : PairCfg) : Bytes :=
  le 1 p.prole ++ [p.pflags] ++ le 2 p.paddr ++ le 2 p.revhold ++ le 1 p.psilent ++ le 1 p.joinwait ++ le 4 p.pkey ++ zeros 4

/-- An escalation entry (10 R297). -/
def escBytes (e : EscEntry) : Bytes :=
  le 1 e.level ++ le 1 e.block ++ le 1 e.det ++ le 1 e.base ++ le 1 e.ceil ++ le 1 e.n ++ zeros 2 ++ le 4 e.w ++ zeros 4

/-- A force entry (11 R331). -/
def forceBytes (f : ForceEntry) : Bytes :=
  le 1 f.fkind ++ le 1 f.fpos ++ le 2 f.fnum ++ le 4 f.fid ++ le 4 f.fcred ++ le 1 f.ftype ++ zeros 3

def forceInit : ForceEntry := ⟨0, 0, 0xFFFF, 0, 0, 0⟩
def connCfgInit (n : Nat) : ConnCfg :=
  { num := n, cdir := 0, cflags := 0, peer1 := 0, peer2 := 0xFFFF, pconn := 0, scset := 0x10, key := 0, len := 4,
    tout := 50, skew := 20, alivewin := 10, dlymax := 20, ipdst := 0 }
def escInit (i : Nat) : EscEntry := ⟨i, 0, 0, 0, 0, 0, 0, 0⟩

def connOf (st : Settings) (n : Nat) : ConnCfg := (st.conns.find? (·.num == n)).getD (connCfgInit n)
def escOf (st : Settings) (i : Nat) : EscEntry := (st.esc.find? (·.index == i)).getD (escInit i)

/-- All the settings as one string, keys shown as they are; SETCHK is taken over it (09 R268). -/
def settingsBytes (st : Settings) : Bytes :=
  le 2 st.tc ++ le 2 st.holdlim ++ st.cells.flatMap cellCfgBytes ++ le 2 st.tframe ++ le 2 st.tpulse ++
  st.conns.flatMap (fun k => le 1 k.num ++ connCfgBytes k) ++ st.cvsets.flatMap cvSetBytes ++
  st.mackeys.flatMap (fun k => le 2 k.1 ++ k.2) ++ le 2 st.duolim ++ le 1 st.grace ++
  st.esc.flatMap (fun e => le 2 e.index ++ escBytes e)

/-! ### The staged set -/

/-- What a staged set acts on: settings, element presets, the force table with its positions, and the image
identity of a graft, 0 for none. -/
structure Cand where
  settings : Settings
  presets  : List (Nat × Nat × Nat)
  forces   : List ForceEntry
  graft    : Nat
  deriving DecidableEq, Repr

/-- The force table with all of its 512 positions. -/
def fullForces (fs : List ForceEntry) : List ForceEntry := (fs ++ List.replicate 512 forceInit).take 512

/-- The live configuration. -/
def State.live (s : State) : Cand :=
  { settings := { s.set with pair := s.stage.bootPair.getD s.set.pair }, presets := s.stage.presets
    forces := fullForces s.stage.forces, graft := 0 }

/-- The preset of an instance as it stands. -/
def State.livePreset (s : State) (ps : List (Nat × Nat × Nat)) (n off : Nat) : Nat :=
  match s.ent? n with
  | some t =>
    let live := ((s.elem? n).map (·.body)).getD t.body
    getPreset (withPresets ps t.instid live) off
  | none => 0

/-- The fields of a record, none where the class or the index is unknown. Ranges of a cell's record follow the
CMODE it will have. -/
def State.fieldsOf (s : State) (c : Cand) (cls idx cmode : Nat) : List Fld :=
  match cls with
  | 0x01 => if idx == 0 then [⟨0, 2, inRange 5 250⟩, ⟨4, 2, inRange 10 3000⟩] else []
  | 0x02 =>
    if idx < 48 then
      [⟨0, 1, inRange 0 2⟩,
       ⟨1, 1, if cmode == 2 then inRange 0 3 else if cmode == 1 then inRange 0 7 else fun v => v ≤ 1⟩,
       ⟨2, 1, inRange 1 20⟩, ⟨3, 1, if cmode == 2 then inRange 0 24 else inRange 0 0⟩,
       ⟨4, 2, if cmode == 2 then inRange 2 50 else inRange 1 500⟩, ⟨6, 2, inRange 0 0⟩]
    else []
  | 0x03 =>
    if idx == 0 then [⟨0, 2, fun v => inRange 48 480 v && v % 48 == 0⟩, ⟨2, 2, fun v => inRange 200 1000 v && v % 50 == 0⟩]
    else []
  | 0x04 =>
    if 1 ≤ idx && idx ≤ 255 then
      [⟨0, 1, inRange 0 2⟩, ⟨1, 1, inRange 0 15⟩, ⟨2, 2, inRange 0 1023⟩, ⟨4, 2, fun v => v ≤ 1023 || v == 0xFFFF⟩,
       ⟨6, 1, anyVal⟩, ⟨7, 1, fun v => v % 16 ≤ 7 && v / 16 ≤ 7⟩, ⟨8, 4, anyVal⟩,
       ⟨0xC, 2, fun v => inRange 4 1024 v && v % 4 == 0⟩, ⟨0xE, 2, inRange 30 2000⟩, ⟨0x10, 1, inRange 5 200⟩,
       ⟨0x11, 1, inRange 1 255⟩, ⟨0x12, 2, fun v => v == 0 || inRange 2 1000 v⟩, ⟨0x14, 4, anyVal⟩, ⟨0x18, 8, inRange 0 0⟩]
    else []
  | 0x05 =>
    if 2 ≤ idx && idx ≤ 7 then
      [⟨0, 4, fun v => v % 2 == 1⟩, ⟨4, 4, anyVal⟩, ⟨8, 4, anyVal⟩, ⟨0xC, 1, inRange 0 3⟩, ⟨0xD, 3, inRange 0 0⟩]
    else []
  | 0x06 => if 2 ≤ idx && idx ≤ 511 then [⟨0, 16, anyVal⟩] else []
  | 0x07 =>
    if idx ≤ 1 then
      [⟨0, 1, inRange 0 2⟩, ⟨1, 1, inRange 0 0⟩, ⟨2, 2, inRange 0x0600 0xFFFF⟩, ⟨4, 2, inRange 0 4094⟩,
       ⟨6, 2, inRange 1 4094⟩, ⟨8, 4, anyVal⟩, ⟨0xC, 4, anyVal⟩, ⟨0x10, 2, anyVal⟩]
    else []
  | 0x08 =>
    if idx == 0 then
      [⟨0, 1, inRange 0 2⟩, ⟨1, 1, inRange 0 1⟩, ⟨2, 2, inRange 0 1023⟩, ⟨4, 2, inRange 0 3600⟩, ⟨6, 1, inRange 3 10⟩,
       ⟨7, 1, inRange 2 60⟩, ⟨8, 4, anyVal⟩, ⟨0xC, 4, inRange 0 0⟩]
    else []
  | 0x09 => if idx == 0 then [⟨0x38, 2, inRange 0 168⟩] else []
  | 0x0A => if idx == 0 then [⟨0, 1, inRange 0 20⟩, ⟨1, 1, inRange 0 0⟩] else []
  | 0x0B =>
    if idx ≤ 255 then
      [⟨0, 1, inRange 0 3⟩, ⟨1, 1, inRange 0 63⟩, ⟨2, 1, anyVal⟩, ⟨3, 1, inRange 0 4⟩, ⟨4, 1, inRange 0 4⟩, ⟨5, 1, anyVal⟩,
       ⟨6, 2, inRange 0 0⟩, ⟨8, 4, inRange 0 86400000⟩, ⟨0xC, 4, inRange 0 0⟩]
    else []
  | 0x0C =>
    match s.ent? idx with
    | some t => (presetsOf t.body).map fun p => ⟨p.1, 2, inRange p.2.1 p.2.2⟩
    | none => []
  | 0x0D => if idx == 0 then [⟨0, 16, fun v => v / 2 ^ 64 == 0⟩] else []
  | 0x0E => if idx < c.forces.length then [⟨0, 1, inRange 0 4⟩, ⟨1, 1, inRange 0 2⟩, ⟨4, 4, anyVal⟩] else []
  | _ => []

/-- A field overlaps the bytes from off, n of them; it lies inside them. -/
def Fld.meets (f : Fld) (off n : Nat) : Bool := f.off < off + n && off < f.off + f.len
def Fld.inside (f : Fld) (off n : Nat) : Bool := off ≤ f.off && f.off + f.len ≤ off + n

/-- Do the named bytes cover whole fields and nothing else, each with a value in its range (R313)? -/
def fieldsFit (fs : List Fld) (off : Nat) (v : Bytes) : Bool :=
  let hit := fs.filter fun f => f.meets off v.length
  1 ≤ v.length && v.length ≤ 32 && hit.all (fun f => f.inside off v.length) &&
  (hit.map (·.len)).sum == v.length && hit.all fun f => f.ok (rd v (f.off - off) f.len)

/-! ### Setting one field -/

def setCell (off v : Nat) (k : CellCfg) : CellCfg :=
  match off with
  | 0 => { k with cmode := v }
  | 1 => { k with flags := BitVec.ofNat 8 v }
  | 2 => { k with tfilt := v }
  | 3 => { k with ogroup := v }
  | 4 => { k with td := v }
  | _ => k

def setConn (off v : Nat) (k : ConnCfg) : ConnCfg :=
  match off with
  | 0 => { k with cdir := v }
  | 1 => { k with cflags := BitVec.ofNat 8 v }
  | 2 => { k with peer1 := v }
  | 4 => { k with peer2 := v }
  | 6 => { k with pconn := v }
  | 7 => { k with scset := v }
  | 8 => { k with key := v }
  | 0xC => { k with len := v }
  | 0xE => { k with tout := v }
  | 0x10 => { k with skew := v }
  | 0x11 => { k with alivewin := v }
  | 0x12 => { k with dlymax := v }
  | 0x14 => { k with ipdst := v }
  | _ => k

def setCv (off v : Nat) (p : CvSet) : CvSet :=
  match off with
  | 0 => { p with poly := v }
  | 4 => { p with init := v }
  | 8 => { p with xor := v }
  | 0xC => { p with flags := BitVec.ofNat 8 v }
  | _ => p

def setNet (off v : Nat) (n : NetCfg) : NetCfg :=
  match off with
  | 0 => { n with ringmode := v }
  | 2 => { n with etype := v }
  | 4 => { n with vidv := v }
  | 6 => { n with vido := v }
  | 8 => { n with ipaddr := v }
  | 0xC => { n with netmask := v }
  | 0x10 => { n with gvtport := v }
  | _ => n

def setPairCfg (off v : Nat) (p : PairCfg) : PairCfg :=
  match off with
  | 0 => { p with prole := v }
  | 1 => { p with pflags := BitVec.ofNat 8 v }
  | 2 => { p with paddr := v }
  | 4 => { p with revhold := v }
  | 6 => { p with psilent := v }
  | 7 => { p with joinwait := v }
  | 8 => { p with pkey := v }
  | _ => p

def setEsc (off v : Nat) (e : EscEntry) : EscEntry :=
  match off with
  | 0 => { e with level := v }
  | 1 => { e with block := v }
  | 2 => { e with det := v }
  | 3 => { e with base := v }
  | 4 => { e with ceil := v }
  | 5 => { e with n := v }
  | 8 => { e with w := v }
  | _ => e

def setForce (off v : Nat) (f : ForceEntry) : ForceEntry :=
  match off with
  | 0 => { f with fkind := v }
  | 1 => { f with fpos := v }
  | 4 => { f with fid := v }
  | _ => f

/-- A list with the entry for a key put in its place, in ascending order of keys. -/
def putKey {α : Type} (key : α → Nat) (x : α) (xs : List α) : List α :=
  xs.takeWhile (fun y => key y < key x) ++ [x] ++ (xs.dropWhile (fun y => key y < key x)).filter fun y => !(key y == key x)

/-- One field of a record set. -/
def State.setField (s : State) (c : Cand) (cls idx off v : Nat) : Cand :=
  let st := c.settings
  match cls with
  | 0x01 => if off == 0 then { c with settings := { st with tc := v } } else { c with settings := { st with holdlim := v } }
  | 0x02 => { c with settings := { st with cells := modAt (setCell off v) idx st.cells } }
  | 0x03 => if off == 0 then { c with settings := { st with tframe := v } } else { c with settings := { st with tpulse := v } }
  | 0x04 => { c with settings := { st with conns := putKey ConnCfg.num (setConn off v (connOf st idx)) st.conns } }
  | 0x05 => { c with settings := { st with cvsets := modAt (setCv off v) (idx - 2) st.cvsets } }
  | 0x06 => { c with settings := { st with mackeys := putKey Prod.fst (idx, le 16 v) st.mackeys } }
  | 0x07 =>
    if idx == 0 then { c with settings := { st with nets := { st.nets with fst := setNet off v st.nets.fst } } }
    else { c with settings := { st with nets := { st.nets with snd := setNet off v st.nets.snd } } }
  | 0x08 => { c with settings := { st with pair := setPairCfg off v st.pair } }
  | 0x09 => { c with settings := { st with duolim := v } }
  | 0x0A => if off == 0 then { c with settings := { st with grace := v } } else c
  | 0x0B => { c with settings := { st with esc := putKey EscEntry.index (setEsc off v (escOf st idx)) st.esc } }
  | 0x0C =>
    match s.ent? idx with
    | some t => { c with presets := (c.presets.filter fun p => !(p.1 == t.instid && p.2.1 == off)) ++ [(t.instid, off, v)] }
    | none => c
  | 0x0D => { c with graft := v }
  | 0x0E => { c with forces := modAt (setForce off v) idx c.forces }
  | _ => c

/-- The CMODE a cell will have with an entry. -/
def cmodeWith (c : Cand) (e : StgEntry) : Nat :=
  if e.cls == 2 && e.off == 0 then rd e.value 0 1 else (cfgAt c.settings e.index).cmode

/-- One staged entry applied. -/
def State.applyEntry (s : State) (c : Cand) (e : StgEntry) : Cand :=
  ((s.fieldsOf c e.cls e.index (cmodeWith c e)).filter fun f => f.inside e.off e.value.length).foldl
    (fun c f => s.setField c e.cls e.index f.off (rd e.value (f.off - e.off) f.len)) c

/-- The live configuration with every entry applied. -/
def State.candidate (s : State) : Cand := s.stage.entries.foldl s.applyEntry s.live

/-- The bytes that an entry names, as they stand; keys read 0. -/
def State.liveBytes (s : State) (c : Cand) (e : StgEntry) : Bytes :=
  let st := c.settings
  let whole : Bytes :=
    match e.cls with
    | 0x01 => le 2 st.tc ++ zeros 2 ++ le 2 st.holdlim
    | 0x02 => cellCfgBytes (cfgAt st e.index)
    | 0x03 => le 2 st.tframe ++ le 2 st.tpulse
    | 0x04 => connCfgBytes (connOf st e.index)
    | 0x05 => cvSetBytes (st.cvsets.getD (e.index - 2) CvSet.init)
    | 0x07 =>
      if e.index == 0 then netCfgBytes s.nets.fst.linkByte st.nets.fst else netCfgBytes s.nets.snd.linkByte st.nets.snd
    | 0x08 => pairCfgBytes st.pair
    | 0x09 => zeros 0x38 ++ le 2 st.duolim
    | 0x0A => le 1 st.grace
    | 0x0B => escBytes (escOf st e.index)
    | 0x0C => zeros e.off ++ le 2 (s.livePreset c.presets e.index e.off)
    | 0x0E => forceBytes (c.forces.getD e.index forceInit)
    | _ => []
  slice whole e.off e.value.length

/-- The bytes of a staged entry (R313). -/
def entryRec (e : StgEntry) : Bytes :=
  le 1 e.cls ++ zeros 1 ++ le 2 e.index ++ le 2 e.off ++ le 2 e.value.length ++ padTo 32 e.value

/-- STGID (R316). -/
def stgid (es : List StgEntry) : Nat := if es.isEmpty then 0 else crc32c (es.flatMap entryRec)

/-- Is an entry accepted when it is written (R313)? (log 88, DEDUCED). -/
def State.entryOk (s : State) (e : StgEntry) : Bool :=
  let c := s.candidate
  fieldsFit (s.fieldsOf c e.cls e.index (cmodeWith c e)) e.off e.value

/-- Does an earlier entry name all the bytes of a new one? -/
def covers (old new : StgEntry) : Bool :=
  old.cls == new.cls && old.index == new.index && old.off ≤ new.off &&
  new.off + new.value.length ≤ old.off + old.value.length

/-- An earlier entry with the bytes that a new one names replaced. -/
def overlay (e o : StgEntry) : StgEntry :=
  if o.cls == e.cls && o.index == e.index then
    { o with value := o.value.zipIdx.map fun x =>
        if e.off ≤ o.off + x.2 && o.off + x.2 < e.off + e.value.length then e.value.getD (o.off + x.2 - e.off) 0 else x.1 }
  else o

/-- An entry staged: it replaces the value of earlier entries for the same bytes; where none names all its bytes it is added,
in place of those whose bytes it names. -/
def stageEntry (e : StgEntry) (es : List StgEntry) : List StgEntry :=
  let es' := es.map (overlay e)
  if es.any fun o => covers o e then es' else (es'.filter fun o => !covers e o) ++ [e]

end Sys2Proof.Machine
end

