-- ==== Sys2Proof/Machine/Graft.lean ====
section
/-! DEFINITION. The graft (11 R324 to R330): its conditions, transfer rules, and the carry-over of declared data
from the running image to the new one. -/

namespace Sys2Proof.Machine

/-! ### Conditions (R324, R326, R327, R330) -/

/-- The image that a graft entry names: the image of the idle application slot with that identity. -/
def State.graftSlotImage (s : State) (gimgid : Nat) : Option Image :=
  let sl := s.upd.app.sel (!s.upd.appRun)
  if sl.valid && sl.env.imgid == gimgid then sl.image else none

/-- Do two bodies have the same TYPE? Every type has one layout. -/
def sameType (a b : Body) : Bool := bodyType a == bodyType b

/-- Have two instances of optional function blocks the same TYPE and layout? -/
def sameFb (a b : FbInst) : Bool := a.typ == b.typ && a.layout == b.layout && a.data.length == b.data.length

/-- Has the new image a transfer rule for every instance whose TYPE or layout changes (R330)? -/
def rulesOk (old new : Image) : Bool :=
  (new.ents.all fun t => match old.ents.find? (·.instid == t.instid) with
    | some u => sameType u.body t.body || new.rules.any (·.instid == t.instid)
    | none => true) &&
  (new.fbs.all fun t => match old.fbs.find? (·.instid == t.instid) with
    | some u => sameFb u t || new.rules.any (·.instid == t.instid)
    | none => true)

/-- The image check of a graft on the settings that the set leaves: the image, or the status that goes to GSTATUS. -/
def State.graftImage (s : State) (gimgid : Nat) (st : Settings) : Except Nat Image :=
  match s.graftSlotImage gimgid with
  | none => .error 0x8080
  | some img =>
    if img.role != s.image.role || img.split != s.image.split || img.level != s.image.level then .error 0x8050
    else if !imageOkOn img st s.id.modaddr || !rulesOk s.image img then .error 0x8070
    else if !s.slotSigned 2 (s.upd.app.sel (!s.upd.appRun)) then .error 0x8060
    else .ok img

/-- The number in the new image of a route of the running image: same RID, same RCHK. -/
def routeIn (old new : Image) (r : Nat) : Option Nat :=
  match old.routes[r]? with
  | some t => (new.routes.zipIdx.find? fun x => x.1.rid == t.rid && x.1.rchk == t.rchk).map (·.2)
  | none => none

/-- The conditions of R327 on the running state: check code and failing element or route. -/
def State.graftHeld (s : State) (img : Image) : Option (Nat × Nat) :=
  let gone := s.app.elems.find? fun e =>
    !(img.ents.any (·.instid == e.instid)) && (0 < e.lockcnt || 0 < e.claimcnt)
  match gone with
  | some e => some (0x0B, e.num)
  | none =>
    let busy := (List.range s.image.routes.length).filter fun r => (s.cellRec r).rstate != 0
    match busy.find? fun r => (routeIn s.image img r).isNone with
    | some r => some (0x0C, r)
    | none =>
      let held := (busy.filter fun r => holds (s.cellRec r)).filterMap fun r => (routeIn s.image img r).map fun n => (r, n)
      let clash := held.find? fun a => held.any fun b =>
        a.1 != b.1 && (img.routes[a.2]?).any fun t => t.conflicts.contains b.2
      clash.map fun a => (0x0C, a.1)

/-- GRFT against Tc after the set (R326). -/
def grftOk (img : Image) (tc : Nat) : Bool := img.grft ≤ 2400 && img.grft + 500 ≤ tc * 1000

/-! ### Bodies from bytes (R330) -/

/-- Fields of a body, by offset in the record: length and range (02 R50 to R68). -/
def bodyFields : Body → List Fld
  | .point _ => [⟨0x10, 1, inRange 0 2⟩, ⟨0x11, 1, inRange 0 2⟩, ⟨0x12, 1, inRange 0 2⟩, ⟨0x14, 2, inRange 100 6000⟩,
      ⟨0x16, 1, inRange 0 2⟩, ⟨0x18, 4, inRange 0 1000000⟩]
  | .sslip _ => [⟨0x14, 1, inRange 0 4⟩]
  | .dslip _ => [⟨0x14, 1, inRange 0 4⟩]
  | .signal _ => [⟨0x10, 1, inRange 0 3⟩, ⟨0x11, 1, fun v => v ≤ 3 || v == 0xFF⟩, ⟨0x12, 1, inRange 0 1⟩,
      ⟨0x14, 2, fun v => v < 2048 || v == 0xFFFF⟩, ⟨0x16, 2, inRange 5 200⟩, ⟨0x18, 4, inRange 0 1000000⟩]
  | .tcsec _ => [⟨0x10, 1, inRange 0 2⟩, ⟨0x12, 2, inRange 0 6000⟩, ⟨0x14, 4, inRange 0 1000000⟩]
  | .acsec _ => [⟨0x10, 1, inRange 0 3⟩, ⟨0x11, 1, inRange 0 2⟩, ⟨0x12, 2, inRange 100 6000⟩,
      ⟨0x14, 4, inRange 0 1000000⟩, ⟨0x18, 4, anyVal⟩, ⟨0x1C, 2, inRange 0 6000⟩, ⟨0x20, 4, inRange 0 1000000⟩]
  | .lxing _ => [⟨0x10, 1, inRange 0 4⟩, ⟨0x12, 2, inRange 100 12000⟩, ⟨0x14, 4, inRange 0 1000000⟩,
      ⟨0x18, 2, inRange 0 6000⟩, ⟨0x1C, 4, inRange 0 1000000⟩]
  | .blockif _ => [⟨0x10, 1, inRange 0 4⟩, ⟨0x11, 1, inRange 0 1⟩, ⟨0x14, 2, inRange 100 6000⟩, ⟨0x18, 4, inRange 0 1000000⟩]
  | .keylock _ => [⟨0x10, 1, inRange 0 2⟩, ⟨0x11, 1, inRange 0 1⟩]
  | .shuntarea _ => [⟨0x10, 1, inRange 0 3⟩]
  | .gvar _ => [⟨0x10, 4, anyVal⟩]
  | .ptdrive _ => [⟨0x14, 2, anyVal⟩, ⟨0x16, 2, anyVal⟩]

/-- One field of a body set, by its offset in the record. -/
def putBody (off v : Nat) (b : Body) : Body :=
  match b with
  | .point p => (match off with
    | 0x10 => .point { p with posdet := v }
    | 0x11 => .point { p with poscmd := v }
    | 0x12 => .point { p with movest := v }
    | 0x14 => .point { p with movepre := v }
    | 0x16 => .point { p with posreq := v }
    | 0x18 => .point { p with moveelap := v }
    | _ => b)
  | .sslip p => if off == 0x14 then .sslip { p with routdet := v } else b
  | .dslip p => if off == 0x14 then .dslip { p with routdet := v } else b
  | .signal p => (match off with
    | 0x10 => .signal { p with aspreq := v }
    | 0x11 => .signal { p with aspshown := v }
    | 0x12 => .signal { p with indreq := v }
    | 0x14 => .signal { p with route := v }
    | 0x16 => .signal { p with provpre := v }
    | 0x18 => .signal { p with provelap := v }
    | _ => b)
  | .tcsec p => (match off with
    | 0x10 => .tcsec { p with occ := v }
    | 0x12 => .tcsec { p with clrpre := v }
    | 0x14 => .tcsec { p with clrelap := v }
    | _ => b)
  | .acsec p => (match off with
    | 0x10 => .acsec { p with occ := v }
    | 0x11 => .acsec { p with rststate := v }
    | 0x12 => .acsec { p with rstpre := v }
    | 0x14 => .acsec { p with rstelap := v }
    | 0x18 => .acsec { p with rstseq := v }
    | 0x1C => .acsec { p with clrpre := v }
    | 0x20 => .acsec { p with clrelap := v }
    | _ => b)
  | .lxing p => (match off with
    | 0x10 => .lxing { p with lxstate := v }
    | 0x12 => .lxing { p with closepre := v }
    | 0x14 => .lxing { p with closeelap := v }
    | 0x18 => .lxing { p with opendly := v }
    | 0x1C => .lxing { p with openelap := v }
    | _ => b)
  | .blockif p => (match off with
    | 0x10 => .blockif { p with blkstate := v }
    | 0x11 => .blockif { p with dirwant := v }
    | 0x14 => .blockif { p with dirpre := v }
    | 0x18 => .blockif { p with direlap := v }
    | _ => b)
  | .keylock p => (match off with
    | 0x10 => .keylock { p with klstate := v }
    | 0x11 => .keylock { p with relreq := v }
    | _ => b)
  | .shuntarea p => if off == 0x10 then .shuntarea { p with sastate := v } else b
  | .gvar p => if off == 0x10 then .gvar { p with value := v % 2 ^ p.width } else b
  | .ptdrive p => (match off with
    | 0x14 => .ptdrive { p with cmdword := v }
    | 0x16 => .ptdrive { p with rptword := v }
    | _ => b)

/-- The value that a transfer rule gives a field of the new record from the bytes of the old record; none where
the rule does not name the field. Later forms win: a copy, a constant, a map. -/
def ruleValue (r : TransferRule) (old : Bytes) (f : Fld) : Option Nat :=
  match r.maps.find? fun m => m.2.1 == f.off with
  | some m => (m.2.2.2.find? fun x => x.1 == rd old m.1 m.2.2.1).map (·.2)
  | none =>
    match r.consts.find? fun k => k.1 == f.off with
    | some k => some (rd k.2 0 f.len)
    | none => (r.copies.find? fun k => k.2.1 == f.off).map fun k => rd old k.1 k.2.2

/-- A body formed by a transfer rule: a field the rule does not name, or sets outside its range, takes its Reset
value. -/
def ruleBody (r : TransferRule) (old : Bytes) (reset : Body) : Body :=
  (bodyFields reset).foldl (fun b f =>
    match ruleValue r old f with
    | some v => if f.ok v then putBody f.off v b else b
    | none => b) reset

/-! ### Carry-over of one element -/

/-- A kept body: fields with Reset "Image" from the new image, a preset from the new image where it differs from
the old image's, the rest as it stands. -/
def keptBody (live old new : Body) : Body :=
  let pre (b : Body) : Body := (presetsOf live).foldl (fun b p =>
    let o := getPreset old p.1
    let n := getPreset new p.1
    if o == n then b else setPreset p.1 n b) b
  match live, new with
  | .point b, .point n => pre (.point { b with trailWired := n.trailWired, keyWired := n.keyWired })
  | .sslip b, .sslip n => .sslip { n with routdet := b.routdet }
  | .dslip b, .dslip n => .dslip { n with routdet := b.routdet }
  | .blockif b, .blockif n => pre (.blockif { b with nbraddr := n.nbraddr, linesec := n.linesec })
  | .keylock b, .keylock n => .keylock { b with arearoute := n.arearoute }
  | .shuntarea b, .shuntarea n => .shuntarea { b with arearoute := n.arearoute }
  | .gvar b, .gvar n => .gvar { n with value := b.value }
  | .ptdrive b, .ptdrive n => .ptdrive { n with cmdword := b.cmdword, rptword := b.rptword }
  | b, _ => pre b

/-- ROUTE of a kept signal under the new route numbers. -/
def moveRouteNum (old new : Image) (b : Body) : Body :=
  match b with
  | .signal p => if p.route == 0xFFFF then b else .signal { p with route := (routeIn old new p.route).getD 0xFFFF }
  | b => b

/-- Has the source of an element changed? -/
def srcChanged (a b : ElemEntry) : Bool :=
  a.srclocal != b.srclocal || a.srcconn != b.srcconn || a.srcpos != b.srcpos || a.paired != b.paired

/-- How an instance of the new image comes about. -/
inductive Carry where
  | kept | mapped | fresh
  deriving DecidableEq, Repr

def carryKind (s : State) (t : ElemEntry) : Carry :=
  match s.app.elems.find? (·.instid == t.instid) with
  | some e => if sameType e.body t.body then .kept else .mapped
  | none => .fresh

/-- The record of an instance in the new image. -/
def State.carryElem (s : State) (new : Image) (t : ElemEntry) : Elem :=
  let zero := elemReset [] t
  match s.app.elems.find? (·.instid == t.instid), s.image.ents.find? (·.instid == t.instid) with
  | some e, some u =>
    if sameType e.body t.body then
      let edge := srcChanged u t
      { e with
        num := t.num
        body := moveRouteNum s.image new (keptBody e.body u.body t.body)
        work := { e.work with noEdge := e.work.noEdge || edge, validPrev := e.work.validPrev || edge } }
    else
      let body := match new.rules.find? (·.instid == t.instid) with
        | some r => ruleBody r (elemBytes e) zero.body
        | none => zero.body
      { zero with lockcnt := e.lockcnt, claimcnt := e.claimcnt, body := body }
  | _, _ => zero

/-! ### The whole carry-over -/

/-- Number of an element in the new image. -/
def elemIn (old new : Image) (n : Nat) : Option Nat :=
  (old.ents.find? (·.num == n)).bind fun t => (new.ents.find? (·.instid == t.instid)).map (·.num)

/-- The route cells under their new numbers; a route without a predecessor takes its Reset values. -/
def State.carryRoutes (s : State) (new : Image) : List RouteCell :=
  new.routes.zipIdx.map fun x =>
    match (List.range s.image.routes.length).find? fun r => routeIn s.image new r == some x.2 with
    | some r =>
      let c := s.cellRec r
      { c with subs := c.subs.filterMap (elemIn s.image new) }
    | none => routeInit

/-- The instance of an optional function block in an image, with its live data. -/
def fbLive (inst : Nat) : List FbInst → Bytes → Option (FbInst × Bytes)
  | [], _ => none
  | u :: us, live =>
    if u.instid == inst then some (u, live.take u.data.length) else fbLive inst us (live.drop u.data.length)

/-- One value of a rule's map. -/
def mapBytes (old : Bytes) (m : Nat × Nat × Nat × List (Nat × Nat)) (b : Bytes) : Bytes :=
  match m.2.2.2.find? fun x => x.1 == rd old m.1 m.2.2.1 with
  | some x => patch b m.2.1 (le m.2.2.1 x.2)
  | none => b

/-- The data of a function block formed by a transfer rule from its old data: copies, constants, maps. -/
def ruleBytes (r : TransferRule) (old fresh : Bytes) : Bytes :=
  let b := r.copies.foldl (fun b k => patch b k.2.1 (slice old k.1 k.2.2)) fresh
  let b := r.consts.foldl (fun b k => patch b k.1 k.2) b
  (r.maps.foldl (fun b m => mapBytes old m b) b).take fresh.length

/-- The data of one instance in the new image: kept, mapped by its rule, or as the image gives it. -/
def carryFbInst (old new : Image) (live : Bytes) (t : FbInst) : Bytes :=
  match fbLive t.instid old.fbs live with
  | none => t.data
  | some (u, b) =>
    if sameFb u t then b
    else match new.rules.find? (·.instid == t.instid) with
      | some r => ruleBytes r b t.data
      | none => t.data

/-- Data of the optional function blocks, by instance ID, as for element records. -/
def carryFb (old new : Image) (live : Bytes) : Bytes := new.fbs.flatMap (carryFbInst old new live)

/-- The presets that staged sets have written, as the graft leaves them: those of instances that keep their TYPE, at the new
image's value where it differs from the old image's. -/
def carryPresets (old new : Image) (ps : List (Nat × Nat × Nat)) : List (Nat × Nat × Nat) :=
  ps.filterMap fun p =>
    match old.ents.find? (·.instid == p.1), new.ents.find? (·.instid == p.1) with
    | some u, some t =>
      let n := getPreset t.body p.2.1
      if !sameType u.body t.body then none
      else some (p.1, p.2.1, if getPreset u.body p.2.1 == n then p.2.2 else n)
    | _, _ => none

/-- The declared data on the new image. -/
def State.carryApp (s : State) (new : Image) : AppSt :=
  { s.app with
    elems := ((List.range Config.maxElems).filterMap fun n => entOf new n).map (s.carryElem new)
    cells := s.carryRoutes new
    trellis := { s.app.trellis with tblslice := 0 }
    fbData := carryFb s.image new s.app.fbData }

/-- Requests raised in the last cycle under the new numbers. -/
def State.carryReqs (s : State) (new : Image) : TrellisSt :=
  let old := s.image
  { s.trl with
    elemreqs := s.trl.elemreqs.filterMap fun x =>
      match routeIn old new x.1, elemIn old new x.2.1 with
      | some r, some n => some (r, n, x.2.2)
      | _, _ => none
    autoreqs := s.trl.autoreqs.filterMap fun x => (routeIn old new x.1).map fun r => (r, x.2)
    scratch := [] }

def countCarry (s : State) (new : Image) (k : Carry) : Nat := (new.ents.filter fun t => carryKind s t == k).length

/-- Kind 0x05 of the change log: old and new image identity and the four counts. -/
def graftRec (old new kept mapped fresh gone : Nat) : Bytes :=
  le 8 old ++ le 8 new ++ le 2 kept ++ le 2 mapped ++ le 2 fresh ++ le 2 gone

/-- What the graft slot does to a lane: an ACTIVE one holds the new image; any other loads it in its restart check, and one
that waits for RESYNC goes through that check again (R329). -/
def LaneSt.grafted (tables : Bytes) (x : LaneSt) : LaneSt :=
  if x.st == .active then { x with tables := tables }
  else if x.hold == .waiting then { x with reload := true, rcheck := true, hold := .checking }
  else { x with reload := true }

def State.graftLanes (s : State) : State :=
  s.each Lane.all fun s l => s.updLane l (LaneSt.grafted (s.image.tables.get l))

/-- The graft made: declared data carried over, the bank switched, the slot idle. (log 58, DEDUCED) -/
def State.graft (s : State) (r : CmdRef) (new : Image) : State :=
  let kept := countCarry s new .kept
  let mapped := countCarry s new .mapped
  let fresh := countCarry s new .fresh
  let gone := (s.app.elems.filter fun e => !(new.ents.any (·.instid == e.instid))).length
  let s := s.refChange r 0x05 (graftRec s.image.imgid new.imgid kept mapped fresh gone)
  let app := s.carryApp new
  let trl := s.carryReqs new
  let s := { s with
    app := app, trl := { trl with prev := app }, image := new
    cyc := { s.cyc with bank := 1 - s.cyc.bank, graftslot := true }
    stage := { s.stage with
      nkept := kept, nmapped := mapped, nnew := fresh, ndisc := gone, presets := carryPresets s.image new s.stage.presets } }
  s.graftLanes.bindForces.applyForceMarks

end Sys2Proof.Machine
end

