-- ==== Sys2Proof/Machine/SelfTest.lean ====
section
/-! DEFINITION. Self-tests (15 R408 to R419): preconditions, the cloche, the result of a test and its reaction. -/

namespace Sys2Proof.Machine

/-! ### The tests -/

/-- Kinds of target: 0 cell, 1 bank, 2 lane, 3 the module. -/
def testTarget (id : Nat) : Nat :=
  if id ≤ 4 then 0 else if id == 5 then 1 else if id == 7 then 3 else 2

/-- Measurements of a test (R408). -/
def testCount (id : Nat) : Nat :=
  match id with
  | 1 => 18
  | 2 => 6
  | 3 => 32
  | 4 => 12
  | 5 => 4
  | 6 => 4
  | 7 => 8
  | 8 => 6
  | _ => 0

def laneOfNum : Nat → Lane
  | 0 => .a
  | 1 => .b
  | _ => .c

/-- Does the target fit the test: its kind, and the CMODE of a cell? -/
def State.targetOk (s : State) (id target : Nat) : Bool :=
  match testTarget id with
  | 0 =>
    let m := (s.cellCfg target).cmode
    target < Config.nCells &&
      (if id == 1 then m ≤ 1 else if id == 2 then m == 1 || m == 2 else m == 2)
  | 1 => target < 6
  | 2 => target < 3
  | _ => target == 0

/-- The expected signature: the image's, else the CRC-32C of zeros that Yarek derives it from (R410). -/
def State.expected (s : State) (id : Nat) : Nat :=
  ((s.image.tests.find? fun x => x.1 == id && x.2.1 == testTarget id).map (·.2.2)).getD
    (crc32c (zeros (testCount id)))

/-- A cell, with its other where it is of a pair. -/
def State.pairOf (s : State) (c : Nat) : List Nat :=
  if cPair (s.cellCfg c) then [c, c + 1]
  else if c % 2 == 1 && cPair (s.cellCfg (c - 1)) then [c - 1, c]
  else [c]

/-- The cells that the cloche of a test covers. -/
def State.covered (s : State) (id target : Nat) : List Nat :=
  match testTarget id with
  | 0 =>
    if cOut (s.cellCfg target) then s.members target
    else if id == 1 then s.pairOf target
    else [target]
  | 1 => cellsOf target
  | _ => []

/-! ### Preconditions (R412, R413) -/

def supplyOk (lo hi v : Nat) : Bool := lo ≤ v && v ≤ hi

/-- A value of QTY 5 as 32 bits. -/
def oscWord : Option Int → Nat
  | none => 0x7FFFFFFF
  | some v => (v % (2 ^ 32 : Int)).toNat

/-- The bank whose FSV a test needs: of its cell, or its target. -/
def testBank (id target : Nat) : Nat := if testTarget id == 0 then bankOf target else target

/-- The first quantity out of its window: QTY and VALUE. Lane supplies lie between 807.5 and 892.5 mV. -/
def State.badQty (s : State) (q : Quantities) (id target : Nat) : Option (Nat × Nat) :=
  let lanes := Lane.all.filter fun l => s.isActive l || (testTarget id == 2 && l.num == target)
  match lanes.find? fun l => !supplyOk 808 892 (q.lanes.get l) with
  | some l => some (1, q.lanes.get l)
  | none =>
    if !supplyOk 950 1050 q.commons then some (2, q.commons)
    else if !supplyOk 950 1050 q.service then some (3, q.service)
    else
      let fsv := q.fsv.getD (testBank id target) 0
      if testTarget id ≤ 1 && !supplyOk 16800 30000 fsv then some (4, fsv)
      else match s.be.osc with
        | none => some (5, oscWord none)
        | some v => if -5000 ≤ v && v ≤ 5000 then none else some (5, oscWord (some v))

/-- FSV as the change log shows it: of the test's bank; a test without one has no FSV, and the value is free. (log 95, DEDUCED) -/
def State.testFsv (s : State) (id target : Nat) : Nat × State :=
  if testTarget id ≤ 1 then (s.be.q.fsv.getD (testBank id target) 0, s) else s.freshNat 32

/-- The values of the five quantities for the change log (kind 0x20). -/
def State.qtyBytes (s : State) (fsv : Nat) : Bytes :=
  let q := s.be.q
  le 4 q.lanes.a ++ le 4 q.lanes.b ++ le 4 q.lanes.c ++ le 4 q.commons ++ le 4 q.service ++ le 4 fsv ++ le 4 (oscWord s.be.osc)

/-! ### The cloche (R415, R416) -/

def CellSt.setUnder (b : Bool) (x : CellSt) : CellSt := { x with under := b }

/-- The target lane out of the vote: withdrawn with class F0, uncounted, or tested in place. -/
def State.coverLane (s : State) (l : Lane) : State :=
  if s.isActive l then
    let f := fLane l (openNum 11)
    let (seq, s) := s.recordEvent f 0 0 false false none
    let s := s.withdraw l f seq .none false
    (s.updLane l fun x => { x with testHold := some .checking }).updTest fun t => { t with tookLane := true }
  else s.updLane l fun x => { x with testHold := some x.hold, hold := .checking, rcheck := false, arb := false }

/-- The cloche begins at an executed start; a pulse or a step in progress on a covered cell ends (06 R200, 07 R214). A lane that has become ineligible since the acceptance abandons the
test. -/
def State.clocheStart (s : State) : State :=
  match s.be.test with
  | none => s
  | some t =>
    if t.running || t.abandoned then s
    else
      let s := s.updTest fun t => { t with running := true, asked := s.time.ot }
      let l := laneOfNum t.target
      if testTarget t.id == 2 then
        if (s.isActive l && s.nActive < 3) || (s.lane l).st == .resync || (s.lane l).latched then s.abandonTest 0x80B0 0
        else s.coverLane l
      else
        let cs := s.covered t.id t.target
        let s := if s.frame.pulse.any cs.contains then { s with frame := { s.frame with pulse := none } } else s
        ((s.each cs fun s c => (s.updCell c (CellSt.setUnder true)).pairTicks c).setEffs cs).dropSteps cs

/-- The detector number of a failed test and its source (R418). (log 96, DEDUCED) -/
def testSource (id target : Nat) : Fsid :=
  match testTarget id with
  | 0 => fCell target 0x40
  | 1 => fBank target 0x40
  | 2 => fLaneBlk (laneOfNum target) (if id == 8 then 0x06 else 0x08) 0x40
  | _ => fBlk 0x24 0x40

/-- A failed test has to pass before its hedge is released; one that failed before still has to. -/
def CellSt.need (t : Nat × Nat) (x : CellSt) : CellSt := { x with needTest := x.needTest.filter (· != t) ++ [t] }
def BankSt.need (t : Option Nat) (b : BankSt) : BankSt := { b with needTest := t }

/-- The reaction to a failed test. -/
def State.testFailed (s : State) (id target : Nat) : State :=
  match testTarget id with
  | 0 =>
    let cs := if cOut (s.cellCfg target) then [target] else s.pairOf target
    s.each cs fun s c => (s.collect (fCell c 0x40)).updCell c (CellSt.need (id, target))
  | 1 =>
    let s := s.cutBank target
    (s.collect (fBank target 0x40)).updBank target (BankSt.need (some id))
  | 2 =>
    let l := laneOfNum target
    let f := testSource id target
    let (base, _, _, _) := detSettings s f 3
    let (cls, up, s) := s.countEvent f 3
    let (seq, s) := s.recordEvent f base cls false up none
    let s := (s.startGrace f seq cls (some l)).archiveTrigger seq
    let s := s.withdraw l f seq .untilRestart true
    if 4 ≤ cls then s.enterSafe seq else s
  | _ => s.collect (testSource id target)

/-- The record of passes for commissioning (R426). -/
def notePass (pass : Bool) (id target : Nat) (ps : List (Nat × Nat)) : List (Nat × Nat) :=
  let ps := ps.filter (· != (id, target))
  if pass then ps ++ [(id, target)] else ps

def CellSt.proved (id target : Nat) (x : CellSt) : CellSt :=
  { x with needTest := x.needTest.filter (· != (id, target)) }

def BankSt.proved (id : Nat) (b : BankSt) : BankSt := if b.needTest == some id then { b with needTest := none } else b

def CellSt.lit (x : CellSt) : CellSt := { x with warmLight := .all true }

/-- What a pass allows: a hedge release on the same target (R419). A pass of 0x0003 has passed the light steps that the
target's warm-up requires (15, Kessendorf). -/
def State.testPassed (s : State) (id target : Nat) : State :=
  match testTarget id with
  | 0 =>
    let s := s.each (s.covered id target ++ s.pairOf target) fun s c => s.updCell c (CellSt.proved id target)
    if id == 3 then s.updCell target CellSt.lit else s
  | 1 => s.updBank target (BankSt.proved id)
  | _ => s

/-- The lane after its test: one withdrawn by a test that passed runs its restart check, one tested in place
keeps its hold. -/
def State.uncoverLane (s : State) (l : Lane) (took : Bool) : State :=
  s.updLane l fun x =>
    let x := { x with hold := x.testHold.getD x.hold, testHold := none }
    if took && !x.latched then { x with hold := .checking, rcheck := true }
    else { x with rcheck := x.hold == .checking }

/-- The cloche ends at the first executed start after the last measurement, or after the test was abandoned. -/
def State.clocheEnd (s : State) : State :=
  match s.be.test with
  | none => s
  | some t =>
    if !t.running || !(t.abandoned || t.ended.isSome) then s
    else
      let s := { s with be := { s.be with test := none } }
      let cs := s.covered t.id t.target
      let s := s.each cs fun s c => (s.updCell c (CellSt.setUnder false)).enterWarm c
      let s := if testTarget t.id == 2 then s.uncoverLane (laneOfNum t.target) t.tookLane else s
      match t.ended with
      | none => s
      | some (pass, _, _) => if pass then s.testPassed t.id t.target else s.testFailed t.id t.target

/-! ### Results (R410, R411) -/

def padCodes (n : Nat) (cs : List Nat) : List Nat := (cs ++ List.replicate n 3).take n

/-- The codes of a test's measurements: 3 for those that a protection latch kept from being made (R417). -/
def testCodes (t : TestSt) (cs : List Nat) : List Nat :=
  padCodes (testCount t.id) (if t.cut then cs.take (testCount t.id - 1) else cs)

/-- The result field of the completion. -/
def testResult (sig exp : Nat) (pass : Bool) (bad : Nat) : Bytes :=
  le 4 sig ++ le 4 exp ++ le 1 (b2n (!pass)) ++ zeros 1 ++ le 2 bad ++ zeros 4

/-- The last measurement has ended. -/
def execTestComplete (codes : List Nat) (s : State) : Res :=
  .next (
    match s.be.test with
    | some t =>
      if t.running && !t.abandoned && t.ended.isNone then
        let cs := testCodes t codes
        let sig := crc32c (cs.map (BitVec.ofNat 8))
        let exp := s.expected t.id
        let pass := sig == exp
        let bad := (cs.findIdx? (· != 0)).getD 0xFFFF
        let s := s.updTest fun t => { t with ended := some (pass, sig, bad) }
        let s := { s with id := { s.id with passes := notePass pass t.id t.target s.id.passes } }
        let s := s.refChange t.ref 0x21 (le 2 t.id ++ le 2 t.target ++ testResult sig exp pass bad)
        s.complete t.ref 0x0000 (testResult sig exp pass bad)
      else s
    | none => s)

/-- BE measures the quantities of R412: a test accepted or running is abandoned at the first out of window. -/
def execPreconditionCheck (q : Quantities) (s : State) : Res :=
  .next (
    if !s.pow.on || !s.pow.sv then s
    else
      let s := { s with be := { s.be with q := q } }
      match s.be.test with
      | none => s
      | some t =>
        match s.badQty q t.id t.target with
        | none => s
        | some (n, v) => s.abandonWith 0x8070 1 (le 1 n ++ le 4 v))

/-- BE measures the reference oscillator, every second. -/
def execOscillatorMeasurement (offset : Int) (s : State) : Res :=
  .next (if s.pow.on && s.pow.sv then { s with be := { s.be with osc := some offset } } else s)

/-! ### Staged changes and the test in hand (R417) -/

/-- A test is abandoned at the apply of a set that changes its target's configuration, its group, its bank or
the image. -/
def State.testAtApply (s : State) (old : Settings) (img : Bool) : State :=
  match s.be.test with
  | none => s
  | some t =>
    let cfg (c : Nat) : CellCfg := old.cells.getD c CellCfg.init
    let differs (c : Nat) : Bool := cfg c != s.cellCfg c
    let near (c : Nat) : Bool := c == t.target || (s.covered t.id t.target).contains c ||
      ((cfg c).ogroup != 0 && (cfg c).ogroup == (cfg t.target).ogroup)
    let changed := match testTarget t.id with
      | 0 => (List.range Config.nCells).any fun c => differs c && near c
      | 1 => (cellsOf t.target).any differs
      | _ => false
    if img || changed then s.abandonTest 0x80B0 3 else s

/-- Does an apply from old settings leave the pass of a test standing (R426)? -/
def State.passStands (s : State) (old : Settings) (p : Nat × Nat) : Bool :=
  let changed (c : Nat) : Bool := old.cells.getD c CellCfg.init != s.cellCfg c
  if testTarget p.1 == 0 then !changed p.2
  else if testTarget p.1 == 1 then !(cellsOf p.2).any changed
  else true

/-- The record of passes loses the targets whose configuration an apply changes (R426). -/
def State.passesAtApply (s : State) (old : Settings) : State :=
  { s with id := { s.id with passes := s.id.passes.filter (s.passStands old) } }

end Sys2Proof.Machine
end

