-- ==== Sys2Proof/Machine/Staging.lean ====
section
/-! DEFINITION. The consistency check of the cold frame, its apply, and force commands (11 R315 to R322, R331 to
R334, R336). -/

namespace Sys2Proof.Machine

/-! ### The check (R315, R316) -/

/-- A check's result: check code, failing entry, failing item, status of a graft's image. -/
structure CheckRes where
  code    : Nat
  ent     : Nat
  item    : Nat
  gstatus : Nat
  deriving DecidableEq, Repr

/-- Index of the first entry of one of the classes, of one of an item where that is given; 0xFFFF for none. -/
def firstEnt (es : List StgEntry) (clss : List Nat) (item : Option Nat) : Nat :=
  let exact := es.zipIdx.find? fun x => clss.contains x.1.cls && item == some x.1.index
  let any_ := es.zipIdx.find? fun x => clss.contains x.1.cls
  ((exact.orElse fun _ => any_).map (·.2)).getD 0xFFFF

/-- TYPE of the element with an instance ID, 0 for none. -/
def instType (img : Image) (inst : Nat) : Nat := (img.ents.find? (·.instid == inst)).elim 0 (·.typ)

/-- Is a force's kind allowed for its target, with a legal FPOS (R332)? -/
def forceAllowed (img : Image) (f : ForceEntry) : Bool :=
  match f.fkind with
  | 0 => true
  | 1 => f.fpos == 0
  | 2 => f.fpos == 0
  | 3 => f.fpos == 0 && instType img f.fid == 0x04
  | 4 => (f.fpos == 1 || f.fpos == 2) && instType img f.fid == 0x01
  | _ => false

/-- Does a force's target exist in an image? -/
def forceFound (img : Image) (f : ForceEntry) : Bool := f.fkind == 0 || fnumIn img f != 0xFFFF

/-- Code 0x08: an entry whose target is unknown or whose kind its type does not allow: its position, and the number of its
route or element. -/
def badForce (img : Image) (fs : List ForceEntry) : Option (Nat × Nat) :=
  (fs.zipIdx.find? fun x => !(forceFound img x.1 && forceAllowed img x.1)).map fun x => (x.2, fnumIn img x.1)

/-- Does a new image lack the target of a force that the old one has, or give it another TYPE? -/
def losesForce (old new : Image) (f : ForceEntry) : Bool :=
  f.fkind != 0 && forceFound old f &&
    (!forceFound new f || (f.fkind != 1 && instType old f.fid != instType new f.fid))

/-- Code 0x09: a live force whose target the new image lacks or retypes, and which the set neither clears nor rebinds to a
target of an allowed type in the new image (R334). -/
def lostForce (old new : Image) (live fs : List ForceEntry) : Option (Nat × Nat) :=
  ((live.zip fs).zipIdx.find? fun x =>
      let (l, f) := x.1
      losesForce old new l && f.fkind != 0 && (f.fid == l.fid || !(forceFound new f && forceAllowed new f))).map fun x =>
    (x.2, fnumIn old x.1.1)

/-- The checks of the settings with the codes 0x01 to 0x07. (log 57, DEDUCED) -/
def State.chkSettings (s : State) (e : CheckEnv) (st : Settings) : Option (Nat × Nat) :=
  match chkTc e st with
  | some n => some (1, n)
  | none =>
    if !chkFrame st then some (2, 0xFFFF)
    else match chkCells e st with
      | some n => some (3, n)
      | none =>
        match chkConns e st with
        | some n => some (4, n)
        | none =>
          if !st.cvsets.all cvSetOk then some (4, 0xFFFF)
          else if (st.nets.fst != s.set.nets.fst && st.nets.snd != s.set.nets.snd) || !chkNets st then some (5, 0xFFFF)
          else if !chkPair e st then some (6, 0xFFFF)
          else if st.grace == 0 && s.id.lc != .commissioning && s.id.lc != .bench then some (7, 0xFFFF)
          else (chkEsc st).map fun _ => (7, 0xFFFF)

/-- The classes that a check code concerns. -/
def codeClasses (code : Nat) : List Nat :=
  match code with
  | 1 => [0x01, 0x04, 0x08]
  | 2 => [0x03]
  | 3 => [0x02]
  | 4 => [0x04, 0x05]
  | 5 => [0x07]
  | 6 => [0x08]
  | 7 => [0x0B, 0x0A]
  | 8 => [0x0E]
  | 9 => [0x0E, 0x0D]
  | _ => [0x0D]

/-- A failing result with its entry: the one for the record with some index, where there is one. -/
def State.failAt (s : State) (code index item gstatus : Nat) : CheckRes :=
  ⟨code, firstEnt s.stage.entries (codeClasses code) (some index), item, gstatus⟩

/-- A failing result, its entry found by the failing item. -/
def State.failRes (s : State) (code item gstatus : Nat) : CheckRes := s.failAt code item item gstatus

/-- Checks against the image that the set will run on. -/
def State.checkOn (s : State) (c : Cand) (new : Option Image) : CheckRes :=
  let img := new.getD s.image
  match s.chkSettings (CheckEnv.of img s.id.modaddr) c.settings with
  | some (k, n) => s.failRes k n 0
  | none =>
    match new.bind fun g => lostForce s.image g (fullForces s.stage.forces) c.forces with
    | some (i, n) => s.failAt 9 i n 0
    | none =>
      match badForce img c.forces with
      | some (i, n) => s.failAt 8 i n 0
      | none =>
        match new with
        | none => ⟨0, 0xFFFF, 0xFFFF, 0⟩
        | some g =>
          match s.graftHeld g with
          | some (k, n) => s.failRes k n 0
          | none => if grftOk g c.settings.tc then ⟨0, 0xFFFF, 0xFFFF, 0⟩ else s.failRes 0x0D 0xFFFF 0

/-- What a correctly working lane finds of the staged set. A graft entry fails while a KIND 2 update session is open
(16 R438). -/
def State.checkSet (s : State) : CheckRes :=
  let c := s.candidate
  if c.graft == 0 then s.checkOn c none
  else if s.upd.sess.any (·.kind == 2) then s.failRes 0x0A 0xFFFF 0x8020
  else match s.graftImage c.graft c.settings with
    | .error st => s.failRes 0x0A 0xFFFF st
    | .ok g => s.checkOn c (some g)

/-! ### Records of the steps (R336) -/

def State.stgId (s : State) : Nat := stgid s.stage.entries

/-! ### Ends of an accepted apply -/

/-- Body of the change-log record 0x02: STGID, CHKCODE, FAILENT, each lane's result. -/
def State.checkRec (s : State) (code ent : Nat) (passed : Lane → Bool) : Bytes :=
  le 4 s.stgId ++ le 1 code ++ zeros 1 ++ le 2 ent ++ Lane.all.flatMap fun l => le 1 (b2n (passed l))

/-- A running check ends because the cold frame changed: INCONSISTENT_STAGE, CHKCODE 0x0F; no lane has passed. -/
def State.breakCheck (s : State) : State :=
  match s.stage.checking with
  | none => s
  | some r =>
    let s := { s with stage := { s.stage with checking := none, chkcode := 0x0F, st := .opened } }
    (s.refChange r 0x02 (s.checkRec 0x0F 0xFFFF fun _ => false)).complete r 0x8030 []

/-- An accepted apply that is never made (R314, R316): INCONSISTENT_STAGE, CHKCODE 0x0F, its generation removed. -/
def State.cancelApply (s : State) : State :=
  match s.stage.apply with
  | none => s
  | some a =>
    ({ s with
        stage := { s.stage with apply := none, pendingGen := none, chkcode := 0x0F, st := .opened }
        pair := { s.pair with applyOt := none } }).complete a.ref 0x8030 []

/-- An accepted apply that completes RETRY: the cold frame is OPEN again (R312, R318, R322). -/
def State.retryApply (s : State) : State :=
  match s.stage.apply with
  | none => s
  | some a =>
    ({ s with
        stage := { s.stage with apply := none, pendingGen := none, st := .opened }
        pair := { s.pair with applyOt := none } }).complete a.ref 0x80B0 []

/-! ### What an applied change does to cells and connections (06 R202, 07 R225, 08 R247) -/

/-- The latches and runs of a channel ended. -/
def ChSt.clearPair (ch : ChSt) : ChSt := { ch with latch := false, bothoff := false, run := none }

/-- Does a change of a cell's record put it into warm-up and clear its latches (06 R202)? -/
def needsWarm (a b : CellCfg) : Bool :=
  a.cmode != b.cmode || (cIn b && (cPair a != cPair b || cAnti a != cAnti b))

/-- Does PTEST of an input cell rise? The cell enters warm-up, and its latches stand. -/
def ptestRises (a b : CellCfg) : Bool := !cPtest a && cPtest b && cIn a

/-- Does a change concern the pair a cell belongs to? -/
def pairChanged (a b : CellCfg) : Bool := cPair a != cPair b || cAnti a != cAnti b

/-- Cells put into warm-up by the change from old settings to the live ones. -/
def State.warmChanged (s : State) (old : Settings) : State :=
  s.each (List.range Config.nCells) fun s c =>
    let hit := needsWarm (cfgAt old c) (s.cellCfg c)
    let mate := c % 2 == 1 && pairChanged (cfgAt old (c - 1)) (s.cellCfg (c - 1))
    if hit || mate then (s.updCell c fun x => { x with ch := x.ch.map ChSt.clearPair }).enterWarm c
    else if ptestRises (cfgAt old c) (s.cellCfg c) then s.enterWarm c else s

/-- log 39, DEDUCED. -/
def ConnSt.setChanged (c : ConnSt) : ConnSt := { c with changed := true }

/-- Connections whose record changed return to NOTEST at this start. (log 39, DEDUCED) -/
def State.markConns (s : State) (old : Settings) : State :=
  s.each (s.conns.map (·.num)) fun s n =>
    if connOf old n == connOf s.set n then s else s.updConn n ConnSt.setChanged

/-- Send and receive records of the connections now in use: those in use before are kept. -/
def State.syncRecs (s : State) : State :=
  { s with app := { s.app with
      sends := (connsOf 1 s.set).map fun n => (s.app.sends.find? (·.conn == n)).getD (sendInit n)
      recvs := (connsOf 2 s.set).map fun n => (s.app.recvs.find? (·.conn == n)).getD (recvInit n false) } }

/-- A network whose module is no ring manager any more blocks no port (08 R257, R259). -/
def NetSt.ringOff (x : NetSt) : NetSt :=
  { x with blocked := false, closed := false, ringlast := none, ringsince := none, ringsent := none }

def State.ringModes (s : State) (old : Settings) : State :=
  s.each [Net.a, Net.b] fun s n =>
    if (old.nets.at n).ringmode == 2 && (s.set.nets.at n).ringmode != 2 then s.updNet n NetSt.ringOff else s

/-- The live settings replaced; PROLE, PADDR and PKEY wait for the next boot (09 R261). (log 59, DEDUCED) -/
def State.putSettings (s : State) (st : Settings) : State :=
  let old := s.set
  let p := { st.pair with prole := old.pair.prole, paddr := old.pair.paddr, pkey := old.pair.pkey }
  let s := { s with set := { st with pair := p }, stage := { s.stage with bootPair := some st.pair } }
  (((s.warmChanged old).syncConns.markConns old).syncRecs).ringModes old

/-- The presets that the staged set names, of all that staged sets have written. -/
def State.presetsNow (s : State) (ps : List (Nat × Nat × Nat)) : List (Nat × Nat × Nat) :=
  ps.filter fun p => s.stage.entries.any fun e =>
    e.cls == 0x0C && e.off ≤ p.2.1 && p.2.1 + 2 ≤ e.off + e.value.length && (s.ent? e.index).any (·.instid == p.1)

/-- An element with the presets of a staged set. -/
def presetElem (ps : List (Nat × Nat × Nat)) (e : Elem) : Elem := { e with body := withPresets ps e.instid e.body }

/-! ### Forces of a staged set (R334) -/

/-- The force table as a set leaves it: a changed entry takes the credential and the type. -/
def forceAfter (img : Image) (cred : Nat) (old new : ForceEntry) : ForceEntry :=
  if old == new then old
  else if new.fkind == 0 then forceInit
  else { new with fcred := cred, ftype := if new.fkind == 1 then 0 else instType img new.fid }

/-- Body of the change-log records 0x07 and 0x08. -/
def forceRec (f : ForceEntry) : Bytes := le 1 f.fkind ++ zeros 3 ++ le 4 f.fid ++ le 2 f.fnum ++ le 1 f.fpos

/-- The change-log record of one changed entry. (log 60, DEDUCED) -/
def State.forceChange (s : State) (r : CmdRef) (old new : ForceEntry) : State :=
  if old == new then s
  else if new.fkind == 0 then s.refChange r 0x08 (forceRec old)
  else if old.fkind == 0 then s.refChange r 0x07 (forceRec new)
  else s.refChange r 0x09 (le 4 old.fid ++ le 4 new.fid)

/-- The force entries of a set applied, on the image now running. -/
def State.putForces (s : State) (r : CmdRef) (fs : List ForceEntry) : State :=
  let old := fullForces s.stage.forces
  let new := (old.zip fs).map fun x => forceAfter s.image r.cred x.1 x.2
  if old == new then s
  else
    let s := { s with stage := { s.stage with forces := new, ftgen := wrapInc 32 s.stage.ftgen } }
    let s := s.bindForces.applyForceMarks
    s.each (old.zip (fullForces s.stage.forces)) fun s x => s.forceChange r x.1 x.2

/-! ### The apply (R317 to R321) -/

/-- Does a set hold graft or force entries? A graft entry with GIMGID 0 is no graft (R325). -/
def State.hasForces (s : State) : Bool := s.candidate.graft != 0 || s.stage.entries.any (·.cls == 0x0E)

/-- The generation that an apply will make current. -/
def State.nextGen (s : State) : Generation :=
  let c := s.candidate
  { gen := wrapInc 32 s.stage.gen, settings := c.settings, presets := c.presets, forces := c.forces }

/-- Records of kind 0x04: the apply, then one for each entry with its old and new value, keys as 0. -/
def State.applyRecords (s : State) (r : CmdRef) : State :=
  let c := s.live
  let s := s.refChange r 0x04 (le 4 s.stgId ++ le 8 s.cyc.cyccnt ++ le 4 (wrapInc 32 s.stage.gen))
  s.each s.stage.entries fun s e =>
    let hide (b : Bytes) : Bytes := if e.cls == 0x06 then zeros b.length else b
    s.refChange r 0x04 (le 1 e.cls ++ zeros 1 ++ le 2 e.index ++ le 2 e.off ++ le 2 e.value.length ++
      padTo 32 (hide (s.liveBytes c e)) ++ padTo 32 (hide e.value))

/-- The staged set made live at an executed start: values, graft, forces, in this order (R319). (log 102, DESIGN CHOICE) -/
def State.makeApply (s : State) (a : ApplySt) (new : Option Image) : State :=
  let c := s.candidate
  let old := s.live
  let s := s.applyRecords a.ref
  let s := { s with
    stage := { s.stage with
      st := .applying, apply := none, applying := some a.ref, applycyc := s.cyc.cyccnt, presets := c.presets
      backup := some { gen := s.stage.gen, settings := old.settings, presets := old.presets, forces := old.forces } }
    pair := { s.pair with applyOt := none, farApply := none, farOt := none } }
  let s := s.putSettings c.settings
  let s := { s with app := { s.app with elems := s.app.elems.map (presetElem (s.presetsNow c.presets)) } }
  let s := match new with
    | some img => s.graft a.ref img
    | none => s
  let s := (s.testAtApply old.settings new.isSome).passesAtApply old.settings
  s.putForces a.ref c.forces

/-- The graft is not made at its start: CHECKED again, record 0x06, INCONSISTENT_STAGE (R328). -/
def State.graftFails (s : State) (a : ApplySt) (item : Nat) : State :=
  (({ s with
      stage := { s.stage with apply := none, pendingGen := none, st := .checked }
      pair := { s.pair with applyOt := none, farApply := none, farOt := none } }).refChange a.ref 0x06 (le 2 item)).complete a.ref 0x8030 []

/-- An apply refused at its start because FTGEN has moved (R321): OPEN again. -/
def State.ftgenFails (s : State) (a : ApplySt) : State :=
  ({ s with
      stage := { s.stage with apply := none, pendingGen := none, st := .opened }
      pair := { s.pair with applyOt := none, farApply := none, farOt := none } }).complete a.ref 0x8030 []

/-- An accepted apply at its start. -/
def State.doApply (s : State) (a : ApplySt) : State :=
  let g := s.candidate.graft
  if s.hasForces && s.stage.ftgen != s.stage.ftgenChk then s.ftgenFails a
  else if g == 0 then s.makeApply a none
  else match s.graftImage g s.candidate.settings with
    | .error _ => s.graftFails a 0xFFFF
    | .ok img =>
      match s.graftHeld img with
      | some (_, n) => s.graftFails a n
      | none => s.makeApply a (some img)

/-- What keeps an apply waiting at a start (R318): a lane in RESYNC, or the service region out of service. -/
def State.applyBlocked (s : State) : Bool := s.resyncLane.isSome || !s.pow.sv

/-- Is an apply bound to the partner (R322)? -/
def State.pairBound (s : State) : Bool :=
  s.pair.st == .followIn || (s.pair.st == .lead && s.partnerInStep)

/-- The accepted apply at an executed start: counted, waiting, failed for want of two checked lanes, or made. (log 89, DEDUCED) -/
def State.applyStep (s : State) : State :=
  match s.stage.apply with
  | none => s
  | some a =>
    if s.pairBound && !a.listed then s
    else
      let wait := a.wait - 1
      let s := { s with stage := { s.stage with apply := some { a with wait := wait } } }
      if 0 < wait || s.applyBlocked then s
      else if (s.actives.filter fun l => s.stage.passedLanes.contains l).length < 2 then s.retryApply
      else s.doApply { a with wait := wait }

/-- The done mark of the apply cycle: the generation is current, the apply completes OK, the cold frame is EMPTY
(R319). After a graft the slot of the new image is the running one. (log 58, DEDUCED) -/
def State.finishApply (s : State) : State :=
  match s.stage.applying with
  | none => s
  | some r =>
    let sl := s.upd.app.sel (!s.upd.appRun)
    let grafted := sl.valid && sl.env.imgid == s.image.imgid && (s.upd.app.sel s.upd.appRun).env.imgid != s.image.imgid
    let s := { s with
      stage := { s.stage with gen := wrapInc 32 s.stage.gen, pendingGen := none, backup := none, applying := none }
      upd := { s.upd with appRun := if grafted then !s.upd.appRun else s.upd.appRun } }
    (s.complete r 0x0000 []).emptyFrame

/-- At boot a generation still marked pending is discarded and the previous one used (R320); PROLE, PADDR and
PKEY as applied come into use. (log 59, DEDUCED) (log 77, DEDUCED). -/
def State.bootSettings (s : State) : State :=
  let s := match s.stage.pendingGen with
    | some g => s.ownChange 0x0B (le 4 g.gen ++ le 4 s.stage.gen)
    | none => s
  let s := match s.stage.backup with
    | some b =>
      { s with
        set := b.settings
        stage := { s.stage with presets := b.presets, forces := b.forces, bootPair := none } }
    | none =>
      { s with
        set := { s.set with pair := s.stage.bootPair.getD s.set.pair }
        stage := { s.stage with bootPair := none } }
  { s with stage := { s.stage with pendingGen := none, backup := none, apply := none, applying := none } }

/-! ### Force commands (R333) -/

/-- The entry that a force command names. -/
def cmdEntry (f : ForceCmd) : ForceEntry := { forceInit with fkind := f.fkind, fpos := f.fpos, fid := f.fid }

def sameForce (a b : ForceEntry) : Bool := a.fkind == b.fkind && a.fid == b.fid && a.fpos == b.fpos

/-- A force completes with a status and a check code. -/
def State.forceDone (s : State) (f : ForceCmd) (status code : Nat) : State := s.complete f.ref status (le 1 code)

/-- A force is set. -/
def State.setForceNow (s : State) (f : ForceCmd) : State :=
  let e := cmdEntry f
  let fs := fullForces s.stage.forces
  if !forceFound s.image e then s.forceDone f 0x8080 0
  else if !forceAllowed s.image e then s.forceDone f 0x8030 0x08
  else if fs.any (sameForce e) then s.forceDone f 0x0000 0
  else if f.fkind == 4 && fs.any (fun x => x.fkind == 4 && x.fid == f.fid) then s.forceDone f 0x8030 0x08
  else match fs.findIdx? (·.fkind == 0) with
    | none => s.forceDone f 0x8030 0x08
    | some i => (s.putForces f.ref (modAt (fun _ => e) i fs)).forceDone f 0x0000 0

/-- A force is cleared: the command names its kind and its target, not a position (12 R358). -/
def State.clearForceNow (s : State) (f : ForceCmd) : State :=
  let fs := fullForces s.stage.forces
  match fs.findIdx? fun x => x.fkind == f.fkind && x.fid == f.fid with
  | none => s.forceDone f 0x8080 0
  | some i => (s.putForces f.ref (modAt (fun _ => forceInit) i fs)).forceDone f 0x0000 0

def State.forceNow (s : State) (f : ForceCmd) : State := if f.set then s.setForceNow f else s.clearForceNow f

/-- The force commands at an executed start: those whose second start this is, or a later one, are applied. -/
def State.forceStep (s : State) : State :=
  let ws := s.stage.forceWait.map fun w => { w with wait := w.wait - 1 }
  if s.applyBlocked then { s with stage := { s.stage with forceWait := ws } }
  else
    let now := ws.filter (·.wait == 0)
    let s := { s with stage := { s.stage with forceWait := ws.filter (·.wait != 0) } }
    s.each now fun s w => s.forceNow w.cmd

/-! ### The end of a stage check -/

/-- What a lane found: a correct lane's result, or where it differs the other one. -/
def State.lanePassed (s : State) (res : CheckRes) (differs : Trio Bool) (l : Lane) : Bool :=
  s.isActive l && ((res.code == 0) != differs.get l)

/-- The check completes with a result; `passed` says which lanes found the set in order. -/
def State.endCheck (s : State) (r : CmdRef) (res : CheckRes) (lanes : List Lane) (passed : Lane → Bool) : State :=
  let ok := res.code == 0
  let s := { s with stage := { s.stage with
      checking := none, chkcode := res.code, failent := res.ent, failitem := res.item, gstatus := res.gstatus
      st := if ok then .checked else .opened, passedLanes := if ok then lanes else [], ftgenChk := s.stage.ftgen } }
  let s := s.refChange r 0x02 (s.checkRec res.code res.ent passed)
  s.complete r (if ok then 0x0000 else 0x8030) []

/-- Every ACTIVE lane has checked the set. `differs` names lanes that pass where a correct lane fails, or fail where it passes. With
three lanes ACTIVE the odd one is withdrawn, class F3; otherwise differing results fail the check, code 0x0E,
class F1. -/
def execStageCheckDone (differs : Trio Bool) (s : State) : Res :=
  .next (
    match s.stage.checking with
    | none => s
    | some r =>
      let res := s.checkSet
      let odd := s.actives.filter fun l => differs.get l
      let found := s.lanePassed res differs
      match odd with
      | [] => s.endCheck r res s.actives found
      | [l] =>
        if s.nActive == 3 then
          let good := s.actives.filter (· != l)
          (s.endCheck r res good found).collectOpen 2 l.num 0 0 8 3
        else (s.endCheck r ⟨0x0E, 0xFFFF, 0xFFFF, 0⟩ [] found).collectOpen 3 3 0x1C 0 9 1
      | _ => (s.endCheck r ⟨0x0E, 0xFFFF, 0xFFFF, 0⟩ [] found).collectOpen 3 3 0x1C 0 9 1)

end Sys2Proof.Machine
end

