-- ==== Sys2Proof/Machine/Bridge.lean ====
section
/-! DEFINITION. The span bridge (13 R363 to R375): local requests, sending in order, inbound service, completions,
timeouts and held results. -/

namespace Sys2Proof.Machine

/-! ### Local requests -/

def wEnable (w : Window) : Bool := w.flags.getLsbD 0
def wNv (w : Window) : Bool := w.flags.getLsbD 1
def wWrite (w : Window) : Bool := w.flags.getLsbD 2
def wUser (w : Window) : Initiator := if w.flags.getLsbD 3 then .vk else .sp

/-- Is the SB reset or hedged? -/
def State.sbOut (s : State) : Bool := s.blockOut 0x1A

/-- May an initiator start transfers in this module state (R375)? -/
def State.sbAllowed (s : State) (ini : Initiator) : Bool :=
  match ini with
  | .sp => s.pow.mod == .rejoin || s.pow.mod == .service || s.pow.mod == .safe
  | .vk => s.pow.mod == .service && s.cyc.mode == .run

/-- BLEN is 4 to 256 and a multiple of 4. -/
def lenOk (n : Nat) : Bool := 4 ≤ n && n ≤ 256 && n % 4 == 0

/-- Why a request is refused at once; none where it is taken. Operation 1 read, 2 write, 3 posted write. (log 62, DESIGN CHOICE) -/
def State.sbRefusal (s : State) (ini : Initiator) (win off op len : Nat) : Option Nat :=
  let w := s.window win
  if s.sbOut then some 3
  else if !s.sbAllowed ini || 64 ≤ win || !wEnable w then some 5
  else if !lenOk len then some 6
  else if 0x10000 < off + len || wUser w != ini then some 2
  else if op != 1 && !wWrite w then some 2
  else if op == 3 && (!wNv w || ini == .vk) then some 2
  else none

/-- The answer to a local request. -/
def State.sbAnswer (s : State) (ini : Initiator) (win off op fstat : Nat) (retry : Bool) (data : Bytes) : State :=
  s.updBridge fun b => { b with done := b.done ++ [⟨ini, win, off, op, fstat, retry, data⟩] }

/-- The next transaction number, skipping 0 (R366). -/
def State.takeSbSeq (s : State) : Nat × State :=
  let n := if wrapInc 32 s.bridge.seq == 0 then 1 else wrapInc 32 s.bridge.seq
  (n, s.updBridge fun b => { b with seq := n })

/-! ### Sending (R366, R369) -/

/-- Bridge header and data. -/
def bridgePayload (bop bstat blen baddr : Nat) (data : Bytes) : Bytes :=
  bigE 1 bop ++ bigE 1 bstat ++ bigE 2 blen ++ bigE 4 baddr ++ data

/-- A bridge frame sent on both networks. -/
def State.sendBridge (s : State) (dst seq : Nat) (payload : Bytes) : State :=
  s.sendBoth none (withCrc (s.newGvt 8 dst 0 seq 0 payload))

/-- The request of a transfer sent. -/
def State.sendXfer (s : State) (x : Xfer) : State :=
  s.sendBridge x.fmod x.seq
    (bridgePayload x.op 0 x.len x.addr (if x.op == 1 then [] else x.data))

def Xfer.mark (ot : Nat) (x : Xfer) : Xfer := { x with sent := some ot }

/-- The next transfer of a window sent where none is in flight. -/
def State.pumpWindow (s : State) (w : Nat) : State :=
  let mine := s.bridge.out.filter (·.win == w)
  if mine.any (·.sent.isSome) then s
  else match mine with
    | [] => s
    | x :: _ =>
      (s.updBridge fun b => { b with out := modWhere (·.seq == x.seq) (Xfer.mark s.time.ot) b.out }).sendXfer x

/-- A transfer ends at this module, and the next of its window goes. -/
def State.finishXfer (s : State) (x : Xfer) (fstat : Nat) (data : Bytes) : State :=
  let s := s.endXfer x fstat data
  let s := if x.op == 3 && fstat != 0 then s.collect (fBlk 0x1A 0x01) else s
  s.pumpWindow x.win

/-! ### Issue -/

/-- Do two ranges of one window overlap? -/
def overlap (o1 n1 o2 n2 : Nat) : Bool := o1 < o2 + n2 && o2 < o1 + n1

def Xfer.spoil (win off len : Nat) (x : Xfer) : Xfer :=
  if x.op == 1 && x.win == win && overlap x.off x.len off len then { x with stale := true } else x

/-- A local write discards the held and pending results it overlaps (R368). -/
def State.spoil (s : State) (win off len : Nat) : State :=
  s.updBridge fun b => { b with
    held := b.held.filter fun h => !(h.win == win && overlap h.off h.len off len)
    out := b.out.map (Xfer.spoil win off len) }

/-- A transfer as it is issued. -/
def State.newXfer (s : State) (seq : Nat) (ini : Initiator) (win off op len : Nat) (data : Bytes) : Xfer :=
  { seq := seq, win := win, ini := ini, off := off, fmod := (s.window win).fmod, wtout := (s.window win).wtout
    addr := s.baddr win off, op := op, len := len, data := data, issued := s.time.ot, sent := none, busy := none, stale := false }

/-- A request into an outbound slot. -/
def State.sbTake (s : State) (ini : Initiator) (win off op len : Nat) (data : Bytes) : State :=
  if 32 ≤ s.bridge.out.length then s.sbAnswer ini win off op 3 false []
  else
    let (seq, s) := (if ini == .sp then s.spendToken .sv else s).takeSbSeq
    let x := s.newXfer seq ini win off op len data
    (s.updBridge fun b => { b with out := b.out ++ [x], timedOut := b.timedOut.filter (· != seq) }).pumpWindow win

/-- A posted write that completes with 0x05 where it is issued: its initiator learns no result, and the failure is logged
(R371, R375). -/
def State.postedOff (s : State) (win off : Nat) (data : Bytes) : State :=
  let (seq, s) := s.takeSbSeq
  s.finishXfer (s.newXfer seq .sp win off 3 data.length data) 5 []

/-- A write or a posted write. A refusal of a hedged SB is reported as RETRY (R375). -/
def State.sbIssueWrite (s : State) (ini : Initiator) (win off op : Nat) (data : Bytes) : State :=
  match s.sbRefusal ini win off op data.length with
  | some st => if op == 3 && st == 5 then s.postedOff win off data else s.sbAnswer ini win off op st (st == 3) []
  | none => (s.spoil win off data.length).sbTake ini win off op data.length data

/-- Fetches in progress whose results are still wanted. -/
def State.fetching (s : State) : List Xfer := s.bridge.out.filter fun x => x.op == 1 && !x.stale

def sameRead (ini : Initiator) (win off len : Nat) (h : HeldRes) : Bool :=
  h.ini == ini && h.win == win && h.off == off && h.len == len

/-- A read: a held result, RETRY while its fetch runs, else RETRY with a new fetch (R368). -/
def State.sbIssueRead (s : State) (ini : Initiator) (win off len : Nat) : State :=
  match s.sbRefusal ini win off 1 len with
  | some st => s.sbAnswer ini win off 1 st (st == 3) []
  | none =>
    match s.bridge.held.find? (sameRead ini win off len) with
    | some h =>
      (s.updBridge fun b => { b with held := b.held.filter fun x => !sameRead ini win off len x }).sbAnswer
        ini win off 1 h.fstat false h.data
    | none =>
      if s.fetching.any fun x => x.ini == ini && x.win == win && x.off == off && x.len == len then
        s.sbAnswer ini win off 1 0 true []
      else if 32 ≤ s.bridge.held.length + s.fetching.length then s.sbAnswer ini win off 1 0 true []
      else if 32 ≤ s.bridge.out.length then s.sbAnswer ini win off 1 3 false []
      else (s.sbAnswer ini win off 1 0 true []).sbTake ini win off 1 len []

/-- A non-posted write of the service processor (R367). (log 64, DEDUCED) -/
def execSbWrite (win off : Nat) (data : Bytes) (s : State) : Res :=
  .next (if s.cmUp && s.pow.sv then s.sbIssueWrite .sp win off 2 data else s)

/-- A read of the service processor (R368). -/
def execSbRead (win off len : Nat) (s : State) : Res :=
  .next (if s.cmUp && s.pow.sv then s.sbIssueRead .sp win off len else s)

/-- A posted write (R371). -/
def execSbPostedWrite (win off : Nat) (data : Bytes) (s : State) : Res :=
  .next (if s.cmUp && s.pow.sv then s.sbIssueWrite .sp win off 3 data else s)

/-! ### Lane transfers (R374) -/

/-- One transfer that two ACTIVE lanes have issued identically. -/
def State.laneTransfer (s : State) (t : LaneTransfer) : State :=
  match t.op with
  | .read n => s.sbIssueRead .vk t.win t.off n
  | .write d => s.sbIssueWrite .vk t.win t.off 2 d

/-- The transfers of a lane, each with how many like it the lane issued before. -/
def occurrences : List LaneTransfer → List LaneTransfer → List (LaneTransfer × Nat)
  | _, [] => []
  | seen, t :: ts => (t, seen.count t) :: occurrences (t :: seen) ts

/-- The lanes' transfers as they come to the SB: the first of each lane, then the second of each. -/
def arrivals (lists : List (List LaneTransfer)) : List (LaneTransfer × Nat) :=
  let qs := lists.map (occurrences [])
  (List.range ((qs.map (·.length)).foldl max 0)).flatMap fun p => qs.filterMap (·[p]?)

/-- The transfers accepted, in the order in which a second lane issued them. -/
def agreed : List (LaneTransfer × Nat) → List (LaneTransfer × Nat) → List LaneTransfer
  | _, [] => []
  | seen, x :: xs => (if seen.count x == 1 then [x.1] else []) ++ agreed (x :: seen) xs

/-- The transfers of a cycle: those that two ACTIVE lanes issued are taken, as often as they did; each that one lane alone
issued is refused with detector 0x05. -/
def State.laneTransfers (s : State) (issued : Trio (List LaneTransfer)) : State :=
  let all := arrivals (s.actives.map issued.get)
  let s := s.each s.actives fun s l => s.each (issued.get l) fun s _ => s.spendToken (tokenOf l)
  let s := s.each (agreed [] all) State.laneTransfer
  s.each (all.filter fun x => all.count x == 1) fun s _ => s.collect (fBlk 0x1A 0x05)

/-- At a start, completions and held results for the lanes are frozen. -/
def heldDone (h : HeldRes) : SbDone := ⟨.vk, h.win, h.off, 1, h.fstat, false, h.data⟩

def State.freezeBridge (s : State) : State :=
  s.updBridge fun b => { b with
    laneDone := b.done.filter (·.ini == .vk) ++ (b.held.filter (·.ini == .vk)).map heldDone
    done := b.done.filter fun d => !(d.ini == .vk) }

/-! ### Inbound service (R365, R366, R373) -/

/-- The status of an inbound transfer: BADLEN, not mapped, or a write to a read-only range. -/
def inboundStat (bop addr len : Nat) : Nat :=
  let within (base size : Nat) : Bool := base ≤ addr && addr + len ≤ base + size
  if !lenOk len then 6
  else if within 0x100000 0x10000 then 0
  else if within 0 0x2000 || within 0x2D000 0x1000 then (if bop == 1 then 0 else 2)
  else 1

/-- Bytes that an inbound read finds. -/
def State.spaceRead (s : State) (addr len : Nat) : Bytes :=
  if 0x100000 ≤ addr then Memory.reads s.bridge.bench (addr - 0x100000) len else s.windowRead addr len

/-- Is an inbound slot in use? A transfer completes within 20 µs, and meanwhile holds it for as many further requests as the
free value says. (log 128, DESIGN CHOICE) -/
def BridgeSt.slotUsed (b : BridgeSt) (i : Nat) : Bool := (b.inslots.getD i none).any (b.inctr < ·)

/-- An inbound request counted, and its slot taken. -/
def BridgeSt.takeSlot (i : Nat) (b : BridgeSt) : BridgeSt :=
  { b with inslots := modAt (fun _ => some (b.inctr + 1 + Config.slotHold b.inctr)) i b.inslots, inctr := b.inctr + 1 }

/-- The slot an inbound request finds (R373): a shared one, or the reserved one for a module that this SB has a
transfer to. -/
def State.inSlot (s : State) (src : Nat) : Option Nat :=
  match (List.range 15).find? fun i => !s.bridge.slotUsed i with
  | some i => some i
  | none =>
    if !s.bridge.slotUsed 15 && s.bridge.out.any (fun x => x.fmod == src && x.sent.isSome)
    then some 15 else none

/-- An inbound request executed in its slot: status and data, with the write made. -/
def State.serve (s : State) (bop addr len : Nat) (data : Bytes) : Nat × Bytes × State :=
  let st := inboundStat bop addr len
  if st != 0 then (st, [], s)
  else if bop == 1 then (0, s.spaceRead addr len, if addr < 0x100000 then s.seeRing addr len else s)
  else (0, [], s.updBridge fun b => { b with bench := Memory.writes (addr - 0x100000) data b.bench })

/-- A completion kept, at most 32 for each initiating module. -/
def keepDone (k : KeptDone) (ks : List KeptDone) : List KeptDone :=
  let mine := (ks.filter (·.src == k.src)).take 31
  k :: mine ++ ks.filter fun x => !(x.src == k.src)

/-- An inbound request: a repeated one is answered from the kept completion. (log 65, DEDUCED) -/
def State.inbound (s : State) (g : Gvt) : State :=
  let src := g.src.toNat
  match s.bridge.kept.find? fun k => k.src == src && k.seq == g.seq with
  | some k => s.sendBoth none k.gvt
  | none =>
    let p := g.payload
    let bop := ofLe (slice p 0 1)
    let len := ofLe (slice p 2 2).reverse
    let addr := ofLe (slice p 4 4).reverse
    let answer (s : State) (st : Nat) (d : Bytes) : Gvt :=
      withCrc (s.newGvt 8 src 0 g.seq 0 (bridgePayload (bop + 0x80) st len addr d))
    match s.inSlot src with
    | none => (s.updBridge fun b => { b with cntbusy := satInc 32 b.cntbusy, inctr := b.inctr + 1 }).sendBoth none (answer s 3 [])
    | some i =>
      let (st, d, s) := s.serve bop addr len ((p.drop 8).take len)
      let a := answer s st d
      let s := s.updBridge fun b => { b.takeSlot i with
        cntresv := if i == 15 then satInc 32 b.cntresv else b.cntresv
        kept := keepDone ⟨src, g.seq, a⟩ b.kept }
      s.sendBoth none a

/-! ### Completions (R366, R368, R370) -/

def Xfer.setBusy (t : Option Nat) (x : Xfer) : Xfer := { x with busy := t }

/-- A completion arrives. (log 63, DEDUCED) -/
def State.completion (s : State) (g : Gvt) : State :=
  let p := g.payload
  let st := ofLe (slice p 1 1)
  match s.bridge.out.find? fun x => x.seq == g.seq && x.sent.isSome && x.fmod == g.src.toNat with
  | none =>
    if st != 3 && s.bridge.timedOut.contains g.seq then s.updBridge fun b => { b with cntlate := satInc 32 b.cntlate } else s
  | some x =>
    if st == 3 then
      if x.busy.isSome then s
      else s.updBridge fun b => { b with
        cntbusy := satInc 32 b.cntbusy
        out := modWhere (·.seq == x.seq) (Xfer.setBusy (some s.time.ot)) b.out }
    else s.finishXfer x st (p.drop 8)

/-- The telegram engine takes frames of a network. -/
def State.tgTakes (s : State) (net : Net) (f : Frame) : Bool := s.cmUp && s.netUp net && !s.tgReset && isGvt f

/-- What a bridge or tunnel frame must pass before it is handed on: the frame's own checks of R244, reserved bits 0 (08 R231). -/
def State.handedOn (s : State) (net : Net) (f : Frame) : Bool :=
  s.cmUp && s.netUp net && !s.tgReset && s.frameOk net f && reservedOk f.gvt

/-- TV checks the CRC-32C; a frame that fails is counted by detector 0x03. -/
def State.tvFail (s : State) : State :=
  (s.updBridge fun b => { b with cntchk := satInc 32 b.cntchk }).collect (fBlk 0x1A 0x03)

/-- A GVT of TYPE 0x8 arrives: a request is served in every module state, a completion ends its transfer. -/
def execBridgeFrameReceived (net : Net) (f : Frame) (s : State) : Res :=
  .next (
    let g := f.gvt
    if g.typ != 8 || !s.tgTakes net f then s
    else s.notOwn f <|
    if !s.handedOn net f then s
    else if s.blockOut 0x1E then s
    else if !crcOkGvt g then s.tvFail
    else if s.sbOut then s
    else
      let bop := ofLe (slice g.payload 0 1)
      if bop == 1 || bop == 2 || bop == 3 then s.inbound g
      else if bop == 0x81 || bop == 0x82 || bop == 0x83 then s.completion g
      else s)

/-- No completion within WTOUT of the first sending: FSTAT 0x04, detector 0x02. (log 63, DEDUCED) -/
def execSbTransferTimeout (seq : Nat) (s : State) : Res :=
  .next (
    match s.bridge.out.find? (·.seq == seq) with
    | some x =>
      if x.sent.any (fun t => t + x.wtout ≤ s.time.ot) && s.cmUp then
        let s := s.updBridge fun b => { b with cnttout := satInc 32 b.cnttout, timedOut := seq :: b.timedOut }
        (s.collect (fBlk 0x1A 0x02)).finishXfer x 4 []
      else s
    | none => s)

/-- A request answered BUSY goes again 1 ms later under the same SEQ. -/
def execSbBusyRetry (seq : Nat) (s : State) : Res :=
  .next (
    match s.bridge.out.find? (·.seq == seq) with
    | some x =>
      if x.busy.any (fun t => t + 1 ≤ s.time.ot) && s.cmUp then
        (s.updBridge fun b => { b with out := modWhere (·.seq == seq) (Xfer.setBusy none) b.out }).sendXfer x
      else s
    | none => s)

/-- A held result that nobody collects within 50 ms: discarded, detector 0x04. -/
def execSbHeldResultExpiry (vk : Bool) (win off len : Nat) (s : State) : Res :=
  .next (
    let ini : Initiator := if vk then .vk else .sp
    let old (h : HeldRes) : Bool := sameRead ini win off len h && h.since + 50 ≤ s.time.ot
    if s.bridge.held.any old && s.cmUp then
      (s.updBridge fun b => { b with held := b.held.filter fun h => !old h, cntexp := satInc 32 b.cntexp }).collect
        (fBlk 0x1A 0x04)
    else s)

end Sys2Proof.Machine
end

