-- ==== Sys2Proof/Machine/LifeCycle.lean ====
section
/-! DEFINITION. Life-cycle states (15 R420 to R430): SERVICE-MAINTENANCE, the transitions and their conditions,
tamper detection. -/

namespace Sys2Proof.Machine

/-- The vital cycle runs in this life-cycle state (R420). -/
def LcState.cycle : LcState → Bool
  | .commissioning => true
  | .service => true
  | .maintenance => true
  | .bench => true
  | _ => false

/-- Self-test is admitted (R414, R420). -/
def LcState.tests : LcState → Bool
  | .commissioning => true
  | .maintenance => true
  | .bench => true
  | _ => false

/-- SERVICE and its sub-state. -/
def LcState.inService : LcState → Bool
  | .service => true
  | .maintenance => true
  | _ => false

/-- The last letter of the ordering code: S, H or D (12 R344, 18 R480). -/
def State.unitLetter (s : State) : Nat := (s.id.partno.getD 7 0).toNat

def State.unitSH (s : State) : Bool := s.unitLetter == 0x53 || s.unitLetter == 0x48
def State.unitD (s : State) : Bool := s.unitLetter == 0x44

/-! ### Commissioning tests (R426) -/

def State.passed (s : State) (id target : Nat) : Bool := s.id.passes.contains (id, target)

/-- Every commissioning test has passed. -/
def State.commissioned (s : State) : Bool :=
  (List.range Config.nCells).all (fun c =>
    let k := s.cellCfg c
    (k.cmode != 1 || (s.passed 1 c && s.passed 2 c)) &&
    (k.cmode != 2 || (s.passed 2 c && s.passed 3 c && (!fbEn k || s.passed 4 c))) &&
    (k.cmode == 0 || s.passed 5 (bankOf c))) &&
  (List.range 3).all (fun l => s.passed 6 l && s.passed 8 l) && s.passed 7 0

/-! ### SERVICE-MAINTENANCE (R422) -/

/-- A MAINT change takes effect at an executed start; leaving abandons a test. -/
def State.maintStep (s : State) : State :=
  match s.id.maintReq with
  | none => s
  | some (enter, r) =>
    let s := { s with id := { s.id with maintReq := none } }
    if enter && s.id.lc == .service then
      ({ s with id := { s.id with lc := .maintenance } }).refChange r 0x26 (le 1 1)
    else if !enter && s.id.lc == .maintenance then
      ({ s with id := { s.id with lc := .service } }).abandonTest 0x8010 7 |>.refChange r 0x26 (le 1 0)
    else s

/-! ### Transitions (R424, R425) -/

/-- A credential held of at least a role. -/
def State.holdsRole (s : State) (role : Nat) : Bool := s.id.creds.any (·.role == role)

/-- *Life-cycle transitions*: the signer role needed, and the condition, of a transition; none where the table
has no such transition for the module's ordering code. Roles are 1 Signaller to 5 Factory (12 R356). -/
def State.transition (s : State) (target : LcState) : Option (Nat × Bool) :=
  let sh := s.unitSH
  match s.id.lc, target with
  | .blank, .provisioned => if sh then some (5, s.holdsRole 5) else none
  | .blank, .bench => if s.unitD then some (5, s.holdsRole 5) else none
  | .provisioned, .commissioning => if sh then some (4, s.upd.app.fst.valid || s.upd.app.snd.valid) else none
  | .commissioning, .service =>
    if sh then some (4, s.cyc.mode != .hold && !(s.image.split && s.image.role != 5) && s.set.grace != 0 && s.commissioned)
    else none
  | .service, .commissioning => if sh then some (4, true) else none
  | .maintenance, .commissioning => if sh then some (4, true) else none
  | .blank, .quarantine => none
  | .quarantine, .quarantine => none
  | .retired, .quarantine => none
  | _, .quarantine => some (4, true)
  | .quarantine, .provisioned => if sh then some (5, true) else none
  | .quarantine, .bench => if s.unitD then some (5, true) else none
  | .blank, .retired => none
  | .retired, .retired => none
  | _, .retired => some (4, true)
  | .retired, .blank => some (5, true)
  | _, _ => none

/-- Change-log record 0x24 of a transition made. -/
def lcRec (src dst lccnt signer : Nat) (reason : Bytes) : Bytes :=
  le 1 src ++ le 1 dst ++ zeros 2 ++ le 4 lccnt ++ le 4 signer ++ padTo 16 reason

/-- The new state and LCCNT written, with the change-log record, and the completion OK. -/
def State.makeTransition (s : State) (target : LcState) (r : CmdRef) (signer : Nat) (reason : Bytes) : State :=
  let src := s.id.lc.code
  let s := { s with id := { s.id with lc := target, lccnt := wrapInc 32 s.id.lccnt } }
  (s.refChange r 0x24 (lcRec src target.code s.id.lccnt signer reason)).complete r 0x0000 []

/-- Record 0x25 and the refusal's status. -/
def State.refuseTransition (s : State) (target : Nat) (r : CmdRef) (signer status : Nat) : State :=
  (s.refChange r 0x25 (le 1 target ++ zeros 1 ++ le 2 status ++ le 4 signer)).complete r status []

/-- A transition between COMMISSIONING and SERVICE at its executed start, its conditions checked again. -/
def State.lcStep (s : State) : State :=
  match s.id.lcReq with
  | none => s
  | some (target, r, signer, reason) =>
    let s := { s with id := { s.id with lcReq := none } }
    match s.transition target with
    | some (_, true) =>
      let s := s.makeTransition target r signer reason
      let s := if target.tests then s else s.abandonTest 0x8010 7
      if target == .commissioning then { s with id := { s.id with passes := [] } } else s
    | _ => s.refuseTransition target.code r signer 0x8010

/-- What a transition erases, by its line of the table. -/
def State.lcErase (s : State) (src target : LcState) : State :=
  match src, target with
  | .quarantine, .retired => s
  | .quarantine, _ =>
    { s with
      be := { s.be with tamper := false, tamperWt := 0, tamperWtOk := false }
      set := Settings.init, stage := { StageSt.init with ftgen := s.stage.ftgen }
      upd := { s.upd with fw := .both Slot.init, kern := .both Slot.init, app := .both Slot.init }
      id := { s.id with creds := s.id.creds.filter (·.role == 5), passes := [] } }
  | .retired, .blank =>
    { s with
      set := Settings.init, stage := StageSt.init, upd := UpdSt.init, tunnels := List.replicate 16 Tunnel.init
      bridge := BridgeSt.init, pair := { s.pair with stored := 0, epoch := 0 }
      recs := { s.recs with archive := [], archseq := 0, archpass := 0, archpos := 0, lrarea := [] }
      be := { s.be with tamper := false, tamperWt := 0, tamperWtOk := false }
      id := { s.id with creds := s.id.creds.filter (·.role == 5), passes := [] } }
  | _, _ => s

/-- Any other transition: made at once, and a cold restart follows within 100 ms. -/
def State.lcNow (s : State) (target : LcState) (r : CmdRef) (signer : Nat) (reason : Bytes) : State :=
  let src := s.id.lc
  let s := s.makeTransition target r signer reason
  let s := if target.tests then s else s.abandonTest 0x8010 7
  let s := s.lcErase src target
  { s with pow := { s.pow with restart := some .cold } }

/-! ### Tamper detection (R427 to R429) -/

/-- An opening of the enclosure recorded by the keep-alive domain with its WT. -/
def State.latchTamperAt (s : State) (wt : Nat) : State :=
  if s.be.tamper then s
  else { s with be := { s.be with tamper := true, tamperWt := wt, tamperWtOk := s.time.wtvalid } }

/-- An opening recorded while the module is powered. -/
def State.latchTamper (s : State) : State := s.latchTamperAt s.time.wt

/-- An opening while the module is unpowered: when it came is not known, and the WT of the opening is free. (log 143, DESIGN CHOICE) -/
def State.unpoweredOpening (s : State) : State :=
  let (wt, s) := s.freshNat 48
  s.latchTamperAt wt

/-- The switch opens while the module is powered: detector 0x50, class F4, and the latch. -/
def execTamperSwitchOpen (s : State) : Res :=
  .next (if s.pow.on then (s.latchTamper).collect (fBe 0x50) else s)

/-- The check of the seal loop, every second: a break is detector 0x50. -/
def execSealLoopCheck (intact : Bool) (s : State) : Res :=
  .next (
    if !s.pow.on || !s.pow.sv then s
    else if !intact && s.be.loop then
      (({ s with be := { s.be with loop := false } }).latchTamper).collect (fBe 0x50)
    else s)

/-- An opening while the module is unpowered and the keep-alive domain is fed: the latch only. -/
def execUnpoweredEnclosureOpening (s : State) : Res := .next (if s.pow.on && !s.pow.pfail then s else s.unpoweredOpening)

/-- The tamper decision at boot, before any lane enters SYNC (R428). `loopOk` is the loop's state, `unfed` that the
keep-alive domain was unfed while the module was unpowered, `downOt` the OT at power-down. -/
def State.bootTamper (s : State) (loopOk unfed : Bool) (downOt : Nat) : State :=
  let s := { s with be := { s.be with loop := s.be.loop && loopOk } }
  if s.be.tamper || !s.be.loop then
    if s.id.lc == .quarantine then s
    else
      let src := if s.be.tamper then 0 else 1
      let s := { s with id := { s.id with lc := .quarantine, lccnt := wrapInc 32 s.id.lccnt } }
      s.ownChange 0x27 (le 1 src ++ zeros 1 ++ le 6 s.be.tamperWt ++ le 1 (b2n s.be.tamperWtOk))
  else if unfed then
    (s.collect (fBe 0x51)).ownChange 0x28 (le 8 downOt ++ le 8 s.time.ot)
  else s

end Sys2Proof.Machine
end

