-- ==== Sys2Proof/Machine/Update.lean ====
section
/-! DEFINITION. Firmware and image update (16): envelopes, verification, lane turns, the level switch, confirmation
and fallback. -/

namespace Sys2Proof.Machine

/-! ### The envelope and the signature (R433, R434) -/

/-- The envelope at the head of an image. -/
def envOf (b : Bytes) : Envelope :=
  { magic := rd b 0x00 4, ever := rd b 0x04 1, kind := rd b 0x05 1, units := rd b 0x06 1, imgid := rd b 0x08 8,
    version := rd b 0x10 4, rbidx := rd b 0x14 4, level := rd b 0x18 2, levelmin := rd b 0x1A 2, vfmt := rd b 0x1C 2,
    vfmtmin := rd b 0x1E 2, nfmt := rd b 0x20 2, nfmtmin := rd b 0x22 2, size := rd b 0x24 4, nblock := rd b 0x28 4,
    signer := rd b 0x2C 4 }

/-- RBFLOOR of a kind. -/
def State.rbfloor (s : State) (kind : Nat) : Nat :=
  match kind with
  | 0 => s.upd.rbfloor.1
  | 1 => s.upd.rbfloor.2.1
  | _ => s.upd.rbfloor.2.2

def putFloor (kind v : Nat) (f : Nat × Nat × Nat) : Nat × Nat × Nat :=
  match kind with
  | 0 => (v, f.2.1, f.2.2)
  | 1 => (f.1, v, f.2.2)
  | _ => (f.1, f.2.1, v)

/-- Is a rollback token valid for an image of a kind (R439)? -/
def State.tokenOk (s : State) (kind imgid : Nat) (t : Bytes) : Bool :=
  t.length == 144 && rd t 0x00 1 == 2 && rd t 0x01 1 == kind && zeroAt t 0x02 2 && rd t 0x04 4 == s.id.serial &&
  rd t 0x08 4 == s.upd.rbcnt && rd t 0x10 8 == imgid && zeroAt t 0x18 0x18 &&
  (s.cred? (rd t 0x0C 4)).any fun c => c.role == 4 && Config.ecdsaOk c.key (Config.sha384 (t.take 0x30)) (t.drop 0x30)

/-! ### Verification (R437, R440) -/

/-- Does UNITS include the module's ordering code? -/
def State.unitOk (s : State) (units : Nat) : Bool :=
  let bit := if s.unitLetter == 0x53 then 0 else if s.unitLetter == 0x48 then 1 else 2
  units < 8 && units.testBit bit

/-- The kernels that the lane kernel map names. -/
def State.kernels (s : State) : List Envelope := Lane.all.map fun l => (s.slotOf 1 (s.lane l).kSlot).env

/-- Compatibility of a loaded image (R440). -/
def State.compatible (s : State) (e : Envelope) (token : Bool) : Bool :=
  match e.kind with
  | 0 => let v := (s.slotOf 0 s.upd.fwRun).env.vfmt
         e.vfmtmin ≤ v && v ≤ e.vfmt
  | 1 =>
    e.levelmin ≤ s.image.level && s.image.level ≤ e.level &&
    e.levelmin ≤ s.upd.lm && (s.upd.lm ≤ e.level || token)
  | _ => s.kernels.all fun k => k.levelmin ≤ e.level && e.level ≤ k.level

/-- The checks of R437 in order: the first failing status, or OK. -/
def State.verifyStatus (s : State) (u : UpdSess) (b : Bytes) : Nat :=
  let e := envOf b
  let token := s.tokenOk u.kind e.imgid u.token
  if !(e.magic == envMagic && e.ever == 1 && e.kind == u.kind && e.size == u.size && e.nblock == u.nblock &&
      s.unitOk e.units) then 0x8070
  else match s.cred? e.signer with
    | none => 0x8060
    | some c =>
      if !(signerOk u.kind c && signedBy c (b.take u.size)) then 0x8060
      else if e.rbidx < s.rbfloor u.kind && !token then 0x8060
      else if !s.compatible e token then 0x8050
      else 0x0000

/-- The verification ends: its status, record 0x31, and the slot verified. -/
def execUpdVerifyDone (s : State) : Res :=
  .next (
    match s.upd.verify, s.upd.sess with
    | some r, some u =>
      let b := !s.runSlot u.kind
      let bytes := slotBytes u.nblock (s.slotOf u.kind b).blocks
      let e := envOf bytes
      let st := s.verifyStatus u bytes
      let x := s.slotOf u.kind b
      let s := if st == 0 then
          s.setSlot u.kind b { x with valid := true, env := e, image := if u.kind == 2 then Config.parseImage bytes else none }
        else s
      let s := { s with upd := { s.upd with
          verify := none, state := if st == 0 then 3 else 1
          sess := some { u with rollback := e.rbidx < s.rbfloor u.kind || (e.kind == 1 && e.level < s.upd.lm) } } }
      let s := s.refChange r 0x31 (le 8 e.imgid ++ le 4 e.version ++ le 4 e.rbidx ++ le 2 e.level ++ zeros 2 ++
        le 4 e.signer ++ le 2 st)
      s.complete r st []
    | _, _ => s)

/-- 600 s without an update command. -/
def execUpdateSessionTimeout (s : State) : Res :=
  .next (if s.upd.sess.any fun u => 600000 ≤ u.idle then s.abortUpd 3 else s)

/-! ### Activation -/

/-- Steps of the progress notifications of a kind (R450). -/
def actSteps (kind : Nat) : Nat := if kind == 1 then 5 else 2

/-- A progress notification of an activation. -/
def State.actProgress (s : State) (step : Nat) : State :=
  match s.upd.act with
  | some a => s.progress a.ref 0x0604 step (actSteps a.kind)
  | none => s

/-- An activation begins: the unconfirmed image of a kind in a slot. -/
def actNew (kind : Nat) (slot : Bool) (ref : Option CmdRef) (todo done : List Lane) (switched : Bool) (oldLm : Nat)
    (rollback : Bool) : ActSt :=
  { kind := kind, slot := slot, ref := ref, todo := todo, doneLanes := done, turn := none, asked := none, askedLevel := false, cycles := 0,
    switched := switched, oldLm := oldLm, back := false, rollback := rollback, age := 0 }

/-- Is the start free of a staged apply, graft switch and mode change, and of a lane in RESYNC (R165, R442)? -/
def State.quietStart (s : State) : Bool :=
  s.resyncLane.isNone && s.stage.apply.isNone && s.stage.applying.isNone && s.cyc.modereq.isNone

/-- May this lane's turn begin (R441, R442)? (log 92, DEDUCED). -/
def State.turnDue (s : State) (a : ActSt) (l : Lane) : Bool :=
  a.kind == 1 && a.todo.head? == some l && a.turn.isNone && s.pow.mod == .service && s.quietStart &&
  (a.doneLanes.isEmpty || 100 ≤ a.cycles) &&
  ((s.isActive l && s.nActive == 3) || (s.lane l).st == .withdrawn)

/-- The slot that a lane takes on its turn. -/
def ActSt.turnSlot (a : ActSt) : Bool := if a.back then !a.slot else a.slot

/-- A lane's turn begins: the lane kernel map, the change log, the lane withdrawn with class F0, uncounted. (log 92, DEDUCED) -/
def State.beginTurn (s : State) (a : ActSt) (lane : Lane) : State :=
  let s := s.ownChange 0x33 (le 1 lane.num ++ le 1 (b2n a.turnSlot))
  let s := if s.isActive lane then
      let f := fLane lane (openNum 10)
      let (seq, s) := s.recordEvent f 0 0 false false none
      s.withdraw lane f seq .checking false
    else s
  let s := s.updLane lane fun x => { x.setKslot a.turnSlot with turn := true, rcheck := false, hold := .checking }
  let s := s.updAct fun a => { a with turn := some lane, asked := none, todo := a.todo.drop 1 }
  if a.back then s else s.actProgress (a.doneLanes.length + 1)

/-- At an executed start: the turn asked for, where the start admits it. -/
def State.turnStart (s : State) : State :=
  match s.upd.act with
  | none => s
  | some a =>
    match a.asked with
    | some l => if s.turnDue a l then s.beginTurn a l else s
    | none => s

/-- A lane's turn is due: it begins at the next executed start that admits it (04 R128, R442). -/
def execLaneTurn (lane : Lane) (s : State) : Res :=
  .next (
    match s.upd.act with
    | none => s
    | some a =>
      if a.kind == 1 && a.todo.head? == some lane && a.turn.isNone then s.updAct fun a => { a with asked := some lane } else s)

/-- The lane has loaded its kernel: its restart check runs. -/
def execKernelLoadDone (lane : Lane) (s : State) : Res :=
  .next (
    if (s.lane lane).turn && (s.lane lane).st == .withdrawn then
      s.updLane lane fun x => { x with turn := false, rcheck := !x.latched, hold := if x.latched then .latchedOut else .checking }
    else s)

/-- A turn ends with the lane's rejoin. The last lane back ends a fallback. -/
def State.turnEnds (s : State) (l : Lane) : State :=
  match s.upd.act with
  | none => s
  | some a =>
    if a.kind == 1 && a.turn == some l then
      let s := s.updAct fun a => { a with turn := none, doneLanes := a.doneLanes ++ [l], cycles := 0 }
      if a.back && a.todo.isEmpty then s.endFallback
      else if !a.back && a.todo.isEmpty && (s.actEnv a).level ≤ s.upd.lm then
        ({ s with upd := { s.upd with state := 5 } }).actProgress 5
      else s
    else s

/-- Are all lanes on the new kernel, with a level switch to make (R443)? -/
def State.switchReady (s : State) : Bool :=
  s.upd.act.any fun a => a.kind == 1 && !a.back && !a.switched && a.todo.isEmpty && a.turn.isNone && 100 ≤ a.cycles &&
    s.upd.lm < (s.actEnv a).level

/-- All lanes switch to the new level. -/
def State.switchLevel (s : State) : State :=
  match s.upd.act with
  | none => s
  | some a =>
    let old := s.upd.lm
    let new := (s.actEnv a).level
    let s := { s with upd := { s.upd with lm := new, state := 5 } }
    let s := (s.updAct fun a => { a with switched := true, askedLevel := false, cycles := 0 }).ownChange 0x34 (le 2 old ++ le 2 new)
    ({ s with pair := { s.pair with farReady := false } }).actProgress 4

/-- Is a member's level switch bound to its partner (R444)? -/
def State.switchBound (s : State) : Bool := s.paired && s.partnerInStep

/-- The level switch asked for, at a start where a turn could begin. With its partner in step a member does not switch
alone: it forwards its readiness, and the pacer lists the switch. -/
def State.switchStart (s : State) : State :=
  if s.upd.act.any (·.askedLevel) && s.switchReady && s.nActive == 3 && s.quietStart && s.pow.mod == .service then
    if s.switchBound then
      if s.pair.pacer then s else (s.plSend (.cmdfwd .levelReady)).updAct fun a => { a with askedLevel := false }
    else s.switchLevel
  else s

/-- The level switch is due: it is made at the next executed start that admits it (04 R128, R443). -/
def execLevelSwitch (s : State) : Res :=
  .next (if s.switchReady then s.updAct fun a => { a with askedLevel := true } else s)

/-- What each executed start adds to an activation: cycles counted, and a level taken back at one start in a
fallback (R443, R448, R449). -/
def State.actStart (s : State) : State :=
  match s.upd.act with
  | none => s
  | some a =>
    let counts := s.pow.mod == .service && (match a.kind with
      | 0 => s.pow.sv && a.switched
      | 1 => true
      | _ => s.cyc.mode != .hold && s.pow.restart.isNone)
    let s := s.updAct fun a => { a with cycles := if counts then a.cycles + 1 else a.cycles }
    let s := if counts && a.kind != 1 && s.upd.state == 4 then ({ s with upd := { s.upd with state := 5 } }).actProgress 2 else s
    if a.back && a.switched then
      let old := s.upd.lm
      let s := { s with upd := { s.upd with lm := a.oldLm } }
      (s.updAct fun a => { a with switched := false }).ownChange 0x34 (le 2 old ++ le 2 a.oldLm)
    else s

/-- Has the activated image passed its post-activation check (R448)? -/
def State.actPassed (s : State) (a : ActSt) : Bool :=
  !a.back && 100 ≤ a.cycles && s.pow.mod == .service &&
  match a.kind with
  | 0 => s.pow.sv
  | 1 => a.todo.isEmpty && a.turn.isNone && (a.switched || (s.actEnv a).level ≤ s.upd.lm)
  | _ => s.cyc.mode != .hold

/-- Confirmation: RBFLOOR takes RBIDX, the previous slot is free, UPD_ACTIVATE completes OK. -/
def execImageConfirmed (s : State) : Res :=
  .next (
    match s.upd.act with
    | none => s
    | some a =>
      if s.actPassed a then
        let e := s.actEnv a
        let s := s.setSlot a.kind (!a.slot) (s.slotOf a.kind (!a.slot)).invalid
        let s := { s with upd := { s.upd with
            act := none, state := 6, rbfloor := putFloor a.kind e.rbidx s.upd.rbfloor } }
        let s := s.ownChange 0x35 (le 8 e.imgid ++ le 4 e.rbidx)
        match a.ref with
        | some r => s.complete r 0x0000 []
        | none => s
      else s)

/-- The limit of the post-activation check passes: 5 s for the service region, 10 s for SERVICE. The service
region restarts on the previous slot; an application image makes a cold restart on it. -/
def execPostActivationTimeout (s : State) : Res :=
  .next (
    match s.upd.act with
    | none => s
    | some a =>
      if a.kind == 0 && a.switched && !s.pow.sv && 5000 ≤ a.age then s.failAct 3
      else if a.kind == 2 && s.pow.mod != .service && 10000 ≤ a.age then s.failAct 4
      else s)

end Sys2Proof.Machine
end

