-- ==== Sys2Proof/Machine/Mirror.lean ====
section
/-! DEFINITION. The health report and the mirror set of a logic pair (09 R268, R273 to R276): their bytes, digests
and blocks, and the commitment of a received set. -/

namespace Sys2Proof.Machine

/-! ### The health report (R268) -/

/-- The bits of PRFLAGS. -/
def State.prFlags (s : State) : BitVec 8 :=
  BitVec.ofNat 8 (b2n s.cyc.leadclaim + 2 * b2n s.pair.relinq + 4 * b2n (s.pair.st == .followIn) + 8 * b2n s.pair.stale +
    16 * b2n (s.nActive == 2) + 32 * b2n s.pair.pacer + 64 * b2n s.pair.plup.fst + 128 * b2n s.pair.plup.snd)

/-- Remaining revert hold-off in s (R282). -/
def State.holdOff (s : State) : Nat :=
  match s.pair.since with
  | some t => if s.pair.st == .followIn && s.set.pair.prole == 1 then s.set.pair.revhold - (s.time.ot - t) / 1000 else 0
  | none => 0

/-- The largest computation time of the cycle, of the lanes ACTIVE. -/
def State.compMax (s : State) : Nat := (s.actives.map fun l => (s.lane l).comp).foldl max 0

/-- SETCHK: the CRC-32C of the applied settings. (log 105, DEDUCED) -/
def State.setchk (s : State) : Nat := crc32c (settingsBytes s.set)

/-- The member's own report as it stands. A module with PROLE 0 reports no pair (R268). -/
def State.healthNow (s : State) : Health :=
  let p := s.paired
  let pick (n : Nat) : Nat := if p then n else 0
  { pstate := pick s.pair.st.code
    flags := if p then s.prFlags else BitVec.ofNat 8 (16 * b2n (s.nActive == 2))
    epoch := pick s.pair.epoch, inStep := pick s.pair.instep, lstat := s.laneWord % 65536, pcyc := pick s.pair.pcyc,
    msdig := pick s.pair.msdig, outdig := pick s.pair.outdig, imgid := s.image.imgid, setchk := s.setchk,
    compt := s.compMax, faultsum := s.faultWord, mirabort := s.cyc.mirabort, modstate := s.pow.mod.code,
    mode := s.cyc.mode.code, holdoff := pick s.holdOff }

/-- The member's own last report; of a module with PROLE 0 the report as it stands (R268). -/
def State.ownReport (s : State) : Health := if s.paired then s.pair.report else s.healthNow

/-- The 64 bytes of a report, its fields written by e: little-endian in PREPORT, big-endian in the heartbeat. -/
def healthBytes (e : Nat → Nat → Bytes) (h : Health) : Bytes :=
  e 1 h.pstate ++ [h.flags] ++ e 2 h.epoch ++ e 2 h.inStep ++ e 2 h.lstat ++ e 8 h.pcyc ++ e 8 h.msdig ++
  e 8 h.outdig ++ e 8 h.imgid ++ e 4 h.setchk ++ e 4 h.compt ++ e 4 h.faultsum ++ e 4 h.mirabort ++ e 1 h.modstate ++
  e 1 h.mode ++ e 2 h.holdoff ++ zeros 4

/-- A big-endian field of a payload. -/
def rdBig (b : Bytes) (off n : Nat) : Nat := ofLe (slice b off n).reverse

/-- The report in a heartbeat's payload. -/
def healthOf (b : Bytes) : Health :=
  { pstate := rdBig b 0 1, flags := BitVec.ofNat 8 (rdBig b 1 1), epoch := rdBig b 2 2, inStep := rdBig b 4 2,
    lstat := rdBig b 6 2, pcyc := rdBig b 8 8, msdig := rdBig b 0x10 8, outdig := rdBig b 0x18 8,
    imgid := rdBig b 0x20 8, setchk := rdBig b 0x28 4, compt := rdBig b 0x2C 4, faultsum := rdBig b 0x30 4,
    mirabort := rdBig b 0x34 4, modstate := rdBig b 0x38 1, mode := rdBig b 0x39 1, holdoff := rdBig b 0x3A 2 }

/-! ### The mirror set (R273) -/

/-- An element record without CURIN and PREVIN; its command goes in part 5. -/
def mirrorElem (e : Elem) : Elem := { e with curin := 0, previn := 0, work := { e.work with ref := none } }

/-- A route cell record; its commands go in part 5. -/
def mirrorCell (c : RouteCell) : RouteCell := { c with ref := none, cancels := [] }

/-- A receive record without its local fields. -/
def mirrorRecv (r : RecvRec) : RecvRec := { r with payload := [], arrival := 0, base := .both 0 }

/-- The bytes of a receive record without its local fields. -/
def mirrorRecvBytes (r : RecvRec) : Bytes :=
  le 1 r.cstate ++ le 1 r.cusedp ++ le 2 r.lastepoch ++ le 4 r.lastseq ++ le 8 r.lastot.fst ++ le 8 r.lastot.snd ++
  le 2 r.lastalive.fst ++ le 2 r.lastalive.snd ++ le 4 r.serial.fst ++ le 4 r.serial.snd ++ le 4 r.estseq

/-- A command as the set carries it: its route or element, session, credential, TAG and CMD. -/
def refBytes (n : Nat) (r : CmdRef) : Bytes := le 2 n ++ le 2 r.tag ++ le 4 r.session ++ le 4 r.cred ++ le 2 r.cmd

/-- The bytes of an item as sent, which MSDIG covers (R274). First steps belong to a member's sessions and not to its lanes:
no digest of the lanes covers them. (log 34, DEDUCED) -/
def itemBytes : MirrorItem → Bytes
  | .header pcyc epoch imgid setchk bank =>
    padTo 64 (le 8 pcyc ++ le 2 epoch ++ zeros 6 ++ le 8 imgid ++ le 4 setchk ++ le 1 bank)
  | .route _ c => routeBytes c
  | .trellis t => trellisBytes t
  | .element e => elemBytes (mirrorElem e)
  | .send r => sendBytes r
  | .recv r => mirrorRecvBytes r
  | .cmdseq n => le 4 n
  | .routeCmd n r q => refBytes n r ++ le 4 q
  | .cancelCmd n r q => refBytes n r ++ le 4 q
  | .elemCmd n r => refBytes n r
  | .requests es as => es.flatMap (fun x => le 2 x.1 ++ le 2 x.2.1 ++ le 1 (b2n x.2.2)) ++
      as.flatMap fun x => le 2 x.1 ++ le 1 x.2
  | .step _ => []
  | .force i f => le 2 i ++ forceBytes f
  | .fbData _ b => b

def chunksOf {α : Type} (n : Nat) : Nat → List α → List (List α)
  | 0, _ => []
  | _, [] => []
  | k + 1, xs => xs.take n :: chunksOf n k (xs.drop n)

/-- Function-block data in pieces of 2 KiB. -/
def fbItems (b : Bytes) : List MirrorItem :=
  (chunksOf 2048 b.length b).zipIdx.map fun x => .fbData (x.2 * 2048) x.1

/-- The commands entered and not completed, with their command sequence numbers. -/
def State.openCmds (s : State) : List MirrorItem :=
  (s.app.cells.zipIdx.flatMap fun x =>
    (x.1.ref.toList.map fun r => .routeCmd x.2 r x.1.cmdseq) ++ x.1.cancels.map fun y => .cancelCmd x.2 y.1 y.2) ++
  s.app.elems.flatMap fun e => e.work.ref.toList.map fun r => .elemCmd e.num r

/-- Parts 1 to 6 of the set of a pair cycle. -/
def State.mirrorHead (s : State) (pcyc epoch : Nat) : List MirrorItem :=
  [.header pcyc epoch s.image.imgid s.setchk s.cyc.bank] ++
  s.app.cells.zipIdx.map (fun x => .route x.2 (mirrorCell x.1)) ++ [.trellis s.app.trellis] ++
  s.app.elems.map (fun e => .element (mirrorElem e)) ++
  s.app.sends.map .send ++ s.app.recvs.map (fun r => .recv (mirrorRecv r)) ++
  [.cmdseq s.trl.cmdseq] ++ s.openCmds ++
  (chunksOf 256 s.trl.elemreqs.length s.trl.elemreqs).map (fun x => .requests x []) ++
  (chunksOf 256 s.trl.autoreqs.length s.trl.autoreqs).map (fun x => .requests [] x) ++ s.mail.steps.map .step ++
  (fullForces s.stage.forces).zipIdx.filterMap (fun x => if x.1.fkind == 0 then none else some (.force x.2 x.1))

/-- The set of a pair cycle under an epoch. -/
def State.mirrorItems (s : State) (pcyc epoch : Nat) : List MirrorItem :=
  s.mirrorHead pcyc epoch ++ fbItems s.app.fbData

/-- A CRC-64 over items in order (R274). -/
def digestItems (is : List MirrorItem) : Nat := crc64 (is.flatMap itemBytes)

/-- MSDIG of the member's own state for a pair cycle, under an epoch. -/
def State.msdigOf (s : State) (pcyc epoch : Nat) : Nat := digestItems (s.mirrorItems pcyc epoch)

def State.ownMsdig (s : State) : Nat := s.msdigOf s.pair.pcyc s.pair.epoch

/-- OUTDIG: items 3 to 257 of the voted form, directory entry and padded payload of each connection (R151, R274). -/
def outDigest (v : VoteForm) : Nat :=
  crc64 ((List.range 255).flatMap fun i =>
    match v.conns.find? (·.conn == i + 1) with
    | some c => le 4 c.payload.length ++ c.payload ++ zeros ((8 - c.payload.length % 8) % 8)
    | none => zeros 4)

/-- Bytes of one block, and of a whole set (R265, R273). -/
def blockMax : Nat := 4096
def setMax : Nat := 2 * 2 ^ 20

/-- One more item: into the block being filled, or where it does not fit into a new one. -/
def packItem (x : List (List MirrorItem) × List MirrorItem × Nat) (i : MirrorItem) :
    List (List MirrorItem) × List MirrorItem × Nat :=
  let n := (itemBytes i).length
  if x.2.2 + n ≤ blockMax then (x.1, x.2.1 ++ [i], x.2.2 + n) else (x.1 ++ [x.2.1], [i], n)

/-- Items in order, in blocks of at most 4 KiB. -/
def packItems (is : List MirrorItem) : List (List MirrorItem) :=
  let r := is.foldl packItem ([], [], 0)
  if r.2.1.isEmpty then r.1 else r.1 ++ [r.2.1]

/-- The items of a set that its 2 MiB hold. -/
def withinSet : Nat → List MirrorItem → List MirrorItem
  | _, [] => []
  | room, i :: is => if (itemBytes i).length ≤ room then i :: withinSet (room - (itemBytes i).length) is else []

/-- The blocks of a set, each at most 4 KiB, at most 2 MiB in all. -/
def State.mirrorBlocks (s : State) : List MBlock :=
  (packItems (withinSet setMax (s.mirrorItems s.pair.pcyc s.pair.epoch))).zipIdx.map fun x =>
    ⟨s.pair.pcyc, x.2, true, x.1⟩

/-! ### Commitment (R275) -/

/-- The commands this member holds at its routes and elements. -/
def State.heldRefs (s : State) : List CmdRef :=
  (s.app.cells.flatMap fun c => c.ref.toList ++ c.cancels.map (·.1)) ++ s.app.elems.flatMap fun e => e.work.ref.toList

/-- A command reference as this member holds it: accepted here only where it was. -/
def localRef (held : List CmdRef) (x : CmdRef) : CmdRef :=
  { x with here := held.any fun o => o.session == x.session && o.tag == x.tag && o.here }

def localElem (own e : Elem) : Elem :=
  { e with
    curin := own.curin, previn := own.previn
    work := { e.work with validPrev := own.work.validPrev, noEdge := own.work.noEdge, ref := none } }

def localRecv (own r : RecvRec) : RecvRec := { r with payload := own.payload, arrival := own.arrival, base := own.base }

def State.putSend (s : State) (r : SendRec) : State :=
  { s with app := { s.app with sends := modWhere (fun x => x.conn == r.conn) (fun _ => r) s.app.sends } }

def State.putFb (s : State) (off : Nat) (b : Bytes) : State := { s with app := { s.app with fbData := (patch s.app.fbData off b).take s.app.fbData.length } }

/-- One item of a committed set replaces this member's value; `held` are the commands it held before. -/
def State.commitItem (held : List CmdRef) (s : State) : MirrorItem → State
  | .header _ _ _ _ _ => s
  | .route n c => s.updRoute n fun _ => c
  | .routeCmd n r _ => s.updRoute n fun c => { c with ref := some (localRef held r) }
  | .cancelCmd n r q => s.updRoute n fun c => { c with cancels := c.cancels ++ [(localRef held r, q)] }
  | .elemCmd n r => s.updElem n fun e => { e with work := { e.work with ref := some (localRef held r) } }
  | .trellis t => { s with app := { s.app with trellis := t } }
  | .element e => s.updElem e.num fun own => localElem own e
  | .send r => s.putSend r
  | .recv r => s.updRecv r.conn fun own => localRecv own r
  | .cmdseq n => { s with trl := { s.trl with cmdseq := n } }
  | .requests es as => { s with trl := { s.trl with elemreqs := s.trl.elemreqs ++ es, autoreqs := s.trl.autoreqs ++ as } }
  | .step f => { s with mail := { s.mail with steps := s.mail.steps ++ [f] } }
  | .force i f => { s with stage := { s.stage with forces := modAt (fun _ => f) i s.stage.forces } }
  | .fbData off b => s.putFb off b

/-- A whole set committed: the force table and the first steps of the other member's sessions are replaced. -/
def State.commitSet (s : State) (is : List MirrorItem) : State :=
  let own := s.mail.steps.filter fun f => s.mail.sessions.any (·.id == f.session)
  let s := { s with
    mail := { s.mail with steps := own }
    trl := { s.trl with elemreqs := [], autoreqs := [] }
    stage := { s.stage with forces := List.replicate 512 forceInit } }
  (s.each is (State.commitItem s.heldRefs)).bindForces

/-- Is the set of a pair cycle complete and right: every block, their count, and MSDIG? -/
def setGood (bs : List MBlock) (m : MClose) : Bool :=
  let is := bs.flatMap (·.items)
  (List.range m.blocks).all (fun i => bs.any fun b => b.index == i) && bs.length == m.blocks &&
  digestItems is == m.msdig

/-- The arrived blocks of a pair cycle, in order, those with a wrong check value left out. -/
def State.arrived (s : State) (k : Nat) : List MBlock :=
  let bs := s.pair.blocks.filter fun b => b.pcyc == k && b.crcOk
  (List.range (bs.length + (bs.map (·.index)).foldl max 0 + 1)).filterMap fun i => bs.find? (·.index == i)

/-! ### An incomplete set (R276) -/

/-- Does an arrived item agree with this member's own data? The header is compared with the own report of the cycle. First
steps belong to the leader's sessions: this member has none of its own to compare. (log 34, DEDUCED) -/
def State.itemAgrees (s : State) : MirrorItem → Bool
  | .header pcyc epoch imgid setchk bank =>
    s.pair.report.pcyc == pcyc && s.pair.epoch == epoch && s.pair.report.imgid == imgid && s.pair.report.setchk == setchk &&
    s.cyc.bank == bank
  | .cmdseq n => s.trl.cmdseq == n
  | .requests es as => es.all s.trl.elemreqs.contains && as.all s.trl.autoreqs.contains
  | .routeCmd n r q => (s.cellRec n).cmdseq == q && (s.cellRec n).ref.any fun x => x.session == r.session && x.tag == r.tag
  | .cancelCmd n r q => (s.cellRec n).cancels.any fun x => x.2 == q && x.1.session == r.session && x.1.tag == r.tag
  | .elemCmd n r => (s.elem? n).any fun e => e.work.ref.any fun x => x.session == r.session && x.tag == r.tag
  | .step _ => true
  | .route n c => routeBytes (s.cellRec n) == routeBytes c
  | .trellis t => s.app.trellis == t
  | .element e => (s.elem? e.num).any fun x => elemBytes (mirrorElem x) == elemBytes e
  | .send r => s.app.sends.any (· == r)
  | .recv r => (s.recv? r.conn).any fun x => mirrorRecv x == r
  | .force i f => (fullForces s.stage.forces).getD i forceInit == f
  | .fbData off b => slice s.app.fbData off b.length == b

/-- Permissive-expiry counts of a body set to 0. -/
def restartTimers : Body → Body
  | .tcsec b => .tcsec { b with clrelap := 0 }
  | .acsec b => .acsec { b with clrelap := 0 }
  | .lxing b => .lxing { b with openelap := 0 }
  | b => b


def hasRoute (is : List MirrorItem) (n : Nat) : Bool := is.any fun x => match x with | .route m _ => m == n | _ => false
def hasFb (is : List MirrorItem) (off : Nat) : Bool := is.any fun x => match x with | .fbData o _ => o == off | _ => false
def hasElem (is : List MirrorItem) (n : Nat) : Bool := is.any fun x => match x with | .element e => e.num == n | _ => false

def restartCell (is : List MirrorItem) (x : RouteCell × Nat) : RouteCell :=
  if hasRoute is x.2 then x.1
  else { x.1 with alelap := 0, olelap := 0 }

def restartElem (is : List MirrorItem) (e : Elem) : Elem :=
  if hasElem is e.num then e else { e with body := restartTimers e.body }

/-- Function-block data of which a piece did not arrive: its permissive timers stand where the image's code has them.
(log 137, DESIGN CHOICE) -/
def restartFb (is : List MirrorItem) (b : Bytes) : Bytes :=
  (fbItems b).flatMap fun x => match x with
    | .fbData off p => if hasFb is off then p else padTo p.length (Config.fbRestart off p)
    | _ => []

/-- The records that did not arrive are unconfirmed. -/
def State.unconfirm (s : State) (is : List MirrorItem) : State :=
  let lost := (List.range s.app.cells.length).filter fun n => !hasRoute is n
  { s with
    app := { s.app with
      cells := s.app.cells.zipIdx.map (restartCell is)
      elems := s.app.elems.map (restartElem is)
      fbData := restartFb is s.app.fbData }
    pair := { s.pair with unconf := lost } }

end Sys2Proof.Machine
end

