-- ==== Sys2Proof/Machine/Pairs.lean ====
section
/-! DEFINITION. Module pairs and hot standby (09): the partner link and heartbeats, silence, claims, in step, taking
and giving up LEAD, pacing, and the work of each executed start. -/

namespace Sys2Proof.Machine

def State.updPair (s : State) (f : PairSt → PairSt) : State := { s with pair := f s.pair }

/-- The pair logic works: PROLE not 0, and the module in REJOIN or SERVICE (R262, R283). -/
def State.pairOn (s : State) : Bool := s.paired && !s.pow.split && (s.pow.mod == .rejoin || s.pow.mod == .service)

/-! ### Epochs (R263) -/

/-- The epoch after one, skipping 0. -/
def nextEpoch (e : Nat) : Nat := if wrapInc 16 e == 0 then 1 else wrapInc 16 e

/-- The higher of two epochs, in serial order; 0 is below every epoch. -/
def higherEpoch (a b : Nat) : Nat :=
  if a == 0 then b else if b == 0 then a else if serialAfter 16 b a then b else a

def aboveEpoch (a b : Nat) : Bool := a != b && higherEpoch a b == a

/-! ### Facts of the partner -/

/-- The partner claims LEAD, by its last report. -/
def State.partnerClaims (s : State) : Bool := s.pair.partner.any fun h => h.flags.getLsbD 0

def State.partnerLead (s : State) : Bool := s.pair.partner.any fun h => h.pstate == 4

def State.partnerRelinq (s : State) : Bool := s.pair.partner.any fun h => h.flags.getLsbD 1

/-- The partner is silent (R267). (log 30, DEDUCED) -/
def State.partnerSilent (s : State) : Bool := s.set.pair.psilent ≤ s.pair.silence

/-- What a report teaches: seen, epoch, LEAD partner. -/
def PairSt.learn (h : Health) (p : PairSt) : PairSt :=
  { p with
    partner := some h, seenNow := true
    seenEpoch := higherEpoch p.seenEpoch h.epoch
    sawLead := p.sawLead || h.pstate == 4
    theirs := ((p.theirs.filter fun x => x.pcyc != h.pcyc) ++ [h]).reverse.take 16 |>.reverse }

/-! ### Received messages -/

/-- PSTART from the pacer (R269), its first copy with a correct check value (R265). The leader that paces takes none; a
follower that took the pacer's place for want of a PSTART gives it back. -/
def execPstartReceived (m : PStart) (us : Nat) (s : State) : Res :=
  .next (
    if s.pairOn && s.plWorks && m.crcOk && s.pair.tookStart != some m.pcyc && !(s.pair.pacer && s.pair.st == .lead) then
      s.updPair fun p => { p with pstart := some (m, s.time.ot * 1000 + us), pacer := false, tookStart := some m.pcyc }
    else s)

/-- A block of the mirror set, its first copy with a correct check value (R265). Blocks of one pair cycle, the latest, are
kept. -/
def execMblockReceived (m : MBlock) (s : State) : Res :=
  .next (
    if s.pairOn && s.plWorks && m.crcOk && s.pair.st != .lead && !(s.pair.blocks.any fun b => b.pcyc == m.pcyc && b.index == m.index) then
      if s.pair.blocks.any fun b => serialAfter 64 b.pcyc m.pcyc then s
      else s.updPair fun p => { p with blocks := (p.blocks.filter fun b => b.pcyc == m.pcyc) ++ [m] }
    else s)

/-- The closing record, its first copy with a correct check value (R265); it shows that the partner is there (R267). -/
def execMcloseReceived (m : MClose) (s : State) : Res :=
  .next (
    if s.pairOn && s.plWorks && m.crcOk && s.pair.tookClose != some m.pcyc then
      s.updPair fun p => { p with mclose := some m, tookClose := some m.pcyc, seenNow := true }
    else s)

/-- The partner's report on the link, its first copy with a correct check value (R265). -/
def execPreportReceived (crcOk : Bool) (h : Health) (s : State) : Res :=
  .next (
    if s.pairOn && s.plWorks && crcOk && s.pair.tookReport != some h.pcyc then
      s.updPair fun p => { p.learn h with tookReport := some h.pcyc }
    else s)

def sameCmd (a b : CmdRef) : Bool := a.session == b.session && a.tag == b.tag

/-- Has a forwarded command's first copy been taken, in this cycle or the one before (R265)? (log 127, DESIGN CHOICE) -/
def PairSt.tookCmd (r : CmdRef) (p : PairSt) : Bool := (p.fwd ++ p.fwdPrev).any (sameCmd r)

def State.noteCmd (s : State) (r : CmdRef) : State := s.updPair fun p => { p with fwd := p.fwd ++ [r] }

/-- A command, an apply or a readiness forwarded to the pacer (R271, R322, R444), its first copy with a correct check
value (R265). -/
def execCmdfwdReceived (m : CmdFwdMsg) (s : State) : Res :=
  .next (
    if s.pairOn && s.plWorks && m.crcOk then
      match m.cmd with
      | .op c =>
        if s.pair.tookCmd c.ref then s
        else
          let s := s.noteCmd c.ref
          if s.trl.ops.length < 256 then
            { s with trl := { s.trl with ops := s.trl.ops ++ [{ c with ref := { c.ref with here := false } }] } }
          else s
      | .force c =>
        if s.pair.tookCmd c.ref then s
        else
          let s := s.noteCmd c.ref
          { s with stage := { s.stage with forceWait := s.stage.forceWait ++ [⟨{ c with ref := { c.ref with here := false } }, 2⟩] } }
      | .apply id => s.updPair fun p => { p with farApply := some id, farOt := some s.time.ot }
      | .levelReady => s.updPair fun p => { p with farReady := true }
    else s)

/-! ### Heartbeats (R266) -/

/-- The codes of a heartbeat: SC1 with PKEY as its initial value under set 0, SC2 under set 1. -/
def State.hbCodes (s : State) (g : Gvt) : Nat × Nat :=
  (cvWith (s.cvSet 0) s.set.pair.pkey (gvtSpan g), cvWith (s.cvSet 1) (s.cvSet 1).init (gvtSpan g))

/-- The checks of a heartbeat, those of R248 without the ALIVE window: PSTAMP in every state; SERIAL, EPOCH and SEQ while the
partner is not silent. The second network's copy is no later one. -/
def State.hbOk (s : State) (g : Gvt) : Bool :=
  g.typ == 2 && g.conn == 0 && g.src.toNat == s.set.pair.paddr && reservedOk g && g.len == 64 &&
  g.payload.length == 64 && (g.sc1, g.sc2) == s.hbCodes g &&
  match s.pair.hblast with
  | none => true
  | some (seq, _, st, serial, epoch) =>
    st < pstamp g &&
    (s.partnerSilent || (g.serial == serial && serialAfter 32 g.seq seq && !serialAfter 16 epoch g.epoch))

/-- A heartbeat of the partner on a network; it alone shows a partner in JOINING (R284). The second network's copy adds nothing. One that carries this module's own
address and a foreign serial number is the duplicate-address event (01 R36). -/
def execHeartbeatReceived (net : Net) (f : Frame) (s : State) : Res :=
  .next (
    let g := f.gvt
    if !s.tgTakes net f then s
    else s.notOwn f <|
    if s.pairOn && s.handedOn net f && s.hbOk g then
      let h := healthOf g.payload
      s.updPair fun p => { p.learn h with
        hblast := some (g.seq, g.alive, pstamp g, g.serial, g.epoch)
        sawJoining := p.sawJoining || h.pstate == 1 }
    else s)

/-- The heartbeat of an executed cycle, on both networks. -/
def State.sendHeartbeat (s : State) : State :=
  let ctr := wrapInc 32 s.pair.hbctr
  let s := s.updPair fun p => { p with hbctr := ctr }
  let g := { s.newGvt 2 s.set.pair.paddr 0 ctr (ctr % 65536) (healthBytes bigE s.pair.report) with
    epoch := s.pair.epoch, stampMs := s.cyc.ots / 1000, stampUs := s.cyc.ots % 1000 }
  let (a, b) := s.hbCodes g
  s.sendBoth none { g with sc1 := a, sc2 := b }

/-! ### Links and optics (R265, 18 R473) -/

def setLink (link2 up : Bool) (p : PairSt) : PairSt := { p with plup := p.plup.upd link2 up }

/-- A link is lost: class F1; the pair goes on by the other. -/
def execPlLinkLoss (link2 : Bool) (s : State) : Res :=
  .next (
    if s.cmUp && s.pair.plup.sel link2 then (s.updPair (setLink link2 false)).collectOpen 1 3 0x19 0 14 1 else s)

/-- A link returns, where an optic that may carry it is fitted and the role uses the ports (01 R35). -/
def execPlLinkReturn (link2 : Bool) (s : State) : Res :=
  .next (
    if s.cmUp && s.image.role != 3 && (s.pair.optic.sel link2).any (· != .other) then s.updPair (setLink link2 true) else s)

/-- An optic is inserted: 10GBASE-SR and -LR bring the link up, another keeps its port down. -/
def execOpticInserted (link2 : Bool) (kind : Optic) (s : State) : Res :=
  .next (
    if s.cmUp then
      let s := s.updPair fun p => setLink link2 (kind != .other && s.image.role != 3) { p with optic := p.optic.upd link2 (some kind) }
      if kind == .other then s.collect ⟨1, 3, 0x19, 0, 0x10⟩ else s
    else s)

/-! ### Taking and giving up LEAD (R279 to R284) -/

/-- A command of the pair ends: change-log kind 0x18 with the command, the epoch before and after, and its status. -/
def State.pairCmdDone (s : State) (r : CmdRef) (before after st : Nat) : State :=
  (s.refChange r 0x18 (le 2 r.cmd ++ le 2 before ++ le 2 after)).complete r st []

/-- HANDOVER ends: OK once the partner holds LEAD (12 R358), RETRY where this member holds it again. (log 31, DEDUCED) -/
def State.endHandover (s : State) (after st : Nat) : State :=
  match s.pair.handover with
  | none => s
  | some r => (s.updPair fun p => { p with handover := none }).pairCmdDone r s.pair.epoch after st

def State.handoverDone (s : State) : State :=
  if s.pair.st == .followIn && s.partnerLead then s.endHandover ((s.pair.partner.map (·.epoch)).getD s.pair.epoch) 0x0000
  else s

/-- The member takes LEAD with an epoch, stored before any telegram carries it. -/
def State.leadWith (s : State) (e : Nat) : State :=
  let s := s.endHandover e 0x80B0
  let s := s.updPair fun p => { p with
    epoch := e, stored := e, seenEpoch := e, stale := false, both := 0, since := none, relinq := false, wasIn := false,
    returnDue := false, restartDue := false, own := [], missing := 0 }
  (s.setPair .lead).setMod .service

/-- The member takes LEAD with the epoch after the highest it has seen (R263). (log 33, DEDUCED) -/
def State.takeLead (s : State) : State :=
  s.leadWith (nextEpoch (higherEpoch (higherEpoch s.pair.epoch s.pair.stored) s.pair.seenEpoch))

/-- The member takes part as FOLLOW in step. -/
def State.becomeFollow (s : State) (instep : Nat) : State :=
  (s.updPair fun p => { p with instep := instep, since := some s.time.ot, both := 0 }).setPair .followIn

/-- The member goes out of step (R277). -/
def State.outOfStep (s : State) : State :=
  let s := s.updPair fun p => { p with instep := 0, since := none, returnDue := false }
  if s.pair.st == .followIn then s.setPair .followOut else s

/-- A LEAD member that set RELINQ continues as FOLLOW in step (R279). (log 33, DEDUCED) -/
def State.relinquish (s : State) : State :=
  if s.pair.st == .lead && s.pair.relinq then s.becomeFollow 3 else s

/-- The causes of a take-over at a start (R280, R282). -/
def State.mayTake (s : State) : Bool :=
  s.pairOn && (s.pair.st == .followIn && (s.partnerRelinq || s.partnerSilent) ||
    s.pair.wasIn && s.partnerSilent && (s.pair.st == .followIn || s.pair.st == .followOut))

/-- Automatic return: HOME, in step without a break for REVHOLD, three lanes ACTIVE, the partner LEAD (R282). -/
def State.mayReturn (s : State) : Bool :=
  s.pairOn && s.pair.st == .followIn && s.set.pair.prole == 1 && s.set.pair.revhold != 0 && s.nActive == 3 &&
  s.partnerLead && !s.partnerSilent &&
  s.pair.since.any fun t => s.set.pair.revhold * 1000 ≤ s.time.ot - t

/-- The hold-off has been found complete, and the other conditions of the return still hold. -/
def State.returns (s : State) : Bool :=
  s.pair.returnDue && s.pair.st == .followIn && s.nActive == 3 && s.partnerLead && !s.partnerSilent

def State.takeIfDue (s : State) : State := if s.mayTake || s.mayReturn || s.returns then s.takeLead else s

/-- The silence count has reached PSILENT: a member in step, or that was, takes LEAD. -/
def execPartnerSilent (s : State) : Res :=
  .next (if s.pairOn && s.partnerSilent && s.mayTake then s.takeLead else s)

/-- The hold-off is complete: LEAD is taken at the next executed start (R280, R282). -/
def execRevertHoldOff (s : State) : Res :=
  .next (if s.mayReturn then s.updPair fun p => { p with returnDue := true } else s)

/-- INSTEPCNT has reached 3: FOLLOW in step; a joining member leaves REJOIN (R277, R283). -/
def State.comeInStep (s : State) : State :=
  if s.pairOn && 3 ≤ s.pair.instep && (s.pair.st == .joining || s.pair.st == .followOut) then
    let s := s.updPair fun p => { p with stale := false, since := some s.time.ot, joinOt := none }
    (s.setPair .followIn).setMod .service
  else s

def execInStep (s : State) : Res := .next s.comeInStep

/-- Both claims stand after 3 of the member's executed starts: FOLLOW out of step, class F2 (R281). -/
def State.endConflict (s : State) : State :=
  if s.pairOn && s.pair.st == .lead && 3 ≤ s.pair.both then
    let s := (s.updPair fun p => { p with both := 0, instep := 0, since := none }).setPair .followOut
    s.collectOpen 1 3 0x19 0 15 2
  else s

def execLeadClaimConflict (s : State) : Res := .next s.endConflict

/-- The join wait runs from the last start before which a LEAD partner was seen (R284). (log 131, DEDUCED) -/
def State.joinRestart (s : State) : State :=
  if s.pair.st == .joining && s.pair.sawLead then s.updPair fun p => { p with sawLead := false, joinOt := some s.time.ot }
  else s

/-- A joining HOME member that has seen no LEAD partner for JOINWAIT, but a joining one, cold starts and takes
LEAD with the epoch after its stored one (R284). -/
def State.joinExpiry (s : State) : State :=
  if s.pairOn && s.pair.st == .joining && s.set.pair.prole == 1 && !s.pair.sawLead && s.pair.sawJoining &&
      s.pair.joinOt.any (fun t => s.set.pair.joinwait * 1000 ≤ s.time.ot - t) then
    let t := s.coldStart
    let s := t.leadWith (nextEpoch t.pair.stored)
    s.updPair fun p => { p with joinOt := none, committed := true }
  else s

def execJoinWaitExpiry (s : State) : Res := .next s.joinExpiry

/-- The second member's apply has not come within 5 s of the first (11 R322). -/
def execPairApplyTimeout (s : State) : Res :=
  .next (
    if s.pairBound && (s.stage.apply.any fun a => !a.listed) && s.pair.farApply != some s.stgId &&
        s.pair.applyOt.any fun t => 5000 ≤ s.time.ot - t then
      s.retryApply
    else s)

/-- The partner's apply ends unlisted 5 s after it came, where none has been accepted here (11 R322). -/
def State.dropFar (s : State) : State :=
  let s := if s.partnerInStep then s else s.updPair fun p => { p with farReady := false }
  if s.stage.apply.isNone && s.pair.farOt.all fun t => 5000 ≤ s.time.ot - t then
    s.updPair fun p => { p with farApply := none, farOt := none }
  else s

/-- A member enters the JOINING pair state: stale, its record of the partner new (R283). -/
def State.startJoining (s : State) : State :=
  let s := s.updPair fun p => { p with
    stale := true, instep := 0, since := none, joinOt := some s.time.ot, sawLead := false, sawJoining := false,
    committed := false, own := [], theirs := [], wasIn := false, relinq := false, both := 0, pacer := false,
    restartDue := true, returnDue := false, partner := none, silence := 0, seenNow := false, seenLast := false,
    hblast := none, blocks := [], mclose := none, tookReport := none, tookClose := none }
  (s.setPair .joining).setMod .rejoin

/-- A member falls silent: STOP, or HOLD beyond HOLDLIM (R262, R279). -/
def State.fallSilent (s : State) : State :=
  if s.pairOn && s.pair.st != .silent then
    let s := s.updPair fun p => { p with relinq := p.relinq || p.st == .lead, since := none, instep := 0 }
    s.setPair .silent
  else s

/-! ### The work of a start -/

/-- The pair cycle number and the pacer (R269, R280). -/
def State.pairCount (s : State) : State :=
  match s.pair.pstart with
  | some (m, _) => if s.pair.pacer then s.updPair fun p => { p with pcyc := wrapInc 64 p.pcyc }
    else s.updPair fun p => { p with pcyc := m.pcyc }
  | none => s.updPair fun p => { p with
      tookStart := none, pcyc := wrapInc 64 p.pcyc, pacer := p.pacer || (s.pow.mod == .service && p.st != .joining) }

/-- The silence count; an out-of-step follower whose leader falls silent raises class F1 (R267, R280). -/
def State.countSilence (s : State) : State :=
  let seen := s.pair.seenNow
  let n := if seen then 0 else min (s.pair.silence + 1) 15
  let s := s.updPair fun p => { p with
    silence := n, seenNow := false, seenLast := seen, fwd := [], fwdPrev := p.fwd,
    entered := [], enteredPrev := p.entered, wasIn := if seen then false else p.wasIn }
  if !seen && n == s.set.pair.psilent then
    let s := s.updPair fun p => { p with wasIn := p.st == .followIn, blocks := [], tookReport := none, tookClose := none }
    if s.pair.st == .followOut && s.partnerLead then s.collectOpen 1 3 0x19 0 12 1 else s
  else s

/-- A report of the cycle before, as the member gives it under the epoch that it adopts: MSDIG covers EPOCH (R274). -/
def State.withEpoch (s : State) (e : Nat) (h : Health) : Health :=
  { h with epoch := e, msdig := if h.pcyc == s.pair.report.pcyc then s.msdigOf h.pcyc e else h.msdig }

/-- A higher epoch of the partner is adopted; the member's own reports not yet compared take it too. (log 34, DEDUCED) -/
def State.adoptEpoch (s : State) : State :=
  if aboveEpoch s.pair.seenEpoch s.pair.epoch then
    let e := s.pair.seenEpoch
    let s := s.updPair fun p => { p with epoch := e, own := p.own.map (s.withEpoch e) }
    let s := if s.pair.st == .lead && s.partnerClaims then s.becomeFollow 3 else s
    s.pairNotice s.pair.st
  else s

/-- Both claim LEAD: an equal epoch yields to HOME, else the starts are counted (R281). -/
def State.claims (s : State) : State :=
  if s.pair.st == .lead && s.partnerClaims && s.pair.silence == 0 then
    if s.set.pair.prole == 2 && s.pair.partner.any (fun h => h.epoch == s.pair.epoch) then s.becomeFollow 3
    else (s.updPair fun p => { p with both := p.both + 1 }).endConflict
  else s.updPair fun p => { p with both := 0 }

/-- Do two reports of one pair cycle match (R277)? -/
def reportsMatch (a b : Health) : Bool :=
  a.msdig == b.msdig && a.outdig == b.outdig && a.imgid == b.imgid && a.setchk == b.setchk && a.mode == b.mode &&
  a.epoch == b.epoch

/-- One comparison with the leader's report of the same cycle. -/
def State.compareOne (s : State) (h : Health) : State :=
  match s.pair.theirs.find? (·.pcyc == h.pcyc) with
  | none => s
  | some g =>
    let s := s.updPair fun p => { p with own := p.own.filter (·.pcyc != h.pcyc), missing := 0 }
    if reportsMatch h g then s.updPair fun p => { p with instep := satInc 16 p.instep }
    else (s.outOfStep).updPair fun p => { p with instep := 0 }

/-- The follower compares the reports of the cycles it has both of; a leader's report that stays missing for more
than PSILENT cycles puts it out of step. -/
def State.compareReports (s : State) : State :=
  if s.pair.st == .followIn || s.pair.st == .followOut || (s.pair.st == .joining && s.pair.committed) then
    let before := s.pair.own.length
    let s := s.each s.pair.own State.compareOne
    if before != 0 && s.pair.own.length == before then
      let n := s.pair.missing + 1
      let s := s.updPair fun p => { p with missing := n }
      if s.set.pair.psilent < n && !s.partnerSilent then s.outOfStep else s
    else s
  else s.updPair fun p => { p with own := [], missing := 0 }

/-- An incomplete set: its arrived items are compared; where none differs, the records that did not arrive are unconfirmed. -/
def State.keepOwn (s : State) (is : List MirrorItem) : State :=
  if is.all s.itemAgrees then s.unconfirm is else s.outOfStep

/-- Did the leader execute cycle k in RUN, by its report? Its set was then due (R273). -/
def State.setDue (s : State) (k : Nat) : Bool := s.pair.theirs.any fun h => h.pcyc == k && h.pstate == 4 && h.mode == 0

/-- The mirror set of the previous pair cycle: committed, or its arrived blocks compared; a set lost as a whole is incomplete
too (R275, R276). (log 131, DEDUCED) -/
def State.commitMirror (s : State) : State :=
  let k := s.pair.pcyc - 1
  let takes := s.pair.st == .followIn || s.pair.st == .followOut || s.pair.st == .joining
  let bs := s.arrived k
  let close := s.pair.mclose.filter fun m => m.pcyc == k
  let s0 := s.updPair fun p => { p with blocks := p.blocks.filter fun b => k < b.pcyc, mclose := none }
  if !takes || (bs.isEmpty && close.isNone && !s.setDue k) then s0
  else
    let is := bs.flatMap (·.items)
    match close with
    | some m =>
      if setGood bs m then (s0.commitSet is).updPair fun p => { p with committed := true }
      else if m.blocks ≤ bs.length || s.pair.st == .joining then s0
      else s0.keepOwn is
    | none => if s.pair.st == .joining then s0 else s0.keepOwn is

/-- A start of a follower outside 0.3 to 0.7 ms after PSTART, or of a pacer out of step: its cycle sequence stops, in REJOIN,
until the leader's next PSTART (R272). A joining member acquires phase so when it sees a LEAD partner (R283). -/
def State.phaseCheck (s : State) : State :=
  let follow := s.pair.st == .followIn || s.pair.st == .followOut
  let off := !s.pair.pacer && s.pair.pstart.any fun x => !(300 ≤ s.cyc.ots - x.2 && s.cyc.ots - x.2 ≤ 700)
  if s.pair.st == .joining && s.partnerLead && !s.partnerSilent && (off || s.pair.pstart.isNone) then
    s.updPair fun p => { p with restartDue := true }
  else if follow && s.pow.mod == .service && (off || (s.pair.pacer && s.pair.st == .followOut && !s.partnerSilent)) then
    let s := s.outOfStep.updPair fun p => { p with restartDue := true, pacer := false, committed := false, own := [] }
    (s.setPair .followOut).setMod .rejoin
  else s

/-- The phase correction of a non-pacer's lanes: at most ±0.02 %, added to each lane's trim in place of the one before
(R269). (log 129, DESIGN CHOICE) -/
def State.phaseCorrect (s : State) : State :=
  let v := match s.pair.pstart with
    | some x => if s.pair.pacer then 0 else max (-2) (min 2 (Config.phaseTrim (s.cyc.ots - x.2)))
    | none => 0
  let d := v - s.pair.phase
  (s.updLanes fun x => { x with trim := x.trim + d }).updPair fun p => { p with phase := v }

/-- A cold assume accepted: cold start and LEAD (R280). -/
def State.assumeNow (s : State) : State :=
  match s.pair.assume with
  | none => s
  | some r =>
    let s := s.updPair fun p => { p with assume := none, joinOt := none, committed := true }
    if s.pair.st == .lead then s.complete r 0x80B0 []
    else
      let t := s.coldStart.takeLead
      t.pairCmdDone r s.pair.epoch t.pair.epoch 0x0000

/-- A mirror set not fully sent at the next executed start is abandoned: no MCLOSE, and the leader's report of the cycle alone
(04 R121, R268). -/
def State.mirrorAbandon (s : State) : State :=
  if s.pair.closing then
    let s := (s.updPair fun p => { p with sending := [], closing := false }).plSend (.preport s.pair.report)
    ({ s with cyc := { s.cyc with mirabort := satInc 32 s.cyc.mirabort } }).collectOpen 1 3 0x19 0 13 1
  else s

/-- The hold-off restarts while a lane is out (R282). -/
def State.holdRestart (s : State) : State :=
  if s.nActive < 3 && s.pair.since.isSome then s.updPair fun p => { p with since := some s.time.ot, returnDue := false } else s

/-- The pair's work at an executed start, before staged changes take effect: a set of the cycle before is committed first.
(log 131, DEDUCED) -/
def State.pairStart (s : State) : State :=
  if !s.pairOn then s
  else
    let s := s.dropFar.mirrorAbandon.pairCount.countSilence.relinquish.handoverDone.adoptEpoch.claims
    let s := s.compareReports.commitMirror.phaseCorrect.phaseCheck.holdRestart
    s.comeInStep.takeIfDue.joinRestart.joinExpiry.assumeNow

/-- LEADCLAIM of the cycle, once a mode change has taken effect. -/
def State.pairClaim (s : State) : State :=
  if !s.pairOn then s
  else { s with
    cyc := { s.cyc with leadclaim := s.pair.st == .lead }
    pair := { s.pair with claim := s.pair.st == .lead } }

/-! ### The command list (R271, 11 R322, R333) -/

/-- Was a command entered at one of the last two executed starts? Each is entered once (R271). (log 127, DESIGN CHOICE) -/
def PairSt.enteredCmd (p : PairSt) (o : OpCmd) : Bool := (p.entered ++ p.enteredPrev).any (sameCmd o.ref)

def State.noteEntered (s : State) (ops : List OpCmd) : State :=
  if s.pairOn then s.updPair fun p => { p with entered := ops.map (·.ref) } else s

/-- The commands of a start, and the state with them taken: the pacer's own list, or the list of its
PSTART, or without one the commands accepted here. -/
def State.opsOf (s : State) : List OpCmd × State :=
  match (if s.pairOn && !s.pair.pacer then s.pair.pstart else none) with
  | some (m, _) =>
    let mine (r : CmdRef) : Option OpCmd := s.trl.ops.find? fun o => sameCmd o.ref r
    let ops := m.ops.map fun o => ({ ((mine o.ref).getD { o with ref := { o.ref with here := false } }) with cmdseq := o.cmdseq } : OpCmd)
    let rest := s.trl.ops.filter fun o => !(m.ops.any fun x => sameCmd x.ref o.ref)
    (ops, { s with trl := { s.trl with ops := rest } })
  | none => (s.trl.ops, { s with trl := { s.trl with ops := [] } })

/-- Does the member compute its application in this cycle (R283)? -/
def State.computes (s : State) : Bool :=
  s.pow.mod == .service || (s.pow.mod == .rejoin && s.paired && s.pair.committed)

/-- One command handled takes the next command sequence number (03 R87). A follower enters it with the number that the pacer
gave it (R271). -/
def State.numberOp (x : List OpCmd × State) (o : OpCmd) : List OpCmd × State :=
  if o.cmdseq != 0 then
    (x.1 ++ [o], { x.2 with trl := { x.2.trl with cmdseq := if wrapInc 32 o.cmdseq == 0 then 1 else wrapInc 32 o.cmdseq } })
  else
    let (q, s) := x.2.takeCmdseq
    (x.1 ++ [{ o with cmdseq := q }], s)

/-- The commands of a start that are not entered already; those that are handled in it are numbered. -/
def State.takeOps (s : State) : List OpCmd × State :=
  let r := s.opsOf
  let ops := r.1.filter fun o => !s.pair.enteredCmd o
  if s.cyc.mode == .run && s.computes then ops.foldl State.numberOp ([], r.2) else (ops, r.2)

/-- Does the partner list the forces and the apply of this start? -/
def State.listed (s : State) : Option PStart :=
  if s.pairOn && !s.pair.pacer then s.pair.pstart.map (·.1) else none

/-- Before the force step of a start with a PSTART: a force accepted here and not yet listed does not go on. -/
def State.holdForces (s : State) : State :=
  if s.listed.isSome then
    { s with stage := { s.stage with forceWait := s.stage.forceWait.map fun (w : ForceWait) =>
        if 2 ≤ w.wait then { w with wait := w.wait + 1 } else w } }
  else s

/-- A force listed by the pacer: applied at the next start, by both. -/
def State.listForce (s : State) (c : ForceCmd) : State :=
  if s.stage.forceWait.any fun w => sameCmd w.cmd.ref c.ref then
    { s with stage := { s.stage with
        forceWait := modWhere (fun w => sameCmd w.cmd.ref c.ref) (fun w => { w with wait := 1 }) s.stage.forceWait } }
  else { s with stage := { s.stage with forceWait := s.stage.forceWait ++ [⟨{ c with ref := { c.ref with here := false } }, 1⟩] } }

/-- The accepted apply, listed: made at the start of the next pair cycle. -/
def State.listApply (s : State) : State :=
  { s with
    stage := { s.stage with apply := s.stage.apply.map fun (a : ApplySt) => { a with wait := 1, listed := true } }
    pair := { s.pair with farApply := none, farOt := none } }

/-- The non-pacer takes the lists of its PSTART, after its apply and force steps. -/
def State.takeLists (s : State) : State :=
  match s.listed with
  | none => s
  | some m =>
    let s := s.each m.forces State.listForce
    if m.apply == some s.stgId && s.stage.apply.isSome then s.listApply else s

/-- Do both members hold an accepted apply of the same set, not yet listed? -/
def State.applyBoth (s : State) : Bool :=
  (s.stage.apply.any fun a => !a.listed) && s.pair.farApply == some s.stgId

/-- The pacer's PSTART at its start event (R265, R269). `ops` are the commands entered in this cycle. (log 34, DEDUCED) -/
def State.sendPstart (s : State) (ops : List OpCmd) : State :=
  if s.pairOn && s.pair.pacer then
    let forces := (s.stage.forceWait.filter (·.wait == 1)).map (·.cmd)
    let apply := if s.applyBoth && s.pairBound then some s.stgId else none
    let sw := s.switchBound && s.pair.farReady && s.switchReady && s.nActive == 3 && s.quietStart
    let s := s.plSend (.pstart ⟨s.pair.pcyc, s.cyc.ots, s.manifest, ops, forces, apply, sw, true⟩)
    let s := if apply.isSome then s.listApply else s
    if sw then s.switchLevel else s
  else
    let s := if s.pair.pstart.any (fun x => x.1.switch) && s.switchReady && s.pairOn then s.switchLevel else s
    s.updPair fun p => { p with pstart := none }

/-- Does the module send vital telegrams in this cycle (R262, R278)? -/
def State.sendsVital (s : State) : Bool :=
  !s.paired || s.pair.st == .unpaired || s.pair.st == .lead || s.pair.st == .followIn

/-! ### The end of a cycle -/

/-- The member's report of the cycle, after its done mark. -/
def State.formReport (s : State) : State :=
  let s := s.updPair fun p => { p with msdig := s.ownMsdig, outdig := outDigest (s.cyc.voted.getD s.cyc.form) }
  s.updPair fun p => { p with report := s.healthNow, own := (p.own ++ [s.healthNow]).reverse.take 16 |>.reverse }

/-- After the done mark: report, heartbeat, and the mirror set of a leader, else PREPORT (R265, R273). No set is sent in a
skipped slot (04 R125). -/
def State.pairDone (s : State) : State :=
  if !s.pairOn then s
  else if s.cyc.graftslot then s.sendHeartbeat
  else
    let s := s.formReport.sendHeartbeat
    if s.pair.st == .lead && s.cyc.mode == .run && s.cyc.skipped == 0 then
      let bs := s.mirrorBlocks
      let s := s.updPair fun p => { p with sending := bs, nblocks := bs.length, closing := true }
      s.each bs fun s b => s.plSend (.mblock b)
    else s.plSend (.preport s.pair.report)

/-- After the last block: MCLOSE, then the leader's report. (log 35, DESIGN CHOICE) -/
def execMcloseSend (s : State) : Res :=
  .next (
    if s.pair.closing && s.pair.st == .lead then
      let items := s.pair.sending.flatMap (·.items)
      let k := s.pair.report.pcyc
      let m : MClose := ⟨k, s.pair.nblocks, digestItems items, true⟩
      let s := (s.plSend (.mclose m)).plSend (.preport s.pair.report)
      s.updPair fun p => { p with sending := [], closing := false }
    else s)

end Sys2Proof.Machine
end

