-- ==== Sys2Proof/Machine/Status.lean ====
section
/-! DEFINITION. Input cell, output cell and connection status records (06 R203, 07 R227, 08 R254), latched at each
executed start. -/

namespace Sys2Proof.Machine

/-- Is a cell hedged in effect by one of the given detectors? -/
def State.cellDet (s : State) (c : Nat) (p : Nat → Bool) : Bool :=
  s.flt.hedges.any fun h => h.kind == .cell && h.index == c && !h.pending && p h.fsid.det

/-- A number cut at the largest 16-bit number. -/
def sat16 (n : Nat) : Nat := min n 0xFFFF

/-! ### Input cells (R203) -/

/-- The largest elapsed time of a disagreement run in progress among the ACTIVE channels. -/
def State.discElap (s : State) (c : Nat) : Nat :=
  s.actives.foldl (fun m l => match ((s.cell c).ch.get l).run with
    | some t0 => max m (s.time.ot - t0)
    | none => m) 0

/-- log 112, DEDUCED. -/
def State.istat (s : State) (c : Nat) : Nat :=
  let x := s.cell c
  b2n (s.hedgedNow .cell c || s.bankHedged (bankOf c)) + 2 * b2n x.under + 4 * b2n x.disc +
  8 * b2n (s.actives.any fun l => (x.ch.get l).latch && (x.ch.get l).bothoff) +
  16 * b2n (s.cellDet c fun d => 2 ≤ d && d ≤ 5) + 32 * b2n (s.cellDet c (· == 1)) + 64 * b2n x.warm

/-- log 85, DEDUCED. -/
def State.inBytes (s : State) (c : Nat) : Bytes :=
  let x := s.cell c
  le 1 (b2n x.chval.a + 2 * b2n x.chval.b + 4 * b2n x.chval.c) ++ le 1 (b2n x.cval) ++ le 1 (s.istat c) ++
  le 1 x.fslot ++ le 2 (sat16 (if s.pairSecond c then 0 else s.discElap c)) ++ le 2 x.tfcnt

/-! ### Output cells (R227) -/

/-- TESTAGE: 10 ms steps since the oldest last completed step among the ACTIVE groups. -/
def State.testAge (s : State) (c : Nat) : Nat :=
  if s.actives.isEmpty then 0xFFFF
  else sat16 (s.actives.foldl (fun m l => match (s.cell c).stepOt.get l with
    | some t => max m ((s.time.ot - t) / 10)
    | none => 0xFFFF) 0)

/-- log 112, DEDUCED. -/
def State.ostat (s : State) (c : Nat) : Nat :=
  let x := s.cell c
  let group := (s.members c).any fun d => d != c && s.cellOut d
  b2n (s.hedgedNow .cell c || s.bankHedged (bankOf c) || group) + 2 * b2n x.under + 4 * b2n x.warm +
  8 * b2n (x.prot || (s.bank (bankOf c)).prot) + 16 * b2n (s.cellDet c (· == 0x16)) +
  32 * b2n (s.cellDet c fun d => d == 0x10 || d == 0x11) +
  64 * b2n group

/-- An output record. -/
def State.outBytes (s : State) (c : Nat) : Bytes :=
  let x := s.cell c
  let ch := x.ch
  le 1 (b2n ch.a.rb + 2 * b2n ch.b.rb + 4 * b2n ch.c.rb + 8 * b2n ch.a.fxVal + 16 * b2n ch.b.fxVal + 32 * b2n ch.c.fxVal) ++
  le 1 (b2n x.voted + 2 * b2n (s.cyc.started && fbEn (s.cellCfg c) && s.expFb c)) ++ le 1 (s.ostat c) ++ le 1 x.olast ++ le 2 x.icell ++
  le 2 (s.testAge c)

/-! ### Connections (R254) -/

/-- NETOK: a copy came from the network within the last 1,000 ms (R252). -/
def ConnSt.delivers (ot : Nat) (n : Net) (c : ConnSt) : Bool := c.lastnet.at n != 0 && ot < c.lastnet.at n + 1000

/-- AGE in µs; all ones when no telegram is in use. -/
def State.connAge (s : State) (c : ConnSt) (r : RecvRec) : Nat :=
  if c.inuse then min (s.cyc.ots - stampUs r.arrival) 0xFFFFFFFF else 0xFFFFFFFF

/-- The connection record of 48 bytes. -/
def State.connBytes (s : State) (c : ConnSt) : Bytes :=
  let head := match s.recv? c.num with
    | some r => le 1 r.cstate ++ le 1 r.cusedp ++ le 2 r.lastepoch ++ le 4 r.lastseq ++ le 4 (s.connAge c r)
    | none => zeros 4 ++ le 4 ((s.app.sends.find? (·.conn == c.num)).elim 0 (·.sseq)) ++ le 4 0xFFFFFFFF
  head ++ le 1 (b2n (c.delivers s.time.ot .a) + 2 * b2n (c.delivers s.time.ot .b)) ++ zeros 3 ++ le 4 c.cntbad ++
  le 4 c.cntstale ++ le 4 c.cntalive ++ le 4 c.cntlate ++ le 4 c.cntdelay ++ le 4 c.cntdiv ++ le 4 c.cnttout ++
  le 4 c.cntxport

/-- What an unconfigured connection reads: the Reset values. -/
def connNone : Bytes := zeros 8 ++ le 4 0xFFFFFFFF ++ zeros 36

/-! ### The latched blocks -/

def State.inLive (s : State) : Bytes := (List.range Config.nCells).flatMap s.inBytes
def State.outLive (s : State) : Bytes := (List.range Config.nCells).flatMap s.outBytes
def State.connLive (s : State) : List (Nat × Bytes) := s.conns.map fun c => (c.num, s.connBytes c)

/-- ICELL of an output cell: the current at the last conversion before the start, a measured value, free in the model.
(log 21, DESIGN CHOICE) -/
def State.latchCurrent (s : State) (c : Nat) : State :=
  if cOut (s.cellCfg c) then
    let (v, s) := s.freshNat 16
    s.updCell c fun x => { x with icell := v }
  else s

/-- The status records latched at an executed start. (log 85, DEDUCED) -/
def State.latchStatus (s : State) : State :=
  let s := s.each (List.range Config.nCells) State.latchCurrent
  { s with mail := { s.mail with
      inStat := some s.inLive, outStat := some s.outLive, connStat := some s.connLive, elemStat := some s.app.elems } }

end Sys2Proof.Machine
end

