-- ==== Sys2Proof/Machine/Tunnels.lean ====
section
/-! DEFINITION. Legacy ports and tunnels (13 R376 to R380). -/

namespace Sys2Proof.Machine

def tEnable (t : Tunnel) : Bool := t.flags.getLsbD 0
def tAsync (t : Tunnel) : Bool := t.flags.getLsbD 1

/-- Tunnels run in REJOIN and in SERVICE while LP works (R379). -/
def State.tunnelsRun (s : State) : Bool :=
  s.cmUp && (s.pow.mod == .rejoin || s.pow.mod == .service) && !s.blockOut 0x1B

/-- The fault source of an LP detector, the port in the cell field. -/
def fLp (port det : Nat) : Fsid := ⟨0, 3, 0x1B, port, det⟩

/-- The enabled tunnels of a port, by number. -/
def State.portTunnels (s : State) (port : Nat) : List (Nat × Tunnel) :=
  (s.tunnels.zipIdx.map fun x => (x.2, x.1)).filter fun x => tEnable x.2 && x.2.port == port

/-- The tunnel an HDLC frame goes to: ADRF equal to its first byte, else the one with 0xFFFF. -/
def hdlcTunnel (ts : List (Nat × Tunnel)) (data : Bytes) : Option (Nat × Tunnel) :=
  let first := (data.head?.map (·.toNat)).getD 0
  (ts.find? fun x => x.2.adrf == first).orElse fun _ => ts.find? fun x => x.2.adrf == 0xFFFF

/-- A tunnel frame sent on both networks: a carried frame, or a keepalive with LEN 0. -/
def State.sendTunnel (s : State) (n seq : Nat) (data : Bytes) : State :=
  let t := s.tunnel n
  (s.sendBoth none (withCrc (s.newGvt 9 t.fmod (t.ftun + 1) seq 0 data))).updTunnel n fun t => { t with sentOt := s.time.ot }

/-- A frame of the local port carried whole. -/
def State.carry (s : State) (n : Nat) (data : Bytes) : State :=
  let seq := wrapInc 32 (s.tunnel n).seq
  let s := s.updTunnel n fun t => { t with seq := seq, nsent := satInc 32 t.nsent, carried := some s.time.ot }
  s.sendTunnel n seq data

/-- A frame of a tunnel discarded (R382). (log 141, DEDUCED) -/
def Tunnel.drop (t : Tunnel) : Tunnel := { t with ndisc := satInc 32 t.ndisc }

/-- A good frame of the line: carried while tunnels run, else discarded. -/
def State.carryOr (s : State) (n : Nat) (data : Bytes) : State :=
  if s.tunnelsRun then s.carry n data else s.updTunnel n Tunnel.drop

/-- A frame of the local line for the tunnels of its port. -/
def State.lineFrame (s : State) (port : Nat) (data : Bytes) (bad : Bool) : State :=
  let ts := s.portTunnels port
  match ts with
  | [] => s
  | (n0, t0) :: _ =>
    if tAsync t0 then
      if data.isEmpty then s
      else if bad then s.updTunnel n0 Tunnel.drop else s.carryOr n0 (data.take 1500)
    else if bad || 1500 < data.length then if s.tunnelsRun then s.collect (fLp port 0x01) else s
    else match hdlcTunnel ts data with
      | some (n, _) => s.carryOr n data
      | none => s

/-- The line of a port was busy until now; the echo awaited has been heard or has not come. -/
def LegacyPort.heard (ot : Nat) (_ : LegacyPort) : LegacyPort := { busy := some ot, echo := none }

/-- A legacy frame ends on a port (R377, R378); on a two-wire line the port ignores its own echo. (log 66, DEDUCED)
(log 141, DEDUCED) -/
def execLegacyFrameReceived (port : Nat) (data : Bytes) (ending : LegacyEnd) (s : State) : Res :=
  .next (
    let own := (s.port port).echo == some data
    let s := s.updPort port (LegacyPort.heard s.time.ot)
    if own || !s.cmUp || s.blockOut 0x1B then s else s.lineFrame port data (ending == .bad))

def Tunnel.hear (ot : Nat) (t : Tunnel) : Tunnel := { t with heard := some ot, up := true }

/-- Is a SEQ later than the last one taken? -/
def Tunnel.newer (seq : Nat) (t : Tunnel) : Bool :=
  match t.taken with
  | none => true
  | some k => serialAfter 32 seq k

/-- An intact TYPE 9 frame of a tunnel: only a later SEQ is carried, at most 8 frames wait, and the copy from the other
network is no discard (R379). (log 141, DEDUCED) -/
def State.tunnelData (s : State) (n : Nat) (g : Gvt) : State :=
  if !s.tunnelsRun then if g.payload.isEmpty then s else s.updTunnel n Tunnel.drop
  else
    let t := s.tunnel n
    let s := s.updTunnel n (Tunnel.hear s.time.ot)
    if g.payload.isEmpty || t.taken == some g.seq then s
    else if 1500 < g.payload.length || !t.newer g.seq then s.updTunnel n Tunnel.drop
    else
      let s := s.updTunnel n fun t => { t with taken := some g.seq }
      if 8 ≤ t.queue.length then (s.updTunnel n Tunnel.drop).collect (fLp t.port 0x02)
      else s.updTunnel n fun t => { t with queue := t.queue ++ [g.payload], nrecv := satInc 32 t.nrecv }

/-- A GVT of TYPE 0x9 arrives from the far end (R378, R379). -/
def execTunnelFrameReceived (net : Net) (f : Frame) (s : State) : Res :=
  .next (
    let g := f.gvt
    let n := g.conn - 1
    let t := s.tunnel n
    if g.typ != 9 || !s.tgTakes net f then s
    else s.notOwn f <|
    if !s.handedOn net f then s
    else if s.blockOut 0x1E then s
    else if !crcOkGvt g then s.tvFail
    else if g.conn == 0 || 16 < g.conn || !tEnable t || t.fmod != g.src.toNat || s.blockOut 0x1B then s
    else s.tunnelData n g)

def tTwoWire (t : Tunnel) : Bool := !t.flags.getLsbD 2

/-- TURN bit times in ms, rounded up. -/
def Tunnel.turnMs (t : Tunnel) : Nat := (t.turn * 1000 + t.baud - 1) / t.baud

/-- May a tunnel's port transmit: on a two-wire line only after TURN bit times without a frame (R378)? -/
def State.lineIdle (s : State) (t : Tunnel) : Bool :=
  !tTwoWire t || (s.port t.port).busy.all fun b => b + t.turnMs ≤ s.time.ot

/-- A port's line after its own frame. -/
def LegacyPort.sent (ot : Nat) (two : Bool) (x : Bytes) (_ : LegacyPort) : LegacyPort :=
  { busy := some ot, echo := if two then some x else none }

/-- The port sends the oldest queued frame, unchanged, once its line is idle (R378). (log 141, DEDUCED) -/
def execLegacyTransmit (tunnel : Nat) (s : State) : Res :=
  .next (
    let t := s.tunnel tunnel
    match t.queue with
    | [] => s
    | x :: rest =>
      if s.tunnelsRun && tEnable t && s.lineIdle t then
        let s := s.updPort t.port (LegacyPort.sent s.time.ot (tTwoWire t) x)
        { s.updTunnel tunnel (fun t => { t with queue := rest, played := some s.time.ot }) with
          legacyTx := s.legacyTx ++ [(t.port, x)] }
      else s)

/-- 1 s without a frame sent: a keepalive (R379). (log 66, DEDUCED) -/
def execTunnelKeepalive (tunnel : Nat) (s : State) : Res :=
  .next (
    let t := s.tunnel tunnel
    if tunnel < 16 && tEnable t && s.tunnelsRun && t.sentOt + 1000 ≤ s.time.ot then s.sendTunnel tunnel t.seq []
    else s)

/-- Nothing heard for 3 s: the tunnel is DOWN (R379). -/
def execTunnelDown (tunnel : Nat) (s : State) : Res :=
  .next (
    let t := s.tunnel tunnel
    if tunnel < 16 && t.up && !(t.heard.any fun h => s.time.ot < h + 3000) && s.cmUp then
      (s.updTunnel tunnel fun t => { t with up := false }).collect (fLp t.port (0x20 + tunnel))
    else s)

/-- The slot of a tunnel in a GATEWAY payload (R380). -/
def State.tunnelSlot (s : State) (n : Nat) : BitVec 16 :=
  let t := s.tunnel n
  let within (x : Option Nat) : Bool := x.any fun h => s.time.ot < h + 3000
  if !tEnable t || !t.up || s.blockOut 0x1B then 0
  else maskOf 16 ([0, 1] ++ (if within t.carried then [2] else []) ++ (if within t.played then [3] else []))

/-- The 64-byte payload of a GATEWAY connection. -/
def State.tunnelPayload (s : State) : Bytes := (List.range 16).flatMap fun n => bigE 4 (s.tunnelSlot n).toNat

end Sys2Proof.Machine
end

