-- ==== Sys2Proof/Machine/Cycle.lean ====
section
/-! DEFINITION. The start of a vital cycle (01 R32, R33, 04, 05): due marks, skipped slots, the order of work at an
executed start, the passes and the vote form of a correctly computing lane. -/

namespace Sys2Proof.Machine

def State.updCyc (s : State) (f : CycleSt → CycleSt) : State := { s with cyc := f s.cyc }

/-! ### Vote forms (05 R150) -/

/-- The voted DRIVE of the element blocks: OUTCMD of every local destination (02 R41). -/
def State.driveMask (s : State) : CellMask :=
  if !s.drives then 0
  else maskOf 48 (s.image.ents.flatMap fun t =>
    match s.elem? t.num with
    | some e => if t.dstlocal then
        ((dstCells t e.body).zipIdx.filter fun x => e.outcmd.getLsbD x.2).map (·.1)
      else []
    | none => [])

/-- One element's slots in the payload of a connection. -/
def State.payloadElem (s : State) (conn : Nat) (p : Bytes) (t : ElemEntry) : Bytes :=
  match s.elem? t.num with
  | none => p
  | some e =>
    let p := if !t.dstlocal && t.dstconn == conn && 0 < outBits e.body then putSlot p t.dstpos e.outcmd else p
    match e.body with
    | .ptdrive b => if b.rptconn == conn then putSlot p b.rptslot (BitVec.ofNat 16 b.rptword) else p
    | _ => p

/-- The payload of a sending connection in RUN. -/
def State.payloadOf (s : State) (k : ConnCfg) : Bytes :=
  if s.image.role == 4 then padTo k.len s.tunnelPayload
  else s.image.ents.foldl (fun p t => s.payloadElem k.num p t) (zeros k.len)

def State.formConns (s : State) : List FormConn :=
  (connsOf 1 s.set).map fun n => { conn := n, payload := s.payloadOf (connOf s.set n) }

/-- A form with the present header and digest. -/
def State.formWith (s : State) (drive : CellMask) (conns : List FormConn) : VoteForm :=
  { mode := s.cyc.mode.code, bank := s.cyc.bank, flags := b2n s.cyc.leadclaim, nconn := conns.length, cyc := s.cyc.cyccnt,
    img := s.image.imgid, digest := if s.pow.split then 0 else digestOf s.image s.app s.cyc.corerec, drive := drive, resv := 0, conns := conns }

/-- The form that lane l's own tables lead to: where they are not the image's, its TBLCHK and so its DIGEST differ (03 R111,
R112). -/
def State.ownForm (s : State) (l : Lane) : VoteForm :=
  if s.tablesOff l then
    let t := s.app.trellis
    let n := slicesPerCycle s.set.tc
    let chk := checkOf (canonTables l (s.lane l).tables) ((t.tblslice + 1024 - n % 1024) % 1024) n
    let app := { s.app with trellis := { t with tblchk := chk } }
    { s.cyc.form with digest := digestOf s.image app s.cyc.corerec }
  else s.cyc.form

/-- Send state advanced for every sending connection of the form (08 R242). (log 103, DEDUCED) -/
def State.advanceSends (s : State) (conns : List Nat) : State :=
  { s with app := { s.app with sends := modWhere (fun r => conns.contains r.conn) nextSend s.app.sends } }
where nextSend (r : SendRec) : SendRec :=
  { r with sseq := if wrapInc 32 r.sseq == 0 then 1 else wrapInc 32 r.sseq, salive := wrapInc 16 r.salive }

def State.putForm (s : State) (f : VoteForm) : State := s.updCyc fun c => { c with form := f }

/-- The form of a cycle in HOLD: the last image voted, with new sequence and alive values (04 R129). -/
def State.holdForm (s : State) : State :=
  let last := s.cyc.lastimg
  let s := s.advanceSends (last.2.map (·.conn))
  s.putForm (s.formWith last.1 last.2)

/-- The image of a form as the last one voted. -/
def State.keepImage (s : State) (f : VoteForm) : State := s.updCyc fun c => { c with lastimg := (f.drive, f.conns) }

/-! ### Timebases (01 R33, 08 R245) -/

/-- Do two counts differ by more than 1 %? (log 26, DESIGN CHOICE). -/
def countsOff (a b : Nat) : Bool := max a b < 100 * apart a b

/-- The comparison of the tick counts between two starts, its events in descending class (10 R301). (log 27, DEDUCED) -/
def State.tickCompare (s : State) (t : Trio Nat) : State :=
  let act := s.actives
  let off (x y : Lane) : Bool := countsOff (t.get x) (t.get y)
  let odd := act.filter fun l => (act.filter (· != l)).all fun m => off l m
  let stop := odd.length == act.length && 1 < act.length
  let s := if stop then s.stopModule (fXh 0x01)
    else if act.length == 3 then s.each odd fun s l => s.collect (fLaneBlk l 0x06 0x01) else s
  match s.resyncLane with
  | some l => if act.all fun m => off l m then s.failResync l none else s
  | none => s

/-- Each lane checks the increase of OTS against its own tick count; two lanes that find it off stop the module. -/
def State.otsCheck (s : State) (t : Trio Nat) : State :=
  let inc := (s.cyc.ots - s.cyc.otsprev) * 10
  if 2 ≤ (s.actives.filter fun l => countsOff inc (t.get l)).length then s.collectOpen 3 3 0x1C 0 5 4 else s

/-! ### Effects at a start -/

/-- The effects of the events since the previous start: hedges take effect and lift (10 R287); a round in which a bank is
hedged is not counted for it (07 R218). -/
def State.eventEffects (s : State) : State :=
  let s := (s.latchFlags.dropHedges (·.lifting)).updHedges (·.pending) Hedge.inEffect
  let s := s.each (List.range 6) fun s b => if s.bankHedged b then s.updBank b fun x => { x with hedgedRound := true } else s
  State.flushWaiting { s with flt := { s.flt with events := [] } }

/-- The slices in which two tokens differ: what the comparator reports (05 R141, R143). -/
def cmpSlices (x y : CoreTok) : List Nat :=
  (List.range 16).filter fun k => (x >>> (8 * k)).setWidth 8 != (y >>> (8 * k)).setWidth 8

/-- What the comparator reports of the 17 test tokens of a cycle: token k has bit (CYCCNT mod 8) of slice k inverted on
the core 1 side, the last carries no difference. -/
def exerciseReport (cyc : Nat) : List (List Nat) :=
  (List.range 17).map fun k => cmpSlices 0 (if k < 16 then 1#128 <<< (8 * k + cyc % 8) else 0)

/-- The report a sound comparator makes: a mismatch in exactly the inverted slice, agreement for the last token. -/
def exerciseExpected : List (List Nat) := (List.range 16).map (fun k => [k]) ++ [[]]

/-- Stores of function-block code to live STG fields, refused by the memory protection of their lanes (11 R311). -/
def State.fbStores (s : State) (env : StartEnv) (ls : List Lane) : State :=
  s.each (ls.filter env.stores.get) fun s l => s.collect (fLaneBlk l 0x04 0x10)

/-- The comparator exercise of every lane that computes, ACTIVE or in RESYNC (05 R144, R168), an illegal lane C code in
the pass to come (03 R110), and a store to a live STG field in it. -/
def State.exercise (s : State) (env : StartEnv) : State :=
  let on := s.computing
  let s := s.each on fun s l =>
    if (env.cmp.get l).getD (exerciseReport s.cyc.cyccnt) != exerciseExpected then s.collectOpen 1 l.num 0x01 0 6 3 else s
  let s := if env.trellisBad && on.contains .c then s.collect (fLaneBlk .c 0x03 0xE0) else s
  if s.cyc.mode == .run && s.computes then s.fbStores env on else s

/-- SYNC has passed: the application starts, and the module enters SERVICE, or REJOIN in a pair (17 R458). -/
def State.syncPass (s : State) : State :=
  if s.pow.mod == .sync && 3 ≤ s.cyc.synccnt then
    let s := s.updCyc fun c => { c with mode := s.firstMode, synccnt := 0 }
    if s.paired then s.coldStart.startJoining else s.startApp.setMod .service
  else s

/-- A mode takes effect (04 R129 to R134). -/
def State.enterMode (s : State) (m : ExecMode) : State :=
  let old := s.cyc.mode
  if old == m then s
  else
    let s := s.updCyc fun c => { c with mode := m, holdover := false, holdelap := 0, holdstart := if m == .hold then s.time.ot else 0 }
    let s := s.updLanes fun x => { x with holdhit := false }
    let s := (s.recordState 4 0 old.code m.code).2
    let s := if old == .stop && m == .run then s.coldStart else s
    if m == .stop then s.fallSilent
    else if old == .stop && s.paired && s.pair.st == .silent then s.startJoining
    else s

/-- An accepted mode command at its start; HOLD whose limit has passed becomes STOP. -/
def State.modeStep (s : State) : State :=
  let s := if s.cyc.mode == .hold && s.cyc.holdover then s.enterMode .stop else s
  match s.cyc.modereq with
  | some (m, r) =>
    if s.resyncLane.isSome then s
    else
      let body := le 1 s.cyc.mode.code ++ le 1 m.code ++ le 2 0
      (((s.updCyc fun c => { c with modereq := none }).enterMode m).refChange r 0x15 body).complete r 0x0000 []
  | none => s

/-- May a lane enter RESYNC (05 R165)? -/
def State.resyncReady (s : State) (l : Lane) : Bool :=
  let x := s.lane l
  x.st == .withdrawn && x.hold == .waiting && !x.latched && !x.turn && x.testHold.isNone &&
  !(x.retryAt.any fun t => s.time.ot < t)

/-- A lane whose two shadow forms matched rejoins: ACTIVE, its gate closed on the agreement of both ACTIVE lanes,
the overrun window and DUOELAP cleared (05 R169, R171). -/
def State.rejoinLane (s : State) (l : Lane) : State :=
  if (s.lane l).st == .resync && 4 ≤ (s.lane l).rsync && s.cycling then
    let s := s.updLane l fun x => { x with
      st := .active, hold := .none, rsync := 0, due := false, ring := true, gate := !s.flt.gatelatch }
    let s := s.updCyc fun c => { c with overruns := [], duoelap := 0 }
    (s.laneEvent l 2 0 false (s.lane l).lastwd).turnEnds l
  else s

/-- One lane that asks for it enters RESYNC, where nothing else takes effect at this start. -/
def State.resyncEntry (s : State) : State :=
  if s.pow.mod == .service && s.cyc.mode != .hold && s.nActive == 2 && s.resyncLane.isNone then
    match Lane.all.find? s.resyncReady with
    | some l =>
      let s := s.updLane l fun x => { x with
        st := .resync, hold := .none, rsync := 1, retryAt := none, done := false, ring := true }
      s.laneEvent l 1 2 false (s.lane l).lastwd
    | none => s
  else s

/-- What a start makes of staged changes, forces and modes, in this order (04 R130, 11 R318, R333). -/
def State.stagedWork (s : State) : State :=
  if s.pow.mod == .service then
    let before := s.cyc.mode
    let s := s.holdForces.applyStep.forceStep.takeLists.modeStep
    if s.stage.applying.isSome || s.cyc.mode != before then s else s.resyncEntry
  else s

/-! ### The passes (02 R44, 03 R79) -/

/-- The core state record of 512 bytes, with the lane identity register and the timebase counter register as 0 (05 R145).
(log 10, DESIGN CHOICE) -/
def coreRec (raw : Bytes) : Bytes :=
  padTo 512 (patch (patch (padTo 512 raw) (Config.coreIdOff % 508) (zeros 4)) (Config.coreTbOff % 504) (zeros 8))

def State.formCore (s : State) : State := s.updCyc fun c => { c with corerec := coreRec (Config.coreRecord c.cyccnt) }

/-- Data of the optional function blocks, by the image's own code. -/
def State.fbStep (s : State) : State :=
  if s.app.fbData.isEmpty then s
  else { s with app := { s.app with fbData := (Config.fbNext s.app.fbData s.cyc.cyccnt ++ s.app.fbData).take s.app.fbData.length } }

/-- One executed cycle of the application: entry of requests, input pass, Trellis pass, output pass. -/
def State.runPasses (s : State) (ops : List OpCmd) (dt : Nat) : State :=
  let steps := axleStepsOf ops
  let s := (s.tickApproach dt).enterRequests ops
  let s := { s with trl := { s.trl with scratch := [] } }
  let s := s.inputPass dt steps
  let s := if s.usesTe then s.buildVecs.trellisPass dt else s
  let s := s.outputPass.fbStep
  let s := s.tableCheck
  s.formCore

/-- The work of RUN and the form it leads to. -/
def State.runCycle (s : State) (ops : List OpCmd) (dt : Nat) : State :=
  let s := s.runPasses ops dt
  let conns := s.formConns
  let s := s.advanceSends (conns.map (·.conn))
  s.putForm (s.formWith s.driveMask conns)

/-- Each lane reads its latches and the frozen telegrams over the commons token (01 R22). -/
def State.readCommons (s : State) : State :=
  s.each s.computing fun s l => s.spendToken (tokenOf l)

/-- The snapshot and the passes of a start, by module state and mode. The snapshot with the examination of copies
(08 R247, R248) is taken in STOP and HOLD too (04 R129). -/
def State.compute (s : State) (dt : Nat) : State :=
  if s.pow.mod == .sync then s.putForm { s.formWith 0 [] with mode := s.firstMode.code }
  else if s.cyc.graftslot then s.putForm (s.formWith 0 [])
  else
    let own := s.trl.ops
    let listed := s.listed.isSome
    let (ops, s) := s.takeOps
    let s := (s.sendPstart ops).readCommons.snapConns
    match s.cyc.mode with
    | .run =>
      if s.computes then (s.noteEntered ops).runCycle ops dt
      else ({ s with trl := { s.trl with ops := if listed then s.trl.ops else own } }).putForm (s.formWith 0 [])
    | .stop => (s.refuseOps ops).putForm (s.formWith 0 [])
    | .hold => (s.refuseOps ops).holdForm

/-- The cycle counters at a start. -/
def CycleSt.begin (ots ot : Nat) (service : Bool) (c : CycleSt) : CycleSt :=
  { c with
    otsprev := c.ots, ots := ots, started := true, skipped := 0, graftslot := false, cyccnt := wrapInc 64 c.cyccnt,
    phase := .exchange, stamps := .all none, voters := [], trailers := .all none, ended := false, leadclaim := false, tosend := [], runot := if service then ot else c.runot }

def LaneSt.begin (x : LaneSt) : LaneSt := { x with done := false, due := false, warnwait := x.warnwait - 1 }

/-- The time that has passed since the previous executed start, in ms (02 R72, 04 R133). (log 50, DEDUCED) -/
def State.elapsedMs (s : State) : Nat :=
  if !s.cyc.started || s.pair.restartDue then 0
  else if s.cyc.mode == .hold then s.set.tc
  else s.set.tc * (1 + s.cyc.skipped + b2n s.cyc.graftslot)

/-- Each lane's own tick count since the previous start, for its trailer (01 R33, 05 R153). -/
def State.takeTicks (s : State) (t : Trio Nat) : State :=
  s.each Lane.all fun s l => s.updLane l fun x => { x with ticks := t.get l }

/-- Work of a start before the snapshot. -/
def State.beforeSnapshot (s : State) : State :=
  let s := (s.each Lane.all State.rejoinLane).mirrorAbandon.eventEffects.liftFsv.warmEnds.finishRels.clocheEnd
  let s := if s.pow.mod == .service then s.clocheStart else s
  let s := s.actStart.turnStart.switchStart.syncPass.freezeBridge.maintStep.lcStep
  s.pairStart.stagedWork.pairClaim

/-- An executed cycle starts: everything the start event and the snapshot bring, up to the vote form. (log 37, DEDUCED) -/
def State.cycleStart (s : State) (env : StartEnv) : State :=
  let dt := s.elapsedMs
  let first := !s.cyc.started || s.pair.restartDue
  let s := (s.updCyc (CycleSt.begin (s.time.ot * 1000 + env.us) s.time.ot (s.pow.mod == .service))).updLanes LaneSt.begin
  let s := (s.takeTicks env.ticks).updPair fun p => { p with restartDue := false }
  let s := if first then s else (s.tickCompare env.ticks).otsCheck env.ticks
  let s := s.exercise env
  if !s.cycling then s
  else
    let s := s.beforeSnapshot
    let s := if s.cyc.graftslot then s else s.disagreements.latchAll
    if !s.cycling then s
    else ((s.freezeAll.compute dt).latchSummary).latchStatus

/-! ### Due marks (01 R32) -/

/-- The lane that an overrun is attributed to (04 R124): a missing form last, then the latest stamp, ties to the
later letter; of the lanes that were ACTIVE at the exchange close, whether or not its vote withdrew one. -/
def State.lastForm (s : State) : Lane :=
  let act := if s.cyc.voters.isEmpty then s.actives else s.cyc.voters
  match (act.filter fun l => (s.cyc.stamps.get l).isNone).getLast? with
  | some l => l
  | none => act.foldl (fun best l =>
      if (s.cyc.stamps.get best).getD 0 ≤ (s.cyc.stamps.get l).getD 0 then l else best) (act.headD .a)

/-- The overruns within the window of 100 executed cycles. -/
def State.overrunsNow (s : State) : List (Nat × Lane) := s.cyc.overruns.filter fun x => s.cyc.cyccnt - x.1 < 100

/-- A third overrun within the window (04 R127); the withdrawal clears it. -/
def State.overrunCheck (s : State) : State :=
  match s.overrunsNow with
  | x :: y :: z :: rest =>
    if (y :: z :: rest).all (fun w => w.2 == x.2) && s.nActive == 3 then s.collect (fLane x.2 0x04)
    else s.stopModule (fXh 0x03)
  | _ => s

def execOverrunLimit (s : State) : Res := .next (if s.cycling then s.overrunCheck else s)

/-- The slot is skipped: an overrun (04 R124, R125). (log 28, DEDUCED) -/
def State.skipSlot (s : State) : State :=
  let l := s.lastForm
  let s := s.updCyc fun c => { c with
    skipped := c.skipped + 1, skipcnt := satInc 32 c.skipcnt, ovrlast := some l
    overruns := (c.overruns.filter fun x => c.cyccnt - x.1 < 100) ++ [(c.cyccnt, l)] }
  ((s.collect (fLane l 0x02)).actLane l).overrunCheck

/-- A lane withdrawn for a done mark that is missing although fewer than two lanes are left with theirs: class F3, recorded
before the module stops. -/
def State.withdrawLate (s : State) (l : Lane) : State :=
  let r := s.recordEvent (fLane l 0x03) 3 3 false false none
  (r.2.startGrace (fLane l 0x03) r.1 3 (some l)).withdraw l (fLane l 0x03) r.1 .checking true

/-- A done mark still missing at the next due time: the lane is withdrawn, class F3; the cycle starts with two lanes that
have posted theirs, else the module stops (04 R126). -/
def State.doneMissing (s : State) (env : StartEnv) : State :=
  let late := s.actives.filter fun l => !(s.lane l).done
  if s.nActive < late.length + 2 then (s.each late State.withdrawLate).stopModule (fXh 0x03)
  else
    let s := s.each late fun s l => s.collect (fLane l 0x03)
    if s.cycling then s.cycleStart env else s

/-- A copy that has not ended at the due time is abandoned (05 R167). (log 69, DEDUCED) -/
def State.copyAbandon (s : State) : State :=
  match s.resyncLane with
  | none => s
  | some l =>
    if (s.lane l).rsync == 1 then
      let n := (s.lane l).abandons + 1
      let s := s.updLane l fun x => { x.stop with
        st := .withdrawn, abandons := n, hold := if 3 ≤ n then .untilRestart else .waiting
        retryAt := if 3 ≤ n then none else some (s.time.ot + 1000) }
      let s := s.updCyc fun c => { c with rsyfail := satInc 32 c.rsyfail }
      let s := (s.laneEvent l 2 1 false (some (fLane l 0x06))).collect (fLane l 0x06)
      if 3 ≤ n then s.actLane l else s
    else s

/-- A member in a phase restart waits for the leader's PSTART (09 R272). (log 34, DEDUCED) -/
def State.awaitsPstart (s : State) : Bool :=
  s.pairOn && s.pair.restartDue && s.pair.pstart.isNone && s.partnerLead && !s.partnerSilent

def State.allDone (s : State) : Bool := s.actives.all fun l => (s.lane l).done

/-- The due time: the second due mark of an ACTIVE lane. (log 18, DESIGN CHOICE) -/
def State.dueTime (s : State) (env : StartEnv) : State :=
  let s := s.updLanes fun x => { x with due := false }
  let s := s.copyAbandon
  if s.awaitsPstart then s
  else if !s.cyc.started || s.allDone then s.cycleStart env
  else if s.cyc.skipped == 0 then s.skipSlot
  else s.doneMissing env

/-! ### Split mode (05 R176, R177) -/

/-- The lane whose own cycle the status blocks show: the lowest-lettered SPLIT lane whose core 0 has not stopped.
(log 104, DESIGN CHOICE) -/
def State.splitLane (s : State) : Option Lane :=
  Lane.all.find? fun l => (s.lane l).st == .split && !(s.lane l).stopped.fst

/-- A lane's own cycle, element and program state; before its first cycle, what the boot left. -/
def State.splitOf (s : State) (l : Lane) : SplitSt :=
  (s.splits.get l).getD
    ⟨s.cyc, s.app, s.trl, ⟨s.image.parts.getD (2 * l.num) [], s.image.parts.getD (2 * l.num + 1) []⟩⟩

/-- The cycle state of one lane with what the module has only one of: mode, mode request, commons token, TCXO, OT of the
last start. -/
def CycleSt.shared (own all : CycleSt) : CycleSt :=
  { own with
    mode := all.mode, modereq := all.modereq, token := all.token, tokencnt := all.tokencnt, tcxolost := all.tcxolost
    runot := all.runot, holdstart := all.holdstart, holdelap := all.holdelap, holdover := all.holdover }

/-- The operations commands waiting belong to the module. -/
def TrellisSt.shared (own all : TrellisSt) : TrellisSt := { own with ops := all.ops, cmdseq := all.cmdseq }

/-- Lane l's own cycle comes in. A lane that last ran in STOP cold-starts where the module has left it (04 R131). -/
def State.enterSplit (s : State) (l : Lane) : State :=
  let x := s.splitOf l
  let wasStop := x.cyc.lane == some l && x.cyc.mode == .stop && s.cyc.mode == .run
  let s := { s with
    cyc := { x.cyc.shared s.cyc with lane := some l }
    app := x.app
    trl := x.trl.shared s.trl }
  if wasStop then s.coldStart else s

/-- The two programs of lane l run on their data: each core that has not stopped. -/
def State.runCores (s : State) (l : Lane) (d : Duo Bytes) : Duo Bytes :=
  let next (core : Bool) : Bytes :=
    let b := d.sel core
    if (s.lane l).stopped.sel core then b
    else (Config.coreNext (2 * l.num + b2n core) b s.cyc.cyccnt ++ b).take b.length
  ⟨next false, next true⟩

/-- Lane l's cycle goes out; the module shows the cycle of the lane that it shows. -/
def State.leaveSplit (s : State) (old : State) (l : Lane) : State :=
  let x : SplitSt := ⟨s.cyc, s.app, s.trl, s.runCores l (old.splitOf l).data⟩
  let s := { s with splits := s.splits.set l (some x) }
  if old.splitLane == some l then s
  else { s with cyc := old.cyc.shared s.cyc, app := old.app, trl := old.trl.shared s.trl }

/-- The telegram of a sending connection with its voted payload, without its codes. -/
def State.telegram (s : State) (c : FormConn) : OutTg :=
  let k := connOf s.set c.conn
  let r := (s.app.sends.find? (·.conn == c.conn)).getD (sendInit c.conn)
  let kid := ((s.conn? c.conn).map (·.keyid)).getD 0
  let lead := !s.paired || s.pair.st == .lead
  let nv := s.nonVital
  let g := s.newGvt (if nv then 3 else 1) k.peer1 c.conn r.sseq r.salive c.payload
  let g := { g with
    flags := BitVec.ofNat 8 (b2n lead + (if kMacen k then 2 + 4 * kid else 0))
    epoch := if s.paired then s.pair.epoch else 0
    stampMs := s.cyc.ots / 1000, stampUs := s.cyc.ots % 1000 }
  ⟨c.conn, if kMacen k then { g with macv := s.macvOf c.conn kid g } else g⟩

/-- NONVITAL telegrams of a cycle in split mode, sent without a vote and without safety codes (08 R232, R238). -/
def State.sendNonVital (s : State) : State :=
  s.each s.cyc.form.conns fun s c =>
    let t := s.telegram c
    let k := connOf s.set c.conn
    (s.each s.computing fun s l => s.spendToken (tokenOf l)).sendBoth (if kUdp k then some k.ipdst else none) t.gvt

/-- The output form of a split lane's cycle in its mode: computed, held or de-energised (04 R129, 05 R176). -/
def State.splitForm (s : State) (ops : List OpCmd) (dt : Nat) : State :=
  match s.cyc.mode with
  | .run =>
    let s := s.runCycle ops dt
    (s.keepImage s.cyc.form).sendNonVital.endReleased
  | .hold =>
    let s := (s.refuseOps ops).holdForm
    if s.cyc.holdover then s else s.sendNonVital
  | .stop => (s.refuseOps ops).putForm (s.formWith 0 [])

/-- The start of a split lane's cycle: its snapshots, and the commands of this start. -/
def State.splitStart (s : State) (env : StartEnv) : List OpCmd × State :=
  let s := s.updCyc (CycleSt.begin (s.time.ot * 1000 + env.us) s.time.ot true)
  let x := s.beforeSnapshot.latchAll.freezeAll.takeOps
  (x.1, x.2.readCommons.snapConns)

/-- A cycle of core 0 in split mode: no exchange, no vote, no drive. Its Trellis serves it alone. -/
def State.splitRun (s : State) (env : StartEnv) : State :=
  let dt := s.elapsedMs
  let x := s.splitStart env
  let s := ((x.2.splitForm x.1 dt).updCyc fun c => { c with phase := .idle, ended := true }).flushCompl.finishApply
  s.latchSummary.latchStatus

/-- A lane's own cycle on its own timebase. A lane whose core 0 has stopped runs core 1 alone. (log 104, DESIGN CHOICE) -/
def State.splitCycle (s : State) (l : Lane) (env : StartEnv) : State :=
  let s := if (s.splitOf l).cyc.mode == .run then s.fbStores env [l] else s
  if (s.lane l).stopped.fst then
    { s with splits := s.splits.set l (some { s.splitOf l with data := s.runCores l (s.splitOf l).data }) }
  else ((s.enterSplit l).splitRun env).leaveSplit s l

/-- Has the lane's timebase counted one Tc since the last cycle start, or since the due time of a slot skipped after
it? A later mark of the slot that has just started is no due mark. The first cycle of a boot, and the first start of
a phase restart, have no previous one. (log 36, DEDUCED) -/
def State.tcCounted (s : State) (lane : Lane) (env : StartEnv) : Bool :=
  let c := if s.pow.split then (s.splitOf lane).cyc else s.cyc
  !c.started || s.pair.restartDue || s.set.tc * 10000 * (1 + c.skipped) ≤ env.ticks.get lane

/-- A lane's timebase has counted one Tc: it posts its due mark. A lane whose ring has stopped posts none (01 R27). -/
def execDueMark (lane : Lane) (env : StartEnv) (s : State) : Res :=
  .next (
    if !s.pow.on || !s.cycling || !s.tcCounted lane env then s
    else if s.pow.split then
      if (s.lane lane).st == .split && (s.lane lane).ring && (s.lane lane).supply then s.splitCycle lane env else s
    else if (s.isActive lane || (s.lane lane).st == .resync) && (s.lane lane).ring then
      -- a mark of a lane in RESYNC does not count
      let s := s.updLane lane fun x => { x with due := true }
      if (s.actives.filter fun l => (s.lane l).due).length < 2 then s else s.dueTime env
    else s)

end Sys2Proof.Machine
end

