-- ==== Sys2Proof/Machine/Vote.lean ====
section
/-! DEFINITION. The exchange, the vote, drive and emission of an executed cycle (04 R119 to R123, 05 R150 to R160,
08 R237, R242), and its done marks. -/

namespace Sys2Proof.Machine

/-! ### Items and votes (05 R151, R155, R156) -/

/-- A payload with the bytes that fill it to a multiple of 8: zeros, or what the form carries there. -/
def paddedPayload (c : FormConn) : Bytes :=
  let n := (8 - c.payload.length % 8) % 8
  c.payload ++ padTo n c.pad

/-- The bytes of an item (R151): 0 header 0x001 to 0x017, 1 DIGEST, 2 DRIVE with 0x028 to 0x03F, 2 + c the directory entry
and padded payload of connection c; 0x43C to 0x43F belong to item 257. -/
def itemOf (f : VoteForm) (i : Nat) : Bytes :=
  match i with
  | 0 => le 1 f.mode ++ le 1 f.bank ++ le 1 f.flags ++ le 2 f.nconn ++ le 2 f.resvHead ++ le 8 f.cyc ++ le 8 f.img
  | 1 => le 8 f.digest
  | 2 => le 6 f.drive.toNat ++ le 2 f.driveHigh ++ le 24 f.resv
  | i =>
    let entry := match f.conns.find? fun c => c.conn + 2 == i with
      | some c => le 2 c.payload.length ++ le 2 c.dirHigh ++ paddedPayload c
      | none => zeros 4
    if i == 257 then entry ++ le 4 f.resvDir else entry

/-- The form as sent (R150): VFLANE, then the items in the layout of *Vote form*. -/
def formBytes (l : Lane) (f : VoteForm) : Bytes :=
  le 1 l.num ++ itemOf f 0 ++ itemOf f 1 ++ itemOf f 2 ++
  ((List.range 255).flatMap fun c => (itemOf f (c + 3)).take 4) ++ le 4 f.resvDir ++
  ((List.range 255).flatMap fun c => match f.conns.find? fun x => x.conn == c + 1 with
    | some x => paddedPayload x
    | none => [])

/-- The items that forms can differ in. -/
def itemsOf (fs : List (Lane × VoteForm)) : List Nat :=
  [0, 1, 2, 257] ++ ((fs.flatMap fun x => x.2.conns.map fun c => c.conn + 2).eraseDups.filter (· != 257))

/-- The result of one item: the lane in the minority, if one is; `error` for safe state. -/
def voteItem (n : Nat) (fs : List (Lane × VoteForm)) (i : Nat) : Except Unit (Option Lane) :=
  match fs with
  | [x, y, z] =>
    let (p, q, r) := (itemOf x.2 i, itemOf y.2 i, itemOf z.2 i)
    if p == q && q == r then .ok none
    else if p == q then .ok (some z.1)
    else if q == r then .ok (some x.1)
    else if p == r then .ok (some y.1)
    else .error ()
  | [x, y] => if itemOf x.2 i == itemOf y.2 i then .ok none else .error ()
  | _ => if n == 0 then .ok none else .error ()

/-- A form that a lane sent, as the hub stamps it: stamp, form, trailer, whether its DIGEST differs through TBLCHK, and the
lanes that it did not reach whole. -/
structure Arrived where
  stamp   : Nat
  form    : VoteForm
  trailer : Trailer
  tables  : Bool
  lost    : List Lane
  deriving DecidableEq, Repr

/-- What a lane's form is to the hub, given what the lane's own correct computation forms, and whether its tables are not
the image's. -/
def formOf (own : VoteForm) (tr : Trailer) (off : Bool) : FormIn → Option Arrived
  | .missing => none
  | .own t lost => some ⟨t, own, tr, off, lost⟩
  | .sent t f x tables lost => some ⟨t, f, x, tables, lost⟩

/-- The exchange trailer of a correctly computing lane (R153). -/
def State.trailerOf (s : State) (l : Lane) : Trailer :=
  { ticks := (s.lane l).ticks
    comp := (s.lane l).comp
    view := ⟨s.lanes.a.st.code, s.lanes.b.st.code, s.lanes.c.st.code⟩
    digparts := (List.range 8).map (digPart s.image s.app s.cyc.corerec) }

/-- The form of a lane whose progress ring runs; a lane that has stalled sends none (01 R27, R28). -/
def State.formFrom (s : State) (forms : Trio FormIn) (l : Lane) : Option Arrived :=
  if (s.lane l).ring then formOf (s.ownForm l) (s.trailerOf l) (s.tablesOff l) (forms.get l) else none

/-- The forms of the ACTIVE lanes that lane l votes over: its own and those that reached it whole (R154, R155). -/
def State.viewOf (s : State) (forms : Trio FormIn) (l : Lane) : List (Lane × VoteForm) :=
  s.actives.filterMap fun m => match s.formFrom forms m with
    | some x => if m != l && x.lost.contains l then none else some (m, x.form)
    | none => none

/-- The items in which a form differs from another. -/
def itemsDiffer (a b : VoteForm) : List Nat := (itemsOf [(.a, a), (.b, b)]).filter fun i => itemOf a i != itemOf b i

/-- The outcome of a whole cycle's vote: lanes in the minority, and the form voted; none for safe state. -/
def voteAll (act : List Lane) (fs : List (Lane × VoteForm)) : Option (List Lane × VoteForm) :=
  let res := (itemsOf fs).map (voteItem act.length fs)
  if res.any fun r => match r with | .error _ => true | .ok _ => false then none
  else
    let minor := (res.filterMap fun r => match r with | .ok x => x | .error _ => none).eraseDups
    let out := (minor ++ act.filter fun l => !(fs.any fun x => x.1 == l)).eraseDups
    match out, fs.find? fun x => !out.contains x.1 with
    | [], some x => some ([], x.2)
    | [l], some x => some ([l], x.2)
    | _, _ => none

/-- Does the vote of lane m name lane l as minority or missing? -/
def names (votes : List (Lane × Option (List Lane × VoteForm))) (m l : Lane) : Bool :=
  votes.any fun v => v.1 == m && v.2.any fun r => r.1.contains l

/-- The reports of the lanes at MF (R158): a lane is recorded WITHDRAWN on its own report, or on the reports of both other
ACTIVE lanes; named by one other alone, it stays. Safe state where any lane's vote leads to it, where no lane votes, or
where two lanes would go (R155, R156). -/
def voteHub (act : List Lane) (view : Lane → List (Lane × VoteForm)) : Option (List Lane × VoteForm) :=
  let votes := (act.filter fun l => (view l).any (·.1 == l)).map fun l => (l, voteAll act (view l))
  if votes.any (·.2.isNone) then none
  else
    let out := act.filter fun l => names votes l l || (act.filter (· != l)).all fun m => names votes m l
    match out, votes.find? fun v => !out.contains v.1 with
    | [], some v => v.2.map fun r => ([], r.2)
    | [l], some v => v.2.map fun r => ([l], r.2)
    | _, _ => none

/-! ### Records of the cycle (14 R394) -/

/-- A record of the list: kind, source, body. -/
structure ListRec where
  kind   : Nat
  source : Nat
  body   : Bytes
  deriving DecidableEq, Repr

/-- Records of one element's state: point movement, signal aspect, section. -/
def bodyRecs (old new : Elem) : List ListRec :=
  match old.body, new.body with
  | .point a, .point b =>
    if a.poscmd != b.poscmd || a.posdet != b.posdet || a.movest != b.movest then
      [⟨0x03, new.num, le 2 new.num ++ le 1 b.poscmd ++ le 1 b.posdet ++ le 1 b.movest ++ zeros 1 ++ le 4 b.moveelap⟩]
    else []
  | .signal a, .signal b =>
    if a.aspreq != b.aspreq || a.aspshown != b.aspshown || a.indreq != b.indreq then
      [⟨0x04, new.num, le 2 new.num ++ le 1 b.aspreq ++ le 1 b.aspshown ++ le 1 b.indreq ++ zeros 1 ++ le 2 new.fltcode⟩]
    else []
  | .tcsec a, .tcsec b =>
    if a.occ != b.occ then [⟨0x05, new.num, le 2 new.num ++ le 1 a.occ ++ le 1 b.occ ++ zeros 4⟩] else []
  | .acsec a, .acsec b =>
    if a.occ != b.occ || a.rststate != b.rststate then
      [⟨0x05, new.num, le 2 new.num ++ le 1 a.occ ++ le 1 b.occ ++ le 1 b.rststate ++ zeros 3⟩]
    else []
  | _, _ => []

/-- Records of one element, its input change last. -/
def elemRecs (old new : Elem) : List ListRec :=
  bodyRecs old new ++
  if old.curin != new.curin then
    [⟨0x08, new.num, le 2 new.num ++ le 2 old.curin.toNat ++ le 2 new.curin.toNat ++ le 2 new.fltcode⟩]
  else []

def routeRec (r : Nat) (old new : RouteCell) : List ListRec :=
  if old.rstate != new.rstate then
    [⟨0x02, r, le 2 r ++ le 1 old.rstate ++ le 1 new.rstate ++ le 1 new.lastfail ++ le 1 new.origin ++ zeros 2 ++
      le 4 new.reqseq ++ le 4 new.cmdseq⟩]
  else []

def connRec (epoch : Nat) (old new : RecvRec) : List ListRec :=
  if old.cstate != new.cstate then
    [⟨0x07, 3 * 65536 + new.conn, stateBody 3 new.conn old.cstate new.cstate epoch⟩]
  else []

/-- The cycle's record list: ascending element, route, connection, from the difference of declared data. -/
def cycleList (epoch : Nat) (a b : AppSt) : List ListRec :=
  (b.elems.flatMap fun e => (a.elems.find? (·.num == e.num)).elim [] (elemRecs · e)) ++
  ((a.cells.zip b.cells).zipIdx.flatMap fun x => routeRec x.2 x.1.1 x.1.2) ++
  b.recvs.flatMap fun r => (a.recvs.find? (·.conn == r.conn)).elim [] (connRec epoch · r)

/-- Records in one lane list per executed cycle (14 R399). -/
def listCap : Nat := 256

/-- Records beyond a lane list: counted in DROPLANE, and by priority for the drop record of the second (14 R402, R406).
(log 130, DESIGN CHOICE) -/
def RecSt.dropLane (xs : List ListRec) (r : RecSt) : RecSt :=
  let (a, e, t, rt) := r.drops
  let n := (xs.filter fun x => kindPrio x.kind 0 == 0).length
  { r with droplane := satAdd 32 r.droplane xs.length, drops := (a, e + (xs.length - n), t + n, rt) }

/-- RC takes the list of the cycle: consecutive SEQ values, the OTS of the start event. -/
def State.recordList (s : State) (flags : Nat) : State :=
  let recs := cycleList s.pair.epoch s.trl.prev s.app
  let (base, s) := s.takeSeqs (recs.take listCap).length
  let s := s.each (recs.take listCap).zipIdx fun s x =>
    s.recordAt x.1.kind x.1.source (base + 1 + x.2) (s.cyc.ots / 1000) flags 0 x.1.body
  let s := s.updRecs (RecSt.dropLane (recs.drop listCap))
  { s with trl := { s.trl with prev := s.app } }

/-- The records of a cycle that ends in SAFE, with SAFECYC set. -/
def State.recordSafe (s : State) : State := if s.computes && !s.cyc.graftslot then s.recordList 0x10 else s

/-! ### Done marks and computation times (04 R120, R123) -/

/-- A lane's computation time of the cycle. -/
def LaneSt.setComp (t : Nat) (x : LaneSt) : LaneSt :=
  { x with comp := t, maxcomp := max x.maxcomp t, warnmax := max x.warnmax t }

/-- A budget warning, at most one per lane in 1,000 executed cycles; its record carries the largest value since the lane's
previous one. -/
def State.budget (s : State) (l : Lane) (t : Nat) : State :=
  let s := s.updLane l (LaneSt.setComp t)
  if s.set.tc * 800 < t && (s.lane l).warnwait == 0 then
    let largest := (s.lane l).warnmax
    let s := s.updLane l fun x => { x with warnwait := 1000, warnmax := 0 }
    (s.updCyc fun c => { c with warncnt := satInc 32 c.warncnt }).collectNamed (fLane l 0x01) [largest]
  else s

/-- Done marks of the ACTIVE lanes that post them. (log 106, DEDUCED) -/
def State.postDone (s : State) (comp : Trio Nat) (done : Trio Bool) : State :=
  s.each s.actives fun s l =>
    if done.get l && !(s.lane l).done && (s.lane l).ring then (s.updLane l fun x => { x with done := true }).budget l (comp.get l) else s

/-- Lanes counted in three cycles within 100 for failed safety-code checks (08 R237). -/
def State.scLanes (s : State) : List Lane :=
  s.actives.filter fun l => 3 ≤ ((s.lane l).scfails.filter fun c => s.cyc.cyccnt - c < 100).length

def State.safetyLimit (s : State) : State :=
  match s.scLanes with
  | [] => s
  | [l] =>
    if s.nActive == 3 then
      let s := s.updLane l fun x => { x with scfails := [] }
      (s.collectFull ⟨1, 3, 0x16, 0, openNum 16⟩ 3 none (some l) none).2
    else s.stopModule (fXh 0x02)
  | _ => s.stopModule (fXh 0x02)

def execSafetyCodeFailLimit (s : State) : Res := .next (if s.cycling then s.safetyLimit else s)

/-- Once two ACTIVE lanes have posted their done marks: completions, the apply's end, the pair's report and the mirror set
(04 R121). (log 106, DEDUCED) -/
def State.cycleEnd (s : State) : State :=
  if !s.cyc.ended && 2 ≤ (s.actives.filter fun l => (s.lane l).done).length then
    (s.updCyc fun c => { c with ended := true }).flushCompl.finishApply.pairDone
  else s

/-- Every telegram of the cycle is released: done marks, and the end of the cycle. -/
def State.cycleDone (s : State) (comp : Trio Nat) (done : Trio Bool) : State :=
  let s := (s.updCyc fun c => { c with phase := .idle }).safetyLimit
  if !s.cycling then s else (s.postDone comp done).cycleEnd

/-! ### Drive and emit (04 R120, 05 R157, 08 R242) -/

/-- The voted drive of the mode and module state. -/
def State.votedDrive (s : State) (f : VoteForm) : CellMask :=
  if s.pow.mod == .service && (s.cyc.mode == .run || (s.cyc.mode == .hold && !s.cyc.holdover)) then f.drive else 0

/-- The telegrams of the cycle, in ascending connection number. -/
def State.telegrams (s : State) (f : VoteForm) : List OutTg :=
  let emits := s.pow.mod == .service && s.sendsVital && !s.cyc.graftslot &&
    (s.cyc.mode == .run || (s.cyc.mode == .hold && !s.cyc.holdover))
  if emits then (connsOf 1 s.set).filterMap fun n => (f.conns.find? (·.conn == n)).map s.telegram else []

/-- The lane in RESYNC compares its shadow form with the voted result (05 R166, R168). -/
def State.shadow (s : State) (forms : Trio FormIn) (f : VoteForm) : State :=
  match s.resyncLane with
  | none => s
  | some l =>
    let n := (s.lane l).rsync
    if n < 2 then s
    else match s.formFrom forms l with
      | some x =>
        if (itemsDiffer x.form f).isEmpty then s.updLane l fun x => { x with rsync := n + 1 } else s.failResync l none
      | none => s.failResync l none

/-- The partitions whose DIGPART differs from the one of the voted state (R160). -/
def State.partsDiffer (s : State) (x : Arrived) : List Nat :=
  (List.range 8).filter fun k => x.trailer.digparts.getD k 0 != digPart s.image s.app s.cyc.corerec k

/-- The lane in the minority or missing is withdrawn, class F3; its record names the items that differed and, of a DIGEST,
the partitions, numbered from 1,000 (05 R156, R160). A DIGEST that differs through TBLCHK alone names the route array and
reloads the tables (03 R112). (log 108, DESIGN CHOICE) -/
def State.minority (s : State) (forms : Trio FormIn) (f : VoteForm) (l : Lane) : State :=
  match s.formFrom forms l with
  | none => s.collect (fLaneBlk l 0x05 0x01)
  | some x =>
    let diff := itemsDiffer x.form f
    let parts := if diff.contains 1 then s.partsDiffer x else []
    let s := s.updLane l fun y => { y with lastdiff := (diff, parts) }
    if diff.isEmpty then s.collect (fLaneBlk l 0x05 0x01)
    else if diff == [1] && x.tables then
      let r := s.collectFull ⟨1, l.num, 0x03, 0, openNum 7⟩ 3 none none none
      (r.2.noteFault r.1 (diff ++ parts.map (· + 1000))).updLane l fun y => { y with reload := true }
    else s.collectNamed (fLaneBlk l 0x05 0x02) (diff ++ parts.map (· + 1000))

/-- The drive step and what follows a vote that holds. (log 103, DEDUCED) -/
def State.afterVote (s : State) (f : VoteForm) (issued : Trio (List LaneTransfer)) : State :=
  let s := s.updCyc fun c => { c with
    voted := some f
    lastdigest := if s.pow.mod == .service then some f.digest else c.lastdigest
    synccnt := if s.pow.mod == .sync then c.synccnt + 1 else 0 }
  if s.cyc.graftslot then s
  else
    let s := ((s.keepImage f).driveStep (s.votedDrive f)).setLatches
    let s := if s.computes then s.recordList 0 else s
    let s := if s.cyc.mode == .run && s.computes then s.endReleased else s
    s.laneTransfers issued

/-- The hub stamps the forms of the ACTIVE lanes (04 R124) and keeps every trailer (R153). -/
def State.stampForms (s : State) (forms : Trio FormIn) : State :=
  let stamp (l : Lane) : Option Nat := if s.isActive l then (s.formFrom forms l).map (·.stamp) else none
  let tr (l : Lane) : Option Trailer := (s.formFrom forms l).map (·.trailer)
  s.updCyc fun c => { c with
    stamps := ⟨stamp .a, stamp .b, stamp .c⟩
    voters := s.actives
    trailers := ⟨tr .a, tr .b, tr .c⟩ }

/-- The exchange closes: the vote, then drive and emit. A late done mark of the cycle before posts alone. (log 106, DEDUCED) -/
def execExchangeClose (forms : Trio FormIn) (issued : Trio (List LaneTransfer)) (comp : Trio Nat)
    (done : Trio Bool) (s : State) : Res :=
  .next (
    if !s.pow.on || !s.cycling || s.pow.split then s
    else if s.cyc.phase == .idle then (s.postDone comp done).cycleEnd
    else if s.cyc.phase == .emit then s
    else
      let vote := voteHub s.actives (s.viewOf forms)
      let s := s.stampForms forms
      match vote with
      | none => s.recordSafe.stopModule (fXh 0x02)
      | some (out, f) =>
        let s := s.each out fun s l => s.minority forms f l
        if !s.cycling then s.recordSafe
        else
          let s := (s.shadow forms f).afterVote f issued
          let tgs := s.telegrams f
          let s := s.updCyc fun c => { c with tosend := tgs, phase := .emit }
          if tgs.isEmpty then s.cycleDone comp done else s)

/-- Who computes SC1, who SC2, who checks SC1 and who SC2 (05 R159): the third lane both, or of two each the other's. -/
structure ScRoles where
  sc1  : Lane
  sc2  : Lane
  chk1 : Lane
  chk2 : Lane
  deriving DecidableEq, Repr

def scRoles (act : List Lane) (cyc : Nat) : Option ScRoles :=
  match act with
  | [x, y, z] =>
    if cyc % 3 == 0 then some ⟨x, y, z, z⟩ else if cyc % 3 == 1 then some ⟨y, z, x, x⟩ else some ⟨z, x, y, y⟩
  | [x, y] => some ⟨x, y, y, x⟩
  | _ => none

/-- The roles of the cycle that was voted, chosen by its VFCYC. -/
def State.rolesNow (s : State) : Option ScRoles :=
  scRoles s.actives (s.cyc.voted.elim s.cyc.cyccnt (·.cyc))

/-- A lane named by a failed check, at most once per executed cycle. -/
def LaneSt.nameSc (cyc : Nat) (x : LaneSt) : LaneSt :=
  { x with scfails := if x.scfails.contains cyc then x.scfails else (x.scfails.filter fun c => cyc - c < 100) ++ [cyc] }

/-- A failed check: the telegram is withheld, its event names the checking and the computing lanes; with two lanes
ACTIVE the module stops. -/
def State.scFailed (s : State) (conn : Nat) (names : List Lane) : State :=
  let two := s.nActive == 2
  let s := (s.each names fun s l => s.updLane l (LaneSt.nameSc s.cyc.cyccnt)).collectNamed (fConn conn 0x10)
    (names.map (·.num))
  if two then s.stopModule (fXh 0x02) else s

/-- A telegram with its codes on both networks, unless the telegram engine is being reset or HOLDLIM has been
reached (04 R134). Each lane hands its share to the telegram engine over the token (01 R22). -/
def State.release (s : State) (k : ConnCfg) (g : Gvt) : State :=
  let s := s.each s.actives fun s l => s.spendToken (tokenOf l)
  if s.tgReset || (s.cyc.mode == .hold && s.cyc.holdover) then s else s.sendBoth (if kUdp k then some k.ipdst else none) g

/-- The next telegram of the cycle: two lanes' codes, checked by the third. A code given in place of the correct
one is what its computing lane sent. -/
def execTelegramRelease (conn : Nat) (sc1 sc2 : Option Nat) (comp : Trio Nat) (done : Trio Bool) (s : State) : Res :=
  .next (
    match s.cyc.tosend with
    | [] => s
    | t :: rest =>
      if s.cyc.phase != .emit || t.conn != conn || !s.cycling then s
      else
        let k := connOf s.set conn
        let (x, y) := (s.sc1 k t.gvt, s.sc2 k t.gvt)
        let s := s.updCyc fun c => { c with tosend := rest }
        let s :=
          if t.gvt.typ == 3 then s.release k t.gvt
          else match s.rolesNow with
            | none => s
            | some r =>
              let bad1 := sc1.any (· != x)
              let bad2 := sc2.any (· != y)
              if bad1 || bad2 then
                s.scFailed conn ((if bad1 then [r.chk1, r.sc1] else []) ++ (if bad2 then [r.chk2, r.sc2] else [])).eraseDups
              else s.release k { t.gvt with sc1 := x, sc2 := y }
        if rest.isEmpty && s.cycling then s.cycleDone comp done else s)

end Sys2Proof.Machine
end

