-- ==== Sys2Proof/Machine/Lanes.lean ====
section
/-! DEFINITION. Events of the lanes (01 R14 to R33, 05 R141 to R174): core mismatches and the arbitration
self-test, restart checks, resynchronisation and rejoin, stalls, illegal codes, memory and supply faults,
timebase trimming, the commons token and the fabric. -/

namespace Sys2Proof.Machine

/-- An effect of a detector or collector that works while the commons are supplied. -/
def State.fed (s : State) (f : State → State) : State := if s.cmUp then f s else s

/-! ### Resynchronisation and rejoin (R166 to R169) -/

/-- The copy of cycle j, after both donors' done marks. It is accepted only where each half matches the other
donor's check value and the whole the voted DIGEST; else it has not ended (R167). -/
def execResyncCopy (lane : Lane) (r : CopyResult) (s : State) : Res :=
  .next (
    if (s.lane lane).st == .resync && (s.lane lane).rsync == 1 && s.cyc.phase == .idle && s.allDone &&
        r.half1 && r.half2 && r.whole then
      s.updLane lane fun x => { x with rsync := 2, abandons := 0 }
    else s)

/-- 1 s after an abandoned copy the lane tries again. -/
def execResyncRetry (lane : Lane) (s : State) : Res :=
  .next (
    if (s.lane lane).retryAt.any (· ≤ s.time.ot) then s.updLane lane fun x => { x with retryAt := none } else s)

/-- Both ACTIVE lanes agree to the rejoin of a lane whose two shadow forms matched. A slot that is skipped is no boundary:
the rejoin is made at the next executed start (04 R128), which makes it in any case. -/
def execRejoin (lane : Lane) (s : State) : Res :=
  .next (
    if (s.lane lane).st == .resync && (s.lane lane).rsync == 4 then s.updLane lane fun x => { x with rsync := 5 } else s)

/-! ### The core pair (R141 to R149) -/

/-- A core mismatch: block CP of the lane, class F3, its detector open. -/
def State.mismatch (s : State) (l : Lane) : State := s.collectOpen 1 l.num 0x01 0 6 3

/-- A token through a delay register of two stages. -/
def delayTok (t : Option CoreTok) (d : Duo (Option CoreTok)) : Duo (Option CoreTok) := ⟨t, d.fst⟩

/-- The tokens of one handshake of the core pair enter the delay registers: core 0's output token, and an input token that
core 1 receives two stages later (R141). -/
def LaneSt.shiftTokens (input core0 : Option CoreTok) (x : LaneSt) : LaneSt :=
  { x with outDelay := delayTok core0 x.outDelay, inDelay := delayTok input x.inDelay }

/-- Does the comparator find the delayed token of core 0 and the token of core 1 different, bit by bit? A token that the
other core does not send is a difference. -/
def tokensDiffer (delayed core1 : Option CoreTok) : Bool :=
  match delayed, core1 with
  | none, none => false
  | some x, some y => !(cmpSlices x y).isEmpty
  | _, _ => true

/-- One handshake of a lane's core pair: core 1's token is compared with the token that core 0 sent two before. At a mismatch the
token is discarded and the pair stops (R146). In split mode the comparators and delay registers are bypassed (R176). -/
def execComparatorMismatch (x : Handshake) (s : State) : Res :=
  .next (s.fed fun s =>
    if s.pow.split then s
    else if tokensDiffer (s.lane x.lane).outDelay.snd x.core1 then s.mismatch x.lane
    else s.updLane x.lane (LaneSt.shiftTokens x.input x.core0))

/-- Until restart: the lane stays WITHDRAWN until the next warm restart, cold restart or power cycle (R148). -/
def LaneSt.untilRestart (x : LaneSt) : LaneSt :=
  { x with arb := false, rcheck := false, hold := if x.latched then .latchedOut else .untilRestart }

/-- *Arbitration self-test outcomes* (R148). (log 68, DEDUCED) -/
def execArbitrationSelfTestDone (lane : Lane) (core0 core1 cmp : Bool) (s : State) : Res :=
  .next (
    if (s.lane lane).arb && (s.lane lane).st == .withdrawn then
      let s := s.updLane lane fun x => { x with
        faultcore := ⟨x.faultcore.fst || !core0, x.faultcore.snd || !core1⟩ }
      match core0, core1 with
      | true, true =>
        if (s.lane lane).latched then s.updLane lane fun x => { x with arb := false }
        else if cmp then s.updLane lane fun x => { x with arb := false, rcheck := true, hold := .checking }
        else s.updLane lane LaneSt.untilRestart
      | false, false => (s.updLane lane fun x => { x with arb := false }).latchOut lane
      | _, _ => s.updLane lane LaneSt.untilRestart
    else s)

/-- A lane that cannot complete the arbitration self-test within 45 ms is latched out (R149). -/
def execArbitrationSelfTestTimeout (lane : Lane) (s : State) : Res :=
  .next (if (s.lane lane).arb then s.latchOut lane else s)

/-- The lane has its Trellis tables again, in its own encoding, from the image in the nonvolatile store (03 R112). -/
def State.reloadTables (s : State) (l : Lane) : State :=
  s.updLane l fun x => { x with reload := false, tables := s.image.tables.get l }

/-- A lane's restart check passed: every block reset, hedged CV engines released (R163, R290). -/
def State.checkPassed (s : State) (l : Lane) : State :=
  let s := s.dropHedges fun h => h.kind == .cv && h.index / 8 == l.num
  s.updLane l fun x => { x with rcheck := false, reload := false, hold := .waiting, cvhedge := [] }

/-- The restart check ends (R163). An image bank that fails verification, and tables or banks that the withdrawal calls
for, are reloaded from the nonvolatile store first, and the check goes on. (log 69, DEDUCED) (log 108, DESIGN CHOICE). -/
def execRestartCheckDone (lane : Lane) (cmpOk bankOk : Bool) (s : State) : Res :=
  .next (
    let x := s.lane lane
    if x.st == .withdrawn && x.rcheck && !x.arb && !x.turn && !x.latched && x.supply then
      if !cmpOk then (s.updLane lane LaneSt.untilRestart).actLane lane
      else if !bankOk then s.updLane lane fun x => { x with reload := true }
      else if (s.lane lane).reload then s.reloadTables lane
      else s.checkPassed lane
    else s)

/-! ### Stalls, illegal codes, memory (R26 to R28, R142, R307) -/

/-- Is a cycle of the lane in its active phases: begun, and its done mark not posted (R27)? -/
def State.laneBusyCycle (s : State) (l : Lane) : Bool := s.cycling && s.cyc.started && !(s.lane l).done

/-- No completion in the lane for 1 ms during a cycle's active phases. -/
def execProgressTimeout (lane : Lane) (s : State) : Res :=
  .next (s.fed fun s => if s.laneBusyCycle lane then s.collect (fLaneBlk lane 0x08 0x01) else s)

/-- A block of the lane stalls: its ring stops and its elements open. With fewer than two lanes left that drive,
no path conducts. The withdrawal follows at the exchange or by the progress monitor. -/
def execLaneStall (lane : Lane) (s : State) : Res :=
  .next (s.fed fun s =>
    let s := s.updLane lane fun x => { x with ring := false, drive := 0 }
    if s.twoDrive then s else s.dropEffs (List.range Config.nCells))

/-- Is the block one of the region's (01 R16)? -/
def blockIn (region block : Nat) : Bool :=
  if region < 3 then 1 ≤ block && block ≤ 8
  else if region == 3 then 0x10 ≤ block && block ≤ 0x1E
  else region == 4 && 0x20 ≤ block && block ≤ 0x24

/-- An illegal dual-rail code in a block: detector 0xE0; in MF itself its self-check, class F5 (10 R288, R485). -/
def execIllegalDualRailCode (region block : Nat) (s : State) : Res :=
  .next (s.fed fun s =>
    if !blockIn region block then s
    else if block == 0x1D then s.collect (fMf 0x02)
    else s.collect ⟨1, region, block, 0, 0xE0⟩)

/-- An event of a block that belongs to one core of the lane. -/
def State.ofCore (s : State) (l : Lane) (core : Bool) (f : State → State) : State :=
  (f (s.updLane l fun x => { x with blame := some core })).updLane l fun x => { x with blame := none }

/-- A cache error (R142): corrected in the one core, class F1, else as a core mismatch. -/
def execCacheError (lane : Lane) (kind : CacheEvent) (s : State) : Res :=
  .next (s.fed fun s => s.ofCore lane kind.core fun s =>
    match kind.err with
    | .corrected => s.collectOpen 1 lane.num 0x01 0 20 1
    | .uncorrectable => s.mismatch lane
    | .parity => s.mismatch lane)

/-- The background scan of vital memory (10 R307): a corrected bit is class F1; an uncorrectable word withdraws
the lane. In split mode each half of the memory is one core's (R176). -/
def execMemoryScrubError (lane : Lane) (found : ScrubEvent) (s : State) : Res :=
  .next (s.fed fun s => s.ofCore lane found.upper fun s =>
    if found.corrected then s.collectOpen 1 lane.num 0x04 0 21 1 else s.collectOpen 1 lane.num 0x04 0 22 3)

/-! ### Supplies (01 R13 to R15) -/

/-- A lane without supply stalls; a withdrawn one waits for it, without a check running. In split mode both cores have stopped
(R14). (log 70, DESIGN CHOICE) -/
def LaneSt.unfed (x : LaneSt) : LaneSt :=
  let x := { x with
    supply := false, ring := false, drive := 0, passed := false
    stopped := if x.st == .split then .both true else x.stopped }
  if x.st == .withdrawn && (x.hold == .checking || x.hold == .waiting || x.hold == .none) then
    { x with hold := .none, rcheck := false, arb := false, retryAt := none }
  else x

def execLaneSupplyLoss (lane : Lane) (s : State) : Res :=
  .next (s.fed fun s =>
    if (s.lane lane).supply then (s.collect (fLane lane 0x08)).updLane lane LaneSt.unfed else s)

/-- The supply returns: the withdrawn lane runs its restart check (R162). -/
def execLaneSupplyReturn (lane : Lane) (s : State) : Res :=
  .next (s.fed fun s =>
    if (s.lane lane).supply then s
    else s.updLane lane fun x =>
      if x.st == .withdrawn && x.hold == .none && !x.latched && s.pow.mod != .boot then
        { x with supply := true, hold := .checking, rcheck := true }
      else { x with supply := true })

/-- The commons supply is lost: every lane sees the hub stall and stops its drive; class F4, its detector open. The rule
names no source; the model's is the hub, level 3, block XH. (log 6, DESIGN CHOICE) -/
def execCommonsSupplyLoss (s : State) : Res :=
  .next (s.fed fun s =>
    let s := s.collectOpen 3 3 0x1C 0 17 4
    { s with pow := { s.pow with commons := false } })

/-- The service supply is lost: the service region is out of service; the vital cycle continues. -/
def execServiceSupplyLoss (s : State) : Res :=
  .next (s.fed fun s =>
    if s.pow.service then
      let s := if s.pow.sv then s.serviceRestart false else s
      { s with pow := { s.pow with service := false } }
    else s)

/-- The service region is in service, its supply with it: held records drain (R15). A restart of the region alone
writes a boot record with cause 3 (17 R457). -/
def execServiceRegionReturn (s : State) : Res :=
  .next (s.fed fun s =>
    if s.pow.sv then s
    else
      let alone := !s.pow.svBoot
      let s := { s with pow := { s.pow with service := true, svBoot := false } }
      if alone then s.serviceUp.bootRecord 3 0 else s.serviceUp)

/-! ### Timebases (01 R30, R31) -/

/-- The trim that takes an offset away, within ±10 % in steps of 0.01 %. -/
def trimOf (old off : Int) : Int := max (-1000) (min 1000 (old - off))

/-- Does the lane find the TCXO more than 0.5 % from its ring, or stopped? (log 71, DEDUCED). -/
def tcxoOff : Option Int → Bool
  | none => true
  | some v => v < -50 || 50 < v

def LaneSt.trimBy (off : Option Int) (x : LaneSt) : LaneSt :=
  match off with
  | some v => { x with trim := trimOf x.trim v }
  | none => x

/-- Every 100 ms each lane compares its ring with the TCXO, in units of 0.01 %. The TCXO is lost while all three
find it off; until all three find it again, the trims are frozen. The rule names no source for each
lane's record; the model's is its timebase, level 1, block TB. (log 71, DEDUCED) (log 6, DESIGN CHOICE) -/
def execTimebaseTrim (offs : Trio (Option Int)) (s : State) : Res :=
  .next (s.fed fun s =>
    let off := Lane.all.filter fun l => tcxoOff (offs.get l)
    let trimAll (s : State) : State := s.each Lane.all fun s l => s.updLane l (LaneSt.trimBy (offs.get l))
    if off.length == 3 then
      if s.cyc.tcxolost then s
      else
        let s := s.each Lane.all fun s l => s.collectOpen 1 l.num 0x06 0 18 1
        s.updCyc fun c => { c with tcxolost := true }
    else if s.cyc.tcxolost then
      if off.isEmpty then trimAll (s.updCyc fun c => { c with tcxolost := false }) else s
    else trimAll s)

/-! ### The commons token: loss and overrun (01 R23) -/

/-- A holder keeps the token too long: the hub takes it back, discards the holder's unfinished transfer and raises an
event against the holder's region. The manual gives neither its detector nor its class. A command is whole when it ends,
so what the holder has not yet moved is no part of the state. (log 113, DESIGN CHOICE) -/
def execTokenOverrun (s : State) : Res :=
  .next (s.fed fun s => s.passToken.collectOpen 2 s.cyc.token.region 0 0 23 (Config.openClass 0 % 6))

/-- No region has held the token for 100 µs: it is regenerated at LA, class F1. The rule names no source; the model's is
the hub, level 3, block XH. (log 6, DESIGN CHOICE) -/
def execTokenRegenerate (s : State) : Res :=
  .next (s.fed fun s =>
    (s.updCyc fun c => { c with token := .la, tokencnt := 0 }).collectOpen 3 3 0x1C 0 19 1)

end Sys2Proof.Machine
end

