-- ==== Sys2Proof/Machine/Logs.lean ====
section
/-! DEFINITION. Events of the records and of time (14): checkpoints, ends of windows, drop records, failed log
segments, and the IEEE 1588 slave. -/

namespace Sys2Proof.Machine

def State.updTime (s : State) (f : TimeSt → TimeSt) : State := { s with time := f s.time }

/-! ### Operating time (R384) -/

/-- A ceiling into the next of the 256 checkpoint lines. -/
def TimeSt.checkpoint (v : Nat) (t : TimeSt) : TimeSt :=
  { t with ceilings := (t.ceilings.filter fun x => !(x.1 == t.line)) ++ [(t.line, v)], line := (t.line + 1) % 256 }

def execOtCheckpoint (s : State) : Res :=
  .next (s.fed fun s => s.updTime (TimeSt.checkpoint (s.time.ot + 2000)))

/-- OT into the shadow register of the keep-alive domain. -/
def execOtShadowWrite (s : State) : Res :=
  .next (s.fed fun s => s.updTime fun t => { t with shadow := t.ot })

/-! ### Ends of windows (R396, R401, R402) -/

def execArchiveWindowEnd (s : State) : Res :=
  .next s.archiveEnd

/-- A coalescing window of the recorder has run for 1,000 ms; that of the alarm of the same fault source with it. -/
def execCoalescingWindowEnd (kind source : Nat) (s : State) : Res :=
  .next (
    let s := match s.recs.coals.find? fun c => c.kind == kind && c.source == source with
      | some c => if c.first + 1000 ≤ s.time.ot then s.closeCoal c else s
      | none => s
    match s.mail.alarms.find? fun w => kind == 1 && fword w.fsid == source with
    | some w => if w.since + 1000 ≤ s.time.ot then s.closeAlarm w else s
    | none => s)

/-- The body of a drop record: window start, drops of alarms, events, trace, and by the rate limit. -/
def dropBody (start : Nat) (d : Nat × Nat × Nat × Nat) : Bytes :=
  le 8 start ++ le 4 d.1 ++ le 4 d.2.1 ++ le 4 d.2.2.1 ++ le 4 d.2.2.2

/-- At the end of a second in which anything was dropped, one drop record. -/
def execDropRecord (s : State) : Res :=
  .next (
    if s.recs.drops == (0, 0, 0, 0) || s.time.ot % 1000 != 0 then s
    else
      let (seq, s) := s.takeSeq
      let body := dropBody (s.time.ot - 1000) s.recs.drops
      let s := s.updRecs fun r => { r with drops := (0, 0, 0, 0) }
      s.toRc 2 (s.stamp seq s.time.ot 0x0B 0 body))

/-! ### Failed segments (R403 to R405) -/

/-- Segments of a log, records of one, the segments hedged, and the write position. -/
def logShape (r : RecSt) : Log → Nat × Nat × List Nat × Nat
  | .fault => (8, 1024, r.segF, r.posF)
  | .event => (16, 4096, r.segE, r.posE)
  | .archive => (256, 16384, r.segA, r.archpos)
  | .change => (32, 8192, r.segC, r.posC)

/-- The records that a ring keeps when its j-th segment of k records is taken out, and those it loses. The oldest
of n records in a ring of `cap` stands n places before the write position. (log 74, DEDUCED) -/
def cutSegment {α : Type} (cap pos k j : Nat) (xs : List α) : List α × List α :=
  let at' (i : Nat) : Nat := (pos + cap - xs.length + i) % cap
  let ys := xs.zip (List.range xs.length)
  ((ys.filter fun y => !(at' y.2 / k == j)).map (·.1), (ys.filter fun y => at' y.2 / k == j).map (·.1))

/-- The write position in the ring without its j-th segment. -/
def cutPos (cap pos k j : Nat) : Nat :=
  let p := if (j + 1) * k ≤ pos then pos - k else if j * k ≤ pos then j * k else pos
  if cap - k == 0 then 0 else p % (cap - k)

/-- A record lost with its segment counts as dropped, in the second's drop record too. -/
def RecSt.countLost (r : RecSt) (x : Rec) : RecSt := r.countDrop x.prio false

/-- The segment out of its ring; the records it held are lost and counted. (log 74, DEDUCED) -/
def RecSt.hedgeSeg (log : Log) (seg : Nat) (r : RecSt) : RecSt :=
  let (n, k, out, pos) := logShape r log
  let cap := ringCap n k out
  let j := ((List.range seg).filter fun i => !out.contains i).length
  let pos' := cutPos cap pos k j
  match log with
  | .fault =>
    let (keep, lost) := cutSegment cap pos k j r.faults
    lost.foldl (fun r _ => r.countDrop 2 false) { r with faults := keep, segF := r.segF ++ [seg], posF := pos' }
  | .event =>
    let (keep, lost) := cutSegment cap pos k j r.events
    lost.foldl RecSt.countLost { r with events := keep, segE := r.segE ++ [seg], posE := pos' }
  | .archive =>
    let (keep, lost) := cutSegment cap pos k j r.archive
    lost.foldl RecSt.countLost { r with archive := keep, segA := r.segA ++ [seg], archpos := pos' }
  | .change =>
    let (keep, lost) := cutSegment cap pos k j r.changes
    lost.foldl (fun r _ => r.countDrop 1 false) { r with changes := keep, segC := r.segC ++ [seg], posC := pos' }

def logCode : Log → Nat
  | .fault => 0
  | .event => 1
  | .archive => 2
  | .change => 3

/-- *Recording detectors*: the segment number stands in the cell field. -/
def segSource (log : Log) (seg : Nat) : Fsid :=
  match log with
  | .fault => ⟨1, 3, 0x1D, seg, 0x10⟩
  | .event => ⟨1, 4, 0x22, seg, 0x01⟩
  | .archive => ⟨1, 4, 0x23, seg, 0x02⟩
  | .change => ⟨1, 4, 0x23, seg, 0x03⟩

/-- A line of the last-resort area: 64 lines, the first failures kept. -/
def State.lastLine (s : State) (seq : Nat) (f : Fsid) (log seg : Nat) : State :=
  let x := s.stamp seq s.time.ot 0x0D 0
    (le 1 f.region ++ zeros 3 ++ le 4 (fword f) ++ le 1 log ++ le 1 seg ++ zeros 2)
  s.updRecs fun r => { r with lrarea := (r.lrarea ++ [x]).take 64 }

/-- An uncorrectable error or a failed write verification in a segment. -/
def execLogSegmentFailure (log : Log) (segment : Nat) (s : State) : Res :=
  .next (s.fed fun s =>
    let (n, k, out, _) := logShape s.recs log
    if n ≤ segment || out.contains segment then s
    else
      let f := segSource log segment
      let s := s.updRecs (RecSt.hedgeSeg log segment)
      let (seq, s) := s.collectFull f 1 none none none
      let s := (s.lastResort f.region f seq).lastLine seq f (logCode log) segment
      if ringCap n k (segment :: out) == 0 then s.collect ⟨1, 4, 0x22, 0, 0x04⟩ else s)

/-! ### Wall time (R387 to R389) -/

/-- Wall time set or stepped: one SEQ, a time-set record with the WT before the set, and change-log kind 0x10. -/
def State.setWt (s : State) (new source cred session ep cmd : Nat) : State :=
  let body := le 8 s.time.wt ++ le 8 new ++ le 1 source ++ zeros 3 ++ le 4 cred
  let (seq, s) := s.record 0x09 0 body
  let s := s.changeAt seq 0x10 cred session ep cmd body
  s.updTime fun t => { t with wt := new % 2 ^ 48, slew := 0 }

/-- Is the port on which a sync message comes open? A hedged network carries none. -/
def State.ptpOpen (s : State) : PtpPort → Bool
  | .svc => true
  | .a => s.netUp .a
  | .b => s.netUp .b

/-- The best master clock among SVC, A and B: the one chosen, a better one, or any once that one is silent for 10 s. -/
def TimeSt.takesMaster (m : PtpMaster) (t : TimeSt) : Bool :=
  match t.master with
  | some (i, r) => i == m.ident || m.rank < r || t.synced.all (· + 10000 ≤ t.ot)
  | none => true

/-- A sync message with the slave's offset in µs and its master: locked after 8 consecutive offsets within
±1 ms; an offset of 500 ms or more is removed by one step, a smaller one by slewing. (log 72, DEDUCED) -/
def execPtpSync (offsetUs : Int) (master : PtpMaster) (s : State) : Res :=
  .next (s.fed fun s =>
    if s.time.source != 1 || !s.ptpOpen master.port || !s.time.takesMaster master then s
    else
      let small := -1000 ≤ offsetUs && offsetUs ≤ 1000
      let s := s.updTime fun t =>
        let good := if small then min 8 (t.good + 1) else 0
        { t with
          good := good, lock := t.lock || good == 8, wtvalid := t.wtvalid || good == 8, synced := some t.ot
          master := some (master.ident, master.rank) }
      if offsetUs ≤ -500000 || 500000 ≤ offsetUs then s.setWt master.ms 1 0 0 0xFF 0
      else s.updTime fun t => { t with slew := -offsetUs })

/-- 10 s without a sync message: WT runs on with OT, and any master may be chosen. -/
def execPtpUnlock (s : State) : Res :=
  .next (
    if s.time.lock && s.time.synced.all (· + 10000 ≤ s.time.ot) then
      s.updTime fun t => { t with lock := false, good := 0, slew := 0, master := none }
    else s)

end Sys2Proof.Machine
end

