-- ==== Sys2Proof/Machine/Collector.lean ====
section
/-! DEFINITION. Events of the fault collectors (10): collection, escalation, grace timers, settle windows, MF's
self-check, the limits of two-out-of-two operation and of HOLD, and the ends of the 24 h windows. -/

namespace Sys2Proof.Machine

/-! ### Collection and counting (R285, R296) -/

/-- Does this source name a region and a block of the module? -/
def located (f : Fsid) : Bool := f.level ≤ 3 && f.region ≤ 4 && (f.block == 0 || blockIn f.region f.block)

/-- Does the manual number this detector, in this region? -/
def numbered (f : Fsid) : Bool :=
  (detRow? f).isSome && (if f.block == 0 then f.region < 3 else blockIn f.region f.block)

/-- The Nth event of a source within its window. (log 4, DESIGN CHOICE) -/
def execEscalation (fsid : Fsid) (s : State) : Res :=
  .next (s.fed fun s => if numbered fsid && s.reachesN fsid 1 then s.collect fsid else s)

/-- W has passed with no event from the source: its present class is BASE again. -/
def execEscalationWindowExpiry (fsid : Fsid) (s : State) : Res :=
  .next (
    let (_, _, _, w) := detSettings s fsid 1
    { s with flt := { s.flt with
        esc := s.flt.esc.filter fun e => !(e.fsid == fsid && e.last + w ≤ s.time.ot) } })

/-- The third withdrawal of a lane within 24 h of OT (05 R164). -/
def execLaneLatchOut (lane : Lane) (s : State) : Res :=
  .next (if 3 ≤ (s.wdsNow lane).length then s.latchOut lane else s)

def execWithdrawalWindowExpiry (lane : Lane) (s : State) : Res :=
  .next (s.updLane lane fun x => { x with wds := s.wdsNow lane })

/-- The third entry into SAFE within 24 h of OT (R304). -/
def execSafeCountLimit (s : State) : Res := .next (if s.pow.mod == .safe then s.safeLimit else s)

def execSafeCountWindowExpiry (s : State) : Res :=
  .next { s with flt := { s.flt with safes := s.safesNow } }

/-! ### Grace timers (R294, R295) -/

def GraceT.ack (l : Lane) (seq : Nat) (g : GraceT) : GraceT :=
  if g.seq == seq then { g with wait := g.wait.filter (· != l) } else g

/-- A lane's fault handler acknowledges an event; a timer that every lane has answered ends. -/
def execEventAck (lane : Lane) (seq : Nat) (s : State) : Res :=
  .next { s with flt := { s.flt with
      grace := (s.flt.grace.map (GraceT.ack lane seq)).filter fun g => !g.wait.isEmpty } }

/-- A lane that has not acknowledged is withdrawn, class F3, detector 0x20 of its FC. -/
def State.graceOut (s : State) (parent : Nat) (l : Lane) : State :=
  let f := fLaneBlk l 0x08 0x20
  let (seq, s) := s.recordEvent f 3 3 false false (some parent)
  (s.startGrace f seq 3 (some l)).withdraw l f seq .checking true

/-- A grace timer expires. With two lanes left each lane's event takes its class by counting; with fewer the module
goes to SAFE. -/
def execGraceExpiry (seq : Nat) (s : State) : Res :=
  .next (
    match s.flt.grace.find? fun g => g.seq == seq && g.due ≤ s.time.ot with
    | none => s
    | some g =>
      let s := { s with flt := { s.flt with grace := s.flt.grace.filter fun x => !(x.seq == seq) } }
      let late := g.wait.filter s.isActive
      if late.length + 2 ≤ s.nActive then
        s.each late fun s l => (s.collectFull (fLaneBlk l 0x08 0x20) 3 (some seq) none none).2
      else if late.isEmpty then s
      else ((s.each late (State.graceOut · seq)).collectFull (fMf 0x04) 4 (some seq) none none).2)

/-! ### Settle windows (R299, R300) -/

/-- The end of a settle window: a check that passes lifts the hedge at the next executed start, one that fails
raises detector 0xF0. -/
def execSettleWindowEnd (block : Nat) (pass : Bool) (s : State) : Res :=
  .next (
    match s.flt.shadows.find? fun x => x.block == block && x.due ≤ s.time.ot with
    | none => s
    | some x =>
      let s := { s with flt := { s.flt with shadows := s.flt.shadows.filter fun y => !(y.block == block) } }
      if pass then s.updHedges (fun h => h.ofReset [block]) fun h => { h with lifting := true }
      else (s.dropHedges fun h => h.ofReset [block]).notSettled block (some x.seq))

/-! ### MF's own checks (R288) -/

/-- Every 1 ms: do MF's three copies agree, is there an illegal code, which drive gates read conducting? -/
def execMfSelfCheck (agree illegal : Bool) (conducting : Trio Bool) (s : State) : Res :=
  .next (s.fed fun s =>
    let s := if !agree || illegal then s.collect (fMf 0x02) else s
    if Lane.all.any fun l => conducting.get l && !(s.lane l).gate then s.collect (fMf 0x03) else s)

/-! ### Limits (05 R171, 04 R134) -/

/-- DUOELAP reaches DUOLIM: SAFE, class F4, its detector open. -/
def execDuoLimit (s : State) : Res :=
  .next (
    if s.cycling && s.nActive == 2 && s.set.duolim != 0 && s.set.duolim * 3600000 ≤ s.cyc.duoelap then
      s.collectOpen 3 3 0x1D 0 24 4
    else s)

/-- HOLDLIM reached on a lane's timebase; at the second ACTIVE lane every switch element opens and the TG emits no
further telegram, and a member of a pair is SILENT (09 R262). The mode becomes STOP at the next executed start. -/
def execHoldLimit (lane : Lane) (s : State) : Res :=
  .next (
    if s.cycling && s.cyc.mode == .hold && s.isActive lane && s.cyc.holdstart + s.set.holdlim * 10 ≤ s.time.ot then
      let s := s.updLane lane fun x => { x with holdhit := true }
      if 2 ≤ (s.actives.filter fun l => (s.lane l).holdhit).length && !s.cyc.holdover then
        ((s.updCyc fun c => { c with holdover := true }).driveStep 0).fallSilent
      else s
    else s)

end Sys2Proof.Machine
end

