-- ==== Sys2Proof/Machine/Indicators.lean ====
section
/-! DEFINITION. The front indicators (18 R477). They are not vital, and nothing in the model reads them. -/

namespace Sys2Proof.Machine

inductive LampColour where
  | yellow | green | red
  deriving DecidableEq, Repr

/-- Steady, flashing at 1 Hz, or fast at 4 Hz. -/
inductive LampPattern where
  | steady | flashing | fast
  deriving DecidableEq, Repr

/-- What an indicator shows: off, or a colour and its pattern. -/
inductive Lamp where
  | off
  | lit (colour : LampColour) (pattern : LampPattern)
  deriving DecidableEq, Repr

/-- MF's test of the indicators, 200 ms from the power-up. -/
def State.lampTest (s : State) : Bool := s.pow.on && s.pow.lampOt.any fun t => t ≤ s.time.ot && s.time.ot < t + 200

/-- What an indicator shows outside the lamp test, under it, and unpowered. -/
def State.shows (s : State) (x : Lamp) : Lamp :=
  if !s.pow.on then .off else if s.lampTest then .lit .yellow .steady else x

def State.lampMod (s : State) : Lamp :=
  s.shows (match s.pow.mod with
    | .terminal => .lit .red .fast
    | .safe => .lit .red .steady
    | .service => .lit .green (if s.cyc.mode == .run then .steady else .flashing)
    | .boot | .sync | .rejoin => .lit .yellow (if s.id.lc.cycle then .steady else .flashing))

def State.lampLane (s : State) (l : Lane) : Lamp :=
  let x := s.lane l
  s.shows (
    if x.latched then .lit .red .steady
    else match x.st with
      | .active => .lit .green .steady
      | .split => .lit .green .flashing
      | .resync => .lit .yellow .steady
      | .withdrawn => .lit (if x.hold == .untilRestart || x.hold == .latchedOut then .red else .yellow) .steady)

def State.lampPair (s : State) : Lamp :=
  s.shows (match s.pair.st with
    | .unpaired => .off
    | .joining | .followOut => .lit .yellow .steady
    | .followIn => .lit .green .flashing
    | .lead => .lit .green .steady
    | .silent => .lit .red .steady)

def State.lampFault (s : State) : Lamp :=
  s.shows (
    if s.hiClass == 4 || s.hiClass == 5 then .lit .red .steady
    else if s.hiClass == 2 || s.hiClass == 3 then .lit .yellow .steady
    else .off)

/-- Both ports linked shows green although the network is hedged: the row listed later is shown. -/
def State.lampNet (s : State) (n : Net) : Lamp :=
  let link := (s.nets.at n).link
  s.shows (
    if link.fst && link.snd then .lit .green .steady
    else if link.fst || link.snd || !s.netUp n then .lit .yellow .steady
    else .off)

end Sys2Proof.Machine
end

