-- ==== Sys2Proof/Machine/Boot.lean ====
section
/-! DEFINITION. Power, boot, restarts, temperature and the reset button (17). -/

namespace Sys2Proof.Machine

def State.updPow (s : State) (f : PowerSt → PowerSt) : State := { s with pow := f s.pow }

/-! ### The address plug (R459) -/

/-- How many of the address lines in a range read 1. -/
def linesAt (a : BitVec 10) (ls : List Nat) : Nat := (ls.filter fun i => a.getLsbD i).length

/-- Both parity checks hold: odd numbers of lines at 1. -/
def plugOk (p : Plug) : Bool :=
  (linesAt p.adr [0, 1, 2, 3, 4] + b2n p.par0) % 2 == 1 && (linesAt p.adr [5, 6, 7, 8, 9] + b2n p.par1) % 2 == 1

/-! ### What a boot clears (R461, R462) -/

/-- A lane at the start of a boot; its withdrawals, latch and named cores are kept, except across a power cycle. -/
def LaneSt.boot (power : Bool) (x : LaneSt) : LaneSt :=
  let fresh := { LaneSt.init with supply := x.supply, kslot := x.kslot, tb := x.tb, trim := x.trim, hold := .checking }
  if power then fresh
  else
    { fresh with
      wds := x.wds, latched := x.latched, faultcore := x.faultcore, lastwd := x.lastwd, wdot := x.wdot, wdseq := x.wdseq
      cvhedge := x.cvhedge, hold := if x.latched then .latchedOut else .checking }

/-- A channel at a restart: the discrepancy latch is kept, and the 0 that a channel holds until its cell is released
(06 R190). (log 75, DEDUCED) -/
def ChSt.boot (x : ChSt) : ChSt := { ChSt.init with latch := x.latch, bothoff := x.bothoff, held := x.held, flags := x.flags }

/-- A cell at the start of a boot: its latches are kept, except across a power cycle. -/
def CellSt.boot (power : Bool) (x : CellSt) : CellSt :=
  if power then CellSt.init
  else { CellSt.init with
    ch := x.ch.map ChSt.boot, prot := x.prot, needTest := x.needTest, olast := x.olast, tfcnt := x.tfcnt }

def BankSt.boot (power : Bool) (x : BankSt) : BankSt :=
  if power then BankSt.init
  else { BankSt.init with prot := x.prot, needTest := x.needTest, fsvOut := x.fsvOut, fsvBack := x.fsvBack }

/-- Cycle state at a boot: what MF keeps across warm restarts, the bank, the token. (log 54, DESIGN CHOICE) -/
def CycleSt.boot (power : Bool) (c : CycleSt) : CycleSt :=
  { CycleSt.init with
    bank := c.bank, token := c.token, tcxolost := c.tcxolost && !power
    lastdigest := if power then none else c.lastdigest
    runot := c.runot
    lane := none
    corerec := if power then [] else c.corerec }

/-- Fault state at a boot: latched hedges, counts and SAFECNT are kept, except across a power cycle. (log 75, DEDUCED) -/
def FaultSt.boot (power : Bool) (f : FaultSt) : FaultSt :=
  if power then FaultSt.init
  else { f with
    hedges := f.hedges.filter fun h => h.latched || h.kind == .bank
    events := [], grace := [], shadows := [], resets := [], rels := [], safelatch := false, gatelatch := false }

def NetSt.boot (power : Bool) (n : NetSt) : NetSt :=
  if power then NetSt.init else { NetSt.init with link := n.link, ringctr := n.ringctr }

/-- Pair state at a boot: the stored epoch and what the links show. -/
def PairSt.boot (power : Bool) (p : PairSt) : PairSt :=
  { PairSt.init with
    stored := p.stored, epoch := p.stored, seenEpoch := p.seenEpoch
    report := { PairSt.init.report with epoch := p.stored }
    hbctr := if power then 0 else p.hbctr
    plup := if power then .both false else p.plup
    optic := p.optic }

def Tunnel.boot (power : Bool) (t : Tunnel) : Tunnel :=
  let t := { t with queue := [], heard := none, up := false, carried := none, played := none, taken := none, sentOt := 0 }
  if power then { t with seq := 0, nsent := 0, nrecv := 0, ndisc := 0 } else t

/-- The outstanding transfers of the span bridge end as at any reset of it: posted writes among them are logged and raise
detector 0x01 (13 R371, R375). -/
def State.endSpan (s : State) : State :=
  let posted := (s.bridge.out.filter (·.op == 3)).length
  s.resetSb.each (List.range posted) fun s _ => s.collect (fBlk 0x1A 0x01)

/-- log 76, DESIGN CHOICE. -/
def BridgeSt.boot (power : Bool) (b : BridgeSt) : BridgeSt :=
  if power then { BridgeSt.init with windows := b.windows.map fun w => { w with last := 0, count := 0 } }
  else { b with done := [], laneDone := [], kept := [], held := [], inslots := List.replicate 16 none }

/-- The recorder at a power-up (14 R395): archive, change log and what the store holds stay. -/
def RecSt.powerUp (r : RecSt) : RecSt :=
  { RecSt.init with
    seq := r.seqceil, seqceil := r.seqceil, archive := r.archive, changes := r.changes, archseq := r.archseq
    archpass := r.archpass, archpos := r.archpos, flushcnt := r.flushcnt, posC := r.posC, lrarea := r.lrarea }

/-! ### The archive at a cold restart and the power-fail flush (14 R395 to R397) -/

/-- Is a record not yet in the archive? -/
def RecSt.unarchived (r : RecSt) (seq : Nat) : Bool := !r.archive.any (·.seq == seq)

/-- At a cold restart the event recorder and the fault log are archived, then cleared: by RC, and where it does not work
when it takes up its work again. -/
def State.archiveCold (s : State) : State :=
  let n := s.recs.seq
  let s := (s.drain (s.recs.queue.length + s.recs.held.length)).archiveTrigger n
  if s.rcWorks then s.updRecs (RecSt.archiveClear n) else s.updRecs fun r => { r with coldDue := some n }

/-- The newest n of a list. -/
def newest {α : Type} (n : Nat) (xs : List α) : List α := xs.drop (xs.length - n)

/-- The power-fail flush: fault log records, the newest event records, then the OT ceiling. -/
def State.flush (s : State) : State :=
  let s := if s.rcWorks then
      s.updRecs fun r =>
        let fs := newest 8192 (r.faults.filter fun x => r.unarchived x.seq)
        let r := fs.foldl (fun r x => r.toArchive (faultRec x)) { r with archUntil := none }
        let es := newest 8192 (r.events.filter fun x => r.unarchived x.seq)
        let r := es.foldl RecSt.toArchive r
        { r with flushcnt := satInc 32 r.flushcnt }
    else s
  s.updTime (TimeSt.checkpoint (s.time.ot + 1))

/-! ### The boot sequence (R457) -/

/-- The image that the running application slot holds. (log 77, DEDUCED) -/
def State.loadImage (s : State) : State :=
  let x := s.slotOf 2 s.upd.appRun
  match (if x.valid then x.image else none) with
  | some img =>
    let s := { s with image := img }
    if s.stage.gen == 0 then { s with set := imageSettings img } else s
  | none => { s with image := Image.init }

/-- May this image boot in its life-cycle state (05 R175)? -/
def State.splitOk (s : State) : Bool :=
  !s.image.split || s.image.role == 5 || s.id.lc == .commissioning || s.id.lc == .bench

/-- The image and the settings in use from this boot on; an image that may not be taken up holds the module in BOOT. (log 78,
DEDUCED) Split mode follows the SPLIT flag (05 R175); the drive gates of a NON-VITAL image without it are latched open too,
its outputs being inhibited in hardware (00 R2). (log 118, DESIGN CHOICE) -/
def State.bootImage (s : State) : State :=
  let s := s.bootSettings.loadImage.storeTables
  let x := s.slotOf 2 s.upd.appRun
  let usable := x.valid && x.image.isSome
  let ok := usable && s.splitOk
  let s := s.updPow fun p => { p with holdImage := !ok, split := ok && s.image.split }
  let s := if s.image.role == 3 then { s with pair := { s.pair with plup := .both false } } else s
  let s := { s with
    flt := { s.flt with gatelatch := s.pow.split || s.image.role == 5 }
    cyc := { s.cyc with mode := s.firstMode }
    pair := { s.pair with
      st := if s.paired && !s.pow.split then .joining else .unpaired
      report := { s.pair.report with imgid := s.image.imgid, mode := s.firstMode.code } } }
  if usable && !s.splitOk then s.collectOpen 3 3 0x1D 0 25 1 else s

/-- The optics' identifiers read at a power-up (18 R473). -/
def State.readOptics (s : State) : State :=
  s.each [false, true] fun s link2 =>
    if s.pair.optic.sel link2 == some .other then s.collect ⟨1, 3, 0x19, 0, 0x10⟩ else s

/-- Step 1: the plug, the junctions, the button, the tamper latch. -/
def State.bootChecks (s : State) (env : BootEnv) (unfed : Bool) (downOt : Nat) : State :=
  let s := if plugOk env.plug then { s with id := { s.id with modaddr := env.plug.adr.toNat } } else s
  let s := s.updPow fun p => { p with holdPlug := !plugOk env.plug, holdTemp := !env.tempOk, btnStuck := env.pressed }
  let s := if plugOk env.plug then s else s.collect (fMf 0x34)
  let s := if env.tempOk then s else s.collect (fMf 0x36)
  let s := if env.pressed then s.collect (fMf 0x37) else s
  s.bootTamper env.loopOk unfed downOt

/-- Every block is reset: what is volatile goes back to its Reset value. -/
def State.resetBlocks (s : State) (power : Bool) : State :=
  { s with
    lanes := s.lanes.map (LaneSt.boot power)
    cyc := s.cyc.boot power
    cells := s.cells.map (CellSt.boot power)
    banks := s.banks.map (BankSt.boot power)
    frame := FrameSt.init
    nets := ⟨s.nets.fst.boot power, s.nets.snd.boot power⟩
    pair := s.pair.boot power
    splits := .all none
    flt := s.flt.boot power
    bridge := s.bridge.boot power
    tunnels := s.tunnels.map (Tunnel.boot power)
    ports := List.replicate 4 LegacyPort.init
    trl := { s.trl with ops := [], elemreqs := [], autoreqs := [], scratch := [] }
    stage := { s.stage with forceWait := [], apply := none, applying := none, checking := none }
    mail := if power then MailSt.init else { s.mail with compl := [], opened := [], steps := [], summary := [], elemStat := none, inStat := none, outStat := none, connStat := none } }

/-- A lane whose kernel turn a boot interrupts has loaded its kernel by the map; the check counts afresh. -/
def ActSt.boot (a : ActSt) : ActSt :=
  { a with doneLanes := a.doneLanes ++ a.turn.toList, turn := none, cycles := 0, age := 0 }

/-- SERVICE-MAINTENANCE is kept by a warm restart only; changes waiting for an executed start are discarded. -/
def Ident.boot (cause : Nat) (i : Ident) : Ident :=
  { i with
    lc := if cause != 1 && i.lc == .maintenance then .service else i.lc
    maintReq := none, lcReq := none }

/-- A boot begins with its cause: 0 power-up, 1 warm, 2 cold. `jump` is the OT jump in ms. A restart that changes the pair
state or the epoch raises the pair event (09 R268). (log 54, DESIGN CHOICE) (log 76, DESIGN CHOICE). -/
def State.bootBegin (s : State) (cause jump : Nat) (env : BootEnv) (unfed : Bool) (downOt : Nat) : State :=
  let power := cause == 0
  let was := s.pair
  let s := if power then s else s.endSpan
  let s := ((s.abandonTest 0x80B0 9).actService).serviceDown false
  let s := (s.resetBlocks power).emptyFrame
  let s := if power then { s with conns := s.conns.map fun c => connInit c.num false c.keyid } else s
  let s := if cause == 1 then s else { s with app := AppSt.init }
  let s := { s with id := s.id.boot cause, be := { s.be with test := none, osc := if power then none else s.be.osc } }
  let s := (s.updAct ActSt.boot).updPow fun p => { p with
    on := true, pfail := false, commons := true, cause := cause, holdDup := false, svBoot := true, plugSeen := false
    restart := none, btnBad := false, lost := if power then .both false else p.lost, hot := p.hot && !power }
  let s := (s.setMod .boot).bootChecks env unfed downOt
  let s := if power then s.readOptics else s
  let s := s.bootRecord cause jump
  let s := ((s.bootImage).resetConns).warmAll
  if power || (s.pair.st == was.st && s.pair.epoch == was.epoch) then s else s.pairNotice was.st

/-- OT resumes at the larger of the highest stored ceiling and the shadow + 1 (14 R384). -/
def State.resumedOt (s : State) : Nat := (s.time.ceilings.map (·.2)).foldl max (s.time.shadow + 1)

/-- The power-up's stamps: OT with its next ceiling, SEQ, PC + 1, and wall time, which an interrupted keep-alive supply makes invalid and
unknown. (log 20, DESIGN CHOICE) -/
def State.powerTimes (s : State) (kaFed : Bool) (offMs : Nat) : State :=
  let (lostWt, s) := s.freshNat 48
  let s := s.updTime fun t => { t with
    ot := s.resumedOt % 2 ^ 48
    pc := wrapInc 32 t.pc
    wt := if kaFed then (t.wt + offMs) % 2 ^ 48 else lostWt
    wtvalid := t.wtvalid && kaFed
    lock := false, good := 0, synced := none, slew := 0, master := none }
  let s := s.updTime (TimeSt.checkpoint (s.time.ot + 2000))
  s.updRecs RecSt.powerUp

/-- The commons supply enters its window after the module was unpowered. -/
def execPowerUp (env : BootEnv) (kaFed : Bool) (offMs : Nat) (s : State) : Res :=
  .next (
    if s.pow.on && s.pow.commons && !s.pow.pfail then s
    else
      let down := s.time.ot
      let s := s.powerTimes kaFed offMs
      let s := s.updPow fun p => { p with lampOt := some s.time.ot }
      s.bootBegin 0 (s.time.ot - down) env (!kaFed) down)

/-- The boot steps 1 to 6 are not over. -/
def State.booting (s : State) : Bool := s.pow.mod == .boot || s.pow.mod == .sync

/-- A restart accepted from a command, the button, a transition or a fallback begins. One that interrupts a boot is
warm only when both are (R466). -/
def execBootRestart (kind : RestartKind) (env : BootEnv) (s : State) : Res :=
  .next (
    if s.cmUp && !s.pow.pfail && s.pow.restart == some kind && s.pow.mod != .terminal then
      let cause := if kind == .cold || (s.booting && s.pow.cause != 1) then 2 else 1
      let s := if cause == 2 then s.archiveCold else s
      s.bootBegin cause 0 env false s.time.ot
    else s)

/-- The gates of the lanes that passed close, and SYNC begins; in split mode every lane runs by itself, its gate
latched open (R457 step 5, 05 R176, R177). -/
def LaneSt.join (split latch : Bool) (x : LaneSt) : LaneSt :=
  if x.passed && !x.latched && x.supply then
    { x with st := if split then .split else .active, hold := .none, gate := !latch && !split, ring := !split
             done := true, due := false }
  else x

/-- SYNC begins once two lanes have passed and nothing holds the module in BOOT (R456). (log 78, DEDUCED) -/
def State.trySync (s : State) : State :=
  let p := s.pow
  let n := (Lane.all.filter fun l => (s.lane l).passed && !(s.lane l).latched && (s.lane l).supply).length
  if p.mod == .boot && !(p.holdPlug || p.holdTemp || p.holdDup || p.holdImage) && s.id.lc.cycle && 2 ≤ n then
    let s := s.updLanes (LaneSt.join p.split s.flt.gatelatch)
    let s := s.updCyc fun c => { c with started := false, synccnt := 0 }
    if p.split then ((s.updCyc fun c => { c with mode := s.firstMode }).startApp).setMod .service
    else s.setMod .sync
  else s

/-- MF's count of a lane that did not pass its boot self-test (R457); the third in 24 h latches it out. -/
def State.bootFailed (s : State) (l : Lane) : State :=
  let s := s.updLane l fun x => { x with hold := .untilRestart, wds := s.wdsNow l ++ [s.time.ot] }
  let s := if 3 ≤ (s.lane l).wds.length then s.latchOut l else s
  let left := Lane.all.filter fun m => (s.lane m).passed || ((s.lane m).hold == .checking && (s.lane m).supply)
  if left.length < 2 && s.booting then s.stopModule (fMf 0x05) else s

/-- A lane completes its boot self-test; one that passes after SYNC has begun asks for RESYNC (05 R174). -/
def execLaneBootSelfTestDone (lane : Lane) (pass : Bool) (s : State) : Res :=
  .next (s.fed fun s =>
    let x := s.lane lane
    if x.hold != .checking || x.rcheck || x.arb || x.turn || x.passed || !x.supply || x.st != .withdrawn || s.stopped then s
    else if !pass then s.bootFailed lane
    else if s.pow.mod == .boot then (s.updLane lane fun x => { x with passed := true }).trySync
    else if s.pow.split then s.updLane lane fun x => ({ x with passed := true }).join true true
    else s.updLane lane fun x => { x with passed := true, hold := .waiting })

/-- The Max of step 4 passes without the lane's test. -/
def execBootSelfTestTimeout (lane : Lane) (s : State) : Res :=
  .next (s.fed fun s =>
    let x := s.lane lane
    let p := s.pow
    if x.hold == .checking && !x.rcheck && !x.arb && !x.turn && !x.passed && x.st == .withdrawn && s.id.lc.cycle &&
        !s.stopped && !(p.holdPlug || p.holdTemp || p.holdDup || p.holdImage) then s.bootFailed lane
    else s)

/-- SYNC has not passed within 1 s (R458). -/
def execSyncTimeout (s : State) : Res := .next (if s.pow.mod == .sync then s.stopModule (fMf 0x05) else s)

/-- A module held in BOOT for temperature goes on (R463). -/
def execBootTemperatureInRange (s : State) : Res :=
  .next (if s.pow.mod == .boot && s.pow.holdTemp then (s.updPow fun p => { p with holdTemp := false }).trySync else s)

/-! ### Power inputs (R453 to R455) -/

/-- The power-fail warning: the actions of R302, which raise and count nothing; then the flush. (log 79, DEDUCED) -/
def execPowerFailWarning (s : State) : Res :=
  .next (
    if s.cmUp && !s.pow.pfail then
      let s := s.updPow fun p => { p with pfail := true }
      let s := s.safeActions
      let s := if s.pow.mod == .terminal then s else s.setMod .safe
      s.flush
    else s)

/-- An input back for 100 ms before the hold-up ends: a warm restart; a TERMINAL module stays TERMINAL. -/
def execPowerReturn (s : State) : Res :=
  .next (
    if s.pow.on && s.pow.pfail then
      s.updPow fun p => { p with
        pfail := false
        restart := if p.mod == .terminal then p.restart else if p.restart == some .cold then some .cold else some .warm }
    else s)

def execInputLoss (second : Bool) (s : State) : Res :=
  .next (s.fed fun s =>
    if s.pow.lost.fst || s.pow.lost.snd then s
    else (s.updPow fun p => { p with lost := p.lost.upd second true }).collect (fMf (if second then 0x31 else 0x30)))

def execInputRestored (second : Bool) (s : State) : Res :=
  .next (s.updPow fun p => { p with lost := p.lost.upd second false })

/-- A change of the plug after step 1, reported once in a boot (R460). -/
def execAddressPlugPoll (plug : Plug) (s : State) : Res :=
  .next (s.fed fun s =>
    let changed := if plugOk plug then s.pow.holdPlug || plug.adr.toNat != s.id.modaddr else !s.pow.holdPlug
    if changed && !s.pow.plugSeen then (s.updPow fun p => { p with plugSeen := true }).collect (fMf 0x35) else s)

/-! ### Temperature (R463) -/

def execThermalWarning (s : State) : Res :=
  .next (s.fed fun s => if s.pow.hot then s else (s.updPow fun p => { p with hot := true }).collect (fMf 0x32))

def execThermalWarningCleared (s : State) : Res := .next (s.updPow fun p => { p with hot := false })

def execThermalTrip (s : State) : Res := .next (s.fed fun s => s.collect (fMf 0x33))

/-! ### The reset button (R464 to R466) -/

/-- A restart request discarded because one was taken before: recorded; the manual names no record kind. -/
def State.discardRestart (s : State) (kind : RestartKind) : State :=
  let (k, s) := s.freshNat 8
  (s.record k 0 (le 1 (if kind == .cold then 1 else 0))).2

/-- A restart asked for: the one that MF takes first is made. -/
def State.askRestart (s : State) (kind : RestartKind) : State :=
  if s.pow.restart.isSome then s.discardRestart kind else s.updPow fun p => { p with restart := some kind }

def execResetButtonRelease (ms : Nat) (s : State) : Res :=
  .next (s.fed fun s =>
    if s.pow.mod == .terminal || s.pow.btnStuck || s.pow.btnBad || ms < 50 || 10000 ≤ ms then s
    else s.askRestart (if ms < 3000 then .warm else .cold))

def execResetButtonStuck (s : State) : Res :=
  .next (s.fed fun s => if s.pow.btnStuck then s else (s.updPow fun p => { p with btnStuck := true }).collect (fMf 0x37))

def execButtonContactDisagree (s : State) : Res :=
  .next (s.fed fun s => if s.pow.btnBad then s else (s.updPow fun p => { p with btnBad := true }).collect (fMf 0x38))

def execButtonReenable (s : State) : Res :=
  .next (s.updPow fun p => { p with btnStuck := false, btnBad := false })

end Sys2Proof.Machine
end

