-- ==== Sys2Proof/Machine/Mailbox.lean ====
section
/-! DEFINITION. The register window as hosts write it, and the mailboxes (12 R337 to R352): NSP and CSPI access,
claims, doorbells, ages, and the check and answer of a posted request. -/

namespace Sys2Proof.Machine

def State.updMail (s : State) (f : MailSt → MailSt) : State := { s with mail := f s.mail }

/-- Does the mailbox block answer: the service region is in service and the block is not under reset (R337, 10 R300)? -/
def State.serving (s : State) : Bool := s.pow.on && s.pow.sv && !s.blockOut 0x21

/-! ### Addresses (R343) -/

/-- The address of MBCTL and of MBDB of a mailbox. -/
def ctlAddr (mb : Nat) : Nat := 0x2000 + mb * 0x40
def dbAddr (mb : Nat) : Nat := ctlAddr mb + 8

/-- The mailbox whose control block or buffer holds an address. -/
def mboxAt (addr : Nat) : Option Nat :=
  if 0x2000 ≤ addr && addr < 0x2400 then some ((addr - 0x2000) / 0x40)
  else if 0x10000 ≤ addr && addr < 0x30000 then some ((addr - 0x10000) / 0x2000)
  else none

/-- Is the address mapped? -/
def mapped (addr : Nat) : Bool := addr < 0x2400 || (0x10000 ≤ addr && addr < 0x30000) || (0x40000 ≤ addr && addr < 0x50000)

/-! ### Effects of a write (R346 to R348) -/

/-- A mailbox released; the read cursor closes when mailbox 15 changes owner (14 R398). -/
def State.freeBox (s : State) (mb : Nat) : State :=
  let s := s.updBox mb Mbox.release
  if mb == 15 then s.closeCursor else s

/-- log 82, DEDUCED. -/
def Sess.touch (ep : Nat) (x : Sess) : Sess := if x.ep == ep then { x with idle := 0 } else x

def Mbox.claim (ep key : Nat) (b : Mbox) : Mbox :=
  { b with st := .owned, ep := ep, ownkey := key, age := 0, openOk := false, orphan := false, writers := [] }

/-- CLAIM; none where it is refused. -/
def State.claim (s : State) (ep mb key : Nat) : Option State :=
  if mb == 14 || (s.box mb).st != .free || (mb != 0 && !s.mail.sessions.any (·.ep == ep)) then none
  else some (s.updBox mb (Mbox.claim ep key))

/-- May the endpoint write to this mailbox: its owner, while OWNED or DONE? -/
def State.ownWrite (s : State) (ep mb : Nat) : Bool :=
  let b := s.box mb
  b.ep == ep && (b.st == .owned || b.st == .done)

/-- Does an ACK or RING on mailbox 0 end its ownership: after the response to any command other than OPEN? -/
def endsBox (mb : Nat) (b : Mbox) : Bool := mb == 0 && b.st == .done && !b.openOk

def State.release0 (s : State) (ep mb : Nat) : Option State := if s.ownWrite ep mb then some (s.freeBox mb) else none

def Mbox.post (ot : Nat) (b : Mbox) : Mbox := { b with st := .posted, rung := ot, age := 0 }

/-- RING with a TAG. (log 82, DEDUCED) -/
def State.ring (s : State) (ep mb tag : Nat) : Option State :=
  let b := s.box mb
  if !s.ownWrite ep mb || rd b.req 2 2 != tag then none
  else if endsBox mb b then some (s.freeBox mb)
  else
    let s := s.updBox mb (Mbox.post s.time.ot)
    some (s.updMail fun m => { m with order := m.order ++ [mb], sessions := m.sessions.map (Sess.touch ep) })

/-- ACK. -/
def State.ack (s : State) (ep mb : Nat) : Option State :=
  let b := s.box mb
  if !(s.ownWrite ep mb && b.st == .done) then none
  else if endsBox mb b then some (s.freeBox mb)
  else some (s.updBox mb fun b => { b with st := .owned, age := 0 })

/-- A write of MBCTL or MBDB: one of its bits, reserved bits 0. -/
def State.ctlWrite (s : State) (ep mb off w : Nat) : Option State :=
  if off == 0 then
    if w % 65536 == 1 then s.claim ep mb (w / 65536)
    else if w % 65536 == 2 then s.release0 ep mb
    else none
  else if off == 8 then
    if w / 65536 == 0x8000 then s.ring ep mb (w % 65536)
    else if w / 65536 == 0x4000 then s.ack ep mb
    else none
  else none

/-- A write of a request buffer, under the tag of a session or none. -/
def Mbox.put (off : Nat) (data : Bytes) (who : Option Nat) (b : Mbox) : Mbox :=
  { b with
    req := patch b.req off data, age := 0, writers := if b.writers.contains who then b.writers else b.writers ++ [who] }

/-- What a write of data at an address does: NSTAT, and the state (R343, R344). -/
def State.winWrite (s : State) (ep addr : Nat) (data : Bytes) (who : Option Nat) : Nat × State :=
  if !mapped addr then (1, s)
  else match mboxAt addr with
    | none => (2, s)
    | some mb =>
      if addr < 0x2400 then
        if data.length != 4 then (2, s)
        else match s.ctlWrite ep mb (addr % 0x40) (ofLe data) with
          | some s' => (0, s')
          | none => (2, s)
      else
        let off := (addr - 0x10000) % 0x2000
        if off + data.length ≤ 0x1000 && s.ownWrite ep mb then
          (0, s.updBox mb (Mbox.put off data who))
        else (2, s)

/-- A refused write raises a posted-write error notification (R342, R347). -/
def State.refusedWrite (s : State) (st addr ep : Nat) : State :=
  if st == 1 || st == 2 then s.postErr 0 0 addr 0 ep else s

/-! ### NSP (R337 to R340) -/

/-- The 20 header bytes of an NSP datagram. -/
def nspBytes (h : NspHead) (addr : Nat) : Bytes :=
  le 2 h.magic ++ le 1 h.ver ++ le 1 h.op ++ le 4 h.xid ++ le 4 addr ++ le 2 h.dlen ++ le 1 h.nstat ++ [h.nflag] ++ le 4 h.nsess

/-- Is the header of a READ, which carries no data and no tag, or of a WRITE well formed? -/
def nspOk (h : NspHead) (addr : Nat) (data : Bytes) : Bool :=
  h.magic == 0x534E && h.ver == 1 && addr % 4 == 0 && h.dlen % 4 == 0 && 4 ≤ h.dlen && h.dlen ≤ 1408 &&
  (if h.op == 1 then data.isEmpty && !h.nflag.getLsbD 0 else h.op == 2 && h.dlen == data.length) &&
  h.nstat == 0 && h.nflag >>> 1 == 0 &&
  (if h.nflag.getLsbD 0 then h.tag.length == 16 else h.nsess == 0 && h.tag.isEmpty)

def tagOf (key : Bytes) (h : NspHead) (addr : Nat) (data : Bytes) : Bytes :=
  bigE 16 (Config.cmac key (nspBytes h addr ++ data)).toNat

/-- log 80, DESIGN CHOICE. -/
def epNew (n : Nat) (h : NspHead) : Endpoint := { num := n, path := h.path, ip := h.ip, port := h.port, idle := 0, kept := [] }

/-- The endpoint of a datagram, a new one where it is not served yet; none where every endpoint holds a session. (log 80, DESIGN CHOICE) -/
def State.endpoint (s : State) (h : NspHead) : Option (Endpoint × State) :=
  match s.mail.eps.find? fun e => e.path == h.path && e.ip == h.ip && e.port == h.port with
  | some e => some (e, s)
  | none =>
    let free := (List.range 16).filter fun i => !s.mail.eps.any (·.num == i + 1)
    match free with
    | i :: _ =>
      let e := epNew (i + 1) h
      some (e, s.updMail fun m => { m with eps := m.eps ++ [e] })
    | [] =>
      let cand := s.mail.eps.filter fun e => !s.mail.sessions.any (·.ep == e.num)
      match cand with
      | [] => none
      | c :: cs =>
        let old := cs.foldl (fun best e => if best.idle < e.idle then e else best) c
        let e := epNew old.num h
        let s := if s.mail.prov.any (·.ep == old.num) then s.dropProv else s
        let s := s.updMail fun m => { m with
          eps := (m.eps.filter fun x => !(x.num == old.num)) ++ [e]
          boxes := m.boxes.map fun b =>
            if b.ep == old.num && (b.st == .owned || b.st == .done) then b.release else b }
        some (e, s)

/-- Must a write at this address carry a tag, once a session of the endpoint has authenticated (R340)? (log 81, DEDUCED). -/
def State.needsTag (s : State) (ep addr : Nat) : Bool :=
  s.mail.sessions.any (·.ep == ep) && (mboxAt addr).any fun m => m ≤ 13 || 0x10000 ≤ addr

/-- The key of the provisional session that an AUTH request is tagged with. -/
def Prov.tagKey (p : Prov) : Bytes := (Config.sha384 (Config.ecdh p.secret p.hostkey ++ p.chal)).take 16

/-- Key and latest tagged XID of the session, open or provisional, that a datagram of an endpoint names. -/
def State.tagSess (s : State) (ep id : Nat) : Option (Bytes × Option Nat) :=
  match s.mail.sessions.find? fun x => x.id == id && x.ep == ep with
  | some x => some (x.key, x.xid)
  | none => (s.mail.prov.filter fun p => p.id == id && p.ep == ep).map fun p => (p.tagKey, p.xid)

/-- The verdict on a datagram's tag: NSTAT 0, 3 or 4, and the session of a valid tag. -/
def State.tagVerdict (s : State) (ep : Nat) (h : NspHead) (addr : Nat) (data : Bytes) : Nat × Option Nat :=
  if h.nflag.getLsbD 0 then
    match s.tagSess ep h.nsess with
    | some (key, last) =>
      if h.tag != tagOf key h addr data then (3, none)
      else if last.all fun old => serialAfter 32 h.xid old then (0, some h.nsess) else (4, none)
    | none => (3, none)
  else if s.needsTag ep addr then (3, none)
  else (0, none)

def Sess.useXid (id xid : Nat) (x : Sess) : Sess := if x.id == id then { x with xid := some xid } else x
def Prov.useXid (id xid : Nat) (p : Prov) : Prov := if p.id == id then { p with xid := some xid } else p

/-- The XID of a valid tag is the latest of its session. -/
def State.useXid (s : State) (id : Option Nat) (xid : Nat) : State :=
  match id with
  | none => s
  | some id => s.updMail fun m => { m with
      sessions := m.sessions.map (Sess.useXid id xid)
      prov := m.prov.map (Prov.useXid id xid) }

def Endpoint.keep (r : Reply) (e : Endpoint) : Endpoint :=
  { e with idle := 0, kept := (e.kept ++ [r]).drop ((e.kept.length + 1) - 16) }

/-- A reply sent, kept for its XID or sent again. -/
def State.reply (s : State) (r : Reply) (keep : Bool) : State :=
  s.updMail fun m => { m with
    replies := m.replies ++ [r]
    eps := m.eps.map fun e => if e.num == r.ep then (if keep then e.keep r else { e with idle := 0 }) else e }

/-- OP of the reply to a datagram. -/
def replyOp (h : NspHead) : Nat := if h.op == 1 then 0x81 else 0x82

/-- A READ: the bytes of the register window. -/
def State.nspRead (s : State) (ep : Nat) (h : NspHead) (addr : Nat) : State :=
  (s.reply ⟨ep, 0x81, h.xid, 0, s.windowRead addr h.dlen⟩ true).seeRing addr h.dlen

/-- A WRITE whose header is well formed and whose bytes lie in the span. -/
def State.nspWrite (s : State) (ep : Nat) (h : NspHead) (addr : Nat) (data : Bytes) : State :=
  let (st, who) := s.tagVerdict ep h addr data
  if st != 0 then s.reply ⟨ep, 0x82, h.xid, st, []⟩ true
  else
    let (st, s) := (s.useXid who h.xid).winWrite ep addr data who
    (s.reply ⟨ep, 0x82, h.xid, st, []⟩ true).refusedWrite st addr ep

/-- An NSP datagram that reads or writes the register window. (log 81, DEDUCED) -/
def State.nspFrame (s : State) (h : NspHead) (addr : Nat) (data : Bytes) : State :=
  match s.endpoint h with
  | none => s
  | some (e, s) =>
    match e.kept.find? (·.xid == h.xid) with
    | some k => s.reply k false
    | none =>
      if !nspOk h addr data then s.reply ⟨e.num, replyOp h, h.xid, 5, []⟩ true
      else if 0x50000 < addr + h.dlen then
        let s := s.reply ⟨e.num, replyOp h, h.xid, 1, []⟩ true
        if h.op == 1 then s else s.refusedWrite 1 addr e.num
      else if h.op == 1 then s.nspRead e.num h addr
      else s.nspWrite e.num h addr data

/-- The module's own IPv4 address on a path: 10.48.h.l on SVC, IPADDR on a network (R337). -/
def State.ownIp (s : State) : NspPath → Nat
  | .svc => 0x0A300000 + s.id.modaddr
  | .vido n => (s.set.nets.at n).ipaddr

/-- Does a datagram reach NSP: by SVC, or a network that carries frames, at the module's own address, on port 48811? -/
def State.pathOpen (s : State) (h : NspHead) : Bool :=
  h.dport == 48811 && h.dst == s.ownIp h.path &&
  (match h.path with
   | .svc => true
   | .vido n => s.netUp n)

/-! ### CSPI (R341, R342) -/

/-- The level of CSALRT: low, true, while a mailbox that CSPI owns is DONE (R342). -/
def State.csalrt (s : State) : Bool := s.mail.boxes.any fun b => b.st == .done && b.ep == 0

/-- ALERT of a status byte; whether a 10 µs pulse of this ms is still on is open. (log 139, DESIGN CHOICE) -/
def State.cspiAlert (s : State) : Bool × State :=
  if s.csalrt then (true, s)
  else if s.mail.alert == 0 then (false, s)
  else
    let (v, s) := s.freshNat 1
    (v == 1, s)

/-- The opcode byte of a frame is clocked in: the status byte is clocked out (R341). -/
def State.cspiBegin (s : State) : State :=
  let (a, s) := s.cspiAlert
  s.updMail fun m => { m with
    cspiStat := BitVec.ofNat 8 (b2n s.pow.sv + 2 * b2n a + 4 * b2n m.cspiBad), cspiOut := [], cspiBad := false }

/-- A CSPI write frame, endpoint 0, local and untagged. -/
def State.cspiWrite (s : State) (addr : Nat) (data : Bytes) : State :=
  if data.isEmpty || 4096 < data.length then s
  else
    let (st, s) := s.cspiBegin.winWrite 0 addr data none
    (s.updMail fun m => { m with cspiBad := st != 0 }).refusedWrite st addr 0

/-- A CSPI read frame; every byte reads 0xFF while the service region is out of service (01 R15). -/
def State.cspiRead (s : State) (addr n : Nat) : State :=
  if n == 0 || 4096 < n then s
  else (s.cspiBegin.updMail fun m => { m with cspiOut := s.windowRead addr n }).seeRing addr n

/-- An access to the register window by either transport. While the service region is out of service a CSPI frame has its status
byte, and a read its data, alone. (log 139, DESIGN CHOICE) -/
def State.access (s : State) (acc : Access) (addr : Nat) (data : Bytes) : State :=
  if !s.pow.on || s.blockOut 0x21 then s
  else match acc with
    | .cspi => if s.pow.sv then s.cspiWrite addr data else s.cspiBegin
    | .cspiRead n => s.cspiRead addr n
    | .nsp h => if s.pow.sv && s.pathOpen h then s.nspFrame h addr data else s

/-- MBAGE reaches 60 s while OWNED or DONE (R348). -/
def execMailboxAgeTimeout (mb : Nat) (s : State) : Res :=
  .next (
    let b := s.box mb
    if (b.st == .owned || b.st == .done) && 60000 ≤ b.age then s.freeBox mb else s)

/-- 600 s with no request from the session's endpoint (R355). -/
def execSessionIdleTimeout (session : Nat) (s : State) : Res :=
  .next (if s.mail.sessions.any (fun x => x.id == session && 600000 ≤ x.idle) then s.endSession session else s)

/-- AUTH not received within 10 s (R354). -/
def execAuthTimeout (s : State) : Res :=
  .next (if s.mail.prov.any (fun p => 10000 ≤ p.age) then s.dropProv else s)

/-! ### Requests and responses (R350) -/

/-- A request as its header fields and the LEN bytes of its body. -/
structure Req where
  cmd     : Nat
  tag     : Nat
  len     : Nat
  session : Nat
  flags   : Nat
  resv    : Nat
  body    : Bytes

def reqOf (b : Mbox) : Req :=
  let len := rd b.req 4 4
  { cmd := rd b.req 0 2, tag := rd b.req 2 2, len := len, session := rd b.req 8 4, flags := rd b.req 0x0C 2
    resv := rd b.req 0x0E 2, body := slice b.req 0x10 (min len 4080) }

/-- The bytes of a response. -/
def respBytes (q : Req) (status : Nat) (body : Bytes) : Bytes :=
  le 2 status ++ le 2 q.tag ++ le 4 body.length ++ le 4 q.session ++ le 2 q.flags ++ zeros 2 ++ body

/-- A mailbox with its response written: DONE; FREE where the owner's session, or the provisional session of a failed AUTH, has
ended since the doorbell (R348). -/
def Mbox.answered (q : Req) (status : Nat) (body : Bytes) (b : Mbox) : Mbox :=
  let c := { b with
    st := .done, status := status, tag := q.tag, resp := respBytes q status body, openOk := q.cmd == 0x0101, writers := [] }
  if b.orphan then c.release else c

/-- The first response of the request in a mailbox; it leaves the queue of posted requests. -/
def State.respond (s : State) (mb : Nat) (status : Nat) (body : Bytes) : State :=
  (s.updBox mb (Mbox.answered (reqOf (s.box mb)) status body)).updMail fun m => { m with order := m.order.filter (· != mb) }

/-! ### The checks of a request (R345, R351) -/

/-- The commands of the tables (R358): code, least role, and whether the command is two-step. -/
structure CmdRow where
  code : Nat
  role : Nat
  two  : Bool

def rows (two : Bool) (role : Nat) (codes : List Nat) : List CmdRow := codes.map fun c => ⟨c, role, two⟩

def cmdTable : List CmdRow :=
  rows false 0 [0x0101, 0x0102] ++ rows false 1 [0x0103] ++ rows false 4 [0x0104, 0x0105, 0x0106, 0x0107] ++
  rows false 1 [0x0201, 0x0202, 0x0203, 0x0204, 0x0205, 0x0206, 0x0207, 0x0208, 0x0209, 0x020A] ++
  rows false 2 [0x0301] ++ rows false 3 [0x0302] ++ rows false 2 [0x0303, 0x0304] ++
  rows false 3 [0x0401, 0x0402, 0x0403, 0x0404, 0x0405, 0x0406, 0x0407] ++ rows false 4 [0x0408] ++
  rows false 1 [0x0501] ++ rows false 3 [0x0502] ++
  rows false 3 [0x0601, 0x0602, 0x0603, 0x0604, 0x0605] ++ rows false 1 [0x0606] ++
  rows false 1 [0x0701, 0x0702, 0x0703, 0x0704] ++ rows false 2 [0x0801, 0x0802, 0x0803] ++
  rows false 2 [0x0901] ++ rows false 1 [0x0902] ++ rows false 3 [0x0903] ++ rows false 1 [0x0904] ++
  rows false 1 [0x0A01, 0x0A02, 0x0A03, 0x0A04, 0x0A05] ++ rows true 1 [0x0A06, 0x0A07] ++
  rows false 1 [0x0B01] ++ rows false 2 [0x0B02] ++ rows false 3 [0x0B03] ++
  rows false 1 [0x0C01] ++ rows false 3 [0x0C02] ++ rows true 3 [0x0C03] ++
  rows false 1 [0x0D01, 0x0D02] ++ rows false 2 [0x0D03] ++ rows false 3 [0x0D04, 0x0D05] ++ rows false 1 [0x0D06] ++
  rows false 1 [0x0E01] ++ rows true 1 [0x0E02] ++ rows false 1 [0x0E03]

def cmdRow? (code : Nat) : Option CmdRow := cmdTable.find? (·.code == code)

/-- Does the mailbox take the group of a command (R345)? -/
def takesGroup (mb code : Nat) : Bool :=
  let g := code / 256
  if mb == 0 then g == 1 else if mb == 15 then g == 7 else 1 ≤ mb && mb ≤ 13 && g != 1 && g != 7

/-- Is the TAG that of a command of the session that has not completed? -/
def State.tagOpen (s : State) (session tag : Nat) : Bool :=
  s.mail.opened.any fun o => o.ref.session == session && o.ref.tag == tag

/-- The lc states that allow a command's group (15 R420), and TERMINAL (10 R305). -/
def State.groupAdmitted (s : State) (code : Nat) : Bool :=
  let g := code / 256
  let lc := match s.id.lc with
    | .blank => g == 1 || g == 2 || g == 6 || g == 7 || code == 0x0301
    | .provisioned => g == 1 || g == 2 || (5 ≤ g && g ≤ 7) || code == 0x0301
    | .quarantine => g == 1 || g == 2 || g == 7 || code == 0x0301
    | .retired => g == 1 || g == 2 || g == 7 || code == 0x0301
    | _ => true
  lc && (s.pow.mod != .terminal || (0x0101 ≤ code && code ≤ 0x0104) || g == 2 || g == 7 || code == 0x0C01)

/-- What a command's own checks and effect see of its request. -/
structure Ctx where
  ref  : CmdRef
  mb   : Nat
  ep   : Nat
  role : Nat
  two  : Bool
  body : Bytes
  /-- every write of the request carried the tag of its session, or the request came by CSPI -/
  tagged : Bool

/-- A response: status and body. -/
abbrev Ans := Nat × Bytes

/-- A command's own part: the lengths it takes, its reserved body fields as offset and length, reserved bits of another field,
the least role where it depends on the body, its admission, and its effect. -/
structure Cmd where
  lenOk  : Bytes → Nat → Bool
  resv   : List (Nat × Nat)
  bits   : Bytes → Bool := fun _ => true
  least  : State → Bytes → Nat := fun _ _ => 0
  admission  : State → Ctx → Bool
  run    : State → Ctx → Ans × State

/-- The reserved body fields that lie within LEN are 0. -/
def resvOk (b : Bytes) (fs : List (Nat × Nat)) : Bool := fs.all fun f => zeroAt b f.1 f.2

/-- The session of a request: an open one of the endpoint; for AUTH the provisional one; for OPEN none. -/
def State.reqSession (s : State) (q : Req) (ep : Nat) : Option (Nat × Nat) :=
  if q.cmd == 0x0101 then some (0, 0)
  else if q.cmd == 0x0102 then
    (s.mail.prov.filter fun p => p.id == q.session && p.ep == ep).map fun p => (p.cred, 0)
  else (s.mail.sessions.find? fun x => x.id == q.session && x.ep == ep).map fun x => (x.cred, x.role)

/-- Does the life-cycle state allow a session of a role (R353, 15 R420)? -/
def LcState.session (lc : LcState) (role : Nat) : Bool :=
  match lc with
  | .blank => role == 5
  | .provisioned => true
  | .bench => true
  | _ => role != 5

/-- Did every write of a request carry the tag of the session that it names? CSPI needs none (R340, R341). -/
def Mbox.tagged (session : Nat) (b : Mbox) : Bool :=
  b.ep == 0 || (!b.writers.isEmpty && b.writers.all (· == some session))

/-- R351: the first check that fails, or the context of an admitted request. A second step of a command that has but one has
no first step (R352). (log 140, DEDUCED) -/
def State.checkReq (s : State) (mb : Nat) (k : CmdRow) (c : Cmd) (q : Req) : Except Nat Ctx :=
  let b := s.box mb
  if !takesGroup mb q.cmd || 2 ≤ q.flags || q.resv != 0 || !resvOk q.body c.resv || !c.bits q.body ||
    s.tagOpen q.session q.tag then .error 0x8001
  else if 4080 < q.len || !c.lenOk q.body q.len then .error 0x8002
  else match s.reqSession q b.ep with
    | none => .error 0x8003
    | some (cred, role) =>
      let ctx : Ctx :=
        { ref := ⟨q.session, cred, q.tag, q.cmd, true⟩, mb := mb, ep := b.ep, role := role, two := q.flags == 1
          body := q.body, tagged := b.tagged q.session }
      if role < max k.role (c.least s q.body) then .error 0x8011
      else if !s.groupAdmitted q.cmd || (role == 5 && !s.id.lc.session 5) || !c.admission s ctx then .error 0x8010
      else if q.flags == 1 && !k.two then .error 0x8004
      else .ok ctx

/-- The head of the queue of posted requests. -/
def State.nextBox (s : State) : Option Nat := s.mail.order.head?

/-- Does the SP know the request's command, and does its mailbox take it? -/
def State.knownReq (s : State) (mb : Nat) : Bool :=
  let q := reqOf (s.box mb)
  (cmdRow? q.cmd).isSome && takesGroup mb q.cmd

/-- Posted requests at the head whose command is unknown or not taken by their mailbox answer BAD_COMMAND; no row of
the command table stands for them. -/
def State.answerBad : Nat → State → State
  | 0, s => s
  | n + 1, s =>
    match s.nextBox with
    | none => s
    | some mb => if s.knownReq mb then s else (s.respond mb 0x8001 []).answerBad n

/-! ### The fabric (01 R21) -/

/-- Does the first class go before the second in the fixed priority? -/
def FabricClass.before : FabricClass → FabricClass → Bool
  | .vital, .vital => false
  | .vital, _ => true
  | .exchange, .selfTest => true
  | .exchange, .service => true
  | .selfTest, .service => true
  | _, _ => false

/-- The classes with a transfer waiting between commands: a running self-test's, the SP's for a posted request. Those of the
vital cycle and the exchange are whole in the commands that bring them. (log 116, DEDUCED) -/
def State.fabricWaits (s : State) : List FabricClass :=
  (if s.be.test.any (·.running) then [.selfTest] else []) ++ (if s.mail.boxes.any (·.st == .posted) then [.service] else [])

/-- A class is to be served: the transfers of higher classes that wait are granted first; the self-test asks for its next. -/
def State.grantFirst (s : State) (c : FabricClass) : State :=
  if s.fabricWaits.any (·.before c) then s.updTest fun t => { t with asked := s.time.ot } else s

/-- Requests that no command row takes, answered as their turn comes. -/
def State.settle (s : State) : State :=
  if s.serving && s.mail.boxes.any (·.st == .posted) then (s.grantFirst .service).answerBad 16 else s

def State.hostWrite (s : State) (acc : Access) (addr : Nat) (data : Bytes) : State := (s.access acc addr data).settle

/-! ### The rows -/

def execMailboxClaim (acc : Access) (mb : Nat) (ownkey : Nat) (s : State) : Res :=
  .next (if mb < 16 && ownkey < 65536 then s.hostWrite acc (ctlAddr mb) (le 2 1 ++ le 2 ownkey) else s)

def execMailboxRelease (acc : Access) (mb : Nat) (s : State) : Res :=
  .next (if mb < 16 then s.hostWrite acc (ctlAddr mb) (le 4 2) else s)

def execDoorbellRing (acc : Access) (mb : Nat) (tag : Nat) (s : State) : Res :=
  .next (if mb < 16 && tag < 65536 then s.hostWrite acc (dbAddr mb) (le 2 tag ++ le 2 0x8000) else s)

def execDoorbellAck (acc : Access) (mb : Nat) (s : State) : Res :=
  .next (if mb < 16 then s.hostWrite acc (dbAddr mb) (le 4 0x40000000) else s)

def execRegisterWrite (acc : Access) (addr : Nat) (data : Bytes) (s : State) : Res := .next (s.hostWrite acc addr data)

/-- A request not answered in time, or whose fabric transfer was not granted: RETRY, nothing done (R349). -/
def State.retryBox (s : State) (mb : Nat) : State := if (s.box mb).st == .posted then (s.respond mb 0x80B0 []).settle else s

def execCommandResponseTimeout (mb : Nat) (s : State) : Res :=
  .next (if s.serving && (s.box mb).rung + 100 ≤ s.time.ot then s.retryBox mb else s)

/-- A service transfer, or a transfer of a self-test, that was asked for one Tc ago and has not been granted (01 R21, 15 R417).
A request's transfer is asked for at its doorbell. (log 116, DEDUCED) -/
def execFabricGrantTimeout (user : FabricUser) (s : State) : Res :=
  .next (
    match user with
    | .service mb =>
      if s.serving && (s.box mb).rung + s.set.tc ≤ s.time.ot then s.retryBox mb else s
    | .selfTest =>
      if s.be.test.any (fun t => t.running && t.asked + s.set.tc ≤ s.time.ot) then s.abandonTest 0x80B0 6 else s)

/-- The SP takes the request of a mailbox, of this command, in the order of the doorbells: its checks, its effect, its
first response. -/
def State.serveCmd (s : State) (mb code : Nat) (c : Cmd) : State :=
  if !s.serving then s
  else
    let s := s.answerBad 16
    let q := reqOf (s.box mb)
    if s.nextBox != some mb || (s.box mb).st != .posted || q.cmd != code then s
    else match cmdRow? code with
      | none => s
      | some k =>
        let s := match s.checkReq mb k c q with
          | .error st => (s.grantFirst .service).respond mb st []
          | .ok ctx =>
            let ((st, body), s) := c.run ((s.grantFirst .service).updBox mb fun b => { b with st := .running }) ctx
            s.respond mb st body
        s.answerBad 16

/-! ### Reports to MF (10 R285) and the fault of the service firmware (R352) -/

/-- A fault of the service firmware, to which the manual gives class F1 and no detector: a report of block SP with a detector that
the manual does not number. The request in hand is answered INTERNAL, with nothing done. (log 142, DEDUCED) -/
def State.firmwareFault (s : State) (f : Fsid) : State :=
  let s := (s.collectFull f 1 none none none).2
  match (if s.serving then s.nextBox else none) with
  | some mb => (s.respond mb 0x80F0 []).settle
  | none => s

/-- MF receives a report. The class of a detector that the manual does not number is a free value, F0 to F5. (log 7, DESIGN CHOICE) -/
def execFaultEventCollected (fsid : Fsid) (s : State) : Res :=
  .next (s.fed fun s =>
    if numbered fsid then s.collect fsid
    else if located fsid then
      if fsid.block == 0x20 then s.firmwareFault fsid
      else (s.collectFull fsid (Config.openClass (fword fsid + 1) % 6) none none none).2
    else s)

/-! ### Helpers of the commands -/

def okAns (b : Bytes) (s : State) : Ans × State := ((0x0000, b), s)
def noAns (st : Nat) (s : State) : Ans × State := ((st, []), s)

/-- ACCEPTED: the command stays open until its completion. -/
def State.accepted (s : State) (c : Ctx) (item : Nat) : Ans × State :=
  ((0x0001, []), s.updMail fun m => { m with opened := m.opened ++ [⟨c.ref, item, 0, 0⟩] })

def fixed (n : Nat) (_ : Bytes) (len : Nat) : Bool := len == n
def always (_ : State) (_ : Ctx) : Bool := true

/-- A command that only reads. (log 84, DEDUCED) -/
def query (len : Nat) (resv : List (Nat × Nat)) (f : State → Ctx → Ans) : Cmd :=
  { lenOk := fixed len, resv := resv, admission := always, run := fun s c => (f s c, s) }

/-- A command that writes a change-log record is refused while the change log is out of service (14 R404). -/
def logged (f : State → Ctx → Ans × State) (s : State) (c : Ctx) : Ans × State :=
  if s.changeOut then noAns 0x8070 s else f s c

/-! ### Two-step commands (R357) -/

/-- The body without its confirmation code at an offset. -/
def plainBody (off : Nat) (b : Bytes) : Bytes := b.take off ++ b.drop (off + 2)

def sameStep (c : Ctx) (f : FirstStep) : Bool := f.session == c.ref.session && f.cmd == c.ref.cmd

def State.dropStep (s : State) (c : Ctx) : State :=
  s.updMail fun m => { m with steps := m.steps.filter fun f => !(sameStep c f) }

/-- A first step: a fresh CONFCODE, in place of an older first step. (log 99, DEDUCED) -/
def State.firstStep (s : State) (c : Ctx) (off : Nat) : Nat × State :=
  let (code, s) := (s.dropStep c).freshCode
  (code, s.updMail fun m => { m with
    steps := m.steps ++ [⟨c.ref.session, c.ref.cmd, plainBody off c.body, code, s.time.ot⟩] })

/-- Does a second step match its first step: code, body, and the window from 2 s to 30 s, or the command's own
window? The first step is used up either way. -/
def State.secondStep (s : State) (c : Ctx) (off : Nat) (window : Bool) : Bool × State :=
  let ok := s.mail.steps.any fun f => sameStep c f && f.code == rd c.body off 2 && f.body == plainBody off c.body &&
    (!window || (f.givenAt + 2000 ≤ s.time.ot && s.time.ot ≤ f.givenAt + 30000))
  (ok, s.dropStep c)

end Sys2Proof.Machine
end

