-- ==== Sys2Proof/Machine/CmdSession.lean ====
section
/-! DEFINITION. The session group of the mailbox commands: OPEN to CRED_LIST (12 R353 to R356, R358). -/

namespace Sys2Proof.Machine

/-- A change-log record with the session of a request (R355). -/
def State.ctxChange (s : State) (c : Ctx) (kind : Nat) (body : Bytes) : State :=
  s.change kind c.ref.cred c.ref.session c.ep c.ref.cmd body

/-! ### OPEN (R353 to R355) -/

/-- A provisional session with fresh ID (not 0: OPEN carries SESSION 0), challenge and key; on CSPI the keys are zeros. (log 22, DEDUCED) -/
def State.newProv (s : State) (ep cred : Nat) (hostkey : Bytes) : Prov × State :=
  let (v, s) := s.freshNat 32
  let id := v % (2 ^ 32 - 1) + 1
  let (chal, s) := State.freshBytes 32 s
  let (secret, s) := s.freshNat 64
  let local_ := ep == 0
  ({ id := id, cred := cred, ep := ep, chal := chal, hostkey := if local_ then zeros 97 else hostkey
     modkey := if local_ then zeros 97 else padTo 97 (Config.modKey secret), secret := secret, age := 0, xid := none }, s)

/-- log 83, DESIGN CHOICE. -/
def runOpen (s : State) (c : Ctx) : Ans × State :=
  match s.cred? (rd c.body 0 4) with
  | none => noAns 0x8080 s
  | some k =>
    if !s.id.lc.session k.role then noAns 0x8010 s
    else if 8 ≤ s.mail.sessions.length then noAns 0x8020 s
    else
      let (p, s) := s.newProv c.ep k.id (slice c.body 8 97)
      okAns (le 4 p.id ++ p.chal ++ p.modkey ++ zeros 3) (s.updMail fun m => { m with prov := some p })

def cmdOpen : Cmd := { lenOk := fixed 108, resv := [(4, 4), (105, 3)], admission := always, run := runOpen }

def execOpenSession (mb : Nat) (s : State) : Res := .next (s.serveCmd mb 0x0101 cmdOpen)

/-! ### AUTH (R354) -/

/-- The session key: none on CSPI. -/
def Prov.sessionKey (p : Prov) : Bytes :=
  if p.ep == 0 then [] else (Config.sha384 (Config.ecdh p.secret p.hostkey ++ p.chal)).take 16

/-- What the signature covers. -/
def Prov.digest (p : Prov) : Bytes := Config.sha384 (p.chal ++ p.hostkey ++ p.modkey ++ le 4 p.cred)

def Prov.open (p : Prov) (role : Nat) : Sess :=
  { id := p.id, cred := p.cred, role := role, ep := p.ep, key := p.sessionKey, idle := 0, xid := p.xid }

def runAuth (s : State) (c : Ctx) : Ans × State :=
  match s.mail.prov with
  | none => noAns 0x8003 s
  | some p =>
    match s.cred? p.cred with
    | none => noAns 0x8060 s.dropProv
    | some k =>
      if c.tagged && Config.ecdsaOk k.key p.digest (slice c.body 0 96) then
        okAns (le 1 k.role ++ zeros 3 ++ le 4 600)
          (s.updMail fun m => { m with prov := none, sessions := m.sessions ++ [p.open k.role] })
      else noAns 0x8060 s.dropProv

/-- The life-cycle state still allows the credential's role (R353). -/
def admitAuth (s : State) (c : Ctx) : Bool := (s.cred? c.ref.cred).all fun k => s.id.lc.session k.role

def cmdAuth : Cmd := { lenOk := fixed 96, resv := [], admission := admitAuth, run := runAuth }

def execAuth (mb : Nat) (s : State) : Res := .next (s.serveCmd mb 0x0102 cmdAuth)

/-! ### CLOSE, SESSION_LIST -/

def cmdClose : Cmd :=
  { lenOk := fixed 0, resv := [], admission := always, run := fun s c => okAns [] (s.endSession c.ref.session) }

def execClose (mb : Nat) (s : State) : Res := .next (s.serveCmd mb 0x0103 cmdClose)

def sessBytes (x : Sess) : Bytes := le 4 x.id ++ le 4 x.cred ++ le 1 x.role ++ le 1 x.ep ++ zeros 2

def cmdSessionList : Cmd :=
  query 0 [] fun s _ => (0, le 4 s.mail.sessions.length ++ s.mail.sessions.flatMap sessBytes)

def execSessionList (mb : Nat) (s : State) : Res := .next (s.serveCmd mb 0x0104 cmdSessionList)

/-! ### Credentials (R356) -/

def runCredAdd (s : State) (c : Ctx) : Ans × State :=
  let id := rd c.body 0 4
  let role := rd c.body 4 1
  if role == 0 || 5 ≤ role then noAns 0x8070 s
  else if (s.cred? id).isSome then noAns 0x8030 s
  else if 64 ≤ s.id.creds.length then noAns 0x8020 s
  else
    let s := { s with id := { s.id with creds := s.id.creds ++ [({ id := id, role := role, key := slice c.body 8 97 } : Cred)] } }
    okAns [] (s.ctxChange c 0x12 (le 4 id ++ le 1 role))

def cmdCredAdd : Cmd := { lenOk := fixed 108, resv := [(5, 3), (105, 3)], admission := always, run := logged runCredAdd }

def execCredAdd (mb : Nat) (s : State) : Res := .next (s.serveCmd mb 0x0105 cmdCredAdd)

/-- log 83, DESIGN CHOICE. -/
def runCredRevoke (s : State) (c : Ctx) : Ans × State :=
  let id := rd c.body 0 4
  match s.cred? id with
  | none => noAns 0x8080 s
  | some k =>
    if id == c.ref.cred || k.role == 5 then noAns 0x8070 s
    else
      let s := { s with id := { s.id with creds := s.id.creds.filter fun x => !(x.id == id) } }
      let s := s.each ((s.mail.sessions.filter (·.cred == id)).map (·.id)) State.endSession
      okAns [] (s.ctxChange c 0x13 (le 4 id))

def cmdCredRevoke : Cmd := { lenOk := fixed 4, resv := [], admission := always, run := logged runCredRevoke }

def execCredRevoke (mb : Nat) (s : State) : Res := .next (s.serveCmd mb 0x0106 cmdCredRevoke)

def credBytes (k : Cred) : Bytes := le 4 k.id ++ le 1 k.role ++ zeros 3

def cmdCredList : Cmd :=
  query 4 [(1, 3)] fun s c =>
    let l := s.id.creds.drop (rd c.body 0 1)
    (0, le 1 l.length ++ zeros 3 ++ l.flatMap credBytes)

def execCredList (mb : Nat) (s : State) : Res := .next (s.serveCmd mb 0x0107 cmdCredList)

end Sys2Proof.Machine
end

