-- ==== Sys2Proof/Machine/CmdStatus.lean ====
section
/-! DEFINITION. The identity and status group, IMAGE_INFO, PAIR_STATUS, FAULT_STATUS, ESC_BOUNDS, HEDGE_LIST and
TIME_GET: the mailbox commands that only read (12 R358). -/

namespace Sys2Proof.Machine

/-- A window of `count` items from `first` out of `total`: NOT_FOUND beyond the last, CHECK_FAIL for a count outside 1
to `most` (R351). -/
def pick (first count total most : Nat) (item : Nat → Bytes) : Ans :=
  if total < first + count then (0x8080, [])
  else if count == 0 || most < count then (0x8070, [])
  else (0, ((List.range count).map (first + ·)).flatMap item)

/-- One byte string for each lane, in their order. -/
def perLane (f : Lane → Bytes) : Bytes := Lane.all.flatMap f

/-! ### Identity, cycle, lanes -/

/-- Kernel version and compatibility level of a lane. -/
def State.kernelBytes (s : State) (l : Lane) : Bytes :=
  let e := (s.slotOf 1 (s.lane l).kSlot).env
  le 4 e.version ++ le 2 e.level

def cmdIdentity : Cmd := query 0 [] fun s _ => (0, slice s.identBytes 0 32 ++ perLane s.kernelBytes ++ zeros 2)

def execIdentity (mb : Nat) (s : State) : Res := .next (s.serveCmd mb 0x0201 cmdIdentity)

/-- The cycle status block (04 R137). -/
def State.cycleBytes (s : State) : Bytes :=
  let c := s.cyc
  le 2 s.set.tc ++ le 1 c.mode.code ++ zeros 1 ++ le 2 s.set.holdlim ++ le 2 (sat16 c.holdelap) ++ le 8 c.cyccnt ++
  le 4 c.skipcnt ++ le 1 s.overrunsNow.length ++ le 1 (c.ovrlast.elim 0xFF Lane.num) ++ zeros 2 ++ le 4 s.image.wcet ++
  le 4 s.image.mirt ++ perLane (fun l => le 4 (if s.isActive l then (s.lane l).comp else 0)) ++
  perLane (fun l => le 4 (s.lane l).maxcomp) ++ le 4 c.warncnt ++ le 4 c.mirabort

def cmdCycleStatus : Cmd := query 0 [] fun s _ => (0, s.cycleBytes)

def execCycleStatus (mb : Nat) (s : State) : Res := .next (s.serveCmd mb 0x0202 cmdCycleStatus)

/-- The lane status block (05 R172). -/
def State.laneBytes (s : State) : Bytes :=
  let core (l : Lane) : Nat := b2n (s.lane l).faultcore.fst + 2 * b2n (s.lane l).faultcore.snd
  perLane (fun l => le 1 (s.lane l).st.code) ++ zeros 1 ++ perLane (fun l => le 1 (s.lane l).hold.code) ++ zeros 1 ++
  perLane (fun l => le 1 (min 3 (s.wdsNow l).length)) ++ zeros 1 ++ le 1 (core .a + 4 * core .b + 16 * core .c) ++ zeros 3 ++
  perLane (fun l => le 4 ((s.lane l).lastwd.elim 0 fword)) ++ zeros 4 ++ perLane (fun l => le 8 (s.lane l).wdot) ++
  le 2 s.set.duolim ++ le 2 (sat16 (s.cyc.duoelap / 60000)) ++ le 4 s.cyc.rsyfail

def cmdLaneStatus : Cmd := query 0 [] fun s _ => (0, s.laneBytes)

def execLaneStatus (mb : Nat) (s : State) : Res := .next (s.serveCmd mb 0x0203 cmdLaneStatus)

/-! ### Cells and connections, as of the last executed start -/

def cmdInputStatus : Cmd :=
  query 4 [(2, 2)] fun s c =>
    let b := s.mail.inStat.getD s.inLive
    pick (rd c.body 0 1) (rd c.body 1 1) 48 48 fun n => slice b (8 * n) 8

def execInputStatus (mb : Nat) (s : State) : Res := .next (s.serveCmd mb 0x0204 cmdInputStatus)

def cmdOutputStatus : Cmd :=
  query 4 [(2, 2)] fun s c =>
    let b := s.mail.outStat.getD s.outLive
    pick (rd c.body 0 1) (rd c.body 1 1) 48 48 fun n => slice b (8 * n) 8

def execOutputStatus (mb : Nat) (s : State) : Res := .next (s.serveCmd mb 0x0205 cmdOutputStatus)

def cmdConnStatus : Cmd :=
  query 4 [(2, 2)] fun s c =>
    let l := s.mail.connStat.getD s.connLive
    let first := rd c.body 0 1
    if first == 0 then (0x8070, [])
    else pick first (rd c.body 1 1) 256 85 fun n => (l.find? (·.1 == n)).elim connNone (·.2)

def execConnStatus (mb : Nat) (s : State) : Res := .next (s.serveCmd mb 0x0206 cmdConnStatus)

/-! ### Elements and routes -/

/-- Element records as of the last executed start. -/
def cmdElementRead : Cmd :=
  query 4 [] fun s c =>
    let es := s.mail.elemStat.getD s.app.elems
    pick (rd c.body 0 2) (rd c.body 2 2) Config.maxElems 63 fun n => (es.find? (·.num == n)).elim (zeros 64) elemBytes

def execElementRead (mb : Nat) (s : State) : Res := .next (s.serveCmd mb 0x0207 cmdElementRead)

def cmdRouteRead : Cmd :=
  query 4 [] fun s c =>
    pick (rd c.body 0 2) (rd c.body 2 2) Config.maxRoutes 63 fun n => routeBytes (s.cellRec n)

def execRouteRead (mb : Nat) (s : State) : Res := .next (s.serveCmd mb 0x0208 cmdRouteRead)

def cmdTrellisStatus : Cmd := query 0 [] fun s _ => (0, trellisBytes s.app.trellis)

def execTrellisStatus (mb : Nat) (s : State) : Res := .next (s.serveCmd mb 0x0209 cmdTrellisStatus)

/-- RID and RCHK of a route (11 R327). -/
def identOf (t : RouteEntry) : Bytes := le 4 t.rid ++ le 4 t.rchk

def cmdRouteIdent : Cmd :=
  query 4 [] fun s c =>
    pick (rd c.body 0 2) (rd c.body 2 2) s.image.routes.length 500 fun n => (s.image.routes[n]?).elim (zeros 8) identOf

def execRouteIdent (mb : Nat) (s : State) : Res := .next (s.serveCmd mb 0x020A cmdRouteIdent)

/-! ### IMAGE_INFO -/

/-- The 64 bytes of an image; an empty slot reads 0. -/
def imageInfo (img : Image) : Bytes :=
  le 8 img.imgid ++ le 1 img.role ++ le 1 (b2n img.split) ++ le 2 img.level ++ le 2 img.tc ++ zeros 2 ++ le 4 img.wcet ++
  le 4 img.mirt ++ le 4 img.rsyt ++ le 4 img.grft ++ le 2 img.ents.length ++ le 2 img.routes.length ++ zeros 28

/-- The idle application slot: its image where it holds a verified one. -/
def State.idleInfo (s : State) : Bytes :=
  let x := s.slotOf 2 (!s.upd.appRun)
  if x.valid then x.image.elim (zeros 64) imageInfo else zeros 64

def cmdImageInfo : Cmd :=
  query 0 [] fun s _ => (0, (if s.image.imgid == 0 && s.image.role == 0 then zeros 64 else imageInfo s.image) ++ s.idleInfo)

def execImageInfo (mb : Nat) (s : State) : Res := .next (s.serveCmd mb 0x0501 cmdImageInfo)

/-! ### Pair and fault status -/

def cmdPairStatus : Cmd :=
  query 0 [] fun s _ =>
    (0, padTo 64 (healthBytes le s.ownReport) ++ padTo 64 (s.pair.partner.elim [] (healthBytes le)) ++
      le 1 (b2n s.partnerSeen) ++ zeros 3)

def execPairStatus (mb : Nat) (s : State) : Res := .next (s.serveCmd mb 0x0C01 cmdPairStatus)

/-- *Fault settings* (10 R306). -/
def State.faultSettings (s : State) : Bytes :=
  le 1 s.set.grace ++ zeros 1 ++ le 2 s.set.esc.length ++ le 4 s.flt.esccnt ++ le 4 s.flt.conseq ++
  le 1 (min 3 s.safesNow.length) ++ zeros 3

def cmdFaultStatus : Cmd := query 0 [] fun s _ => (0, le 4 s.faultWord ++ le 4 s.flt.alarmcnt ++ s.faultSettings)

def execFaultStatus (mb : Nat) (s : State) : Res := .next (s.serveCmd mb 0x0902 cmdFaultStatus)

/-- One detector of ESC_BOUNDS: LEVEL, BLOCK, DET, BASE, CEIL, CEIL floor, N, N maximum, W, W minimum. -/
def detBytes (d : DetRow) : Bytes :=
  le 1 d.level ++ le 1 d.block ++ le 1 d.det ++ le 1 d.base ++ le 1 d.ceil ++ le 1 d.ceil ++ le 1 d.n ++ le 1 d.nMax ++
  le 4 d.w ++ le 4 d.wMin

/-- A list from a first position, at most `most` entries: NTOTAL, NRET, entries. (log 84, DEDUCED) -/
def listFrom (first most : Nat) (total : Nat) (items : List Bytes) : Ans :=
  if total < first || (first == total && total != 0) then (0x8080, [])
  else
    let l := (items.drop first).take most
    (0, le 2 total ++ le 2 l.length ++ l.flatten)

def cmdEscBounds : Cmd :=
  query 4 [(2, 2)] fun _ c => listFrom (rd c.body 0 2) 254 detTable.length (detTable.map detBytes)

def execEscBounds (mb : Nat) (s : State) : Res := .next (s.serveCmd mb 0x0903 cmdEscBounds)

/-- KIND and INDEX of a hedge in HEDGE_LIST. -/
def hkindCode : HKind → Nat
  | .cell => 1
  | .conn => 2
  | .bank => 3
  | .net => 4
  | .block => 5
  | .group => 6
  | .cv => 7

def hedgeBytes (h : Hedge) : Bytes :=
  le 1 (hkindCode h.kind) ++ le 1 (b2n h.latched) ++ le 2 h.index ++ le 4 (fword h.fsid)

/-- The hedge that a cell has through its group. -/
def memberHedge (h : Hedge) (c : Nat) : Hedge := { h with kind := .cell, index := c }

/-- The hedges of output groups and of their members that have no hedge of their own: a group is hedged with any of
its members (07 R222). -/
def State.groupHedges (s : State) : List Hedge :=
  s.flt.hedges.flatMap fun h =>
    if h.kind == .cell && (s.members h.index).length ≥ 2 then
      { h with kind := .group, index := (s.cellCfg h.index).ogroup } ::
      ((s.members h.index).filter fun c => !(s.hedgedAny .cell c)).map (memberHedge h)
    else []

def sameItem (a b : Hedge) : Bool := a.kind == b.kind && a.index == b.index && a.fsid == b.fsid

/-- No item twice for one cause. -/
def distinctHedges (hs : List Hedge) : List Hedge :=
  hs.foldl (fun acc h => if acc.any (sameItem h) then acc else acc ++ [h]) []

def cmdHedgeList : Cmd :=
  query 0 [] fun s _ =>
    let l := distinctHedges (s.flt.hedges ++ s.groupHedges)
    (0, le 2 l.length ++ zeros 2 ++ (l.take 509).flatMap hedgeBytes)

def execHedgeList (mb : Nat) (s : State) : Res := .next (s.serveCmd mb 0x0904 cmdHedgeList)

/-! ### TIME_GET -/

def cmdTimeGet : Cmd :=
  query 0 [] fun s _ =>
    let t := s.time
    (0, le 8 t.ot ++ le 4 t.pc ++ le 1 (b2n t.wtvalid) ++ le 1 t.source ++ zeros 2 ++ le 8 t.wt)

def execTimeGet (mb : Nat) (s : State) : Res := .next (s.serveCmd mb 0x0B01 cmdTimeGet)

end Sys2Proof.Machine
end

