-- ==== Sys2Proof/Machine/CmdLife.lean ====
section
/-! DEFINITION. The life-cycle group (12 R358): LC_TRANSITION with its token (15 R423 to R425), MODE (04 R130, R135),
RESTART (10 R303) and MAINT (15 R422). -/

namespace Sys2Proof.Machine

/-! ### LC_TRANSITION -/

/-- Do the token's fields match the command and the module (R423, R424)? (log 87, DEDUCED). -/
def State.lcTokenOk (s : State) (target : Nat) (t : Bytes) : Bool :=
  let from_ := rd t 2 1
  t.length == 144 && rd t 0 1 == 1 && rd t 1 1 == target &&
  (from_ == s.id.lc.code || (from_ == 3 && s.id.lc == .maintenance)) && zeroAt t 3 1 && rd t 4 4 == s.id.serial &&
  rd t 8 4 == s.id.lccnt && zeroAt t 0x20 0x10

/-- Is the transition one that waits for an executed start: between COMMISSIONING and SERVICE (R425)? -/
def lcWaits (src dst : LcState) : Bool :=
  (src == .commissioning && dst == .service) || (src.inService && dst == .commissioning)

/-- The transition judged by its token: made, left for the next executed start, or refused. -/
def State.lcJudge (s : State) (target : LcState) (r : CmdRef) (t : Bytes) : State :=
  let signer := rd t 0x0C 4
  let reason := slice t 0x10 16
  let refuse (st : Nat) : State := s.refuseTransition target.code r signer st
  match s.cred? signer with
  | none => refuse 0x8060
  | some k =>
    if !(s.lcTokenOk target.code t && Config.ecdsaOk k.key (Config.sha384 (t.take 0x30)) (t.drop 0x30)) then refuse 0x8060
    else match s.transition target with
      | none => refuse 0x8010
      | some (role, cond) =>
        if k.role < role then refuse 0x8060
        else if !cond then refuse 0x8010
        else if lcWaits s.id.lc target then { s with id := { s.id with lcReq := some (target, r, signer, reason) } }
        else s.lcNow target r signer reason

def runLcTransition (s : State) (c : Ctx) : Ans × State :=
  match LcState.ofCode (rd c.body 0 1) with
  | none => noAns 0x8070 s
  | some target =>
    if 1024 < rd c.body 2 2 then noAns 0x8070 s
    else if s.id.lcReq.isSome then noAns 0x80B0 s
    else
      let (a, s) := s.accepted c 0
      (a, s.lcJudge target c.ref ((c.body.drop 4).take (rd c.body 2 2)))

def cmdLcTransition : Cmd :=
  { lenOk := fun b n => n == 4 + rd b 2 2, resv := [(1, 1)], admission := always, run := logged runLcTransition }

def execLcTransition (mb : Nat) (s : State) : Res := .next (s.serveCmd mb 0x0301 cmdLcTransition)

/-! ### MODE -/

/-- Between the first turn of a kernel activation and its confirmation (16 R443)? -/
def State.kernelTurning (s : State) : Bool :=
  s.upd.act.any fun a => a.kind == 1 && (a.turn.isSome || !a.doneLanes.isEmpty || a.back)

/-- log 86, DEDUCED. -/
def admitMode (s : State) (c : Ctx) : Bool :=
  s.id.lc.cycle && s.pow.mod == .service && !s.kernelTurning &&
  (rd c.body 0 1 != 2 || ((s.id.lc == .commissioning || s.id.lc == .bench) && !(s.paired && s.partnerInStep)))

/-- log 86, DEDUCED. -/
def runMode (s : State) (c : Ctx) : Ans × State :=
  let m := rd c.body 0 1
  if 2 < m then noAns 0x8070 s
  else if s.cyc.modereq.isSome then noAns 0x80B0 s
  else s.accepted c 0 |> fun (a, s) => (a, s.updCyc fun y => { y with modereq := some (ExecMode.ofCode m, c.ref) })

def cmdMode : Cmd := { lenOk := fixed 4, resv := [(1, 3)], admission := admitMode, run := logged runMode }

def execMode (mb : Nat) (s : State) : Res := .next (s.serveCmd mb 0x0302 cmdMode)

/-! ### RESTART -/

def runRestart (s : State) (c : Ctx) : Ans × State :=
  let kind := rd c.body 0 1
  if 1 < kind then noAns 0x8070 s
  else if s.pow.restart.isSome then noAns 0x80B0 (s.askRestart (if kind == 0 then .warm else .cold))
  else okAns [] ((s.ctxChange c 0x16 (le 1 kind)).askRestart (if kind == 0 then .warm else .cold))

def cmdRestart : Cmd := { lenOk := fixed 4, resv := [(1, 3)], admission := always, run := logged runRestart }

def execRestart (mb : Nat) (s : State) : Res := .next (s.serveCmd mb 0x0303 cmdRestart)

/-! ### MAINT -/

def runMaint (s : State) (c : Ctx) : Ans × State :=
  let v := rd c.body 0 1
  if 1 < v then noAns 0x8070 s
  else okAns [] { s with id := { s.id with maintReq := some (v == 1, c.ref) } }

def cmdMaint : Cmd :=
  { lenOk := fixed 4, resv := [(1, 3)], admission := fun s _ => s.id.lc.inService, run := logged runMaint }

def execMaint (mb : Nat) (s : State) : Res := .next (s.serveCmd mb 0x0304 cmdMaint)

end Sys2Proof.Machine
end

