-- ==== Sys2Proof/Machine/CmdStage.lean ====
section
/-! DEFINITION. The cold frame group of the mailbox commands (11 R312 to R323, R335, 12 R358). -/

namespace Sys2Proof.Machine

def State.updStage (s : State) (f : StageSt → StageSt) : State := { s with stage := f s.stage }

/-- Another session's command: BUSY_SESSION while a session owns the cold frame, INCONSISTENT_STAGE while none does
(R312). -/
def State.notOwner (s : State) (c : Ctx) : Option Nat :=
  if s.stage.owner == 0 then some 0x8030
  else if s.stage.owner != c.ref.session then some 0x8020
  else none

/-- A command for the owning session alone. -/
def owned (f : State → Ctx → Ans × State) (s : State) (c : Ctx) : Ans × State :=
  match s.notOwner c with
  | some st => noAns st s
  | none => f s c

/-- From the apply start to its completion. -/
def State.applyingNow (s : State) : Bool := s.stage.st == .applying

/-! ### STAGE_OPEN -/

def runStageOpen (s : State) (c : Ctx) : Ans × State :=
  if s.stage.owner == c.ref.session then okAns [] s
  else if s.stage.owner != 0 then noAns 0x8020 s
  else
    let s := s.updStage fun g => { g with owner := c.ref.session, st := .opened, chkcode := 0 }
    okAns [] (s.ctxChange c 0x01 (le 4 c.ref.session ++ le 4 c.ref.cred))

def cmdStageOpen : Cmd := { lenOk := fixed 0, resv := [], admission := always, run := logged runStageOpen }

def execStageOpen (mb : Nat) (s : State) : Res := .next (s.serveCmd mb 0x0401 cmdStageOpen)

/-! ### STAGE_WRITE -/

/-- Entry i of a STAGE_WRITE body, as raw bytes. -/
def rawEntry (b : Bytes) (i : Nat) : Bytes := slice b (4 + 40 * i) 40

/-- A staged entry as written. -/
def entryIn (r : Bytes) : StgEntry := ⟨rd r 0 1, rd r 2 2, rd r 4 2, slice r 8 (min (rd r 6 2) 32)⟩

/-- SLEN from 1 to 32, and the value's unused bytes 0. (log 88, DEDUCED) -/
def entryShape (r : Bytes) : Bool :=
  let n := rd r 6 2
  1 ≤ n && n ≤ 32 && zeroAt r (8 + n) (32 - n)

/-- Is an entry taken, on the entries staged so far? -/
def State.takesEntry (s : State) (e : StgEntry) : Bool :=
  s.entryOk e && (stageEntry e s.stage.entries).length ≤ 4096

/-- The entries staged in order; the index of the first that is refused. Keys are written only with CONN_KEY (08 R238).
(log 126, DEDUCED) -/
def State.stageAll (s : State) : List Bytes → Nat → Except Nat State
  | [], _ => .ok s
  | r :: rs, i =>
    let e := entryIn r
    if entryShape r && e.cls != 0x06 && s.takesEntry e then
      State.stageAll (s.updStage fun g => { g with entries := stageEntry e g.entries }) rs (i + 1)
    else .error i

/-- A stage write taken: a running check ends, an accepted apply is cancelled, the cold frame is OPEN (R316). -/
def State.afterWrite (s : State) : State :=
  (s.breakCheck.cancelApply).updStage fun g => { g with st := .opened, passedLanes := [] }

/-- Entries written whole or not at all, with NDONE and FAILIDX. -/
def State.writeEntries (s : State) (role : Nat) (rs : List Bytes) : Ans × State :=
  if s.applyingNow then noAns 0x80B0 s
  else if role < 4 && rs.any (fun r => (entryIn r).cls == 0x06) then noAns 0x8011 s
  else match s.stageAll rs 0 with
    | .error i => ((0x8030, le 2 0 ++ le 2 i), s)
    | .ok s => okAns (le 2 rs.length ++ le 2 0xFFFF) s.afterWrite

def runStageWrite (s : State) (c : Ctx) : Ans × State :=
  let n := rd c.body 0 2
  if n == 0 || 101 < n then noAns 0x8070 s
  else s.writeEntries c.role ((List.range n).map (rawEntry c.body))

/-- The reserved byte of each entry that a body can hold. -/
def entryResv : List (Nat × Nat) := (List.range 101).map fun i => (4 + 40 * i + 1, 1)

def cmdStageWrite : Cmd :=
  { lenOk := fun b n => n == 4 + 40 * rd b 0 2, resv := (2, 2) :: entryResv, admission := always, run := owned runStageWrite }

def execStageWrite (mb : Nat) (s : State) : Res := .next (s.serveCmd mb 0x0402 cmdStageWrite)

/-! ### STAGE_READ -/

/-- An entry as read: class 0x06 values as 0. -/
def shownEntry (e : StgEntry) : Bytes := entryRec (if e.cls == 0x06 then { e with value := zeros e.value.length } else e)

def runStageRead (s : State) (c : Ctx) : Ans × State :=
  let n := rd c.body 2 2
  if n == 0 || 101 < n then noAns 0x8070 s
  else okAns (((s.stage.entries.drop (rd c.body 0 2)).take n).flatMap shownEntry) s

def cmdStageRead : Cmd := { lenOk := fixed 4, resv := [], admission := always, run := owned runStageRead }

def execStageRead (mb : Nat) (s : State) : Res := .next (s.serveCmd mb 0x0403 cmdStageRead)

/-! ### STAGE_DISCARD -/

/-- The cold frame discarded; CHKCODE 0x0F stays where a check or an accepted apply went with it (R314, R316). -/
def State.discardFrame (s : State) : State :=
  let broke := s.stage.checking.isSome || s.stage.apply.isSome
  (s.breakCheck.cancelApply.emptyFrame).updStage fun g => { g with chkcode := if broke then 0x0F else 0 }

def runStageDiscard (s : State) (c : Ctx) : Ans × State :=
  if s.applyingNow then noAns 0x80B0 s
  else
    let s := s.discardFrame
    okAns [] (s.ctxChange c 0x01 (le 4 c.ref.session ++ le 4 c.ref.cred))

def cmdStageDiscard : Cmd := { lenOk := fixed 0, resv := [], admission := always, run := logged (owned runStageDiscard) }

def execStageDiscard (mb : Nat) (s : State) : Res := .next (s.serveCmd mb 0x0404 cmdStageDiscard)

/-! ### STAGE_CHECK -/

def runStageCheck (s : State) (c : Ctx) : Ans × State :=
  if s.stage.checking.isSome || s.stage.apply.isSome || s.applyingNow then noAns 0x80B0 s
  else
    let (a, s) := s.accepted c 0
    (a, s.updStage fun g => { g with st := .checking, checking := some c.ref, passedLanes := [] })

def cmdStageCheck : Cmd := { lenOk := fixed 0, resv := [], admission := always, run := logged (owned runStageCheck) }

def execStageCheck (mb : Nat) (s : State) : Res := .next (s.serveCmd mb 0x0405 cmdStageCheck)

/-! ### STAGE_APPLY (R317, R321, R322) -/

/-- May an apply be accepted in the present life-cycle state, module state and mode? -/
def State.applyAdmitted (s : State) : Bool :=
  s.id.lc.tests && s.pow.mod == .service && s.cyc.mode != .hold && !s.kernelTurning

/-- The status of an apply in a state that admits it: 0 where it is accepted. -/
def State.applyStatus (s : State) (id : Nat) : Nat :=
  if s.stage.apply.isSome || s.applyingNow then 0x80B0
  else if s.stage.st != .checked then 0x8030
  else if id != s.stgId then 0x8070
  else if s.hasForces && s.stage.ftgen != s.stage.ftgenChk then 0x8030
  else 0

/-- An apply accepted: its generation is pending, and a member bound to its partner forwards it (R322). -/
def State.acceptApply (s : State) (r : CmdRef) : State :=
  let g := s.nextGen
  let s := { s with
    stage := { s.stage with pendingGen := some g, apply := some ⟨r, 2, false⟩ }
    pair := { s.pair with applyOt := some s.time.ot } }
  if s.pairOn && !s.pair.pacer then s.plSend (.cmdfwd (.apply s.stgId)) else s

/-- The change-log record 0x03 of an apply accepted or refused. -/
def State.applyRec (s : State) (c : Ctx) (st : Nat) : State := s.ctxChange c 0x03 (le 4 (rd c.body 0 4) ++ le 2 st)

/-- log 89, DEDUCED. -/
def takeApply (s : State) (c : Ctx) : Ans × State :=
  let st := s.applyStatus (rd c.body 0 4)
  if st == 0 then
    let (a, s) := (s.applyRec c 0x0001).accepted c 0
    (a, s.acceptApply c.ref)
  else
    let s := s.applyRec c st
    noAns st (if s.stage.st == .checked && st == 0x8030 then s.updStage fun g => { g with st := .opened } else s)

/-- STAGE_APPLY: the states that do not admit it come before every check of its own (12 R351). -/
def runStageApply (s : State) (c : Ctx) : Ans × State :=
  if s.applyAdmitted then logged (owned takeApply) s c else noAns 0x8010 (s.applyRec c 0x8010)

def cmdStageApply : Cmd := { lenOk := fixed 4, resv := [], admission := always, run := runStageApply }

def execStageApply (mb : Nat) (s : State) : Res := .next (s.serveCmd mb 0x0406 cmdStageApply)

/-! ### STAGE_STATUS (R335) -/

def State.stageBytes (s : State) : Bytes :=
  let g := s.stage
  le 1 g.st.code ++ le 1 g.chkcode ++ le 2 g.entries.length ++ le 4 g.owner ++ le 4 s.stgId ++ le 2 g.failent ++
  le 2 g.failitem ++ le 4 g.gen ++ le 4 g.ftgen ++ le 2 g.gstatus ++ le 2 (g.forces.filter (·.fkind != 0)).length ++
  le 2 g.nkept ++ le 2 g.nmapped ++ le 2 g.nnew ++ le 2 g.ndisc ++ le 8 g.applycyc

def cmdStageStatus : Cmd := query 0 [] fun s _ => (0, s.stageBytes)

def execStageStatus (mb : Nat) (s : State) : Res := .next (s.serveCmd mb 0x0407 cmdStageStatus)

/-! ### CONN_KEY (08 R238) -/

/-- The class 0x06 entry of a key: index CONN × 2 + SLOT, the whole key. -/
def keyEntry (conn slot : Nat) (key : Bytes) : StgEntry := ⟨0x06, conn * 2 + slot, 0, key⟩

/-- One entry staged, or refused. -/
def State.writeKey (s : State) (e : StgEntry) : Ans × State :=
  if s.applyingNow then noAns 0x80B0 s
  else if s.takesEntry e then okAns [] (s.updStage fun g => { g with entries := stageEntry e g.entries }).afterWrite
  else noAns 0x8030 s

def runConnKey (s : State) (c : Ctx) : Ans × State :=
  if 1 < rd c.body 1 1 then noAns 0x8070 s
  else s.writeKey (keyEntry (rd c.body 0 1) (rd c.body 1 1) (slice c.body 4 16))

def cmdConnKey : Cmd := { lenOk := fixed 20, resv := [(2, 2)], admission := always, run := owned runConnKey }

def execConnKey (mb : Nat) (s : State) : Res := .next (s.serveCmd mb 0x0408 cmdConnKey)

end Sys2Proof.Machine
end

