-- ==== Sys2Proof/Machine/CmdUpdate.lean ====
section
/-! DEFINITION. ACTIVATE and the update group of the mailbox commands (16 R435 to R446, R450, 12 R358). -/

namespace Sys2Proof.Machine

/-! ### Taking an application image into use (R446, 05 R175) -/

/-- May an image with SPLIT set be activated (05 R175)? -/
def State.splitAdmits (s : State) (img : Image) : Bool :=
  !img.split || img.role == 5 || s.id.lc == .commissioning || s.id.lc == .bench

/-- The status of taking the idle slot's image into use: 0 where it is taken. (log 91, DEDUCED) -/
def State.appStatus (s : State) (imgid : Nat) : Nat :=
  let x := s.slotOf 2 (!s.upd.appRun)
  match (if x.valid && x.env.imgid == imgid then x.image else none) with
  | none => 0x8080
  | some img =>
    if s.upd.act.isSome || s.upd.verify.isSome || s.pow.restart.isSome then 0x80B0
    else if !s.slotSigned 2 x then 0x8060
    else if !s.compatible x.env false then 0x8050
    else if !imageOk img s.id.modaddr then 0x8070
    else if !s.splitAdmits img then 0x8010
    else 0

/-- A rollback token used: RBCNT rises (R439). -/
def State.useToken (s : State) (c : Ctx) (imgid : Nat) : State :=
  match s.upd.sess with
  | some u =>
    if u.rollback then
      let n := wrapInc 32 s.upd.rbcnt
      (s.updUpd fun x => { x with rbcnt := n }).ctxChange c 0x39 (le 8 imgid ++ le 4 (rd u.token 0x0C 4) ++ le 4 n)
    else s
  | none => s

/-- Record 0x32 and the token of an accepted activation; the update session has ended with it. -/
def State.acceptAct (s : State) (c : Ctx) (kind old new : Nat) : State :=
  ((s.useToken c new).ctxChange c 0x32 (le 1 kind ++ le 8 old ++ le 8 new)).updUpd fun x => { x with state := 4 }

/-- Does the update session say that its image needs its token? -/
def State.sessRollback (s : State) : Bool := s.upd.sess.any (·.rollback)

/-- An update session of another kind ends with the restart that ACTIVATE makes (R438). -/
def State.endOther (s : State) (kind : Nat) : State := if s.upd.sess.any (·.kind != kind) then s.abortUpd 4 else s

/-- The idle application slot becomes the running one, and a cold restart follows within 100 ms. -/
def State.activateApp (s : State) (c : Ctx) (ref : Option CmdRef) : State :=
  let s := s.endOther 2
  let b := !s.upd.appRun
  let new := (s.slotOf 2 b).env.imgid
  let rb := s.sessRollback
  let s := s.acceptAct c 2 s.image.imgid new
  let s := s.updUpd fun x => { x with act := some (actNew 2 b ref [] [] false x.lm rb), appRun := b, sess := none }
  let s := { s with id := { s.id with passes := [] } }
  (s.askRestart .cold).actProgress 1

def runActivate (s : State) (c : Ctx) : Ans × State :=
  let st := s.appStatus (rd c.body 0 8)
  if st == 0 then okAns [] (s.activateApp c none) else noAns st s

def cmdActivate : Cmd :=
  { lenOk := fixed 8, resv := [], admission := fun s _ => s.id.lc.tests, run := logged runActivate }

def execActivate (mb : Nat) (s : State) : Res := .next (s.serveCmd mb 0x0502 cmdActivate)

/-! ### UPD_OPEN -/

/-- Bytes of a slot by KIND (R431). -/
def slotSize : Nat → Nat
  | 0 => 8 * 2 ^ 20
  | 1 => 4 * 2 ^ 20
  | _ => 32 * 2 ^ 20

/-- Loading is admitted (R435). -/
def LcState.loads (lc : LcState) : Bool :=
  match lc with
  | .quarantine => false
  | .retired => false
  | _ => true

def blocksOf (size : Nat) : Nat := (size + 65535) / 65536

/-- The role a KIND needs. -/
def updRole (kind : Nat) : Nat := if kind == 2 then 3 else 4

/-- The status of an UPD_OPEN: 0 where the session opens. -/
def State.updOpenStatus (s : State) (c : Ctx) : Nat :=
  let kind := rd c.body 0 1
  if 2 < kind || 1024 < rd c.body 2 2 then 0x8070
  else if s.upd.sess.isSome then 0x8020
  else if s.upd.act.isSome then 0x80B0
  else if kind == 2 && s.stage.entries.any (·.cls == 0x0D) then 0x8020
  else if slotSize kind < rd c.body 4 4 then 0x8070
  else 0

def updSessNew (id kind size session : Nat) (token : Bytes) : UpdSess :=
  { id := id, kind := kind, size := size, nblock := blocksOf size, token := token, mailSession := session, idle := 0
    part := none, checked := [], rollback := false }

def runUpdOpen (s : State) (c : Ctx) : Ans × State :=
  let st := s.updOpenStatus c
  if st != 0 then noAns st s
  else
    let kind := rd c.body 0 1
    let size := rd c.body 4 4
    let (v, s) := s.freshNat 32
    let u := updSessNew (v % (2 ^ 32 - 1) + 1) kind size c.ref.session ((c.body.drop 8).take (rd c.body 2 2))
    let b := !s.runSlot kind
    let s := s.setSlot kind b (s.slotOf kind b).invalid
    let s := (s.updUpd fun x => { x with sess := some u, state := 1 }).ctxChange c 0x30 (le 1 kind ++ le 4 size ++ le 4 u.nblock)
    okAns (le 4 u.id ++ le 4 u.nblock) s

def admitLoad (s : State) (_ : Ctx) : Bool := s.id.lc.loads

def cmdUpdOpen : Cmd :=
  { lenOk := fun b n => n == 8 + rd b 2 2, resv := [(1, 1)], least := fun _ b => updRole (rd b 0 1), admission := admitLoad
    run := logged runUpdOpen }

def execUpdOpen (mb : Nat) (s : State) : Res := .next (s.serveCmd mb 0x0601 cmdUpdOpen)

/-! ### The open session of a command -/

/-- The update session that a command's USESS names. -/
def State.updNamed (s : State) (b : Bytes) : Option UpdSess := s.upd.sess.filter fun u => u.id == rd b 0 4

/-- The role of the KIND of the update session named. -/
def updLeast (s : State) (b : Bytes) : Nat := (s.updNamed b).elim 3 fun u => updRole u.kind

/-- A command for the update session that its USESS names: NOT_FOUND for another. It counts as an update command (R438). -/
def withUpd (f : UpdSess → State → Ctx → Ans × State) (s : State) (c : Ctx) : Ans × State :=
  match s.updNamed c.body with
  | none => noAns 0x8080 s
  | some u =>
    let u := { u with idle := 0 }
    f u (s.updUpd fun x => { x with sess := some u }) c

def State.putSess (s : State) (u : UpdSess) : State := s.updUpd fun x => { x with sess := some u }

/-! ### UPD_DATA (R436) -/

/-- Bytes of block b of an image. -/
def blockLen (size nblock b : Nat) : Nat := if b + 1 < nblock then 65536 else size - 65536 * (nblock - 1)

/-- The block in progress after a part; none where the part breaks the order or overruns the block. (log 90, DEDUCED) -/
def joinPart (u : UpdSess) (b off : Nat) (data : Bytes) : Option Bytes :=
  let have_ : Bytes := match u.part with
    | some p => if p.1 == b && off != 0 then p.2 else []
    | none => []
  if off == have_.length && (have_ ++ data).length ≤ blockLen u.size u.nblock b then some (have_ ++ data) else none

/-- A slot with a checked block written; it is no longer verified. -/
def Slot.putBlock (b : Nat) (data : Bytes) (x : Slot) : Slot :=
  { x with valid := false, image := none, blocks := (x.blocks.filter fun y => !(y.1 == b)) ++ [(b, data)] }

def UpdSess.check (b : Nat) (u : UpdSess) : UpdSess :=
  { u with part := none, checked := (u.checked.filter (· != b)) ++ [b] }

def takePart (u : UpdSess) (s : State) (c : Ctx) : Ans × State :=
  let b := rd c.body 4 4
  let data := (c.body.drop 20).take (rd c.body 12 2)
  let last := rd c.body 14 2 % 2 == 1
  if s.upd.verify.isSome then noAns 0x80B0 s
  else if u.nblock ≤ b then noAns 0x8070 s
  else match joinPart u b (rd c.body 8 4) data with
    | none => noAns 0x8070 (s.putSess { u with part := none })
    | some bytes =>
      if !last then okAns [] (s.putSess { u with part := some (b, bytes) })
      else if bytes.length == blockLen u.size u.nblock b && crc32c bytes == rd c.body 16 4 then
        let i := !s.runSlot u.kind
        let s := s.setSlot u.kind i ((s.slotOf u.kind i).putBlock b bytes)
        okAns [] ((s.putSess (u.check b)).updUpd fun x => { x with state := 1 })
      else noAns 0x8070 (s.putSess { u with part := none })

def cmdUpdData : Cmd :=
  { lenOk := fun b n => n == 20 + rd b 12 2, resv := [], bits := fun b => rd b 14 2 < 2, least := updLeast
    admission := admitLoad, run := withUpd takePart }

def execUpdData (mb : Nat) (s : State) : Res := .next (s.serveCmd mb 0x0602 cmdUpdData)

/-! ### UPD_VERIFY (R437) -/

def askVerify (u : UpdSess) (s : State) (c : Ctx) : Ans × State :=
  if s.upd.verify.isSome then noAns 0x80B0 s
  else if !(List.range u.nblock).all u.checked.contains then noAns 0x8070 s
  else
    let (a, s) := s.accepted c 0
    (a, s.updUpd fun x => { x with verify := some c.ref, state := 2 })

def cmdUpdVerify : Cmd :=
  { lenOk := fixed 4, resv := [], least := updLeast, admission := admitLoad, run := logged (withUpd askVerify) }

def execUpdVerify (mb : Nat) (s : State) : Res := .next (s.serveCmd mb 0x0603 cmdUpdVerify)

/-! ### UPD_ACTIVATE (R441, R445, R446) -/

/-- Tc is too short for a lane to resynchronise in a cycle (R441). -/
def State.tcTooShort (s : State) : Bool := s.set.tc < msUp (s.image.wcet + s.image.rsyt)

/-- The order of the turns: a lane WITHDRAWN but not latched out first, in place, then A, B, C. -/
def State.turnOrder (s : State) : List Lane :=
  let first := Lane.all.filter fun l => (s.lane l).st == .withdrawn
  first ++ Lane.all.filter fun l => !first.contains l

/-- A kernel below LM: every lane on the new slot, LM its LEVEL, and a cold restart (R440). -/
def State.kernelDown (s : State) (c : Ctx) (b : Bool) (e : Envelope) : State :=
  let old := s.upd.lm
  let rb := s.sessRollback
  let s := s.acceptAct c 1 (s.slotOf 1 (!b)).env.imgid e.imgid
  let s := s.updUpd fun x => { x with act := some (actNew 1 b (some c.ref) [] Lane.all true old rb), lm := e.level, sess := none }
  (s.updLanes (LaneSt.setKslot b)).askRestart .cold

/-- The lanes take their turns. -/
def State.kernelTurns (s : State) (c : Ctx) (b : Bool) (e : Envelope) : State :=
  let rb := s.sessRollback
  let s := s.acceptAct c 1 (s.slotOf 1 (!b)).env.imgid e.imgid
  s.updUpd fun x => { x with act := some (actNew 1 b (some c.ref) s.turnOrder [] false x.lm rb), sess := none }

def runKernel (s : State) (c : Ctx) : Ans × State :=
  let b := !s.runSlot 1
  let e := (s.slotOf 1 b).env
  if e.level < s.upd.lm then
    if s.pow.restart.isSome then noAns 0x80B0 s
    else
      let (a, s) := s.accepted c 0
      (a, s.kernelDown c b e)
  else if s.tcTooShort then noAns 0x8070 s
  else
    let (a, s) := s.accepted c 0
    if Lane.all.any fun l => (s.lane l).latched then (a, s.complete c.ref 0x80B0 [])
    else (a, s.kernelTurns c b e)

/-- New service firmware: the region restarts on the new slot, once the response is out. -/
def runFirmware (s : State) (c : Ctx) : Ans × State :=
  let b := !s.upd.fwRun
  let rb := s.sessRollback
  if s.upd.act.isSome then noAns 0x80B0 s
  else
    let (a, s) := s.accepted c 0
    let s := s.acceptAct c 0 (s.slotOf 0 (!b)).env.imgid (s.slotOf 0 b).env.imgid
    (a, s.updUpd fun x => { x with act := some (actNew 0 b (some c.ref) [] [] false x.lm rb), sess := none })

def runAppImage (s : State) (c : Ctx) : Ans × State :=
  let st := s.appStatus (s.slotOf 2 (!s.upd.appRun)).env.imgid
  if st != 0 then noAns st s
  else
    let (a, s) := s.accepted c 0
    (a, s.activateApp c (some c.ref))

/-- log 91, DEDUCED. -/
def askActivate (u : UpdSess) (s : State) (c : Ctx) : Ans × State :=
  if s.upd.verify.isSome then noAns 0x80B0 s
  else if !(s.slotOf u.kind (!s.runSlot u.kind)).valid then noAns 0x8070 s
  else match u.kind with
    | 0 => runFirmware s c
    | 1 => runKernel s c
    | _ => runAppImage s c

/-- The states in which the KIND of the session named is activated: a kernel in SERVICE, a kernel and an application image where
self-tests are admitted (R440, R446). -/
def admitActivate (s : State) (c : Ctx) : Bool :=
  admitLoad s c && (s.updNamed c.body).all fun u =>
    (u.kind == 0 || s.id.lc.tests) && (u.kind != 1 || s.pow.mod == .service)

def cmdUpdActivate : Cmd :=
  { lenOk := fixed 4, resv := [], least := updLeast, admission := admitActivate, run := logged (withUpd askActivate) }

def execUpdActivate (mb : Nat) (s : State) : Res := .next (s.serveCmd mb 0x0604 cmdUpdActivate)

/-! ### UPD_ABORT, UPD_STATUS -/

def cmdUpdAbort : Cmd :=
  { lenOk := fixed 4, resv := [], least := updLeast, admission := always, run := logged (withUpd fun _ s _ => okAns [] (s.abortUpd 1)) }

def execUpdAbort (mb : Nat) (s : State) : Res := .next (s.serveCmd mb 0x0605 cmdUpdAbort)

def State.updBytes (s : State) : Bytes :=
  match s.upd.sess with
  | some u => le 4 u.id ++ le 1 u.kind ++ le 1 s.upd.state ++ zeros 2 ++ le 4 u.checked.length ++ le 4 u.nblock
  | none => zeros 4 ++ le 1 (s.upd.act.elim 0 (·.kind)) ++ le 1 s.upd.state ++ zeros 10

def cmdUpdStatus : Cmd := query 0 [] fun s _ => (0, s.updBytes)

def execUpdStatus (mb : Nat) (s : State) : Res := .next (s.serveCmd mb 0x0606 cmdUpdStatus)

end Sys2Proof.Machine
end

