-- ==== Sys2Proof/Machine/CmdRecords.lean ====
section
/-! DEFINITION. The records group of the mailbox commands: the read cursor and the recorder counters (14 R390 to R392,
R398, R405, R406, 12 R358). -/

namespace Sys2Proof.Machine

/-! ### Records as bytes -/

/-- A fault log record, 32 bytes (R390). -/
def faultBytes (x : FaultRec) : Bytes :=
  le 8 x.seq ++ le 6 x.ot ++ le 1 x.flags ++
  le 1 (x.raised % 8 + 8 * (x.applied % 8) + 64 * b2n x.conseq + 128 * b2n x.escal) ++ le 6 x.wt ++ le 2 x.parent ++ le 4 x.pc ++
  le 4 (fword x.fsid)

/-- An event record of 64 bytes or a change-log record of 128 bytes (R391). -/
def recBytes (n : Nat) (x : Rec) : Bytes :=
  padTo n (le 8 x.seq ++ le 6 x.ot ++ le 1 x.flags ++ le 1 x.kind ++ le 6 x.wt ++ le 2 x.count ++ le 4 x.pc ++ x.body)

/-- Insertion by ascending SEQ. -/
def insSeq (x : Nat × Bytes) : List (Nat × Bytes) → List (Nat × Bytes)
  | [] => [x]
  | y :: ys => if x.1 < y.1 then x :: y :: ys else y :: insSeq x ys

/-- Records in ascending SEQ. -/
def bySeq (xs : List (Nat × Bytes)) : List (Nat × Bytes) := xs.foldr insSeq []

/-- The records of a log with their SEQ; the archive reading returns the last-resort area too (R403). (log 93, DEDUCED) -/
def RecSt.recsOf (r : RecSt) : Log → List (Nat × Bytes)
  | .fault => bySeq (r.faults.map fun x => (x.seq, faultBytes x))
  | .event => bySeq (r.events.map fun x => (x.seq, recBytes 64 x))
  | .archive => bySeq ((r.archive ++ r.lrarea).map fun x => (x.seq, recBytes 64 x))
  | .change => bySeq (r.changes.map fun x => (x.seq, recBytes 128 x))

def recSize : Log → Nat
  | .fault => 32
  | .change => 128
  | _ => 64

/-- LOG codes of REC_OPEN (12 R358). -/
def logOfCode : Nat → Option Log
  | 0 => some .fault
  | 1 => some .event
  | 2 => some .change
  | 3 => some .archive
  | _ => none

/-- HWM: the highest SEQ at or below which every record of the log has been placed (R398). (log 93, DEDUCED) -/
def RecSt.hwm (r : RecSt) : Log → Nat
  | .event => ((r.queue ++ r.held).map fun x => x.2.seq - 1).foldl min r.seq
  | .archive => ((r.archive ++ r.lrarea).map (·.seq)).foldl max 0
  | _ => r.seq

/-! ### REC_OPEN, REC_NEXT, REC_CLOSE -/

/-- The SEQ of the first record at or above a SEQ, up to HWM; one beyond HWM where there is none. -/
def nextSeq (xs : List (Nat × Bytes)) (from_ hwm : Nat) : Nat :=
  ((xs.find? fun x => from_ ≤ x.1 && x.1 ≤ hwm).map (·.1)).getD (hwm + 1)

def runRecOpen (s : State) (c : Ctx) : Ans × State :=
  match logOfCode (rd c.body 0 1) with
  | none => noAns 0x8070 s
  | some log =>
    let h := s.recs.hwm log
    let n := nextSeq (s.recs.recsOf log) (rd c.body 4 8) h
    okAns (le 8 h) (s.updRecs fun r => { r with cursor := some ⟨log, c.ref.session, n, h, 0⟩ })

def cmdRecOpen : Cmd := { lenOk := fixed 12, resv := [(1, 3)], admission := always, run := runRecOpen }

def execRecOpen (mb : Nat) (s : State) : Res := .next (s.serveCmd mb 0x0701 cmdRecOpen)

/-- A batch of whole records into the recorder window, with NREC, NBYTES, LASTSEQ and END. -/
def State.nextBatch (s : State) (k : Cursor) (maxBytes : Nat) : Ans × State :=
  let all := s.recs.recsOf k.log
  let lost := k.next ≤ k.hwm && !all.any (·.1 == k.next)
  let left := all.filter fun x => k.next ≤ x.1 && x.1 ≤ k.hwm
  let batch := left.take (maxBytes / recSize k.log)
  let bytes := batch.flatMap (·.2)
  let last := (batch.getLast?.map (·.1)).getD k.lastSeen
  let ended := left.length ≤ batch.length
  let next := nextSeq all (last + 1) k.hwm
  let s := s.updRecs fun r => { r with
    window := bytes
    cursor := some { k with next := if batch.isEmpty then k.hwm + 1 else next, lastSeen := last } }
  okAns (le 4 batch.length ++ le 4 bytes.length ++ le 8 last ++ le 1 (b2n ended + 2 * b2n lost) ++ zeros 3) s

def runRecNext (s : State) (c : Ctx) : Ans × State :=
  match s.recs.cursor with
  | none => noAns 0x8080 s
  | some k =>
    let n := rd c.body 0 4
    if k.session != c.ref.session then noAns 0x8080 s
    else if 65536 < n || n < recSize k.log then noAns 0x8070 s
    else s.nextBatch k n

def cmdRecNext : Cmd := { lenOk := fixed 4, resv := [], admission := always, run := runRecNext }

def execRecNext (mb : Nat) (s : State) : Res := .next (s.serveCmd mb 0x0702 cmdRecNext)

def cmdRecClose : Cmd :=
  { lenOk := fixed 0, resv := [], admission := always, run := fun s _ => okAns [] s.closeCursor }

def execRecClose (mb : Nat) (s : State) : Res := .next (s.serveCmd mb 0x0703 cmdRecClose)

/-! ### REC_COUNTERS (R406) -/

/-- Segments as bits. (log 94, DESIGN CHOICE) -/
def segMask (xs : List Nat) : Nat := (maskOf 32 xs).toNat

def RecSt.counters (r : RecSt) : Bytes :=
  le 8 r.recin ++ le 4 r.coalcnt ++ le 4 r.dropalm ++ le 4 r.dropevt ++ le 4 r.droptrc ++ le 4 r.droprate ++
  le 4 r.droplane ++ le 4 (segMask r.segF % 256 + 256 * (segMask r.segE % 65536)) ++ le 2 r.segA.length ++
  le 2 r.segC.length ++ le 4 r.archpass ++ le 4 r.flushcnt ++ le 8 r.archseq ++ le 4 r.lrlost ++ zeros 4

def lastResBytes (x : LastRes) : Bytes := le 4 (fword x.fsid) ++ le 6 x.ot ++ le 1 1 ++ zeros 1 ++ le 4 x.seq

/-- The 16 last-resort registers of a region. -/
def RecSt.regionBytes (r : RecSt) (region : Nat) : Bytes :=
  padTo 256 ((r.lastres.filter (·.region == region)).flatMap lastResBytes)

def cmdRecCounters : Cmd :=
  query 0 [] fun s _ => (0, s.recs.counters ++ (List.range 5).flatMap s.recs.regionBytes)

def execRecCounters (mb : Nat) (s : State) : Res := .next (s.serveCmd mb 0x0704 cmdRecCounters)

end Sys2Proof.Machine
end

