-- ==== Sys2Proof/Machine/CmdTest.lean ====
section
/-! DEFINITION. The self-test group of the mailbox commands (12 R358, 15 R408, R412 to R417). -/

namespace Sys2Proof.Machine

/-! ### TEST_RUN -/

/-- R414: the states that allow a test; 0x0003 not in split mode. -/
def admitTest (s : State) (c : Ctx) : Bool :=
  s.id.lc.tests && s.pow.mod == .service && !(s.pow.split && rd c.body 0 2 == 3)

/-- R416: a lane that is ACTIVE with fewer than three ACTIVE, in RESYNC, or latched out is not tested. -/
def State.laneBusy (s : State) (id target : Nat) : Bool :=
  testTarget id == 2 &&
  (let l := laneOfNum target
   (s.isActive l && s.nActive < 3) || (s.lane l).st == .resync || (s.lane l).latched)

def testNew (id target : Nat) (r : CmdRef) (ot : Nat) : TestSt :=
  { id := id, target := target, ref := r, running := false, ended := none, abandoned := false, tookLane := false,
    asked := ot, cut := false }

/-- A test accepted. -/
def State.startTest (s : State) (t : TestSt) : State := { s with be := { s.be with test := some t } }

/-- log 95, DEDUCED. -/
def runTestRun (s : State) (c : Ctx) : Ans × State :=
  let id := rd c.body 0 2
  let target := rd c.body 2 2
  if id == 0 || 8 < id || !s.targetOk id target then noAns 0x8080 s
  else if s.be.test.isSome || s.laneBusy id target then noAns 0x80B0 s
  else match s.badQty s.be.q id target with
    | some (q, v) => ((0x8070, le 1 q ++ le 4 v), s.ctxChange c 0x22 (c.body ++ le 1 q ++ le 4 v))
    | none =>
      let (fsv, s) := s.testFsv id target
      let s := s.ctxChange c 0x20 (c.body ++ s.qtyBytes fsv)
      (s.startTest (testNew id target c.ref s.time.ot)).accepted c target

def cmdTestRun : Cmd := { lenOk := fixed 4, resv := [], admission := admitTest, run := logged runTestRun }

def execTestRun (mb : Nat) (s : State) : Res := .next (s.serveCmd mb 0x0801 cmdTestRun)

/-! ### TEST_LIST -/

/-- One test: TESTID, target kind 0 cell, 1 bank, 2 lane, 3 the module, and the stored expected value. (log 95, DEDUCED) -/
def State.testBytes (s : State) (id : Nat) : Bytes := le 2 id ++ le 1 (testTarget id) ++ zeros 1 ++ le 4 (s.expected id)

def cmdTestList : Cmd :=
  query 4 [(2, 2)] fun s c =>
    let first := rd c.body 0 2
    if 8 ≤ first then (0x8080, [])
    else (0, ((List.range 8).drop first).flatMap fun i => s.testBytes (i + 1))

def execTestList (mb : Nat) (s : State) : Res := .next (s.serveCmd mb 0x0802 cmdTestList)

/-! ### TEST_ABORT -/

/-- Is this the test accepted or running, its last measurement not ended? -/
def State.testIs (s : State) (id target : Nat) : Bool :=
  s.be.test.any fun t => t.id == id && t.target == target && !t.abandoned && t.ended.isNone

def runTestAbort (s : State) (c : Ctx) : Ans × State :=
  if s.testIs (rd c.body 0 2) (rd c.body 2 2) then okAns [] (s.abandonTest 0x80B0 2) else noAns 0x8080 s

def cmdTestAbort : Cmd := { lenOk := fixed 4, resv := [], admission := always, run := logged runTestAbort }

def execTestAbort (mb : Nat) (s : State) : Res := .next (s.serveCmd mb 0x0803 cmdTestAbort)

end Sys2Proof.Machine
end

