-- ==== Sys2Proof/Machine/CmdHedge.lean ====
section
/-! DEFINITION. HEDGE_RELEASE (10 R293, 06 R191, R198, 07 R212, R222, 08 R247, 15 R419). -/

namespace Sys2Proof.Machine

/-- Is a latched hedge of this kind and index in effect? -/
def State.latchedHedge (s : State) (k : HKind) (i : Nat) : Bool :=
  s.flt.hedges.any fun h => h.kind == k && h.index == i && h.latched

/-- The cells of an item: the group of an output cell, the cells of a bank. -/
def State.itemCells (s : State) (kind index : Nat) : List Nat :=
  match kind with
  | 1 => s.members index
  | 3 => cellsOf index
  | _ => []

/-- Has the item a latched hedge that this command lifts? (log 97, DEDUCED). -/
def State.releasable (s : State) (kind index : Nat) : Bool :=
  match kind with
  | 1 =>
    index < Config.nCells && cUsed (s.cellCfg index) &&
      ((s.members index).any (s.latchedHedge .cell) ||
        (cOut (s.cellCfg index) && (s.cellCfg index).ogroup != 0 && s.latchedHedge .group (s.cellCfg index).ogroup))
  | 2 => (s.conn? index).any (·.fault)
  | 3 => s.latchedHedge .bank index
  | 4 => s.latchedHedge .net index
  | _ => s.latchedHedge .block index && index != 0x07

/-- Is the item under the cloche? A bank is while its own test runs. -/
def State.itemUnder (s : State) (kind index : Nat) : Bool :=
  match kind with
  | 1 => (s.members index).any fun c => (s.cell c).under
  | 3 => s.be.test.any fun t => t.running && testTarget t.id == 1 && t.target == index
  | _ => false

/-- Does a release of the item run already? -/
def State.releasing (s : State) (kind index : Nat) : Bool :=
  if kind == 2 then (s.conn? index).any fun c => !c.release.isEmpty
  else s.flt.rels.any fun r => r.kind == kind && (r.index == index || (kind == 1 && r.cells.contains index))

/-- Must a self-test pass first (R419)? -/
def State.needsTest (s : State) (kind index : Nat) : Bool :=
  match kind with
  | 1 => (s.members index).any fun c => !(s.cell c).needTest.isEmpty
  | 3 => (s.bank index).needTest.isSome
  | _ => false

def CellSt.unprot (x : CellSt) : CellSt := { x with prot := false }
def BankSt.unprot (b : BankSt) : BankSt := { b with prot := false, cutoff := none }

def ConnSt.askRelease (r : CmdRef) (c : ConnSt) : ConnSt := { c with release := c.release ++ [r] }

/-- Does a release need a round: an output cell or its group; a bank hedged by 0x04 or 0x05 (R212)? -/
def State.relNeedsRound (s : State) (kind index : Nat) : Bool :=
  match kind with
  | 1 => cOut (s.cellCfg index)
  | 3 => s.flt.hedges.any fun h => h.kind == .bank && h.index == index && (h.fsid.det == 0x04 || h.fsid.det == 0x05)
  | _ => false

def State.relNew (s : State) (kind index : Nat) (r : CmdRef) : RelSt :=
  let frame := kind == 1 || kind == 3
  { kind := kind, index := index, ref := r, cells := s.itemCells kind index, inFrame := !frame, frameOk := !frame
    inRound := false, roundOk := !s.relNeedsRound kind index, failed := false }

/-- A release begins: the protection latches of the item are cleared, and its checks run. -/
def State.beginRelease (s : State) (kind index : Nat) (r : CmdRef) : State :=
  if kind == 2 then s.updConn index (ConnSt.askRelease r)
  else
    let x := s.relNew kind index r
    let s := { s with flt := { s.flt with rels := s.flt.rels ++ [x] } }
    match kind with
    | 1 => if cOut (s.cellCfg index) then s.each x.cells fun s c => s.updCell c CellSt.unprot else s
    | 3 => s.updBank index BankSt.unprot
    | _ => s

def runHedgeRelease (s : State) (c : Ctx) : Ans × State :=
  let kind := rd c.body 0 1
  let index := rd c.body 2 2
  if kind == 0 || 5 < kind then noAns 0x8070 s
  else if !s.releasable kind index then noAns 0x8080 s
  else if s.itemUnder kind index then noAns 0x8040 s
  else if s.releasing kind index then noAns 0x80B0 s
  else
    let (a, s) := s.accepted c index
    if s.needsTest kind index then (a, s.relDone kind index c.ref 0x8070)
    else (a, s.beginRelease kind index c.ref)

def cmdHedgeRelease : Cmd := { lenOk := fixed 4, resv := [(1, 1)], admission := always, run := logged runHedgeRelease }

def execHedgeRelease (mb : Nat) (s : State) : Res := .next (s.serveCmd mb 0x0901 cmdHedgeRelease)

end Sys2Proof.Machine
end

