-- ==== Sys2Proof/Machine/CmdOps.lean ====
section
/-! DEFINITION. The operations group of the mailbox commands (12 R358, R359; 09 R271). -/

namespace Sys2Proof.Machine

/-- R359: COMMISSIONING, SERVICE and BENCH, module state SERVICE, mode RUN, not a member in JOINING. -/
def admitOps (s : State) (_ : Ctx) : Bool :=
  s.id.lc.cycle && s.pow.mod == .service && s.cyc.mode == .run && s.pair.st != .joining

/-- log 98, DEDUCED. -/
def State.opsFull (s : State) : Bool := 256 ≤ s.trl.ops.length

/-- An accepted operations command goes to the lanes, in a non-pacer also to the pacer. (log 98, DEDUCED) -/
def State.queueOp (s : State) (c : Ctx) (item : Nat) (k : OpKind) : Ans × State :=
  let o : OpCmd := { ref := c.ref, kind := k }
  let s := { s with trl := { s.trl with ops := s.trl.ops ++ [o] } }
  let s := if s.pairOn && !s.pair.pacer then s.plSend (.cmdfwd (.op o)) else s
  s.accepted c item

/-- A one-step operations command on a route or element. -/
def opCmd (resv : List (Nat × Nat)) (ok : Bytes → Bool) (k : Bytes → OpKind) : Cmd :=
  { lenOk := fixed 4, resv := resv, admission := admitOps
    run := fun s c =>
      if !ok c.body then noAns 0x8070 s
      else if s.opsFull then noAns 0x80B0 s
      else s.queueOp c (rd c.body 0 2) (k c.body) }

def cmdRouteSet : Cmd := opCmd [(2, 2)] (fun _ => true) fun b => .routeSet (rd b 0 2)
def execRouteSet (mb : Nat) (s : State) : Res := .next (s.serveCmd mb 0x0A01 cmdRouteSet)

def cmdRouteCancel : Cmd := opCmd [(2, 2)] (fun _ => true) fun b => .routeCancel (rd b 0 2)
def execRouteCancel (mb : Nat) (s : State) : Res := .next (s.serveCmd mb 0x0A02 cmdRouteCancel)

def cmdAutoSet : Cmd := opCmd [(3, 1)] (fun b => rd b 2 1 ≤ 1) fun b => .autoSet (rd b 0 2) (rd b 2 1 == 1)
def execAutoSet (mb : Nat) (s : State) : Res := .next (s.serveCmd mb 0x0A03 cmdAutoSet)

def cmdTrigArm : Cmd := opCmd [(2, 2)] (fun _ => true) fun b => .trigArm (rd b 0 2)
def execTrigArm (mb : Nat) (s : State) : Res := .next (s.serveCmd mb 0x0A04 cmdTrigArm)

def cmdKeyRelease : Cmd := opCmd [(2, 2)] (fun _ => true) fun b => .keyRelease (rd b 0 2)
def execKeyRelease (mb : Nat) (s : State) : Res := .next (s.serveCmd mb 0x0A05 cmdKeyRelease)

/-! ### Two-step commands -/

/-- A second step that goes on as an operations command, or BAD_CONFIRM. -/
def State.secondOp (s : State) (c : Ctx) (window : Bool) (k : OpKind) : Ans × State :=
  if s.opsFull then noAns 0x80B0 s
  else
    let (ok, s) := s.secondStep c 4 window
    if ok then s.queueOp c (rd c.body 0 2) k else noAns 0x8004 s

def runEmergRelease (s : State) (c : Ctx) : Ans × State :=
  if c.two then s.secondOp c true (.emergRelease (rd c.body 0 2))
  else if rd c.body 4 2 != 0 then noAns 0x8070 s
  else
    let (code, s) := s.firstStep c 4
    okAns (le 2 code) s

def cmdEmergRelease : Cmd :=
  { lenOk := fixed 8, resv := [(2, 2), (6, 2)], admission := admitOps, run := runEmergRelease }

def execEmergRelease (mb : Nat) (s : State) : Res := .next (s.serveCmd mb 0x0A06 cmdEmergRelease)

/-- The first step arms the reset at the next executed start, where its CONFCODE arises; the second is judged there
too, by the reset step limit (R58). -/
def runAxleReset (s : State) (c : Ctx) : Ans × State :=
  if c.two then s.secondOp c false (.axleReset (rd c.body 0 2))
  else if rd c.body 4 2 != 0 then noAns 0x8070 s
  else if s.opsFull then noAns 0x80B0 s
  else (s.dropStep c).queueOp c (rd c.body 0 2) (.axleArm (rd c.body 0 2))

def cmdAxleReset : Cmd :=
  { lenOk := fixed 8, resv := [(2, 2), (6, 2)], admission := admitOps, run := runAxleReset }

def execAxleReset (mb : Nat) (s : State) : Res := .next (s.serveCmd mb 0x0A07 cmdAxleReset)

end Sys2Proof.Machine
end

