-- ==== Sys2Proof/Machine/CmdPair.lean ====
section
/-! DEFINITION. The time group and the pair group of the mailbox commands: TIME_SET, TIME_SOURCE (14 R387 to R389),
HANDOVER and COLD_ASSUME (09 R279, R280, R284). -/

namespace Sys2Proof.Machine

/-! ### Time -/

/-- log 100, DEDUCED. -/
def runTimeSet (s : State) (c : Ctx) : Ans × State :=
  let wt := rd c.body 0 8
  if 2 ^ 48 ≤ wt then noAns 0x8070 s
  else if s.time.source == 1 && s.time.lock then noAns 0x8050 s
  else okAns [] ((s.setWt wt 0 c.ref.cred c.ref.session c.ep c.ref.cmd).updTime fun t => { t with wtvalid := true })

def cmdTimeSet : Cmd := { lenOk := fixed 8, resv := [], admission := always, run := logged runTimeSet }

def execTimeSet (mb : Nat) (s : State) : Res := .next (s.serveCmd mb 0x0B02 cmdTimeSet)

/-- A change of source starts the slave's lock anew. (log 72, DEDUCED) -/
def TimeSt.setSource (v : Nat) (t : TimeSt) : TimeSt :=
  { t with source := v, lock := false, good := 0, synced := none, slew := 0, master := none }

def runTimeSource (s : State) (c : Ctx) : Ans × State :=
  let v := rd c.body 0 1
  if 1 < v then noAns 0x8070 s
  else if v == s.time.source then okAns [] s
  else okAns [] ((s.ctxChange c 0x11 (le 1 s.time.source ++ le 1 v)).updTime (TimeSt.setSource v))

def cmdTimeSource : Cmd := { lenOk := fixed 4, resv := [(1, 3)], admission := always, run := logged runTimeSource }

def execTimeSource (mb : Nat) (s : State) : Res := .next (s.serveCmd mb 0x0B03 cmdTimeSource)

/-! ### Pair -/

/-- log 31, DEDUCED. (log 32, DESIGN CHOICE) -/
def runHandover (s : State) (c : Ctx) : Ans × State :=
  if !s.partnerInStep || s.pair.handover.isSome then noAns 0x80B0 s
  else
    let (a, s) := s.accepted c 0
    (a, s.updPair fun p => { p with relinq := true, handover := some c.ref })

def cmdHandover : Cmd :=
  { lenOk := fixed 0, resv := [], admission := fun s _ => s.pairOn && s.pair.st == .lead, run := logged runHandover }

def execHandover (mb : Nat) (s : State) : Res := .next (s.serveCmd mb 0x0C02 cmdHandover)

/-- JOINING, or FOLLOW out of step with the partner silent. -/
def admitAssume (s : State) (_ : Ctx) : Bool :=
  s.pairOn && (s.pair.st == .joining || (s.pair.st == .followOut && s.partnerSilent))

def runColdAssume (s : State) (c : Ctx) : Ans × State :=
  if c.two then
    if s.pair.assume.isSome then noAns 0x80B0 s
    else
      let (ok, s) := s.secondStep c 0 true
      if ok then
        let (a, s) := s.accepted c 0
        (a, s.updPair fun p => { p with assume := some c.ref })
      else noAns 0x8004 s
  else if rd c.body 0 2 != 0 then noAns 0x8070 s
  else
    let (code, s) := s.firstStep c 0
    okAns (le 2 code) s

def cmdColdAssume : Cmd :=
  { lenOk := fixed 4, resv := [(2, 2)], admission := admitAssume, run := logged runColdAssume }

def execColdAssume (mb : Nat) (s : State) : Res := .next (s.serveCmd mb 0x0C03 cmdColdAssume)

end Sys2Proof.Machine
end

