-- ==== Sys2Proof/Machine/CmdBridge.lean ====
section
/-! DEFINITION. The span bridge group of the mailbox commands (13 R363, R364, R372, R376, R382). -/

namespace Sys2Proof.Machine

/-! ### Status and the posted-error log -/

/-- One window's entry of SB_STATUS: outstanding transfers, last FSTAT, completed transfers. -/
def State.windowBytes (s : State) (w : Nat) : Bytes :=
  le 1 (s.bridge.out.filter (·.win == w)).length ++ le 1 (s.window w).last ++ zeros 2 ++ le 4 (s.window w).count

def State.sbStatus (s : State) : Bytes :=
  let b := s.bridge
  le 1 b.out.length ++ le 1 ((List.range 16).filter b.slotUsed).length ++ le 1 b.held.length ++ zeros 1 ++ le 4 b.cntresv ++
    le 4 b.cntbusy ++ le 4 b.cnttout ++ le 4 b.cntlate ++ le 4 b.cntexp ++ le 4 b.cntchk ++ le 4 b.cntperr

def cmdSbStatus : Cmd := query 0 [] fun s _ => (0, s.sbStatus ++ (List.range 64).flatMap s.windowBytes)

def execSbStatus (mb : Nat) (s : State) : Res := .next (s.serveCmd mb 0x0D01 cmdSbStatus)

def postErrBytes (e : PostErr) : Bytes :=
  le 8 e.ot ++ le 8 (e.addr % 2 ^ 32) ++ le 1 e.win ++ le 1 e.fstat ++ le 2 e.fmod ++ le 2 e.len ++ zeros 2 ++ le 4 e.seq ++
    le 4 (min e.issue 0xFFFFFFFF)

def cmdSbErrlog : Cmd :=
  query 0 [] fun s _ => (0, le 4 s.bridge.pelost ++ le 4 s.bridge.log.length ++ s.bridge.log.flatMap postErrBytes)

def execSbErrlog (mb : Nat) (s : State) : Res := .next (s.serveCmd mb 0x0D02 cmdSbErrlog)

def cmdSbErrclr : Cmd :=
  { lenOk := fixed 0, resv := [], admission := always
    run := fun s _ => okAns [] (s.updBridge fun b => { b with log := [], pelost := 0 }) }

def execSbErrclr (mb : Nat) (s : State) : Res := .next (s.serveCmd mb 0x0D03 cmdSbErrclr)

/-! ### WINDOW_SET -/

/-- The descriptor of a request body from offset 4; the results of the window's completions are kept. -/
def readWindow (old : Window) (b : Bytes) : Window :=
  { old with flags := BitVec.ofNat 8 (rd b 4 1), fmod := rd b 6 2, wbase := rd b 8 4, wtout := rd b 12 2 }

/-- R363: the fields within their ranges, WBASE a multiple of 64 KiB, the far module another one, NV only on a module
that is NON-VITAL or split. (log 101, DEDUCED) -/
def State.windowOk (s : State) (w : Window) : Bool :=
  w.flags.toNat < 16 && w.fmod < 1024 && w.wbase % 65536 == 0 && 10 ≤ w.wtout && w.wtout ≤ 2000 &&
    w.fmod != s.id.modaddr && (!wNv w || s.image.role == 5 || s.pow.split)

/-- Has the window a transfer queued, in flight or held? -/
def State.windowBusy (s : State) (n : Nat) : Bool :=
  s.bridge.out.any (·.win == n) || s.bridge.held.any (·.win == n)

/-- ENABLE cleared: held results discarded, queued transfers complete with FSTAT 0x05 (R364). -/
def State.closeWindow (s : State) (n : Nat) : State :=
  let s := s.updBridge fun b => { b with held := b.held.filter (·.win != n) }
  s.each (s.bridge.out.filter fun x => x.win == n && x.sent.isNone) fun s x => s.finishXfer x 5 []

def BridgeSt.setWindow (n : Nat) (w : Window) (b : BridgeSt) : BridgeSt := { b with windows := b.windows.set n w }

/-- The descriptor that a request leaves: a set that clears ENABLE and is not in order otherwise leaves the other fields. -/
def State.takenWindow (s : State) (n : Nat) (b : Bytes) : Window :=
  let old := s.window n
  let w := readWindow old b
  if s.windowOk w then w else { old with flags := old.flags &&& 0xFE }

/-- log 101, DEDUCED. -/
def runWindowSet (s : State) (c : Ctx) : Ans × State :=
  let n := rd c.body 0 1
  let old := s.window n
  let w := readWindow old c.body
  let clears := wEnable old && !wEnable w
  if 64 ≤ n then noAns 0x8080 s
  else if !clears && !s.windowOk w then noAns 0x8030 s
  else if !clears && w != old && s.windowBusy n then noAns 0x80B0 s
  else
    let s := if clears then s.closeWindow n else s
    let s := s.ctxChange c 0x17 (le 1 n ++ slice c.body 4 16)
    okAns [] (s.updBridge (BridgeSt.setWindow n (s.takenWindow n c.body)))

def cmdWindowSet : Cmd :=
  { lenOk := fixed 20, resv := [(1, 3), (5, 1), (14, 6)], admission := always, run := logged runWindowSet }

def execWindowSet (mb : Nat) (s : State) : Res := .next (s.serveCmd mb 0x0D04 cmdWindowSet)

/-! ### TUNNEL_SET and TUNNEL_STATUS -/

def readTunnel (old : Tunnel) (b : Bytes) : Tunnel :=
  { old with
    flags := BitVec.ofNat 8 (rd b 4 1), port := rd b 5 1, fmod := rd b 6 2, ftun := rd b 8 1, tgap := rd b 9 1
    adrf := rd b 10 2, baud := rd b 12 4, turn := rd b 16 1 }

/-- The fields of a descriptor within their ranges; BAUD by MODE. -/
def tunnelRange (t : Tunnel) : Bool :=
  t.port < 4 && t.fmod < 1024 && t.ftun < 16 && 2 ≤ t.tgap && (t.adrf < 256 || t.adrf == 0xFFFF) &&
    (if tAsync t then 300 ≤ t.baud && t.baud ≤ 115200 else 9600 ≤ t.baud && t.baud ≤ 2000000)

/-- Do two enabled tunnels of one port agree: MODE, WIRE, FCS32 and BAUD; not both asynchronous, not both with ADRF
0xFFFF? -/
def tunnelsAgree (t u : Tunnel) : Bool :=
  tAsync t == tAsync u && t.flags.getLsbD 2 == u.flags.getLsbD 2 && t.flags.getLsbD 3 == u.flags.getLsbD 3 &&
    t.baud == u.baud && !tAsync t && !(t.adrf == 0xFFFF && u.adrf == 0xFFFF)

def State.tunnelOk (s : State) (n : Nat) (t : Tunnel) : Bool :=
  tunnelRange t && (!tEnable t || (s.portTunnels t.port).all fun x => x.1 == n || tunnelsAgree t x.2)

/-- A change empties the queues of the port; a new far end starts its sequence anew. -/
def Tunnel.emptied (ports : List Nat) (t : Tunnel) : Tunnel := if ports.contains t.port then { t with queue := [] } else t

/-- The receiver of a port restarted: it waits for no echo. -/
def LegacyPort.restarted (ports : List Nat) (x : LegacyPort × Nat) : LegacyPort :=
  if ports.contains x.2 then { x.1 with echo := none } else x.1

def Tunnel.joined (old t : Tunnel) : Tunnel :=
  if tEnable t && t.fmod == old.fmod && t.ftun == old.ftun then t
  else { t with up := false, heard := none, taken := none }

def runTunnelSet (s : State) (c : Ctx) : Ans × State :=
  let n := rd c.body 0 1
  let old := s.tunnel n
  let t := readTunnel old c.body
  if 16 ≤ n then noAns 0x8080 s
  else if !s.tunnelOk n t then noAns 0x8030 s
  else
    let s := s.ctxChange c 0x17 (le 1 n ++ slice c.body 4 16)
    let ports := if t == old then [] else [old.port, t.port]
    let s := { s with tunnels := s.tunnels.map (Tunnel.emptied ports), ports := s.ports.zipIdx.map (LegacyPort.restarted ports) }
    okAns [] (s.updTunnel n fun _ => if t == old then old else { Tunnel.joined old t with queue := [] })

def cmdTunnelSet : Cmd :=
  { lenOk := fixed 20, resv := [(1, 3), (17, 3)], admission := always, run := logged runTunnelSet }

def execTunnelSet (mb : Nat) (s : State) : Res := .next (s.serveCmd mb 0x0D05 cmdTunnelSet)

def tunnelBytes (t : Tunnel) : Bytes :=
  le 1 (if !tEnable t then 0 else if t.up then 2 else 1) ++ zeros 3 ++ le 4 t.nsent ++ le 4 t.nrecv ++ le 4 t.ndisc

def cmdTunnelStatus : Cmd := query 0 [] fun s _ => (0, s.tunnels.flatMap tunnelBytes)

def execTunnelStatus (mb : Nat) (s : State) : Res := .next (s.serveCmd mb 0x0D06 cmdTunnelStatus)

end Sys2Proof.Machine
end

