-- ==== Sys2Proof/Machine/CmdForce.lean ====
section
/-! DEFINITION. The force group of the mailbox commands (11 R331, R333; 12 R358). -/

namespace Sys2Proof.Machine

/-- COMMISSIONING, BENCH and every SERVICE sub-state (R333). -/
def admitForce (s : State) (_ : Ctx) : Bool := s.id.lc.cycle

/-- An accepted force command waits for the second executed start; a non-pacer also forwards it (09 R271). -/
def State.queueForce (s : State) (c : Ctx) (f : ForceCmd) : Ans × State :=
  let s := { s with stage := { s.stage with forceWait := s.stage.forceWait ++ [(⟨f, 2⟩ : ForceWait)] } }
  let s := if s.pairOn && !s.pair.pacer then s.plSend (.cmdfwd (.force f)) else s
  s.accepted c f.fid

/-- FORCE_SET proceeds while the change log is out of service (14 R404). (log 61, DEDUCED) -/
def runForceSet (s : State) (c : Ctx) : Ans × State :=
  let k := rd c.body 0 1
  if k == 0 || 4 < k then noAns 0x8070 s
  else s.queueForce c ⟨c.ref, true, k, rd c.body 1 1, rd c.body 4 4⟩

def cmdForceSet : Cmd := { lenOk := fixed 8, resv := [(2, 2)], admission := admitForce, run := runForceSet }

def execForceSet (mb : Nat) (s : State) : Res := .next (s.serveCmd mb 0x0E01 cmdForceSet)

/-- Is a force of this kind on this target in the table? -/
def State.forceStands (s : State) (kind fid : Nat) : Bool := s.stage.forces.any fun f => f.fkind == kind && f.fid == fid

def runForceClear (s : State) (c : Ctx) : Ans × State :=
  let k := rd c.body 0 1
  let fid := rd c.body 4 4
  if k == 0 || 4 < k then noAns 0x8070 s
  else if c.two then
    let (ok, s) := s.secondStep c 8 true
    if !ok then noAns 0x8004 s
    else if !s.forceStands k fid then noAns 0x8080 s
    else s.queueForce c ⟨c.ref, false, k, 0, fid⟩
  else if rd c.body 8 2 != 0 then noAns 0x8070 s
  else if !s.forceStands k fid then noAns 0x8080 s
  else
    let (code, s) := s.firstStep c 8
    okAns (le 2 code) s

def cmdForceClear : Cmd :=
  { lenOk := fixed 12, resv := [(1, 3), (10, 2)], admission := admitForce, run := logged runForceClear }

def execForceClear (mb : Nat) (s : State) : Res := .next (s.serveCmd mb 0x0E02 cmdForceClear)

def cmdForceList : Cmd :=
  query 4 [(2, 2)] fun s c =>
    let used := s.stage.forces.filter (·.fkind != 0)
    listFrom (rd c.body 0 2) 254 used.length (used.map forceBytes)

def execForceList (mb : Nat) (s : State) : Res := .next (s.serveCmd mb 0x0E03 cmdForceList)

end Sys2Proof.Machine
end

