-- ==== Sys2Proof/Machine/Switch.lean ====
section
/-! DEFINITION. The internal switches and the ring supervision of networks A and B (08 R255 to R260). -/

namespace Sys2Proof.Machine

/-- Bytes of a frame on the line: MAC header, tag, content with any IP and UDP headers, check sequence. -/
def frameLen (f : Frame) : Nat :=
  14 + (if f.vid == 0 then 0 else 4) + (match f.carriage with
    | .raw _ => (gvtBytes f.gvt).length
    | .udp _ => 28 + (gvtBytes f.gvt).length
    | .other _ d => d.length) + 4

/-- Is this module the ring manager of a network? -/
def State.manager (s : State) (n : Net) : Bool := (s.set.nets.at n).ringmode == 2

/-- Low-queue ingress of 100 Mbit/s: 12,500 bytes in a ms. -/
def lowLimit : Nat := 12500

/-- A frame arrives at an external port: learned, limited and forwarded. -/
def NetSt.forward (ot : Nat) (port2 : Bool) (f : Frame) (x : NetSt) : NetSt :=
  let port := if port2 then 2 else 1
  if !x.portOpen port2 || 1600 < frameLen f then x
  else
    let low := !highQueue f
    if low && lowLimit < x.lowbytes.sel port2 + frameLen f then x
    else
      let x := if low then { x with lowbytes := x.lowbytes.upd port2 (x.lowbytes.sel port2 + frameLen f) } else x
      let x := x.learn f.srcMac port ot
      (x.ports port f.dstMac).foldl (NetSt.queueTo f) x

/-- The switch forwards a frame in every module state while the commons are supplied. RINGTEST frames on a ring are the
ring supervision's; on a line they are GVT group frames as any other. -/
def execSwitchForwarding (net : Net) (port2 : Bool) (f : Frame) (s : State) : Res :=
  .next (
    if s.cmUp && s.netUp net && f.fcsOk && f.lengthOk && !(isGvt f && f.gvt.typ == 0xE && (s.set.nets.at net).ringmode != 0) then
      s.updNet net (NetSt.forward s.time.ot port2 f)
    else s)

/-- A learned address is aged out after 300 s. -/
def execLearnedAddressAgeing (net : Net) (mac : Nat) (s : State) : Res :=
  .next (
    s.updNet net fun x => { x with
      learned := x.learned.filter fun l => !(l.mac == mac && s.time.ot ≥ l.ot + 300000) })

/-- The link of an external port goes up or down. -/
def execEthernetLinkChange (net : Net) (port2 : Bool) (up : Bool) (s : State) : Res :=
  .next (if s.cmUp then s.updNet net fun x => { x with link := x.link.upd port2 up } else s)

/-! ### Ring supervision (R257) -/

/-- A RINGTEST GVT with the next ring test counter: RTKIND 1 test, 2 flush request. -/
def State.ringGvt (s : State) (n : Net) (kind : Nat) : Gvt :=
  withCrc (s.newGvt 0xE s.id.modaddr 0 ((s.net n).ringctr % 2 ^ 32) 0
    (bigE 1 kind ++ zeros 1 ++ bigE 2 s.id.modaddr ++ bigE 4 (wrapInc 32 (s.net n).ringctr)))

/-- The ring manager sends a RINGTEST from port 1; its counter goes on by one. -/
def State.ringSend (s : State) (n : Net) (kind : Nat) : State :=
  let f := s.frameOf n none (s.ringGvt n kind)
  s.updNet n fun x => ({ x with ringctr := wrapInc 32 x.ringctr, ringsent := some s.time.ot } : NetSt).queueTo f 1

/-- Every 2 ms the ring manager sends a RINGTEST. -/
def execRingtestSend (net : Net) (s : State) : Res :=
  .next (
    if s.manager net && s.cmUp && s.netUp net && (s.net net).ringsent.all (fun t => t + 2 ≤ s.time.ot) then s.ringSend net 1
    else s)

def NetSt.flush (x : NetSt) : NetSt := { x with learned := [] }

/-- A RINGTEST that has come back to its manager. -/
def NetSt.ringBack (ot : Nat) (x : NetSt) : NetSt :=
  let unbroken := x.ringlast.any fun t => ot < t + 6
  { x with ringlast := some ot, ringsince := if unbroken then x.ringsince.orElse fun _ => some ot else some ot }

/-- A RINGTEST arrives: the manager takes its own on port 2, a member floods it on, flushing first on a flush
request. One with this module's address and another serial number is the duplicate (01 R36). -/
def execRingtestReceived (net : Net) (port2 : Bool) (f : Frame) (s : State) : Res :=
  .next (
    let g := f.gvt
    if !s.cmUp || !s.netUp net || !(s.net net).link.sel port2 || !f.fcsOk || !f.lengthOk || g.ver != 1 || g.typ != 0xE || !s.carriageOk net f || !reservedOk g || !crcOkGvt g then s
    else if g.src.toNat == s.id.modaddr && g.serial != s.id.serial then s.duplicate
    else if s.manager net then
      if port2 && g.src.toNat == s.id.modaddr then s.updNet net (NetSt.ringBack s.time.ot) else s
    else if (s.set.nets.at net).ringmode == 1 then
      let s := if g.payload.head? == some 2 then s.updNet net NetSt.flush else s
      s.updNet net fun x => (x.learn f.srcMac (if port2 then 2 else 1) s.time.ot).queueTo f (if port2 then 1 else 2)
    else s)

/-- No RINGTEST has returned for 6 ms: port 2 is unblocked, class F1, addresses flushed, and a flush request sent. -/
def execRingBreak (net : Net) (s : State) : Res :=
  .next (
    let x := s.net net
    if s.manager net && x.blocked && s.cmUp && !(x.ringlast.any fun t => s.time.ot < t + 6) then
      let s := s.updNet net fun x => { x.flush with blocked := false, closed := false, ringsince := none }
      let s := s.collectOpen 1 3 (match net with | .a => 0x17 | .b => 0x18) 0 3 1
      s.ringSend net 2
    else s)

/-- RINGTEST frames have returned without a break for 100 ms: port 2 is blocked. -/
def execRingClose (net : Net) (s : State) : Res :=
  .next (
    let x := s.net net
    if s.manager net && !x.blocked && s.cmUp && (x.ringsince.any fun t => t + 100 ≤ s.time.ot) &&
        (x.ringlast.any fun t => s.time.ot < t + 6) then
      s.updNet net fun x => { x with blocked := true, closed := true }
    else s)

end Sys2Proof.Machine
end

