-- ==== Sys2Proof/Machine/Dispatch.lean ====
section
/-! DEFINITION. One arm for each command: its meaning, or its rejection by name. -/

namespace Sys2Proof.Machine

/-- The effect of a command on everything but the queue. -/
def exec (i : Instr) (s : State) : Host.Outcome State Fault Refusal :=
  match i with
  | .openSession mb => Sys2Proof.Machine.execOpenSession mb s
  | .auth mb => Sys2Proof.Machine.execAuth mb s
  | .close mb => Sys2Proof.Machine.execClose mb s
  | .sessionList mb => Sys2Proof.Machine.execSessionList mb s
  | .credAdd mb => Sys2Proof.Machine.execCredAdd mb s
  | .credRevoke mb => Sys2Proof.Machine.execCredRevoke mb s
  | .credList mb => Sys2Proof.Machine.execCredList mb s
  | .identity mb => Sys2Proof.Machine.execIdentity mb s
  | .cycleStatus mb => Sys2Proof.Machine.execCycleStatus mb s
  | .laneStatus mb => Sys2Proof.Machine.execLaneStatus mb s
  | .inputStatus mb => Sys2Proof.Machine.execInputStatus mb s
  | .outputStatus mb => Sys2Proof.Machine.execOutputStatus mb s
  | .connStatus mb => Sys2Proof.Machine.execConnStatus mb s
  | .elementRead mb => Sys2Proof.Machine.execElementRead mb s
  | .routeRead mb => Sys2Proof.Machine.execRouteRead mb s
  | .trellisStatus mb => Sys2Proof.Machine.execTrellisStatus mb s
  | .routeIdent mb => Sys2Proof.Machine.execRouteIdent mb s
  | .lcTransition mb => Sys2Proof.Machine.execLcTransition mb s
  | .mode mb => Sys2Proof.Machine.execMode mb s
  | .restart mb => Sys2Proof.Machine.execRestart mb s
  | .maint mb => Sys2Proof.Machine.execMaint mb s
  | .stageOpen mb => Sys2Proof.Machine.execStageOpen mb s
  | .stageWrite mb => Sys2Proof.Machine.execStageWrite mb s
  | .stageRead mb => Sys2Proof.Machine.execStageRead mb s
  | .stageDiscard mb => Sys2Proof.Machine.execStageDiscard mb s
  | .stageCheck mb => Sys2Proof.Machine.execStageCheck mb s
  | .stageApply mb => Sys2Proof.Machine.execStageApply mb s
  | .stageStatus mb => Sys2Proof.Machine.execStageStatus mb s
  | .connKey mb => Sys2Proof.Machine.execConnKey mb s
  | .imageInfo mb => Sys2Proof.Machine.execImageInfo mb s
  | .activate mb => Sys2Proof.Machine.execActivate mb s
  | .updOpen mb => Sys2Proof.Machine.execUpdOpen mb s
  | .updData mb => Sys2Proof.Machine.execUpdData mb s
  | .updVerify mb => Sys2Proof.Machine.execUpdVerify mb s
  | .updActivate mb => Sys2Proof.Machine.execUpdActivate mb s
  | .updAbort mb => Sys2Proof.Machine.execUpdAbort mb s
  | .updStatus mb => Sys2Proof.Machine.execUpdStatus mb s
  | .recOpen mb => Sys2Proof.Machine.execRecOpen mb s
  | .recNext mb => Sys2Proof.Machine.execRecNext mb s
  | .recClose mb => Sys2Proof.Machine.execRecClose mb s
  | .recCounters mb => Sys2Proof.Machine.execRecCounters mb s
  | .testRun mb => Sys2Proof.Machine.execTestRun mb s
  | .testList mb => Sys2Proof.Machine.execTestList mb s
  | .testAbort mb => Sys2Proof.Machine.execTestAbort mb s
  | .hedgeRelease mb => Sys2Proof.Machine.execHedgeRelease mb s
  | .faultStatus mb => Sys2Proof.Machine.execFaultStatus mb s
  | .escBounds mb => Sys2Proof.Machine.execEscBounds mb s
  | .hedgeList mb => Sys2Proof.Machine.execHedgeList mb s
  | .routeSet mb => Sys2Proof.Machine.execRouteSet mb s
  | .routeCancel mb => Sys2Proof.Machine.execRouteCancel mb s
  | .autoSet mb => Sys2Proof.Machine.execAutoSet mb s
  | .trigArm mb => Sys2Proof.Machine.execTrigArm mb s
  | .keyRelease mb => Sys2Proof.Machine.execKeyRelease mb s
  | .emergRelease mb => Sys2Proof.Machine.execEmergRelease mb s
  | .axleReset mb => Sys2Proof.Machine.execAxleReset mb s
  | .timeGet mb => Sys2Proof.Machine.execTimeGet mb s
  | .timeSet mb => Sys2Proof.Machine.execTimeSet mb s
  | .timeSource mb => Sys2Proof.Machine.execTimeSource mb s
  | .pairStatus mb => Sys2Proof.Machine.execPairStatus mb s
  | .handover mb => Sys2Proof.Machine.execHandover mb s
  | .coldAssume mb => Sys2Proof.Machine.execColdAssume mb s
  | .sbStatus mb => Sys2Proof.Machine.execSbStatus mb s
  | .sbErrlog mb => Sys2Proof.Machine.execSbErrlog mb s
  | .sbErrclr mb => Sys2Proof.Machine.execSbErrclr mb s
  | .windowSet mb => Sys2Proof.Machine.execWindowSet mb s
  | .tunnelSet mb => Sys2Proof.Machine.execTunnelSet mb s
  | .tunnelStatus mb => Sys2Proof.Machine.execTunnelStatus mb s
  | .forceSet mb => Sys2Proof.Machine.execForceSet mb s
  | .forceClear mb => Sys2Proof.Machine.execForceClear mb s
  | .forceList mb => Sys2Proof.Machine.execForceList mb s
  | .mailboxClaim acc mb ownkey => Sys2Proof.Machine.execMailboxClaim acc mb ownkey s
  | .mailboxRelease acc mb => Sys2Proof.Machine.execMailboxRelease acc mb s
  | .doorbellRing acc mb tag => Sys2Proof.Machine.execDoorbellRing acc mb tag s
  | .doorbellAck acc mb => Sys2Proof.Machine.execDoorbellAck acc mb s
  | .registerWrite acc addr data => Sys2Proof.Machine.execRegisterWrite acc addr data s
  | .commandResponseTimeout mb => Sys2Proof.Machine.execCommandResponseTimeout mb s
  | .mailboxAgeTimeout mb => Sys2Proof.Machine.execMailboxAgeTimeout mb s
  | .sessionIdleTimeout session => Sys2Proof.Machine.execSessionIdleTimeout session s
  | .authTimeout => Sys2Proof.Machine.execAuthTimeout s
  | .dueMark lane env => Sys2Proof.Machine.execDueMark lane env s
  | .overrunLimit => Sys2Proof.Machine.execOverrunLimit s
  | .exchangeClose forms issued comp done => Sys2Proof.Machine.execExchangeClose forms issued comp done s
  | .telegramRelease conn sc1 sc2 comp done => Sys2Proof.Machine.execTelegramRelease conn sc1 sc2 comp done s
  | .safetyCodeFailLimit => Sys2Proof.Machine.execSafetyCodeFailLimit s
  | .mcloseSend => Sys2Proof.Machine.execMcloseSend s
  | .resyncCopy lane r => Sys2Proof.Machine.execResyncCopy lane r s
  | .resyncRetry lane => Sys2Proof.Machine.execResyncRetry lane s
  | .rejoin lane => Sys2Proof.Machine.execRejoin lane s
  | .comparatorMismatch x => Sys2Proof.Machine.execComparatorMismatch x s
  | .arbitrationSelfTestDone lane core0 core1 cmp => Sys2Proof.Machine.execArbitrationSelfTestDone lane core0 core1 cmp s
  | .arbitrationSelfTestTimeout lane => Sys2Proof.Machine.execArbitrationSelfTestTimeout lane s
  | .restartCheckDone lane cmpOk bankOk => Sys2Proof.Machine.execRestartCheckDone lane cmpOk bankOk s
  | .progressTimeout lane => Sys2Proof.Machine.execProgressTimeout lane s
  | .laneStall lane => Sys2Proof.Machine.execLaneStall lane s
  | .illegalDualRailCode region block => Sys2Proof.Machine.execIllegalDualRailCode region block s
  | .cacheError lane kind => Sys2Proof.Machine.execCacheError lane kind s
  | .memoryScrubError lane found => Sys2Proof.Machine.execMemoryScrubError lane found s
  | .laneSupplyLoss lane => Sys2Proof.Machine.execLaneSupplyLoss lane s
  | .laneSupplyReturn lane => Sys2Proof.Machine.execLaneSupplyReturn lane s
  | .commonsSupplyLoss => Sys2Proof.Machine.execCommonsSupplyLoss s
  | .serviceSupplyLoss => Sys2Proof.Machine.execServiceSupplyLoss s
  | .serviceRegionReturn => Sys2Proof.Machine.execServiceRegionReturn s
  | .timebaseTrim offs => Sys2Proof.Machine.execTimebaseTrim offs s
  | .tokenOverrun => Sys2Proof.Machine.execTokenOverrun s
  | .tokenRegenerate => Sys2Proof.Machine.execTokenRegenerate s
  | .fabricGrantTimeout user => Sys2Proof.Machine.execFabricGrantTimeout user s
  | .faultEventCollected fsid => Sys2Proof.Machine.execFaultEventCollected fsid s
  | .escalation fsid => Sys2Proof.Machine.execEscalation fsid s
  | .escalationWindowExpiry fsid => Sys2Proof.Machine.execEscalationWindowExpiry fsid s
  | .laneLatchOut lane => Sys2Proof.Machine.execLaneLatchOut lane s
  | .safeCountLimit => Sys2Proof.Machine.execSafeCountLimit s
  | .eventAck lane seq => Sys2Proof.Machine.execEventAck lane seq s
  | .graceExpiry seq => Sys2Proof.Machine.execGraceExpiry seq s
  | .settleWindowEnd block pass => Sys2Proof.Machine.execSettleWindowEnd block pass s
  | .mfSelfCheck agree illegal conducting => Sys2Proof.Machine.execMfSelfCheck agree illegal conducting s
  | .duoLimit => Sys2Proof.Machine.execDuoLimit s
  | .holdLimit lane => Sys2Proof.Machine.execHoldLimit lane s
  | .moveTimeLimit elem => Sys2Proof.Machine.execMoveTimeLimit elem s
  | .provingTime elem => Sys2Proof.Machine.execProvingTime elem s
  | .clearingDelay elem => Sys2Proof.Machine.execClearingDelay elem s
  | .resetStepLimit elem => Sys2Proof.Machine.execResetStepLimit elem s
  | .closeTimeLimit elem => Sys2Proof.Machine.execCloseTimeLimit elem s
  | .openDelay elem => Sys2Proof.Machine.execOpenDelay elem s
  | .directionExchangeLimit elem => Sys2Proof.Machine.execDirectionExchangeLimit elem s
  | .settingTimeLimit route => Sys2Proof.Machine.execSettingTimeLimit route s
  | .requestLifetime route => Sys2Proof.Machine.execRequestLifetime route s
  | .approachReleaseTimer route => Sys2Proof.Machine.execApproachReleaseTimer route s
  | .overlapReleaseTimer route => Sys2Proof.Machine.execOverlapReleaseTimer route s
  | .releasingTimeout route => Sys2Proof.Machine.execReleasingTimeout route s
  | .slotMark lane stamp => Sys2Proof.Machine.execSlotMark lane stamp s
  | .testPulseStart cell on => Sys2Proof.Machine.execTestPulseStart cell on s
  | .testPulseEnd cell dropped => Sys2Proof.Machine.execTestPulseEnd cell dropped s
  | .pulseWindowEnd slot dropped recovered nextOn sxFell sxBack => Sys2Proof.Machine.execPulseWindowEnd slot dropped recovered nextOn sxFell sxBack s
  | .sxCurrentLimit cell => Sys2Proof.Machine.execSxCurrentLimit cell s
  | .inputFilterChange lane cell samples => Sys2Proof.Machine.execInputFilterChange lane cell samples s
  | .channelDisagreement lane cell => Sys2Proof.Machine.execChannelDisagreement lane cell s
  | .discrepancyFault lane cell => Sys2Proof.Machine.execDiscrepancyFault lane cell s
  | .bankSupplyTrip bank high => Sys2Proof.Machine.execBankSupplyTrip bank high s
  | .bankSupplyRecover bank => Sys2Proof.Machine.execBankSupplyRecover bank s
  | .roundMark lane => Sys2Proof.Machine.execRoundMark lane s
  | .testNotCompleted cell lane => Sys2Proof.Machine.execTestNotCompleted cell lane s
  | .testPosition bank midOk => Sys2Proof.Machine.execTestPosition bank midOk s
  | .darkStepEnd bank current => Sys2Proof.Machine.execDarkStepEnd bank current s
  | .lightStepEnd bank mids current pxOn => Sys2Proof.Machine.execLightStepEnd bank mids current pxOn s
  | .midpointStuck cell path high => Sys2Proof.Machine.execMidpointStuck cell path high s
  | .pathCurrentWithdrawn cell path => Sys2Proof.Machine.execPathCurrentWithdrawn cell path s
  | .readbackFault lane cell samples => Sys2Proof.Machine.execReadbackFault lane cell samples s
  | .externalVoltage cell => Sys2Proof.Machine.execExternalVoltage cell s
  | .overloadTrip cell cause => Sys2Proof.Machine.execOverloadTrip cell cause s
  | .clampOvertemp cell => Sys2Proof.Machine.execClampOvertemp cell s
  | .bankOvercurrent bank => Sys2Proof.Machine.execBankOvercurrent bank s
  | .feedbackMismatch lane cell => Sys2Proof.Machine.execFeedbackMismatch lane cell s
  | .frameReceived net f us => Sys2Proof.Machine.execFrameReceived net f us s
  | .skewExpiry conn peer2 => Sys2Proof.Machine.execSkewExpiry conn peer2 s
  | .oneNetworkSilent conn => Sys2Proof.Machine.execOneNetworkSilent conn s
  | .ringtestSend net => Sys2Proof.Machine.execRingtestSend net s
  | .ringtestReceived net port2 f => Sys2Proof.Machine.execRingtestReceived net port2 f s
  | .ringBreak net => Sys2Proof.Machine.execRingBreak net s
  | .ringClose net => Sys2Proof.Machine.execRingClose net s
  | .pstartReceived m us => Sys2Proof.Machine.execPstartReceived m us s
  | .mblockReceived m => Sys2Proof.Machine.execMblockReceived m s
  | .mcloseReceived m => Sys2Proof.Machine.execMcloseReceived m s
  | .preportReceived crcOk h => Sys2Proof.Machine.execPreportReceived crcOk h s
  | .cmdfwdReceived m => Sys2Proof.Machine.execCmdfwdReceived m s
  | .heartbeatReceived net f => Sys2Proof.Machine.execHeartbeatReceived net f s
  | .plLinkLoss link2 => Sys2Proof.Machine.execPlLinkLoss link2 s
  | .opticInserted link2 kind => Sys2Proof.Machine.execOpticInserted link2 kind s
  | .partnerSilent => Sys2Proof.Machine.execPartnerSilent s
  | .inStep => Sys2Proof.Machine.execInStep s
  | .leadClaimConflict => Sys2Proof.Machine.execLeadClaimConflict s
  | .joinWaitExpiry => Sys2Proof.Machine.execJoinWaitExpiry s
  | .revertHoldOff => Sys2Proof.Machine.execRevertHoldOff s
  | .pairApplyTimeout => Sys2Proof.Machine.execPairApplyTimeout s
  | .sbWrite win off data => Sys2Proof.Machine.execSbWrite win off data s
  | .sbRead win off len => Sys2Proof.Machine.execSbRead win off len s
  | .sbPostedWrite win off data => Sys2Proof.Machine.execSbPostedWrite win off data s
  | .bridgeFrameReceived net f => Sys2Proof.Machine.execBridgeFrameReceived net f s
  | .sbTransferTimeout seq => Sys2Proof.Machine.execSbTransferTimeout seq s
  | .sbBusyRetry seq => Sys2Proof.Machine.execSbBusyRetry seq s
  | .sbHeldResultExpiry vk win off len => Sys2Proof.Machine.execSbHeldResultExpiry vk win off len s
  | .legacyFrameReceived port data ending => Sys2Proof.Machine.execLegacyFrameReceived port data ending s
  | .tunnelFrameReceived net f => Sys2Proof.Machine.execTunnelFrameReceived net f s
  | .legacyTransmit tunnel => Sys2Proof.Machine.execLegacyTransmit tunnel s
  | .tunnelKeepalive tunnel => Sys2Proof.Machine.execTunnelKeepalive tunnel s
  | .tunnelDown tunnel => Sys2Proof.Machine.execTunnelDown tunnel s
  | .otCheckpoint => Sys2Proof.Machine.execOtCheckpoint s
  | .otShadowWrite => Sys2Proof.Machine.execOtShadowWrite s
  | .archiveWindowEnd => Sys2Proof.Machine.execArchiveWindowEnd s
  | .coalescingWindowEnd kind source => Sys2Proof.Machine.execCoalescingWindowEnd kind source s
  | .dropRecord => Sys2Proof.Machine.execDropRecord s
  | .logSegmentFailure log segment => Sys2Proof.Machine.execLogSegmentFailure log segment s
  | .ptpSync offsetUs master => Sys2Proof.Machine.execPtpSync offsetUs master s
  | .ptpUnlock => Sys2Proof.Machine.execPtpUnlock s
  | .stageCheckDone differs => Sys2Proof.Machine.execStageCheckDone differs s
  | .updVerifyDone => Sys2Proof.Machine.execUpdVerifyDone s
  | .updateSessionTimeout => Sys2Proof.Machine.execUpdateSessionTimeout s
  | .laneTurn lane => Sys2Proof.Machine.execLaneTurn lane s
  | .kernelLoadDone lane => Sys2Proof.Machine.execKernelLoadDone lane s
  | .levelSwitch => Sys2Proof.Machine.execLevelSwitch s
  | .imageConfirmed => Sys2Proof.Machine.execImageConfirmed s
  | .testComplete codes => Sys2Proof.Machine.execTestComplete codes s
  | .preconditionCheck q => Sys2Proof.Machine.execPreconditionCheck q s
  | .oscillatorMeasurement offset => Sys2Proof.Machine.execOscillatorMeasurement offset s
  | .tamperSwitchOpen => Sys2Proof.Machine.execTamperSwitchOpen s
  | .sealLoopCheck intact => Sys2Proof.Machine.execSealLoopCheck intact s
  | .powerFailWarning => Sys2Proof.Machine.execPowerFailWarning s
  | .powerReturn => Sys2Proof.Machine.execPowerReturn s
  | .powerUp env kaFed offMs => Sys2Proof.Machine.execPowerUp env kaFed offMs s
  | .bootRestart kind env => Sys2Proof.Machine.execBootRestart kind env s
  | .laneBootSelfTestDone lane pass => Sys2Proof.Machine.execLaneBootSelfTestDone lane pass s
  | .syncTimeout => Sys2Proof.Machine.execSyncTimeout s
  | .inputLoss second => Sys2Proof.Machine.execInputLoss second s
  | .inputRestored second => Sys2Proof.Machine.execInputRestored second s
  | .addressPlugPoll plug => Sys2Proof.Machine.execAddressPlugPoll plug s
  | .thermalWarning => Sys2Proof.Machine.execThermalWarning s
  | .thermalTrip => Sys2Proof.Machine.execThermalTrip s
  | .resetButtonRelease ms => Sys2Proof.Machine.execResetButtonRelease ms s
  | .resetButtonStuck => Sys2Proof.Machine.execResetButtonStuck s
  | .buttonContactDisagree => Sys2Proof.Machine.execButtonContactDisagree s
  | .buttonReenable => Sys2Proof.Machine.execButtonReenable s
  | .unpoweredEnclosureOpening => Sys2Proof.Machine.execUnpoweredEnclosureOpening s
  | .bootSelfTestTimeout lane => Sys2Proof.Machine.execBootSelfTestTimeout lane s
  | .postActivationTimeout => Sys2Proof.Machine.execPostActivationTimeout s
  | .thermalWarningCleared => Sys2Proof.Machine.execThermalWarningCleared s
  | .bootTemperatureInRange => Sys2Proof.Machine.execBootTemperatureInRange s
  | .withdrawalWindowExpiry lane => Sys2Proof.Machine.execWithdrawalWindowExpiry lane s
  | .safeCountWindowExpiry => Sys2Proof.Machine.execSafeCountWindowExpiry s
  | .plLinkReturn link2 => Sys2Proof.Machine.execPlLinkReturn link2 s
  | .ethernetLinkChange net port2 up => Sys2Proof.Machine.execEthernetLinkChange net port2 up s
  | .switchForwarding net port2 f => Sys2Proof.Machine.execSwitchForwarding net port2 f s
  | .learnedAddressAgeing net mac => Sys2Proof.Machine.execLearnedAddressAgeing net mac s

end Sys2Proof.Machine
end

