-- ==== Sys2Proof/Machine/Tick.lean ====
section
/-! DEFINITION. One millisecond of operating time: what runs by itself while no command waits. The queue of commands
holds every event that a rule names; the counters between those events advance here (assumption 1). -/

namespace Sys2Proof.Machine

/-! ### What the module sent in the ms before -/

/-- Frames of the egress queues of a network, high queue first, leaving by the external ports (08 R256). -/
def NetSt.leaving (x : NetSt) : List Egress :=
  let out := x.egress.filter (·.port != 0)
  out.filter (·.high) ++ out.filter (!·.high)

def NetSt.emptied (x : NetSt) : NetSt := { x with egress := [], lowbytes := .both 0 }

/-- The outputs of the ms before are gone; frames that were queued at the switches leave; inbound bridge transfers have
completed (13 R373). -/
def State.clearOut (s : State) : State :=
  { s with
    netTx := (s.net .a).leaving.map (fun f => (Net.a, f)) ++ (s.net .b).leaving.map (fun f => (Net.b, f))
    legacyTx := []
    plTx := []
    nets := ⟨(s.nets.fst).emptied, (s.nets.snd).emptied⟩
    mail := { s.mail with replies := [], notifies := [], alert := 0 }
    bridge := { s.bridge with
      done := s.bridge.done.filter fun d => d.ini == .vk
      inslots := List.replicate 16 none } }

/-! ### Time (14 R383, R387, R388) -/

/-- The step of WT in a ms: slewing removes 1 ms in 2,000 ms at most, ±500 ppm. -/
def TimeSt.tick (t : TimeSt) : TimeSt :=
  let ot := t.ot + 1
  let slewing := t.source == 1 && ot % 2000 == 0
  let up := slewing && 1000 ≤ t.slew
  let down := slewing && t.slew ≤ -1000
  { t with
    ot := ot
    wt := (t.wt + (if up then 2 else if down then 0 else 1)) % 2 ^ 48
    slew := if up then t.slew - 1000 else if down then t.slew + 1000 else t.slew }

/-- A lane's timebase: 10,000 ticks of 0.1 µs (01 R30). -/
def LaneSt.tick (x : LaneSt) : LaneSt := { x with tb := (x.tb + 10000) % 2 ^ 64 }

/-- The ticks of the channels that fall in the ms now ending: each 1 ms after the one before or after the slot start
(06 R181). -/
def State.tickCells (s : State) : State :=
  if s.pow.on && s.frame.tickAt < s.time.ot * 1000 then
    let s := s.cellTick
    { s with frame := { s.frame with tickAt := max (s.frame.tickAt + 1000) (s.time.ot * 1000) } }
  else s

/-- DUOELAP and HOLDELAP (05 R171, 04 R137). -/
def State.tickCycle (s : State) : State :=
  let duo := s.cycling && s.nActive == 2
  { s with cyc := { s.cyc with
      duoelap := if duo then s.cyc.duoelap + 1 else s.cyc.duoelap
      holdelap := if s.cyc.mode == .hold then (s.time.ot - s.cyc.holdstart) / 10 else s.cyc.holdelap } }

/-! ### Mailboxes, sessions, updates (12 R348, R354, R355; 16 R438, R448) -/

def Mbox.tick (b : Mbox) : Mbox :=
  if b.st == .free then b else { b with age := satInc 32 b.age }

def Sess.tick (x : Sess) : Sess := { x with idle := x.idle + 1 }
def Prov.tick (p : Prov) : Prov := { p with age := p.age + 1 }
def Endpoint.tick (e : Endpoint) : Endpoint := { e with idle := e.idle + 1 }
def UpdSess.tick (u : UpdSess) : UpdSess := { u with idle := u.idle + 1 }
def ActSt.tick (a : ActSt) : ActSt := { a with age := a.age + 1 }

def MailSt.tick (m : MailSt) : MailSt :=
  { m with
    boxes := m.boxes.map Mbox.tick
    sessions := m.sessions.map Sess.tick
    prov := m.prov.map Prov.tick
    eps := m.eps.map Endpoint.tick }

def UpdSt.tick (u : UpdSt) : UpdSt := { u with sess := u.sess.map UpdSess.tick, act := u.act.map ActSt.tick }

/-! ### Recording (14 R399, R402) -/

/-- The rate counts start anew at each whole second; RC takes 50 records in a ms. -/
def State.tickRecs (s : State) : State :=
  let s := if s.time.ot % 1000 == 0 then s.updRecs fun r => { r with rates := [] } else s
  s.drain 50

/-! ### A firmware activation (16 R441) -/

def ActSt.begun (a : ActSt) : ActSt := { a with switched := true, age := 0 }

/-- The service region restarts on the new firmware. -/
def State.restartFw (s : State) : State :=
  if s.upd.act.any fun a => a.kind == 0 && !a.switched && !a.back then
    let s := (s.abandonTest 0x80B0 9).switchFw.serviceDown false
    let s := { s with flt := { s.flt with svrst := true } }
    (s.updAct ActSt.begun).actProgress 1
  else s

/-- One ms. Nothing runs in a module without power; without the commons supply only what it had sent goes. -/
def tick (s : State) : State :=
  if !s.pow.on then s
  else
    let s := s.clearOut
    if !s.pow.commons then s
    else
      let s := { s with time := s.time.tick, lanes := s.lanes.map LaneSt.tick, mail := s.mail.tick, upd := s.upd.tick }
      s.tickCycle.tickCells.tickRecs.restartFw

end Sys2Proof.Machine
end

