-- ==== Sys2Proof/Machine/Step.lean ====
section
/-! DEFINITION. One step of the block: the command at the front of the queue, or, on an empty queue, one
millisecond of operating time. -/

namespace Sys2Proof.Machine

/-- The command at the front runs on the state with the queue's rest; an empty queue is a tick of 1 ms of OT
(assumption 1). -/
def step (s : State) : Host.Outcome State Fault Refusal :=
  match s.pending with
  | [] => .next (tick s)
  | c :: rest => exec c { s with pending := rest }

/-- s with the command that a word spells put at the front of its queue. The opcode table gives no row any
bits, so a word spells none and s is unchanged. (log 11, DESIGN CHOICE) -/
def State.withFetchWord (s : State) (nbits w : Nat) : State :=
  match decodeTableWord nbits w with
  | some c => { s with pending := c :: s.pending }
  | none => s

end Sys2Proof.Machine
end

