-- ==== Sys2Proof/Safety.lean ====
section
/-! DEFINITION. What the statements speak of: the invariants of the block, its fixed identity, an admitted mailbox
request and its answer. -/

namespace Sys2Proof.Machine

/-! ### Invariants -/

/-- No output is driven where the spec takes it away: a cell in warm-up (07 R223), and every cell while the safe state
is latched (10 R302), has its effective drive off. The module has 48 cells (00). -/
def State.offOk (s : State) : Prop :=
  s.cells.length = 48 ∧ ∀ x ∈ s.cells, x.warm = true ∨ s.flt.safelatch = true → x.eff = false

/-- The potting bench (13 R365). -/
def State.bench (s : State) : List Host.Cell := s.bridge.bench

/-- The potting bench is in canonical form and lies within its 64 KiB (13 R365). -/
def benchWf (b : List Host.Cell) : Prop := Memory.wf b = true ∧ ∀ c ∈ b, c.1 < 0x10000

def State.benchOk (s : State) : Prop := benchWf s.bench

/-- What no command but POWER_UP changes: the queue, the operating time, and the identity that manufacture sets. -/
def State.fixed (s : State) : List Instr × Nat × Bytes × Nat × Nat × Duo (Duo Nat) :=
  (s.pending, s.time.ot, s.id.partno, s.id.serial, s.id.hwrev, s.id.macs)

/-- What only a change of credentials, a confirmed image, a tamper event or a life-cycle transition changes: the
credentials (12 R356), the rollback floors (16 R432) and the tamper latch with its time (15 R428, R429). -/
def State.guard (s : State) : List Cred × (Nat × Nat × Nat) × Bool × Nat × Bool :=
  (s.id.creds, s.upd.rbfloor, s.be.tamper, s.be.tamperWt, s.be.tamperWtOk)

/-- The running application: its image, its declared data, the requests and commands that wait for it, and the fault
collectors' watch over its routes in RELEASING. -/
def State.appl (s : State) : Image × AppSt × TrellisSt × List RelWatch := (s.image, s.app, s.trl, s.flt.watch)

/-- The module is in SAFE or TERMINAL (10 R302, R305). -/
def State.stop (s : State) : Prop := s.pow.mod = .safe ∨ s.pow.mod = .terminal

/-- The module is in TERMINAL (10 R305). -/
def State.term (s : State) : Prop := s.pow.mod = .terminal

/-! ### Mailbox requests -/

/-- The request of mailbox mb is the oldest posted one, carries this command, and passes every check of 12 R351; x is
what the command's own part sees of it. -/
def Admitted (s : State) (mb code : Nat) (c : Cmd) (x : Ctx) : Prop :=
  s.serving = true ∧ s.nextBox = some mb ∧ (s.box mb).st = .posted ∧ (reqOf (s.box mb)).cmd = code ∧
  ∃ k, cmdRow? code = some k ∧ s.checkReq mb k c (reqOf (s.box mb)) = .ok x

/-- The mailbox RUNNING while its request is carried out (12 R348); a transfer of higher priority that waited has been granted
(01 R21). -/
def State.taken (s : State) (mb : Nat) : State := (s.grantFirst .service).updBox mb fun b => { b with st := .running }

/-- The command leaves s', with this first response in mailbox mb; posted requests that no command takes, now at the
head of the queue, are answered after it. -/
def Answers (i : Instr) (s : State) (mb status : Nat) (body : Bytes) (s' : State) : Prop :=
  exec i s = .next ((s'.respond mb status body).answerBad 16)

/-- A command that has answered ACCEPTED stays open until its completion (12 R352). -/
def State.opens (s : State) (r : CmdRef) (item : Nat) : State :=
  { s with mail := { s.mail with opened := s.mail.opened ++ [⟨r, item, 0, 0⟩] } }

/-- An update command has named the open update session u: its idle time starts anew (16 R438). -/
def State.usedUpd (s : State) (u : UpdSess) : State :=
  { s with upd := { s.upd with sess := some { u with idle := 0 } } }

/-- A command that only reads: its answer stands in the mailbox, DONE (FREE where its owner's last session has ended since
the doorbell, R348), and nothing but the mailboxes and the queue of
posted requests has changed, a waiting transfer of higher priority having been granted first (01 R21). -/
def Reads (i : Instr) (s : State) (mb status : Nat) (body : Bytes) : Prop :=
  ∃ t, exec i s = .next t ∧
    t = { s.grantFirst .service with mail := { s.mail with boxes := t.mail.boxes, order := t.mail.order } } ∧
    ((s.box mb).orphan = false → (t.box mb).st = .done ∧ (t.box mb).status = status ∧
      (t.box mb).resp = respBytes (reqOf (s.box mb)) status body) ∧
    ((s.box mb).orphan = true → (t.box mb).st = .free)

/-- A read of `count` items from `first` out of `total`, at most `most` at a time: the items, in order; NOT_FOUND beyond
the last, CHECK_FAIL for a count outside the bounds. -/
def ReadsWindow (i : Instr) (s : State) (mb first count total most : Nat) (item : Nat → Bytes) : Prop :=
  (first + count ≤ total → 1 ≤ count → count ≤ most → Reads i s mb 0 ((List.range count).flatMap fun k => item (first + k))) ∧
  (total < first + count → Reads i s mb 0x8080 []) ∧
  (first + count ≤ total → count = 0 ∨ most < count → Reads i s mb 0x8070 [])

/-- A read of a list from position `first`, at most `most` entries: the list's length, how many follow, and they;
NOT_FOUND beyond the last. -/
def ReadsList (i : Instr) (s : State) (mb first most : Nat) (items : List Bytes) : Prop :=
  (first < items.length ∨ first = 0 ∧ items = [] →
    Reads i s mb 0 (le 2 items.length ++ le 2 ((items.drop first).take most).length ++ ((items.drop first).take most).flatten)) ∧
  (items.length ≤ first → first ≠ 0 → Reads i s mb 0x8080 [])

/-! ### The commands of the mailboxes -/

/-- Commands of the session, identity and life-cycle groups: the row's command, its CMD, and what checks and carries out its request. -/
def mailRows1 : List ((Nat → Instr) × Nat × Cmd) :=
  [(.openSession, 0x0101, cmdOpen),
   (.auth, 0x0102, cmdAuth),
   (.close, 0x0103, cmdClose),
   (.sessionList, 0x0104, cmdSessionList),
   (.credAdd, 0x0105, cmdCredAdd),
   (.credRevoke, 0x0106, cmdCredRevoke),
   (.credList, 0x0107, cmdCredList),
   (.identity, 0x0201, cmdIdentity),
   (.cycleStatus, 0x0202, cmdCycleStatus),
   (.laneStatus, 0x0203, cmdLaneStatus),
   (.inputStatus, 0x0204, cmdInputStatus),
   (.outputStatus, 0x0205, cmdOutputStatus),
   (.connStatus, 0x0206, cmdConnStatus),
   (.elementRead, 0x0207, cmdElementRead),
   (.routeRead, 0x0208, cmdRouteRead),
   (.trellisStatus, 0x0209, cmdTrellisStatus),
   (.routeIdent, 0x020A, cmdRouteIdent),
   (.lcTransition, 0x0301, cmdLcTransition),
   (.mode, 0x0302, cmdMode),
   (.restart, 0x0303, cmdRestart),
   (.maint, 0x0304, cmdMaint)]

/-- Commands of the stage, image, update groups: the row's command, its CMD, and what checks and carries out its request. -/
def mailRows2 : List ((Nat → Instr) × Nat × Cmd) :=
  [(.stageOpen, 0x0401, cmdStageOpen),
   (.stageWrite, 0x0402, cmdStageWrite),
   (.stageRead, 0x0403, cmdStageRead),
   (.stageDiscard, 0x0404, cmdStageDiscard),
   (.stageCheck, 0x0405, cmdStageCheck),
   (.stageApply, 0x0406, cmdStageApply),
   (.stageStatus, 0x0407, cmdStageStatus),
   (.connKey, 0x0408, cmdConnKey),
   (.imageInfo, 0x0501, cmdImageInfo),
   (.activate, 0x0502, cmdActivate),
   (.updOpen, 0x0601, cmdUpdOpen),
   (.updData, 0x0602, cmdUpdData),
   (.updVerify, 0x0603, cmdUpdVerify),
   (.updActivate, 0x0604, cmdUpdActivate),
   (.updAbort, 0x0605, cmdUpdAbort),
   (.updStatus, 0x0606, cmdUpdStatus)]

/-- Commands of the records, tests, faults, operations groups: the row's command, its CMD, and what checks and carries out its request. -/
def mailRows3 : List ((Nat → Instr) × Nat × Cmd) :=
  [(.recOpen, 0x0701, cmdRecOpen),
   (.recNext, 0x0702, cmdRecNext),
   (.recClose, 0x0703, cmdRecClose),
   (.recCounters, 0x0704, cmdRecCounters),
   (.testRun, 0x0801, cmdTestRun),
   (.testList, 0x0802, cmdTestList),
   (.testAbort, 0x0803, cmdTestAbort),
   (.hedgeRelease, 0x0901, cmdHedgeRelease),
   (.faultStatus, 0x0902, cmdFaultStatus),
   (.escBounds, 0x0903, cmdEscBounds),
   (.hedgeList, 0x0904, cmdHedgeList),
   (.routeSet, 0x0A01, cmdRouteSet),
   (.routeCancel, 0x0A02, cmdRouteCancel),
   (.autoSet, 0x0A03, cmdAutoSet),
   (.trigArm, 0x0A04, cmdTrigArm),
   (.keyRelease, 0x0A05, cmdKeyRelease),
   (.emergRelease, 0x0A06, cmdEmergRelease),
   (.axleReset, 0x0A07, cmdAxleReset)]

/-- Commands of the time, pair, bridge, force groups: the row's command, its CMD, and what checks and carries out its request. -/
def mailRows4 : List ((Nat → Instr) × Nat × Cmd) :=
  [(.timeGet, 0x0B01, cmdTimeGet),
   (.timeSet, 0x0B02, cmdTimeSet),
   (.timeSource, 0x0B03, cmdTimeSource),
   (.pairStatus, 0x0C01, cmdPairStatus),
   (.handover, 0x0C02, cmdHandover),
   (.coldAssume, 0x0C03, cmdColdAssume),
   (.sbStatus, 0x0D01, cmdSbStatus),
   (.sbErrlog, 0x0D02, cmdSbErrlog),
   (.sbErrclr, 0x0D03, cmdSbErrclr),
   (.windowSet, 0x0D04, cmdWindowSet),
   (.tunnelSet, 0x0D05, cmdTunnelSet),
   (.tunnelStatus, 0x0D06, cmdTunnelStatus),
   (.forceSet, 0x0E01, cmdForceSet),
   (.forceClear, 0x0E02, cmdForceClear),
   (.forceList, 0x0E03, cmdForceList)]

/-- The 70 commands of the mailboxes (12 R358). -/
def mailRows : List ((Nat → Instr) × Nat × Cmd) := mailRows1 ++ mailRows2 ++ mailRows3 ++ mailRows4

end Sys2Proof.Machine
end

