-- ==== Sys2Proof/Certificates/Slice0/Obligations.lean ====
section
/-! DEFINITION. The statements about the WV4810: what each command does from every state in which its rules let it
execute, what every step keeps, and the rules of single functions. `Config.openDet k` is a detector number that the
manual leaves open (log 6), `Config.openClass k` a fault class (log 7), `State.free` the counter of free values (log 5). -/

open Sys2Proof Sys2Proof.Machine

/-! ### Mailbox commands that only read -/

/-- 12 R358 (*Session*, *Identity and status*, *Image*, *Pair*, *Fault*, *Time* groups): each command without a body that
only reads completes with status 0 and the block it names, and leaves everything but the mailboxes as it was. -/
def Obligations.StatusCommandsReadOnly : Prop :=
  ∀ (s : State) (mb : Nat) (x : Ctx),
    (Admitted s mb 0x0104 cmdSessionList x → Reads (.sessionList mb) s mb 0
      (le 4 s.mail.sessions.length ++ s.mail.sessions.flatMap sessBytes)) ∧
    (Admitted s mb 0x0201 cmdIdentity x → Reads (.identity mb) s mb 0
      (slice s.identBytes 0 32 ++ perLane s.kernelBytes ++ zeros 2)) ∧
    (Admitted s mb 0x0202 cmdCycleStatus x → Reads (.cycleStatus mb) s mb 0 s.cycleBytes) ∧
    (Admitted s mb 0x0203 cmdLaneStatus x → Reads (.laneStatus mb) s mb 0 s.laneBytes) ∧
    (Admitted s mb 0x0209 cmdTrellisStatus x → Reads (.trellisStatus mb) s mb 0 (trellisBytes s.app.trellis)) ∧
    (Admitted s mb 0x0501 cmdImageInfo x → Reads (.imageInfo mb) s mb 0
      ((if s.image.imgid = 0 ∧ s.image.role = 0 then zeros 64 else imageInfo s.image) ++ s.idleInfo)) ∧
    (Admitted s mb 0x0902 cmdFaultStatus x → Reads (.faultStatus mb) s mb 0
      (le 4 s.faultWord ++ le 4 s.flt.alarmcnt ++ s.faultSettings)) ∧
    (Admitted s mb 0x0904 cmdHedgeList x → Reads (.hedgeList mb) s mb 0
      (le 2 (distinctHedges (s.flt.hedges ++ s.groupHedges)).length ++ zeros 2 ++
        ((distinctHedges (s.flt.hedges ++ s.groupHedges)).take 509).flatMap hedgeBytes)) ∧
    (Admitted s mb 0x0B01 cmdTimeGet x → Reads (.timeGet mb) s mb 0
      (le 8 s.time.ot ++ le 4 s.time.pc ++ le 1 (b2n s.time.wtvalid) ++ le 1 s.time.source ++ zeros 2 ++ le 8 s.time.wt)) ∧
    (Admitted s mb 0x0C01 cmdPairStatus x → Reads (.pairStatus mb) s mb 0
      (padTo 64 (healthBytes le s.ownReport) ++ padTo 64 (s.pair.partner.elim [] (healthBytes le)) ++
        le 1 (b2n s.partnerSeen) ++ zeros 3))

/-- 12 R358: the same for the stage, update, records and bridge groups. -/
def Obligations.GroupStatusReadOnly : Prop :=
  ∀ (s : State) (mb : Nat) (x : Ctx),
    (Admitted s mb 0x0407 cmdStageStatus x → Reads (.stageStatus mb) s mb 0 s.stageBytes) ∧
    (Admitted s mb 0x0606 cmdUpdStatus x → Reads (.updStatus mb) s mb 0 s.updBytes) ∧
    (Admitted s mb 0x0704 cmdRecCounters x → Reads (.recCounters mb) s mb 0
      (s.recs.counters ++ (List.range 5).flatMap s.recs.regionBytes)) ∧
    (Admitted s mb 0x0D01 cmdSbStatus x → Reads (.sbStatus mb) s mb 0
      (s.sbStatus ++ (List.range 64).flatMap s.windowBytes)) ∧
    (Admitted s mb 0x0D02 cmdSbErrlog x → Reads (.sbErrlog mb) s mb 0
      (le 4 s.bridge.pelost ++ le 4 s.bridge.log.length ++ s.bridge.log.flatMap postErrBytes)) ∧
    (Admitted s mb 0x0D06 cmdTunnelStatus x → Reads (.tunnelStatus mb) s mb 0 (s.tunnels.flatMap tunnelBytes))

/-- 12 R351, R358: a command that reads a window of numbered items, or a list from a position, returns exactly those
items; it answers NOT_FOUND beyond the last and CHECK_FAIL for a count out of bounds, and changes nothing but the
mailboxes. STAGE_READ is for the session that holds the cold frame. -/
def Obligations.ListCommandsReadOnly : Prop :=
  ∀ (s : State) (mb : Nat) (x : Ctx),
    (Admitted s mb 0x0204 cmdInputStatus x →
      ReadsWindow (.inputStatus mb) s mb (rd x.body 0 1) (rd x.body 1 1) 48 48
        fun n => slice (s.mail.inStat.getD s.inLive) (8 * n) 8) ∧
    (Admitted s mb 0x0205 cmdOutputStatus x →
      ReadsWindow (.outputStatus mb) s mb (rd x.body 0 1) (rd x.body 1 1) 48 48
        fun n => slice (s.mail.outStat.getD s.outLive) (8 * n) 8) ∧
    (Admitted s mb 0x0206 cmdConnStatus x → rd x.body 0 1 = 0 → Reads (.connStatus mb) s mb 0x8070 []) ∧
    (Admitted s mb 0x0206 cmdConnStatus x → rd x.body 0 1 ≠ 0 →
      ReadsWindow (.connStatus mb) s mb (rd x.body 0 1) (rd x.body 1 1) 256 85
        fun n => ((s.mail.connStat.getD s.connLive).find? (·.1 == n)).elim connNone (·.2)) ∧
    (Admitted s mb 0x0207 cmdElementRead x →
      ReadsWindow (.elementRead mb) s mb (rd x.body 0 2) (rd x.body 2 2) 4096 63
        fun n => ((s.mail.elemStat.getD s.app.elems).find? (·.num == n)).elim (zeros 64) elemBytes) ∧
    (Admitted s mb 0x0208 cmdRouteRead x →
      ReadsWindow (.routeRead mb) s mb (rd x.body 0 2) (rd x.body 2 2) 2048 63 fun n => routeBytes (s.cellRec n)) ∧
    (Admitted s mb 0x020A cmdRouteIdent x →
      ReadsWindow (.routeIdent mb) s mb (rd x.body 0 2) (rd x.body 2 2) s.image.routes.length 500
        fun n => (s.image.routes[n]?).elim (zeros 8) identOf) ∧
    (Admitted s mb 0x0903 cmdEscBounds x →
      ReadsList (.escBounds mb) s mb (rd x.body 0 2) 254 (detTable.map detBytes)) ∧
    (Admitted s mb 0x0E03 cmdForceList x →
      ReadsList (.forceList mb) s mb (rd x.body 0 2) 254 ((s.stage.forces.filter (·.fkind != 0)).map forceBytes)) ∧
    (Admitted s mb 0x0107 cmdCredList x →
      Reads (.credList mb) s mb 0 (le 1 (s.id.creds.drop (rd x.body 0 1)).length ++ zeros 3 ++
        (s.id.creds.drop (rd x.body 0 1)).flatMap credBytes)) ∧
    (Admitted s mb 0x0802 cmdTestList x → rd x.body 0 2 < 8 →
      Reads (.testList mb) s mb 0 (((List.range 8).drop (rd x.body 0 2)).flatMap fun i => s.testBytes (i + 1))) ∧
    (Admitted s mb 0x0802 cmdTestList x → 8 ≤ rd x.body 0 2 → Reads (.testList mb) s mb 0x8080 []) ∧
    (Admitted s mb 0x0403 cmdStageRead x →
      (s.stage.owner = 0 → Reads (.stageRead mb) s mb 0x8030 []) ∧
      (s.stage.owner ≠ 0 → s.stage.owner ≠ x.ref.session → Reads (.stageRead mb) s mb 0x8020 []) ∧
      (s.stage.owner ≠ 0 → s.stage.owner = x.ref.session → rd x.body 2 2 = 0 ∨ 101 < rd x.body 2 2 →
        Reads (.stageRead mb) s mb 0x8070 [])) ∧
    (Admitted s mb 0x0403 cmdStageRead x → s.stage.owner = x.ref.session → s.stage.owner ≠ 0 →
      1 ≤ rd x.body 2 2 → rd x.body 2 2 ≤ 101 →
      Reads (.stageRead mb) s mb 0 (((s.stage.entries.drop (rd x.body 0 2)).take (rd x.body 2 2)).flatMap shownEntry))

/-! ### Mailbox commands with an effect -/

/-- 12 R353 to R356: the session commands. OPEN makes a provisional session, in place of any before it (log 83), for a credential that the life cycle admits;
AUTH turns it into a session when the request carries a valid tag and the credential's signature, and discards it
otherwise; CLOSE ends the calling session; CRED_ADD and CRED_REVOKE change the credentials and are recorded. -/
def Obligations.SessionCommandsComplete : Prop :=
  ∀ (s : State) (mb : Nat) (x : Ctx),
    (Admitted s mb 0x0101 cmdOpen x → ∀ k, s.cred? (rd x.body 0 4) = some k → s.id.lc.session k.role = true →
      s.mail.sessions.length < 8 →
      ∃ (p : Prov) (d : State), d = { s.taken mb with free := s.free + 34 } ∧
        Answers (.openSession mb) s mb 0 (le 4 p.id ++ p.chal ++ p.modkey ++ zeros 3)
          { d with mail := { d.mail with prov := some p } } ∧
        p.cred = k.id ∧ p.ep = x.ep ∧ p.id ≠ 0 ∧ p.id < 2 ^ 32 ∧ p.chal.length = 32 ∧ p.age = 0 ∧ p.xid = none) ∧
    (Admitted s mb 0x0102 cmdAuth x → ∀ p k, s.mail.prov = some p → s.cred? p.cred = some k →
      if x.tagged = true ∧ Config.ecdsaOk k.key p.digest (slice x.body 0 96) = true then
        Answers (.auth mb) s mb 0 (le 1 k.role ++ zeros 3 ++ le 4 600)
          { s.taken mb with mail := { (s.taken mb).mail with prov := none, sessions := s.mail.sessions ++ [p.open k.role] } }
      else Answers (.auth mb) s mb 0x8060 [] (s.taken mb).dropProv) ∧
    (Admitted s mb 0x0103 cmdClose x →
      Answers (.close mb) s mb 0 [] ((s.taken mb).endSession x.ref.session)) ∧
    (Admitted s mb 0x0105 cmdCredAdd x → s.changeOut = false → 1 ≤ rd x.body 4 1 → rd x.body 4 1 ≤ 4 →
      s.cred? (rd x.body 0 4) = none → s.id.creds.length < 64 →
      Answers (.credAdd mb) s mb 0 []
        (State.ctxChange { s.taken mb with id := { s.id with
          creds := s.id.creds ++ [⟨rd x.body 0 4, rd x.body 4 1, slice x.body 8 97⟩] } } x 0x12
          (le 4 (rd x.body 0 4) ++ le 1 (rd x.body 4 1)))) ∧
    (Admitted s mb 0x0106 cmdCredRevoke x → s.changeOut = false →
      ∀ k, s.cred? (rd x.body 0 4) = some k → rd x.body 0 4 ≠ x.ref.cred → k.role ≠ 5 →
      Answers (.credRevoke mb) s mb 0 []
        (State.ctxChange (State.each { s.taken mb with id := { s.id with
          creds := s.id.creds.filter fun y => !(y.id == rd x.body 0 4) } }
          ((s.mail.sessions.filter (·.cred == rd x.body 0 4)).map (·.id)) State.endSession) x 0x13 (le 4 (rd x.body 0 4))))

/-- 12 R358, 15 R423 to R425, 04 R130, 10 R303, 15 R422: LC_TRANSITION answers ACCEPTED and is judged by its token; MODE
waits for the next executed start; RESTART and MAINT answer 0 and their request waits. Each answers CHECK_FAIL for a
parameter out of range or while the change log is out of service, and BUSY while an earlier request of its kind waits. -/
def Obligations.LifeCycleCommandsComplete : Prop :=
  (∀ (s : State) (mb : Nat) (x : Ctx), s.changeOut = false →
    (Admitted s mb 0x0301 cmdLcTransition x → ∀ target, LcState.ofCode (rd x.body 0 1) = some target →
      rd x.body 2 2 ≤ 1024 → s.id.lcReq = none →
      Answers (.lcTransition mb) s mb 1 []
        (((s.taken mb).opens x.ref 0).lcJudge target x.ref ((x.body.drop 4).take (rd x.body 2 2)))) ∧
    (Admitted s mb 0x0302 cmdMode x → rd x.body 0 1 ≤ 2 → s.cyc.modereq = none →
      Answers (.mode mb) s mb 1 []
        { (s.taken mb).opens x.ref 0 with
          cyc := { s.cyc with modereq := some (ExecMode.ofCode (rd x.body 0 1), x.ref) } }) ∧
    (Admitted s mb 0x0303 cmdRestart x → rd x.body 0 1 ≤ 1 → s.pow.restart = none →
      Answers (.restart mb) s mb 0 []
        (((s.taken mb).ctxChange x 0x16 (le 1 (rd x.body 0 1))).askRestart (if rd x.body 0 1 = 0 then .warm else .cold))) ∧
    (Admitted s mb 0x0304 cmdMaint x → rd x.body 0 1 ≤ 1 →
      Answers (.maint mb) s mb 0 [] { s.taken mb with id := { s.id with maintReq := some (rd x.body 0 1 == 1, x.ref) } })) ∧
  (∀ (s : State) (mb : Nat) (x : Ctx),
    (Admitted s mb 0x0301 cmdLcTransition x →
      (s.changeOut = true → Answers (.lcTransition mb) s mb 0x8070 [] (s.taken mb)) ∧
      (LcState.ofCode (rd x.body 0 1) = none → Answers (.lcTransition mb) s mb 0x8070 [] (s.taken mb)) ∧
      (1024 < rd x.body 2 2 → Answers (.lcTransition mb) s mb 0x8070 [] (s.taken mb)) ∧
      (s.changeOut = false → LcState.ofCode (rd x.body 0 1) ≠ none → rd x.body 2 2 ≤ 1024 → s.id.lcReq ≠ none →
        Answers (.lcTransition mb) s mb 0x80B0 [] (s.taken mb))) ∧
    (Admitted s mb 0x0302 cmdMode x →
      (s.changeOut = true ∨ 2 < rd x.body 0 1 → Answers (.mode mb) s mb 0x8070 [] (s.taken mb)) ∧
      (s.changeOut = false → rd x.body 0 1 ≤ 2 → s.cyc.modereq ≠ none → Answers (.mode mb) s mb 0x80B0 [] (s.taken mb))) ∧
    (Admitted s mb 0x0303 cmdRestart x →
      (s.changeOut = true ∨ 1 < rd x.body 0 1 → Answers (.restart mb) s mb 0x8070 [] (s.taken mb)) ∧
      (s.changeOut = false → rd x.body 0 1 ≤ 1 → s.pow.restart ≠ none →
        Answers (.restart mb) s mb 0x80B0 [] ((s.taken mb).discardRestart (if rd x.body 0 1 = 0 then .warm else .cold)))) ∧
    (Admitted s mb 0x0304 cmdMaint x → s.changeOut = true ∨ 1 < rd x.body 0 1 →
      Answers (.maint mb) s mb 0x8070 [] (s.taken mb)))

/-- 11 R312 to R322, 08 R238: the cold frame's commands. STAGE_OPEN gives an unowned frame to the session; STAGE_WRITE
stages all of its entries in order or none, and names the first that is refused; STAGE_DISCARD empties the frame, CHKCODE
0x0F standing where a check or an accepted apply went with it;
STAGE_CHECK and STAGE_APPLY answer ACCEPTED and begin; CONN_KEY stages one class 0x06 entry. -/
def Obligations.StageCommandsComplete : Prop :=
  ∀ (s : State) (mb : Nat) (x : Ctx),
    (Admitted s mb 0x0401 cmdStageOpen x → s.changeOut = false → s.stage.owner = 0 → x.ref.session ≠ 0 →
      Answers (.stageOpen mb) s mb 0 []
        (State.ctxChange { s.taken mb with stage := { s.stage with owner := x.ref.session, st := .opened, chkcode := 0 } }
          x 0x01 (le 4 x.ref.session ++ le 4 x.ref.cred))) ∧
    (Admitted s mb 0x0401 cmdStageOpen x → s.changeOut = false → s.stage.owner = x.ref.session →
      Answers (.stageOpen mb) s mb 0 [] (s.taken mb)) ∧
    (Admitted s mb 0x0402 cmdStageWrite x → s.stage.owner = x.ref.session → s.stage.owner ≠ 0 → s.stage.st ≠ .applying →
      1 ≤ rd x.body 0 2 → rd x.body 0 2 ≤ 101 →
      x.role ≥ 4 ∨ (∀ k < rd x.body 0 2, (entryIn (rawEntry x.body k)).cls ≠ 0x06) →
      (∀ d, (s.taken mb).stageAll ((List.range (rd x.body 0 2)).map (rawEntry x.body)) 0 = .ok d →
        Answers (.stageWrite mb) s mb 0 (le 2 (rd x.body 0 2) ++ le 2 0xFFFF) d.afterWrite) ∧
      (∀ k, (s.taken mb).stageAll ((List.range (rd x.body 0 2)).map (rawEntry x.body)) 0 = .error k →
        Answers (.stageWrite mb) s mb 0x8030 (le 2 0 ++ le 2 k) (s.taken mb))) ∧
    (Admitted s mb 0x0404 cmdStageDiscard x → s.changeOut = false → s.stage.owner = x.ref.session → s.stage.owner ≠ 0 →
      s.stage.st ≠ .applying →
      Answers (.stageDiscard mb) s mb 0 []
        ((s.taken mb).discardFrame.ctxChange x 0x01 (le 4 x.ref.session ++ le 4 x.ref.cred))) ∧
    (Admitted s mb 0x0405 cmdStageCheck x → s.changeOut = false → s.stage.owner = x.ref.session → s.stage.owner ≠ 0 →
      s.stage.st ≠ .applying → s.stage.checking = none → s.stage.apply = none →
      Answers (.stageCheck mb) s mb 1 []
        { (s.taken mb).opens x.ref 0 with
          stage := { s.stage with st := .checking, checking := some x.ref, passedLanes := [] } }) ∧
    (Admitted s mb 0x0404 cmdStageDiscard x → (s.taken mb).discardFrame.stage.owner = 0 ∧
      (s.taken mb).discardFrame.stage.entries = [] ∧
      (s.taken mb).discardFrame.stage.chkcode = (if s.stage.checking.isSome || s.stage.apply.isSome then 0x0F else 0)) ∧
    (Admitted s mb 0x0406 cmdStageApply x → s.applyAdmitted = false →
      Answers (.stageApply mb) s mb 0x8010 [] ((s.taken mb).ctxChange x 0x03 (le 4 (rd x.body 0 4) ++ le 2 0x8010))) ∧
    (Admitted s mb 0x0406 cmdStageApply x → s.applyAdmitted = true → s.changeOut = false → s.stage.owner = x.ref.session → s.stage.owner ≠ 0 →
      s.applyStatus (rd x.body 0 4) = 0 →
      Answers (.stageApply mb) s mb 1 []
        ((((s.taken mb).ctxChange x 0x03 (le 4 (rd x.body 0 4) ++ le 2 1)).opens x.ref 0).acceptApply x.ref)) ∧
    (Admitted s mb 0x0408 cmdConnKey x → s.stage.owner = x.ref.session → s.stage.owner ≠ 0 → s.stage.st ≠ .applying →
      rd x.body 1 1 ≤ 1 → ∀ e, e = (⟨0x06, rd x.body 0 1 * 2 + rd x.body 1 1, 0, slice x.body 4 16⟩ : StgEntry) →
      (s.takesEntry e = true → Answers (.connKey mb) s mb 0 []
        (State.updStage (s.taken mb) fun g => { g with entries := stageEntry e g.entries }).afterWrite) ∧
      (s.takesEntry e = false → Answers (.connKey mb) s mb 0x8030 [] (s.taken mb)))

/-- 16 R435 to R446: taking an image into use. ACTIVATE answers by its checks and, where they all pass, activates the
idle application slot; the update commands open a session, take the blocks of an image, have it verified, activate it by
its kind, and abort. -/
def Obligations.UpdateCommandsComplete : Prop :=
  ∀ (s : State) (mb : Nat) (x : Ctx), s.changeOut = false →
    (Admitted s mb 0x0502 cmdActivate x →
      Answers (.activate mb) s mb (s.appStatus (rd x.body 0 8)) []
        (if s.appStatus (rd x.body 0 8) = 0 then (s.taken mb).activateApp x none else s.taken mb)) ∧
    (Admitted s mb 0x0601 cmdUpdOpen x → s.updOpenStatus x = 0 →
      ∃ (u : UpdSess) (d e : State), Answers (.updOpen mb) s mb 0 (le 4 u.id ++ le 4 u.nblock)
          (e.ctxChange x 0x30 (le 1 u.kind ++ le 4 u.size ++ le 4 u.nblock)) ∧
        d = { s.taken mb with free := s.free + 1 } ∧
        e = (d.setSlot u.kind (!s.runSlot u.kind) (s.slotOf u.kind (!s.runSlot u.kind)).invalid).updUpd
          (fun y => { y with sess := some u, state := 1 }) ∧
        u.id ≠ 0 ∧ u.kind = rd x.body 0 1 ∧ u.size = rd x.body 4 4 ∧ u.nblock = (u.size + 65535) / 65536 ∧
        u.mailSession = x.ref.session ∧ u.checked = [] ∧ u.rollback = false) ∧
    (Admitted s mb 0x0602 cmdUpdData x → ∀ u bytes, s.upd.sess = some u → u.id = rd x.body 0 4 →
      s.upd.verify = none → rd x.body 4 4 < u.nblock →
      joinPart { u with idle := 0 } (rd x.body 4 4) (rd x.body 8 4) ((x.body.drop 20).take (rd x.body 12 2)) = some bytes →
      (rd x.body 14 2 = 0 → Answers (.updData mb) s mb 0 []
        (((s.taken mb).usedUpd u).putSess { u with idle := 0, part := some (rd x.body 4 4, bytes) })) ∧
      (rd x.body 14 2 = 1 → bytes.length = blockLen u.size u.nblock (rd x.body 4 4) → crc32c bytes = rd x.body 16 4 →
        ∃ d, d = ((s.taken mb).usedUpd u).setSlot u.kind (!s.runSlot u.kind)
            ((s.slotOf u.kind (!s.runSlot u.kind)).putBlock (rd x.body 4 4) bytes) ∧
          Answers (.updData mb) s mb 0 []
            ((d.putSess (UpdSess.check (rd x.body 4 4) { u with idle := 0 })).updUpd fun y => { y with state := 1 }))) ∧
    (Admitted s mb 0x0603 cmdUpdVerify x → ∀ u, s.upd.sess = some u → u.id = rd x.body 0 4 →
      s.upd.verify = none → (∀ b < u.nblock, b ∈ u.checked) →
      Answers (.updVerify mb) s mb 1 []
        ((((s.taken mb).usedUpd u).opens x.ref 0).updUpd fun y => { y with verify := some x.ref, state := 2 })) ∧
    (Admitted s mb 0x0604 cmdUpdActivate x → ∀ u, s.upd.sess = some u → u.id = rd x.body 0 4 →
      s.upd.verify = none → (s.slotOf u.kind (!s.runSlot u.kind)).valid = true →
      ∃ d, d = (s.taken mb).usedUpd u ∧
      (u.kind = 0 → s.upd.act = none → ∃ e, e = (d.opens x.ref 0).acceptAct x 0 (d.slotOf 0 s.upd.fwRun).env.imgid
          (d.slotOf 0 (!s.upd.fwRun)).env.imgid ∧
        Answers (.updActivate mb) s mb 1 [] (e.updUpd fun y => { y with
          act := some (actNew 0 (!s.upd.fwRun) (some x.ref) [] [] false y.lm u.rollback), sess := none })) ∧
      (u.kind = 1 → s.upd.lm ≤ (s.slotOf 1 (!s.runSlot 1)).env.level →
        s.tcTooShort = false → (∀ l, (s.lane l).latched = false) →
        Answers (.updActivate mb) s mb 1 []
          ((d.opens x.ref 0).kernelTurns x (!s.runSlot 1) (s.slotOf 1 (!s.runSlot 1)).env)) ∧
      (u.kind = 1 → (s.slotOf 1 (!s.runSlot 1)).env.level < s.upd.lm →
        s.pow.restart = none →
        Answers (.updActivate mb) s mb 1 []
          ((d.opens x.ref 0).kernelDown x (!s.runSlot 1) (s.slotOf 1 (!s.runSlot 1)).env)) ∧
      (2 ≤ u.kind →
        ∃ st, st = s.appStatus (s.slotOf 2 (!s.upd.appRun)).env.imgid ∧
          if st = 0 then Answers (.updActivate mb) s mb 1 [] ((d.opens x.ref 0).activateApp x (some x.ref))
          else Answers (.updActivate mb) s mb st [] d)) ∧
    (Admitted s mb 0x0605 cmdUpdAbort x → ∀ u, s.upd.sess = some u → u.id = rd x.body 0 4 →
      Answers (.updAbort mb) s mb 0 []
        (((s.taken mb).usedUpd u).abortUpd 1))

/-- 14 R398, 15 R412 to R417, 10 R293: the read cursor opens, moves on by whole records and closes; an admitted TEST_RUN
puts the test before the engine, TEST_ABORT ends it; HEDGE_RELEASE begins the release of a latched hedge, or
completes CHECK_FAIL where a self-test must pass first (15 R419). -/
def Obligations.RecordTestHedgeComplete : Prop :=
  ∀ (s : State) (mb : Nat) (x : Ctx),
    (Admitted s mb 0x0701 cmdRecOpen x → ∀ log, logOfCode (rd x.body 0 1) = some log →
      Answers (.recOpen mb) s mb 0 (le 8 (s.recs.hwm log))
        { s.taken mb with recs := { s.recs with cursor := some ⟨log, x.ref.session,
          nextSeq (s.recs.recsOf log) (rd x.body 4 8) (s.recs.hwm log), s.recs.hwm log, 0⟩ } }) ∧
    (Admitted s mb 0x0702 cmdRecNext x → ∀ k, s.recs.cursor = some k → k.session = x.ref.session →
      recSize k.log ≤ rd x.body 0 4 → rd x.body 0 4 ≤ 65536 →
      ∃ left batch last,
        left = (s.recs.recsOf k.log).filter (fun y => k.next ≤ y.1 && y.1 ≤ k.hwm) ∧
        batch = left.take (rd x.body 0 4 / recSize k.log) ∧
        last = (batch.getLast?.map (·.1)).getD k.lastSeen ∧
        Answers (.recNext mb) s mb 0
          (le 4 batch.length ++ le 4 (batch.flatMap (·.2)).length ++ le 8 last ++
            le 1 (b2n (decide (left.length ≤ batch.length)) +
              2 * b2n (decide (k.next ≤ k.hwm) && !(s.recs.recsOf k.log).any (·.1 == k.next))) ++ zeros 3)
          { s.taken mb with recs := { s.recs with
            window := batch.flatMap (·.2)
            cursor := some { k with
              next := if batch.isEmpty then k.hwm + 1 else nextSeq (s.recs.recsOf k.log) (last + 1) k.hwm
              lastSeen := last } } }) ∧
    (Admitted s mb 0x0703 cmdRecClose x →
      Answers (.recClose mb) s mb 0 [] { s.taken mb with recs := { s.recs with cursor := none } }) ∧
    (Admitted s mb 0x0801 cmdTestRun x → s.changeOut = false → rd x.body 0 2 ≠ 0 → rd x.body 0 2 ≤ 8 →
      s.targetOk (rd x.body 0 2) (rd x.body 2 2) = true → s.be.test = none →
      s.laneBusy (rd x.body 0 2) (rd x.body 2 2) = false → s.badQty s.be.q (rd x.body 0 2) (rd x.body 2 2) = none →
      ∃ e d, e = (s.taken mb).testFsv (rd x.body 0 2) (rd x.body 2 2) ∧
        d = e.2.ctxChange x 0x20 (x.body ++ s.qtyBytes e.1) ∧
      Answers (.testRun mb) s mb 1 [] (State.opens
        { d with be := { d.be with test := some (testNew (rd x.body 0 2) (rd x.body 2 2) x.ref s.time.ot) } } x.ref (rd x.body 2 2))) ∧
    (Admitted s mb 0x0803 cmdTestAbort x → s.changeOut = false → s.testIs (rd x.body 0 2) (rd x.body 2 2) = true →
      Answers (.testAbort mb) s mb 0 [] ((s.taken mb).abandonTest 0x80B0 2)) ∧
    (Admitted s mb 0x0901 cmdHedgeRelease x → s.changeOut = false → 1 ≤ rd x.body 0 1 → rd x.body 0 1 ≤ 5 →
      s.releasable (rd x.body 0 1) (rd x.body 2 2) = true → s.itemUnder (rd x.body 0 1) (rd x.body 2 2) = false →
      s.releasing (rd x.body 0 1) (rd x.body 2 2) = false → s.needsTest (rd x.body 0 1) (rd x.body 2 2) = false →
      Answers (.hedgeRelease mb) s mb 1 []
        (((s.taken mb).opens x.ref (rd x.body 2 2)).beginRelease (rd x.body 0 1) (rd x.body 2 2) x.ref)) ∧
    (Admitted s mb 0x0901 cmdHedgeRelease x → s.changeOut = false → 1 ≤ rd x.body 0 1 → rd x.body 0 1 ≤ 5 →
      s.releasable (rd x.body 0 1) (rd x.body 2 2) = true → s.itemUnder (rd x.body 0 1) (rd x.body 2 2) = false →
      s.releasing (rd x.body 0 1) (rd x.body 2 2) = false → s.needsTest (rd x.body 0 1) (rd x.body 2 2) = true →
      Answers (.hedgeRelease mb) s mb 1 []
        (((s.taken mb).opens x.ref (rd x.body 2 2)).relDone (rd x.body 0 1) (rd x.body 2 2) x.ref 0x8070))

/-- What an accepted operations command leaves: its order queued for the lanes, forwarded by a member that is not the
pacer, and the command open. -/
def Sys2Proof.Machine.opQueued (s : State) (mb : Nat) (x : Ctx) (item : Nat) (k : OpKind) : State :=
  State.opens (if s.pairOn && !s.pair.pacer
    then State.plSend { s.taken mb with trl := { s.trl with ops := s.trl.ops ++ [⟨x.ref, k, 0⟩] } } (.cmdfwd (.op ⟨x.ref, k, 0⟩))
    else { s.taken mb with trl := { s.trl with ops := s.trl.ops ++ [⟨x.ref, k, 0⟩] } }) x.ref item

/-- 12 R359, 09 R271: a one-step operations command answers ACCEPTED and is queued for the lanes, whatever its route or
element. -/
def Obligations.OperationsQueued : Prop :=
  ∀ (s : State) (mb : Nat) (x : Ctx), s.trl.ops.length < 256 →
    (Admitted s mb 0x0A01 cmdRouteSet x →
      Answers (.routeSet mb) s mb 1 [] (opQueued s mb x (rd x.body 0 2) (.routeSet (rd x.body 0 2)))) ∧
    (Admitted s mb 0x0A02 cmdRouteCancel x →
      Answers (.routeCancel mb) s mb 1 [] (opQueued s mb x (rd x.body 0 2) (.routeCancel (rd x.body 0 2)))) ∧
    (Admitted s mb 0x0A03 cmdAutoSet x → rd x.body 2 1 ≤ 1 →
      Answers (.autoSet mb) s mb 1 [] (opQueued s mb x (rd x.body 0 2) (.autoSet (rd x.body 0 2) (rd x.body 2 1 == 1)))) ∧
    (Admitted s mb 0x0A04 cmdTrigArm x →
      Answers (.trigArm mb) s mb 1 [] (opQueued s mb x (rd x.body 0 2) (.trigArm (rd x.body 0 2)))) ∧
    (Admitted s mb 0x0A05 cmdKeyRelease x →
      Answers (.keyRelease mb) s mb 1 [] (opQueued s mb x (rd x.body 0 2) (.keyRelease (rd x.body 0 2))))

/-- The pending first step of this session and command is discarded (12 R357). -/
def Sys2Proof.Machine.stepDropped (s : State) (mb : Nat) (x : Ctx) : State :=
  (s.taken mb).updMail fun m => { m with
    steps := m.steps.filter fun f => !(f.session == x.ref.session && f.cmd == x.ref.cmd) }

/-- A first step leaves one pending step with a fresh code and the body without the code's field at `off`. -/
def Sys2Proof.Machine.FirstStepOf (i : Instr) (s : State) (mb : Nat) (x : Ctx) (off : Nat) : Prop :=
  ∃ code, 1 ≤ code ∧ code < 2 ^ 16 ∧
    Answers i s mb 0 (le 2 code)
      (State.updMail { stepDropped s mb x with free := s.free + 1 } fun m => { m with
        steps := m.steps ++ [⟨x.ref.session, x.ref.cmd, x.body.take off ++ x.body.drop (off + 2), code, s.time.ot⟩] })

/-- A pending first step that this second step repeats: same code, same body without the code. -/
def Sys2Proof.Machine.Repeats (x : Ctx) (off : Nat) (f : FirstStep) : Prop :=
  f.session = x.ref.session ∧ f.cmd = x.ref.cmd ∧ f.code = rd x.body off 2 ∧
  f.body = x.body.take off ++ x.body.drop (off + 2)

/-- 12 R357: two-step commands. A first step (code 0) answers a fresh code that is not 0 and changes nothing else; a second
step that repeats it, with its code, from 2 s to 30 s later, has the command's effect; any other second step answers
BAD_CONFIRM, and the first step is used up either way. A first step with a code answers CHECK_FAIL, as does a
bad kind; a full queue of orders BUSY; a force that does not stand NOT_FOUND. AXLE_RESET's first step goes to the lanes instead (02 R58), and its
second step has no window of its own. -/
def Obligations.TwoStepCommandsComplete : Prop :=
  (∀ (s : State) (mb : Nat) (x : Ctx), s.trl.ops.length < 256 → s.changeOut = false →
    (Admitted s mb 0x0A06 cmdEmergRelease x →
      (x.two = false → rd x.body 4 2 = 0 → FirstStepOf (.emergRelease mb) s mb x 4) ∧
      (x.two = true → (∃ f ∈ s.mail.steps, Repeats x 4 f ∧ f.givenAt + 2000 ≤ s.time.ot ∧ s.time.ot ≤ f.givenAt + 30000) →
        Answers (.emergRelease mb) s mb 1 []
          ((stepDropped s mb x).queueOp x (rd x.body 0 2) (.emergRelease (rd x.body 0 2))).2) ∧
      (x.two = true →
        (∀ f ∈ s.mail.steps, ¬ (Repeats x 4 f ∧ f.givenAt + 2000 ≤ s.time.ot ∧ s.time.ot ≤ f.givenAt + 30000)) →
        Answers (.emergRelease mb) s mb 0x8004 [] (stepDropped s mb x))) ∧
    (Admitted s mb 0x0A07 cmdAxleReset x →
      (x.two = false → rd x.body 4 2 = 0 →
        Answers (.axleReset mb) s mb 1 []
          ((stepDropped s mb x).queueOp x (rd x.body 0 2) (.axleArm (rd x.body 0 2))).2) ∧
      (x.two = true → (∃ f ∈ s.mail.steps, Repeats x 4 f) →
        Answers (.axleReset mb) s mb 1 []
          ((stepDropped s mb x).queueOp x (rd x.body 0 2) (.axleReset (rd x.body 0 2))).2) ∧
      (x.two = true → (∀ f ∈ s.mail.steps, ¬ Repeats x 4 f) →
        Answers (.axleReset mb) s mb 0x8004 [] (stepDropped s mb x))) ∧
    (Admitted s mb 0x0C03 cmdColdAssume x → s.pair.assume = none →
      (x.two = false → rd x.body 0 2 = 0 → FirstStepOf (.coldAssume mb) s mb x 0) ∧
      (x.two = true → (∃ f ∈ s.mail.steps, Repeats x 0 f ∧ f.givenAt + 2000 ≤ s.time.ot ∧ s.time.ot ≤ f.givenAt + 30000) →
        Answers (.coldAssume mb) s mb 1 []
          (((stepDropped s mb x).opens x.ref 0).updPair fun p => { p with assume := some x.ref })) ∧
      (x.two = true →
        (∀ f ∈ s.mail.steps, ¬ (Repeats x 0 f ∧ f.givenAt + 2000 ≤ s.time.ot ∧ s.time.ot ≤ f.givenAt + 30000)) →
        Answers (.coldAssume mb) s mb 0x8004 [] (stepDropped s mb x))) ∧
    (Admitted s mb 0x0E02 cmdForceClear x → 1 ≤ rd x.body 0 1 → rd x.body 0 1 ≤ 4 →
      s.forceStands (rd x.body 0 1) (rd x.body 4 4) = true →
      (x.two = false → rd x.body 8 2 = 0 → FirstStepOf (.forceClear mb) s mb x 8) ∧
      (x.two = true → (∃ f ∈ s.mail.steps, Repeats x 8 f ∧ f.givenAt + 2000 ≤ s.time.ot ∧ s.time.ot ≤ f.givenAt + 30000) →
        Answers (.forceClear mb) s mb 1 []
          ((stepDropped s mb x).queueForce x ⟨x.ref, false, rd x.body 0 1, 0, rd x.body 4 4⟩).2) ∧
      (x.two = true →
        (∀ f ∈ s.mail.steps, ¬ (Repeats x 8 f ∧ f.givenAt + 2000 ≤ s.time.ot ∧ s.time.ot ≤ f.givenAt + 30000)) →
        Answers (.forceClear mb) s mb 0x8004 [] (stepDropped s mb x)))) ∧
  (∀ (s : State) (mb : Nat) (x : Ctx),
    (Admitted s mb 0x0A06 cmdEmergRelease x →
      (x.two = false → rd x.body 4 2 ≠ 0 → Answers (.emergRelease mb) s mb 0x8070 [] (s.taken mb)) ∧
      (x.two = true → 256 ≤ s.trl.ops.length → Answers (.emergRelease mb) s mb 0x80B0 [] (s.taken mb))) ∧
    (Admitted s mb 0x0A07 cmdAxleReset x →
      (x.two = false → rd x.body 4 2 ≠ 0 → Answers (.axleReset mb) s mb 0x8070 [] (s.taken mb)) ∧
      (x.two = true ∨ rd x.body 4 2 = 0 → 256 ≤ s.trl.ops.length →
        Answers (.axleReset mb) s mb 0x80B0 [] (s.taken mb))) ∧
    (Admitted s mb 0x0C03 cmdColdAssume x →
      (s.changeOut = true → Answers (.coldAssume mb) s mb 0x8070 [] (s.taken mb)) ∧
      (x.two = false → rd x.body 0 2 ≠ 0 → Answers (.coldAssume mb) s mb 0x8070 [] (s.taken mb)) ∧
      (s.changeOut = false → x.two = true → s.pair.assume ≠ none →
        Answers (.coldAssume mb) s mb 0x80B0 [] (s.taken mb)) ∧
      (s.changeOut = false → x.two = false → rd x.body 0 2 = 0 → FirstStepOf (.coldAssume mb) s mb x 0)) ∧
    (Admitted s mb 0x0E02 cmdForceClear x →
      (s.changeOut = true ∨ rd x.body 0 1 = 0 ∨ 4 < rd x.body 0 1 →
        Answers (.forceClear mb) s mb 0x8070 [] (s.taken mb)) ∧
      (x.two = false → rd x.body 8 2 ≠ 0 → Answers (.forceClear mb) s mb 0x8070 [] (s.taken mb)) ∧
      (s.changeOut = false → 1 ≤ rd x.body 0 1 → rd x.body 0 1 ≤ 4 → s.forceStands (rd x.body 0 1) (rd x.body 4 4) = false →
        (x.two = false → rd x.body 8 2 = 0 → Answers (.forceClear mb) s mb 0x8080 [] (s.taken mb)) ∧
        (x.two = true → (∃ f ∈ s.mail.steps, Repeats x 8 f ∧ f.givenAt + 2000 ≤ s.time.ot ∧ s.time.ot ≤ f.givenAt + 30000) →
          Answers (.forceClear mb) s mb 0x8080 [] (stepDropped s mb x)))))

/-- Mailbox mb of t holds the finished first response to the request that it held in s (12 R348, R351); it is FREE where
its owner's last session has ended since the doorbell. -/
def Sys2Proof.Machine.Finished (s t : State) (mb status : Nat) (body : Bytes) : Prop :=
  ((s.box mb).orphan = false →
    (t.box mb).st = .done ∧ (t.box mb).status = status ∧ (t.box mb).resp = respBytes (reqOf (s.box mb)) status body) ∧
  ((s.box mb).orphan = true → (t.box mb).st = .free)

/-- Nothing but the mailboxes and the queue of posted requests differs, a waiting transfer of higher priority having been
granted (01 R21). -/
def Sys2Proof.Machine.OnlyMailboxes (s t : State) : Prop :=
  t = { s.grantFirst .service with mail := { s.mail with boxes := t.mail.boxes, order := t.mail.order } }

/-- 12 R351, R358: the commands that read numbered items, a list or the cold frame complete with status 0 and their items
wherever the request is admitted and its window lies inside the list: a next state, with the response in the mailbox and
nothing else changed. -/
def Sys2Proof.Machine.ListsComplete (s : State) (mb : Nat) (x : Ctx) : Prop :=
  (Admitted s mb 0x0107 cmdCredList x → ∃ t, exec (.credList mb) s = .next t ∧ OnlyMailboxes s t ∧
    Finished s t mb 0 (le 1 (s.id.creds.drop (rd x.body 0 1)).length ++ zeros 3 ++
      (s.id.creds.drop (rd x.body 0 1)).flatMap credBytes)) ∧
  (Admitted s mb 0x0204 cmdInputStatus x → 1 ≤ rd x.body 1 1 → rd x.body 0 1 + rd x.body 1 1 ≤ 48 →
    ∃ t, exec (.inputStatus mb) s = .next t ∧ OnlyMailboxes s t ∧
      Finished s t mb 0 ((List.range (rd x.body 1 1)).flatMap fun k =>
        slice (s.mail.inStat.getD s.inLive) (8 * (rd x.body 0 1 + k)) 8)) ∧
  (Admitted s mb 0x0205 cmdOutputStatus x → 1 ≤ rd x.body 1 1 → rd x.body 0 1 + rd x.body 1 1 ≤ 48 →
    ∃ t, exec (.outputStatus mb) s = .next t ∧ OnlyMailboxes s t ∧
      Finished s t mb 0 ((List.range (rd x.body 1 1)).flatMap fun k =>
        slice (s.mail.outStat.getD s.outLive) (8 * (rd x.body 0 1 + k)) 8)) ∧
  (Admitted s mb 0x0206 cmdConnStatus x → rd x.body 0 1 ≠ 0 → 1 ≤ rd x.body 1 1 → rd x.body 1 1 ≤ 85 →
    rd x.body 0 1 + rd x.body 1 1 ≤ 256 →
    ∃ t, exec (.connStatus mb) s = .next t ∧ OnlyMailboxes s t ∧
      Finished s t mb 0 ((List.range (rd x.body 1 1)).flatMap fun k =>
        ((s.mail.connStat.getD s.connLive).find? (·.1 == rd x.body 0 1 + k)).elim connNone (·.2))) ∧
  (Admitted s mb 0x0207 cmdElementRead x → 1 ≤ rd x.body 2 2 → rd x.body 2 2 ≤ 63 → rd x.body 0 2 + rd x.body 2 2 ≤ 4096 →
    ∃ t, exec (.elementRead mb) s = .next t ∧ OnlyMailboxes s t ∧
      Finished s t mb 0 ((List.range (rd x.body 2 2)).flatMap fun k =>
        ((s.mail.elemStat.getD s.app.elems).find? (·.num == rd x.body 0 2 + k)).elim (zeros 64) elemBytes)) ∧
  (Admitted s mb 0x0208 cmdRouteRead x → 1 ≤ rd x.body 2 2 → rd x.body 2 2 ≤ 63 → rd x.body 0 2 + rd x.body 2 2 ≤ 2048 →
    ∃ t, exec (.routeRead mb) s = .next t ∧ OnlyMailboxes s t ∧
      Finished s t mb 0 ((List.range (rd x.body 2 2)).flatMap fun k => routeBytes (s.cellRec (rd x.body 0 2 + k)))) ∧
  (Admitted s mb 0x020A cmdRouteIdent x → 1 ≤ rd x.body 2 2 → rd x.body 2 2 ≤ 500 →
    rd x.body 0 2 + rd x.body 2 2 ≤ s.image.routes.length →
    ∃ t, exec (.routeIdent mb) s = .next t ∧ OnlyMailboxes s t ∧
      Finished s t mb 0 ((List.range (rd x.body 2 2)).flatMap fun k =>
        (s.image.routes[rd x.body 0 2 + k]?).elim (zeros 8) identOf)) ∧
  (Admitted s mb 0x0403 cmdStageRead x → s.stage.owner = x.ref.session → s.stage.owner ≠ 0 →
    1 ≤ rd x.body 2 2 → rd x.body 2 2 ≤ 101 →
    ∃ t, exec (.stageRead mb) s = .next t ∧ OnlyMailboxes s t ∧
      Finished s t mb 0 (((s.stage.entries.drop (rd x.body 0 2)).take (rd x.body 2 2)).flatMap shownEntry)) ∧
  (Admitted s mb 0x0802 cmdTestList x → rd x.body 0 2 < 8 →
    ∃ t, exec (.testList mb) s = .next t ∧ OnlyMailboxes s t ∧
      Finished s t mb 0 (((List.range 8).drop (rd x.body 0 2)).flatMap fun i => s.testBytes (i + 1))) ∧
  (Admitted s mb 0x0903 cmdEscBounds x → rd x.body 0 2 < detTable.length →
    ∃ t, exec (.escBounds mb) s = .next t ∧ OnlyMailboxes s t ∧
      Finished s t mb 0 (le 2 detTable.length ++ le 2 ((detTable.drop (rd x.body 0 2)).take 254).length ++
        ((detTable.drop (rd x.body 0 2)).take 254).flatMap detBytes)) ∧
  (Admitted s mb 0x0E03 cmdForceList x → ∀ fs, fs = s.stage.forces.filter (·.fkind != 0) →
    rd x.body 0 2 < fs.length ∨ rd x.body 0 2 = 0 →
    ∃ t, exec (.forceList mb) s = .next t ∧ OnlyMailboxes s t ∧
      Finished s t mb 0 (le 2 fs.length ++ le 2 ((fs.drop (rd x.body 0 2)).take 254).length ++
        ((fs.drop (rd x.body 0 2)).take 254).flatMap forceBytes))

/-- 12 R358, 15 R423 to R425, R422, 04 R130, 10 R303: each life-cycle command completes with its effect: LC_TRANSITION
with a token that is good makes the transition, or leaves it for the next executed start; MODE, RESTART and MAINT leave
their request. -/
def Sys2Proof.Machine.LifeCycleDone (s : State) (mb : Nat) (x : Ctx) : Prop :=
  (Admitted s mb 0x0301 cmdLcTransition x → ∀ target token k role,
    LcState.ofCode (rd x.body 0 1) = some target → rd x.body 2 2 ≤ 1024 → s.id.lcReq = none →
    token = (x.body.drop 4).take (rd x.body 2 2) → s.cred? (rd token 0x0C 4) = some k →
    s.lcTokenOk target.code token = true → Config.ecdsaOk k.key (Config.sha384 (token.take 0x30)) (token.drop 0x30) = true →
    s.transition target = some (role, true) → role ≤ k.role →
    ∃ t, exec (.lcTransition mb) s = .next t ∧
      (lcWaits s.id.lc target = true → t.id.lc = s.id.lc ∧
        t.id.lcReq = some (target, x.ref, rd token 0x0C 4, slice token 0x10 16)) ∧
      (lcWaits s.id.lc target = false → t.id.lc = target ∧ t.id.lccnt = wrapInc 32 s.id.lccnt ∧
        t.pow.restart = some .cold)) ∧
  (Admitted s mb 0x0302 cmdMode x → rd x.body 0 1 ≤ 2 → s.cyc.modereq = none →
    ∃ t, exec (.mode mb) s = .next t ∧ Finished s t mb 1 [] ∧
      t.cyc = { s.cyc with modereq := some (ExecMode.ofCode (rd x.body 0 1), x.ref) }) ∧
  (Admitted s mb 0x0303 cmdRestart x → rd x.body 0 1 ≤ 1 → s.pow.restart = none →
    ∃ t, exec (.restart mb) s = .next t ∧ Finished s t mb 0 [] ∧
      t.pow.restart = some (if rd x.body 0 1 = 0 then .warm else .cold)) ∧
  (Admitted s mb 0x0304 cmdMaint x → rd x.body 0 1 ≤ 1 →
    ∃ t, exec (.maint mb) s = .next t ∧ Finished s t mb 0 [] ∧ t.id = { s.id with maintReq := some (rd x.body 0 1 == 1, x.ref) })

/-- 12 R357, R359, 02 R58, 09 R280, 11 R331: both steps of a two-step command complete: the first leaves a code that is
not 0, the second, with that code, leaves the command's order. AXLE_RESET's first step is an order itself. -/
def Sys2Proof.Machine.TwoStepsDone (s : State) (mb : Nat) (x : Ctx) : Prop :=
  (Admitted s mb 0x0A06 cmdEmergRelease x →
    (x.two = false → rd x.body 4 2 = 0 → ∃ t code, exec (.emergRelease mb) s = .next t ∧ 1 ≤ code ∧ code < 2 ^ 16 ∧
      Finished s t mb 0 (le 2 code) ∧ ∃ f ∈ t.mail.steps, f.session = x.ref.session ∧ f.cmd = 0x0A06 ∧ f.code = code) ∧
    (x.two = true → (∃ f ∈ s.mail.steps, Repeats x 4 f ∧ f.givenAt + 2000 ≤ s.time.ot ∧ s.time.ot ≤ f.givenAt + 30000) →
      s.trl.ops.length < 256 → ∃ t, exec (.emergRelease mb) s = .next t ∧ Finished s t mb 1 [] ∧
        t.trl.ops = s.trl.ops ++ [⟨x.ref, .emergRelease (rd x.body 0 2), 0⟩])) ∧
  (Admitted s mb 0x0A07 cmdAxleReset x → s.trl.ops.length < 256 →
    (x.two = false → rd x.body 4 2 = 0 → ∃ t, exec (.axleReset mb) s = .next t ∧ Finished s t mb 1 [] ∧
      t.trl.ops = s.trl.ops ++ [⟨x.ref, .axleArm (rd x.body 0 2), 0⟩]) ∧
    (x.two = true → (∃ f ∈ s.mail.steps, Repeats x 4 f) → ∃ t, exec (.axleReset mb) s = .next t ∧ Finished s t mb 1 [] ∧
      t.trl.ops = s.trl.ops ++ [⟨x.ref, .axleReset (rd x.body 0 2), 0⟩])) ∧
  (Admitted s mb 0x0C03 cmdColdAssume x → s.changeOut = false →
    (x.two = false → rd x.body 0 2 = 0 → ∃ t code, exec (.coldAssume mb) s = .next t ∧ 1 ≤ code ∧ code < 2 ^ 16 ∧
      Finished s t mb 0 (le 2 code) ∧ ∃ f ∈ t.mail.steps, f.session = x.ref.session ∧ f.cmd = 0x0C03 ∧ f.code = code) ∧
    (x.two = true → (∃ f ∈ s.mail.steps, Repeats x 0 f ∧ f.givenAt + 2000 ≤ s.time.ot ∧ s.time.ot ≤ f.givenAt + 30000) →
      s.pair.assume = none → ∃ t, exec (.coldAssume mb) s = .next t ∧ Finished s t mb 1 [] ∧
        t.pair = { s.pair with assume := some x.ref })) ∧
  (Admitted s mb 0x0E02 cmdForceClear x → s.changeOut = false → 1 ≤ rd x.body 0 1 → rd x.body 0 1 ≤ 4 →
    s.forceStands (rd x.body 0 1) (rd x.body 4 4) = true →
    (x.two = false → rd x.body 8 2 = 0 → ∃ t code, exec (.forceClear mb) s = .next t ∧ 1 ≤ code ∧ code < 2 ^ 16 ∧
      Finished s t mb 0 (le 2 code) ∧ ∃ f ∈ t.mail.steps, f.session = x.ref.session ∧ f.cmd = 0x0E02 ∧ f.code = code) ∧
    (x.two = true → (∃ f ∈ s.mail.steps, Repeats x 8 f ∧ f.givenAt + 2000 ≤ s.time.ot ∧ s.time.ot ≤ f.givenAt + 30000) →
      ∃ t, exec (.forceClear mb) s = .next t ∧ Finished s t mb 1 [] ∧
        t.stage.forceWait = s.stage.forceWait ++ [⟨⟨x.ref, false, rd x.body 0 1, 0, rd x.body 4 4⟩, 2⟩]))

/-- 12 R348, R351, R357 to R359, 15 R422 to R425, 04 R130, 11 R331: the commands that read items or a list, the life-cycle
commands and the two-step commands each answer a next state wherever the request is admitted and its parameters are in
range: the response stands in the mailbox and the effect has taken place. -/
def Obligations.ReadLifeCycleTwoStepFinish : Prop :=
  ∀ (s : State) (mb : Nat) (x : Ctx),
    ListsComplete s mb x ∧ (s.changeOut = false → LifeCycleDone s mb x) ∧ TwoStepsDone s mb x

/-- 14 R387 to R389, 09 R279, 13 R363, R364, R376, R382, 11 R331: the time, pair, bridge and force commands. -/
def Obligations.TimePairBridgeForceComplete : Prop :=
  ∀ (s : State) (mb : Nat) (x : Ctx),
    (Admitted s mb 0x0B02 cmdTimeSet x → s.changeOut = false → rd x.body 0 8 < 2 ^ 48 →
      ¬ (s.time.source = 1 ∧ s.time.lock = true) →
      Answers (.timeSet mb) s mb 0 []
        (((s.taken mb).setWt (rd x.body 0 8) 0 x.ref.cred x.ref.session x.ep x.ref.cmd).updTime
          fun t => { t with wtvalid := true })) ∧
    (Admitted s mb 0x0B03 cmdTimeSource x → s.changeOut = false → rd x.body 0 1 ≤ 1 →
      (rd x.body 0 1 = s.time.source → Answers (.timeSource mb) s mb 0 [] (s.taken mb)) ∧
      (rd x.body 0 1 ≠ s.time.source → Answers (.timeSource mb) s mb 0 []
        (((s.taken mb).ctxChange x 0x11 (le 1 s.time.source ++ le 1 (rd x.body 0 1))).updTime fun t =>
          { t with source := rd x.body 0 1, lock := false, good := 0, synced := none, slew := 0, master := none }))) ∧
    (Admitted s mb 0x0C02 cmdHandover x → s.changeOut = false → s.partnerInStep = true → s.pair.handover = none →
      Answers (.handover mb) s mb 1 []
        (((s.taken mb).opens x.ref 0).updPair fun p => { p with relinq := true, handover := some x.ref })) ∧
    (Admitted s mb 0x0D03 cmdSbErrclr x →
      Answers (.sbErrclr mb) s mb 0 [] { s.taken mb with bridge := { s.bridge with log := [], pelost := 0 } }) ∧
    (Admitted s mb 0x0D04 cmdWindowSet x → s.changeOut = false → rd x.body 0 1 < 64 →
      s.windowOk (readWindow (s.window (rd x.body 0 1)) x.body) = true → s.windowBusy (rd x.body 0 1) = false →
      wEnable (readWindow (s.window (rd x.body 0 1)) x.body) = true →
      Answers (.windowSet mb) s mb 0 []
        (((s.taken mb).ctxChange x 0x17 (le 1 (rd x.body 0 1) ++ slice x.body 4 16)).updBridge fun b =>
          { b with windows := b.windows.set (rd x.body 0 1) (readWindow (s.window (rd x.body 0 1)) x.body) })) ∧
    (Admitted s mb 0x0D04 cmdWindowSet x → s.changeOut = false → rd x.body 0 1 < 64 →
      wEnable (s.window (rd x.body 0 1)) = true →
      wEnable (readWindow (s.window (rd x.body 0 1)) x.body) = false →
      ∃ d, d = ((s.taken mb).closeWindow (rd x.body 0 1)).ctxChange x 0x17 (le 1 (rd x.body 0 1) ++ slice x.body 4 16) ∧
        Answers (.windowSet mb) s mb 0 [] (d.updBridge fun b =>
          { b with windows := b.windows.set (rd x.body 0 1) (d.takenWindow (rd x.body 0 1) x.body) }) ∧
        wEnable (d.takenWindow (rd x.body 0 1) x.body) = false) ∧
    (Admitted s mb 0x0D05 cmdTunnelSet x → s.changeOut = false → rd x.body 0 1 < 16 →
      s.tunnelOk (rd x.body 0 1) (readTunnel (s.tunnel (rd x.body 0 1)) x.body) = true →
      readTunnel (s.tunnel (rd x.body 0 1)) x.body ≠ s.tunnel (rd x.body 0 1) →
      ∃ d old t, d = (s.taken mb).ctxChange x 0x17 (le 1 (rd x.body 0 1) ++ slice x.body 4 16) ∧
        old = s.tunnel (rd x.body 0 1) ∧ t = readTunnel old x.body ∧
        Answers (.tunnelSet mb) s mb 0 []
          (State.updTunnel { d with
              tunnels := d.tunnels.map (Tunnel.emptied [old.port, t.port])
              ports := d.ports.zipIdx.map (LegacyPort.restarted [old.port, t.port]) } (rd x.body 0 1)
            fun _ => { Tunnel.joined old t with queue := [] })) ∧
    (Admitted s mb 0x0E01 cmdForceSet x → 1 ≤ rd x.body 0 1 → rd x.body 0 1 ≤ 4 →
      Answers (.forceSet mb) s mb 1 []
        ((s.taken mb).queueForce x ⟨x.ref, true, rd x.body 0 1, rd x.body 1 1, rd x.body 4 4⟩).2)

/-! ### The register window -/

/-- A write of the register window reaches it (12 R337 to R342): the SP serves, and the transport is CSPI (endpoint 0), or
a well-formed NSP WRITE on an open path from a served endpoint, with a transaction number not answered before: untagged, at
an address that needs no tag, or with the valid tag of a session it names and a later transaction number than its last. `who`
is the tag's session, `pre` the state as the write finds it (the status byte of a CSPI frame clocked out, the tag's number
taken), and `wrap` what the transport adds: its status 0, and for NSP its reply. -/
def Sys2Proof.Machine.Carried (s : State) (acc : Access) (addr : Nat) (data : Bytes) (ep : Nat) (who : Option Nat) (pre : State)
    (wrap : State → State) : Prop :=
  s.serving = true ∧
  ((acc = .cspi ∧ ep = 0 ∧ who = none ∧ pre = s.cspiBegin ∧
      wrap = fun t => { t with mail := { t.mail with cspiBad := false } }) ∨
   (∃ h e, acc = .nsp h ∧ s.pathOpen h = true ∧ h.op = 2 ∧
      s.mail.eps.find? (fun e => e.path == h.path && e.ip == h.ip && e.port == h.port) = some e ∧ ep = e.num ∧
      (∀ k ∈ e.kept, k.xid ≠ h.xid) ∧ nspOk h addr data = true ∧
      ((h.nflag.getLsbD 0 = false ∧ s.needsTag e.num addr = false ∧ who = none ∧ pre = s) ∨
       (∃ key last, h.nflag.getLsbD 0 = true ∧ s.tagSess e.num h.nsess = some (key, last) ∧
         h.tag = tagOf key h addr data ∧ last.all (fun old => serialAfter 32 h.xid old) = true ∧
         who = some h.nsess ∧ pre = s.useXid (some h.nsess) h.xid)) ∧
      wrap = fun t => t.reply ⟨e.num, 0x82, h.xid, 0, []⟩ true))

/-- 12 R338, R341, R343: a read of the register window. A CSPI read frame clocks out its status byte and the bytes of the
window; an NSP READ is answered with them, to the transaction number it carries. Nothing else changes, but that records of
the notification ring that were read are read. -/
def Sys2Proof.Machine.WindowReads (s : State) (addr : Nat) : Prop :=
  (∀ n, s.pow.on = true → s.blockOut 0x21 = false → 1 ≤ n → n ≤ 4096 →
    exec (.registerWrite (.cspiRead n) addr []) s = .next (((s.cspiBegin.updMail fun m =>
      { m with cspiOut := s.windowRead addr n }).seeRing addr n).settle) ∧
    s.cspiBegin.mail.cspiStat.getLsbD 0 = s.pow.sv ∧ s.cspiBegin.mail.cspiStat.getLsbD 2 = s.mail.cspiBad ∧
    (s.csalrt = true → s.cspiBegin.mail.cspiStat.getLsbD 1 = true) ∧ s.cspiBegin.mail.cspiBad = false) ∧
  (∀ h e, s.serving = true → s.pathOpen h = true →
    s.mail.eps.find? (fun e => e.path == h.path && e.ip == h.ip && e.port == h.port) = some e →
    (∀ k ∈ e.kept, k.xid ≠ h.xid) → nspOk h addr [] = true → h.op = 1 →
    (addr + h.dlen ≤ 0x50000 → exec (.registerWrite (.nsp h) addr []) s =
      .next ((s.reply ⟨e.num, 0x81, h.xid, 0, s.windowRead addr h.dlen⟩ true).seeRing addr h.dlen).settle) ∧
    (0x50000 < addr + h.dlen → exec (.registerWrite (.nsp h) addr []) s =
      .next (s.reply ⟨e.num, 0x81, h.xid, 1, []⟩ true).settle))

/-- 12 R346 to R348: CLAIM takes a FREE mailbox (mailbox 14 never; any but mailbox 0 only for an endpoint with a session);
its owner writes the request, RINGs it with the request's TAG (it is POSTED, its ring stamped, and waits its turn),
ACKs an answer and RELEASEs it. A read is carried by REGISTER_WRITE, since the table has no row for it (log 139). On mailbox 0 RING or ACK after the answer to any command but OPEN frees it. -/
def Obligations.MailboxWritesComplete : Prop :=
  (∀ (s : State) (acc : Access) (ep mb : Nat) (who : Option Nat) (pre : State) (wrap : State → State), mb < 16 →
    (∀ key < 65536, Carried s acc (ctlAddr mb) (le 2 1 ++ le 2 key) ep who pre wrap → mb ≠ 14 → (s.box mb).st = .free →
      mb = 0 ∨ s.mail.sessions.any (·.ep == ep) = true →
      exec (.mailboxClaim acc mb key) s = .next (wrap (pre.updBox mb fun b =>
        { b with st := .owned, ep := ep, ownkey := key, age := 0, openOk := false, orphan := false, writers := [] })).settle) ∧
    (Carried s acc (ctlAddr mb) (le 4 2) ep who pre wrap → (s.box mb).ep = ep →
      (s.box mb).st = .owned ∨ (s.box mb).st = .done →
      exec (.mailboxRelease acc mb) s = .next (wrap (pre.freeBox mb)).settle) ∧
    (∀ tag < 65536, Carried s acc (dbAddr mb) (le 2 tag ++ le 2 0x8000) ep who pre wrap → (s.box mb).ep = ep →
      (s.box mb).st = .owned ∨ (s.box mb).st = .done → rd (s.box mb).req 2 2 = tag →
      (¬ (mb = 0 ∧ (s.box mb).st = .done ∧ (s.box mb).openOk = false) →
        exec (.doorbellRing acc mb tag) s = .next (wrap
          ((pre.updBox mb fun b => { b with st := .posted, rung := s.time.ot, age := 0 }).updMail fun m =>
            { m with order := m.order ++ [mb], sessions := m.sessions.map (Sess.touch ep) })).settle) ∧
      (mb = 0 ∧ (s.box mb).st = .done ∧ (s.box mb).openOk = false →
        exec (.doorbellRing acc mb tag) s = .next (wrap (pre.freeBox mb)).settle)) ∧
    (Carried s acc (dbAddr mb) (le 4 0x40000000) ep who pre wrap → (s.box mb).ep = ep → (s.box mb).st = .done →
      (¬ (mb = 0 ∧ (s.box mb).openOk = false) →
        exec (.doorbellAck acc mb) s = .next (wrap (pre.updBox mb fun b => { b with st := .owned, age := 0 })).settle) ∧
      (mb = 0 ∧ (s.box mb).openOk = false →
        exec (.doorbellAck acc mb) s = .next (wrap (pre.freeBox mb)).settle)) ∧
    (∀ off data, off + data.length ≤ 0x1000 → data ≠ [] →
      Carried s acc (0x10000 + 0x2000 * mb + off) data ep who pre wrap →
      (s.box mb).ep = ep → (s.box mb).st = .owned ∨ (s.box mb).st = .done →
      ∃ t, exec (.registerWrite acc (0x10000 + 0x2000 * mb + off) data) s = .next (wrap t).settle ∧
        t = pre.updBox mb fun b => { b with
          req := patch b.req off data, age := 0
          writers := if b.writers.contains who then b.writers else b.writers ++ [who] })) ∧
  ∀ (s : State) (addr : Nat), WindowReads s addr

/-- 12 R348, R349, R354, R355, 01 R21, 15 R417: the mailbox and session timeouts. A request not answered within 100 ms, or
whose fabric transfer has waited one Tc behind a higher class, is answered RETRY and nothing is done; a mailbox not touched for 60 s is freed; a
session idle for 600 s ends; a provisional session of 10 s is discarded; a self-test without its transfer is abandoned. -/
def Obligations.MailboxTimeoutsComplete : Prop :=
  ∀ (s : State) (mb : Nat),
    (s.serving = true → (s.box mb).st = .posted → (s.box mb).rung + 100 ≤ s.time.ot →
      exec (.commandResponseTimeout mb) s = .next (s.respond mb 0x80B0 []).settle) ∧
    (s.serving = true → (s.box mb).st = .posted → (s.box mb).rung + s.set.tc ≤ s.time.ot →
      exec (.fabricGrantTimeout (.service mb)) s = .next (s.respond mb 0x80B0 []).settle) ∧
    (∀ t, s.be.test = some t → t.running = true → t.asked + s.set.tc ≤ s.time.ot →
      exec (.fabricGrantTimeout .selfTest) s = .next (s.abandonTest 0x80B0 6)) ∧
    ((s.box mb).st = .owned ∨ (s.box mb).st = .done → 60000 ≤ (s.box mb).age →
      exec (.mailboxAgeTimeout mb) s = .next (s.freeBox mb)) ∧
    (∀ x ∈ s.mail.sessions, 600000 ≤ x.idle → exec (.sessionIdleTimeout x.id) s = .next (s.endSession x.id)) ∧
    (∀ p, s.mail.prov = some p → 10000 ≤ p.age → exec .authTimeout s = .next s.dropProv)

/-- 12 R355: a session that ends leaves no session of its number, no pending first step of it, and no read cursor of it; a
cold frame it owned is emptied unless an apply of it has been accepted. -/
def Obligations.SessionEndLeavesNothing : Prop :=
  ∀ (s : State) (id : Nat), s.mail.sessions.any (·.id == id) = true →
    let t := s.endSession id
    t.mail.sessions = s.mail.sessions.filter (fun y => !(y.id == id)) ∧
    (∀ f ∈ t.mail.steps, f.session ≠ id) ∧
    (∀ c, t.recs.cursor = some c → c.session ≠ id) ∧
    (s.stage.owner = id → s.stage.apply = none → s.stage.applying = none → t.stage.owner = 0 ∧ t.stage.entries = []) ∧
    (∀ u, t.upd.sess = some u → u.mailSession ≠ id)

/-! ### The vital cycle -/

/-- 01 R32, 04 R122 to R127, 05 R149 to R152, 08 R236, R237: a slot of the vital cycle. The first due mark of a slot is
kept, the second starts the slot; the exchange votes the ACTIVE lanes' forms, withdraws a single lane in the minority, and
stops the module where no majority is left; telegrams go out one by one with two lanes' safety codes, checked by the
third. -/
def Obligations.VitalCycleCompletes : Prop :=
  ∀ (s : State), s.pow.on = true → s.cycling = true →
    (∀ lane env, s.tcCounted lane env = true → s.pow.split = false → s.isActive lane = true →
      (s.lane lane).ring = true →
      ∃ d, d = s.updLane lane (fun x => { x with due := true }) ∧
        exec (.dueMark lane env) s = .next
          (if (d.actives.filter fun l => (d.lane l).due).length < 2 then d else d.dueTime env)) ∧
    (∀ lane env, s.tcCounted lane env = true → s.pow.split = true → (s.lane lane).st = .split →
      (s.lane lane).ring = true → (s.lane lane).supply = true →
      exec (.dueMark lane env) s = .next (s.splitCycle lane env)) ∧
    (exec .overrunLimit s = .next s.overrunCheck) ∧
    (exec .safetyCodeFailLimit s = .next s.safetyLimit) ∧
    (∀ forms issued comp done, s.pow.split = false → s.cyc.phase = .idle →
      exec (.exchangeClose forms issued comp done) s = .next (s.postDone comp done).cycleEnd) ∧
    (∀ forms issued comp done, s.pow.split = false → s.cyc.phase ≠ .idle → s.cyc.phase ≠ .emit →
      voteHub s.actives (s.viewOf forms) = none →
      exec (.exchangeClose forms issued comp done) s = .next (State.stopModule
        (if s.computes = true ∧ s.cyc.graftslot = false then (s.stampForms forms).recordList 0x10
         else s.stampForms forms) (fXh 0x02))) ∧
    (∀ forms issued comp done out f, s.pow.split = false → s.cyc.phase ≠ .idle → s.cyc.phase ≠ .emit →
      voteHub s.actives (s.viewOf forms) = some (out, f) →
      ∃ d e, d = (s.stampForms forms).each out (fun s l => s.minority forms f l) ∧
        e = (d.shadow forms f).afterVote f issued ∧
        exec (.exchangeClose forms issued comp done) s = .next
          (if d.cycling = false then (if d.computes = true ∧ d.cyc.graftslot = false then d.recordList 0x10 else d)
           else if (e.telegrams f).isEmpty then
             (e.updCyc fun c => { c with tosend := e.telegrams f, phase := .emit }).cycleDone comp done
           else e.updCyc fun c => { c with tosend := e.telegrams f, phase := .emit })) ∧
    (∀ conn sc1 sc2 comp done t rest, s.cyc.tosend = t :: rest → s.cyc.phase = .emit → t.conn = conn →
      ∃ (k : ConnCfg) (d e : State), k = connOf s.set conn ∧ d = s.updCyc (fun c => { c with tosend := rest }) ∧
        (t.gvt.typ = 3 → e = d.release k t.gvt) ∧
        (t.gvt.typ ≠ 3 → s.rolesNow = none → e = d) ∧
        (∀ r, t.gvt.typ ≠ 3 → s.rolesNow = some r →
          e = if sc1.any (· != s.sc1 k t.gvt) || sc2.any (· != s.sc2 k t.gvt) then
              d.scFailed conn ((if sc1.any (· != s.sc1 k t.gvt) then [r.chk1, r.sc1] else []) ++
                (if sc2.any (· != s.sc2 k t.gvt) then [r.chk2, r.sc2] else [])).eraseDups
            else d.release k { t.gvt with sc1 := s.sc1 k t.gvt, sc2 := s.sc2 k t.gvt }) ∧
        exec (.telegramRelease conn sc1 sc2 comp done) s = .next
          (if rest.isEmpty && e.cycling then e.cycleDone comp done else e)) ∧
    (s.pair.closing = true → s.pair.st = .lead →
      exec .mcloseSend s = .next
        (((s.plSend (.mclose ⟨s.pair.report.pcyc, s.pair.nblocks, digestItems (s.pair.sending.flatMap (·.items)), true⟩)).plSend
          (.preport s.pair.report)).updPair fun p => { p with sending := [], closing := false })) ∧
    (∀ lane r, (s.lane lane).st = .resync → (s.lane lane).rsync = 1 → s.cyc.phase = .idle → s.allDone = true →
      r.half1 = true → r.half2 = true → r.whole = true →
      exec (.resyncCopy lane r) s = .next (s.updLane lane fun x => { x with rsync := 2, abandons := 0 })) ∧
    (∀ lane t, (s.lane lane).retryAt = some t → t ≤ s.time.ot →
      exec (.resyncRetry lane) s = .next (s.updLane lane fun x => { x with retryAt := none })) ∧
    (∀ lane, (s.lane lane).st = .resync → (s.lane lane).rsync = 4 →
      exec (.rejoin lane) s = .next (s.updLane lane fun x => { x with rsync := 5 }))

/-! ### Lanes and regions -/

/-- 05 R146 to R148, R162, R163, R176: a lane's own checks. A core mismatch withdraws the lane (in split mode the
comparators are bypassed); the arbitration self-test decides between a restart check, the wait for a restart and the
latch-out, and leaves the fault flag of each core that failed; a restart check that passes releases the lane's CV
hedges. -/
def Obligations.LaneChecksComplete : Prop :=
  ∀ (s : State) (lane : Lane), s.cmUp = true →
    (∀ input core0 core1, s.pow.split = false → exec (.comparatorMismatch ⟨lane, input, core0, core1⟩) s = .next
      (if tokensDiffer (s.lane lane).outDelay.snd core1 then s.collectOpen 1 lane.num 0x01 0 6 3
       else s.updLane lane fun x => { x with
         outDelay := ⟨core0, (s.lane lane).outDelay.fst⟩, inDelay := ⟨input, (s.lane lane).inDelay.fst⟩ })) ∧
    (∀ input core0 core1, s.pow.split = true → exec (.comparatorMismatch ⟨lane, input, core0, core1⟩) s = .next s) ∧
    (∀ core0 core1 cmp, (s.lane lane).arb = true → (s.lane lane).st = .withdrawn →
      ∃ d, d = s.updLane lane (fun x => { x with faultcore := ⟨x.faultcore.fst || !core0, x.faultcore.snd || !core1⟩ }) ∧
        exec (.arbitrationSelfTestDone lane core0 core1 cmp) s = .next
          (if core0 = false ∧ core1 = false then (d.updLane lane fun x => { x with arb := false }).latchOut lane
           else if core0 = true ∧ core1 = true ∧ (d.lane lane).latched = true then
             d.updLane lane fun x => { x with arb := false }
           else if core0 = true ∧ core1 = true ∧ cmp = true then
             d.updLane lane fun x => { x with arb := false, rcheck := true, hold := .checking }
           else d.updLane lane LaneSt.untilRestart)) ∧
    ((s.lane lane).arb = true → exec (.arbitrationSelfTestTimeout lane) s = .next (s.latchOut lane)) ∧
    (∀ cmpOk bankOk, (s.lane lane).st = .withdrawn → (s.lane lane).rcheck = true → (s.lane lane).arb = false →
      (s.lane lane).turn = false → (s.lane lane).latched = false → (s.lane lane).supply = true →
      exec (.restartCheckDone lane cmpOk bankOk) s = .next
        (if cmpOk = false then
           (s.updLane lane LaneSt.untilRestart).actLane lane
         else if bankOk = false then s.updLane lane fun x => { x with reload := true }
         else if (s.lane lane).reload = true then
           s.updLane lane fun x => { x with reload := false, tables := s.image.tables.get lane }
         else (s.dropHedges fun h => h.kind == .cv && h.index / 8 == lane.num).updLane lane fun x =>
           { x with rcheck := false, reload := false, hold := .waiting, cvhedge := [] })) ∧
    (s.cycling = true → s.cyc.started = true → (s.lane lane).done = false →
      exec (.progressTimeout lane) s = .next (s.collect (fLaneBlk lane 0x08 0x01))) ∧
    (∃ d, d = s.updLane lane (fun x => { x with ring := false, drive := 0 }) ∧
      exec (.laneStall lane) s = .next
        (if 2 ≤ (d.actives.filter fun l => (d.lane l).ring).length then d else d.dropEffs (List.range 48))) ∧
    (3 ≤ (s.wdsNow lane).length → exec (.laneLatchOut lane) s = .next (s.latchOut lane)) ∧
    (exec (.withdrawalWindowExpiry lane) s = .next (s.updLane lane fun x => { x with wds := s.wdsNow lane })) ∧
    (∀ core, exec (.cacheError lane ⟨core, .corrected⟩) s =
      .next (s.ofCore lane core fun s => s.collectOpen 1 lane.num 0x01 0 20 1)) ∧
    (∀ core, exec (.cacheError lane ⟨core, .uncorrectable⟩) s =
      .next (s.ofCore lane core fun s => s.collectOpen 1 lane.num 0x01 0 6 3)) ∧
    (∀ core, exec (.cacheError lane ⟨core, .parity⟩) s =
      .next (s.ofCore lane core fun s => s.collectOpen 1 lane.num 0x01 0 6 3)) ∧
    (∀ upper, exec (.memoryScrubError lane ⟨upper, true⟩) s =
      .next (s.ofCore lane upper fun s => s.collectOpen 1 lane.num 0x04 0 21 1)) ∧
    (∀ upper, exec (.memoryScrubError lane ⟨upper, false⟩) s =
      .next (s.ofCore lane upper fun s => s.collectOpen 1 lane.num 0x04 0 22 3))

/-- 01 R12 to R15, R19 to R31: supplies, timebases, the token and the dual-rail codes. A lane that loses its supply is
withdrawn; the commons without supply drive nothing more; the service region without supply restarts and later comes
back; an illegal dual-rail code is a fault event of its block. -/
def Obligations.RegionEventsComplete : Prop :=
  ∀ (s : State), s.cmUp = true →
    (∀ lane, (s.lane lane).supply = true →
      exec (.laneSupplyLoss lane) s = .next ((s.collect (fLane lane 0x08)).updLane lane LaneSt.unfed)) ∧
    (∀ lane, (s.lane lane).supply = false →
      exec (.laneSupplyReturn lane) s = .next (s.updLane lane fun x =>
        if x.st == .withdrawn && x.hold == .none && !x.latched && s.pow.mod != .boot then
          { x with supply := true, hold := .checking, rcheck := true }
        else { x with supply := true })) ∧
    (∃ d, d = s.collectOpen 3 3 0x1C 0 17 4 ∧
      exec .commonsSupplyLoss s = .next { d with pow := { d.pow with commons := false } }) ∧
    (s.pow.service = true → ∃ d, d = (if s.pow.sv = true then s.serviceRestart false else s) ∧
      exec .serviceSupplyLoss s = .next { d with pow := { d.pow with service := false } }) ∧
    (s.pow.sv = false → ∃ d, d = { s with pow := { s.pow with service := true, svBoot := false } } ∧
      exec .serviceRegionReturn s = .next (if s.pow.svBoot = false then d.serviceUp.bootRecord 3 0 else d.serviceUp)) ∧
    (∀ offs, (Lane.all.filter fun l => tcxoOff (offs.get l)).length ≠ 3 → s.cyc.tcxolost = false →
      exec (.timebaseTrim offs) s = .next (s.each Lane.all fun s l => s.updLane l (LaneSt.trimBy (offs.get l)))) ∧
    (∀ offs, (Lane.all.filter fun l => tcxoOff (offs.get l)).length = 3 → s.cyc.tcxolost = false →
      exec (.timebaseTrim offs) s = .next
        ((s.each Lane.all fun s l => s.collectOpen 1 l.num 0x06 0 18 1).updCyc fun c => { c with tcxolost := true })) ∧
    (exec .tokenOverrun s = .next
      (s.passToken.collectOpen 2 s.cyc.token.region 0 0 23
        (Config.openClass 0 % 6))) ∧
    (exec .tokenRegenerate s = .next ((s.updCyc fun c => { c with token := .la, tokencnt := 0 }).collectOpen 3 3 0x1C 0 19 1)) ∧
    (∀ region block, blockIn region block = true → block ≠ 0x1D →
      exec (.illegalDualRailCode region block) s = .next (s.collect ⟨1, region, block, 0, 0xE0⟩)) ∧
    (∀ region, blockIn region 0x1D = true → exec (.illegalDualRailCode region 0x1D) s = .next (s.collect (fMf 0x02)))

/-! ### Fault collection -/

/-- 10 R285 to R304: the collector's events. A numbered fault event is collected; an escalation is collected where its
count reaches N; a report of block SP with a detector that the manual does not number is a fault of its firmware, of class
F1, and the request at the head is answered INTERNAL (log 142); windows that have passed forget their entries; acknowledgements and the grace timer end the wait for
the lanes, and a lane that has not acknowledged in time is itself reported; a block that does not settle is not
released. -/
def Obligations.FaultEventsComplete : Prop :=
  ∀ (s : State),
    (∀ f, s.cmUp = true → numbered f = true → exec (.faultEventCollected f) s = .next (s.collect f)) ∧
    (∀ f, s.cmUp = true → numbered f = false → located f = true → f.block ≠ 0x20 → exec (.faultEventCollected f) s =
      .next (s.collectFull f (Config.openClass (fword f + 1) % 6) none none none).2) ∧
    (∀ f d, s.cmUp = true → numbered f = false → located f = true → f.block = 0x20 →
      d = (s.collectFull f 1 none none none).2 →
      (∀ mb, d.serving = true → d.nextBox = some mb →
        exec (.faultEventCollected f) s = .next (d.respond mb 0x80F0 []).settle) ∧
      (d.serving = false ∨ d.nextBox = none → exec (.faultEventCollected f) s = .next d)) ∧
    (∀ f, s.cmUp = true → numbered f = true → s.reachesN f 1 = true → exec (.escalation f) s = .next (s.collect f)) ∧
    (∀ f, exec (.escalationWindowExpiry f) s = .next { s with flt := { s.flt with
      esc := s.flt.esc.filter fun e => !(e.fsid == f && e.last + (detSettings s f 1).2.2.2 ≤ s.time.ot) } }) ∧
    (s.pow.mod = .safe → exec .safeCountLimit s = .next s.safeLimit) ∧
    (exec .safeCountWindowExpiry s = .next { s with flt := { s.flt with safes := s.safesNow } }) ∧
    (∀ lane seq, exec (.eventAck lane seq) s = .next { s with flt := { s.flt with
      grace := (s.flt.grace.map (GraceT.ack lane seq)).filter fun g => !g.wait.isEmpty } }) ∧
    (∀ seq g, s.flt.grace.find? (fun g => g.seq == seq && g.due ≤ s.time.ot) = some g →
      ∃ d late, d = { s with flt := { s.flt with grace := s.flt.grace.filter fun x => !(x.seq == seq) } } ∧
        late = g.wait.filter s.isActive ∧
        exec (.graceExpiry seq) s = .next
          (if late.length + 2 ≤ s.nActive then
             d.each late fun s l => (s.collectFull (fLaneBlk l 0x08 0x20) 3 (some seq) none none).2
           else if late.isEmpty then d
           else ((d.each late (State.graceOut · seq)).collectFull (fMf 0x04) 4 (some seq) none none).2)) ∧
    (∀ block pass x, s.flt.shadows.find? (fun x => x.block == block && x.due ≤ s.time.ot) = some x →
      ∃ d, d = { s with flt := { s.flt with shadows := s.flt.shadows.filter fun y => !(y.block == block) } } ∧
        exec (.settleWindowEnd block pass) s = .next
          (if pass = true then d.updHedges (fun h => h.ofReset [block]) fun h => { h with lifting := true }
           else (d.dropHedges fun h => h.ofReset [block]).notSettled block (some x.seq))) ∧
    (∀ agree illegal conducting, s.cmUp = true →
      ∃ d, d = (if agree = false ∨ illegal = true then s.collect (fMf 0x02) else s) ∧
        exec (.mfSelfCheck agree illegal conducting) s = .next
          (if ∃ l ∈ Lane.all, conducting.get l = true ∧ (d.lane l).gate = false then d.collect (fMf 0x03) else d)) ∧
    (s.cycling = true → s.nActive = 2 → s.set.duolim ≠ 0 → s.set.duolim * 3600000 ≤ s.cyc.duoelap →
      exec .duoLimit s = .next (s.collectOpen 3 3 0x1D 0 24 4)) ∧
    (∀ lane, s.cycling = true → s.cyc.mode = .hold → s.isActive lane = true →
      s.cyc.holdstart + s.set.holdlim * 10 ≤ s.time.ot →
      ∃ d, d = s.updLane lane (fun x => { x with holdhit := true }) ∧
        exec (.holdLimit lane) s = .next
          (if 2 ≤ (d.actives.filter fun l => (d.lane l).holdhit).length ∧ s.cyc.holdover = false then
             ((d.updCyc fun c => { c with holdover := true }).driveStep 0).fallSilent
           else d))

/-! ### Trellis timers and vital inputs -/

/-- Element `num`, found as `e0`, has become `e`: its type's display recomputed and its new faults raised. -/
def Sys2Proof.Machine.elemChanged (s : State) (num : Nat) (e0 e : Elem) : State :=
  (s.updElem num fun _ => reshow e).raiseElem num (newFaults e0 (reshow e))

/-- 02 R48 to R62, R70, R71: the elements' timers. A point that is not detected in the commanded position at its move-time
limit fails its move; a signal whose required aspect is not proved in time is dark with fault 0x0020; a cleared track
section becomes CLEAR after its clearing delay; an axle counter's reset is abandoned at its step limit; a level crossing
that is not proved closed in time has fault 0x0040; one that opens does so after its delay; a direction exchange that
is not granted in time fails. -/
def Obligations.ElementTimersComplete : Prop :=
  ∀ (s : State) (n : Nat) (e : Elem), s.elem? n = some e →
    (∀ b, e.body = .point b → b.movest = 1 → expR b.moveelap b.movepre = true → b.posdet ≠ b.poscmd →
      exec (.moveTimeLimit n) s = .next (elemChanged s n e { failMove e b with outcmd := 0 })) ∧
    (∀ b, e.body = .signal b → expR b.provelap b.provpre = true → held 0x0020 e = false →
      b.aspshown ≠ b.aspreq ∨ e.curin.getLsbD 4 ≠ (b.indreq == 1) →
      exec (.provingTime n) s = .next (elemChanged s n e { setFault 0x0020 e with outcmd := 0 })) ∧
    (∀ b, e.body = .tcsec b → e.work.validPrev = true → e.curin.getLsbD 0 = true → expP b.clrelap b.clrpre = true →
      exec (.clearingDelay n) s = .next (elemChanged s n e { e with body := .tcsec { b with occ := 0 } })) ∧
    (∀ b, e.body = .acsec b → e.work.validPrev = true → e.curin.getLsbD 0 = true → e.curin.getLsbD 1 = true →
      expP b.clrelap b.clrpre = true → b.occ = 1 ∨ (b.occ = 3 ∧ e.work.swept = true) →
      exec (.clearingDelay n) s = .next (elemChanged s n e { e with
        body := .acsec { b with occ := 0 }, work := { e.work with swept := false, sweepFell := false } })) ∧
    (∀ b, e.body = .acsec b → b.rststate ≠ 0 → expR b.rstelap b.rstpre = true →
      exec (.resetStepLimit n) s = .next (elemChanged s n e { abandonReset e b with outcmd := 0 })) ∧
    (∀ b, e.body = .lxing b → b.lxstate = 1 → e.work.validPrev = true → expR b.closeelap b.closepre = true →
      ¬ (e.curin.getLsbD 0 = true ∧ e.curin.getLsbD 1 = true ∧ e.curin.getLsbD 2 = true) →
      exec (.closeTimeLimit n) s = .next (elemChanged s n e
        (setFault 0x0040 { e with body := .lxing { b with lxstate := 4 }, outcmd := 0 }))) ∧
    (∀ b, e.body = .lxing b → e.lockcnt = 0 → e.claimcnt = 0 → expP b.openelap b.opendly = true →
      e.curin.getLsbD 2 = true → e.fltcode = 0 →
      exec (.openDelay n) s = .next (elemChanged s n e { e with outcmd := 1 })) ∧
    (∀ b, e.body = .blockif b → b.blkstate = 0 → e.outcmd.getLsbD 3 = true → expR b.direlap b.dirpre = true →
      exec (.directionExchangeLimit n) s = .next (elemChanged s n e { failExchange e with outcmd := 0 }))

/-- A route moved on by a timer: the state the chart gives it, its counts, what the move brings, and the words of the
elements it writes. -/
def Sys2Proof.Machine.routeMoved (s : State) (r : Nat) (t : RouteEntry) : State :=
  let c := s.cellRec r
  let new := s.moveRoute r t c none false none
  let d := ((s.updRoute r fun _ => new).recount t c new).afterMove r t c new (lifeCheck c none none).1
  { d with app := { d.app with elems := d.app.elems.map fun e => d.writeElem s e } }

/-- 03 R84 to R101: the routes' timers. A setting that is not proved in its time, a request that has waited its lifetime,
an approach lock and an overlap lock that have run their time move the route on as its chart says; a RELEASING route that
releases no group for 600 s is one fault event of class F1. -/
def Obligations.RouteTimersComplete : Prop :=
  ∀ (s : State) (r : Nat) (t : RouteEntry), s.entry? r = some t →
    ((s.cellRec r).rstate = 3 → expR (s.cellRec r).stelap t.setpre = true →
      exec (.settingTimeLimit r) s = .next (routeMoved s r t)) ∧
    ((s.cellRec r).rstate = 1 → t.reqpre ≠ 0 → expR (s.cellRec r).stelap t.reqpre = true →
      exec (.requestLifetime r) s = .next (routeMoved s r t)) ∧
    ((s.cellRec r).rstate = 7 ∨ ((s.cellRec r).rstate = 5 ∨ (s.cellRec r).rstate = 8) ∧ (s.cellRec r).flags.erl = true →
      alExpired t (s.cellRec r) = true → s.entryDanger t = true →
      exec (.approachReleaseTimer r) s = .next (routeMoved s r t)) ∧
    ((s.cellRec r).rstate = 8 → t.groups.length ≤ (s.cellRec r).reldone → (s.cellRec r).ovlused ≠ 0xFFFF →
      (∀ o, s.image.overlaps[(s.cellRec r).ovlused]? = some o → expP (s.cellRec r).olelap o.olrel = true) →
      s.image.overlaps[(s.cellRec r).ovlused]? ≠ none →
      exec (.overlapReleaseTimer r) s = .next (routeMoved s r t)) ∧
    ((∃ w ∈ s.flt.watch, w.route = r ∧ 600000 ≤ w.ms ∧ w.raised = false) →
      ∃ d : State, d = { s with flt := { s.flt with
          watch := s.flt.watch.map fun w => if w.route = r then { w with raised := true } else w } } ∧
        exec (.releasingTimeout r) s = .next (d.collect (d.routeFsid r 0x01)))

/-- 06 R181 to R199: the test frame and the input stages. Two lanes' slot marks start the next slot; the pulse of a slot's
cell is opened, and is ended by the checks that the supply fell, came back, and moved no other cell; a filter
takes a level that all of its samples show, with one tick of the cell's own pulse window held; a channel disagreement or a discrepancy of its limit is a fault; a
bank whose field supply leaves its limits reads OFF and is hedged until the supply has come back. -/
def Obligations.InputStagesComplete : Prop :=
  ∀ (s : State), s.pow.on = true →
    (∀ lane us ticks, s.markers.contains lane = true → (s.lane lane).slotmark = false →
      (s.frame.running = true → slotUs s.frame.tframe * 10 ≤ ticks) →
      ∃ d, d = s.updLane lane (fun l => { l with slotmark := true }) ∧
        exec (.slotMark lane ⟨us, ticks⟩) s = .next
          (if 2 ≤ (d.markers.filter fun l => (d.lane l).slotmark).length then d.nextSlot us (us - d.frame.firstMark.getD us)
           else { d with frame := { d.frame with firstMark := some us } })) ∧
    (∀ cell on, s.frame.running = true → s.frame.slot = cell → cell < 48 → (s.cell cell).under = false →
      s.frame.pulse = none →
      ∃ d, d = { s with frame := { s.frame with pulse := some cell } } ∧
        exec (.testPulseStart cell on) s = .next (d.each (List.range 48) fun s c =>
          s.each Lane.all fun s l => s.updCh c l fun ch => { ch with onslot := (on.get l).getLsbD c, ownTick := false })) ∧
    (∀ cell dropped, s.frame.pulse = some cell →
      exec (.testPulseEnd cell dropped) s = .next
        (s.pulseFault cell 0x04 (Lane.all.filter fun l => s.pulseCheck cell l && !dropped.get l))) ∧
    (∀ slot dropped recovered nextOn sxFell sxBack, s.frame.pulse = some slot →
      ∃ d e f, d = { s with frame := { s.frame with pulse := none } } ∧
        e = d.pulseFault slot 0x02 (Lane.all.filter fun l => d.pulseCheck slot l && (dropped.get l).getLsbD slot &&
          !(recovered.get l).getLsbD slot && (nextOn.get l).getLsbD slot) ∧
        f = (if cUsed (e.cellCfg slot) && !(e.cell slot).under && !(sxFell && sxBack)
          then e.pulseFault slot 0x03 e.sensing else e) ∧
        exec (.pulseWindowEnd slot dropped recovered nextOn sxFell sxBack) s = .next
          (f.each ((List.range 48).filter (· != slot)) fun s c =>
            let ls := Lane.all.filter fun l => s.pulseCheck c l && (dropped.get l).getLsbD c && (recovered.get l).getLsbD c
            if ls.isEmpty then s
            else (if s.fsvHedged (bankOf c) then s else s.updCell c fun x => { x with fslot := slot }).pulseFault c 0x05 ls)) ∧
    (∀ cell, cell < 48 → cUsed (s.cellCfg cell) = true → (s.cell cell).under = false →
      exec (.sxCurrentLimit cell) s = .next (s.pulseFault cell 0x03 s.sensing)) ∧
    (∀ lane cell samples, cell < 48 → cUsed (s.cellCfg cell) = true →
      exec (.inputFilterChange lane cell samples) s = .next
        ((s.updCh cell lane fun ch => samples.foldl
          (ChSt.sample (s.frame.pulse = some cell ∧ 600 < s.frame.tpulse) (cOut (s.cellCfg cell)) (s.cellCfg cell).tfilt) ch).pairTicks
          cell)) ∧
    (∀ (v : Bool) (tfilt : Nat) (ch : ChSt), tfilt < 256 →
      ((List.replicate (tfilt + 1) v).foldl (ChSt.sample false false tfilt) ch).filt = v ∧
      ((List.replicate (tfilt + 1) v).foldl (ChSt.sample false true tfilt) ch).fx = v ∧
      (ch.ownTick = false → ChSt.sample true false tfilt ch v = { ChSt.sample false false tfilt ch (ch.hist.headD v) with
        ownTick := true }) ∧
      (ch.ownTick = true → ChSt.sample true false tfilt ch v = ChSt.sample false false tfilt ch v)) ∧
    (∀ lane cell, s.isActive lane = true → 3 ≤ ((s.cell cell).ch.get lane).dis →
      exec (.channelDisagreement lane cell) s = .next ((s.updRels (RelSt.failFrame cell)).collect (fCell cell 0x01))) ∧
    (∀ lane cell t0, ((s.cell cell).ch.get lane).run = some t0 → cPair (s.cellCfg cell) = true →
      ((s.cell cell).ch.get lane).latch = false → s.pairSuspended cell = false →
      (s.pairAB cell lane).1 ≠ (s.pairAB cell lane).2 →
      (s.cellCfg cell).td * 10 ≤ s.time.ot - t0 →
      exec (.discrepancyFault lane cell) s = .next
        (s.updCh cell lane fun x => { x with latch := true, bothoff := false, run := none })) ∧
    (∀ bank high, bank < 6 →
      ∃ d e, d = s.updBank bank (fun b => { b with
          fsvOut := true, fsvBack := false, fsvFrame := false, fsvClean := false, step := none }) ∧
        e = d.each (cellsOf bank) (fun s c => (s.updCell c fun x => { x with ch := x.ch.map ChSt.endRun }).putEff c false) ∧
        exec (.bankSupplyTrip bank high) s = .next (e.collect (fBank bank (if high then 0x02 else 0x01)))) ∧
    (∀ bank, (s.bank bank).fsvOut = true →
      exec (.bankSupplyRecover bank) s = .next
        (s.updBank bank fun b => { b with fsvOut := false, fsvBack := true, fsvFrame := false, fsvClean := false }))

/-! ### Vital outputs -/

/-- 07 R213 to R225: the output rounds and the fault reactions of the output cells. Two lanes' round marks end one round
and start the next; a test position picks a cell and a path to test; the step's end checks the third path's
current or the midpoints; a path stuck in one state, a readback that is wrong, an overload and an over-temperature are
faults of the cell that cut the cell or its bank off. -/
def Obligations.OutputRoundsComplete : Prop :=
  ∀ (s : State), s.pow.on = true →
    (∀ lane, s.isActive lane = true → (s.lane lane).roundmark = false → s.roundCounted lane = true →
      ∃ d, d = s.updLane lane (fun l => { l with roundmark := true }) ∧
        exec (.roundMark lane) s = .next
          (if 2 ≤ (d.actives.filter fun l => (d.lane l).roundmark).length
            then (if d.frame.rounds then d.roundEnd else d).roundStart else d)) ∧
    (∀ cell lane, 3 ≤ (s.cell cell).missed.get lane →
      exec (.testNotCompleted cell lane) s = .next
        ((s.updCell cell fun x => { x with missed := x.missed.set lane 0 }).raiseOut cell 0x17)) ∧
    (∀ bank midOk, bank < 6 → s.frame.rounds = true → (s.bank bank).pos < 50 → (s.bank bank).step = none →
      s.frame.roundAt + 20 * (s.bank bank).pos ≤ s.time.ot → s.cycling = true →
      ∃ (d : State) (step : Option StepSt) (e : State), d = s.each (cellsOf bank) State.noteCounted ∧
        step = (match (d.jobAt bank).1 with | some (c, l) => d.stepFor c l midOk | none => none) ∧
        e = (match step with | some x => d.updBank bank (BankSt.served x.lane) | none => d) ∧
        exec (.testPosition bank midOk) s = .next (e.updBank bank fun x => { x with
          pos := x.pos + 1
          repeats := (d.jobAt bank).2
          step := step
          hedgedRound := x.hedgedRound || e.bankHedged bank })) ∧
    (∀ bank x current, (s.bank bank).step = some x → x.dark = true →
      ∃ d e, d = (s.updBank bank (BankSt.endStep x.lane)).updCell x.cell (CellSt.complete x.lane s.time.ot) ∧
        e = d.each [upperPath x.lane, lowerPath x.lane] (fun s p =>
          if current.get p then s.raiseNamed x.cell 0x10 (elemName x.lane p) else s) ∧
        exec (.darkStepEnd bank current) s = .next
          (if s.isActive (pathLanes (thirdPath x.lane)).1 && s.isActive (pathLanes (thirdPath x.lane)).2 &&
              !current.get (thirdPath x.lane) then e.raiseNamed x.cell 0x11 [pathNum (thirdPath x.lane)] else e)) ∧
    (∀ bank x mids current pxOn, (s.bank bank).step = some x → x.dark = false →
      ∃ (missed live : List Path) (d e f g : State),
        missed = (if mids.get (upperPath x.lane) = .high then [] else [upperPath x.lane]) ++
          (if mids.get (lowerPath x.lane) = .low then [] else [lowerPath x.lane]) ∧
        live = [Path.ab, Path.bc, Path.ca].filter current.get ∧
        d = (s.updBank bank (BankSt.endStep x.lane)).updCell x.cell (CellSt.complete x.lane s.time.ot) ∧
        e = (if missed = [] ∧ live = [] ∧ pxOn = false then d.updCell x.cell (CellSt.passLight x.lane) else d) ∧
        f = e.each live (fun s p => s.raiseNamed x.cell 0x10 (elemName (partner x.lane p) p)) ∧
        g = (if live = [] ∧ pxOn = true then f.raiseOut x.cell 0x10 else f) ∧
        exec (.lightStepEnd bank mids current pxOn) s = .next
          (g.each missed fun s p => s.raiseNamed x.cell 0x11 (elemName x.lane p))) ∧
    (∀ bank, bank < 6 → exec (.bankOvercurrent bank) s = .next ((s.cutBank bank).collect (fBank bank 0x04)))

/-- 07 R210, R219 to R228: the fault reactions of a used output cell. A Px sample is taken with its run of differing samples:
the third in succession is the fault. -/
def Obligations.OutputFaultsComplete : Prop :=
  ∀ (s : State) (cell : Nat), s.pow.on = true → cell < 48 → cOut (s.cellCfg cell) = true →
    (∀ path high, (s.cell cell).eff = false → (s.cell cell).under = false → s.stepping cell = false →
      s.railCut (bankOf cell) = false → (s.bank (bankOf cell)).fsvOut = false →
      exec (.midpointStuck cell path high) s = .next
        (s.raiseNamed cell 0x10 (elemName (if high then (pathLanes path).1 else (pathLanes path).2) path))) ∧
    (∀ path, (s.cell cell).under = false →
      ¬ (s.isActive (pathLanes path).1 = true ∧ s.isActive (pathLanes path).2 = true) →
      exec (.pathCurrentWithdrawn cell path) s = .next (s.raiseNamed cell 0x10
        (([(pathLanes path).1, (pathLanes path).2].filter fun l => !s.isActive l).flatMap fun l => elemName l path))) ∧
    (∀ lane samples n, (s.cell cell).under = false → s.stepping cell = false → (s.lane lane).st ≠ .withdrawn →
      ((s.cell cell).ch.get lane).settle ≤ s.time.ot → n = s.time.ot + 1 - ((s.cell cell).ch.get lane).settle →
      exec (.readbackFault lane cell samples) s = .next
        ((s.each (samples.drop (samples.length - n)) fun s v => s.readOne cell lane v).updBank (bankOf cell)
          (BankSt.served lane))) ∧
    (∀ lane v d, (s.cell cell).under = false → d = s.updCh cell lane (ChSt.readPx (s.cell cell).eff v) →
      (((d.cell cell).ch.get lane).diff ≠ 3 → s.readOne cell lane v = d) ∧
      (((d.cell cell).ch.get lane).diff = 3 → (s.cell cell).eff = true → s.readOne cell lane v = d.raiseOut cell 0x12) ∧
      (((d.cell cell).ch.get lane).diff = 3 → (s.cell cell).eff = false → s.readOne cell lane v =
        (((((d.cutBank (bankOf cell)).updBank (bankOf cell) (BankSt.watch d.time.ot cell)).updCell cell fun x =>
          { x with ch := x.ch.map fun ch => { ch with px := none } }).raiseOut cell 0x13).collect
            (fBank (bankOf cell) 0x05)))) ∧
    (∀ t cells, (s.bank (bankOf cell)).cutoff = some (t, cells) → cells.contains cell = true → t + 10 ≤ s.time.ot →
      (s.bank (bankOf cell)).prot = true →
      exec (.externalVoltage cell) s = .next
        (((s.updBank (bankOf cell) fun b => { b with cutoff := some (t, cells.filter (· != cell)) }).updCell cell fun x =>
          { x with ch := x.ch.map (ChSt.readPx false true) }).raiseOut cell 0x18)) ∧
    (∀ cause, exec (.overloadTrip cell cause) s = .next
      ((((State.setEff (s.updCell cell fun x => { x with prot := true }) cell).dropSteps [cell]).cutTest [cell]).raiseOut cell 0x14)) ∧
    (exec (.clampOvertemp cell) s = .next
      ((((State.setEff (s.updCell cell fun x => { x with prot := true }) cell).dropSteps [cell]).cutTest [cell]).raiseOut cell 0x15)) ∧
    (∀ lane, s.fbDiffers cell lane = true → (s.cell cell).under = false → s.markers.contains lane = true →
      s.fbEnd cell lane ≤ s.time.ot →
      exec (.feedbackMismatch lane cell) s = .next ((s.updRels (RelSt.failOn cell)).raiseOut cell 0x16))

/-! ### Telegrams, rings and the switch -/

/-- 08 R229 to R249, 01 R36: a GVT frame that reaches the TG. One of this module's own address is dropped, and a foreign
serial number under it is the duplicate-address event; a frame for an identified connection that passes the checks
of R242 waits with its copy of the other network or is judged; any other is discarded and counted. The other events of
this statement: a copy whose twin has not come within SKEW; a network silent for 1,000 ms while the other is
not. -/
def Obligations.TelegramsComplete : Prop :=
  ∀ (s : State), s.cmUp = true →
    (∀ net f us, s.netUp net = true → s.tgReset = false → isGvt f = true → f.gvt.src.toNat = s.id.modaddr →
      exec (.frameReceived net f us) s = .next
        (if f.gvt.serial ≠ s.id.serial ∧ f.fcsOk = true then s.duplicate else s)) ∧
    (∀ net f us, s.netUp net = true → s.tgReset = false → isGvt f = true → f.gvt.src.toNat ≠ s.id.modaddr → 1 ≤ f.gvt.typ →
      f.gvt.typ ≤ 3 → ¬ (f.gvt.typ = 2 ∧ f.gvt.conn = 0 ∧ s.paired = true) → s.frameOk net f = true →
      ∀ k p, s.identify f.gvt = some (k, p) →
        exec (.frameReceived net f us) s = .next
          (if f.gvt.len = k.len ∧ f.gvt.payload.length = f.gvt.len ∧ s.macOk k f.gvt = true then
             s.arrive k p ⟨f.gvt, s.time.ot * 1000 + us % 1000, net⟩
           else s.discard f.gvt)) ∧
    (∀ net f us, s.netUp net = true → s.tgReset = false → isGvt f = true → f.gvt.src.toNat ≠ s.id.modaddr →
      f.gvt.typ ≠ 8 → f.gvt.typ ≠ 9 → f.gvt.typ ≠ 0xE → ¬ (f.gvt.typ = 2 ∧ f.gvt.conn = 0 ∧ s.paired = true) →
      ¬ (1 ≤ f.gvt.typ ∧ f.gvt.typ ≤ 3 ∧ s.frameOk net f = true) →
      exec (.frameReceived net f us) s = .next (s.discard f.gvt)) ∧
    (∀ conn peer2 c k x, s.conn? conn = some c → s.connCfg? conn = some k → c.held.sel peer2 = some x →
      x.arrival + k.skew * 100 < (s.time.ot + 1) * 1000 →
      exec (.skewExpiry conn peer2) s = .next
        (s.updConn conn fun c => { c.present s.paired peer2 x with held := c.held.upd peer2 none })) ∧
    (∀ conn c r, s.conn? conn = some c → s.recv? conn = some r → r.cstate = 2 →
      (s.time.ot - c.lastnet.at .a ≥ 1000 → s.time.ot - c.lastnet.at .b < 1000 → c.silent.fst = false →
        exec (.oneNetworkSilent conn) s = .next
          ((s.updConn conn fun c => { c with silent := c.silent.put .a true }).collect (fConn conn 0x07))) ∧
      (s.time.ot - c.lastnet.at .b ≥ 1000 → s.time.ot - c.lastnet.at .a < 1000 → c.silent.snd = false →
        exec (.oneNetworkSilent conn) s = .next
          ((s.updConn conn fun c => { c with silent := c.silent.put .b true }).collect (fConn conn 0x07))))

/-- 08 R231 to R235: the switch and the ring. The ring manager sends a RINGTEST and takes its return; a break opens the
blocked port, a ring unbroken for 100 ms blocks it again; any other station of the ring passes RINGTEST on; the
switch learns, forwards, and forgets an address not heard for 300 s. -/
def Obligations.RingAndSwitchComplete : Prop :=
  ∀ (s : State) (net : Net), s.cmUp = true →
    (s.manager net = true → s.netUp net = true → (∀ t, (s.net net).ringsent = some t → t + 2 ≤ s.time.ot) →
      exec (.ringtestSend net) s = .next (s.ringSend net 1)) ∧
    (∀ port2 f, s.netUp net = true → (s.net net).link.sel port2 = true → f.fcsOk = true → f.lengthOk = true →
      f.gvt.ver = 1 → f.gvt.typ = 0xE → crcOkGvt f.gvt = true → s.carriageOk net f = true → reservedOk f.gvt = true →
      (f.gvt.src.toNat = s.id.modaddr → f.gvt.serial ≠ s.id.serial →
        exec (.ringtestReceived net port2 f) s = .next s.duplicate) ∧
      (f.gvt.src.toNat ≠ s.id.modaddr ∨ f.gvt.serial = s.id.serial → s.manager net = true → exec (.ringtestReceived net port2 f) s = .next
        (if port2 = true ∧ f.gvt.src.toNat = s.id.modaddr then s.updNet net (NetSt.ringBack s.time.ot) else s)) ∧
      (f.gvt.src.toNat ≠ s.id.modaddr ∨ f.gvt.serial = s.id.serial →
        s.manager net = false → (s.set.nets.at net).ringmode = 1 → exec (.ringtestReceived net port2 f) s = .next
        (State.updNet (if f.gvt.payload.head? = some 2 then s.updNet net NetSt.flush else s) net
          fun x => (x.learn f.srcMac (if port2 then 2 else 1) s.time.ot).queueTo f (if port2 then 1 else 2)))) ∧
    (s.manager net = true → (s.net net).blocked = true → (∀ t, (s.net net).ringlast = some t → t + 6 ≤ s.time.ot) →
      ∃ d e, d = s.updNet net (fun x => { x.flush with blocked := false, closed := false, ringsince := none }) ∧
        e = d.collectOpen 1 3 (match net with | .a => 0x17 | .b => 0x18) 0 3 1 ∧
        exec (.ringBreak net) s = .next (e.ringSend net 2)) ∧
    (∀ t u, s.manager net = true → (s.net net).blocked = false → (s.net net).ringsince = some t → t + 100 ≤ s.time.ot →
      (s.net net).ringlast = some u → s.time.ot < u + 6 →
      exec (.ringClose net) s = .next (s.updNet net fun x => { x with blocked := true, closed := true })) ∧
    (∀ port2 up, exec (.ethernetLinkChange net port2 up) s = .next
      (s.updNet net fun x => { x with link := x.link.upd port2 up })) ∧
    (∀ port2 f, s.netUp net = true → f.fcsOk = true → f.lengthOk = true → isGvt f = false ∨ f.gvt.typ ≠ 0xE ∨ (s.set.nets.at net).ringmode = 0 →
      exec (.switchForwarding net port2 f) s = .next (s.updNet net (NetSt.forward s.time.ot port2 f))) ∧
    (∀ mac, exec (.learnedAddressAgeing net mac) s = .next (s.updNet net fun x => { x with
      learned := x.learned.filter fun l => !(l.mac == mac && s.time.ot ≥ l.ot + 300000) }))

/-! ### The pair -/

/-- 09 R263 to R283: the pair link and its health. A working link hands on, the first copy of each, the pacer's cycle start, the mirror blocks, the
close, the report and forwarded commands; a heartbeat with valid codes carries the partner's report too; the loss of a
link is a fault event; the wait and hold-off timers, a silent partner, three cycles in step and a claim conflict
change this member's pair state as the chart says. -/
def Obligations.PairMessagesComplete : Prop :=
  ∀ (s : State), s.pairOn = true → s.plWorks = true →
    (∀ m us, m.crcOk = true → ¬ (s.pair.pacer = true ∧ s.pair.st = .lead) → s.pair.tookStart ≠ some m.pcyc →
      exec (.pstartReceived m us) s = .next (s.updPair fun p => { p with
        pstart := some (m, s.time.ot * 1000 + us), pacer := false, tookStart := some m.pcyc })) ∧
    (∀ m us, s.pair.pacer = true → s.pair.st = .lead → exec (.pstartReceived m us) s = .next s) ∧
    (∀ m us, s.pair.tookStart = some m.pcyc → exec (.pstartReceived m us) s = .next s) ∧
    (∀ m us, m.crcOk = false → exec (.pstartReceived m us) s = .next s) ∧
    (∀ m, s.pair.st ≠ .lead → exec (.mblockReceived m) s = .next
      (if m.crcOk = false ∨ (∃ b ∈ s.pair.blocks, b.pcyc = m.pcyc ∧ b.index = m.index) ∨
          (∃ b ∈ s.pair.blocks, serialAfter 64 b.pcyc m.pcyc = true) then s
       else s.updPair fun p => { p with blocks := (p.blocks.filter fun b => b.pcyc == m.pcyc) ++ [m] })) ∧
    (∀ m, exec (.mcloseReceived m) s = .next
      (if m.crcOk = true ∧ s.pair.tookClose ≠ some m.pcyc then
        s.updPair fun p => { p with mclose := some m, tookClose := some m.pcyc, seenNow := true } else s)) ∧
    (∀ ok h, exec (.preportReceived ok h) s = .next 
      (if ok = true ∧ s.pair.tookReport ≠ some h.pcyc then
        s.updPair fun p => { p.learn h with tookReport := some h.pcyc } else s)) ∧
    (∀ c, exec (.cmdfwdReceived ⟨false, c⟩) s = .next s) ∧
    (∀ c, s.pair.tookCmd c.ref = true → exec (.cmdfwdReceived ⟨true, .op c⟩) s = .next s) ∧
    (∀ c, s.pair.tookCmd c.ref = false → exec (.cmdfwdReceived ⟨true, .op c⟩) s = .next
      { s with
        trl := { s.trl with
          ops := if s.trl.ops.length < 256 then s.trl.ops ++ [{ c with ref := { c.ref with here := false } }] else s.trl.ops }
        pair := { s.pair with fwd := s.pair.fwd ++ [c.ref] } }) ∧
    (∀ c, s.pair.tookCmd c.ref = true → exec (.cmdfwdReceived ⟨true, .force c⟩) s = .next s) ∧
    (∀ c, s.pair.tookCmd c.ref = false → exec (.cmdfwdReceived ⟨true, .force c⟩) s = .next
      { s with
        stage := { s.stage with
          forceWait := s.stage.forceWait ++ [⟨{ c with ref := { c.ref with here := false } }, 2⟩] }
        pair := { s.pair with fwd := s.pair.fwd ++ [c.ref] } }) ∧
    (∀ id, exec (.cmdfwdReceived ⟨true, .apply id⟩) s = .next 
      (s.updPair fun p => { p with farApply := some id, farOt := some s.time.ot })) ∧
    (exec (.cmdfwdReceived ⟨true, .levelReady⟩) s = .next (s.updPair fun p => { p with farReady := true }))

/-- 01 R36, 09 R264, R272 to R283, 10 R305: heartbeats, the pair link, and the pair's timers. A heartbeat of this module's
own address and another's serial number is a duplicate address. -/
def Obligations.PairTimersComplete : Prop :=
  ∀ (s : State), s.cmUp = true →
    (∀ net f, s.tgTakes net f = true → f.fcsOk = true → f.gvt.src.toNat = s.id.modaddr →
      f.gvt.serial ≠ s.id.serial → exec (.heartbeatReceived net f) s = .next s.duplicate) ∧
    (∀ net f, s.pairOn = true → s.handedOn net f = true →
      f.gvt.src.toNat ≠ s.id.modaddr → exec (.heartbeatReceived net f) s = .next
      (if s.hbOk f.gvt then s.updPair fun p => { p.learn (healthOf f.gvt.payload) with
        hblast := some (f.gvt.seq, f.gvt.alive, pstamp f.gvt, f.gvt.serial, f.gvt.epoch)
        sawJoining := p.sawJoining || (healthOf f.gvt.payload).pstate == 1 } else s)) ∧
    (∀ link2, s.pair.plup.sel link2 = true → exec (.plLinkLoss link2) s = .next
      ((s.updPair (setLink link2 false)).collectOpen 1 3 0x19 0 14 1)) ∧
    (∀ link2 k, s.pair.optic.sel link2 = some k → k ≠ .other → s.image.role ≠ 3 → exec (.plLinkReturn link2) s = .next
      (s.updPair (setLink link2 true))) ∧
    (∀ link2 kind, ∃ d, d = s.updPair (fun p =>
        setLink link2 (kind != .other && s.image.role != 3) { p with optic := p.optic.upd link2 (some kind) }) ∧
      exec (.opticInserted link2 kind) s = .next
        (if kind = .other then d.collect ⟨1, 3, 0x19, 0, 0x10⟩ else d)) ∧
    (s.pairOn = true → s.partnerSilent = true → s.mayTake = true → exec .partnerSilent s = .next s.takeLead) ∧
    (s.pairOn = true → 3 ≤ s.pair.instep → s.pair.st = .joining ∨ s.pair.st = .followOut → exec .inStep s = .next
      (((s.updPair fun p => { p with stale := false, since := some s.time.ot, joinOt := none }).setPair .followIn).setMod
        .service)) ∧
    (s.pairOn = true → s.pair.st = .lead → 3 ≤ s.pair.both → exec .leadClaimConflict s = .next
      (((s.updPair fun p => { p with both := 0, instep := 0, since := none }).setPair .followOut).collectOpen 1 3 0x19 0 15 2)) ∧
    (∀ t, s.pairOn = true → s.pair.st = .joining → s.set.pair.prole = 1 → s.pair.sawLead = false →
      s.pair.sawJoining = true → s.pair.joinOt = some t → s.set.pair.joinwait * 1000 ≤ s.time.ot - t →
      exec .joinWaitExpiry s = .next ((s.coldStart.leadWith (nextEpoch s.coldStart.pair.stored)).updPair fun p =>
        { p with joinOt := none, committed := true })) ∧
    (s.mayReturn = true → exec .revertHoldOff s = .next (s.updPair fun p => { p with returnDue := true })) ∧
    (∀ a t, s.pairBound = true → s.stage.apply = some a → a.listed = false → s.pair.applyOt = some t →
      s.pair.farApply ≠ some s.stgId →
      5000 ≤ s.time.ot - t → exec .pairApplyTimeout s = .next
        (State.complete { s with
          stage := { s.stage with apply := none, pendingGen := none, st := .opened }
          pair := { s.pair with applyOt := none } } a.ref 0x80B0 []))

/-! ### The span bridge and the tunnels -/

/-- The completion of an inbound transfer. -/
def Sys2Proof.Machine.bridgeAnswer (s : State) (g : Gvt) (bop len addr st : Nat) (d : Bytes) : Gvt :=
  withCrc (s.newGvt 8 g.src.toNat 0 g.seq 0 (bridgePayload (bop + 0x80) st len addr d))

/-- 13 R365 to R374: local transfers of the service processor, and the timers of a transfer. A refused request is
answered at once with its far-side status; a posted write that the bridge cannot carry fails as a posted write; a write is
taken into an outbound slot, or answered BUSY where all 32 are used; a read takes its held result, else is answered RETRY
and fetched. A transfer without a completion after its WTOUT times out; one answered BUSY is sent again after 1 ms; a
result held 50 ms is discarded and counted. -/
def Obligations.BridgeTransfersComplete : Prop :=
  ∀ (s : State), s.cmUp = true →
    (s.pow.sv = true →
      (∀ win off data, exec (.sbWrite win off data) s = .next
        (match s.sbRefusal .sp win off 2 data.length with
        | some st => s.sbAnswer .sp win off 2 st (st == 3) []
        | none => (s.spoil win off data.length).sbTake .sp win off 2 data.length data)) ∧
      (∀ win off data, exec (.sbPostedWrite win off data) s = .next
        (match s.sbRefusal .sp win off 3 data.length with
        | some st => if st = 5 then s.postedOff win off data else s.sbAnswer .sp win off 3 st (st == 3) []
        | none => (s.spoil win off data.length).sbTake .sp win off 3 data.length data)) ∧
      (∀ win off len st, s.sbRefusal .sp win off 1 len = some st →
        exec (.sbRead win off len) s = .next (s.sbAnswer .sp win off 1 st (st == 3) [])) ∧
      (∀ win off len h, s.sbRefusal .sp win off 1 len = none →
        s.bridge.held.find? (sameRead .sp win off len) = some h →
        exec (.sbRead win off len) s = .next
          ((s.updBridge fun b => { b with held := b.held.filter fun x => !sameRead .sp win off len x }).sbAnswer
            .sp win off 1 h.fstat false h.data)) ∧
      (∀ win off len, s.sbRefusal .sp win off 1 len = none → s.bridge.held.find? (sameRead .sp win off len) = none →
        (∀ x ∈ s.fetching, ¬ (x.ini = .sp ∧ x.win = win ∧ x.off = off ∧ x.len = len)) →
        s.bridge.held.length + s.fetching.length < 32 → s.bridge.out.length < 32 →
        exec (.sbRead win off len) s = .next ((s.sbAnswer .sp win off 1 0 true []).sbTake .sp win off 1 len []))) ∧
    (∀ seq x t, s.bridge.out.find? (·.seq == seq) = some x → x.sent = some t → t + x.wtout ≤ s.time.ot →
      exec (.sbTransferTimeout seq) s = .next
        (((s.updBridge fun b => { b with
            cnttout := satInc 32 b.cnttout, timedOut := seq :: b.timedOut }).collect (fBlk 0x1A 0x02)).finishXfer
          x 4 [])) ∧
    (∀ seq x t, s.bridge.out.find? (·.seq == seq) = some x → x.busy = some t → t + 1 ≤ s.time.ot →
      exec (.sbBusyRetry seq) s = .next
        ((s.updBridge fun b => { b with out := modWhere (·.seq == seq) (Xfer.setBusy none) b.out }).sendXfer x)) ∧
    (∀ vk win off len h, h ∈ s.bridge.held → sameRead (if vk then .vk else .sp) win off len h = true →
      h.since + 50 ≤ s.time.ot →
      exec (.sbHeldResultExpiry vk win off len) s = .next
        ((s.updBridge fun b => { b with
          held := b.held.filter fun h => !(sameRead (if vk then .vk else .sp) win off len h && h.since + 50 ≤ s.time.ot)
          cntexp := satInc 32 b.cntexp }).collect (fBlk 0x1A 0x04)))

/-- 13 R365, R366, R369 to R373: a bridge frame of this module with a valid CRC. A request repeated by its module and
SEQ is answered from the kept completion and not made again; one that finds no inbound slot is answered BUSY and
counted; any other is executed, its completion kept and sent on both networks. A completion ends the transfer it
answers, or marks it BUSY; a late one is counted. -/
def Obligations.BridgeFramesComplete : Prop :=
  ∀ (s : State) (net : Net) (f : Frame), s.handedOn net f = true → f.gvt.typ = 8 → s.blockOut 0x1E = false →
    (f.gvt.src.toNat = s.id.modaddr → f.gvt.serial ≠ s.id.serial →
      exec (.bridgeFrameReceived net f) s = .next s.duplicate) ∧
    (f.gvt.src.toNat ≠ s.id.modaddr → crcOkGvt f.gvt = false → exec (.bridgeFrameReceived net f) s = .next s.tvFail) ∧
    (f.gvt.src.toNat ≠ s.id.modaddr → crcOkGvt f.gvt = true → s.sbOut = true →
      exec (.bridgeFrameReceived net f) s = .next s) ∧
    (f.gvt.src.toNat ≠ s.id.modaddr → crcOkGvt f.gvt = true → s.sbOut = false →
      ∀ bop len addr, bop = ofLe (slice f.gvt.payload 0 1) → len = ofLe (slice f.gvt.payload 2 2).reverse →
        addr = ofLe (slice f.gvt.payload 4 4).reverse →
      (bop = 1 ∨ bop = 2 ∨ bop = 3 →
        (∀ k, s.bridge.kept.find? (fun k => k.src == f.gvt.src.toNat && k.seq == f.gvt.seq) = some k →
          exec (.bridgeFrameReceived net f) s = .next (s.sendBoth none k.gvt)) ∧
        (s.bridge.kept.find? (fun k => k.src == f.gvt.src.toNat && k.seq == f.gvt.seq) = none →
          s.inSlot f.gvt.src.toNat = none →
          exec (.bridgeFrameReceived net f) s = .next
            ((s.updBridge fun b => { b with cntbusy := satInc 32 b.cntbusy, inctr := b.inctr + 1 }).sendBoth none
              (bridgeAnswer s f.gvt bop len addr 3 []))) ∧
        (∀ i st d e, s.bridge.kept.find? (fun k => k.src == f.gvt.src.toNat && k.seq == f.gvt.seq) = none →
          s.inSlot f.gvt.src.toNat = some i → s.serve bop addr len ((f.gvt.payload.drop 8).take len) = (st, d, e) →
          exec (.bridgeFrameReceived net f) s = .next
            ((e.updBridge fun b => { b.takeSlot i with
                cntresv := if i == 15 then satInc 32 b.cntresv else b.cntresv
                kept := keepDone ⟨f.gvt.src.toNat, f.gvt.seq, bridgeAnswer e f.gvt bop len addr st d⟩ b.kept }).sendBoth
              none (bridgeAnswer e f.gvt bop len addr st d)))) ∧
      (bop = 0x81 ∨ bop = 0x82 ∨ bop = 0x83 →
        exec (.bridgeFrameReceived net f) s = .next (s.completion f.gvt)))

/-- 13 R376 to R382: the tunnels. An async block or an HDLC frame from a legacy port is carried by its tunnel, or discarded
and counted, and its own echo is ignored; a tunnel frame that is newer is queued for its port, or discarded and counted
where it is older or eight wait; a queued frame is played out, on a two-wire line after its turnaround time of idle line;
an idle tunnel repeats its last SEQ every second, and one not heard for 3 s is down. -/
def Obligations.TunnelsComplete : Prop :=
  ∀ (s : State), s.cmUp = true →
    (∀ port data ending, exec (.legacyFrameReceived port data ending) s = .next
      (if (s.port port).echo = some data ∨ s.blockOut 0x1B = true then s.updPort port (LegacyPort.heard s.time.ot)
       else (s.updPort port (LegacyPort.heard s.time.ot)).lineFrame port data (ending == .bad))) ∧
    (∀ port n0 t0 ts data (ending : LegacyEnd), s.portTunnels port = (n0, t0) :: ts →
      s.lineFrame port data (ending == .bad) =
        (if tAsync t0 then
           if data = [] then s else if ending = .bad ∨ s.tunnelsRun = false then s.updTunnel n0 Tunnel.drop
           else s.carry n0 (data.take 1500)
         else if ending = .bad ∨ 1500 < data.length then
           if s.tunnelsRun then s.collect (fLp port 0x01) else s
         else match hdlcTunnel ((n0, t0) :: ts) data with
           | some (n, _) => if s.tunnelsRun then s.carry n data else s.updTunnel n Tunnel.drop
           | none => s)) ∧
    (∀ net f, s.tgTakes net f = true → f.gvt.typ = 9 → f.fcsOk = true → f.gvt.src.toNat = s.id.modaddr →
      f.gvt.serial ≠ s.id.serial → exec (.tunnelFrameReceived net f) s = .next s.duplicate) ∧
    (∀ net f, s.handedOn net f = true → f.gvt.typ = 9 → f.gvt.src.toNat ≠ s.id.modaddr → s.blockOut 0x1E = false →
      crcOkGvt f.gvt = true →
      1 ≤ f.gvt.conn → f.gvt.conn ≤ 16 → tEnable (s.tunnel (f.gvt.conn - 1)) = true →
      (s.tunnel (f.gvt.conn - 1)).fmod = f.gvt.src.toNat → s.blockOut 0x1B = false →
      (s.tunnelsRun = false → exec (.tunnelFrameReceived net f) s = .next
        (if f.gvt.payload = [] then s else s.updTunnel (f.gvt.conn - 1) Tunnel.drop)) ∧
      (s.tunnelsRun = true →
      ∃ d t e, d = s.updTunnel (f.gvt.conn - 1) (Tunnel.hear s.time.ot) ∧ t = s.tunnel (f.gvt.conn - 1) ∧
        e = d.updTunnel (f.gvt.conn - 1) (fun t => { t with taken := some f.gvt.seq }) ∧
        exec (.tunnelFrameReceived net f) s = .next
          (if f.gvt.payload = [] ∨ t.taken = some f.gvt.seq then d
           else if 1500 < f.gvt.payload.length ∨ t.newer f.gvt.seq = false then
             d.updTunnel (f.gvt.conn - 1) fun t => { t with ndisc := satInc 32 t.ndisc }
           else if 8 ≤ t.queue.length then
             (e.updTunnel (f.gvt.conn - 1) fun t => { t with ndisc := satInc 32 t.ndisc }).collect (fLp t.port 0x02)
           else e.updTunnel (f.gvt.conn - 1) fun t => { t with
             queue := t.queue ++ [f.gvt.payload], nrecv := satInc 32 t.nrecv }))) ∧
    (∀ n x rest, (s.tunnel n).queue = x :: rest → s.tunnelsRun = true → tEnable (s.tunnel n) = true →
      (tTwoWire (s.tunnel n) = true → ∀ b, (s.port (s.tunnel n).port).busy = some b →
        b + (s.tunnel n).turnMs ≤ s.time.ot) →
      ∃ d, d = s.updPort (s.tunnel n).port (LegacyPort.sent s.time.ot (tTwoWire (s.tunnel n)) x) ∧
      exec (.legacyTransmit n) s = .next
        { d.updTunnel n (fun t => { t with queue := rest, played := some s.time.ot }) with
          legacyTx := s.legacyTx ++ [((s.tunnel n).port, x)] }) ∧
    (∀ n, n < 16 → tEnable (s.tunnel n) = true → s.tunnelsRun = true → (s.tunnel n).sentOt + 1000 ≤ s.time.ot →
      exec (.tunnelKeepalive n) s = .next (s.sendTunnel n (s.tunnel n).seq [])) ∧
    (∀ n, n < 16 → (s.tunnel n).up = true → (∀ h, (s.tunnel n).heard = some h → h + 3000 ≤ s.time.ot) →
      exec (.tunnelDown n) s = .next
        ((s.updTunnel n fun t => { t with up := false }).collect (fLp (s.tunnel n).port (0x20 + n))))

/-! ### Records and time -/

/-- 14 R383 to R392, R397, R401, R404: the records' and the clock's own events. OT is checkpointed 2 s ahead and shadowed; the
archive window and the coalescing windows close; dropped lines are recorded once a whole second; a failed log segment is hedged
and recorded in the last-resort area; a PTP sync of the chosen master steps WT beyond 500 ms and slews it below, and
locks after eight good ones; the lock ends 10 s after the last. -/
def Obligations.RecordAndClockEventsComplete : Prop :=
  ∀ (s : State), s.cmUp = true →
    (exec .otCheckpoint s = .next (s.updTime (TimeSt.checkpoint (s.time.ot + 2000)))) ∧
    (exec .otShadowWrite s = .next (s.updTime fun t => { t with shadow := t.ot })) ∧
    (∀ t, s.recs.archUntil = some t → t ≤ s.time.ot →
      exec .archiveWindowEnd s = .next (s.updRecs fun r => { r with archUntil := none })) ∧
    (∀ kind source c, kind ≠ 1 → s.recs.coals.find? (fun c => c.kind == kind && c.source == source) = some c →
      c.first + 1000 ≤ s.time.ot → exec (.coalescingWindowEnd kind source) s = .next (s.closeCoal c)) ∧
    (s.recs.drops ≠ (0, 0, 0, 0) → s.time.ot % 1000 = 0 →
      ∃ d e, d = s.takeSeq ∧ e = d.2.updRecs (fun r => { r with drops := (0, 0, 0, 0) }) ∧
        exec .dropRecord s = .next (e.toRc 2 (e.stamp d.1 e.time.ot 0x0B 0 (dropBody (d.2.time.ot - 1000) d.2.recs.drops)))) ∧
    (∀ log segment n k out len, logShape s.recs log = (n, k, out, len) → segment < n → out.contains segment = false →
      ∃ d e f, d = State.collectFull (s.updRecs (RecSt.hedgeSeg log segment)) (segSource log segment) 1 none none none ∧
        e = d.2.lastResort (segSource log segment).region (segSource log segment) d.1 ∧
        f = e.lastLine d.1 (segSource log segment) (logCode log) segment ∧
        exec (.logSegmentFailure log segment) s = .next
          (if ringCap n k (segment :: out) = 0 then f.collect ⟨1, 4, 0x22, 0, 0x04⟩ else f)) ∧
    (∀ offs m, s.time.source = 1 → s.ptpOpen m.port = true →
      ∃ d, d = s.updTime (fun t =>
          let good := if -1000 ≤ offs ∧ offs ≤ 1000 then min 8 (t.good + 1) else 0
          { t with
            good := good, lock := t.lock || good == 8, wtvalid := t.wtvalid || good == 8, synced := some t.ot
            master := some (m.ident, m.rank) }) ∧
        exec (.ptpSync offs m) s = .next
          (if s.time.takesMaster m = false then s
           else if offs ≤ -500000 ∨ 500000 ≤ offs then d.setWt m.ms 1 0 0 0xFF 0
           else d.updTime fun t => { t with slew := -offs })) ∧
    (∀ (t : TimeSt) (m : PtpMaster), t.takesMaster m = true ↔ (∀ i r, t.master = some (i, r) →
      i = m.ident ∨ m.rank < r ∨ ∀ k, t.synced = some k → k + 10000 ≤ t.ot)) ∧
    (s.time.lock = true → (∀ t, s.time.synced = some t → t + 10000 ≤ s.time.ot) →
      exec .ptpUnlock s = .next (s.updTime fun t =>
        { t with lock := false, good := 0, slew := 0, master := none }))

/-! ### Checks and image changes in progress -/

/-- 11 R322, 16 R434 to R446: what ends a stage-check, a verification, an update session, a kernel turn, a kernel
load, a level switch and an activation. A stage-check that one lane of three sees otherwise withdraws it; a verified image is marked usable
and its result recorded and answered; a lane's turn and the level switch that are due are made at the next start that admits them; a lane that has turned
loads the other kernel and is checked; an activated
image is confirmed once its conditions hold, and falls back where it does not reach them in time. -/
def Obligations.ImageChangeEventsComplete : Prop :=
  ∀ (s : State),
    (∀ differs r, s.stage.checking = some r →
      (s.actives.filter (fun l => differs.get l) = [] →
        exec (.stageCheckDone differs) s = .next (s.endCheck r s.checkSet s.actives (s.lanePassed s.checkSet differs))) ∧
      (∀ l, s.actives.filter (fun l => differs.get l) = [l] → s.nActive = 3 →
        exec (.stageCheckDone differs) s = .next
          ((s.endCheck r s.checkSet (s.actives.filter (· != l)) (s.lanePassed s.checkSet differs)).collectOpen
            2 l.num 0 0 8 3)) ∧
      ((2 ≤ (s.actives.filter (fun l => differs.get l)).length ∨
          ((s.actives.filter (fun l => differs.get l)).length = 1 ∧ s.nActive ≠ 3)) →
        exec (.stageCheckDone differs) s = .next
          ((s.endCheck r ⟨0x0E, 0xFFFF, 0xFFFF, 0⟩ [] (s.lanePassed s.checkSet differs)).collectOpen
            3 3 0x1C 0 9 1))) ∧
    (∀ r u, s.upd.verify = some r → s.upd.sess = some u →
      ∃ (b : Bool) (bytes : Bytes) (e : Envelope) (st : Nat) (c d : State),
        b = !s.runSlot u.kind ∧ bytes = slotBytes u.nblock (s.slotOf u.kind b).blocks ∧ e = envOf bytes ∧
        st = s.verifyStatus u bytes ∧
        c = (if st == 0 then s.setSlot u.kind b { s.slotOf u.kind b with
          valid := true, env := e, image := if u.kind == 2 then Config.parseImage bytes else none } else s) ∧
        d = { c with upd := { c.upd with
          verify := none, state := if st == 0 then 3 else 1
          sess := some { u with rollback := e.rbidx < c.rbfloor u.kind || (e.kind == 1 && e.level < c.upd.lm) } } } ∧
        exec .updVerifyDone s = .next ((d.refChange r 0x31 (le 8 e.imgid ++ le 4 e.version ++ le 4 e.rbidx ++
          le 2 e.level ++ zeros 2 ++ le 4 e.signer ++ le 2 st)).complete r st [])) ∧
    (∀ u, s.upd.sess = some u → 600000 ≤ u.idle → exec .updateSessionTimeout s = .next (s.abortUpd 3)) ∧
    (∀ lane a, s.upd.act = some a → a.kind = 1 → a.todo.head? = some lane → a.turn = none →
      exec (.laneTurn lane) s = .next (s.updAct fun a => { a with asked := some lane })) ∧
    (∀ lane a, s.upd.act = some a → a.asked = some lane → s.turnDue a lane = true →
      ∃ c d e, c = s.ownChange 0x33 (le 1 lane.num ++ le 1 (b2n a.turnSlot)) ∧
        d = (if c.isActive lane then
          (c.recordEvent (fLane lane (openNum 10)) 0 0 false false none).2.withdraw lane
            (fLane lane (openNum 10)) (c.recordEvent (fLane lane (openNum 10)) 0 0 false false none).1
            .checking false
          else c) ∧
        e = (d.updLane lane fun x => { x.setKslot a.turnSlot with turn := true, rcheck := false, hold := .checking }).updAct
          (fun a => { a with turn := some lane, asked := none, todo := a.todo.drop 1 }) ∧
        s.turnStart = (if a.back then e else e.actProgress (a.doneLanes.length + 1))) ∧
    (∀ lane, (s.lane lane).turn = true → (s.lane lane).st = .withdrawn →
      exec (.kernelLoadDone lane) s = .next (s.updLane lane fun x => { x with
        turn := false, rcheck := !x.latched, hold := if x.latched then .latchedOut else .checking })) ∧
    (s.switchReady = true → exec .levelSwitch s = .next (s.updAct fun a => { a with askedLevel := true })) ∧
    (∀ a, s.upd.act = some a → a.askedLevel = true → s.switchReady = true → s.nActive = 3 → s.quietStart = true →
      s.pow.mod = .service →
      (s.switchBound = false → s.switchStart = s.switchLevel) ∧
      (s.switchBound = true → s.pair.pacer = false → s.switchStart =
        (s.plSend (.cmdfwd .levelReady)).updAct fun a => { a with askedLevel := false })) ∧
    (∀ a, s.upd.act = some a → s.actPassed a = true →
      ∃ c d, c = s.setSlot a.kind (!a.slot) (s.slotOf a.kind (!a.slot)).invalid ∧
        d = State.ownChange { c with upd := { c.upd with
            act := none, state := 6, rbfloor := putFloor a.kind (s.actEnv a).rbidx c.upd.rbfloor } }
          0x35 (le 8 (s.actEnv a).imgid ++ le 4 (s.actEnv a).rbidx) ∧
        exec .imageConfirmed s = .next (a.ref.elim d fun r => d.complete r 0 [])) ∧
    (∀ a, s.upd.act = some a →
      (a.kind = 0 → a.switched = true → s.pow.sv = false → 5000 ≤ a.age →
        exec .postActivationTimeout s = .next (s.failAct 3)) ∧
      (a.kind = 2 → s.pow.mod ≠ .service → 10000 ≤ a.age → exec .postActivationTimeout s = .next (s.failAct 4)))

/-! ### Self-test, tamper, power and the front -/

/-- 15 R409, R412 to R421: the bench engine. A test that ends compares its signature with the expected one, and its result is
recorded and answered; a precondition that leaves its bounds abandons the running test; the oscillator
measurement is kept. A tamper switch or a broken seal loop latches TAMPER and is reported; so does, unreported, an opening
while unpowered. -/
def Obligations.TestAndTamperEventsComplete : Prop :=
  ∀ (s : State),
    (∀ codes t, s.be.test = some t → t.running = true → t.abandoned = false → t.ended = none →
      ∃ cs sig pass bad c,
        cs = padCodes (testCount t.id) (if t.cut = true then codes.take (testCount t.id - 1) else codes) ∧ sig = crc32c (cs.map (BitVec.ofNat 8)) ∧
        pass = (sig == s.expected t.id) ∧ bad = (cs.findIdx? (· != 0)).getD 0xFFFF ∧
        c = { s.updTest (fun t => { t with ended := some (pass, sig, bad) }) with
          id := { s.id with passes := notePass pass t.id t.target s.id.passes } } ∧
        exec (.testComplete codes) s = .next
          ((c.refChange t.ref 0x21 (le 2 t.id ++ le 2 t.target ++ testResult sig (s.expected t.id) pass bad)).complete
            t.ref 0 (testResult sig (s.expected t.id) pass bad))) ∧
    (∀ q, s.pow.on = true → s.pow.sv = true →
      ∃ d, d = { s with be := { s.be with q := q } } ∧
        (s.be.test = none → exec (.preconditionCheck q) s = .next d) ∧
        (∀ t, s.be.test = some t → d.badQty q t.id t.target = none → exec (.preconditionCheck q) s = .next d) ∧
        (∀ t n v, s.be.test = some t → d.badQty q t.id t.target = some (n, v) →
          exec (.preconditionCheck q) s = .next (d.abandonWith 0x8070 1 (le 1 n ++ le 4 v)))) ∧
    (∀ off, s.pow.on = true → s.pow.sv = true →
      exec (.oscillatorMeasurement off) s = .next { s with be := { s.be with osc := some off } }) ∧
    (s.pow.on = true → exec .tamperSwitchOpen s = .next (s.latchTamper.collect (fBe 0x50))) ∧
    (∀ intact, s.pow.on = true → s.pow.sv = true → exec (.sealLoopCheck intact) s = .next
      (if intact = false ∧ s.be.loop = true then
        (State.latchTamper { s with be := { s.be with loop := false } }).collect (fBe 0x50) else s)) ∧
    (s.pow.on = false ∨ s.pow.pfail = true → exec .unpoweredEnclosureOpening s = .next s.unpoweredOpening)

/-- 17 R448 to R470: power and boot. Power-up starts a boot with cause 0 after the time without supply; a restart asked for
starts one with its cause; the boot self-tests of the lanes, their limits and the SYNC limit lead on or out of the boot;
a power-fail warning takes the safe state and flushes what volatile memory holds, and the return asks for a restart. -/
def Obligations.PowerAndBootComplete : Prop :=
  ∀ (s : State),
    (∀ env kaFed offMs, s.pow.on = false ∨ s.pow.commons = false ∨ s.pow.pfail = true →
      ∃ d, d = s.powerTimes kaFed offMs ∧ exec (.powerUp env kaFed offMs) s = .next
        ((d.updPow fun p => { p with lampOt := some d.time.ot }).bootBegin 0 (d.time.ot - s.time.ot) env (!kaFed) s.time.ot)) ∧
    (∀ kind env, s.cmUp = true → s.pow.pfail = false → s.pow.restart = some kind → s.pow.mod ≠ .terminal →
      ∃ cause, cause = (if kind = .cold ∨ (s.booting = true ∧ s.pow.cause ≠ 1) then 2 else 1) ∧
        exec (.bootRestart kind env) s = .next
          ((if cause = 2 then s.archiveCold else s).bootBegin cause 0 env false
            (if cause = 2 then s.archiveCold else s).time.ot)) ∧
    (s.cmUp = true → s.pow.pfail = false →
      ∃ d, d = (s.updPow fun p => { p with pfail := true }).safeActions ∧
        exec .powerFailWarning s = .next (if d.pow.mod = .terminal then d else d.setMod .safe).flush) ∧
    (s.pow.on = true → s.pow.pfail = true → exec .powerReturn s = .next (s.updPow fun p => { p with
      pfail := false
      restart := if p.mod = .terminal then p.restart else if p.restart = some .cold then some .cold else some .warm })) ∧
    (∀ lane pass, s.cmUp = true → (s.lane lane).hold = .checking → (s.lane lane).rcheck = false →
      (s.lane lane).arb = false → (s.lane lane).turn = false → (s.lane lane).passed = false →
      (s.lane lane).supply = true → (s.lane lane).st = .withdrawn → s.stopped = false →
      exec (.laneBootSelfTestDone lane pass) s = .next
        (if pass = false then s.bootFailed lane
         else if s.pow.mod = .boot then (s.updLane lane fun x => { x with passed := true }).trySync
         else if s.pow.split = true then s.updLane lane fun x => ({ x with passed := true }).join true true
         else s.updLane lane fun x => { x with passed := true, hold := .waiting })) ∧
    (∀ lane, s.cmUp = true → (s.lane lane).hold = .checking → (s.lane lane).rcheck = false →
      (s.lane lane).arb = false → (s.lane lane).turn = false → (s.lane lane).passed = false →
      (s.lane lane).st = .withdrawn → s.id.lc.cycle = true → s.stopped = false →
      s.pow.holdPlug = false → s.pow.holdTemp = false → s.pow.holdDup = false → s.pow.holdImage = false →
      exec (.bootSelfTestTimeout lane) s = .next (s.bootFailed lane)) ∧
    (s.pow.mod = .sync → exec .syncTimeout s = .next (s.stopModule (fMf 0x05))) ∧
    (s.pow.mod = .boot → s.pow.holdTemp = true → exec .bootTemperatureInRange s = .next
      (s.updPow fun p => { p with holdTemp := false }).trySync)

/-- 17 R449 to R452, R463 to R470, 18 R471 to R485: supply inputs, the address plug, the temperature and the reset button. The first
loss of an input is reported until both are restored; a plug changed in service is reported once; a button
pressed for 50 ms to 3 s asks for a warm restart, to 10 s for a cold one, and a stuck or disagreeing one is reported and disabled. -/
def Obligations.SupplyAndFrontComplete : Prop :=
  ∀ (s : State), s.cmUp = true →
    (∀ second, exec (.inputLoss second) s = .next
      (if s.pow.lost.fst = true ∨ s.pow.lost.snd = true then s
       else (s.updPow fun p => { p with lost := p.lost.upd second true }).collect (fMf (if second then 0x31 else 0x30)))) ∧
    (∀ second, exec (.inputRestored second) s = .next (s.updPow fun p => { p with lost := p.lost.upd second false })) ∧
    (∀ plug, exec (.addressPlugPoll plug) s = .next
      (if (if plugOk plug = true then s.pow.holdPlug = true ∨ plug.adr.toNat ≠ s.id.modaddr else s.pow.holdPlug = false) ∧
          s.pow.plugSeen = false
       then (s.updPow fun p => { p with plugSeen := true }).collect (fMf 0x35) else s)) ∧
    (exec .thermalWarning s = .next
      (if s.pow.hot = true then s else (s.updPow fun p => { p with hot := true }).collect (fMf 0x32))) ∧
    (exec .thermalWarningCleared s = .next (s.updPow fun p => { p with hot := false })) ∧
    (exec .thermalTrip s = .next (s.collect (fMf 0x33))) ∧
    (∀ ms, s.pow.mod ≠ .terminal → s.pow.btnStuck = false → s.pow.btnBad = false → exec (.resetButtonRelease ms) s = .next
      (if ms < 50 ∨ 10000 ≤ ms then s else s.askRestart (if ms < 3000 then .warm else .cold))) ∧
    (s.pow.btnStuck = false → exec .resetButtonStuck s = .next
      ((s.updPow fun p => { p with btnStuck := true }).collect (fMf 0x37))) ∧
    (s.pow.btnBad = false → exec .buttonContactDisagree s = .next
      ((s.updPow fun p => { p with btnBad := true }).collect (fMf 0x38))) ∧
    (exec .buttonReenable s = .next (s.updPow fun p => { p with btnStuck := false, btnBad := false }))

/-! ### The block as a whole -/

/-- The command at the front of the queue runs on the state with the queue's rest. -/
def Obligations.StepRunsFrontCommand : Prop :=
  ∀ (c : Instr) (s : State) (rest : List Instr), step { s with pending := c :: rest } = exec c { s with pending := rest }

/-- An empty queue is a millisecond of operating time (log 1, the model's choice): nothing happens to an unpowered module; a
powered one counts OT and, unless it is being slewed, WT up by 1 (14 R384, R387). -/
def Obligations.EmptyQueueIsTick : Prop :=
  ∀ (s : State), s.pending = [] →
    (s.pow.on = false → step s = .next s) ∧
    (s.pow.on = true → s.pow.commons = true → ∃ t, step s = .next t ∧ t.time.ot = s.time.ot + 1 ∧
      (s.time.source = 0 → t.time.wt = (s.time.wt + 1) % 2 ^ 48) ∧ t.time.pc = s.time.pc)

/-- Reset: an unpowered module with nothing stored, no command waiting, no output driven, no session, and an empty
potting bench; it meets the invariants of OffKept and BenchKept. -/
def Obligations.ResetState : Prop :=
  State.reset.pending = [] ∧ State.reset.pow.on = false ∧ State.reset.mail.sessions = [] ∧ State.reset.bench = [] ∧
  State.reset.stage.owner = 0 ∧ State.reset.stage.entries = [] ∧ State.reset.bridge.log = [] ∧
  State.reset.flt.hedges = [] ∧ State.reset.flt.alarmcnt = 0 ∧ State.reset.tunnels.length = 16 ∧
  State.reset.bridge.windows.length = 64 ∧ State.reset.banks.length = 6 ∧
  (∀ x ∈ State.reset.cells, x.eff = false) ∧ (∀ l, (State.reset.lane l).gate = false) ∧
  State.reset.offOk ∧ State.reset.benchOk

/-- 07 R223, 10 R302: in every step, a cell in warm-up stays de-energised, and every cell does while the safe state is
latched. -/
def Obligations.OffKept : Prop :=
  ∀ (s t : State), s.offOk → step s = .next t → t.offOk

/-- 13 R365: every step keeps the potting bench in its canonical form, within its 64 KiB. -/
def Obligations.BenchKept : Prop :=
  ∀ (s t : State), s.benchOk → step s = .next t → t.benchOk

/-- 14 R383, R384, 12 R343: a step takes one command from the queue and adds none; the identity that manufacture sets never
changes; OT changes only by a tick and by POWER_UP. -/
def Obligations.IdentityKept : Prop :=
  ∀ (s t : State), step s = .next t →
    t.pending = s.pending.tail ∧ t.id.partno = s.id.partno ∧ t.id.serial = s.id.serial ∧ t.id.hwrev = s.id.hwrev ∧
    t.id.macs = s.id.macs ∧
    (∀ c rest, s.pending = c :: rest → (∀ env kaFed offMs, c ≠ .powerUp env kaFed offMs) → t.time.ot = s.time.ot)

/-- 12 R356, 15 R428, 16 R432, R448: the credentials change only by CRED_ADD, CRED_REVOKE and LC_TRANSITION, the rollback
floors only by IMAGE_CONFIRMED, the tamper latch only by an opening and LC_TRANSITION. -/
def Obligations.GuardKept : Prop :=
  ∀ (s t : State) (c : Instr), exec c s = .next t →
    (∀ mb, c ≠ .credAdd mb ∧ c ≠ .credRevoke mb ∧ c ≠ .lcTransition mb) → c ≠ .imageConfirmed →
    c ≠ .tamperSwitchOpen → (∀ b, c ≠ .sealLoopCheck b) → c ≠ .unpoweredEnclosureOpening → t.guard = s.guard

/-- Does a command reach the running application: an element's or a route's timer, an operations command, a cycle's start or
vote, or a boot? -/
def Sys2Proof.Machine.reachesApp : Instr → Bool
  | .moveTimeLimit _ | .provingTime _ | .clearingDelay _ | .resetStepLimit _ | .closeTimeLimit _ | .openDelay _
  | .directionExchangeLimit _ | .settingTimeLimit _ | .requestLifetime _ | .approachReleaseTimer _
  | .overlapReleaseTimer _ | .releasingTimeout _ | .dueMark _ _ | .exchangeClose _ _ _ _ | .routeSet _ | .routeCancel _
  | .autoSet _ | .trigArm _ | .keyRelease _ | .emergRelease _ | .axleReset _ | .cmdfwdReceived _ | .joinWaitExpiry
  | .powerUp _ _ _ | .bootRestart _ _ | .laneBootSelfTestDone _ _ | .bootTemperatureInRange => true
  | _ => false

/-- 01 R2, 04 R128, 11 R311: the image in use, the declared data of the application and what waits for it change only by the
cycle, by a timer of an element or a route, by an operations command, and by a boot: no other command changes them. -/
def Obligations.ApplicationKept : Prop :=
  ∀ (s t : State) (c : Instr), exec c s = .next t → reachesApp c = false → t.appl = s.appl

/-- 13 R365: every byte of the potting bench stays but by an inbound bridge transfer, a life-cycle transition, and a boot. -/
def Obligations.BenchUntouched : Prop :=
  ∀ (s t : State) (c : Instr), exec c s = .next t → (∀ net f, c ≠ .bridgeFrameReceived net f) →
    (∀ mb, c ≠ .lcTransition mb) → (∀ env kaFed offMs, c ≠ .powerUp env kaFed offMs) →
    (∀ kind env, c ≠ .bootRestart kind env) → t.bench = s.bench

/-- 10 R303, R305: the module leaves SAFE and TERMINAL only by a boot, and TERMINAL only by a power-up. -/
def Obligations.StoppedLeftOnlyByBoot : Prop :=
  ∀ (s t : State) (c : Instr), exec c s = .next t → (∀ env kaFed offMs, c ≠ .powerUp env kaFed offMs) →
    (s.pow.mod = .safe → (∀ kind env, c ≠ .bootRestart kind env) → t.pow.mod = .safe ∨ t.pow.mod = .terminal) ∧
    (s.pow.mod = .terminal → t.pow.mod = .terminal)

/-- 10 R302, 17 R454: the power-fail warning opens every drive gate, latches the safe state, de-energises every cell, and
ends the cycle without another telegram; the module state becomes SAFE, unless it is TERMINAL. -/
def Obligations.PowerFailMakesSafe : Prop :=
  ∀ (s : State), s.cmUp = true → s.pow.pfail = false → s.cells.length = 48 →
    ∃ t, exec .powerFailWarning s = .next t ∧ t.flt.safelatch = true ∧ (∀ x ∈ t.cells, x.eff = false) ∧
      (∀ l, (t.lane l).gate = false) ∧ t.cyc.tosend = [] ∧ t.cyc.phase = .idle ∧
      t.pow.mod = (if s.pow.mod = .terminal then .terminal else .safe)

/-- 13 R365, R373: an inbound write of the potting bench in a free slot writes its bytes and no other; an inbound read of it changes
no byte. -/
def Obligations.BridgeBenchWriteRead : Prop :=
  ∀ (s : State) (net : Net) (f : Frame), s.handedOn net f = true → f.gvt.typ = 8 → s.blockOut 0x1E = false →
    f.gvt.src.toNat ≠ s.id.modaddr → s.sbOut = false → crcOkGvt f.gvt = true → s.benchOk →
    s.bridge.kept.find? (fun k => k.src == f.gvt.src.toNat && k.seq == f.gvt.seq) = none →
    s.inSlot f.gvt.src.toNat ≠ none →
    ∀ bop addr len data, bop = ofLe (slice f.gvt.payload 0 1) → len = ofLe (slice f.gvt.payload 2 2).reverse →
      addr = ofLe (slice f.gvt.payload 4 4).reverse → data = (f.gvt.payload.drop 8).take len → data.length = len →
      4 ≤ len → len ≤ 256 → len % 4 = 0 → 0x100000 ≤ addr → addr + len ≤ 0x110000 →
      (bop = 2 ∨ bop = 3 → ∃ t, exec (.bridgeFrameReceived net f) s = .next t ∧
        ∀ a, Memory.read a t.bench =
          if addr - 0x100000 ≤ a ∧ a < addr - 0x100000 + len then data.getD (a - (addr - 0x100000)) 0
          else Memory.read a s.bench) ∧
      (bop = 1 → ∃ t, exec (.bridgeFrameReceived net f) s = .next t ∧ t.bench = s.bench)

/-! ### Rules of single functions -/

/-- 01 R18: the word of a fault source ID gives back its five fields, and no bit of it is left over. -/
def Obligations.FaultSourceWord : Prop :=
  (∀ f : Fsid, f.level < 8 → f.region < 8 → f.block < 64 → f.cell < 4096 → f.det < 256 →
    fword f < 2 ^ 32 ∧ fword f / 2 ^ 29 = f.level ∧ fword f / 2 ^ 26 % 8 = f.region ∧ fword f / 2 ^ 20 % 64 = f.block ∧
    fword f / 2 ^ 8 % 4096 = f.cell ∧ fword f % 256 = f.det) ∧
  (∀ w < 2 ^ 32, fword ⟨w / 2 ^ 29, w / 2 ^ 26 % 8, w / 2 ^ 20 % 64, w / 2 ^ 8 % 4096, w % 256⟩ = w) ∧
  fword ⟨0, 3, 0x12, 19, 4⟩ = 0x0D201304 ∧ fword ⟨1, 1, 0x01, 0, 1⟩ = 0x24100001

/-- Lane l's form differs, in an item, from two others that agree there. -/
def Sys2Proof.Machine.OddOne (x y z : VoteForm) (i : Nat) : Prop := itemOf x i ≠ itemOf y i ∧ itemOf y i = itemOf z i

/-- 05 R155, R156: the vote of a cycle. Three forms that agree in every item are used; where in every item they agree or one
and the same lane is the odd one, that lane alone is in the minority; where two lanes are, or three forms differ in
an item, no form is used. Two forms are used where they agree in every item, a third ACTIVE lane without a form being in the
minority; one form, or none, is not enough. -/
def Obligations.VoteRules : Prop :=
  (∀ (a b c : VoteForm) (is : List Nat), is = itemsOf [(.a, a), (.b, b), (.c, c)] →
    ((∀ i ∈ is, itemOf a i = itemOf b i ∧ itemOf b i = itemOf c i) →
      voteAll [.a, .b, .c] [(.a, a), (.b, b), (.c, c)] = some ([], a)) ∧
    ((∃ i ∈ is, OddOne c a b i) → (∀ i ∈ is, itemOf a i = itemOf b i) →
      voteAll [.a, .b, .c] [(.a, a), (.b, b), (.c, c)] = some ([.c], a)) ∧
    ((∃ i ∈ is, OddOne b a c i) → (∀ i ∈ is, itemOf a i = itemOf c i) →
      voteAll [.a, .b, .c] [(.a, a), (.b, b), (.c, c)] = some ([.b], a)) ∧
    ((∃ i ∈ is, OddOne a b c i) → (∀ i ∈ is, itemOf b i = itemOf c i) →
      voteAll [.a, .b, .c] [(.a, a), (.b, b), (.c, c)] = some ([.a], b)) ∧
    ((∃ i ∈ is, itemOf a i ≠ itemOf b i ∧ itemOf b i ≠ itemOf c i ∧ itemOf a i ≠ itemOf c i) →
      voteAll [.a, .b, .c] [(.a, a), (.b, b), (.c, c)] = none) ∧
    ((∃ i ∈ is, OddOne a b c i) → (∃ i ∈ is, OddOne b a c i) →
      voteAll [.a, .b, .c] [(.a, a), (.b, b), (.c, c)] = none) ∧
    ((∃ i ∈ is, OddOne a b c i) → (∃ i ∈ is, OddOne c a b i) →
      voteAll [.a, .b, .c] [(.a, a), (.b, b), (.c, c)] = none) ∧
    ((∃ i ∈ is, OddOne b a c i) → (∃ i ∈ is, OddOne c a b i) →
      voteAll [.a, .b, .c] [(.a, a), (.b, b), (.c, c)] = none)) ∧
  (∀ (x y : VoteForm) (l m n : Lane), l ≠ m → m ≠ n → l ≠ n →
    ((∀ i ∈ itemsOf [(l, x), (m, y)], itemOf x i = itemOf y i) →
      voteAll [l, m] [(l, x), (m, y)] = some ([], x) ∧
      ∀ act ∈ [[n, l, m], [l, n, m], [l, m, n]], voteAll act [(l, x), (m, y)] = some ([n], x)) ∧
    ((∃ i ∈ itemsOf [(l, x), (m, y)], itemOf x i ≠ itemOf y i) →
      ∀ act, voteAll act [(l, x), (m, y)] = none)) ∧
  (∀ (x : VoteForm) (l : Lane) (act : List Lane), act ≠ [] → voteAll act [(l, x)] = none ∧ voteAll act [] = none)

/-- 10 R296: counting escalation. A source whose N is 0 is not counted. Otherwise its events within W of OT are counted, this
one included: below N the event has the source's present class; at N it has one class more, not above CEIL, which becomes
the present class, and the count is cleared. No other source's count changes. 05 R164: counting makes no lane's source class F4 while
the two other lanes are ACTIVE. -/
def Obligations.EscalationRule : Prop :=
  ∀ (s : State) (f : Fsid) (dflt base ceil n w : Nat) (past : List Nat), detSettings s f dflt = (base, ceil, n, w) →
    past = ((s.flt.esc.find? (·.fsid == f)).elim [] fun e => e.times.filter fun t => s.time.ot - t < w) →
    (n = 0 → s.countEvent f dflt = (s.presentClass f dflt, false, s)) ∧
    (past.length + 1 < n → ∃ t, s.countEvent f dflt = (s.presentClass f dflt, false, t) ∧
      t.flt.esc.find? (·.fsid == f) = some ⟨f, past ++ [s.time.ot], s.time.ot, s.presentClass f dflt⟩) ∧
    (0 < n → n ≤ past.length + 1 → s.presentClass f dflt ≤ ceil →
      ∃ t cls, cls = s.countCap f base (min (s.presentClass f dflt + 1) ceil) ∧
        s.countEvent f dflt = (cls, decide (s.presentClass f dflt < cls), t) ∧
        t.flt.esc.find? (·.fsid == f) = some ⟨f, [], s.time.ot, cls⟩) ∧
    (∀ g, g ≠ f → (s.countEvent f dflt).2.2.flt.esc.find? (·.fsid == g) = s.flt.esc.find? (·.fsid == g)) ∧
    (∀ e, s.flt.esc.find? (·.fsid == f) = some e → s.presentClass f dflt =
      if s.time.ot - e.last < w then s.countCap f base (max e.present base) else base) ∧
    (s.flt.esc.find? (·.fsid == f) = none → s.presentClass f dflt = base) ∧
    (∀ c, (∀ l, laneOfRegion f.region = some l → (s.actives.filter (· != l)).length < 2) → s.countCap f base c = c) ∧
    (∀ c l, laneOfRegion f.region = some l → 2 ≤ (s.actives.filter (· != l)).length →
      s.countCap f base c = max base (min c 3))

/-! ### The mailbox protocol -/

/-- 12 R349, R351: every command of a mailbox checks the oldest posted request in the stated order and answers the first check
that fails, with nothing done: BAD_COMMAND, BAD_LENGTH, BAD_SESSION, REFUSED_ROLE, REFUSED_LIFECYCLE (to a Factory session
too where the state admits none), then BAD_CONFIRM to a second step of a command that has one (log 140). In TERMINAL no
other command passes than OPEN, AUTH, CLOSE, SESSION_LIST, the groups 0x02xx and 0x07xx, and PAIR_STATUS. -/
def Obligations.RequestChecks : Prop :=
  ∀ row ∈ mailRows, ∀ (s : State) (mb : Nat) (q : Req) (k : CmdRow), s.serving = true → s.nextBox = some mb →
    (s.box mb).st = .posted → q = reqOf (s.box mb) → q.cmd = row.2.1 → cmdRow? row.2.1 = some k → takesGroup mb q.cmd = true →
    ∀ g, g = s.grantFirst .service →
    ((2 ≤ q.flags ∨ q.resv ≠ 0 ∨ resvOk q.body row.2.2.resv = false ∨ row.2.2.bits q.body = false ∨
        s.tagOpen q.session q.tag = true) →
      Answers (row.1 mb) s mb 0x8001 [] g) ∧
    (q.flags < 2 → q.resv = 0 → resvOk q.body row.2.2.resv = true → row.2.2.bits q.body = true →
      s.tagOpen q.session q.tag = false →
      (4080 < q.len ∨ row.2.2.lenOk q.body q.len = false → Answers (row.1 mb) s mb 0x8002 [] g) ∧
      (q.len ≤ 4080 → row.2.2.lenOk q.body q.len = true →
        (s.reqSession q (s.box mb).ep = none → Answers (row.1 mb) s mb 0x8003 [] g) ∧
        (∀ cred role x, s.reqSession q (s.box mb).ep = some (cred, role) →
          x = (⟨⟨q.session, cred, q.tag, q.cmd, true⟩, mb, (s.box mb).ep, role, q.flags == 1, q.body,
            (s.box mb).tagged q.session⟩ : Ctx) →
          (role < k.role ∨ role < row.2.2.least s q.body → Answers (row.1 mb) s mb 0x8011 [] g) ∧
          (k.role ≤ role → row.2.2.least s q.body ≤ role →
            (s.groupAdmitted q.cmd = false ∨ (role = 5 ∧ s.id.lc.session 5 = false) ∨ row.2.2.admission s x = false →
              Answers (row.1 mb) s mb 0x8010 [] g) ∧
            (s.groupAdmitted q.cmd = true → (role = 5 → s.id.lc.session 5 = true) → row.2.2.admission s x = true →
              q.flags = 1 → k.two = false → Answers (row.1 mb) s mb 0x8004 [] g))))) ∧
    (s.pow.mod = .terminal → row.2.1 ∉ [0x0101, 0x0102, 0x0103, 0x0104, 0x0C01] → row.2.1 / 256 ≠ 2 → row.2.1 / 256 ≠ 7 →
      s.groupAdmitted row.2.1 = false)

/-- 12 R349: requests are taken in the order in which their doorbells rang. A command of a mailbox whose request is not the oldest
does nothing, nor does one while no service region serves, nor one that the oldest request does not name. -/
def Obligations.OldestRequestOnly : Prop :=
  ∀ row ∈ mailRows, ∀ (s : State) (mb : Nat),
    (s.serving = false → exec (row.1 mb) s = .next s) ∧
    (∀ m, s.nextBox = some m → s.knownReq m = true → m ≠ mb ∨ (reqOf (s.box mb)).cmd ≠ row.2.1 →
      exec (row.1 mb) s = .next s) ∧
    (s.nextBox = none → exec (row.1 mb) s = .next s)

/-- 04 R135: a member of a pair refuses HOLD with REFUSED_LIFECYCLE while its partner is in step: while its partner's last
health report shows INSTEP (R279), be the partner heard or not. -/
def Obligations.HoldRefusedInPair : Prop :=
  ∀ (s : State) (mb : Nat) (q : Req) (k : CmdRow) (cred role : Nat), s.serving = true → s.nextBox = some mb →
    (s.box mb).st = .posted → q = reqOf (s.box mb) → q.cmd = 0x0302 → cmdRow? 0x0302 = some k → takesGroup mb q.cmd = true →
    q.flags < 2 → q.resv = 0 → resvOk q.body cmdMode.resv = true → s.tagOpen q.session q.tag = false →
    q.len = 4 → s.reqSession q (s.box mb).ep = some (cred, role) → k.role ≤ role →
    rd q.body 0 1 = 2 → cmdMode.bits q.body = true → cmdMode.least s q.body ≤ role → s.paired = true →
    s.partnerInStep = true → Answers (.mode mb) s mb 0x8010 [] (s.grantFirst .service)

/-! ### Rules stated word for word -/

/-- 03 R88. -/
def Obligations.SerialOrder : Prop :=
  (∀ a b, a < 2 ^ 32 → b < 2 ^ 32 →
    (serialAfter 32 b a = true ↔ 1 ≤ (b + 2 ^ 32 - a) % 2 ^ 32 ∧ (b + 2 ^ 32 - a) % 2 ^ 32 ≤ 2 ^ 31 - 1)) ∧
  (∀ s : State, s.coldStart.app.trellis.nextseq = 1) ∧
  (∀ s : State, s.takeReqseq.1 = s.app.trellis.nextseq ∧
    s.takeReqseq.2.app.trellis.nextseq =
      if (s.app.trellis.nextseq + 1) % 2 ^ 32 = 0 then 1 else (s.app.trellis.nextseq + 1) % 2 ^ 32)

/-- 03 R101. -/
def Obligations.ReleasingQuiet : Prop :=
  (∀ (s : State) (r : Nat), r < s.app.cells.length → (s.cellRec r).rstate = 8 →
    ((∃ w ∈ s.flt.watch, w.route = r ∧ 600000 ≤ w.ms ∧ w.raised = false) →
      ∃ d : State, d = { s with flt := { s.flt with
          watch := s.flt.watch.map fun w => if w.route = r then { w with raised := true } else w } } ∧
        exec (.releasingTimeout r) s = .next (d.collectFull ⟨0, s.lowLane.num, 0x03, r, 0x01⟩ 1 none none none).2 ∧
        ((d.collectFull ⟨0, s.lowLane.num, 0x03, r, 0x01⟩ 1 none none none).2.cellRec r).rstate = 8 ∧
        exec (.releasingTimeout r) (d.collectFull ⟨0, s.lowLane.num, 0x03, r, 0x01⟩ 1 none none none).2 =
          .next (d.collectFull ⟨0, s.lowLane.num, 0x03, r, 0x01⟩ 1 none none none).2) ∧
    ((∀ w ∈ s.flt.watch, w.route = r → w.ms < 600000) → exec (.releasingTimeout r) s = .next s)) ∧
  (∀ (dt r : Nat) (c : RouteCell) (w : RelWatch), c.rstate = 8 →
    watchNext dt r c (some w) =
      some (if w.groups = c.reldone then { w with ms := elapse w.ms dt } else ⟨r, c.reldone, 0, false⟩)) ∧
  (∀ (dt r : Nat) (c : RouteCell), c.rstate = 8 → watchNext dt r c none = some ⟨r, c.reldone, 0, false⟩) ∧
  (∀ (dt r : Nat) (c : RouteCell) (w : Option RelWatch), c.rstate ≠ 8 → watchNext dt r c w = none)

/-- 12 R353: the Factory role is admitted only in BLANK, PROVISIONED and BENCH; elsewhere OPEN with a Factory credential is
refused with REFUSED_LIFECYCLE. What a command admits of one role it admits of a higher one. -/
def Obligations.RoleRule : Prop :=
  (∀ (lc : LcState), lc.session 5 = true ↔ lc = .blank ∨ lc = .provisioned ∨ lc = .bench) ∧
  (∀ (s : State) (mb : Nat) (x : Ctx) (k : Cred), Admitted s mb 0x0101 cmdOpen x → s.cred? (rd x.body 0 4) = some k →
    k.role = 5 → s.id.lc ≠ .blank → s.id.lc ≠ .provisioned → s.id.lc ≠ .bench →
    Answers (.openSession mb) s mb 0x8010 [] (s.taken mb)) ∧
  (∀ row ∈ mailRows, ∀ (s : State) (x : Ctx) (r : Nat), x.role ≤ r → row.2.2.admission s x = true →
    row.2.2.admission s { x with role := r } = true)

/-- 05 R173. -/
def Obligations.LaneStateWord : Prop :=
  ∀ (s : State) (w : Nat), w = s.laneWord →
    w % 4 = (s.lane .a).st.code ∧ w / 4 % 4 = (s.lane .b).st.code ∧ w / 16 % 4 = (s.lane .c).st.code ∧
    (w.testBit 6 = (s.lane .a).latched) ∧ (w.testBit 7 = (s.lane .b).latched) ∧ (w.testBit 8 = (s.lane .c).latched) ∧
    (w.testBit 9 = true ↔ s.nActive = 2) ∧ w / 2 ^ 10 = 0 ∧ slice s.summaryLive 4 4 = le 4 w

/-- 09 R264. -/
def Obligations.PairStateWord : Prop :=
  ∀ (s : State) (w : Nat), w = s.pairWord → s.pair.epoch < 2 ^ 16 →
    w % 8 = s.pair.st.code ∧ (w.testBit 3 = true ↔ s.set.pair.prole = 1) ∧ w.testBit 4 = s.partnerSeen ∧
    w.testBit 5 = s.partnerInStep ∧ w.testBit 6 = s.pair.plup.fst ∧ w.testBit 7 = s.pair.plup.snd ∧
    w.testBit 8 = s.pair.pacer ∧ w / 2 ^ 9 % 2 ^ 7 = 0 ∧ w / 2 ^ 16 = s.pair.epoch ∧ slice s.summaryLive 8 4 = le 4 w

/-- 15 R411: the result field of the completion, from its parts: SIGNATURE, EXPECTED, RESULT 0 pass and 1 fail, a reserved byte,
FIRSTBAD (the index of the first measurement with a code other than 0, or 0xFFFF) and four reserved bytes. The completion
of a running test carries it, and TEST_LIST shows the expected value stored for each test. -/
def Obligations.TestResultLayout : Prop :=
  (∀ (sig exp bad : Nat) (pass : Bool) (b : Bytes), b = testResult sig exp pass bad →
    sig < 2 ^ 32 → exp < 2 ^ 32 → bad < 2 ^ 16 →
    b.length = 16 ∧ rd b 0 4 = sig ∧ rd b 4 4 = exp ∧ rd b 8 1 = (if pass then 0 else 1) ∧ rd b 9 1 = 0 ∧
    rd b 10 2 = bad ∧ rd b 12 4 = 0) ∧
  (∀ (s : State) (codes : List Nat) (t : TestSt), s.be.test = some t → t.running = true → t.abandoned = false →
    t.ended = none → ∃ (u : State) (cs : List Nat) (sig bad : Nat), cs = padCodes (testCount t.id)
        (if t.cut = true then codes.take (testCount t.id - 1) else codes) ∧
      sig = crc32c (cs.map (BitVec.ofNat 8)) ∧ bad = (cs.findIdx? (· != 0)).getD 0xFFFF ∧
      exec (.testComplete codes) s = .next (u.complete t.ref 0
        (testResult sig (s.expected t.id) (sig == s.expected t.id) bad))) ∧
  (∀ (s : State) (mb : Nat) (x : Ctx), Admitted s mb 0x0802 cmdTestList x → rd x.body 0 2 < 8 →
    ∃ answers : List Bytes, Reads (.testList mb) s mb 0 answers.flatten ∧ answers.length = 8 - rd x.body 0 2 ∧
      ∀ k < 8 - rd x.body 0 2, ∃ a, answers[k]? = some a ∧ a.length = 8 ∧ rd a 0 2 = rd x.body 0 2 + k + 1 ∧
        slice a 4 4 = le 4 (s.expected (rd x.body 0 2 + k + 1)))
end

