-- ==== Sys2Proof/Laws/Appl.lean ====
section
/-! SUPPORT. Which functions and commands leave the running application alone: its image, its declared data, its queues,
and the watch over its routes. -/

set_option linter.unusedSimpArgs false
set_option linter.unusedVariables false

namespace Sys2Proof.Machine
@[simp] theorem State.appl_mk (pending id lanes cyc app trl image set cells banks frame conns nets pair flt mail stage bridge tunnels ports recs time be upd pow netTx legacyTx plTx splits free) :
    State.appl (State.mk pending id lanes cyc app trl image set cells banks frame conns nets pair flt mail stage bridge tunnels ports recs time be upd pow netTx legacyTx plTx splits free) = (image, app, trl, flt.watch) := rfl
@[simp] theorem State.appl_eta (s : State) : (s.image, s.app, s.trl, s.flt.watch) = s.appl := rfl
@[simp] theorem State.appl_ite (c : Prop) [Decidable c] (s t : State) : State.appl (if c then s else t) = if c then s.appl else t.appl := by split <;> rfl
@[simp] theorem State.each_appl {α : Type} (s : State) (xs : List α) (f : State → α → State) (h : ∀ s x, State.appl (f s x) = s.appl) : State.appl (s.each xs f) = s.appl := by
  unfold State.each
  induction xs generalizing s with
  | nil => rfl
  | cons x xs ih => simp only [List.foldl_cons, ih, h]
@[simp] theorem State.when_appl (s : State) (p : Bool) (f : State → State) (h : ∀ s, State.appl (f s) = s.appl) : State.appl (s.when p f) = s.appl := by
  unfold State.when; split <;> simp [h]
@[simp] theorem State.fed_appl (s : State) (f : State → State) (h : ∀ s, State.appl (f s) = s.appl) : State.appl (s.fed f) = s.appl := by
  unfold State.fed; split <;> simp [h]
@[simp] theorem State.updLane_appl (s : State) (l : Lane) (f : LaneSt → LaneSt) :
    State.appl (State.updLane s l f) = State.appl s := by
  rfl
@[simp] theorem State.updLanes_appl (s : State) (f : LaneSt → LaneSt) :
    State.appl (State.updLanes s f) = State.appl s := by
  rfl
@[simp] theorem State.updCell_appl (s : State) (c : Nat) (f : CellSt → CellSt) :
    State.appl (State.updCell s c f) = State.appl s := by
  rfl
@[simp] theorem State.updBank_appl (s : State) (b : Nat) (f : BankSt → BankSt) :
    State.appl (State.updBank s b f) = State.appl s := by
  rfl
@[simp] theorem State.updNet_appl (s : State) (n : Net) (f : NetSt → NetSt) :
    State.appl (State.updNet s n f) = State.appl s := by
  rfl
@[simp] theorem State.updConn_appl (s : State) (n : Nat) (f : ConnSt → ConnSt) :
    State.appl (State.updConn s n f) = State.appl s := by
  rfl
@[simp] theorem State.updBox_appl (s : State) (mb : Nat) (f : Mbox → Mbox) :
    State.appl (State.updBox s mb f) = State.appl s := by
  rfl
@[simp] theorem State.updTunnel_appl (s : State) (t : Nat) (f : Tunnel → Tunnel) :
    State.appl (State.updTunnel s t f) = State.appl s := by
  rfl
@[simp] theorem State.updPort_appl (s : State) (p : Nat) (f : LegacyPort → LegacyPort) :
    State.appl (State.updPort s p f) = State.appl s := by
  rfl
@[simp] theorem State.putEff_appl (s : State) (c : Nat) (e : Bool) :
    State.appl (State.putEff s c e) = State.appl s := by
  simp [State.putEff]
@[simp] theorem State.dropEffs_appl (s : State) (cs : List Nat) :
    State.appl (State.dropEffs s cs) = State.appl s := by
  unfold State.dropEffs
  induction cs generalizing s with
  | nil => rfl
  | cons c cs ih => simp only [List.foldl_cons, ih, State.putEff_appl]
@[simp] theorem State.passToken_appl (s : State) :
    State.appl (State.passToken s) = State.appl s := by
  rfl
@[simp] theorem State.settleToken_appl (s : State) :
    State.appl (State.settleToken s) = State.appl s := by
  simp [State.settleToken]
@[simp] theorem State.spendToken_appl (s : State) (t : Token) :
    State.appl (State.spendToken s t) = State.appl s := by
  simp [State.spendToken]
@[simp] theorem State.addHedge_appl (s : State) (h : Hedge) :
    State.appl (State.addHedge s h) = State.appl s := by
  simp [State.addHedge]
@[simp] theorem State.dropHedges_appl (s : State) (p : Hedge → Bool) :
    State.appl (State.dropHedges s p) = State.appl s := by
  rfl
@[simp] theorem State.updHedges_appl (s : State) (p : Hedge → Bool) (f : Hedge → Hedge) :
    State.appl (State.updHedges s p f) = State.appl s := by
  rfl
@[simp] theorem State.plSend_appl (s : State) (m : PlMsg) :
    State.appl (State.plSend s m) = State.appl s := by
  simp [State.plSend]
@[simp] theorem State.fresh_appl (s : State) :
    State.appl (State.fresh s).2 = State.appl s := by
  rfl
@[simp] theorem State.freshBytes_appl (x0 : Nat) (x1 : State) :
    State.appl (State.freshBytes x0 x1).2 = State.appl x1 := by
  induction x0 generalizing x1 with
  | zero => rfl
  | succ n ih => simp [State.freshBytes, ih]
@[simp] theorem State.freshNat_appl (s : State) (n : Nat) :
    State.appl (State.freshNat s n).2 = State.appl s := by
  rfl
@[simp] theorem State.freshCode_appl (s : State) :
    State.appl (State.freshCode s).2 = State.appl s := by
  rfl
@[simp] theorem State.takeSeq_appl (s : State) :
    State.appl (State.takeSeq s).2 = State.appl s := by
  rfl
@[simp] theorem State.updRecs_appl (s : State) (f : RecSt → RecSt) :
    State.appl (State.updRecs s f) = State.appl s := by
  rfl
@[simp] theorem State.takeSeqs_appl (s : State) (n : Nat) :
    State.appl (State.takeSeqs s n).2 = State.appl s := by
  simp [State.takeSeqs]
@[simp] theorem State.toRc_appl (s : State) (prio : Nat) (x : Rec) :
    State.appl (State.toRc s prio x) = State.appl s := by
  simp [State.toRc]
@[simp] theorem State.logFault_appl (s : State) (x : FaultRec) :
    State.appl (State.logFault s x) = State.appl s := by
  rfl
@[simp] theorem State.logCount_appl (s : State) (c : Coal) (seq : Nat) :
    State.appl (State.logCount s c seq) = State.appl s := by
  simp [State.logCount]
@[simp] theorem State.alarmSeq_appl (s : State) (kind : Nat) (source : Nat) (seq : Nat) :
    State.appl (State.alarmSeq s kind source seq) = State.appl s := by
  simp [State.alarmSeq]
@[simp] theorem State.closeCoal_appl (s : State) (c : Coal) :
    State.appl (State.closeCoal s c) = State.appl s := by
  simp [State.closeCoal]
@[simp] theorem State.openCoal_appl (s : State) (kind : Nat) (source : Nat) (prio : Nat) (ot : Nat) (x : Rec) (body : Bytes) :
    State.appl (State.openCoal s kind source prio ot x body) = State.appl s := by
  simp [State.openCoal]
@[simp] theorem State.recordAt_appl (s : State) (kind : Nat) (source : Nat) (seq : Nat) (ot : Nat) (flags : Nat) (cls : Nat) (body : Bytes) :
    State.appl (State.recordAt s kind source seq ot flags cls body) = State.appl s := by
  unfold State.recordAt; split <;> simp
@[simp] theorem State.record_appl (s : State) (kind : Nat) (source : Nat) (body : Bytes) :
    State.appl (State.record s kind source body).2 = State.appl s := by
  simp [State.record]
@[simp] theorem State.refill_appl (s : State) :
    State.appl (State.refill s) = State.appl s := by
  simp [State.refill]
@[simp] theorem State.archiveEnd_appl (s : State) :
    State.appl (State.archiveEnd s) = State.appl s := by
  simp [State.archiveEnd]
@[simp] theorem State.drain_appl (s : State) (n : Nat) :
    State.appl (State.drain s n) = State.appl s := by
  simp [State.drain]
@[simp] theorem State.archiveTrigger_appl (s : State) (cause : Nat) :
    State.appl (State.archiveTrigger s cause) = State.appl s := by
  simp [State.archiveTrigger]
@[simp] theorem State.changeAt_appl (s : State) (seq : Nat) (kind : Nat) (cred : Nat) (session : Nat) (ep : Nat) (cmd : Nat) (cbody : Bytes) :
    State.appl (State.changeAt s seq kind cred session ep cmd cbody) = State.appl s := by
  simp [State.changeAt]
@[simp] theorem State.change_appl (s : State) (kind : Nat) (cred : Nat) (session : Nat) (ep : Nat) (cmd : Nat) (cbody : Bytes) :
    State.appl (State.change s kind cred session ep cmd cbody) = State.appl s := by
  simp [State.change]
@[simp] theorem State.ownChange_appl (s : State) (kind : Nat) (cbody : Bytes) :
    State.appl (State.ownChange s kind cbody) = State.appl s := by
  simp [State.ownChange]
@[simp] theorem State.bootRecord_appl (s : State) (cause : Nat) (jump : Nat) :
    State.appl (State.bootRecord s cause jump) = State.appl s := by
  simp [State.bootRecord]
@[simp] theorem State.lastResort_appl (s : State) (region : Nat) (f : Fsid) (seq : Nat) :
    State.appl (State.lastResort s region f seq) = State.appl s := by
  rfl
@[simp] theorem State.ringPut_appl (s : State) (n : Notif) :
    State.appl (State.ringPut s n) = State.appl s := by
  rfl
@[simp] theorem State.flushWaiting_appl (s : State) :
    State.appl (State.flushWaiting s) = State.appl s := by
  simp [State.flushWaiting]
@[simp] theorem State.notify_appl (s : State) (n : Notif) :
    State.appl (State.notify s n) = State.appl s := by
  simp [State.notify]
@[simp] theorem State.closeAlarm_appl (s : State) (w : AlarmWin) :
    State.appl (State.closeAlarm s w) = State.appl s := by
  simp [State.closeAlarm]
@[simp] theorem State.openAlarm_appl (s : State) (f : Fsid) (seq : Nat) (body : Bytes) :
    State.appl (State.openAlarm s f seq body) = State.appl s := by
  simp [State.openAlarm]
@[simp] theorem State.alarm_appl (s : State) (f : Fsid) (raised : Nat) (applied : Nat) (parent : Nat) (seq : Nat) (full : Bool) :
    State.appl (State.alarm s f raised applied parent seq full) = State.appl s := by
  unfold State.alarm; split <;> simp
@[simp] theorem State.writeCompl_appl (s : State) (c : Compl) :
    State.appl (State.writeCompl s c) = State.appl s := by
  simp [State.writeCompl]
@[simp] theorem State.complete_appl (s : State) (r : CmdRef) (status : Nat) (result : Bytes) :
    State.appl (State.complete s r status result) = State.appl s := by
  simp [State.complete]
@[simp] theorem State.completeLater_appl (s : State) (c : Compl) :
    State.appl (State.completeLater s c) = State.appl s := by
  rfl
@[simp] theorem State.flushCompl_appl (s : State) :
    State.appl (State.flushCompl s) = State.appl s := by
  simp [State.flushCompl]
@[simp] theorem State.recordState_appl (s : State) (subject : Nat) (index : Nat) (old : Nat) (new : Nat) :
    State.appl (State.recordState s subject index old new).2 = State.appl s := by
  simp [State.recordState]
@[simp] theorem State.laneEvent_appl (s : State) (l : Lane) (old : Nat) (new : Nat) (latch : Bool) (f : Option Fsid) :
    State.appl (State.laneEvent s l old new latch f) = State.appl s := by
  simp [State.laneEvent]
@[simp] theorem State.pairNotice_appl (s : State) (old : PairState) :
    State.appl (State.pairNotice s old) = State.appl s := by
  simp [State.pairNotice]
@[simp] theorem State.setPair_appl (s : State) (p : PairState) :
    State.appl (State.setPair s p) = State.appl s := by
  simp [State.setPair]
@[simp] theorem State.setMod_appl (s : State) (m : ModState) :
    State.appl (State.setMod s m) = State.appl s := by
  simp [State.setMod]
@[simp] theorem State.progress_appl (s : State) (r : Option CmdRef) (cmd : Nat) (step : Nat) (steps : Nat) :
    State.appl (State.progress s r cmd step steps) = State.appl s := by
  simp [State.progress]
@[simp] theorem State.postErr_appl (s : State) (source : Nat) (window : Nat) (addr : Nat) (fstat : Nat) (ep : Nat) :
    State.appl (State.postErr s source window addr fstat ep) = State.appl s := by
  simp [State.postErr]
@[simp] theorem State.refChange_appl (s : State) (r : CmdRef) (kind : Nat) (body : Bytes) :
    State.appl (State.refChange s r kind body) = State.appl s := by
  simp [State.refChange]
@[simp] theorem State.updUpd_appl (s : State) (f : UpdSt → UpdSt) :
    State.appl (State.updUpd s f) = State.appl s := by
  rfl
@[simp] theorem State.setSlot_appl (s : State) (kind : Nat) (b : Bool) (x : Slot) :
    State.appl (State.setSlot s kind b x) = State.appl s := by
  unfold State.setSlot; split <;> simp
@[simp] theorem State.updAct_appl (s : State) (f : ActSt → ActSt) :
    State.appl (State.updAct s f) = State.appl s := by
  rfl
@[simp] theorem State.abortUpd_appl (s : State) (cause : Nat) :
    State.appl (State.abortUpd s cause) = State.appl s := by
  unfold State.abortUpd; dsimp only; (repeat' split) <;> simp_all
@[simp] theorem State.emptyFrame_appl (s : State) :
    State.appl (State.emptyFrame s) = State.appl s := by
  rfl
@[simp] theorem State.closeCursor_appl (s : State) :
    State.appl (State.closeCursor s) = State.appl s := by
  rfl
@[simp] theorem State.endSession_appl (s : State) (id : Nat) :
    State.appl (State.endSession s id) = State.appl s := by
  unfold State.endSession; split <;> simp
@[simp] theorem State.dropProv_appl (s : State) :
    State.appl (State.dropProv s) = State.appl s := by
  unfold State.dropProv; split <;> simp
@[simp] theorem State.serviceDown_appl (s : State) (rc : Bool) :
    State.appl (State.serviceDown s rc) = State.appl s := by
  simp [State.serviceDown]
@[simp] theorem State.serviceUp_appl (s : State) :
    State.appl (State.serviceUp s) = State.appl s := by
  simp [State.serviceUp]
@[simp] theorem State.updBridge_appl (s : State) (f : BridgeSt → BridgeSt) :
    State.appl (State.updBridge s f) = State.appl s := by
  rfl
@[simp] theorem State.postedFailed_appl (s : State) (x : Xfer) (fstat : Nat) :
    State.appl (State.postedFailed s x fstat) = State.appl s := by
  simp [State.postedFailed]
@[simp] theorem State.endXfer_appl (s : State) (x : Xfer) (fstat : Nat) (data : Bytes) :
    State.appl (State.endXfer s x fstat data) = State.appl s := by
  unfold State.endXfer; split <;> simp
@[simp] theorem State.resetSb_appl (s : State) :
    State.appl (State.resetSb s) = State.appl s := by
  simp [State.resetSb]
@[simp] theorem State.useSet_appl (s : State) (x : Option SlotSet) :
    State.appl (State.useSet s x) = State.appl s := by
  rfl
@[simp] theorem State.switchFw_appl (s : State) :
    State.appl (State.switchFw s) = State.appl s := by
  unfold State.switchFw; dsimp only; (repeat' split) <;> simp_all
@[simp] theorem State.revertFw_appl (s : State) :
    State.appl (State.revertFw s) = State.appl s := by
  unfold State.revertFw; dsimp only; (repeat' split) <;> simp_all
@[simp] theorem State.endFallback_appl (s : State) :
    State.appl (State.endFallback s) = State.appl s := by
  unfold State.endFallback; (repeat' split) <;> simp
@[simp] theorem State.fallbackRec_appl (s : State) (a : ActSt) (item : Nat) :
    State.appl (State.fallbackRec s a item) = State.appl s := by
  simp [State.fallbackRec]
@[simp] theorem State.kernelBack_appl (s : State) (a : ActSt) :
    State.appl (State.kernelBack s a) = State.appl s := by
  simp [State.kernelBack]
@[simp] theorem State.kernelMapBack_appl (s : State) (a : ActSt) :
    State.appl (State.kernelMapBack s a) = State.appl s := by
  rfl
@[simp] theorem State.failAct_appl (s : State) (item : Nat) :
    State.appl (State.failAct s item) = State.appl s := by
  unfold State.failAct; (repeat' split) <;> simp
@[simp] theorem State.actLane_appl (s : State) (l : Lane) :
    State.appl (State.actLane s l) = State.appl s := by
  unfold State.actLane; split <;> simp
@[simp] theorem State.actSafe_appl (s : State) :
    State.appl (State.actSafe s) = State.appl s := by
  unfold State.actSafe; split <;> simp
@[simp] theorem State.actService_appl (s : State) :
    State.appl (State.actService s) = State.appl s := by
  unfold State.actService; split <;> simp
@[simp] theorem State.recordEvent_appl (s : State) (f : Fsid) (raised : Nat) (applied : Nat) (conseq : Bool) (escal : Bool) (parent : Option Nat) :
    State.appl (State.recordEvent s f raised applied conseq escal parent).2 = State.appl s := by
  simp [State.recordEvent]
@[simp] theorem State.noteFault_appl (s : State) (seq : Nat) (x : List Nat) :
    State.appl (State.noteFault s seq x) = State.appl s := by
  rfl
@[simp] theorem State.startGrace_appl (s : State) (f : Fsid) (seq : Nat) (cls : Nat) (out : Option Lane) :
    State.appl (State.startGrace s f seq cls out) = State.appl s := by
  simp [State.startGrace]
@[simp] theorem State.abandonWith_appl (s : State) (status : Nat) (cause : Nat) (result : Bytes) :
    State.appl (State.abandonWith s status cause result) = State.appl s := by
  unfold State.abandonWith; split <;> simp
@[simp] theorem State.abandonTest_appl (s : State) (status : Nat) (cause : Nat) :
    State.appl (State.abandonTest s status cause) = State.appl s := by
  simp [State.abandonTest]
@[simp] theorem State.safeActions_appl (s : State) :
    State.appl (State.safeActions s) = State.appl s := by
  simp [State.safeActions]
@[simp] theorem State.enterTerminal_appl (s : State) :
    State.appl (State.enterTerminal s) = State.appl s := by
  simp [State.enterTerminal]
@[simp] theorem State.safeLimit_appl (s : State) :
    State.appl (State.safeLimit s) = State.appl s := by
  simp [State.safeLimit]
@[simp] theorem State.enterSafe_appl (s : State) (seq : Nat) :
    State.appl (State.enterSafe s seq) = State.appl s := by
  simp [State.enterSafe]
@[simp] theorem State.latchMark_appl (s : State) (l : Lane) :
    State.appl (State.latchMark s l) = State.appl s := by
  simp [State.latchMark]
@[simp] theorem State.latchOut_appl (s : State) (l : Lane) :
    State.appl (State.latchOut s l) = State.appl s := by
  simp [State.latchOut]
@[simp] theorem State.withdraw_appl (s : State) (l : Lane) (f : Fsid) (seq : Nat) (hold : LHold) (counted : Bool) :
    State.appl (State.withdraw s l f seq hold counted) = State.appl s := by
  simp [State.withdraw]
@[simp] theorem State.afterWithdraw_appl (s : State) (l : Lane) (f : Fsid) :
    State.appl (State.afterWithdraw s l f) = State.appl s := by
  rfl
@[simp] theorem State.countEvent_appl (s : State) (f : Fsid) (dflt : Nat) :
    State.appl (State.countEvent s f dflt).2.2 = State.appl s := by
  unfold State.countEvent; (repeat' split) <;> simp
@[simp] theorem State.serviceRestart_appl (s : State) (rc : Bool) :
    State.appl (State.serviceRestart s rc) = State.appl s := by
  simp [State.serviceRestart]
@[simp] theorem State.openCut_appl (s : State) (b : Nat) :
    State.appl (State.openCut s b) = State.appl s := by
  simp [State.openCut]
@[simp] theorem State.cutOf_appl (s : State) (blk : Nat) :
    State.appl (State.cutOf s blk) = State.appl s := by
  simp [State.cutOf]
@[simp] theorem State.hedgeUnsettled_appl (s : State) (blk : Nat) (f : Fsid) (seq : Nat) :
    State.appl (State.hedgeUnsettled s blk f seq) = State.appl s := by
  simp [State.hedgeUnsettled]
@[simp] theorem State.notSettled_appl (s : State) (blk : Nat) (parent : Option Nat) :
    State.appl (State.notSettled s blk parent) = State.appl s := by
  unfold State.notSettled; dsimp only; (repeat' split) <;> simp
@[simp] theorem State.clearBlock_appl (s : State) (blk : Nat) :
    State.appl (State.clearBlock s blk) = State.appl s := by
  simp [State.clearBlock]
@[simp] theorem State.postedMasked_appl (s : State) (k seq : Nat) :
    State.appl (State.postedMasked s k seq) = State.appl s := by
  simp [State.postedMasked]
@[simp] theorem State.resetBlock_appl (s : State) (blk : Nat) (f : Fsid) (seq : Nat) :
    State.appl (State.resetBlock s blk f seq) = State.appl s := by
  unfold State.resetBlock; split <;> simp
@[simp] theorem State.hedgeCell_appl (s : State) (c : Nat) (f : Fsid) (seq : Nat) :
    State.appl (State.hedgeCell s c f seq) = State.appl s := by
  simp [State.hedgeCell]
@[simp] theorem State.containCm_appl (s : State) (f : Fsid) (seq : Nat) :
    State.appl (State.containCm s f seq) = State.appl s := by
  simp [State.containCm]
@[simp] theorem State.hedgeEngine_appl (s : State) (l : Lane) (f : Fsid) (seq : Nat) :
    State.appl (State.hedgeEngine s l f seq) = State.appl s := by
  simp [State.hedgeEngine]
@[simp] theorem State.failResync_appl (s : State) (l : Lane) (parent : Option Nat) :
    State.appl (State.failResync s l parent) = State.appl s := by
  unfold State.failResync; dsimp only; (repeat' split) <;> simp_all
@[simp] theorem State.reactLane_appl (s : State) (l : Lane) (f : Fsid) (cls : Nat) (seq : Nat) :
    State.appl (State.reactLane s l f cls seq) = State.appl s := by
  unfold State.reactLane; split <;> simp
@[simp] theorem State.react_appl (s : State) (f : Fsid) (cls : Nat) (seq : Nat) (named : Option Lane) :
    State.appl (State.react s f cls seq named) = State.appl s := by
  unfold State.react; (repeat' split) <;> simp
@[simp] theorem State.collectFull_appl (s : State) (f : Fsid) (dflt : Nat) (parent : Option Nat) (named : Option Lane) (via : Option Net) :
    State.appl (State.collectFull s f dflt parent named via).2 = State.appl s := by
  unfold State.collectFull; dsimp only; (repeat' split) <;> simp_all
@[simp] theorem State.collect_appl (s : State) (f : Fsid) :
    State.appl (State.collect s f) = State.appl s := by
  simp [State.collect]
@[simp] theorem State.collectNamed_appl (s : State) (f : Fsid) (x : List Nat) :
    State.appl (State.collectNamed s f x) = State.appl s := by
  simp [State.collectNamed]
@[simp] theorem State.collectOpen_appl (s : State) (level : Nat) (region : Nat) (block : Nat) (cell : Nat) (k : Nat) (cls : Nat) :
    State.appl (State.collectOpen s level region block cell k cls) = State.appl s := by
  simp [State.collectOpen]
@[simp] theorem State.stopModule_appl (s : State) (f : Fsid) :
    State.appl (State.stopModule s f) = State.appl s := by
  simp [State.stopModule]
@[simp] theorem State.updCh_appl (s : State) (c : Nat) (l : Lane) (f : ChSt → ChSt) :
    State.appl (State.updCh s c l f) = State.appl s := by
  rfl
@[simp] theorem State.pairTick_appl (s : State) (c : Nat) (l : Lane) :
    State.appl (State.pairTick s c l) = State.appl s := by
  simp [State.pairTick]
@[simp] theorem State.pairTicks_appl (s : State) (c : Nat) :
    State.appl (State.pairTicks s c) = State.appl s := by
  simp [State.pairTicks]
@[simp] theorem State.enterWarm_appl (s : State) (c : Nat) :
    State.appl (State.enterWarm s c) = State.appl s := by
  simp [State.enterWarm]
@[simp] theorem State.warmAll_appl (s : State) :
    State.appl (State.warmAll s) = State.appl s := by
  simp [State.warmAll]
@[simp] theorem State.latchCell_appl (s : State) (c : Nat) :
    State.appl (State.latchCell s c) = State.appl s := by
  rfl
@[simp] theorem State.latchAll_appl (s : State) :
    State.appl (State.latchAll s) = State.appl s := by
  simp [State.latchAll]
@[simp] theorem State.setLatches_appl (s : State) :
    State.appl (State.setLatches s) = State.appl s := by
  simp [State.setLatches]
@[simp] theorem State.countDis_appl (s : State) (c : Nat) (l : Lane) :
    State.appl (State.countDis s c l) = State.appl s := by
  rfl
@[simp] theorem State.updRels_appl (s : State) (f : RelSt → RelSt) :
    State.appl (State.updRels s f) = State.appl s := by
  rfl
@[simp] theorem State.raiseDis_appl (s : State) (c : Nat) :
    State.appl (State.raiseDis s c) = State.appl s := by
  simp [State.raiseDis]
@[simp] theorem State.disagreements_appl (s : State) :
    State.appl (State.disagreements s) = State.appl s := by
  simp [State.disagreements]
@[simp] theorem State.pulseFault_appl (s : State) (c : Nat) (det : Nat) (ls : List Lane) :
    State.appl (State.pulseFault s c det ls) = State.appl s := by
  simp [State.pulseFault]
@[simp] theorem State.latchFlag_appl (s : State) (c : Nat) (det : Nat) :
    State.appl (State.latchFlag s c det) = State.appl s := by
  simp [State.latchFlag]
@[simp] theorem State.latchFlags_appl (s : State) :
    State.appl (State.latchFlags s) = State.appl s := by
  simp [State.latchFlags]
@[simp] theorem State.beginRels_appl (s : State) :
    State.appl (State.beginRels s) = State.appl s := by
  simp (disch := intros; (repeat' split) <;> simp) [State.beginRels]
@[simp] theorem State.frameStart_appl (s : State) :
    State.appl (State.frameStart s) = State.appl s := by
  simp [State.frameStart]
@[simp] theorem State.frameEnd_appl (s : State) :
    State.appl (State.frameEnd s) = State.appl s := by
  simp [State.frameEnd]
@[simp] theorem State.pairsTick_appl (s : State) :
    State.appl (State.pairsTick s) = State.appl s := by
  simp [State.pairsTick]
theorem execTestPulseStart_appl (cell : Nat) (on : Trio CellMask) (s : State) :
    ∀ t, (execTestPulseStart cell on s) = .next t → State.appl t = State.appl s := by
  rintro _ ⟨⟩; simp
theorem execTestPulseEnd_appl (cell : Nat) (dropped : Trio Bool) (s : State) :
    ∀ t, (execTestPulseEnd cell dropped s) = .next t → State.appl t = State.appl s := by
  rintro _ ⟨⟩; simp
theorem execPulseWindowEnd_appl (slot : Nat) (dropped : Trio CellMask) (recovered : Trio CellMask) (nextOn : Trio CellMask) (sxFell : Bool) (sxBack : Bool) (s : State) :
    ∀ t, (execPulseWindowEnd slot dropped recovered nextOn sxFell sxBack s) = .next t → State.appl t = State.appl s := by
  rintro _ ⟨⟩; simp
theorem execSxCurrentLimit_appl (cell : Nat) (s : State) :
    ∀ t, (execSxCurrentLimit cell s) = .next t → State.appl t = State.appl s := by
  rintro _ ⟨⟩; simp
theorem execInputFilterChange_appl (lane : Lane) (cell : Nat) (samples : List Bool) (s : State) :
    ∀ t, (execInputFilterChange lane cell samples s) = .next t → State.appl t = State.appl s := by
  rintro _ ⟨⟩; (repeat' split) <;> simp
theorem execChannelDisagreement_appl (lane : Lane) (cell : Nat) (s : State) :
    ∀ t, (execChannelDisagreement lane cell s) = .next t → State.appl t = State.appl s := by
  rintro _ ⟨⟩; simp
theorem execDiscrepancyFault_appl (lane : Lane) (cell : Nat) (s : State) :
    ∀ t, (execDiscrepancyFault lane cell s) = .next t → State.appl t = State.appl s := by
  rintro _ ⟨⟩; dsimp only; (repeat' split) <;> simp_all
theorem execBankSupplyTrip_appl (bank : Nat) (high : Bool) (s : State) :
    ∀ t, (execBankSupplyTrip bank high s) = .next t → State.appl t = State.appl s := by
  rintro _ ⟨⟩; simp
theorem execBankSupplyRecover_appl (bank : Nat) (s : State) :
    ∀ t, (execBankSupplyRecover bank s) = .next t → State.appl t = State.appl s := by
  rintro _ ⟨⟩; simp
@[simp] theorem State.liftFsv_appl (s : State) :
    State.appl (State.liftFsv s) = State.appl s := by
  simp [State.liftFsv]
@[simp] theorem State.setEff_appl (s : State) (c : Nat) :
    State.appl (State.setEff s c) = State.appl s := by
  simp [State.setEff]
@[simp] theorem State.setEffs_appl (s : State) (cs : List Nat) :
    State.appl (State.setEffs s cs) = State.appl s := by
  simp [State.setEffs]
@[simp] theorem State.driveCell_appl (s : State) (m : CellMask) (c : Nat) :
    State.appl (State.driveCell s m c) = State.appl s := by
  simp [State.driveCell]
@[simp] theorem State.driveStep_appl (s : State) (m : CellMask) :
    State.appl (State.driveStep s m) = State.appl s := by
  simp [State.driveStep]
@[simp] theorem State.raiseNamed_appl (s : State) (c : Nat) (det : Nat) (x : List Nat) :
    State.appl (State.raiseNamed s c det x) = State.appl s := by
  simp [State.raiseNamed]
@[simp] theorem State.raiseOut_appl (s : State) (c : Nat) (det : Nat) :
    State.appl (State.raiseOut s c det) = State.appl s := by
  simp [State.raiseOut]
@[simp] theorem State.noteCounted_appl (s : State) (c : Nat) :
    State.appl (State.noteCounted s c) = State.appl s := by
  rfl
@[simp] theorem State.roundEnd_appl (s : State) :
    State.appl (State.roundEnd s) = State.appl s := by
  simp [State.roundEnd]
@[simp] theorem State.roundStart_appl (s : State) :
    State.appl (State.roundStart s) = State.appl s := by
  simp [State.roundStart]
theorem execRoundMark_appl (lane : Lane) (s : State) :
    ∀ t, (execRoundMark lane s) = .next t → State.appl t = State.appl s := by
  rintro _ ⟨⟩
  split
  · rfl
  · dsimp only
    split
    · rw [State.roundStart_appl]; split <;> simp
    · simp
theorem execTestNotCompleted_appl (cell : Nat) (lane : Lane) (s : State) :
    ∀ t, (execTestNotCompleted cell lane s) = .next t → State.appl t = State.appl s := by
  rintro _ ⟨⟩; simp
theorem execTestPosition_appl (bank : Nat) (midOk : Bool) (s : State) :
    ∀ t, (execTestPosition bank midOk s) = .next t → State.appl t = State.appl s := by
  rintro _ ⟨⟩; dsimp only; (repeat' split) <;> simp_all
theorem execDarkStepEnd_appl (bank : Nat) (current : Paths Bool) (s : State) :
    ∀ t, (execDarkStepEnd bank current s) = .next t → State.appl t = State.appl s := by
  rintro _ ⟨⟩; (repeat' split) <;> simp
theorem execLightStepEnd_appl (bank : Nat) (mids : Paths Mid) (current : Paths Bool) (pxOn : Bool) (s : State) :
    ∀ t, (execLightStepEnd bank mids current pxOn s) = .next t → State.appl t = State.appl s := by
  rintro _ ⟨⟩; (repeat' split) <;> simp
theorem execMidpointStuck_appl (cell : Nat) (_path : Path) (_high : Bool) (s : State) :
    ∀ t, (execMidpointStuck cell _path _high s) = .next t → State.appl t = State.appl s := by
  rintro _ ⟨⟩; simp
theorem execPathCurrentWithdrawn_appl (cell : Nat) (path : Path) (s : State) :
    ∀ t, (execPathCurrentWithdrawn cell path s) = .next t → State.appl t = State.appl s := by
  rintro _ ⟨⟩; simp
@[simp] theorem State.updTest_appl (s : State) (f : TestSt → TestSt) :
    State.appl (State.updTest s f) = State.appl s := by
  rfl
@[simp] theorem State.cutTest_appl (s : State) (cs : List Nat) :
    State.appl (State.cutTest s cs) = State.appl s := by
  simp [State.cutTest]
@[simp] theorem State.cutBank_appl (s : State) (b : Nat) :
    State.appl (State.cutBank s b) = State.appl s := by
  simp [State.cutBank]
@[simp] theorem State.readFault_appl (s : State) (c : Nat) :
    State.appl (State.readFault s c) = State.appl s := by
  simp [State.readFault]
@[simp] theorem State.readOne_appl (s : State) (c : Nat) (l : Lane) (v : Bool) :
    State.appl (State.readOne s c l v) = State.appl s := by
  simp [State.readOne]
theorem execReadbackFault_appl (lane : Lane) (cell : Nat) (samples : List Bool) (s : State) :
    ∀ t, (execReadbackFault lane cell samples s) = .next t → State.appl t = State.appl s := by
  rintro _ ⟨⟩; (repeat' split) <;> simp
theorem execExternalVoltage_appl (cell : Nat) (s : State) :
    ∀ t, (execExternalVoltage cell s) = .next t → State.appl t = State.appl s := by
  rintro _ ⟨⟩; (repeat' split) <;> simp
@[simp] theorem State.readTick_appl (s : State) (c : Nat) :
    State.appl (State.readTick s c) = State.appl s := by
  simp [State.readTick]
@[simp] theorem State.cellTick_appl (s : State) :
    State.appl (State.cellTick s) = State.appl s := by
  simp [State.cellTick]
@[simp] theorem State.slotTick_appl (s : State) (us : Nat) :
    State.appl (State.slotTick s us) = State.appl s := by
  simp [State.slotTick]
@[simp] theorem State.nextSlot_appl (s : State) (us : Nat) (skew : Nat) :
    State.appl (State.nextSlot s us skew) = State.appl s := by
  simp [State.nextSlot]
theorem execSlotMark_appl (lane : Lane) (stamp : SlotStamp) (s : State) :
    ∀ t, (execSlotMark lane stamp s) = .next t → State.appl t = State.appl s := by
  rintro _ ⟨⟩; simp
@[simp] theorem State.dropSteps_appl (s : State) (cs : List Nat) :
    State.appl (State.dropSteps s cs) = State.appl s := by
  simp [State.dropSteps]
@[simp] theorem State.protCell_appl (s : State) (c : Nat) (det : Nat) :
    State.appl (State.protCell s c det) = State.appl s := by
  simp [State.protCell]
theorem execOverloadTrip_appl (cell : Nat) (_cause : Overload) (s : State) :
    ∀ t, (execOverloadTrip cell _cause s) = .next t → State.appl t = State.appl s := by
  rintro _ ⟨⟩; simp
theorem execClampOvertemp_appl (cell : Nat) (s : State) :
    ∀ t, (execClampOvertemp cell s) = .next t → State.appl t = State.appl s := by
  rintro _ ⟨⟩; simp
theorem execBankOvercurrent_appl (bank : Nat) (s : State) :
    ∀ t, (execBankOvercurrent bank s) = .next t → State.appl t = State.appl s := by
  rintro _ ⟨⟩; simp
theorem execFeedbackMismatch_appl (lane : Lane) (cell : Nat) (s : State) :
    ∀ t, (execFeedbackMismatch lane cell s) = .next t → State.appl t = State.appl s := by
  rintro _ ⟨⟩; simp
@[simp] theorem State.warmEnds_appl (s : State) :
    State.appl (State.warmEnds s) = State.appl s := by
  simp [State.warmEnds]
@[simp] theorem State.relDone_appl (s : State) (kind : Nat) (index : Nat) (ref : CmdRef) (st : Nat) :
    State.appl (State.relDone s kind index ref st) = State.appl s := by
  simp [State.relDone]
@[simp] theorem State.finishRel_appl (s : State) (r : RelSt) :
    State.appl (State.finishRel s r) = State.appl s := by
  simp [State.finishRel]
@[simp] theorem State.finishRels_appl (s : State) :
    State.appl (State.finishRels s) = State.appl s := by
  simp [State.finishRels]
@[simp] theorem State.arrive_appl (s : State) (k : ConnCfg) (p : Bool) (x : TgCopy) :
    State.appl (State.arrive s k p x) = State.appl s := by
  rfl
@[simp] theorem State.discard_appl (s : State) (g : Gvt) :
    State.appl (State.discard s g) = State.appl s := by
  unfold State.discard; split <;> simp
@[simp] theorem State.duplicate_appl (s : State) :
    State.appl (State.duplicate s) = State.appl s := by
  simp [State.duplicate]
@[simp] theorem State.notOwn_appl (s : State) (f : Frame) (k : State) (h : State.appl k = State.appl s) :
    State.appl (State.notOwn s f k) = State.appl s := by
  unfold State.notOwn; (repeat' split) <;> simp [h]
theorem execFrameReceived_appl (net : Net) (f : Frame) (us : Nat) (s : State) :
    ∀ t, (execFrameReceived net f us s) = .next t → State.appl t = State.appl s := by
  rintro _ ⟨⟩; dsimp only; split
  · rfl
  · refine State.notOwn_appl _ _ _ ?_; (repeat' split) <;> simp
theorem execSkewExpiry_appl (conn : Nat) (peer2 : Bool) (s : State) :
    ∀ t, (execSkewExpiry conn peer2 s) = .next t → State.appl t = State.appl s := by
  rintro _ ⟨⟩; (repeat' split) <;> simp
theorem execOneNetworkSilent_appl (conn : Nat) (s : State) :
    ∀ t, (execOneNetworkSilent conn s) = .next t → State.appl t = State.appl s := by
  rintro _ ⟨⟩; (repeat' split) <;> simp
@[simp] theorem State.sendOn_appl (s : State) (n : Net) (f : Frame) :
    State.appl (State.sendOn s n f) = State.appl s := by
  simp [State.sendOn]
@[simp] theorem State.sendBoth_appl (s : State) (udp : Option Nat) (g : Gvt) :
    State.appl (State.sendBoth s udp g) = State.appl s := by
  simp [State.sendBoth]
@[simp] theorem State.freezeAll_appl (s : State) :
    State.appl (State.freezeAll s) = State.appl s := by
  rfl
@[simp] theorem State.refuse_appl (s : State) (conn : Nat) (det : Nat) (via : Net) (f : ConnSt → ConnSt) :
    State.appl (State.refuse s conn det via f) = State.appl s := by
  simp [State.refuse]
@[simp] theorem State.examine_appl (k : ConnCfg) (r : RecvRec) (x : State × List PCopy × List PCopy) (y : PCopy) :
    State.appl (State.examine k r x y).1 = State.appl x.1 := by
  unfold State.examine; dsimp only; (repeat' split) <;> simp
@[simp] theorem State.examine_fold_appl (k : ConnCfg) (r : RecvRec) (xs : List PCopy) (x : State × List PCopy × List PCopy) :
    State.appl (xs.foldl (State.examine k r) x).1 = State.appl x.1 := by
  induction xs generalizing x with
  | nil => rfl
  | cons y ys ih => rw [List.foldl_cons, ih]; exact State.examine_appl _ _ _ _
@[simp] theorem State.raiseElem_appl (s : State) (num : Nat) (codes : List Nat) :
    State.appl (State.raiseElem s num codes) = State.appl s := by
  simp [State.raiseElem]
@[simp] theorem State.axleDone_appl (s : State) (x : AxleStep) (ok : Bool) (code : Nat) :
    State.appl (State.axleDone s x ok code) = State.appl s := by
  unfold State.axleDone; split <;> simp
@[simp] theorem State.axleArmed_appl (s : State) (num : Nat) (x : AxleStep) (code : Nat) :
    State.appl (State.axleArmed s num x code) = State.appl s := by
  unfold State.axleArmed; split <;> simp
@[simp] theorem State.badRoutes_appl (s : State) :
    State.appl (State.badRoutes s) = State.appl s := by
  unfold State.badRoutes; split <;> simp
@[simp] theorem State.confirmAll_appl (s : State) :
    State.appl (State.confirmAll s) = State.appl s := by
  rfl
@[simp] theorem State.doneOp_appl (s : State) (ref : CmdRef) (status : Nat) (cmdseq : Nat) :
    State.appl (State.doneOp s ref status cmdseq) = State.appl s := by
  rfl
@[simp] theorem State.refuseOps_appl (s : State) (ops : List OpCmd) :
    State.appl (State.refuseOps s ops) = State.appl s := by
  simp [State.refuseOps]
@[simp] theorem State.storeTables_appl (s : State) :
    State.appl (State.storeTables s) = State.appl s := by
  rfl
@[simp] theorem State.buildVecs_appl (s : State) :
    State.appl (State.buildVecs s) = State.appl s := by
  simp [State.buildVecs]
@[simp] theorem State.syncConns_appl (s : State) :
    State.appl (State.syncConns s) = State.appl s := by
  rfl
@[simp] theorem State.resetConns_appl (s : State) :
    State.appl (State.resetConns s) = State.appl s := by
  rfl
@[simp] theorem State.bindForces_appl (s : State) :
    State.appl (State.bindForces s) = State.appl s := by
  rfl
@[simp] theorem State.graftLanes_appl (s : State) :
    State.appl (State.graftLanes s) = State.appl s := by
  rfl
@[simp] theorem State.latchSummary_appl (s : State) :
    State.appl (State.latchSummary s) = State.appl s := by
  rfl
@[simp] theorem State.seeRing_appl (s : State) (addr : Nat) (n : Nat) :
    State.appl (State.seeRing s addr n) = State.appl s := by
  simp [State.seeRing]
@[simp] theorem State.testFsv_appl (s : State) (id target : Nat) :
    State.appl (State.testFsv s id target).2 = State.appl s := by
  unfold State.testFsv; split <;> simp
@[simp] theorem State.coverLane_appl (s : State) (l : Lane) :
    State.appl (State.coverLane s l) = State.appl s := by
  simp [State.coverLane]
@[simp] theorem State.clocheStart_appl (s : State) :
    State.appl (State.clocheStart s) = State.appl s := by
  unfold State.clocheStart; split <;> simp
@[simp] theorem State.testFailed_appl (s : State) (id : Nat) (target : Nat) :
    State.appl (State.testFailed s id target) = State.appl s := by
  unfold State.testFailed; split <;> simp
@[simp] theorem State.testPassed_appl (s : State) (id : Nat) (target : Nat) :
    State.appl (State.testPassed s id target) = State.appl s := by
  unfold State.testPassed; split <;> simp
@[simp] theorem State.uncoverLane_appl (s : State) (l : Lane) (took : Bool) :
    State.appl (State.uncoverLane s l took) = State.appl s := by
  rfl
@[simp] theorem State.clocheEnd_appl (s : State) :
    State.appl (State.clocheEnd s) = State.appl s := by
  unfold State.clocheEnd; (repeat' split) <;> simp
theorem execTestComplete_appl (codes : List Nat) (s : State) :
    ∀ t, (execTestComplete codes s) = .next t → State.appl t = State.appl s := by
  rintro _ ⟨⟩; (repeat' split) <;> simp
theorem execPreconditionCheck_appl (q : Quantities) (s : State) :
    ∀ t, (execPreconditionCheck q s) = .next t → State.appl t = State.appl s := by
  rintro _ ⟨⟩; dsimp only; (repeat' split) <;> simp_all
theorem execOscillatorMeasurement_appl (offset : Int) (s : State) :
    ∀ t, (execOscillatorMeasurement offset s) = .next t → State.appl t = State.appl s := by
  rintro _ ⟨⟩; simp
@[simp] theorem State.testAtApply_appl (s : State) (old : Settings) (img : Bool) :
    State.appl (State.testAtApply s old img) = State.appl s := by
  unfold State.testAtApply; split <;> simp
@[simp] theorem State.passesAtApply_appl (s : State) (old : Settings) :
    State.appl (State.passesAtApply s old) = State.appl s := by
  rfl
@[simp] theorem State.breakCheck_appl (s : State) :
    State.appl (State.breakCheck s) = State.appl s := by
  unfold State.breakCheck; split <;> simp
@[simp] theorem State.cancelApply_appl (s : State) :
    State.appl (State.cancelApply s) = State.appl s := by
  unfold State.cancelApply; split <;> simp
@[simp] theorem State.retryApply_appl (s : State) :
    State.appl (State.retryApply s) = State.appl s := by
  unfold State.retryApply; split <;> simp
@[simp] theorem State.warmChanged_appl (s : State) (old : Settings) :
    State.appl (State.warmChanged s old) = State.appl s := by
  simp [State.warmChanged]
@[simp] theorem State.markConns_appl (s : State) (old : Settings) :
    State.appl (State.markConns s old) = State.appl s := by
  simp [State.markConns]
@[simp] theorem State.ringModes_appl (s : State) (old : Settings) :
    State.appl (State.ringModes s old) = State.appl s := by
  simp [State.ringModes]
@[simp] theorem State.forceChange_appl (s : State) (r : CmdRef) (old : ForceEntry) (new : ForceEntry) :
    State.appl (State.forceChange s r old new) = State.appl s := by
  simp [State.forceChange]
@[simp] theorem State.applyRecords_appl (s : State) (r : CmdRef) :
    State.appl (State.applyRecords s r) = State.appl s := by
  simp [State.applyRecords]
@[simp] theorem State.graftFails_appl (s : State) (a : ApplySt) (item : Nat) :
    State.appl (State.graftFails s a item) = State.appl s := by
  simp [State.graftFails]
@[simp] theorem State.ftgenFails_appl (s : State) (a : ApplySt) :
    State.appl (State.ftgenFails s a) = State.appl s := by
  simp [State.ftgenFails]
@[simp] theorem State.finishApply_appl (s : State) :
    State.appl (State.finishApply s) = State.appl s := by
  unfold State.finishApply; split <;> simp
@[simp] theorem State.bootSettings_appl (s : State) :
    State.appl (State.bootSettings s) = State.appl s := by
  unfold State.bootSettings; dsimp only; (repeat' split) <;> simp_all
@[simp] theorem State.forceDone_appl (s : State) (f : ForceCmd) (status : Nat) (code : Nat) :
    State.appl (State.forceDone s f status code) = State.appl s := by
  simp [State.forceDone]
@[simp] theorem State.endCheck_appl (s : State) (r : CmdRef) (res : CheckRes) (lanes : List Lane) (passed : Lane → Bool) :
    State.appl (State.endCheck s r res lanes passed) = State.appl s := by
  simp [State.endCheck]
theorem execStageCheckDone_appl (differs : Trio Bool) (s : State) :
    ∀ t, (execStageCheckDone differs s) = .next t → State.appl t = State.appl s := by
  rintro _ ⟨⟩; dsimp only; (repeat' split) <;> simp_all
@[simp] theorem State.maintStep_appl (s : State) :
    State.appl (State.maintStep s) = State.appl s := by
  unfold State.maintStep; split <;> simp
@[simp] theorem State.makeTransition_appl (s : State) (target : LcState) (r : CmdRef) (signer : Nat) (reason : Bytes) :
    State.appl (State.makeTransition s target r signer reason) = State.appl s := by
  simp [State.makeTransition]
@[simp] theorem State.refuseTransition_appl (s : State) (target : Nat) (r : CmdRef) (signer : Nat) (status : Nat) :
    State.appl (State.refuseTransition s target r signer status) = State.appl s := by
  simp [State.refuseTransition]
@[simp] theorem State.lcStep_appl (s : State) :
    State.appl (State.lcStep s) = State.appl s := by
  unfold State.lcStep; dsimp only; (repeat' split) <;> simp_all
@[simp] theorem State.lcErase_appl (s : State) (src : LcState) (target : LcState) :
    State.appl (State.lcErase s src target) = State.appl s := by
  unfold State.lcErase; split <;> simp
@[simp] theorem State.lcNow_appl (s : State) (target : LcState) (r : CmdRef) (signer : Nat) (reason : Bytes) :
    State.appl (State.lcNow s target r signer reason) = State.appl s := by
  simp [State.lcNow]
@[simp] theorem State.latchTamperAt_appl (s : State) (wt : Nat) :
    State.appl (State.latchTamperAt s wt) = State.appl s := by
  simp [State.latchTamperAt]
@[simp] theorem State.latchTamper_appl (s : State) :
    State.appl (State.latchTamper s) = State.appl s := by
  simp [State.latchTamper]
@[simp] theorem State.unpoweredOpening_appl (s : State) :
    State.appl (State.unpoweredOpening s) = State.appl s := by
  simp [State.unpoweredOpening]
theorem execTamperSwitchOpen_appl (s : State) :
    ∀ t, (execTamperSwitchOpen s) = .next t → State.appl t = State.appl s := by
  rintro _ ⟨⟩; simp
theorem execSealLoopCheck_appl (intact : Bool) (s : State) :
    ∀ t, (execSealLoopCheck intact s) = .next t → State.appl t = State.appl s := by
  rintro _ ⟨⟩; simp
theorem execUnpoweredEnclosureOpening_appl (s : State) :
    ∀ t, (execUnpoweredEnclosureOpening s) = .next t → State.appl t = State.appl s := by
  rintro _ ⟨⟩; simp
@[simp] theorem State.bootTamper_appl (s : State) (loopOk : Bool) (unfed : Bool) (downOt : Nat) :
    State.appl (State.bootTamper s loopOk unfed downOt) = State.appl s := by
  simp [State.bootTamper]
theorem execUpdVerifyDone_appl (s : State) :
    ∀ t, (execUpdVerifyDone s) = .next t → State.appl t = State.appl s := by
  rintro _ ⟨⟩; (repeat' split) <;> simp
theorem execUpdateSessionTimeout_appl (s : State) :
    ∀ t, (execUpdateSessionTimeout s) = .next t → State.appl t = State.appl s := by
  rintro _ ⟨⟩; simp
@[simp] theorem State.actProgress_appl (s : State) (step : Nat) :
    State.appl (State.actProgress s step) = State.appl s := by
  unfold State.actProgress; split <;> simp
@[simp] theorem State.beginTurn_appl (s : State) (a : ActSt) (lane : Lane) :
    State.appl (State.beginTurn s a lane) = State.appl s := by
  simp [State.beginTurn]
@[simp] theorem State.turnStart_appl (s : State) :
    State.appl (State.turnStart s) = State.appl s := by
  unfold State.turnStart; (repeat' split) <;> simp
theorem execLaneTurn_appl (lane : Lane) (s : State) :
    ∀ t, (execLaneTurn lane s) = .next t → State.appl t = State.appl s := by
  rintro _ ⟨⟩; (repeat' split) <;> simp
theorem execKernelLoadDone_appl (lane : Lane) (s : State) :
    ∀ t, (execKernelLoadDone lane s) = .next t → State.appl t = State.appl s := by
  rintro _ ⟨⟩; simp
@[simp] theorem State.turnEnds_appl (s : State) (l : Lane) :
    State.appl (State.turnEnds s l) = State.appl s := by
  unfold State.turnEnds; split <;> simp
@[simp] theorem State.switchLevel_appl (s : State) :
    State.appl (State.switchLevel s) = State.appl s := by
  unfold State.switchLevel; split <;> simp
@[simp] theorem State.switchStart_appl (s : State) :
    State.appl (State.switchStart s) = State.appl s := by
  simp [State.switchStart]
theorem execLevelSwitch_appl (s : State) :
    ∀ t, (execLevelSwitch s) = .next t → State.appl t = State.appl s := by
  rintro _ ⟨⟩; simp
@[simp] theorem State.actStart_appl (s : State) :
    State.appl (State.actStart s) = State.appl s := by
  unfold State.actStart; split <;> simp
theorem execImageConfirmed_appl (s : State) :
    ∀ t, (execImageConfirmed s) = .next t → State.appl t = State.appl s := by
  rintro _ ⟨⟩; (repeat' split) <;> simp
theorem execPostActivationTimeout_appl (s : State) :
    ∀ t, (execPostActivationTimeout s) = .next t → State.appl t = State.appl s := by
  rintro _ ⟨⟩; (repeat' split) <;> simp
@[simp] theorem State.sbAnswer_appl (s : State) (ini : Initiator) (win : Nat) (off : Nat) (op : Nat) (fstat : Nat) (retry : Bool) (data : Bytes) :
    State.appl (State.sbAnswer s ini win off op fstat retry data) = State.appl s := by
  rfl
@[simp] theorem State.takeSbSeq_appl (s : State) :
    State.appl (State.takeSbSeq s).2 = State.appl s := by
  rfl
@[simp] theorem State.sendBridge_appl (s : State) (dst : Nat) (seq : Nat) (payload : Bytes) :
    State.appl (State.sendBridge s dst seq payload) = State.appl s := by
  simp [State.sendBridge]
@[simp] theorem State.sendXfer_appl (s : State) (x : Xfer) :
    State.appl (State.sendXfer s x) = State.appl s := by
  simp [State.sendXfer]
@[simp] theorem State.pumpWindow_appl (s : State) (w : Nat) :
    State.appl (State.pumpWindow s w) = State.appl s := by
  unfold State.pumpWindow; dsimp only; (repeat' split) <;> simp_all
@[simp] theorem State.finishXfer_appl (s : State) (x : Xfer) (fstat : Nat) (data : Bytes) :
    State.appl (State.finishXfer s x fstat data) = State.appl s := by
  simp [State.finishXfer]
@[simp] theorem State.spoil_appl (s : State) (win : Nat) (off : Nat) (len : Nat) :
    State.appl (State.spoil s win off len) = State.appl s := by
  rfl
@[simp] theorem State.sbTake_appl (s : State) (ini : Initiator) (win : Nat) (off : Nat) (op : Nat) (len : Nat) (data : Bytes) :
    State.appl (State.sbTake s ini win off op len data) = State.appl s := by
  simp [State.sbTake]
@[simp] theorem State.postedOff_appl (s : State) (win : Nat) (off : Nat) (data : Bytes) :
    State.appl (State.postedOff s win off data) = State.appl s := by
  simp [State.postedOff]
@[simp] theorem State.sbIssueWrite_appl (s : State) (ini : Initiator) (win : Nat) (off : Nat) (op : Nat) (data : Bytes) :
    State.appl (State.sbIssueWrite s ini win off op data) = State.appl s := by
  unfold State.sbIssueWrite; split <;> simp
@[simp] theorem State.sbIssueRead_appl (s : State) (ini : Initiator) (win : Nat) (off : Nat) (len : Nat) :
    State.appl (State.sbIssueRead s ini win off len) = State.appl s := by
  unfold State.sbIssueRead; (repeat' split) <;> simp
theorem execSbWrite_appl (win : Nat) (off : Nat) (data : Bytes) (s : State) :
    ∀ t, (execSbWrite win off data s) = .next t → State.appl t = State.appl s := by
  rintro _ ⟨⟩; simp
theorem execSbRead_appl (win : Nat) (off : Nat) (len : Nat) (s : State) :
    ∀ t, (execSbRead win off len s) = .next t → State.appl t = State.appl s := by
  rintro _ ⟨⟩; simp
theorem execSbPostedWrite_appl (win : Nat) (off : Nat) (data : Bytes) (s : State) :
    ∀ t, (execSbPostedWrite win off data s) = .next t → State.appl t = State.appl s := by
  rintro _ ⟨⟩; simp
@[simp] theorem State.laneTransfer_appl (s : State) (t : LaneTransfer) :
    State.appl (State.laneTransfer s t) = State.appl s := by
  unfold State.laneTransfer; split <;> simp
@[simp] theorem State.laneTransfers_appl (s : State) (issued : Trio (List LaneTransfer)) :
    State.appl (State.laneTransfers s issued) = State.appl s := by
  simp [State.laneTransfers]
@[simp] theorem State.freezeBridge_appl (s : State) :
    State.appl (State.freezeBridge s) = State.appl s := by
  rfl
@[simp] theorem State.serve_appl (s : State) (bop : Nat) (addr : Nat) (len : Nat) (data : Bytes) :
    State.appl (State.serve s bop addr len data).2.2 = State.appl s := by
  unfold State.serve; dsimp only; (repeat' split) <;> simp_all
@[simp] theorem State.inbound_appl (s : State) (g : Gvt) :
    State.appl (State.inbound s g) = State.appl s := by
  unfold State.inbound; dsimp only; (repeat' split) <;> simp_all
@[simp] theorem State.completion_appl (s : State) (g : Gvt) :
    State.appl (State.completion s g) = State.appl s := by
  unfold State.completion; split <;> simp
@[simp] theorem State.tvFail_appl (s : State) :
    State.appl (State.tvFail s) = State.appl s := by
  simp [State.tvFail]
theorem execBridgeFrameReceived_appl (net : Net) (f : Frame) (s : State) :
    ∀ t, (execBridgeFrameReceived net f s) = .next t → State.appl t = State.appl s := by
  rintro _ ⟨⟩; dsimp only; split
  · rfl
  · refine State.notOwn_appl _ _ _ ?_; (repeat' split) <;> simp
theorem execSbTransferTimeout_appl (seq : Nat) (s : State) :
    ∀ t, (execSbTransferTimeout seq s) = .next t → State.appl t = State.appl s := by
  rintro _ ⟨⟩; (repeat' split) <;> simp
theorem execSbBusyRetry_appl (seq : Nat) (s : State) :
    ∀ t, (execSbBusyRetry seq s) = .next t → State.appl t = State.appl s := by
  rintro _ ⟨⟩; (repeat' split) <;> simp
theorem execSbHeldResultExpiry_appl (vk : Bool) (win : Nat) (off : Nat) (len : Nat) (s : State) :
    ∀ t, (execSbHeldResultExpiry vk win off len s) = .next t → State.appl t = State.appl s := by
  rintro _ ⟨⟩; simp
@[simp] theorem State.updPair_appl (s : State) (f : PairSt → PairSt) :
    State.appl (State.updPair s f) = State.appl s := by
  rfl
theorem execPstartReceived_appl (m : PStart) (us : Nat) (s : State) :
    ∀ t, (execPstartReceived m us s) = .next t → State.appl t = State.appl s := by
  rintro _ ⟨⟩; simp
theorem execMblockReceived_appl (m : MBlock) (s : State) :
    ∀ t, (execMblockReceived m s) = .next t → State.appl t = State.appl s := by
  rintro _ ⟨⟩; simp
theorem execMcloseReceived_appl (m : MClose) (s : State) :
    ∀ t, (execMcloseReceived m s) = .next t → State.appl t = State.appl s := by
  rintro _ ⟨⟩; simp
theorem execPreportReceived_appl (crcOk : Bool) (h : Health) (s : State) :
    ∀ t, (execPreportReceived crcOk h s) = .next t → State.appl t = State.appl s := by
  rintro _ ⟨⟩; simp
@[simp] theorem State.noteCmd_appl (s : State) (r : CmdRef) :
    State.appl (State.noteCmd s r) = State.appl s := by
  rfl
theorem execHeartbeatReceived_appl (net : Net) (f : Frame) (s : State) :
    ∀ t, (execHeartbeatReceived net f s) = .next t → State.appl t = State.appl s := by
  rintro _ ⟨⟩; dsimp only; split
  · rfl
  · refine State.notOwn_appl _ _ _ ?_; (repeat' split) <;> simp
@[simp] theorem State.sendHeartbeat_appl (s : State) :
    State.appl (State.sendHeartbeat s) = State.appl s := by
  simp [State.sendHeartbeat]
theorem execPlLinkLoss_appl (link2 : Bool) (s : State) :
    ∀ t, (execPlLinkLoss link2 s) = .next t → State.appl t = State.appl s := by
  rintro _ ⟨⟩; simp
theorem execPlLinkReturn_appl (link2 : Bool) (s : State) :
    ∀ t, (execPlLinkReturn link2 s) = .next t → State.appl t = State.appl s := by
  rintro _ ⟨⟩; simp
theorem execOpticInserted_appl (link2 : Bool) (kind : Optic) (s : State) :
    ∀ t, (execOpticInserted link2 kind s) = .next t → State.appl t = State.appl s := by
  rintro _ ⟨⟩; simp
@[simp] theorem State.pairCmdDone_appl (s : State) (r : CmdRef) (before : Nat) (after : Nat) (st : Nat) :
    State.appl (State.pairCmdDone s r before after st) = State.appl s := by
  simp [State.pairCmdDone]
@[simp] theorem State.endHandover_appl (s : State) (after : Nat) (st : Nat) :
    State.appl (State.endHandover s after st) = State.appl s := by
  unfold State.endHandover; split <;> simp
@[simp] theorem State.handoverDone_appl (s : State) :
    State.appl (State.handoverDone s) = State.appl s := by
  simp [State.handoverDone]
@[simp] theorem State.leadWith_appl (s : State) (e : Nat) :
    State.appl (State.leadWith s e) = State.appl s := by
  simp [State.leadWith]
@[simp] theorem State.takeLead_appl (s : State) :
    State.appl (State.takeLead s) = State.appl s := by
  simp [State.takeLead]
@[simp] theorem State.becomeFollow_appl (s : State) (instep : Nat) :
    State.appl (State.becomeFollow s instep) = State.appl s := by
  simp [State.becomeFollow]
@[simp] theorem State.outOfStep_appl (s : State) :
    State.appl (State.outOfStep s) = State.appl s := by
  simp [State.outOfStep]
@[simp] theorem State.relinquish_appl (s : State) :
    State.appl (State.relinquish s) = State.appl s := by
  simp [State.relinquish]
@[simp] theorem State.takeIfDue_appl (s : State) :
    State.appl (State.takeIfDue s) = State.appl s := by
  simp [State.takeIfDue]
theorem execPartnerSilent_appl (s : State) :
    ∀ t, (execPartnerSilent s) = .next t → State.appl t = State.appl s := by
  rintro _ ⟨⟩; simp
theorem execRevertHoldOff_appl (s : State) :
    ∀ t, (execRevertHoldOff s) = .next t → State.appl t = State.appl s := by
  rintro _ ⟨⟩; simp
@[simp] theorem State.comeInStep_appl (s : State) :
    State.appl (State.comeInStep s) = State.appl s := by
  simp [State.comeInStep]
theorem execInStep_appl (s : State) :
    ∀ t, (execInStep s) = .next t → State.appl t = State.appl s := by
  rintro _ ⟨⟩; simp
@[simp] theorem State.endConflict_appl (s : State) :
    State.appl (State.endConflict s) = State.appl s := by
  simp [State.endConflict]
theorem execLeadClaimConflict_appl (s : State) :
    ∀ t, (execLeadClaimConflict s) = .next t → State.appl t = State.appl s := by
  rintro _ ⟨⟩; simp
@[simp] theorem State.joinRestart_appl (s : State) :
    State.appl (State.joinRestart s) = State.appl s := by
  simp [State.joinRestart]
theorem execPairApplyTimeout_appl (s : State) :
    ∀ t, (execPairApplyTimeout s) = .next t → State.appl t = State.appl s := by
  rintro _ ⟨⟩; simp
@[simp] theorem State.dropFar_appl (s : State) :
    State.appl (State.dropFar s) = State.appl s := by
  simp [State.dropFar]
@[simp] theorem State.startJoining_appl (s : State) :
    State.appl (State.startJoining s) = State.appl s := by
  simp [State.startJoining]
@[simp] theorem State.fallSilent_appl (s : State) :
    State.appl (State.fallSilent s) = State.appl s := by
  simp [State.fallSilent]
@[simp] theorem State.pairCount_appl (s : State) :
    State.appl (State.pairCount s) = State.appl s := by
  unfold State.pairCount; split <;> simp
@[simp] theorem State.countSilence_appl (s : State) :
    State.appl (State.countSilence s) = State.appl s := by
  simp [State.countSilence]
@[simp] theorem State.adoptEpoch_appl (s : State) :
    State.appl (State.adoptEpoch s) = State.appl s := by
  simp [State.adoptEpoch]
@[simp] theorem State.claims_appl (s : State) :
    State.appl (State.claims s) = State.appl s := by
  simp [State.claims]
@[simp] theorem State.compareOne_appl (s : State) (h : Health) :
    State.appl (State.compareOne s h) = State.appl s := by
  unfold State.compareOne; split <;> simp
@[simp] theorem State.compareReports_appl (s : State) :
    State.appl (State.compareReports s) = State.appl s := by
  simp [State.compareReports]
@[simp] theorem State.phaseCheck_appl (s : State) :
    State.appl (State.phaseCheck s) = State.appl s := by
  simp [State.phaseCheck]
@[simp] theorem State.phaseCorrect_appl (s : State) :
    State.appl (State.phaseCorrect s) = State.appl s := by
  rfl
@[simp] theorem State.mirrorAbandon_appl (s : State) :
    State.appl (State.mirrorAbandon s) = State.appl s := by
  simp [State.mirrorAbandon]
@[simp] theorem State.holdRestart_appl (s : State) :
    State.appl (State.holdRestart s) = State.appl s := by
  simp [State.holdRestart]
@[simp] theorem State.pairClaim_appl (s : State) :
    State.appl (State.pairClaim s) = State.appl s := by
  simp [State.pairClaim]
@[simp] theorem State.noteEntered_appl (s : State) (ops : List OpCmd) :
    State.appl (State.noteEntered s ops) = State.appl s := by
  simp [State.noteEntered]
@[simp] theorem State.holdForces_appl (s : State) :
    State.appl (State.holdForces s) = State.appl s := by
  simp [State.holdForces]
@[simp] theorem State.listForce_appl (s : State) (c : ForceCmd) :
    State.appl (State.listForce s c) = State.appl s := by
  simp [State.listForce]
@[simp] theorem State.listApply_appl (s : State) :
    State.appl (State.listApply s) = State.appl s := by
  rfl
@[simp] theorem State.takeLists_appl (s : State) :
    State.appl (State.takeLists s) = State.appl s := by
  unfold State.takeLists; split <;> simp
@[simp] theorem State.sendPstart_appl (s : State) (ops : List OpCmd) :
    State.appl (State.sendPstart s ops) = State.appl s := by
  simp [State.sendPstart]
@[simp] theorem State.formReport_appl (s : State) :
    State.appl (State.formReport s) = State.appl s := by
  rfl
@[simp] theorem State.pairDone_appl (s : State) :
    State.appl (State.pairDone s) = State.appl s := by
  simp [State.pairDone]
theorem execMcloseSend_appl (s : State) :
    ∀ t, (execMcloseSend s) = .next t → State.appl t = State.appl s := by
  rintro _ ⟨⟩; simp
@[simp] theorem State.sendTunnel_appl (s : State) (n : Nat) (seq : Nat) (data : Bytes) :
    State.appl (State.sendTunnel s n seq data) = State.appl s := by
  simp [State.sendTunnel]
@[simp] theorem State.carry_appl (s : State) (n : Nat) (data : Bytes) :
    State.appl (State.carry s n data) = State.appl s := by
  simp [State.carry]
@[simp] theorem State.carryOr_appl (s : State) (n : Nat) (data : Bytes) :
    State.appl (State.carryOr s n data) = State.appl s := by
  simp [State.carryOr]
@[simp] theorem State.lineFrame_appl (s : State) (port : Nat) (data : Bytes) (bad : Bool) :
    State.appl (State.lineFrame s port data bad) = State.appl s := by
  unfold State.lineFrame; dsimp only; (repeat' split) <;> simp_all
theorem execLegacyFrameReceived_appl (port : Nat) (data : Bytes) (ending : LegacyEnd) (s : State) :
    ∀ t, (execLegacyFrameReceived port data ending s) = .next t → State.appl t = State.appl s := by
  rintro _ ⟨⟩; dsimp only; (repeat' split) <;> simp_all
@[simp] theorem State.tunnelData_appl (s : State) (n : Nat) (g : Gvt) :
    State.appl (State.tunnelData s n g) = State.appl s := by
  simp [State.tunnelData]
theorem execTunnelFrameReceived_appl (net : Net) (f : Frame) (s : State) :
    ∀ t, (execTunnelFrameReceived net f s) = .next t → State.appl t = State.appl s := by
  rintro _ ⟨⟩; dsimp only; split
  · rfl
  · refine State.notOwn_appl _ _ _ ?_; (repeat' split) <;> simp
theorem execLegacyTransmit_appl (tunnel : Nat) (s : State) :
    ∀ t, (execLegacyTransmit tunnel s) = .next t → State.appl t = State.appl s := by
  rintro _ ⟨⟩; dsimp only; (repeat' split) <;> simp_all
theorem execTunnelKeepalive_appl (tunnel : Nat) (s : State) :
    ∀ t, (execTunnelKeepalive tunnel s) = .next t → State.appl t = State.appl s := by
  rintro _ ⟨⟩; simp
theorem execTunnelDown_appl (tunnel : Nat) (s : State) :
    ∀ t, (execTunnelDown tunnel s) = .next t → State.appl t = State.appl s := by
  rintro _ ⟨⟩; simp
@[simp] theorem State.latchCurrent_appl (s : State) (c : Nat) :
    State.appl (State.latchCurrent s c) = State.appl s := by
  simp [State.latchCurrent]
@[simp] theorem State.latchStatus_appl (s : State) :
    State.appl (State.latchStatus s) = State.appl s := by
  simp [State.latchStatus]
@[simp] theorem State.updCyc_appl (s : State) (f : CycleSt → CycleSt) :
    State.appl (State.updCyc s f) = State.appl s := by
  rfl
@[simp] theorem State.putForm_appl (s : State) (f : VoteForm) :
    State.appl (State.putForm s f) = State.appl s := by
  rfl
@[simp] theorem State.keepImage_appl (s : State) (f : VoteForm) :
    State.appl (State.keepImage s f) = State.appl s := by
  rfl
@[simp] theorem State.tickCompare_appl (s : State) (t : Trio Nat) :
    State.appl (State.tickCompare s t) = State.appl s := by
  unfold State.tickCompare; dsimp only; (repeat' split) <;> simp_all
@[simp] theorem State.otsCheck_appl (s : State) (t : Trio Nat) :
    State.appl (State.otsCheck s t) = State.appl s := by
  simp [State.otsCheck]
@[simp] theorem State.eventEffects_appl (s : State) :
    State.appl (State.eventEffects s) = State.appl s := by
  simp [State.eventEffects]
@[simp] theorem State.fbStores_appl (s : State) (env : StartEnv) (ls : List Lane) :
    State.appl (State.fbStores s env ls) = State.appl s := by
  simp [State.fbStores]
@[simp] theorem State.exercise_appl (s : State) (env : StartEnv) :
    State.appl (State.exercise s env) = State.appl s := by
  simp [State.exercise]
@[simp] theorem State.rejoinLane_appl (s : State) (l : Lane) :
    State.appl (State.rejoinLane s l) = State.appl s := by
  simp [State.rejoinLane]
@[simp] theorem State.resyncEntry_appl (s : State) :
    State.appl (State.resyncEntry s) = State.appl s := by
  unfold State.resyncEntry; (repeat' split) <;> simp
@[simp] theorem State.formCore_appl (s : State) :
    State.appl (State.formCore s) = State.appl s := by
  rfl
@[simp] theorem State.readCommons_appl (s : State) :
    State.appl (State.readCommons s) = State.appl s := by
  simp [State.readCommons]
@[simp] theorem State.takeTicks_appl (s : State) (t : Trio Nat) :
    State.appl (State.takeTicks s t) = State.appl s := by
  rfl
@[simp] theorem State.overrunCheck_appl (s : State) :
    State.appl (State.overrunCheck s) = State.appl s := by
  unfold State.overrunCheck; (repeat' split) <;> simp
theorem execOverrunLimit_appl (s : State) :
    ∀ t, (execOverrunLimit s) = .next t → State.appl t = State.appl s := by
  rintro _ ⟨⟩; simp
@[simp] theorem State.skipSlot_appl (s : State) :
    State.appl (State.skipSlot s) = State.appl s := by
  simp [State.skipSlot]
@[simp] theorem State.withdrawLate_appl (s : State) (l : Lane) :
    State.appl (State.withdrawLate s l) = State.appl s := by
  simp [State.withdrawLate]
@[simp] theorem State.copyAbandon_appl (s : State) :
    State.appl (State.copyAbandon s) = State.appl s := by
  unfold State.copyAbandon; split <;> simp
@[simp] theorem State.sendNonVital_appl (s : State) :
    State.appl (State.sendNonVital s) = State.appl s := by
  simp [State.sendNonVital]
@[simp] theorem State.budget_appl (s : State) (l : Lane) (t : Nat) :
    State.appl (State.budget s l t) = State.appl s := by
  simp [State.budget]
@[simp] theorem State.postDone_appl (s : State) (comp : Trio Nat) (done : Trio Bool) :
    State.appl (State.postDone s comp done) = State.appl s := by
  simp [State.postDone]
@[simp] theorem State.safetyLimit_appl (s : State) :
    State.appl (State.safetyLimit s) = State.appl s := by
  unfold State.safetyLimit; split <;> simp
theorem execSafetyCodeFailLimit_appl (s : State) :
    ∀ t, (execSafetyCodeFailLimit s) = .next t → State.appl t = State.appl s := by
  rintro _ ⟨⟩; simp
@[simp] theorem State.cycleEnd_appl (s : State) :
    State.appl (State.cycleEnd s) = State.appl s := by
  simp [State.cycleEnd]
@[simp] theorem State.cycleDone_appl (s : State) (comp : Trio Nat) (done : Trio Bool) :
    State.appl (State.cycleDone s comp done) = State.appl s := by
  simp [State.cycleDone]
@[simp] theorem State.shadow_appl (s : State) (forms : Trio FormIn) (f : VoteForm) :
    State.appl (State.shadow s forms f) = State.appl s := by
  unfold State.shadow; (repeat' split) <;> simp
@[simp] theorem State.minority_appl (s : State) (forms : Trio FormIn) (f : VoteForm) (l : Lane) :
    State.appl (State.minority s forms f l) = State.appl s := by
  unfold State.minority; split <;> simp
@[simp] theorem State.stampForms_appl (s : State) (forms : Trio FormIn) :
    State.appl (State.stampForms s forms) = State.appl s := by
  rfl
@[simp] theorem State.scFailed_appl (s : State) (conn : Nat) (names : List Lane) :
    State.appl (State.scFailed s conn names) = State.appl s := by
  simp [State.scFailed]
@[simp] theorem State.release_appl (s : State) (k : ConnCfg) (g : Gvt) :
    State.appl (State.release s k g) = State.appl s := by
  simp [State.release]
theorem execTelegramRelease_appl (conn : Nat) (sc1 : Option Nat) (sc2 : Option Nat) (comp : Trio Nat) (done : Trio Bool) (s : State) :
    ∀ t, (execTelegramRelease conn sc1 sc2 comp done s) = .next t → State.appl t = State.appl s := by
  rintro _ ⟨⟩; dsimp only; (repeat' split) <;> simp_all
theorem execResyncCopy_appl (lane : Lane) (r : CopyResult) (s : State) :
    ∀ t, (execResyncCopy lane r s) = .next t → State.appl t = State.appl s := by
  rintro _ ⟨⟩; simp
theorem execResyncRetry_appl (lane : Lane) (s : State) :
    ∀ t, (execResyncRetry lane s) = .next t → State.appl t = State.appl s := by
  rintro _ ⟨⟩; simp
theorem execRejoin_appl (lane : Lane) (s : State) :
    ∀ t, (execRejoin lane s) = .next t → State.appl t = State.appl s := by
  rintro _ ⟨⟩; simp
@[simp] theorem State.mismatch_appl (s : State) (l : Lane) :
    State.appl (State.mismatch s l) = State.appl s := by
  simp [State.mismatch]
theorem execComparatorMismatch_appl (x : Handshake) (s : State) :
    ∀ t, (execComparatorMismatch x s) = .next t → State.appl t = State.appl s := by
  rintro _ ⟨⟩; simp
theorem execArbitrationSelfTestDone_appl (lane : Lane) (core0 : Bool) (core1 : Bool) (cmp : Bool) (s : State) :
    ∀ t, (execArbitrationSelfTestDone lane core0 core1 cmp s) = .next t → State.appl t = State.appl s := by
  rintro _ ⟨⟩; (repeat' split) <;> simp
theorem execArbitrationSelfTestTimeout_appl (lane : Lane) (s : State) :
    ∀ t, (execArbitrationSelfTestTimeout lane s) = .next t → State.appl t = State.appl s := by
  rintro _ ⟨⟩; simp
@[simp] theorem State.reloadTables_appl (s : State) (l : Lane) :
    State.appl (State.reloadTables s l) = State.appl s := by
  rfl
@[simp] theorem State.checkPassed_appl (s : State) (l : Lane) :
    State.appl (State.checkPassed s l) = State.appl s := by
  rfl
theorem execRestartCheckDone_appl (lane : Lane) (cmpOk : Bool) (bankOk : Bool) (s : State) :
    ∀ t, (execRestartCheckDone lane cmpOk bankOk s) = .next t → State.appl t = State.appl s := by
  rintro _ ⟨⟩; simp
theorem execProgressTimeout_appl (lane : Lane) (s : State) :
    ∀ t, (execProgressTimeout lane s) = .next t → State.appl t = State.appl s := by
  rintro _ ⟨⟩; simp
theorem execLaneStall_appl (lane : Lane) (s : State) :
    ∀ t, (execLaneStall lane s) = .next t → State.appl t = State.appl s := by
  rintro _ ⟨⟩; simp
theorem execIllegalDualRailCode_appl (region : Nat) (block : Nat) (s : State) :
    ∀ t, (execIllegalDualRailCode region block s) = .next t → State.appl t = State.appl s := by
  rintro _ ⟨⟩; simp
@[simp] theorem State.ofCore_appl (s : State) (l : Lane) (core : Bool) (f : State → State) (h : ∀ s, State.appl (f s) = State.appl s) :
    State.appl (State.ofCore s l core f) = State.appl s := by
  simp [State.ofCore, h]
theorem execCacheError_appl (lane : Lane) (kind : CacheEvent) (s : State) :
    ∀ t, (execCacheError lane kind s) = .next t → State.appl t = State.appl s := by
  rintro _ ⟨⟩; refine State.fed_appl _ _ fun s => State.ofCore_appl _ _ _ _ fun s => ?_; split <;> simp
theorem execMemoryScrubError_appl (lane : Lane) (found : ScrubEvent) (s : State) :
    ∀ t, (execMemoryScrubError lane found s) = .next t → State.appl t = State.appl s := by
  rintro _ ⟨⟩; refine State.fed_appl _ _ fun s => State.ofCore_appl _ _ _ _ fun s => ?_; split <;> simp
theorem execLaneSupplyLoss_appl (lane : Lane) (s : State) :
    ∀ t, (execLaneSupplyLoss lane s) = .next t → State.appl t = State.appl s := by
  rintro _ ⟨⟩; simp
theorem execLaneSupplyReturn_appl (lane : Lane) (s : State) :
    ∀ t, (execLaneSupplyReturn lane s) = .next t → State.appl t = State.appl s := by
  rintro _ ⟨⟩; simp
theorem execCommonsSupplyLoss_appl (s : State) :
    ∀ t, (execCommonsSupplyLoss s) = .next t → State.appl t = State.appl s := by
  rintro _ ⟨⟩; simp
theorem execServiceSupplyLoss_appl (s : State) :
    ∀ t, (execServiceSupplyLoss s) = .next t → State.appl t = State.appl s := by
  rintro _ ⟨⟩; simp
theorem execServiceRegionReturn_appl (s : State) :
    ∀ t, (execServiceRegionReturn s) = .next t → State.appl t = State.appl s := by
  rintro _ ⟨⟩; simp
theorem execTimebaseTrim_appl (offs : Trio (Option Int)) (s : State) :
    ∀ t, (execTimebaseTrim offs s) = .next t → State.appl t = State.appl s := by
  rintro _ ⟨⟩; simp
theorem execTokenOverrun_appl (s : State) :
    ∀ t, (execTokenOverrun s) = .next t → State.appl t = State.appl s := by
  rintro _ ⟨⟩; simp
theorem execTokenRegenerate_appl (s : State) :
    ∀ t, (execTokenRegenerate s) = .next t → State.appl t = State.appl s := by
  rintro _ ⟨⟩; simp
@[simp] theorem State.updTime_appl (s : State) (f : TimeSt → TimeSt) (h : (f s.time).ot = s.time.ot) :
    State.appl (s.updTime f) = State.appl s := by
  simp [State.updTime, h]
theorem execOtCheckpoint_appl (s : State) :
    ∀ t, (execOtCheckpoint s) = .next t → State.appl t = State.appl s := by
  rintro _ ⟨⟩; exact State.fed_appl _ _ fun s => State.updTime_appl _ _ rfl
theorem execOtShadowWrite_appl (s : State) :
    ∀ t, (execOtShadowWrite s) = .next t → State.appl t = State.appl s := by
  rintro _ ⟨⟩; simp
theorem execArchiveWindowEnd_appl (s : State) :
    ∀ t, (execArchiveWindowEnd s) = .next t → State.appl t = State.appl s := by
  rintro _ ⟨⟩; simp
theorem execCoalescingWindowEnd_appl (kind : Nat) (source : Nat) (s : State) :
    ∀ t, (execCoalescingWindowEnd kind source s) = .next t → State.appl t = State.appl s := by
  rintro _ ⟨⟩; dsimp only; (repeat' split) <;> simp_all
theorem execDropRecord_appl (s : State) :
    ∀ t, (execDropRecord s) = .next t → State.appl t = State.appl s := by
  rintro _ ⟨⟩; simp
@[simp] theorem State.lastLine_appl (s : State) (seq : Nat) (f : Fsid) (log : Nat) (seg : Nat) :
    State.appl (State.lastLine s seq f log seg) = State.appl s := by
  rfl
theorem execLogSegmentFailure_appl (log : Log) (segment : Nat) (s : State) :
    ∀ t, (execLogSegmentFailure log segment s) = .next t → State.appl t = State.appl s := by
  rintro _ ⟨⟩; simp
@[simp] theorem State.setWt_appl (s : State) (new : Nat) (source : Nat) (cred : Nat) (session : Nat) (ep : Nat) (cmd : Nat) :
    State.appl (State.setWt s new source cred session ep cmd) = State.appl s := by
  simp [State.setWt]
theorem execPtpSync_appl (offsetUs : Int) (master : PtpMaster) (s : State) :
    ∀ t, (execPtpSync offsetUs master s) = .next t → State.appl t = State.appl s := by
  rintro _ ⟨⟩; simp
theorem execPtpUnlock_appl (s : State) :
    ∀ t, (execPtpUnlock s) = .next t → State.appl t = State.appl s := by
  rintro _ ⟨⟩; simp
theorem execEscalation_appl (fsid : Fsid) (s : State) :
    ∀ t, (execEscalation fsid s) = .next t → State.appl t = State.appl s := by
  rintro _ ⟨⟩; simp
theorem execEscalationWindowExpiry_appl (fsid : Fsid) (s : State) :
    ∀ t, (execEscalationWindowExpiry fsid s) = .next t → State.appl t = State.appl s := by
  rintro _ ⟨⟩; simp
theorem execLaneLatchOut_appl (lane : Lane) (s : State) :
    ∀ t, (execLaneLatchOut lane s) = .next t → State.appl t = State.appl s := by
  rintro _ ⟨⟩; simp
theorem execWithdrawalWindowExpiry_appl (lane : Lane) (s : State) :
    ∀ t, (execWithdrawalWindowExpiry lane s) = .next t → State.appl t = State.appl s := by
  rintro _ ⟨⟩; simp
theorem execSafeCountLimit_appl (s : State) :
    ∀ t, (execSafeCountLimit s) = .next t → State.appl t = State.appl s := by
  rintro _ ⟨⟩; simp
theorem execSafeCountWindowExpiry_appl (s : State) :
    ∀ t, (execSafeCountWindowExpiry s) = .next t → State.appl t = State.appl s := by
  rintro _ ⟨⟩; simp
theorem execEventAck_appl (lane : Lane) (seq : Nat) (s : State) :
    ∀ t, (execEventAck lane seq s) = .next t → State.appl t = State.appl s := by
  rintro _ ⟨⟩; simp
@[simp] theorem State.graceOut_appl (s : State) (parent : Nat) (l : Lane) :
    State.appl (State.graceOut s parent l) = State.appl s := by
  simp [State.graceOut]
theorem execGraceExpiry_appl (seq : Nat) (s : State) :
    ∀ t, (execGraceExpiry seq s) = .next t → State.appl t = State.appl s := by
  rintro _ ⟨⟩; (repeat' split) <;> simp
theorem execSettleWindowEnd_appl (block : Nat) (pass : Bool) (s : State) :
    ∀ t, (execSettleWindowEnd block pass s) = .next t → State.appl t = State.appl s := by
  rintro _ ⟨⟩; (repeat' split) <;> simp
theorem execMfSelfCheck_appl (agree : Bool) (illegal : Bool) (conducting : Trio Bool) (s : State) :
    ∀ t, (execMfSelfCheck agree illegal conducting s) = .next t → State.appl t = State.appl s := by
  rintro _ ⟨⟩; simp
theorem execDuoLimit_appl (s : State) :
    ∀ t, (execDuoLimit s) = .next t → State.appl t = State.appl s := by
  rintro _ ⟨⟩; simp
theorem execHoldLimit_appl (lane : Lane) (s : State) :
    ∀ t, (execHoldLimit lane s) = .next t → State.appl t = State.appl s := by
  rintro _ ⟨⟩; simp
@[simp] theorem State.updPow_appl (s : State) (f : PowerSt → PowerSt) :
    State.appl (State.updPow s f) = State.appl s := by
  rfl
@[simp] theorem State.endSpan_appl (s : State) :
    State.appl (State.endSpan s) = State.appl s := by
  simp [State.endSpan]
@[simp] theorem State.archiveCold_appl (s : State) :
    State.appl (State.archiveCold s) = State.appl s := by
  simp [State.archiveCold]
@[simp] theorem State.flush_appl (s : State) :
    State.appl (State.flush s) = State.appl s := by
  unfold State.flush; dsimp only; rw [State.updTime_appl _ _ rfl]; split
  · exact State.updRecs_appl _ _
  · rfl
@[simp] theorem State.readOptics_appl (s : State) :
    State.appl (State.readOptics s) = State.appl s := by
  simp [State.readOptics]
@[simp] theorem State.bootChecks_appl (s : State) (env : BootEnv) (unfed : Bool) (downOt : Nat) :
    State.appl (State.bootChecks s env unfed downOt) = State.appl s := by
  simp [State.bootChecks]
@[simp] theorem State.powerTimes_appl (s : State) (kaFed : Bool) (offMs : Nat) :
    State.appl (State.powerTimes s kaFed offMs) = State.appl s := by
  rfl
@[simp] theorem State.bootFailed_appl (s : State) (l : Lane) :
    State.appl (State.bootFailed s l) = State.appl s := by
  simp [State.bootFailed]
theorem execBootSelfTestTimeout_appl (lane : Lane) (s : State) :
    ∀ t, (execBootSelfTestTimeout lane s) = .next t → State.appl t = State.appl s := by
  rintro _ ⟨⟩; simp
theorem execSyncTimeout_appl (s : State) :
    ∀ t, (execSyncTimeout s) = .next t → State.appl t = State.appl s := by
  rintro _ ⟨⟩; simp
theorem execPowerFailWarning_appl (s : State) :
    ∀ t, (execPowerFailWarning s) = .next t → State.appl t = State.appl s := by
  rintro _ ⟨⟩; simp
theorem execPowerReturn_appl (s : State) :
    ∀ t, (execPowerReturn s) = .next t → State.appl t = State.appl s := by
  rintro _ ⟨⟩; simp
theorem execInputLoss_appl (second : Bool) (s : State) :
    ∀ t, (execInputLoss second s) = .next t → State.appl t = State.appl s := by
  rintro _ ⟨⟩; simp
theorem execInputRestored_appl (second : Bool) (s : State) :
    ∀ t, (execInputRestored second s) = .next t → State.appl t = State.appl s := by
  rintro _ ⟨⟩; simp
theorem execAddressPlugPoll_appl (plug : Plug) (s : State) :
    ∀ t, (execAddressPlugPoll plug s) = .next t → State.appl t = State.appl s := by
  rintro _ ⟨⟩; simp
theorem execThermalWarning_appl (s : State) :
    ∀ t, (execThermalWarning s) = .next t → State.appl t = State.appl s := by
  rintro _ ⟨⟩; simp
theorem execThermalWarningCleared_appl (s : State) :
    ∀ t, (execThermalWarningCleared s) = .next t → State.appl t = State.appl s := by
  rintro _ ⟨⟩; simp
theorem execThermalTrip_appl (s : State) :
    ∀ t, (execThermalTrip s) = .next t → State.appl t = State.appl s := by
  rintro _ ⟨⟩; simp
@[simp] theorem State.discardRestart_appl (s : State) (kind : RestartKind) :
    State.appl (State.discardRestart s kind) = State.appl s := by
  simp [State.discardRestart]
@[simp] theorem State.askRestart_appl (s : State) (kind : RestartKind) :
    State.appl (State.askRestart s kind) = State.appl s := by
  simp [State.askRestart]
theorem execResetButtonRelease_appl (ms : Nat) (s : State) :
    ∀ t, (execResetButtonRelease ms s) = .next t → State.appl t = State.appl s := by
  rintro _ ⟨⟩; simp
theorem execResetButtonStuck_appl (s : State) :
    ∀ t, (execResetButtonStuck s) = .next t → State.appl t = State.appl s := by
  rintro _ ⟨⟩; simp
theorem execButtonContactDisagree_appl (s : State) :
    ∀ t, (execButtonContactDisagree s) = .next t → State.appl t = State.appl s := by
  rintro _ ⟨⟩; simp
theorem execButtonReenable_appl (s : State) :
    ∀ t, (execButtonReenable s) = .next t → State.appl t = State.appl s := by
  rintro _ ⟨⟩; simp
@[simp] theorem State.updMail_appl (s : State) (f : MailSt → MailSt) :
    State.appl (State.updMail s f) = State.appl s := by
  rfl
@[simp] theorem State.freeBox_appl (s : State) (mb : Nat) :
    State.appl (State.freeBox s mb) = State.appl s := by
  simp [State.freeBox]
theorem State.claim_appl (s : State) (ep : Nat) (mb : Nat) (key : Nat) :
    ∀ t, (State.claim s ep mb key) = some t → State.appl t = State.appl s := by
  intro t h; unfold State.claim at h; (repeat' split at h) <;> simp_all <;> (subst h; simp)
theorem State.release0_appl (s : State) (ep : Nat) (mb : Nat) :
    ∀ t, (State.release0 s ep mb) = some t → State.appl t = State.appl s := by
  intro t h; unfold State.release0 at h; (repeat' split at h) <;> simp_all <;> (subst h; simp)
theorem State.ring_appl (s : State) (ep : Nat) (mb : Nat) (tag : Nat) :
    ∀ t, (State.ring s ep mb tag) = some t → State.appl t = State.appl s := by
  intro t h; unfold State.ring at h; dsimp only at h; (repeat' split at h) <;> simp at h <;> subst h <;> simp
theorem State.ack_appl (s : State) (ep : Nat) (mb : Nat) :
    ∀ t, (State.ack s ep mb) = some t → State.appl t = State.appl s := by
  intro t h; unfold State.ack at h; dsimp only at h; (repeat' split at h) <;> simp at h <;> subst h <;> simp
theorem State.ctlWrite_appl (s : State) (ep : Nat) (mb : Nat) (off : Nat) (w : Nat) :
    ∀ t, (State.ctlWrite s ep mb off w) = some t → State.appl t = State.appl s := by
  intro t h; unfold State.ctlWrite at h; (repeat' split at h) <;> first
    | exact State.claim_appl _ _ _ _ _ h
    | exact State.release0_appl _ _ _ _ h
    | exact State.ring_appl _ _ _ _ _ h
    | exact State.ack_appl _ _ _ _ h
    | simp at h
@[simp] theorem State.winWrite_appl (s : State) (ep : Nat) (addr : Nat) (data : Bytes) (who : Option Nat) :
    State.appl (State.winWrite s ep addr data who).2 = State.appl s := by
  unfold State.winWrite; dsimp only; (repeat' split) <;> first
    | rfl
    | exact State.ctlWrite_appl _ _ _ _ _ _ ‹_›
    | simp
@[simp] theorem State.refusedWrite_appl (s : State) (st : Nat) (addr : Nat) (ep : Nat) :
    State.appl (State.refusedWrite s st addr ep) = State.appl s := by
  simp [State.refusedWrite]
theorem State.endpoint_appl (s : State) (h : NspHead) :
    ∀ t, (State.endpoint s h) = some t → State.appl t.2 = State.appl s := by
  intro t h; unfold State.endpoint at h; dsimp only at h; (repeat' split at h) <;> simp at h <;> subst h <;> simp
@[simp] theorem State.useXid_appl (s : State) (id : Option Nat) (xid : Nat) :
    State.appl (State.useXid s id xid) = State.appl s := by
  unfold State.useXid; split <;> simp
@[simp] theorem State.reply_appl (s : State) (r : Reply) (keep : Bool) :
    State.appl (State.reply s r keep) = State.appl s := by
  rfl
@[simp] theorem State.nspRead_appl (s : State) (ep : Nat) (h : NspHead) (addr : Nat) :
    State.appl (State.nspRead s ep h addr) = State.appl s := by
  simp [State.nspRead]
@[simp] theorem State.nspWrite_appl (s : State) (ep : Nat) (h : NspHead) (addr : Nat) (data : Bytes) :
    State.appl (State.nspWrite s ep h addr data) = State.appl s := by
  simp [State.nspWrite]
@[simp] theorem State.nspFrame_appl (s : State) (h : NspHead) (addr : Nat) (data : Bytes) :
    State.appl (State.nspFrame s h addr data) = State.appl s := by
  unfold State.nspFrame; split
  · rfl
  · have e := State.endpoint_appl _ _ _ ‹_›
    dsimp only at e ⊢; (repeat' split) <;> simp [e]
@[simp] theorem State.cspiAlert_appl (s : State) :
    State.appl (State.cspiAlert s).2 = State.appl s := by
  unfold State.cspiAlert; dsimp only; (repeat' split) <;> simp_all
@[simp] theorem State.cspiBegin_appl (s : State) :
    State.appl (State.cspiBegin s) = State.appl s := by
  simp [State.cspiBegin]
@[simp] theorem State.cspiWrite_appl (s : State) (addr : Nat) (data : Bytes) :
    State.appl (State.cspiWrite s addr data) = State.appl s := by
  simp [State.cspiWrite]
@[simp] theorem State.cspiRead_appl (s : State) (addr : Nat) (n : Nat) :
    State.appl (State.cspiRead s addr n) = State.appl s := by
  simp [State.cspiRead]
@[simp] theorem State.access_appl (s : State) (acc : Access) (addr : Nat) (data : Bytes) :
    State.appl (State.access s acc addr data) = State.appl s := by
  unfold State.access; (repeat' split) <;> simp
theorem execMailboxAgeTimeout_appl (mb : Nat) (s : State) :
    ∀ t, (execMailboxAgeTimeout mb s) = .next t → State.appl t = State.appl s := by
  rintro _ ⟨⟩; simp
theorem execSessionIdleTimeout_appl (session : Nat) (s : State) :
    ∀ t, (execSessionIdleTimeout session s) = .next t → State.appl t = State.appl s := by
  rintro _ ⟨⟩; simp
theorem execAuthTimeout_appl (s : State) :
    ∀ t, (execAuthTimeout s) = .next t → State.appl t = State.appl s := by
  rintro _ ⟨⟩; simp
@[simp] theorem State.respond_appl (s : State) (mb : Nat) (status : Nat) (body : Bytes) :
    State.appl (State.respond s mb status body) = State.appl s := by
  rfl
theorem query_appl (n : Nat) (r : List (Nat × Nat)) (f : State → Ctx → Ans) (s : State) (x : Ctx) :
    State.appl ((query n r f).run s x).2 = State.appl s := rfl
@[simp] theorem State.answerBad_appl (x0 : Nat) (x1 : State) :
    State.appl (State.answerBad x0 x1) = State.appl x1 := by
  induction x0 generalizing x1 with
  | zero => rfl
  | succ n ih => simp only [State.answerBad]; (repeat' split) <;> simp [ih]
@[simp] theorem State.grantFirst_appl (s : State) (c : FabricClass) :
    State.appl (State.grantFirst s c) = State.appl s := by
  simp [State.grantFirst]
@[simp] theorem State.settle_appl (s : State) :
    State.appl (State.settle s) = State.appl s := by
  simp [State.settle]
@[simp] theorem State.hostWrite_appl (s : State) (acc : Access) (addr : Nat) (data : Bytes) :
    State.appl (State.hostWrite s acc addr data) = State.appl s := by
  simp [State.hostWrite]
theorem execMailboxClaim_appl (acc : Access) (mb : Nat) (ownkey : Nat) (s : State) :
    ∀ t, (execMailboxClaim acc mb ownkey s) = .next t → State.appl t = State.appl s := by
  rintro _ ⟨⟩; split <;> simp
theorem execMailboxRelease_appl (acc : Access) (mb : Nat) (s : State) :
    ∀ t, (execMailboxRelease acc mb s) = .next t → State.appl t = State.appl s := by
  rintro _ ⟨⟩; split <;> simp
theorem execDoorbellRing_appl (acc : Access) (mb : Nat) (tag : Nat) (s : State) :
    ∀ t, (execDoorbellRing acc mb tag s) = .next t → State.appl t = State.appl s := by
  rintro _ ⟨⟩; split <;> simp
theorem execDoorbellAck_appl (acc : Access) (mb : Nat) (s : State) :
    ∀ t, (execDoorbellAck acc mb s) = .next t → State.appl t = State.appl s := by
  rintro _ ⟨⟩; split <;> simp
theorem execRegisterWrite_appl (acc : Access) (addr : Nat) (data : Bytes) (s : State) :
    ∀ t, (execRegisterWrite acc addr data s) = .next t → State.appl t = State.appl s := by
  rintro _ ⟨⟩; simp
@[simp] theorem State.retryBox_appl (s : State) (mb : Nat) :
    State.appl (State.retryBox s mb) = State.appl s := by
  simp [State.retryBox]
theorem execCommandResponseTimeout_appl (mb : Nat) (s : State) :
    ∀ t, (execCommandResponseTimeout mb s) = .next t → State.appl t = State.appl s := by
  rintro _ ⟨⟩; simp
theorem execFabricGrantTimeout_appl (user : FabricUser) (s : State) :
    ∀ t, (execFabricGrantTimeout user s) = .next t → State.appl t = State.appl s := by
  rintro _ ⟨⟩; (repeat' split) <;> simp
theorem State.serveCmd_appl (s : State) (mb code : Nat) (c : Cmd)
    (h : ∀ s x, State.appl (c.run s x).2 = State.appl s) : State.appl (s.serveCmd mb code c) = State.appl s := by
  unfold State.serveCmd; dsimp only; (repeat' split) <;> simp [h]
@[simp] theorem State.firmwareFault_appl (s : State) (f : Fsid) :
    State.appl (State.firmwareFault s f) = State.appl s := by
  unfold State.firmwareFault; dsimp only; (repeat' split) <;> simp_all
theorem execFaultEventCollected_appl (fsid : Fsid) (s : State) :
    ∀ t, (execFaultEventCollected fsid s) = .next t → State.appl t = State.appl s := by
  rintro _ ⟨⟩; simp
@[simp] theorem okAns_appl (b : Bytes) (s : State) :
    State.appl (okAns b s).2 = State.appl s := by
  rfl
@[simp] theorem noAns_appl (st : Nat) (s : State) :
    State.appl (noAns st s).2 = State.appl s := by
  rfl
@[simp] theorem State.accepted_appl (s : State) (c : Ctx) (item : Nat) :
    State.appl (State.accepted s c item).2 = State.appl s := by
  rfl
theorem logged_appl (f : State → Ctx → Ans × State) (h : ∀ s x, State.appl (f s x).2 = State.appl s) (s : State) (c : Ctx) :
    State.appl (logged f s c).2 = State.appl s := by
  unfold logged; split <;> simp [noAns, h]
@[simp] theorem State.dropStep_appl (s : State) (c : Ctx) :
    State.appl (State.dropStep s c) = State.appl s := by
  rfl
@[simp] theorem State.firstStep_appl (s : State) (c : Ctx) (off : Nat) :
    State.appl (State.firstStep s c off).2 = State.appl s := by
  rfl
@[simp] theorem State.secondStep_appl (s : State) (c : Ctx) (off : Nat) (window : Bool) :
    State.appl (State.secondStep s c off window).2 = State.appl s := by
  rfl
@[simp] theorem State.ctxChange_appl (s : State) (c : Ctx) (kind : Nat) (body : Bytes) :
    State.appl (State.ctxChange s c kind body) = State.appl s := by
  simp [State.ctxChange]
@[simp] theorem State.newProv_appl (s : State) (ep : Nat) (cred : Nat) (hostkey : Bytes) :
    State.appl (State.newProv s ep cred hostkey).2 = State.appl s := by
  rfl
@[simp] theorem runOpen_appl (s : State) (c : Ctx) :
    State.appl (runOpen s c).2 = State.appl s := by
  unfold runOpen; dsimp only; (repeat' split) <;> simp_all
theorem execOpenSession_appl (mb : Nat) (s : State) :
    ∀ t, execOpenSession mb s = .next t → State.appl t = State.appl s := by
  rintro _ ⟨⟩; exact State.serveCmd_appl _ _ _ _ (runOpen_appl)
@[simp] theorem runAuth_appl (s : State) (c : Ctx) :
    State.appl (runAuth s c).2 = State.appl s := by
  unfold runAuth; (repeat' split) <;> simp
theorem execAuth_appl (mb : Nat) (s : State) :
    ∀ t, execAuth mb s = .next t → State.appl t = State.appl s := by
  rintro _ ⟨⟩; exact State.serveCmd_appl _ _ _ _ (runAuth_appl)
theorem execClose_appl (mb : Nat) (s : State) :
    ∀ t, execClose mb s = .next t → State.appl t = State.appl s := by
  rintro _ ⟨⟩; exact State.serveCmd_appl _ _ _ _ (fun s x => by dsimp only [cmdClose, opCmd, noAns, okAns]; (repeat' split) <;> simp)
theorem execSessionList_appl (mb : Nat) (s : State) :
    ∀ t, execSessionList mb s = .next t → State.appl t = State.appl s := by
  rintro _ ⟨⟩; exact State.serveCmd_appl _ _ _ _ (query_appl _ _ _)
@[simp] theorem runCredAdd_appl (s : State) (c : Ctx) :
    State.appl (runCredAdd s c).2 = State.appl s := by
  unfold runCredAdd; dsimp only; (repeat' split) <;> simp_all
theorem execCredAdd_appl (mb : Nat) (s : State) :
    ∀ t, execCredAdd mb s = .next t → State.appl t = State.appl s := by
  rintro _ ⟨⟩; exact State.serveCmd_appl _ _ _ _ (logged_appl _ runCredAdd_appl)
@[simp] theorem runCredRevoke_appl (s : State) (c : Ctx) :
    State.appl (runCredRevoke s c).2 = State.appl s := by
  unfold runCredRevoke; dsimp only; (repeat' split) <;> simp_all
theorem execCredRevoke_appl (mb : Nat) (s : State) :
    ∀ t, execCredRevoke mb s = .next t → State.appl t = State.appl s := by
  rintro _ ⟨⟩; exact State.serveCmd_appl _ _ _ _ (logged_appl _ runCredRevoke_appl)
theorem execCredList_appl (mb : Nat) (s : State) :
    ∀ t, execCredList mb s = .next t → State.appl t = State.appl s := by
  rintro _ ⟨⟩; exact State.serveCmd_appl _ _ _ _ (query_appl _ _ _)
theorem execIdentity_appl (mb : Nat) (s : State) :
    ∀ t, execIdentity mb s = .next t → State.appl t = State.appl s := by
  rintro _ ⟨⟩; exact State.serveCmd_appl _ _ _ _ (query_appl _ _ _)
theorem execCycleStatus_appl (mb : Nat) (s : State) :
    ∀ t, execCycleStatus mb s = .next t → State.appl t = State.appl s := by
  rintro _ ⟨⟩; exact State.serveCmd_appl _ _ _ _ (query_appl _ _ _)
theorem execLaneStatus_appl (mb : Nat) (s : State) :
    ∀ t, execLaneStatus mb s = .next t → State.appl t = State.appl s := by
  rintro _ ⟨⟩; exact State.serveCmd_appl _ _ _ _ (query_appl _ _ _)
theorem execInputStatus_appl (mb : Nat) (s : State) :
    ∀ t, execInputStatus mb s = .next t → State.appl t = State.appl s := by
  rintro _ ⟨⟩; exact State.serveCmd_appl _ _ _ _ (query_appl _ _ _)
theorem execOutputStatus_appl (mb : Nat) (s : State) :
    ∀ t, execOutputStatus mb s = .next t → State.appl t = State.appl s := by
  rintro _ ⟨⟩; exact State.serveCmd_appl _ _ _ _ (query_appl _ _ _)
theorem execConnStatus_appl (mb : Nat) (s : State) :
    ∀ t, execConnStatus mb s = .next t → State.appl t = State.appl s := by
  rintro _ ⟨⟩; exact State.serveCmd_appl _ _ _ _ (query_appl _ _ _)
theorem execElementRead_appl (mb : Nat) (s : State) :
    ∀ t, execElementRead mb s = .next t → State.appl t = State.appl s := by
  rintro _ ⟨⟩; exact State.serveCmd_appl _ _ _ _ (query_appl _ _ _)
theorem execRouteRead_appl (mb : Nat) (s : State) :
    ∀ t, execRouteRead mb s = .next t → State.appl t = State.appl s := by
  rintro _ ⟨⟩; exact State.serveCmd_appl _ _ _ _ (query_appl _ _ _)
theorem execTrellisStatus_appl (mb : Nat) (s : State) :
    ∀ t, execTrellisStatus mb s = .next t → State.appl t = State.appl s := by
  rintro _ ⟨⟩; exact State.serveCmd_appl _ _ _ _ (query_appl _ _ _)
theorem execRouteIdent_appl (mb : Nat) (s : State) :
    ∀ t, execRouteIdent mb s = .next t → State.appl t = State.appl s := by
  rintro _ ⟨⟩; exact State.serveCmd_appl _ _ _ _ (query_appl _ _ _)
theorem execImageInfo_appl (mb : Nat) (s : State) :
    ∀ t, execImageInfo mb s = .next t → State.appl t = State.appl s := by
  rintro _ ⟨⟩; exact State.serveCmd_appl _ _ _ _ (query_appl _ _ _)
theorem execPairStatus_appl (mb : Nat) (s : State) :
    ∀ t, execPairStatus mb s = .next t → State.appl t = State.appl s := by
  rintro _ ⟨⟩; exact State.serveCmd_appl _ _ _ _ (query_appl _ _ _)
theorem execFaultStatus_appl (mb : Nat) (s : State) :
    ∀ t, execFaultStatus mb s = .next t → State.appl t = State.appl s := by
  rintro _ ⟨⟩; exact State.serveCmd_appl _ _ _ _ (query_appl _ _ _)
theorem execEscBounds_appl (mb : Nat) (s : State) :
    ∀ t, execEscBounds mb s = .next t → State.appl t = State.appl s := by
  rintro _ ⟨⟩; exact State.serveCmd_appl _ _ _ _ (query_appl _ _ _)
theorem execHedgeList_appl (mb : Nat) (s : State) :
    ∀ t, execHedgeList mb s = .next t → State.appl t = State.appl s := by
  rintro _ ⟨⟩; exact State.serveCmd_appl _ _ _ _ (query_appl _ _ _)
theorem execTimeGet_appl (mb : Nat) (s : State) :
    ∀ t, execTimeGet mb s = .next t → State.appl t = State.appl s := by
  rintro _ ⟨⟩; exact State.serveCmd_appl _ _ _ _ (query_appl _ _ _)
@[simp] theorem State.lcJudge_appl (s : State) (target : LcState) (r : CmdRef) (t : Bytes) :
    State.appl (State.lcJudge s target r t) = State.appl s := by
  unfold State.lcJudge; dsimp only; (repeat' split) <;> simp_all
@[simp] theorem runLcTransition_appl (s : State) (c : Ctx) :
    State.appl (runLcTransition s c).2 = State.appl s := by
  unfold runLcTransition; dsimp only; (repeat' split) <;> simp_all
theorem execLcTransition_appl (mb : Nat) (s : State) :
    ∀ t, execLcTransition mb s = .next t → State.appl t = State.appl s := by
  rintro _ ⟨⟩; exact State.serveCmd_appl _ _ _ _ (logged_appl _ runLcTransition_appl)
@[simp] theorem runMode_appl (s : State) (c : Ctx) :
    State.appl (runMode s c).2 = State.appl s := by
  unfold runMode; dsimp only; (repeat' split) <;> simp_all
theorem execMode_appl (mb : Nat) (s : State) :
    ∀ t, execMode mb s = .next t → State.appl t = State.appl s := by
  rintro _ ⟨⟩; exact State.serveCmd_appl _ _ _ _ (logged_appl _ runMode_appl)
@[simp] theorem runRestart_appl (s : State) (c : Ctx) :
    State.appl (runRestart s c).2 = State.appl s := by
  unfold runRestart; dsimp only; (repeat' split) <;> simp_all
theorem execRestart_appl (mb : Nat) (s : State) :
    ∀ t, execRestart mb s = .next t → State.appl t = State.appl s := by
  rintro _ ⟨⟩; exact State.serveCmd_appl _ _ _ _ (logged_appl _ runRestart_appl)
@[simp] theorem runMaint_appl (s : State) (c : Ctx) :
    State.appl (runMaint s c).2 = State.appl s := by
  unfold runMaint; dsimp only; (repeat' split) <;> simp_all
theorem execMaint_appl (mb : Nat) (s : State) :
    ∀ t, execMaint mb s = .next t → State.appl t = State.appl s := by
  rintro _ ⟨⟩; exact State.serveCmd_appl _ _ _ _ (logged_appl _ runMaint_appl)
@[simp] theorem State.updStage_appl (s : State) (f : StageSt → StageSt) :
    State.appl (State.updStage s f) = State.appl s := by
  rfl
theorem owned_appl (f : State → Ctx → Ans × State) (h : ∀ s x, State.appl (f s x).2 = State.appl s) (s : State) (c : Ctx) :
    State.appl (owned f s c).2 = State.appl s := by
  unfold owned; split <;> simp [noAns, h]
@[simp] theorem runStageOpen_appl (s : State) (c : Ctx) :
    State.appl (runStageOpen s c).2 = State.appl s := by
  unfold runStageOpen; (repeat' split) <;> simp
theorem execStageOpen_appl (mb : Nat) (s : State) :
    ∀ t, execStageOpen mb s = .next t → State.appl t = State.appl s := by
  rintro _ ⟨⟩; exact State.serveCmd_appl _ _ _ _ (logged_appl _ runStageOpen_appl)
theorem State.stageAll_appl (s : State) (x1 : List Bytes) (x2 : Nat) :
    ∀ t, (State.stageAll s x1 x2) = .ok t → State.appl t = State.appl s := by
  induction x1 generalizing s x2 with
  | nil => intro t h; simp [State.stageAll] at h; rw [h]
  | cons r rs ih =>
    intro t h; simp only [State.stageAll] at h; split at h
    · rw [ih _ _ _ h]; simp
    · simp at h
@[simp] theorem State.afterWrite_appl (s : State) :
    State.appl (State.afterWrite s) = State.appl s := by
  simp [State.afterWrite]
@[simp] theorem State.writeEntries_appl (s : State) (role : Nat) (rs : List Bytes) :
    State.appl (State.writeEntries s role rs).2 = State.appl s := by
  unfold State.writeEntries; split; · rfl
  split; · rfl
  split
  · rfl
  · simp [okAns, State.stageAll_appl _ _ _ _ ‹_›]
@[simp] theorem runStageWrite_appl (s : State) (c : Ctx) :
    State.appl (runStageWrite s c).2 = State.appl s := by
  unfold runStageWrite; dsimp only; (repeat' split) <;> simp_all
theorem execStageWrite_appl (mb : Nat) (s : State) :
    ∀ t, execStageWrite mb s = .next t → State.appl t = State.appl s := by
  rintro _ ⟨⟩; exact State.serveCmd_appl _ _ _ _ (owned_appl _ runStageWrite_appl)
@[simp] theorem runStageRead_appl (s : State) (c : Ctx) :
    State.appl (runStageRead s c).2 = State.appl s := by
  unfold runStageRead; dsimp only; (repeat' split) <;> simp_all
theorem execStageRead_appl (mb : Nat) (s : State) :
    ∀ t, execStageRead mb s = .next t → State.appl t = State.appl s := by
  rintro _ ⟨⟩; exact State.serveCmd_appl _ _ _ _ (owned_appl _ runStageRead_appl)
@[simp] theorem State.discardFrame_appl (s : State) :
    State.appl (State.discardFrame s) = State.appl s := by
  simp [State.discardFrame]
@[simp] theorem runStageDiscard_appl (s : State) (c : Ctx) :
    State.appl (runStageDiscard s c).2 = State.appl s := by
  unfold runStageDiscard; split <;> simp
theorem execStageDiscard_appl (mb : Nat) (s : State) :
    ∀ t, execStageDiscard mb s = .next t → State.appl t = State.appl s := by
  rintro _ ⟨⟩; exact State.serveCmd_appl _ _ _ _ (logged_appl _ (owned_appl _ runStageDiscard_appl))
@[simp] theorem runStageCheck_appl (s : State) (c : Ctx) :
    State.appl (runStageCheck s c).2 = State.appl s := by
  unfold runStageCheck; split <;> simp
theorem execStageCheck_appl (mb : Nat) (s : State) :
    ∀ t, execStageCheck mb s = .next t → State.appl t = State.appl s := by
  rintro _ ⟨⟩; exact State.serveCmd_appl _ _ _ _ (logged_appl _ (owned_appl _ runStageCheck_appl))
@[simp] theorem State.acceptApply_appl (s : State) (r : CmdRef) :
    State.appl (State.acceptApply s r) = State.appl s := by
  simp [State.acceptApply]
@[simp] theorem State.applyRec_appl (s : State) (c : Ctx) (st : Nat) :
    State.appl (State.applyRec s c st) = State.appl s := by
  simp [State.applyRec]
@[simp] theorem takeApply_appl (s : State) (c : Ctx) :
    State.appl (takeApply s c).2 = State.appl s := by
  unfold takeApply; dsimp only; (repeat' split) <;> simp_all
@[simp] theorem runStageApply_appl (s : State) (c : Ctx) :
    State.appl (runStageApply s c).2 = State.appl s := by
  unfold runStageApply; split
  · exact logged_appl _ (owned_appl _ takeApply_appl) _ _
  · simp [noAns]
theorem execStageApply_appl (mb : Nat) (s : State) :
    ∀ t, execStageApply mb s = .next t → State.appl t = State.appl s := by
  rintro _ ⟨⟩; exact State.serveCmd_appl _ _ _ _ (runStageApply_appl)
theorem execStageStatus_appl (mb : Nat) (s : State) :
    ∀ t, execStageStatus mb s = .next t → State.appl t = State.appl s := by
  rintro _ ⟨⟩; exact State.serveCmd_appl _ _ _ _ (query_appl _ _ _)
@[simp] theorem State.writeKey_appl (s : State) (e : StgEntry) :
    State.appl (State.writeKey s e).2 = State.appl s := by
  unfold State.writeKey; (repeat' split) <;> simp
@[simp] theorem runConnKey_appl (s : State) (c : Ctx) :
    State.appl (runConnKey s c).2 = State.appl s := by
  unfold runConnKey; split <;> simp
theorem execConnKey_appl (mb : Nat) (s : State) :
    ∀ t, execConnKey mb s = .next t → State.appl t = State.appl s := by
  rintro _ ⟨⟩; exact State.serveCmd_appl _ _ _ _ (owned_appl _ runConnKey_appl)
@[simp] theorem State.useToken_appl (s : State) (c : Ctx) (imgid : Nat) :
    State.appl (State.useToken s c imgid) = State.appl s := by
  unfold State.useToken; split <;> simp
@[simp] theorem State.acceptAct_appl (s : State) (c : Ctx) (kind : Nat) (old : Nat) (new : Nat) :
    State.appl (State.acceptAct s c kind old new) = State.appl s := by
  simp [State.acceptAct]
@[simp] theorem State.endOther_appl (s : State) (kind : Nat) :
    State.appl (State.endOther s kind) = State.appl s := by
  simp [State.endOther]
@[simp] theorem State.activateApp_appl (s : State) (c : Ctx) (ref : Option CmdRef) :
    State.appl (State.activateApp s c ref) = State.appl s := by
  simp [State.activateApp]
@[simp] theorem runActivate_appl (s : State) (c : Ctx) :
    State.appl (runActivate s c).2 = State.appl s := by
  unfold runActivate; dsimp only; (repeat' split) <;> simp_all
theorem execActivate_appl (mb : Nat) (s : State) :
    ∀ t, execActivate mb s = .next t → State.appl t = State.appl s := by
  rintro _ ⟨⟩; exact State.serveCmd_appl _ _ _ _ (logged_appl _ runActivate_appl)
@[simp] theorem runUpdOpen_appl (s : State) (c : Ctx) :
    State.appl (runUpdOpen s c).2 = State.appl s := by
  unfold runUpdOpen; dsimp only; (repeat' split) <;> simp_all
theorem execUpdOpen_appl (mb : Nat) (s : State) :
    ∀ t, execUpdOpen mb s = .next t → State.appl t = State.appl s := by
  rintro _ ⟨⟩; exact State.serveCmd_appl _ _ _ _ (logged_appl _ runUpdOpen_appl)
theorem withUpd_appl (f : UpdSess → State → Ctx → Ans × State) (h : ∀ u s x, State.appl (f u s x).2 = State.appl s)
    (s : State) (c : Ctx) : State.appl (withUpd f s c).2 = State.appl s := by
  unfold withUpd; dsimp only; (repeat' split) <;> simp [noAns, h]
@[simp] theorem State.putSess_appl (s : State) (u : UpdSess) :
    State.appl (State.putSess s u) = State.appl s := by
  rfl
@[simp] theorem takePart_appl (u : UpdSess) (s : State) (c : Ctx) :
    State.appl (takePart u s c).2 = State.appl s := by
  unfold takePart; dsimp only; (repeat' split) <;> simp_all
theorem execUpdData_appl (mb : Nat) (s : State) :
    ∀ t, execUpdData mb s = .next t → State.appl t = State.appl s := by
  rintro _ ⟨⟩; exact State.serveCmd_appl _ _ _ _ (withUpd_appl _ takePart_appl)
@[simp] theorem askVerify_appl (u : UpdSess) (s : State) (c : Ctx) :
    State.appl (askVerify u s c).2 = State.appl s := by
  unfold askVerify; dsimp only; (repeat' split) <;> simp_all
theorem execUpdVerify_appl (mb : Nat) (s : State) :
    ∀ t, execUpdVerify mb s = .next t → State.appl t = State.appl s := by
  rintro _ ⟨⟩; exact State.serveCmd_appl _ _ _ _ (logged_appl _ (withUpd_appl _ askVerify_appl))
@[simp] theorem State.kernelDown_appl (s : State) (c : Ctx) (b : Bool) (e : Envelope) :
    State.appl (State.kernelDown s c b e) = State.appl s := by
  simp [State.kernelDown]
@[simp] theorem State.kernelTurns_appl (s : State) (c : Ctx) (b : Bool) (e : Envelope) :
    State.appl (State.kernelTurns s c b e) = State.appl s := by
  simp [State.kernelTurns]
@[simp] theorem runKernel_appl (s : State) (c : Ctx) :
    State.appl (runKernel s c).2 = State.appl s := by
  unfold runKernel; dsimp only; (repeat' split) <;> simp_all
@[simp] theorem runFirmware_appl (s : State) (c : Ctx) :
    State.appl (runFirmware s c).2 = State.appl s := by
  unfold runFirmware; split <;> simp
@[simp] theorem runAppImage_appl (s : State) (c : Ctx) :
    State.appl (runAppImage s c).2 = State.appl s := by
  unfold runAppImage; dsimp only; (repeat' split) <;> simp_all
@[simp] theorem askActivate_appl (u : UpdSess) (s : State) (c : Ctx) :
    State.appl (askActivate u s c).2 = State.appl s := by
  unfold askActivate; (repeat' split) <;> simp
theorem execUpdActivate_appl (mb : Nat) (s : State) :
    ∀ t, execUpdActivate mb s = .next t → State.appl t = State.appl s := by
  rintro _ ⟨⟩; exact State.serveCmd_appl _ _ _ _ (logged_appl _ (withUpd_appl _ askActivate_appl))
theorem execUpdAbort_appl (mb : Nat) (s : State) :
    ∀ t, execUpdAbort mb s = .next t → State.appl t = State.appl s := by
  rintro _ ⟨⟩; exact State.serveCmd_appl _ _ _ _ (logged_appl _ (withUpd_appl _ fun u s x => by simp [okAns]))
theorem execUpdStatus_appl (mb : Nat) (s : State) :
    ∀ t, execUpdStatus mb s = .next t → State.appl t = State.appl s := by
  rintro _ ⟨⟩; exact State.serveCmd_appl _ _ _ _ (query_appl _ _ _)
@[simp] theorem runRecOpen_appl (s : State) (c : Ctx) :
    State.appl (runRecOpen s c).2 = State.appl s := by
  unfold runRecOpen; split <;> simp
theorem execRecOpen_appl (mb : Nat) (s : State) :
    ∀ t, execRecOpen mb s = .next t → State.appl t = State.appl s := by
  rintro _ ⟨⟩; exact State.serveCmd_appl _ _ _ _ (runRecOpen_appl)
@[simp] theorem State.nextBatch_appl (s : State) (k : Cursor) (maxBytes : Nat) :
    State.appl (State.nextBatch s k maxBytes).2 = State.appl s := by
  rfl
@[simp] theorem runRecNext_appl (s : State) (c : Ctx) :
    State.appl (runRecNext s c).2 = State.appl s := by
  unfold runRecNext; dsimp only; (repeat' split) <;> simp_all
theorem execRecNext_appl (mb : Nat) (s : State) :
    ∀ t, execRecNext mb s = .next t → State.appl t = State.appl s := by
  rintro _ ⟨⟩; exact State.serveCmd_appl _ _ _ _ (runRecNext_appl)
theorem execRecClose_appl (mb : Nat) (s : State) :
    ∀ t, execRecClose mb s = .next t → State.appl t = State.appl s := by
  rintro _ ⟨⟩; exact State.serveCmd_appl _ _ _ _ (fun s x => by dsimp only [cmdRecClose, opCmd, noAns, okAns]; (repeat' split) <;> simp)
theorem execRecCounters_appl (mb : Nat) (s : State) :
    ∀ t, execRecCounters mb s = .next t → State.appl t = State.appl s := by
  rintro _ ⟨⟩; exact State.serveCmd_appl _ _ _ _ (query_appl _ _ _)
@[simp] theorem State.startTest_appl (s : State) (t : TestSt) :
    State.appl (State.startTest s t) = State.appl s := rfl
@[simp] theorem runTestRun_appl (s : State) (c : Ctx) :
    State.appl (runTestRun s c).2 = State.appl s := by
  unfold runTestRun; dsimp only; (repeat' split) <;> simp_all
theorem execTestRun_appl (mb : Nat) (s : State) :
    ∀ t, execTestRun mb s = .next t → State.appl t = State.appl s := by
  rintro _ ⟨⟩; exact State.serveCmd_appl _ _ _ _ (logged_appl _ runTestRun_appl)
theorem execTestList_appl (mb : Nat) (s : State) :
    ∀ t, execTestList mb s = .next t → State.appl t = State.appl s := by
  rintro _ ⟨⟩; exact State.serveCmd_appl _ _ _ _ (query_appl _ _ _)
@[simp] theorem runTestAbort_appl (s : State) (c : Ctx) :
    State.appl (runTestAbort s c).2 = State.appl s := by
  unfold runTestAbort; split <;> simp
theorem execTestAbort_appl (mb : Nat) (s : State) :
    ∀ t, execTestAbort mb s = .next t → State.appl t = State.appl s := by
  rintro _ ⟨⟩; exact State.serveCmd_appl _ _ _ _ (logged_appl _ runTestAbort_appl)
@[simp] theorem State.beginRelease_appl (s : State) (kind : Nat) (index : Nat) (r : CmdRef) :
    State.appl (State.beginRelease s kind index r) = State.appl s := by
  unfold State.beginRelease; (repeat' split) <;> simp
@[simp] theorem runHedgeRelease_appl (s : State) (c : Ctx) :
    State.appl (runHedgeRelease s c).2 = State.appl s := by
  unfold runHedgeRelease; dsimp only; (repeat' split) <;> simp_all
theorem execHedgeRelease_appl (mb : Nat) (s : State) :
    ∀ t, execHedgeRelease mb s = .next t → State.appl t = State.appl s := by
  rintro _ ⟨⟩; exact State.serveCmd_appl _ _ _ _ (logged_appl _ runHedgeRelease_appl)
@[simp] theorem runTimeSet_appl (s : State) (c : Ctx) :
    State.appl (runTimeSet s c).2 = State.appl s := by
  unfold runTimeSet; dsimp only; (repeat' split) <;> simp_all
theorem execTimeSet_appl (mb : Nat) (s : State) :
    ∀ t, execTimeSet mb s = .next t → State.appl t = State.appl s := by
  rintro _ ⟨⟩; exact State.serveCmd_appl _ _ _ _ (logged_appl _ runTimeSet_appl)
@[simp] theorem runTimeSource_appl (s : State) (c : Ctx) :
    State.appl (runTimeSource s c).2 = State.appl s := by
  unfold runTimeSource; dsimp only; split; · rfl
  split; · rfl
  rw [okAns, State.updTime_appl _ _ rfl]; simp
theorem execTimeSource_appl (mb : Nat) (s : State) :
    ∀ t, execTimeSource mb s = .next t → State.appl t = State.appl s := by
  rintro _ ⟨⟩; exact State.serveCmd_appl _ _ _ _ (logged_appl _ runTimeSource_appl)
@[simp] theorem runHandover_appl (s : State) (c : Ctx) :
    State.appl (runHandover s c).2 = State.appl s := by
  unfold runHandover; split <;> simp
theorem execHandover_appl (mb : Nat) (s : State) :
    ∀ t, execHandover mb s = .next t → State.appl t = State.appl s := by
  rintro _ ⟨⟩; exact State.serveCmd_appl _ _ _ _ (logged_appl _ runHandover_appl)
@[simp] theorem runColdAssume_appl (s : State) (c : Ctx) :
    State.appl (runColdAssume s c).2 = State.appl s := by
  unfold runColdAssume; dsimp only; (repeat' split) <;> simp_all
theorem execColdAssume_appl (mb : Nat) (s : State) :
    ∀ t, execColdAssume mb s = .next t → State.appl t = State.appl s := by
  rintro _ ⟨⟩; exact State.serveCmd_appl _ _ _ _ (logged_appl _ runColdAssume_appl)
theorem execSbStatus_appl (mb : Nat) (s : State) :
    ∀ t, execSbStatus mb s = .next t → State.appl t = State.appl s := by
  rintro _ ⟨⟩; exact State.serveCmd_appl _ _ _ _ (query_appl _ _ _)
theorem execSbErrlog_appl (mb : Nat) (s : State) :
    ∀ t, execSbErrlog mb s = .next t → State.appl t = State.appl s := by
  rintro _ ⟨⟩; exact State.serveCmd_appl _ _ _ _ (query_appl _ _ _)
theorem execSbErrclr_appl (mb : Nat) (s : State) :
    ∀ t, execSbErrclr mb s = .next t → State.appl t = State.appl s := by
  rintro _ ⟨⟩; exact State.serveCmd_appl _ _ _ _ (fun s x => by dsimp only [cmdSbErrclr, opCmd, noAns, okAns]; (repeat' split) <;> simp)
@[simp] theorem State.closeWindow_appl (s : State) (n : Nat) :
    State.appl (State.closeWindow s n) = State.appl s := by
  simp [State.closeWindow]
@[simp] theorem runWindowSet_appl (s : State) (c : Ctx) :
    State.appl (runWindowSet s c).2 = State.appl s := by
  unfold runWindowSet; dsimp only; (repeat' split) <;> simp_all
theorem execWindowSet_appl (mb : Nat) (s : State) :
    ∀ t, execWindowSet mb s = .next t → State.appl t = State.appl s := by
  rintro _ ⟨⟩; exact State.serveCmd_appl _ _ _ _ (logged_appl _ runWindowSet_appl)
@[simp] theorem runTunnelSet_appl (s : State) (c : Ctx) :
    State.appl (runTunnelSet s c).2 = State.appl s := by
  unfold runTunnelSet; dsimp only; (repeat' split) <;> simp_all
theorem execTunnelSet_appl (mb : Nat) (s : State) :
    ∀ t, execTunnelSet mb s = .next t → State.appl t = State.appl s := by
  rintro _ ⟨⟩; exact State.serveCmd_appl _ _ _ _ (logged_appl _ runTunnelSet_appl)
theorem execTunnelStatus_appl (mb : Nat) (s : State) :
    ∀ t, execTunnelStatus mb s = .next t → State.appl t = State.appl s := by
  rintro _ ⟨⟩; exact State.serveCmd_appl _ _ _ _ (query_appl _ _ _)
@[simp] theorem State.queueForce_appl (s : State) (c : Ctx) (f : ForceCmd) :
    State.appl (State.queueForce s c f).2 = State.appl s := by
  simp [State.queueForce]
@[simp] theorem runForceSet_appl (s : State) (c : Ctx) :
    State.appl (runForceSet s c).2 = State.appl s := by
  unfold runForceSet; dsimp only; (repeat' split) <;> simp_all
theorem execForceSet_appl (mb : Nat) (s : State) :
    ∀ t, execForceSet mb s = .next t → State.appl t = State.appl s := by
  rintro _ ⟨⟩; exact State.serveCmd_appl _ _ _ _ (runForceSet_appl)
@[simp] theorem runForceClear_appl (s : State) (c : Ctx) :
    State.appl (runForceClear s c).2 = State.appl s := by
  unfold runForceClear; dsimp only; (repeat' split) <;> simp_all
theorem execForceClear_appl (mb : Nat) (s : State) :
    ∀ t, execForceClear mb s = .next t → State.appl t = State.appl s := by
  rintro _ ⟨⟩; exact State.serveCmd_appl _ _ _ _ (logged_appl _ runForceClear_appl)
theorem execForceList_appl (mb : Nat) (s : State) :
    ∀ t, execForceList mb s = .next t → State.appl t = State.appl s := by
  rintro _ ⟨⟩; exact State.serveCmd_appl _ _ _ _ (query_appl _ _ _)
theorem execSwitchForwarding_appl (net : Net) (port2 : Bool) (f : Frame) (s : State) :
    ∀ t, (execSwitchForwarding net port2 f s) = .next t → State.appl t = State.appl s := by
  rintro _ ⟨⟩; simp
theorem execLearnedAddressAgeing_appl (net : Net) (mac : Nat) (s : State) :
    ∀ t, (execLearnedAddressAgeing net mac s) = .next t → State.appl t = State.appl s := by
  rintro _ ⟨⟩; simp
theorem execEthernetLinkChange_appl (net : Net) (port2 : Bool) (up : Bool) (s : State) :
    ∀ t, (execEthernetLinkChange net port2 up s) = .next t → State.appl t = State.appl s := by
  rintro _ ⟨⟩; simp
@[simp] theorem State.ringSend_appl (s : State) (n : Net) (kind : Nat) :
    State.appl (State.ringSend s n kind) = State.appl s := by
  rfl
theorem execRingtestSend_appl (net : Net) (s : State) :
    ∀ t, (execRingtestSend net s) = .next t → State.appl t = State.appl s := by
  rintro _ ⟨⟩; simp
theorem execRingtestReceived_appl (net : Net) (port2 : Bool) (f : Frame) (s : State) :
    ∀ t, (execRingtestReceived net port2 f s) = .next t → State.appl t = State.appl s := by
  rintro _ ⟨⟩; simp
theorem execRingBreak_appl (net : Net) (s : State) :
    ∀ t, (execRingBreak net s) = .next t → State.appl t = State.appl s := by
  rintro _ ⟨⟩; simp
theorem execRingClose_appl (net : Net) (s : State) :
    ∀ t, (execRingClose net s) = .next t → State.appl t = State.appl s := by
  rintro _ ⟨⟩; simp
@[simp] theorem State.clearOut_appl (s : State) :
    State.appl (State.clearOut s) = State.appl s := by
  rfl
@[simp] theorem State.tickCells_appl (s : State) :
    State.appl (State.tickCells s) = State.appl s := by
  simp [State.tickCells]
@[simp] theorem State.tickCycle_appl (s : State) :
    State.appl (State.tickCycle s) = State.appl s := by
  rfl
@[simp] theorem State.tickRecs_appl (s : State) :
    State.appl (State.tickRecs s) = State.appl s := by
  simp [State.tickRecs]
@[simp] theorem State.restartFw_appl (s : State) :
    State.appl (State.restartFw s) = State.appl s := by
  simp [State.restartFw]
@[simp] theorem tick_appl (s : State) :
    State.appl (tick s) = State.appl s := by
  simp [tick]
@[simp] theorem State.withFetchWord_appl (s : State) (nbits : Nat) (w : Nat) :
    State.appl (State.withFetchWord s nbits w) = State.appl s := by
  rfl
end Sys2Proof.Machine
end

