-- ==== Sys2Proof/Laws/Bench.lean ====
section
/-! SUPPORT. The potting bench as memory (13 R365): reads after writes, and that every write keeps the canonical
form and the 64 KiB. -/
namespace Sys2Proof.Machine

theorem Memory.wf_cons (x : Host.Cell) (m : List Host.Cell) :
    Memory.wf (x :: m) = true ↔ x.2 ≠ 0 ∧ (∀ c ∈ m, x.1 < c.1) ∧ Memory.wf m = true := by
  induction m generalizing x with
  | nil => simp [Memory.wf]
  | cons y ys ih =>
    simp only [Memory.wf, Bool.and_eq_true, bne_iff_ne, ne_eq, decide_eq_true_eq, List.mem_cons, forall_eq_or_imp]
    constructor
    · rintro ⟨⟨h1, h2⟩, h3⟩
      exact ⟨h1, ⟨h2, fun c hc => Nat.lt_trans h2 (((ih y).1 h3).2.1 c hc)⟩, h3⟩
    · rintro ⟨h1, ⟨h2, -⟩, h3⟩; exact ⟨⟨h1, h2⟩, h3⟩

theorem Memory.mem_write (a : Nat) (v : Byte) (m : List Host.Cell) (c : Host.Cell)
    (h : c ∈ Memory.write a v m) : c = (a, v) ∨ c ∈ m := by
  induction m with
  | nil => simp only [Memory.write] at h; split at h <;> simp_all
  | cons x xs ih =>
    simp only [Memory.write] at h
    split at h
    · split at h <;> simp_all
    · split at h
      · split at h <;> simp_all
        rcases h with h | h <;> simp [h]
      · simp only [List.mem_cons] at h ⊢
        rcases h with h | h
        · simp [h]
        · rcases ih h with h | h <;> simp [h]

theorem Memory.write_wf (a : Nat) (v : Byte) (m : List Host.Cell) (h : Memory.wf m = true) :
    Memory.wf (Memory.write a v m) = true := by
  induction m with
  | nil => simp only [Memory.write]; split <;> simp_all [Memory.wf]
  | cons x xs ih =>
    have ⟨h1, h2, h3⟩ := (Memory.wf_cons x xs).1 h
    simp only [Memory.write]
    split
    · split
      · exact h
      · rw [Memory.wf_cons]
        refine ⟨by simp_all, fun c hc => ?_, h⟩
        rcases List.mem_cons.1 hc with rfl | hc
        · assumption
        · exact Nat.lt_trans (by assumption) (h2 c hc)
    · split
      · rename_i e; simp only [beq_iff_eq] at e
        split
        · exact h3
        · rw [Memory.wf_cons]; exact ⟨by simp_all, fun c hc => by simpa [e] using h2 c hc, h3⟩
      · rename_i h4 h5
        rw [Memory.wf_cons]
        refine ⟨h1, fun c hc => ?_, ih h3⟩
        rcases Memory.mem_write _ _ _ _ hc with rfl | hc
        · simp only [beq_iff_eq] at h5; simp; omega
        · exact h2 c hc

theorem Memory.read_above (a : Nat) (m : List Host.Cell) (h : ∀ c ∈ m, a < c.1) : Memory.read a m = 0 := by
  induction m with
  | nil => rfl
  | cons x xs ih =>
    have := h x (by simp)
    simp only [Memory.read]
    rw [if_neg (by simp; omega)]
    exact ih fun c hc => h c (by simp [hc])

/-- A read after a write: the value at the address written, the byte before elsewhere. -/
theorem Memory.read_write (a b : Nat) (v : Byte) (m : List Host.Cell) (h : Memory.wf m = true) :
    Memory.read b (Memory.write a v m) = if b = a then v else Memory.read b m := by
  induction m with
  | nil =>
    by_cases hv : v = 0
    · simp [Memory.write, Memory.read, hv]
    · by_cases hb : a = b
      · have hv' : ¬ v = 0#8 := hv
        simp [Memory.write, Memory.read, hv', hb]
      · have : ¬ b = a := fun e => hb e.symm
        have hv' : ¬ v = 0#8 := hv
        simp [Memory.write, Memory.read, hv', hb, this]
  | cons x xs ih =>
    have ⟨h1, h2, h3⟩ := (Memory.wf_cons x xs).1 h
    simp only [Memory.write]
    split
    · rename_i h4
      have above : Memory.read a (x :: xs) = 0 := Memory.read_above a _ fun c hc => by
        rcases List.mem_cons.1 hc with rfl | hc
        · exact h4
        · exact Nat.lt_trans h4 (h2 c hc)
      split
      · rename_i hv; simp only [beq_iff_eq] at hv
        split
        · rename_i e; rw [e, above, hv]
        · rfl
      · by_cases e : b = a
        · simp [Memory.read, e]
        · rw [if_neg e, Memory.read, if_neg (by simpa using fun h => e h.symm)]
    · split
      · rename_i e; simp only [beq_iff_eq] at e
        split
        · rename_i hv; simp only [beq_iff_eq] at hv
          by_cases eb : b = a
          · rw [if_pos eb, hv, eb, e]
            exact Memory.read_above _ _ h2
          · rw [if_neg eb, Memory.read, if_neg (by simp; omega)]
        · by_cases eb : b = a
          · simp [Memory.read, eb]
          · rw [if_neg eb, Memory.read, if_neg (by simp; omega), Memory.read, if_neg (by simp; omega)]
      · rename_i h4 h5
        simp only [Memory.read, ih h3]
        split
        · rename_i e; simp only [beq_iff_eq] at e h5
          rw [if_neg (by omega)]
        · rfl

theorem Memory.write_lt (a n : Nat) (v : Byte) (m : List Host.Cell) (ha : a < n) (h : ∀ c ∈ m, c.1 < n) :
    ∀ c ∈ Memory.write a v m, c.1 < n := fun c hc => by
  rcases Memory.mem_write _ _ _ _ hc with rfl | hc
  · exact ha
  · exact h c hc

theorem Memory.writes_wf (a : Nat) (d : Bytes) (m : List Host.Cell) (h : Memory.wf m = true) :
    Memory.wf (Memory.writes a d m) = true := by
  induction d generalizing a m with
  | nil => exact h
  | cons v d ih => exact ih _ _ (Memory.write_wf a v m h)

theorem Memory.writes_lt (a n : Nat) (d : Bytes) (m : List Host.Cell) (ha : a + d.length ≤ n) (h : ∀ c ∈ m, c.1 < n) :
    ∀ c ∈ Memory.writes a d m, c.1 < n := by
  induction d generalizing a m with
  | nil => exact h
  | cons v d ih =>
    simp only [List.length_cons] at ha
    exact ih _ _ (by omega) (Memory.write_lt a n v m (by omega) h)

/-- Read after writing a byte string. -/
theorem Memory.read_writes (a b : Nat) (d : Bytes) (m : List Host.Cell) (h : Memory.wf m = true) :
    Memory.read b (Memory.writes a d m) =
      if a ≤ b ∧ b < a + d.length then d.getD (b - a) 0 else Memory.read b m := by
  induction d generalizing a m with
  | nil => simp only [Memory.writes, List.length_nil, Nat.add_zero]; rw [if_neg (by omega)]
  | cons v d ih =>
    simp only [Memory.writes, ih _ _ (Memory.write_wf a v m h), Memory.read_write _ _ _ _ h, List.length_cons]
    by_cases h1 : b = a
    · subst h1; rw [if_neg (by omega), if_pos rfl, if_pos (by omega), Nat.sub_self]; rfl
    · by_cases h2 : a + 1 ≤ b ∧ b < a + 1 + d.length
      · rw [if_pos h2, if_pos (by omega)]
        obtain ⟨k, rfl⟩ : ∃ k, b = a + 1 + k := ⟨b - (a + 1), by omega⟩
        rw [show a + 1 + k - (a + 1) = k by omega, show a + 1 + k - a = k + 1 by omega]; rfl
      · rw [if_neg h2, if_neg h1, if_neg (by omega)]

theorem benchWf_nil : benchWf [] := ⟨rfl, by simp⟩

theorem benchWf_writes (a : Nat) (d : Bytes) (m : List Host.Cell) (ha : a + d.length ≤ 0x10000) (h : benchWf m) :
    benchWf (Memory.writes a d m) := ⟨Memory.writes_wf _ _ _ h.1, Memory.writes_lt _ _ _ _ ha h.2⟩
end Sys2Proof.Machine
end

