-- ==== Sys2Proof/Laws/BenchFrame.lean ====
section
/-! SUPPORT. What each function of the state, and each command, does to the potting bench: nothing, or the canonical form stays
(an inbound write, a life-cycle erasure, a boot). -/

set_option linter.unusedSimpArgs false

namespace Sys2Proof.Machine
@[simp] theorem State.bench_mk (pending id lanes cyc app trl image set cells banks frame conns nets pair flt mail stage bridge tunnels ports recs time be upd pow netTx legacyTx plTx splits free) :
    State.bench (State.mk pending id lanes cyc app trl image set cells banks frame conns nets pair flt mail stage bridge tunnels ports recs time be upd pow netTx legacyTx plTx splits free) = bridge.bench := rfl
@[simp] theorem State.bench_eta (s : State) : s.bridge.bench = s.bench := rfl
@[simp] theorem State.bench_ite (c : Prop) [Decidable c] (s t : State) : State.bench (if c then s else t) = if c then s.bench else t.bench := by split <;> rfl
@[simp] theorem State.each_bench {α : Type} (s : State) (xs : List α) (f : State → α → State) (h : ∀ s x, State.bench (f s x) = s.bench) : State.bench (s.each xs f) = s.bench := by
  unfold State.each
  induction xs generalizing s with
  | nil => rfl
  | cons x xs ih => simp only [List.foldl_cons, ih, h]
@[simp] theorem State.when_bench (s : State) (p : Bool) (f : State → State) (h : ∀ s, State.bench (f s) = s.bench) : State.bench (s.when p f) = s.bench := by
  unfold State.when; split <;> simp [h]
@[simp] theorem State.fed_bench (s : State) (f : State → State) (h : ∀ s, State.bench (f s) = s.bench) : State.bench (s.fed f) = s.bench := by
  unfold State.fed; split <;> simp [h]
@[simp] theorem State.updLane_bench (s : State) (l : Lane) (f : LaneSt → LaneSt) :
    State.bench (State.updLane s l f) = State.bench s := by
  rfl
@[simp] theorem State.updLanes_bench (s : State) (f : LaneSt → LaneSt) :
    State.bench (State.updLanes s f) = State.bench s := by
  rfl
@[simp] theorem State.updCell_bench (s : State) (c : Nat) (f : CellSt → CellSt) :
    State.bench (State.updCell s c f) = State.bench s := by
  rfl
@[simp] theorem State.updBank_bench (s : State) (b : Nat) (f : BankSt → BankSt) :
    State.bench (State.updBank s b f) = State.bench s := by
  rfl
@[simp] theorem State.updNet_bench (s : State) (n : Net) (f : NetSt → NetSt) :
    State.bench (State.updNet s n f) = State.bench s := by
  rfl
@[simp] theorem State.updConn_bench (s : State) (n : Nat) (f : ConnSt → ConnSt) :
    State.bench (State.updConn s n f) = State.bench s := by
  rfl
@[simp] theorem State.updRecv_bench (s : State) (n : Nat) (f : RecvRec → RecvRec) :
    State.bench (State.updRecv s n f) = State.bench s := by
  rfl
@[simp] theorem State.updElem_bench (s : State) (n : Nat) (f : Elem → Elem) :
    State.bench (State.updElem s n f) = State.bench s := by
  rfl
@[simp] theorem State.updRoute_bench (s : State) (r : Nat) (f : RouteCell → RouteCell) :
    State.bench (State.updRoute s r f) = State.bench s := by
  rfl
@[simp] theorem State.updBox_bench (s : State) (mb : Nat) (f : Mbox → Mbox) :
    State.bench (State.updBox s mb f) = State.bench s := by
  rfl
@[simp] theorem State.updTunnel_bench (s : State) (t : Nat) (f : Tunnel → Tunnel) :
    State.bench (State.updTunnel s t f) = State.bench s := by
  rfl
@[simp] theorem State.updPort_bench (s : State) (p : Nat) (f : LegacyPort → LegacyPort) :
    State.bench (State.updPort s p f) = State.bench s := by
  rfl
@[simp] theorem State.putEff_bench (s : State) (c : Nat) (e : Bool) :
    State.bench (State.putEff s c e) = State.bench s := by
  simp [State.putEff]
@[simp] theorem State.dropEffs_bench (s : State) (cs : List Nat) :
    State.bench (State.dropEffs s cs) = State.bench s := by
  unfold State.dropEffs
  induction cs generalizing s with
  | nil => rfl
  | cons c cs ih => simp only [List.foldl_cons, ih, State.putEff_bench]
@[simp] theorem State.passToken_bench (s : State) :
    State.bench (State.passToken s) = State.bench s := by
  rfl
@[simp] theorem State.settleToken_bench (s : State) :
    State.bench (State.settleToken s) = State.bench s := by
  simp [State.settleToken]
@[simp] theorem State.spendToken_bench (s : State) (t : Token) :
    State.bench (State.spendToken s t) = State.bench s := by
  simp [State.spendToken]
@[simp] theorem State.addHedge_bench (s : State) (h : Hedge) :
    State.bench (State.addHedge s h) = State.bench s := by
  simp [State.addHedge]
@[simp] theorem State.dropHedges_bench (s : State) (p : Hedge → Bool) :
    State.bench (State.dropHedges s p) = State.bench s := by
  rfl
@[simp] theorem State.updHedges_bench (s : State) (p : Hedge → Bool) (f : Hedge → Hedge) :
    State.bench (State.updHedges s p f) = State.bench s := by
  rfl
@[simp] theorem State.plSend_bench (s : State) (m : PlMsg) :
    State.bench (State.plSend s m) = State.bench s := by
  simp [State.plSend]
@[simp] theorem State.fresh_bench (s : State) :
    State.bench (State.fresh s).2 = State.bench s := by
  rfl
@[simp] theorem State.freshBytes_bench (x0 : Nat) (x1 : State) :
    State.bench (State.freshBytes x0 x1).2 = State.bench x1 := by
  induction x0 generalizing x1 with
  | zero => rfl
  | succ n ih => simp [State.freshBytes, ih]
@[simp] theorem State.freshNat_bench (s : State) (n : Nat) :
    State.bench (State.freshNat s n).2 = State.bench s := by
  rfl
@[simp] theorem State.freshCode_bench (s : State) :
    State.bench (State.freshCode s).2 = State.bench s := by
  rfl
@[simp] theorem State.takeSeq_bench (s : State) :
    State.bench (State.takeSeq s).2 = State.bench s := by
  rfl
@[simp] theorem State.updRecs_bench (s : State) (f : RecSt → RecSt) :
    State.bench (State.updRecs s f) = State.bench s := by
  rfl
@[simp] theorem State.takeSeqs_bench (s : State) (n : Nat) :
    State.bench (State.takeSeqs s n).2 = State.bench s := by
  simp [State.takeSeqs]
@[simp] theorem State.toRc_bench (s : State) (prio : Nat) (x : Rec) :
    State.bench (State.toRc s prio x) = State.bench s := by
  simp [State.toRc]
@[simp] theorem State.logFault_bench (s : State) (x : FaultRec) :
    State.bench (State.logFault s x) = State.bench s := by
  rfl
@[simp] theorem State.logCount_bench (s : State) (c : Coal) (seq : Nat) :
    State.bench (State.logCount s c seq) = State.bench s := by
  simp [State.logCount]
@[simp] theorem State.alarmSeq_bench (s : State) (kind : Nat) (source : Nat) (seq : Nat) :
    State.bench (State.alarmSeq s kind source seq) = State.bench s := by
  simp [State.alarmSeq]
@[simp] theorem State.closeCoal_bench (s : State) (c : Coal) :
    State.bench (State.closeCoal s c) = State.bench s := by
  simp [State.closeCoal]
@[simp] theorem State.openCoal_bench (s : State) (kind : Nat) (source : Nat) (prio : Nat) (ot : Nat) (x : Rec) (body : Bytes) :
    State.bench (State.openCoal s kind source prio ot x body) = State.bench s := by
  simp [State.openCoal]
@[simp] theorem State.recordAt_bench (s : State) (kind : Nat) (source : Nat) (seq : Nat) (ot : Nat) (flags : Nat) (cls : Nat) (body : Bytes) :
    State.bench (State.recordAt s kind source seq ot flags cls body) = State.bench s := by
  unfold State.recordAt; split <;> simp
@[simp] theorem State.record_bench (s : State) (kind : Nat) (source : Nat) (body : Bytes) :
    State.bench (State.record s kind source body).2 = State.bench s := by
  simp [State.record]
@[simp] theorem State.refill_bench (s : State) :
    State.bench (State.refill s) = State.bench s := by
  simp [State.refill]
@[simp] theorem State.archiveEnd_bench (s : State) :
    State.bench (State.archiveEnd s) = State.bench s := by
  simp [State.archiveEnd]
@[simp] theorem State.drain_bench (s : State) (n : Nat) :
    State.bench (State.drain s n) = State.bench s := by
  simp [State.drain]
@[simp] theorem State.archiveTrigger_bench (s : State) (cause : Nat) :
    State.bench (State.archiveTrigger s cause) = State.bench s := by
  simp [State.archiveTrigger]
@[simp] theorem State.changeAt_bench (s : State) (seq : Nat) (kind : Nat) (cred : Nat) (session : Nat) (ep : Nat) (cmd : Nat) (cbody : Bytes) :
    State.bench (State.changeAt s seq kind cred session ep cmd cbody) = State.bench s := by
  simp [State.changeAt]
@[simp] theorem State.change_bench (s : State) (kind : Nat) (cred : Nat) (session : Nat) (ep : Nat) (cmd : Nat) (cbody : Bytes) :
    State.bench (State.change s kind cred session ep cmd cbody) = State.bench s := by
  simp [State.change]
@[simp] theorem State.ownChange_bench (s : State) (kind : Nat) (cbody : Bytes) :
    State.bench (State.ownChange s kind cbody) = State.bench s := by
  simp [State.ownChange]
@[simp] theorem State.bootRecord_bench (s : State) (cause : Nat) (jump : Nat) :
    State.bench (State.bootRecord s cause jump) = State.bench s := by
  simp [State.bootRecord]
@[simp] theorem State.lastResort_bench (s : State) (region : Nat) (f : Fsid) (seq : Nat) :
    State.bench (State.lastResort s region f seq) = State.bench s := by
  rfl
@[simp] theorem State.ringPut_bench (s : State) (n : Notif) :
    State.bench (State.ringPut s n) = State.bench s := by
  rfl
@[simp] theorem State.flushWaiting_bench (s : State) :
    State.bench (State.flushWaiting s) = State.bench s := by
  simp [State.flushWaiting]
@[simp] theorem State.notify_bench (s : State) (n : Notif) :
    State.bench (State.notify s n) = State.bench s := by
  simp [State.notify]
@[simp] theorem State.closeAlarm_bench (s : State) (w : AlarmWin) :
    State.bench (State.closeAlarm s w) = State.bench s := by
  simp [State.closeAlarm]
@[simp] theorem State.openAlarm_bench (s : State) (f : Fsid) (seq : Nat) (body : Bytes) :
    State.bench (State.openAlarm s f seq body) = State.bench s := by
  simp [State.openAlarm]
@[simp] theorem State.alarm_bench (s : State) (f : Fsid) (raised : Nat) (applied : Nat) (parent : Nat) (seq : Nat) (full : Bool) :
    State.bench (State.alarm s f raised applied parent seq full) = State.bench s := by
  unfold State.alarm; split <;> simp
@[simp] theorem State.writeCompl_bench (s : State) (c : Compl) :
    State.bench (State.writeCompl s c) = State.bench s := by
  simp [State.writeCompl]
@[simp] theorem State.complete_bench (s : State) (r : CmdRef) (status : Nat) (result : Bytes) :
    State.bench (State.complete s r status result) = State.bench s := by
  simp [State.complete]
@[simp] theorem State.completeLater_bench (s : State) (c : Compl) :
    State.bench (State.completeLater s c) = State.bench s := by
  rfl
@[simp] theorem State.flushCompl_bench (s : State) :
    State.bench (State.flushCompl s) = State.bench s := by
  simp [State.flushCompl]
@[simp] theorem State.recordState_bench (s : State) (subject : Nat) (index : Nat) (old : Nat) (new : Nat) :
    State.bench (State.recordState s subject index old new).2 = State.bench s := by
  simp [State.recordState]
@[simp] theorem State.laneEvent_bench (s : State) (l : Lane) (old : Nat) (new : Nat) (latch : Bool) (f : Option Fsid) :
    State.bench (State.laneEvent s l old new latch f) = State.bench s := by
  simp [State.laneEvent]
@[simp] theorem State.pairNotice_bench (s : State) (old : PairState) :
    State.bench (State.pairNotice s old) = State.bench s := by
  simp [State.pairNotice]
@[simp] theorem State.setPair_bench (s : State) (p : PairState) :
    State.bench (State.setPair s p) = State.bench s := by
  simp [State.setPair]
@[simp] theorem State.setMod_bench (s : State) (m : ModState) :
    State.bench (State.setMod s m) = State.bench s := by
  simp [State.setMod]
@[simp] theorem State.progress_bench (s : State) (r : Option CmdRef) (cmd : Nat) (step : Nat) (steps : Nat) :
    State.bench (State.progress s r cmd step steps) = State.bench s := by
  simp [State.progress]
@[simp] theorem State.postErr_bench (s : State) (source : Nat) (window : Nat) (addr : Nat) (fstat : Nat) (ep : Nat) :
    State.bench (State.postErr s source window addr fstat ep) = State.bench s := by
  simp [State.postErr]
@[simp] theorem State.refChange_bench (s : State) (r : CmdRef) (kind : Nat) (body : Bytes) :
    State.bench (State.refChange s r kind body) = State.bench s := by
  simp [State.refChange]
@[simp] theorem State.updUpd_bench (s : State) (f : UpdSt → UpdSt) :
    State.bench (State.updUpd s f) = State.bench s := by
  rfl
@[simp] theorem State.setSlot_bench (s : State) (kind : Nat) (b : Bool) (x : Slot) :
    State.bench (State.setSlot s kind b x) = State.bench s := by
  unfold State.setSlot; split <;> simp
@[simp] theorem State.updAct_bench (s : State) (f : ActSt → ActSt) :
    State.bench (State.updAct s f) = State.bench s := by
  rfl
@[simp] theorem State.abortUpd_bench (s : State) (cause : Nat) :
    State.bench (State.abortUpd s cause) = State.bench s := by
  unfold State.abortUpd; dsimp only; (repeat' split) <;> simp_all
@[simp] theorem State.emptyFrame_bench (s : State) :
    State.bench (State.emptyFrame s) = State.bench s := by
  rfl
@[simp] theorem State.closeCursor_bench (s : State) :
    State.bench (State.closeCursor s) = State.bench s := by
  rfl
@[simp] theorem State.endSession_bench (s : State) (id : Nat) :
    State.bench (State.endSession s id) = State.bench s := by
  unfold State.endSession; split <;> simp
@[simp] theorem State.dropProv_bench (s : State) :
    State.bench (State.dropProv s) = State.bench s := by
  unfold State.dropProv; split <;> simp
@[simp] theorem State.serviceDown_bench (s : State) (rc : Bool) :
    State.bench (State.serviceDown s rc) = State.bench s := by
  simp [State.serviceDown]
@[simp] theorem State.serviceUp_bench (s : State) :
    State.bench (State.serviceUp s) = State.bench s := by
  simp [State.serviceUp]
@[simp] theorem State.updBridge_bench (s : State) (f : BridgeSt → BridgeSt) :
    State.bench (s.updBridge f) = (f s.bridge).bench := rfl
@[simp] theorem BridgeSt.logErr_bench (e : PostErr) (b : BridgeSt) : (BridgeSt.logErr e b).bench = b.bench := rfl
@[simp] theorem State.postedFailed_bench (s : State) (x : Xfer) (fstat : Nat) :
    State.bench (State.postedFailed s x fstat) = State.bench s := by
  simp [State.postedFailed]
@[simp] theorem State.endXfer_bench (s : State) (x : Xfer) (fstat : Nat) (data : Bytes) :
    State.bench (State.endXfer s x fstat data) = State.bench s := by
  unfold State.endXfer; split <;> simp
@[simp] theorem State.resetSb_bench (s : State) :
    State.bench (State.resetSb s) = State.bench s := by
  simp [State.resetSb]
@[simp] theorem State.useSet_bench (s : State) (x : Option SlotSet) :
    State.bench (State.useSet s x) = State.bench s := by
  rfl
@[simp] theorem State.switchFw_bench (s : State) :
    State.bench (State.switchFw s) = State.bench s := by
  unfold State.switchFw; dsimp only; (repeat' split) <;> simp_all
@[simp] theorem State.revertFw_bench (s : State) :
    State.bench (State.revertFw s) = State.bench s := by
  unfold State.revertFw; dsimp only; (repeat' split) <;> simp_all
@[simp] theorem State.endFallback_bench (s : State) :
    State.bench (State.endFallback s) = State.bench s := by
  unfold State.endFallback; (repeat' split) <;> simp
@[simp] theorem State.fallbackRec_bench (s : State) (a : ActSt) (item : Nat) :
    State.bench (State.fallbackRec s a item) = State.bench s := by
  simp [State.fallbackRec]
@[simp] theorem State.kernelBack_bench (s : State) (a : ActSt) :
    State.bench (State.kernelBack s a) = State.bench s := by
  simp [State.kernelBack]
@[simp] theorem State.kernelMapBack_bench (s : State) (a : ActSt) :
    State.bench (State.kernelMapBack s a) = State.bench s := by
  rfl
@[simp] theorem State.failAct_bench (s : State) (item : Nat) :
    State.bench (State.failAct s item) = State.bench s := by
  unfold State.failAct; (repeat' split) <;> simp
@[simp] theorem State.actLane_bench (s : State) (l : Lane) :
    State.bench (State.actLane s l) = State.bench s := by
  unfold State.actLane; split <;> simp
@[simp] theorem State.actSafe_bench (s : State) :
    State.bench (State.actSafe s) = State.bench s := by
  unfold State.actSafe; split <;> simp
@[simp] theorem State.actService_bench (s : State) :
    State.bench (State.actService s) = State.bench s := by
  unfold State.actService; split <;> simp
@[simp] theorem State.recordEvent_bench (s : State) (f : Fsid) (raised : Nat) (applied : Nat) (conseq : Bool) (escal : Bool) (parent : Option Nat) :
    State.bench (State.recordEvent s f raised applied conseq escal parent).2 = State.bench s := by
  simp [State.recordEvent]
@[simp] theorem State.noteFault_bench (s : State) (seq : Nat) (x : List Nat) :
    State.bench (State.noteFault s seq x) = State.bench s := by
  rfl
@[simp] theorem State.startGrace_bench (s : State) (f : Fsid) (seq : Nat) (cls : Nat) (out : Option Lane) :
    State.bench (State.startGrace s f seq cls out) = State.bench s := by
  simp [State.startGrace]
@[simp] theorem State.abandonWith_bench (s : State) (status : Nat) (cause : Nat) (result : Bytes) :
    State.bench (State.abandonWith s status cause result) = State.bench s := by
  unfold State.abandonWith; split <;> simp
@[simp] theorem State.abandonTest_bench (s : State) (status : Nat) (cause : Nat) :
    State.bench (State.abandonTest s status cause) = State.bench s := by
  simp [State.abandonTest]
@[simp] theorem State.safeActions_bench (s : State) :
    State.bench (State.safeActions s) = State.bench s := by
  simp [State.safeActions]
@[simp] theorem State.enterTerminal_bench (s : State) :
    State.bench (State.enterTerminal s) = State.bench s := by
  simp [State.enterTerminal]
@[simp] theorem State.safeLimit_bench (s : State) :
    State.bench (State.safeLimit s) = State.bench s := by
  simp [State.safeLimit]
@[simp] theorem State.enterSafe_bench (s : State) (seq : Nat) :
    State.bench (State.enterSafe s seq) = State.bench s := by
  simp [State.enterSafe]
@[simp] theorem State.latchMark_bench (s : State) (l : Lane) :
    State.bench (State.latchMark s l) = State.bench s := by
  simp [State.latchMark]
@[simp] theorem State.latchOut_bench (s : State) (l : Lane) :
    State.bench (State.latchOut s l) = State.bench s := by
  simp [State.latchOut]
@[simp] theorem State.withdraw_bench (s : State) (l : Lane) (f : Fsid) (seq : Nat) (hold : LHold) (counted : Bool) :
    State.bench (State.withdraw s l f seq hold counted) = State.bench s := by
  simp [State.withdraw]
@[simp] theorem State.afterWithdraw_bench (s : State) (l : Lane) (f : Fsid) :
    State.bench (State.afterWithdraw s l f) = State.bench s := by
  rfl
@[simp] theorem State.countEvent_bench (s : State) (f : Fsid) (dflt : Nat) :
    State.bench (State.countEvent s f dflt).2.2 = State.bench s := by
  unfold State.countEvent; (repeat' split) <;> simp
@[simp] theorem State.serviceRestart_bench (s : State) (rc : Bool) :
    State.bench (State.serviceRestart s rc) = State.bench s := by
  simp [State.serviceRestart]
@[simp] theorem State.openCut_bench (s : State) (b : Nat) :
    State.bench (State.openCut s b) = State.bench s := by
  simp [State.openCut]
@[simp] theorem State.cutOf_bench (s : State) (blk : Nat) :
    State.bench (State.cutOf s blk) = State.bench s := by
  simp [State.cutOf]
@[simp] theorem State.hedgeUnsettled_bench (s : State) (blk : Nat) (f : Fsid) (seq : Nat) :
    State.bench (State.hedgeUnsettled s blk f seq) = State.bench s := by
  simp [State.hedgeUnsettled]
@[simp] theorem State.notSettled_bench (s : State) (blk : Nat) (parent : Option Nat) :
    State.bench (State.notSettled s blk parent) = State.bench s := by
  unfold State.notSettled; dsimp only; (repeat' split) <;> simp
@[simp] theorem State.clearBlock_bench (s : State) (blk : Nat) :
    State.bench (State.clearBlock s blk) = State.bench s := by
  simp [State.clearBlock]
@[simp] theorem State.postedMasked_bench (s : State) (k seq : Nat) :
    State.bench (State.postedMasked s k seq) = State.bench s := by
  simp [State.postedMasked]
@[simp] theorem State.resetBlock_bench (s : State) (blk : Nat) (f : Fsid) (seq : Nat) :
    State.bench (State.resetBlock s blk f seq) = State.bench s := by
  unfold State.resetBlock; split <;> simp
@[simp] theorem State.hedgeCell_bench (s : State) (c : Nat) (f : Fsid) (seq : Nat) :
    State.bench (State.hedgeCell s c f seq) = State.bench s := by
  simp [State.hedgeCell]
@[simp] theorem State.containCm_bench (s : State) (f : Fsid) (seq : Nat) :
    State.bench (State.containCm s f seq) = State.bench s := by
  simp [State.containCm]
@[simp] theorem State.hedgeEngine_bench (s : State) (l : Lane) (f : Fsid) (seq : Nat) :
    State.bench (State.hedgeEngine s l f seq) = State.bench s := by
  simp [State.hedgeEngine]
@[simp] theorem State.failResync_bench (s : State) (l : Lane) (parent : Option Nat) :
    State.bench (State.failResync s l parent) = State.bench s := by
  unfold State.failResync; dsimp only; (repeat' split) <;> simp_all
@[simp] theorem State.reactLane_bench (s : State) (l : Lane) (f : Fsid) (cls : Nat) (seq : Nat) :
    State.bench (State.reactLane s l f cls seq) = State.bench s := by
  unfold State.reactLane; split <;> simp
@[simp] theorem State.react_bench (s : State) (f : Fsid) (cls : Nat) (seq : Nat) (named : Option Lane) :
    State.bench (State.react s f cls seq named) = State.bench s := by
  unfold State.react; (repeat' split) <;> simp
@[simp] theorem State.collectFull_bench (s : State) (f : Fsid) (dflt : Nat) (parent : Option Nat) (named : Option Lane) (via : Option Net) :
    State.bench (State.collectFull s f dflt parent named via).2 = State.bench s := by
  unfold State.collectFull; dsimp only; (repeat' split) <;> simp_all
@[simp] theorem State.collect_bench (s : State) (f : Fsid) :
    State.bench (State.collect s f) = State.bench s := by
  simp [State.collect]
@[simp] theorem State.collectNamed_bench (s : State) (f : Fsid) (x : List Nat) :
    State.bench (State.collectNamed s f x) = State.bench s := by
  simp [State.collectNamed]
@[simp] theorem State.collectOpen_bench (s : State) (level : Nat) (region : Nat) (block : Nat) (cell : Nat) (k : Nat) (cls : Nat) :
    State.bench (State.collectOpen s level region block cell k cls) = State.bench s := by
  simp [State.collectOpen]
@[simp] theorem State.stopModule_bench (s : State) (f : Fsid) :
    State.bench (State.stopModule s f) = State.bench s := by
  simp [State.stopModule]
@[simp] theorem State.updCh_bench (s : State) (c : Nat) (l : Lane) (f : ChSt → ChSt) :
    State.bench (State.updCh s c l f) = State.bench s := by
  rfl
@[simp] theorem State.pairTick_bench (s : State) (c : Nat) (l : Lane) :
    State.bench (State.pairTick s c l) = State.bench s := by
  simp [State.pairTick]
@[simp] theorem State.pairTicks_bench (s : State) (c : Nat) :
    State.bench (State.pairTicks s c) = State.bench s := by
  simp [State.pairTicks]
@[simp] theorem State.enterWarm_bench (s : State) (c : Nat) :
    State.bench (State.enterWarm s c) = State.bench s := by
  simp [State.enterWarm]
@[simp] theorem State.warmAll_bench (s : State) :
    State.bench (State.warmAll s) = State.bench s := by
  simp [State.warmAll]
@[simp] theorem State.latchCell_bench (s : State) (c : Nat) :
    State.bench (State.latchCell s c) = State.bench s := by
  rfl
@[simp] theorem State.latchAll_bench (s : State) :
    State.bench (State.latchAll s) = State.bench s := by
  simp [State.latchAll]
@[simp] theorem State.setLatches_bench (s : State) :
    State.bench (State.setLatches s) = State.bench s := by
  simp [State.setLatches]
@[simp] theorem State.countDis_bench (s : State) (c : Nat) (l : Lane) :
    State.bench (State.countDis s c l) = State.bench s := by
  rfl
@[simp] theorem State.updRels_bench (s : State) (f : RelSt → RelSt) :
    State.bench (State.updRels s f) = State.bench s := by
  rfl
@[simp] theorem State.raiseDis_bench (s : State) (c : Nat) :
    State.bench (State.raiseDis s c) = State.bench s := by
  simp [State.raiseDis]
@[simp] theorem State.disagreements_bench (s : State) :
    State.bench (State.disagreements s) = State.bench s := by
  simp [State.disagreements]
@[simp] theorem State.pulseFault_bench (s : State) (c : Nat) (det : Nat) (ls : List Lane) :
    State.bench (State.pulseFault s c det ls) = State.bench s := by
  simp [State.pulseFault]
@[simp] theorem State.latchFlag_bench (s : State) (c : Nat) (det : Nat) :
    State.bench (State.latchFlag s c det) = State.bench s := by
  simp [State.latchFlag]
@[simp] theorem State.latchFlags_bench (s : State) :
    State.bench (State.latchFlags s) = State.bench s := by
  simp [State.latchFlags]
@[simp] theorem State.beginRels_bench (s : State) :
    State.bench (State.beginRels s) = State.bench s := by
  simp (disch := intros; (repeat' split) <;> simp) [State.beginRels]
@[simp] theorem State.frameStart_bench (s : State) :
    State.bench (State.frameStart s) = State.bench s := by
  simp [State.frameStart]
@[simp] theorem State.frameEnd_bench (s : State) :
    State.bench (State.frameEnd s) = State.bench s := by
  simp [State.frameEnd]
@[simp] theorem State.pairsTick_bench (s : State) :
    State.bench (State.pairsTick s) = State.bench s := by
  simp [State.pairsTick]
theorem execTestPulseStart_bench (cell : Nat) (on : Trio CellMask) (s : State) :
    ∀ t, (execTestPulseStart cell on s) = .next t → State.bench t = State.bench s := by
  rintro _ ⟨⟩; simp
theorem execTestPulseEnd_bench (cell : Nat) (dropped : Trio Bool) (s : State) :
    ∀ t, (execTestPulseEnd cell dropped s) = .next t → State.bench t = State.bench s := by
  rintro _ ⟨⟩; simp
theorem execPulseWindowEnd_bench (slot : Nat) (dropped : Trio CellMask) (recovered : Trio CellMask) (nextOn : Trio CellMask) (sxFell : Bool) (sxBack : Bool) (s : State) :
    ∀ t, (execPulseWindowEnd slot dropped recovered nextOn sxFell sxBack s) = .next t → State.bench t = State.bench s := by
  rintro _ ⟨⟩; simp
theorem execSxCurrentLimit_bench (cell : Nat) (s : State) :
    ∀ t, (execSxCurrentLimit cell s) = .next t → State.bench t = State.bench s := by
  rintro _ ⟨⟩; simp
theorem execInputFilterChange_bench (lane : Lane) (cell : Nat) (samples : List Bool) (s : State) :
    ∀ t, (execInputFilterChange lane cell samples s) = .next t → State.bench t = State.bench s := by
  rintro _ ⟨⟩; (repeat' split) <;> simp
theorem execChannelDisagreement_bench (lane : Lane) (cell : Nat) (s : State) :
    ∀ t, (execChannelDisagreement lane cell s) = .next t → State.bench t = State.bench s := by
  rintro _ ⟨⟩; simp
theorem execDiscrepancyFault_bench (lane : Lane) (cell : Nat) (s : State) :
    ∀ t, (execDiscrepancyFault lane cell s) = .next t → State.bench t = State.bench s := by
  rintro _ ⟨⟩; dsimp only; (repeat' split) <;> simp_all
theorem execBankSupplyTrip_bench (bank : Nat) (high : Bool) (s : State) :
    ∀ t, (execBankSupplyTrip bank high s) = .next t → State.bench t = State.bench s := by
  rintro _ ⟨⟩; simp
theorem execBankSupplyRecover_bench (bank : Nat) (s : State) :
    ∀ t, (execBankSupplyRecover bank s) = .next t → State.bench t = State.bench s := by
  rintro _ ⟨⟩; simp
@[simp] theorem State.liftFsv_bench (s : State) :
    State.bench (State.liftFsv s) = State.bench s := by
  simp [State.liftFsv]
@[simp] theorem State.setEff_bench (s : State) (c : Nat) :
    State.bench (State.setEff s c) = State.bench s := by
  simp [State.setEff]
@[simp] theorem State.setEffs_bench (s : State) (cs : List Nat) :
    State.bench (State.setEffs s cs) = State.bench s := by
  simp [State.setEffs]
@[simp] theorem State.driveCell_bench (s : State) (m : CellMask) (c : Nat) :
    State.bench (State.driveCell s m c) = State.bench s := by
  simp [State.driveCell]
@[simp] theorem State.driveStep_bench (s : State) (m : CellMask) :
    State.bench (State.driveStep s m) = State.bench s := by
  simp [State.driveStep]
@[simp] theorem State.raiseNamed_bench (s : State) (c : Nat) (det : Nat) (x : List Nat) :
    State.bench (State.raiseNamed s c det x) = State.bench s := by
  simp [State.raiseNamed]
@[simp] theorem State.raiseOut_bench (s : State) (c : Nat) (det : Nat) :
    State.bench (State.raiseOut s c det) = State.bench s := by
  simp [State.raiseOut]
@[simp] theorem State.noteCounted_bench (s : State) (c : Nat) :
    State.bench (State.noteCounted s c) = State.bench s := by
  rfl
@[simp] theorem State.roundEnd_bench (s : State) :
    State.bench (State.roundEnd s) = State.bench s := by
  simp [State.roundEnd]
@[simp] theorem State.roundStart_bench (s : State) :
    State.bench (State.roundStart s) = State.bench s := by
  simp [State.roundStart]
theorem execRoundMark_bench (lane : Lane) (s : State) :
    ∀ t, (execRoundMark lane s) = .next t → State.bench t = State.bench s := by
  rintro _ ⟨⟩
  split
  · rfl
  · dsimp only
    split
    · rw [State.roundStart_bench]; split <;> simp
    · simp
theorem execTestNotCompleted_bench (cell : Nat) (lane : Lane) (s : State) :
    ∀ t, (execTestNotCompleted cell lane s) = .next t → State.bench t = State.bench s := by
  rintro _ ⟨⟩; simp
theorem execTestPosition_bench (bank : Nat) (midOk : Bool) (s : State) :
    ∀ t, (execTestPosition bank midOk s) = .next t → State.bench t = State.bench s := by
  rintro _ ⟨⟩; dsimp only; (repeat' split) <;> simp_all
theorem execDarkStepEnd_bench (bank : Nat) (current : Paths Bool) (s : State) :
    ∀ t, (execDarkStepEnd bank current s) = .next t → State.bench t = State.bench s := by
  rintro _ ⟨⟩; (repeat' split) <;> simp
theorem execLightStepEnd_bench (bank : Nat) (mids : Paths Mid) (current : Paths Bool) (pxOn : Bool) (s : State) :
    ∀ t, (execLightStepEnd bank mids current pxOn s) = .next t → State.bench t = State.bench s := by
  rintro _ ⟨⟩; (repeat' split) <;> simp
theorem execMidpointStuck_bench (cell : Nat) (_path : Path) (_high : Bool) (s : State) :
    ∀ t, (execMidpointStuck cell _path _high s) = .next t → State.bench t = State.bench s := by
  rintro _ ⟨⟩; simp
theorem execPathCurrentWithdrawn_bench (cell : Nat) (path : Path) (s : State) :
    ∀ t, (execPathCurrentWithdrawn cell path s) = .next t → State.bench t = State.bench s := by
  rintro _ ⟨⟩; simp
@[simp] theorem State.updTest_bench (s : State) (f : TestSt → TestSt) :
    State.bench (State.updTest s f) = State.bench s := by
  rfl
@[simp] theorem State.cutTest_bench (s : State) (cs : List Nat) :
    State.bench (State.cutTest s cs) = State.bench s := by
  simp [State.cutTest]
@[simp] theorem State.cutBank_bench (s : State) (b : Nat) :
    State.bench (State.cutBank s b) = State.bench s := by
  simp [State.cutBank]
@[simp] theorem State.readFault_bench (s : State) (c : Nat) :
    State.bench (State.readFault s c) = State.bench s := by
  simp [State.readFault]
@[simp] theorem State.readOne_bench (s : State) (c : Nat) (l : Lane) (v : Bool) :
    State.bench (State.readOne s c l v) = State.bench s := by
  simp [State.readOne]
theorem execReadbackFault_bench (lane : Lane) (cell : Nat) (samples : List Bool) (s : State) :
    ∀ t, (execReadbackFault lane cell samples s) = .next t → State.bench t = State.bench s := by
  rintro _ ⟨⟩; (repeat' split) <;> simp
theorem execExternalVoltage_bench (cell : Nat) (s : State) :
    ∀ t, (execExternalVoltage cell s) = .next t → State.bench t = State.bench s := by
  rintro _ ⟨⟩; (repeat' split) <;> simp
@[simp] theorem State.readTick_bench (s : State) (c : Nat) :
    State.bench (State.readTick s c) = State.bench s := by
  simp [State.readTick]
@[simp] theorem State.cellTick_bench (s : State) :
    State.bench (State.cellTick s) = State.bench s := by
  simp [State.cellTick]
@[simp] theorem State.slotTick_bench (s : State) (us : Nat) :
    State.bench (State.slotTick s us) = State.bench s := by
  simp [State.slotTick]
@[simp] theorem State.nextSlot_bench (s : State) (us : Nat) (skew : Nat) :
    State.bench (State.nextSlot s us skew) = State.bench s := by
  simp [State.nextSlot]
theorem execSlotMark_bench (lane : Lane) (stamp : SlotStamp) (s : State) :
    ∀ t, (execSlotMark lane stamp s) = .next t → State.bench t = State.bench s := by
  rintro _ ⟨⟩; simp
@[simp] theorem State.dropSteps_bench (s : State) (cs : List Nat) :
    State.bench (State.dropSteps s cs) = State.bench s := by
  simp [State.dropSteps]
@[simp] theorem State.protCell_bench (s : State) (c : Nat) (det : Nat) :
    State.bench (State.protCell s c det) = State.bench s := by
  simp [State.protCell]
theorem execOverloadTrip_bench (cell : Nat) (_cause : Overload) (s : State) :
    ∀ t, (execOverloadTrip cell _cause s) = .next t → State.bench t = State.bench s := by
  rintro _ ⟨⟩; simp
theorem execClampOvertemp_bench (cell : Nat) (s : State) :
    ∀ t, (execClampOvertemp cell s) = .next t → State.bench t = State.bench s := by
  rintro _ ⟨⟩; simp
theorem execBankOvercurrent_bench (bank : Nat) (s : State) :
    ∀ t, (execBankOvercurrent bank s) = .next t → State.bench t = State.bench s := by
  rintro _ ⟨⟩; simp
theorem execFeedbackMismatch_bench (lane : Lane) (cell : Nat) (s : State) :
    ∀ t, (execFeedbackMismatch lane cell s) = .next t → State.bench t = State.bench s := by
  rintro _ ⟨⟩; simp
@[simp] theorem State.warmEnds_bench (s : State) :
    State.bench (State.warmEnds s) = State.bench s := by
  simp [State.warmEnds]
@[simp] theorem State.relDone_bench (s : State) (kind : Nat) (index : Nat) (ref : CmdRef) (st : Nat) :
    State.bench (State.relDone s kind index ref st) = State.bench s := by
  simp [State.relDone]
@[simp] theorem State.finishRel_bench (s : State) (r : RelSt) :
    State.bench (State.finishRel s r) = State.bench s := by
  simp [State.finishRel]
@[simp] theorem State.finishRels_bench (s : State) :
    State.bench (State.finishRels s) = State.bench s := by
  simp [State.finishRels]
@[simp] theorem State.arrive_bench (s : State) (k : ConnCfg) (p : Bool) (x : TgCopy) :
    State.bench (State.arrive s k p x) = State.bench s := by
  rfl
@[simp] theorem State.discard_bench (s : State) (g : Gvt) :
    State.bench (State.discard s g) = State.bench s := by
  unfold State.discard; split <;> simp
@[simp] theorem State.duplicate_bench (s : State) :
    State.bench (State.duplicate s) = State.bench s := by
  simp [State.duplicate]
@[simp] theorem State.notOwn_bench (s : State) (f : Frame) (k : State) (h : State.bench k = State.bench s) :
    State.bench (State.notOwn s f k) = State.bench s := by
  unfold State.notOwn; (repeat' split) <;> simp [h]
theorem execFrameReceived_bench (net : Net) (f : Frame) (us : Nat) (s : State) :
    ∀ t, (execFrameReceived net f us s) = .next t → State.bench t = State.bench s := by
  rintro _ ⟨⟩; dsimp only; split
  · rfl
  · refine State.notOwn_bench _ _ _ ?_; (repeat' split) <;> simp
theorem execSkewExpiry_bench (conn : Nat) (peer2 : Bool) (s : State) :
    ∀ t, (execSkewExpiry conn peer2 s) = .next t → State.bench t = State.bench s := by
  rintro _ ⟨⟩; (repeat' split) <;> simp
theorem execOneNetworkSilent_bench (conn : Nat) (s : State) :
    ∀ t, (execOneNetworkSilent conn s) = .next t → State.bench t = State.bench s := by
  rintro _ ⟨⟩; (repeat' split) <;> simp
@[simp] theorem State.sendOn_bench (s : State) (n : Net) (f : Frame) :
    State.bench (State.sendOn s n f) = State.bench s := by
  simp [State.sendOn]
@[simp] theorem State.sendBoth_bench (s : State) (udp : Option Nat) (g : Gvt) :
    State.bench (State.sendBoth s udp g) = State.bench s := by
  simp [State.sendBoth]
@[simp] theorem State.freezeAll_bench (s : State) :
    State.bench (State.freezeAll s) = State.bench s := by
  rfl
@[simp] theorem State.refuse_bench (s : State) (conn : Nat) (det : Nat) (via : Net) (f : ConnSt → ConnSt) :
    State.bench (State.refuse s conn det via f) = State.bench s := by
  simp [State.refuse]
@[simp] theorem State.connTimeout_bench (s : State) (k : ConnCfg) (r : RecvRec) :
    State.bench (State.connTimeout s k r) = State.bench s := by
  unfold State.connTimeout; (repeat' split) <;> simp
@[simp] theorem State.connRelease_bench (s : State) (n : Nat) :
    State.bench (State.connRelease s n) = State.bench s := by
  unfold State.connRelease; split <;> simp
@[simp] theorem State.examine_bench (k : ConnCfg) (r : RecvRec) (x : State × List PCopy × List PCopy) (y : PCopy) :
    State.bench (State.examine k r x y).1 = State.bench x.1 := by
  unfold State.examine; dsimp only; (repeat' split) <;> simp
@[simp] theorem State.examine_fold_bench (k : ConnCfg) (r : RecvRec) (xs : List PCopy) (x : State × List PCopy × List PCopy) :
    State.bench (xs.foldl (State.examine k r) x).1 = State.bench x.1 := by
  induction xs generalizing x with
  | nil => rfl
  | cons y ys ih => rw [List.foldl_cons, ih]; exact State.examine_bench _ _ _ _
@[simp] theorem State.snapCopies_bench (s : State) (k : ConnCfg) (r : RecvRec) (c : ConnSt) :
    State.bench (s.snapCopies k r c) = State.bench s := by
  unfold State.snapCopies; dsimp only; (repeat' split) <;> simp
@[simp] theorem State.connChanged_bench (s : State) (n : Nat) :
    State.bench (State.connChanged s n) = State.bench s := by
  simp [State.connChanged]
@[simp] theorem State.snapConn_bench (s : State) (k : ConnCfg) :
    State.bench (State.snapConn s k) = State.bench s := by
  unfold State.snapConn; dsimp only; (repeat' split) <;> simp_all
@[simp] theorem State.snapConns_bench (s : State) :
    State.bench (State.snapConns s) = State.bench s := by
  simp [State.snapConns]
@[simp] theorem State.raiseReq_bench (s : State) (route : Nat) (elem : Nat) (set : Bool) :
    State.bench (State.raiseReq s route elem set) = State.bench s := by
  rfl
@[simp] theorem State.raiseElem_bench (s : State) (num : Nat) (codes : List Nat) :
    State.bench (State.raiseElem s num codes) = State.bench s := by
  simp [State.raiseElem]
@[simp] theorem State.axleDone_bench (s : State) (x : AxleStep) (ok : Bool) (code : Nat) :
    State.bench (State.axleDone s x ok code) = State.bench s := by
  unfold State.axleDone; split <;> simp
@[simp] theorem State.axleArmed_bench (s : State) (num : Nat) (x : AxleStep) (code : Nat) :
    State.bench (State.axleArmed s num x code) = State.bench s := by
  unfold State.axleArmed; split <;> simp
@[simp] theorem State.axleSteps_bench (s : State) (num : Nat) (v : InEnv) (xs : List AxleStep) :
    State.bench (State.axleSteps s num v xs) = State.bench s := by
  simp (disch := intros; (repeat' split) <;> simp) [State.axleSteps]
@[simp] theorem State.inElem_bench (s : State) (dt : Nat) (steps : Nat → List AxleStep) (num : Nat) :
    State.bench (State.inElem s dt steps num) = State.bench s := by
  unfold State.inElem; dsimp only; (repeat' split) <;> simp_all
@[simp] theorem State.inputPass_bench (s : State) (dt : Nat) (steps : Nat → List AxleStep) :
    State.bench (State.inputPass s dt steps) = State.bench s := by
  simp [State.inputPass]
@[simp] theorem State.outElem_bench (s : State) (num : Nat) :
    State.bench (State.outElem s num) = State.bench s := by
  unfold State.outElem; split <;> simp
@[simp] theorem State.outputPass_bench (s : State) :
    State.bench (State.outputPass s) = State.bench s := by
  simp [State.outputPass]
@[simp] theorem State.elemEvent_bench (s : State) (num : Nat) (f : Elem → Elem) :
    State.bench (State.elemEvent s num f) = State.bench s := by
  unfold State.elemEvent; split <;> simp
theorem execMoveTimeLimit_bench (elem : Nat) (s : State) :
    ∀ t, (execMoveTimeLimit elem s) = .next t → State.bench t = State.bench s := by
  rintro _ ⟨⟩; simp
theorem execProvingTime_bench (elem : Nat) (s : State) :
    ∀ t, (execProvingTime elem s) = .next t → State.bench t = State.bench s := by
  rintro _ ⟨⟩; simp
theorem execClearingDelay_bench (elem : Nat) (s : State) :
    ∀ t, (execClearingDelay elem s) = .next t → State.bench t = State.bench s := by
  rintro _ ⟨⟩; simp
theorem execResetStepLimit_bench (elem : Nat) (s : State) :
    ∀ t, (execResetStepLimit elem s) = .next t → State.bench t = State.bench s := by
  rintro _ ⟨⟩; simp
theorem execCloseTimeLimit_bench (elem : Nat) (s : State) :
    ∀ t, (execCloseTimeLimit elem s) = .next t → State.bench t = State.bench s := by
  rintro _ ⟨⟩; simp
theorem execOpenDelay_bench (elem : Nat) (s : State) :
    ∀ t, (execOpenDelay elem s) = .next t → State.bench t = State.bench s := by
  rintro _ ⟨⟩; simp
theorem execDirectionExchangeLimit_bench (elem : Nat) (s : State) :
    ∀ t, (execDirectionExchangeLimit elem s) = .next t → State.bench t = State.bench s := by
  rintro _ ⟨⟩; simp
@[simp] theorem State.admission_bench (s : State) :
    State.bench (State.admission s) = State.bench s := by
  simp [State.admission]
@[simp] theorem State.recount_bench (s : State) (t : RouteEntry) (old : RouteCell) (new : RouteCell) :
    State.bench (State.recount s t old new) = State.bench s := by
  simp [State.recount]
@[simp] theorem State.ownerDone_bench (s : State) (owner : Nat) (c : RouteCell) (status : Nat) :
    State.bench (State.ownerDone s owner c status) = State.bench s := by
  unfold State.ownerDone; split <;> simp
@[simp] theorem State.raiseAuto_bench (s : State) (r : Nat) (origin : Nat) :
    State.bench (State.raiseAuto s r origin) = State.bench s := by
  rfl
@[simp] theorem State.afterReleased_bench (s : State) (r : Nat) (t : RouteEntry) (old : RouteCell) (new : RouteCell) (check : Nat) :
    State.bench (State.afterReleased s r t old new check) = State.bench s := by
  unfold State.afterReleased; (repeat' split) <;> simp
@[simp] theorem State.afterMove_bench (s : State) (r : Nat) (t : RouteEntry) (old : RouteCell) (new : RouteCell) (check : Nat) :
    State.bench (State.afterMove s r t old new check) = State.bench s := by
  unfold State.afterMove; (repeat' split) <;> simp
@[simp] theorem State.watchStep_bench (s : State) (dt : Nat) :
    State.bench (State.watchStep s dt) = State.bench s := by
  rfl
@[simp] theorem State.quietCheck_bench (s : State) (r : Nat) :
    State.bench (State.quietCheck s r) = State.bench s := by
  simp [State.quietCheck]
@[simp] theorem State.trigger_bench (s : State) (r : Nat) (t : RouteEntry) :
    State.bench (State.trigger s r t) = State.bench s := by
  simp [State.trigger]
@[simp] theorem State.tickApproach_bench (s : State) (dt : Nat) :
    State.bench (State.tickApproach s dt) = State.bench s := by
  simp [State.tickApproach]
@[simp] theorem State.tickRoutes_bench (s : State) (dt : Nat) :
    State.bench (State.tickRoutes s dt) = State.bench s := by
  rfl
@[simp] theorem State.badRoutes_bench (s : State) :
    State.bench (State.badRoutes s) = State.bench s := by
  unfold State.badRoutes; split <;> simp
@[simp] theorem State.passRoute_bench (s : State) (s0 : State) (evs : List (Nat × Eval)) (won : List Nat) (lost : List (Nat × Nat)) (r : Nat) :
    State.bench (State.passRoute s s0 evs won lost r) = State.bench s := by
  unfold State.passRoute; split <;> simp
@[simp] theorem State.countRequests_bench (s : State) :
    State.bench (State.countRequests s) = State.bench s := by
  rfl
@[simp] theorem State.passRoutes_bench (s : State) (dt : Nat) :
    State.bench (State.passRoutes s dt) = State.bench s := by
  simp [State.passRoutes]
@[simp] theorem State.triggers_bench (s : State) :
    State.bench (State.triggers s) = State.bench s := by
  simp (disch := intros; (repeat' split) <;> simp) [State.triggers]
@[simp] theorem State.quietChecks_bench (s : State) :
    State.bench (State.quietChecks s) = State.bench s := by
  simp [State.quietChecks]
@[simp] theorem State.writeElems_bench (s : State) (s0 : State) :
    State.bench (State.writeElems s s0) = State.bench s := by
  rfl
@[simp] theorem State.confirmAll_bench (s : State) :
    State.bench (State.confirmAll s) = State.bench s := by
  rfl
@[simp] theorem State.trellisPass_bench (s : State) (dt : Nat) :
    State.bench (State.trellisPass s dt) = State.bench s := by
  simp (disch := intros; (repeat' split) <;> simp) [State.trellisPass]
@[simp] theorem State.endReleased_bench (s : State) :
    State.bench (State.endReleased s) = State.bench s := by
  rfl
@[simp] theorem State.takeCmdseq_bench (s : State) :
    State.bench (State.takeCmdseq s).2 = State.bench s := by
  rfl
@[simp] theorem State.takeReqseq_bench (s : State) :
    State.bench (State.takeReqseq s).2 = State.bench s := by
  rfl
@[simp] theorem State.countNotEntered_bench (s : State) :
    State.bench (State.countNotEntered s) = State.bench s := by
  rfl
@[simp] theorem State.enter_bench (s : State) (r : Nat) (origin : Nat) (cmdseq : Nat) (ref : Option CmdRef) :
    State.bench (State.enter s r origin cmdseq ref) = State.bench s := by
  rfl
@[simp] theorem State.doneOp_bench (s : State) (ref : CmdRef) (status : Nat) (cmdseq : Nat) :
    State.bench (State.doneOp s ref status cmdseq) = State.bench s := by
  rfl
@[simp] theorem State.enterCancel_bench (s : State) (ref : CmdRef) (r : Nat) (q : Nat) :
    State.bench (State.enterCancel s ref r q) = State.bench s := by
  unfold State.enterCancel; split <;> simp
@[simp] theorem State.enterKey_bench (s : State) (ref : CmdRef) (n : Nat) (q : Nat) :
    State.bench (State.enterKey s ref n q) = State.bench s := by
  unfold State.enterKey; (repeat' split) <;> simp
@[simp] theorem State.enterOp_bench (s : State) (o : OpCmd) :
    State.bench (State.enterOp s o) = State.bench s := by
  unfold State.enterOp; dsimp only; (repeat' split) <;> simp_all
@[simp] theorem State.enterElemReq_bench (s : State) (x : Nat × Nat × Bool) :
    State.bench (State.enterElemReq s x) = State.bench s := by
  unfold State.enterElemReq; (repeat' split) <;> simp
@[simp] theorem State.enterAuto_bench (s : State) (x : Nat × Nat) :
    State.bench (State.enterAuto s x) = State.bench s := by
  unfold State.enterAuto; split <;> simp
@[simp] theorem State.enterRequests_bench (s : State) (ops : List OpCmd) :
    State.bench (State.enterRequests s ops) = State.bench s := by
  simp [State.enterRequests]
@[simp] theorem State.refuseOps_bench (s : State) (ops : List OpCmd) :
    State.bench (State.refuseOps s ops) = State.bench s := by
  simp [State.refuseOps]
@[simp] theorem State.routeEvent_bench (s : State) (r : Nat) (states : List Nat) (due : RouteEntry → RouteCell → Bool) :
    State.bench (State.routeEvent s r states due) = State.bench s := by
  unfold State.routeEvent; split <;> simp
theorem execSettingTimeLimit_bench (route : Nat) (s : State) :
    ∀ t, (execSettingTimeLimit route s) = .next t → State.bench t = State.bench s := by
  rintro _ ⟨⟩; simp
theorem execRequestLifetime_bench (route : Nat) (s : State) :
    ∀ t, (execRequestLifetime route s) = .next t → State.bench t = State.bench s := by
  rintro _ ⟨⟩; simp
theorem execApproachReleaseTimer_bench (route : Nat) (s : State) :
    ∀ t, (execApproachReleaseTimer route s) = .next t → State.bench t = State.bench s := by
  rintro _ ⟨⟩; simp
theorem execOverlapReleaseTimer_bench (route : Nat) (s : State) :
    ∀ t, (execOverlapReleaseTimer route s) = .next t → State.bench t = State.bench s := by
  rintro _ ⟨⟩; simp
theorem execReleasingTimeout_bench (route : Nat) (s : State) :
    ∀ t, (execReleasingTimeout route s) = .next t → State.bench t = State.bench s := by
  rintro _ ⟨⟩; simp
@[simp] theorem State.storeTables_bench (s : State) :
    State.bench (State.storeTables s) = State.bench s := by
  rfl
@[simp] theorem State.buildVecs_bench (s : State) :
    State.bench (State.buildVecs s) = State.bench s := by
  simp [State.buildVecs]
@[simp] theorem State.tableCheck_bench (s : State) :
    State.bench (State.tableCheck s) = State.bench s := by
  rfl
@[simp] theorem State.syncConns_bench (s : State) :
    State.bench (State.syncConns s) = State.bench s := by
  rfl
@[simp] theorem State.resetConns_bench (s : State) :
    State.bench (State.resetConns s) = State.bench s := by
  rfl
@[simp] theorem State.bindForces_bench (s : State) :
    State.bench (State.bindForces s) = State.bench s := by
  rfl
@[simp] theorem State.applyForceMarks_bench (s : State) :
    State.bench (State.applyForceMarks s) = State.bench s := by
  rfl
@[simp] theorem State.coldStart_bench (s : State) :
    State.bench (State.coldStart s) = State.bench s := by
  simp [State.coldStart]
@[simp] theorem State.warmStart_bench (s : State) (passed : Nat) :
    State.bench (State.warmStart s passed) = State.bench s := by
  rfl
@[simp] theorem State.startApp_bench (s : State) :
    State.bench (State.startApp s) = State.bench s := by
  simp [State.startApp]
@[simp] theorem State.graftLanes_bench (s : State) :
    State.bench (State.graftLanes s) = State.bench s := by
  rfl
@[simp] theorem State.graft_bench (s : State) (r : CmdRef) (new : Image) :
    State.bench (State.graft s r new) = State.bench s := by
  simp [State.graft]
@[simp] theorem State.latchSummary_bench (s : State) :
    State.bench (State.latchSummary s) = State.bench s := by
  rfl
@[simp] theorem State.seeRing_bench (s : State) (addr : Nat) (n : Nat) :
    State.bench (State.seeRing s addr n) = State.bench s := by
  simp [State.seeRing]
@[simp] theorem State.testFsv_bench (s : State) (id target : Nat) :
    State.bench (State.testFsv s id target).2 = State.bench s := by
  unfold State.testFsv; split <;> simp
@[simp] theorem State.coverLane_bench (s : State) (l : Lane) :
    State.bench (State.coverLane s l) = State.bench s := by
  simp [State.coverLane]
@[simp] theorem State.clocheStart_bench (s : State) :
    State.bench (State.clocheStart s) = State.bench s := by
  unfold State.clocheStart; split <;> simp
@[simp] theorem State.testFailed_bench (s : State) (id : Nat) (target : Nat) :
    State.bench (State.testFailed s id target) = State.bench s := by
  unfold State.testFailed; split <;> simp
@[simp] theorem State.testPassed_bench (s : State) (id : Nat) (target : Nat) :
    State.bench (State.testPassed s id target) = State.bench s := by
  unfold State.testPassed; split <;> simp
@[simp] theorem State.uncoverLane_bench (s : State) (l : Lane) (took : Bool) :
    State.bench (State.uncoverLane s l took) = State.bench s := by
  rfl
@[simp] theorem State.clocheEnd_bench (s : State) :
    State.bench (State.clocheEnd s) = State.bench s := by
  unfold State.clocheEnd; (repeat' split) <;> simp
theorem execTestComplete_bench (codes : List Nat) (s : State) :
    ∀ t, (execTestComplete codes s) = .next t → State.bench t = State.bench s := by
  rintro _ ⟨⟩; (repeat' split) <;> simp
theorem execPreconditionCheck_bench (q : Quantities) (s : State) :
    ∀ t, (execPreconditionCheck q s) = .next t → State.bench t = State.bench s := by
  rintro _ ⟨⟩; dsimp only; (repeat' split) <;> simp_all
theorem execOscillatorMeasurement_bench (offset : Int) (s : State) :
    ∀ t, (execOscillatorMeasurement offset s) = .next t → State.bench t = State.bench s := by
  rintro _ ⟨⟩; simp
@[simp] theorem State.testAtApply_bench (s : State) (old : Settings) (img : Bool) :
    State.bench (State.testAtApply s old img) = State.bench s := by
  unfold State.testAtApply; split <;> simp
@[simp] theorem State.passesAtApply_bench (s : State) (old : Settings) :
    State.bench (State.passesAtApply s old) = State.bench s := by
  rfl
@[simp] theorem State.breakCheck_bench (s : State) :
    State.bench (State.breakCheck s) = State.bench s := by
  unfold State.breakCheck; split <;> simp
@[simp] theorem State.cancelApply_bench (s : State) :
    State.bench (State.cancelApply s) = State.bench s := by
  unfold State.cancelApply; split <;> simp
@[simp] theorem State.retryApply_bench (s : State) :
    State.bench (State.retryApply s) = State.bench s := by
  unfold State.retryApply; split <;> simp
@[simp] theorem State.warmChanged_bench (s : State) (old : Settings) :
    State.bench (State.warmChanged s old) = State.bench s := by
  simp [State.warmChanged]
@[simp] theorem State.markConns_bench (s : State) (old : Settings) :
    State.bench (State.markConns s old) = State.bench s := by
  simp [State.markConns]
@[simp] theorem State.syncRecs_bench (s : State) :
    State.bench (State.syncRecs s) = State.bench s := by
  rfl
@[simp] theorem State.ringModes_bench (s : State) (old : Settings) :
    State.bench (State.ringModes s old) = State.bench s := by
  simp [State.ringModes]
@[simp] theorem State.putSettings_bench (s : State) (st : Settings) :
    State.bench (State.putSettings s st) = State.bench s := by
  simp [State.putSettings]
@[simp] theorem State.forceChange_bench (s : State) (r : CmdRef) (old : ForceEntry) (new : ForceEntry) :
    State.bench (State.forceChange s r old new) = State.bench s := by
  simp [State.forceChange]
@[simp] theorem State.putForces_bench (s : State) (r : CmdRef) (fs : List ForceEntry) :
    State.bench (State.putForces s r fs) = State.bench s := by
  simp [State.putForces]
@[simp] theorem State.applyRecords_bench (s : State) (r : CmdRef) :
    State.bench (State.applyRecords s r) = State.bench s := by
  simp [State.applyRecords]
@[simp] theorem State.makeApply_bench (s : State) (a : ApplySt) (new : Option Image) :
    State.bench (State.makeApply s a new) = State.bench s := by
  unfold State.makeApply; split <;> simp
@[simp] theorem State.graftFails_bench (s : State) (a : ApplySt) (item : Nat) :
    State.bench (State.graftFails s a item) = State.bench s := by
  simp [State.graftFails]
@[simp] theorem State.ftgenFails_bench (s : State) (a : ApplySt) :
    State.bench (State.ftgenFails s a) = State.bench s := by
  simp [State.ftgenFails]
@[simp] theorem State.doApply_bench (s : State) (a : ApplySt) :
    State.bench (State.doApply s a) = State.bench s := by
  unfold State.doApply; dsimp only; (repeat' split) <;> simp_all
@[simp] theorem State.applyStep_bench (s : State) :
    State.bench (State.applyStep s) = State.bench s := by
  unfold State.applyStep; split <;> simp
@[simp] theorem State.finishApply_bench (s : State) :
    State.bench (State.finishApply s) = State.bench s := by
  unfold State.finishApply; split <;> simp
@[simp] theorem State.bootSettings_bench (s : State) :
    State.bench (State.bootSettings s) = State.bench s := by
  unfold State.bootSettings; dsimp only; (repeat' split) <;> simp_all
@[simp] theorem State.forceDone_bench (s : State) (f : ForceCmd) (status : Nat) (code : Nat) :
    State.bench (State.forceDone s f status code) = State.bench s := by
  simp [State.forceDone]
@[simp] theorem State.setForceNow_bench (s : State) (f : ForceCmd) :
    State.bench (State.setForceNow s f) = State.bench s := by
  unfold State.setForceNow; dsimp only; (repeat' split) <;> simp_all
@[simp] theorem State.clearForceNow_bench (s : State) (f : ForceCmd) :
    State.bench (State.clearForceNow s f) = State.bench s := by
  unfold State.clearForceNow; dsimp only; (repeat' split) <;> simp_all
@[simp] theorem State.forceNow_bench (s : State) (f : ForceCmd) :
    State.bench (State.forceNow s f) = State.bench s := by
  simp [State.forceNow]
@[simp] theorem State.forceStep_bench (s : State) :
    State.bench (State.forceStep s) = State.bench s := by
  simp [State.forceStep]
@[simp] theorem State.endCheck_bench (s : State) (r : CmdRef) (res : CheckRes) (lanes : List Lane) (passed : Lane → Bool) :
    State.bench (State.endCheck s r res lanes passed) = State.bench s := by
  simp [State.endCheck]
theorem execStageCheckDone_bench (differs : Trio Bool) (s : State) :
    ∀ t, (execStageCheckDone differs s) = .next t → State.bench t = State.bench s := by
  rintro _ ⟨⟩; dsimp only; (repeat' split) <;> simp_all
@[simp] theorem State.maintStep_bench (s : State) :
    State.bench (State.maintStep s) = State.bench s := by
  unfold State.maintStep; split <;> simp
@[simp] theorem State.makeTransition_bench (s : State) (target : LcState) (r : CmdRef) (signer : Nat) (reason : Bytes) :
    State.bench (State.makeTransition s target r signer reason) = State.bench s := by
  simp [State.makeTransition]
@[simp] theorem State.refuseTransition_bench (s : State) (target : Nat) (r : CmdRef) (signer : Nat) (status : Nat) :
    State.bench (State.refuseTransition s target r signer status) = State.bench s := by
  simp [State.refuseTransition]
@[simp] theorem State.lcStep_bench (s : State) :
    State.bench (State.lcStep s) = State.bench s := by
  unfold State.lcStep; dsimp only; (repeat' split) <;> simp_all
@[simp] theorem State.lcErase_bench (s : State) (src target : LcState) (h : benchWf (State.bench s)) :
    benchWf (State.bench (State.lcErase s src target)) := by
  unfold State.lcErase; split
  · exact h
  · exact h
  · exact benchWf_nil
  · exact h
@[simp] theorem State.lcNow_bench (s : State) (target : LcState) (r : CmdRef) (signer : Nat) (reason : Bytes)
    (h : benchWf (State.bench s)) : benchWf (State.bench (State.lcNow s target r signer reason)) := by
  unfold State.lcNow; dsimp only; simp [h]
@[simp] theorem State.latchTamperAt_bench (s : State) (wt : Nat) :
    State.bench (State.latchTamperAt s wt) = State.bench s := by
  simp [State.latchTamperAt]
@[simp] theorem State.latchTamper_bench (s : State) :
    State.bench (State.latchTamper s) = State.bench s := by
  simp [State.latchTamper]
@[simp] theorem State.unpoweredOpening_bench (s : State) :
    State.bench (State.unpoweredOpening s) = State.bench s := by
  simp [State.unpoweredOpening]
theorem execTamperSwitchOpen_bench (s : State) :
    ∀ t, (execTamperSwitchOpen s) = .next t → State.bench t = State.bench s := by
  rintro _ ⟨⟩; simp
theorem execSealLoopCheck_bench (intact : Bool) (s : State) :
    ∀ t, (execSealLoopCheck intact s) = .next t → State.bench t = State.bench s := by
  rintro _ ⟨⟩; simp
theorem execUnpoweredEnclosureOpening_bench (s : State) :
    ∀ t, (execUnpoweredEnclosureOpening s) = .next t → State.bench t = State.bench s := by
  rintro _ ⟨⟩; simp
@[simp] theorem State.bootTamper_bench (s : State) (loopOk : Bool) (unfed : Bool) (downOt : Nat) :
    State.bench (State.bootTamper s loopOk unfed downOt) = State.bench s := by
  simp [State.bootTamper]
theorem execUpdVerifyDone_bench (s : State) :
    ∀ t, (execUpdVerifyDone s) = .next t → State.bench t = State.bench s := by
  rintro _ ⟨⟩; (repeat' split) <;> simp
theorem execUpdateSessionTimeout_bench (s : State) :
    ∀ t, (execUpdateSessionTimeout s) = .next t → State.bench t = State.bench s := by
  rintro _ ⟨⟩; simp
@[simp] theorem State.actProgress_bench (s : State) (step : Nat) :
    State.bench (State.actProgress s step) = State.bench s := by
  unfold State.actProgress; split <;> simp
@[simp] theorem State.beginTurn_bench (s : State) (a : ActSt) (lane : Lane) :
    State.bench (State.beginTurn s a lane) = State.bench s := by
  simp [State.beginTurn]
@[simp] theorem State.turnStart_bench (s : State) :
    State.bench (State.turnStart s) = State.bench s := by
  unfold State.turnStart; (repeat' split) <;> simp
theorem execLaneTurn_bench (lane : Lane) (s : State) :
    ∀ t, (execLaneTurn lane s) = .next t → State.bench t = State.bench s := by
  rintro _ ⟨⟩; (repeat' split) <;> simp
theorem execKernelLoadDone_bench (lane : Lane) (s : State) :
    ∀ t, (execKernelLoadDone lane s) = .next t → State.bench t = State.bench s := by
  rintro _ ⟨⟩; simp
@[simp] theorem State.turnEnds_bench (s : State) (l : Lane) :
    State.bench (State.turnEnds s l) = State.bench s := by
  unfold State.turnEnds; split <;> simp
@[simp] theorem State.switchLevel_bench (s : State) :
    State.bench (State.switchLevel s) = State.bench s := by
  unfold State.switchLevel; split <;> simp
@[simp] theorem State.switchStart_bench (s : State) :
    State.bench (State.switchStart s) = State.bench s := by
  simp [State.switchStart]
theorem execLevelSwitch_bench (s : State) :
    ∀ t, (execLevelSwitch s) = .next t → State.bench t = State.bench s := by
  rintro _ ⟨⟩; simp
@[simp] theorem State.actStart_bench (s : State) :
    State.bench (State.actStart s) = State.bench s := by
  unfold State.actStart; split <;> simp
theorem execImageConfirmed_bench (s : State) :
    ∀ t, (execImageConfirmed s) = .next t → State.bench t = State.bench s := by
  rintro _ ⟨⟩; (repeat' split) <;> simp
theorem execPostActivationTimeout_bench (s : State) :
    ∀ t, (execPostActivationTimeout s) = .next t → State.bench t = State.bench s := by
  rintro _ ⟨⟩; (repeat' split) <;> simp
@[simp] theorem State.putSend_bench (s : State) (r : SendRec) :
    State.bench (State.putSend s r) = State.bench s := by
  rfl
@[simp] theorem State.putFb_bench (s : State) (off : Nat) (b : Bytes) :
    State.bench (State.putFb s off b) = State.bench s := by
  rfl
@[simp] theorem State.commitItem_bench (held : List CmdRef) (s : State) (x2 : MirrorItem) :
    State.bench (State.commitItem held s x2) = State.bench s := by
  unfold State.commitItem; split <;> simp
@[simp] theorem State.commitSet_bench (s : State) (is : List MirrorItem) : State.bench (s.commitSet is) = State.bench s := by
  unfold State.commitSet; dsimp only
  rw [State.bindForces_bench, State.each_bench _ _ _ (State.commitItem_bench _)]; rfl
@[simp] theorem State.unconfirm_bench (s : State) (is : List MirrorItem) :
    State.bench (State.unconfirm s is) = State.bench s := by
  rfl
@[simp] theorem State.sbAnswer_bench (s : State) (ini : Initiator) (win : Nat) (off : Nat) (op : Nat) (fstat : Nat) (retry : Bool) (data : Bytes) :
    State.bench (State.sbAnswer s ini win off op fstat retry data) = State.bench s := by
  rfl
@[simp] theorem State.takeSbSeq_bench (s : State) :
    State.bench (State.takeSbSeq s).2 = State.bench s := by
  rfl
@[simp] theorem State.sendBridge_bench (s : State) (dst : Nat) (seq : Nat) (payload : Bytes) :
    State.bench (State.sendBridge s dst seq payload) = State.bench s := by
  simp [State.sendBridge]
@[simp] theorem State.sendXfer_bench (s : State) (x : Xfer) :
    State.bench (State.sendXfer s x) = State.bench s := by
  simp [State.sendXfer]
@[simp] theorem State.pumpWindow_bench (s : State) (w : Nat) :
    State.bench (State.pumpWindow s w) = State.bench s := by
  unfold State.pumpWindow; dsimp only; (repeat' split) <;> simp_all
@[simp] theorem State.finishXfer_bench (s : State) (x : Xfer) (fstat : Nat) (data : Bytes) :
    State.bench (State.finishXfer s x fstat data) = State.bench s := by
  simp [State.finishXfer]
@[simp] theorem State.spoil_bench (s : State) (win : Nat) (off : Nat) (len : Nat) :
    State.bench (State.spoil s win off len) = State.bench s := by
  rfl
@[simp] theorem State.sbTake_bench (s : State) (ini : Initiator) (win : Nat) (off : Nat) (op : Nat) (len : Nat) (data : Bytes) :
    State.bench (State.sbTake s ini win off op len data) = State.bench s := by
  simp [State.sbTake]
@[simp] theorem State.postedOff_bench (s : State) (win : Nat) (off : Nat) (data : Bytes) :
    State.bench (State.postedOff s win off data) = State.bench s := by
  simp [State.postedOff]
@[simp] theorem State.sbIssueWrite_bench (s : State) (ini : Initiator) (win : Nat) (off : Nat) (op : Nat) (data : Bytes) :
    State.bench (State.sbIssueWrite s ini win off op data) = State.bench s := by
  unfold State.sbIssueWrite; split <;> simp
@[simp] theorem State.sbIssueRead_bench (s : State) (ini : Initiator) (win : Nat) (off : Nat) (len : Nat) :
    State.bench (State.sbIssueRead s ini win off len) = State.bench s := by
  unfold State.sbIssueRead; (repeat' split) <;> simp
theorem execSbWrite_bench (win : Nat) (off : Nat) (data : Bytes) (s : State) :
    ∀ t, (execSbWrite win off data s) = .next t → State.bench t = State.bench s := by
  rintro _ ⟨⟩; simp
theorem execSbRead_bench (win : Nat) (off : Nat) (len : Nat) (s : State) :
    ∀ t, (execSbRead win off len s) = .next t → State.bench t = State.bench s := by
  rintro _ ⟨⟩; simp
theorem execSbPostedWrite_bench (win : Nat) (off : Nat) (data : Bytes) (s : State) :
    ∀ t, (execSbPostedWrite win off data s) = .next t → State.bench t = State.bench s := by
  rintro _ ⟨⟩; simp
@[simp] theorem State.laneTransfer_bench (s : State) (t : LaneTransfer) :
    State.bench (State.laneTransfer s t) = State.bench s := by
  unfold State.laneTransfer; split <;> simp
@[simp] theorem State.laneTransfers_bench (s : State) (issued : Trio (List LaneTransfer)) :
    State.bench (State.laneTransfers s issued) = State.bench s := by
  simp [State.laneTransfers]
@[simp] theorem State.freezeBridge_bench (s : State) :
    State.bench (State.freezeBridge s) = State.bench s := by
  rfl
theorem State.serve_bench (s : State) (bop : Nat) (addr : Nat) (len : Nat) (data : Bytes) (hl : data.length ≤ len)
    (h : benchWf (State.bench s)) : benchWf (State.bench (State.serve s bop addr len data).2.2) := by
  unfold State.serve
  simp only
  split
  · exact h
  · split
    · dsimp only; split <;> simpa using h
    · rename_i h1 h2
      refine benchWf_writes _ _ _ ?_ h
      simp only [inboundStat, bne_iff_ne, ne_eq, ite_eq_left_iff, beq_iff_eq] at h1 h2
      split at h1
      · simp at h1
      · split at h1
        · rename_i hw; simp at hw; omega
        · split at h1
          · simp [h2] at h1
          · simp at h1
theorem State.updBridge_keeps (s : State) (f : BridgeSt → BridgeSt) (hf : ∀ b, (f b).bench = b.bench) :
    State.bench (s.updBridge f) = State.bench s := hf _
theorem State.inbound_bench (s : State) (g : Gvt) (h : benchWf (State.bench s)) :
    benchWf (State.bench (State.inbound s g)) := by
  unfold State.inbound; dsimp only
  split
  · simpa using h
  · split
    · rw [State.sendBoth_bench]; exact h
    · rw [State.sendBoth_bench, State.updBridge_keeps]
      · exact State.serve_bench _ _ _ _ _ (by rw [List.length_take]; omega) h
      · intro b; rfl
@[simp] theorem State.completion_bench (s : State) (g : Gvt) :
    State.bench (State.completion s g) = State.bench s := by
  unfold State.completion; split <;> simp
@[simp] theorem State.tvFail_bench (s : State) :
    State.bench (State.tvFail s) = State.bench s := by
  simp [State.tvFail]
theorem execBridgeFrameReceived_bench (net : Net) (f : Frame) (s : State) (h : benchWf (State.bench s)) :
    ∀ t, (execBridgeFrameReceived net f s) = .next t → benchWf (State.bench t) := by
  rintro _ ⟨⟩; dsimp only; split
  · exact h
  · unfold State.notOwn; (repeat' split) <;> first | exact h | exact State.inbound_bench _ _ h | simpa using h
theorem execSbTransferTimeout_bench (seq : Nat) (s : State) :
    ∀ t, (execSbTransferTimeout seq s) = .next t → State.bench t = State.bench s := by
  rintro _ ⟨⟩; (repeat' split) <;> simp
theorem execSbBusyRetry_bench (seq : Nat) (s : State) :
    ∀ t, (execSbBusyRetry seq s) = .next t → State.bench t = State.bench s := by
  rintro _ ⟨⟩; (repeat' split) <;> simp
theorem execSbHeldResultExpiry_bench (vk : Bool) (win : Nat) (off : Nat) (len : Nat) (s : State) :
    ∀ t, (execSbHeldResultExpiry vk win off len s) = .next t → State.bench t = State.bench s := by
  rintro _ ⟨⟩; simp
@[simp] theorem State.updPair_bench (s : State) (f : PairSt → PairSt) :
    State.bench (State.updPair s f) = State.bench s := by
  rfl
theorem execPstartReceived_bench (m : PStart) (us : Nat) (s : State) :
    ∀ t, (execPstartReceived m us s) = .next t → State.bench t = State.bench s := by
  rintro _ ⟨⟩; simp
theorem execMblockReceived_bench (m : MBlock) (s : State) :
    ∀ t, (execMblockReceived m s) = .next t → State.bench t = State.bench s := by
  rintro _ ⟨⟩; simp
theorem execMcloseReceived_bench (m : MClose) (s : State) :
    ∀ t, (execMcloseReceived m s) = .next t → State.bench t = State.bench s := by
  rintro _ ⟨⟩; simp
theorem execPreportReceived_bench (crcOk : Bool) (h : Health) (s : State) :
    ∀ t, (execPreportReceived crcOk h s) = .next t → State.bench t = State.bench s := by
  rintro _ ⟨⟩; simp
@[simp] theorem State.noteCmd_bench (s : State) (r : CmdRef) :
    State.bench (State.noteCmd s r) = State.bench s := by
  rfl
theorem execCmdfwdReceived_bench (m : CmdFwdMsg) (s : State) :
    ∀ t, (execCmdfwdReceived m s) = .next t → State.bench t = State.bench s := by
  rintro _ ⟨⟩; (repeat' split) <;> simp
theorem execHeartbeatReceived_bench (net : Net) (f : Frame) (s : State) :
    ∀ t, (execHeartbeatReceived net f s) = .next t → State.bench t = State.bench s := by
  rintro _ ⟨⟩; dsimp only; split
  · rfl
  · refine State.notOwn_bench _ _ _ ?_; (repeat' split) <;> simp
@[simp] theorem State.sendHeartbeat_bench (s : State) :
    State.bench (State.sendHeartbeat s) = State.bench s := by
  simp [State.sendHeartbeat]
theorem execPlLinkLoss_bench (link2 : Bool) (s : State) :
    ∀ t, (execPlLinkLoss link2 s) = .next t → State.bench t = State.bench s := by
  rintro _ ⟨⟩; simp
theorem execPlLinkReturn_bench (link2 : Bool) (s : State) :
    ∀ t, (execPlLinkReturn link2 s) = .next t → State.bench t = State.bench s := by
  rintro _ ⟨⟩; simp
theorem execOpticInserted_bench (link2 : Bool) (kind : Optic) (s : State) :
    ∀ t, (execOpticInserted link2 kind s) = .next t → State.bench t = State.bench s := by
  rintro _ ⟨⟩; simp
@[simp] theorem State.pairCmdDone_bench (s : State) (r : CmdRef) (before : Nat) (after : Nat) (st : Nat) :
    State.bench (State.pairCmdDone s r before after st) = State.bench s := by
  simp [State.pairCmdDone]
@[simp] theorem State.endHandover_bench (s : State) (after : Nat) (st : Nat) :
    State.bench (State.endHandover s after st) = State.bench s := by
  unfold State.endHandover; split <;> simp
@[simp] theorem State.handoverDone_bench (s : State) :
    State.bench (State.handoverDone s) = State.bench s := by
  simp [State.handoverDone]
@[simp] theorem State.leadWith_bench (s : State) (e : Nat) :
    State.bench (State.leadWith s e) = State.bench s := by
  simp [State.leadWith]
@[simp] theorem State.takeLead_bench (s : State) :
    State.bench (State.takeLead s) = State.bench s := by
  simp [State.takeLead]
@[simp] theorem State.becomeFollow_bench (s : State) (instep : Nat) :
    State.bench (State.becomeFollow s instep) = State.bench s := by
  simp [State.becomeFollow]
@[simp] theorem State.outOfStep_bench (s : State) :
    State.bench (State.outOfStep s) = State.bench s := by
  simp [State.outOfStep]
@[simp] theorem State.relinquish_bench (s : State) :
    State.bench (State.relinquish s) = State.bench s := by
  simp [State.relinquish]
@[simp] theorem State.takeIfDue_bench (s : State) :
    State.bench (State.takeIfDue s) = State.bench s := by
  simp [State.takeIfDue]
theorem execPartnerSilent_bench (s : State) :
    ∀ t, (execPartnerSilent s) = .next t → State.bench t = State.bench s := by
  rintro _ ⟨⟩; simp
theorem execRevertHoldOff_bench (s : State) :
    ∀ t, (execRevertHoldOff s) = .next t → State.bench t = State.bench s := by
  rintro _ ⟨⟩; simp
@[simp] theorem State.comeInStep_bench (s : State) :
    State.bench (State.comeInStep s) = State.bench s := by
  simp [State.comeInStep]
theorem execInStep_bench (s : State) :
    ∀ t, (execInStep s) = .next t → State.bench t = State.bench s := by
  rintro _ ⟨⟩; simp
@[simp] theorem State.endConflict_bench (s : State) :
    State.bench (State.endConflict s) = State.bench s := by
  simp [State.endConflict]
theorem execLeadClaimConflict_bench (s : State) :
    ∀ t, (execLeadClaimConflict s) = .next t → State.bench t = State.bench s := by
  rintro _ ⟨⟩; simp
@[simp] theorem State.joinRestart_bench (s : State) :
    State.bench (State.joinRestart s) = State.bench s := by
  simp [State.joinRestart]
@[simp] theorem State.joinExpiry_bench (s : State) :
    State.bench (State.joinExpiry s) = State.bench s := by
  simp [State.joinExpiry]
theorem execJoinWaitExpiry_bench (s : State) :
    ∀ t, (execJoinWaitExpiry s) = .next t → State.bench t = State.bench s := by
  rintro _ ⟨⟩; simp
theorem execPairApplyTimeout_bench (s : State) :
    ∀ t, (execPairApplyTimeout s) = .next t → State.bench t = State.bench s := by
  rintro _ ⟨⟩; simp
@[simp] theorem State.dropFar_bench (s : State) :
    State.bench (State.dropFar s) = State.bench s := by
  simp [State.dropFar]
@[simp] theorem State.startJoining_bench (s : State) :
    State.bench (State.startJoining s) = State.bench s := by
  simp [State.startJoining]
@[simp] theorem State.fallSilent_bench (s : State) :
    State.bench (State.fallSilent s) = State.bench s := by
  simp [State.fallSilent]
@[simp] theorem State.pairCount_bench (s : State) :
    State.bench (State.pairCount s) = State.bench s := by
  unfold State.pairCount; split <;> simp
@[simp] theorem State.countSilence_bench (s : State) :
    State.bench (State.countSilence s) = State.bench s := by
  simp [State.countSilence]
@[simp] theorem State.adoptEpoch_bench (s : State) :
    State.bench (State.adoptEpoch s) = State.bench s := by
  simp [State.adoptEpoch]
@[simp] theorem State.claims_bench (s : State) :
    State.bench (State.claims s) = State.bench s := by
  simp [State.claims]
@[simp] theorem State.compareOne_bench (s : State) (h : Health) :
    State.bench (State.compareOne s h) = State.bench s := by
  unfold State.compareOne; split <;> simp
@[simp] theorem State.compareReports_bench (s : State) :
    State.bench (State.compareReports s) = State.bench s := by
  simp [State.compareReports]
@[simp] theorem State.keepOwn_bench (s : State) (is : List MirrorItem) :
    State.bench (State.keepOwn s is) = State.bench s := by
  simp [State.keepOwn]
@[simp] theorem State.commitMirror_bench (s : State) :
    State.bench (State.commitMirror s) = State.bench s := by
  unfold State.commitMirror; dsimp only; (repeat' split) <;> simp_all
@[simp] theorem State.phaseCheck_bench (s : State) :
    State.bench (State.phaseCheck s) = State.bench s := by
  simp [State.phaseCheck]
@[simp] theorem State.phaseCorrect_bench (s : State) :
    State.bench (State.phaseCorrect s) = State.bench s := by
  rfl
@[simp] theorem State.assumeNow_bench (s : State) :
    State.bench (State.assumeNow s) = State.bench s := by
  unfold State.assumeNow; split <;> simp
@[simp] theorem State.mirrorAbandon_bench (s : State) :
    State.bench (State.mirrorAbandon s) = State.bench s := by
  simp [State.mirrorAbandon]
@[simp] theorem State.holdRestart_bench (s : State) :
    State.bench (State.holdRestart s) = State.bench s := by
  simp [State.holdRestart]
@[simp] theorem State.pairStart_bench (s : State) :
    State.bench (State.pairStart s) = State.bench s := by
  simp [State.pairStart]
@[simp] theorem State.pairClaim_bench (s : State) :
    State.bench (State.pairClaim s) = State.bench s := by
  simp [State.pairClaim]
@[simp] theorem State.noteEntered_bench (s : State) (ops : List OpCmd) :
    State.bench (State.noteEntered s ops) = State.bench s := by
  simp [State.noteEntered]
@[simp] theorem State.opsOf_bench (s : State) :
    State.bench (State.opsOf s).2 = State.bench s := by
  unfold State.opsOf; split <;> simp
@[simp] theorem State.numberOp_bench (x : List OpCmd × State) (o : OpCmd) : State.bench (State.numberOp x o).2 = State.bench x.2 := by
  unfold State.numberOp; split <;> simp
@[simp] theorem State.numberOps_bench (os : List OpCmd) (x : List OpCmd × State) :
    State.bench (os.foldl State.numberOp x).2 = State.bench x.2 := by
  induction os generalizing x with
  | nil => rfl
  | cons o os ih => rw [List.foldl_cons, ih, State.numberOp_bench]
@[simp] theorem State.takeOps_bench (s : State) :
    State.bench (State.takeOps s).2 = State.bench s := by
  unfold State.takeOps; dsimp only; split <;> simp
@[simp] theorem State.holdForces_bench (s : State) :
    State.bench (State.holdForces s) = State.bench s := by
  simp [State.holdForces]
@[simp] theorem State.listForce_bench (s : State) (c : ForceCmd) :
    State.bench (State.listForce s c) = State.bench s := by
  simp [State.listForce]
@[simp] theorem State.listApply_bench (s : State) :
    State.bench (State.listApply s) = State.bench s := by
  rfl
@[simp] theorem State.takeLists_bench (s : State) :
    State.bench (State.takeLists s) = State.bench s := by
  unfold State.takeLists; split <;> simp
@[simp] theorem State.sendPstart_bench (s : State) (ops : List OpCmd) :
    State.bench (State.sendPstart s ops) = State.bench s := by
  simp [State.sendPstart]
@[simp] theorem State.formReport_bench (s : State) :
    State.bench (State.formReport s) = State.bench s := by
  rfl
@[simp] theorem State.pairDone_bench (s : State) :
    State.bench (State.pairDone s) = State.bench s := by
  simp [State.pairDone]
theorem execMcloseSend_bench (s : State) :
    ∀ t, (execMcloseSend s) = .next t → State.bench t = State.bench s := by
  rintro _ ⟨⟩; simp
@[simp] theorem State.sendTunnel_bench (s : State) (n : Nat) (seq : Nat) (data : Bytes) :
    State.bench (State.sendTunnel s n seq data) = State.bench s := by
  simp [State.sendTunnel]
@[simp] theorem State.carry_bench (s : State) (n : Nat) (data : Bytes) :
    State.bench (State.carry s n data) = State.bench s := by
  simp [State.carry]
@[simp] theorem State.carryOr_bench (s : State) (n : Nat) (data : Bytes) :
    State.bench (State.carryOr s n data) = State.bench s := by
  simp [State.carryOr]
@[simp] theorem State.lineFrame_bench (s : State) (port : Nat) (data : Bytes) (bad : Bool) :
    State.bench (State.lineFrame s port data bad) = State.bench s := by
  unfold State.lineFrame; dsimp only; (repeat' split) <;> simp_all
theorem execLegacyFrameReceived_bench (port : Nat) (data : Bytes) (ending : LegacyEnd) (s : State) :
    ∀ t, (execLegacyFrameReceived port data ending s) = .next t → State.bench t = State.bench s := by
  rintro _ ⟨⟩; dsimp only; (repeat' split) <;> simp_all
@[simp] theorem State.tunnelData_bench (s : State) (n : Nat) (g : Gvt) :
    State.bench (State.tunnelData s n g) = State.bench s := by
  simp [State.tunnelData]
theorem execTunnelFrameReceived_bench (net : Net) (f : Frame) (s : State) :
    ∀ t, (execTunnelFrameReceived net f s) = .next t → State.bench t = State.bench s := by
  rintro _ ⟨⟩; dsimp only; split
  · rfl
  · refine State.notOwn_bench _ _ _ ?_; (repeat' split) <;> simp
theorem execLegacyTransmit_bench (tunnel : Nat) (s : State) :
    ∀ t, (execLegacyTransmit tunnel s) = .next t → State.bench t = State.bench s := by
  rintro _ ⟨⟩; dsimp only; (repeat' split) <;> simp_all
theorem execTunnelKeepalive_bench (tunnel : Nat) (s : State) :
    ∀ t, (execTunnelKeepalive tunnel s) = .next t → State.bench t = State.bench s := by
  rintro _ ⟨⟩; simp
theorem execTunnelDown_bench (tunnel : Nat) (s : State) :
    ∀ t, (execTunnelDown tunnel s) = .next t → State.bench t = State.bench s := by
  rintro _ ⟨⟩; simp
@[simp] theorem State.latchCurrent_bench (s : State) (c : Nat) :
    State.bench (State.latchCurrent s c) = State.bench s := by
  simp [State.latchCurrent]
@[simp] theorem State.latchStatus_bench (s : State) :
    State.bench (State.latchStatus s) = State.bench s := by
  simp [State.latchStatus]
@[simp] theorem State.updCyc_bench (s : State) (f : CycleSt → CycleSt) :
    State.bench (State.updCyc s f) = State.bench s := by
  rfl
@[simp] theorem State.advanceSends_bench (s : State) (conns : List Nat) :
    State.bench (State.advanceSends s conns) = State.bench s := by
  rfl
@[simp] theorem State.putForm_bench (s : State) (f : VoteForm) :
    State.bench (State.putForm s f) = State.bench s := by
  rfl
@[simp] theorem State.holdForm_bench (s : State) :
    State.bench (State.holdForm s) = State.bench s := by
  rfl
@[simp] theorem State.keepImage_bench (s : State) (f : VoteForm) :
    State.bench (State.keepImage s f) = State.bench s := by
  rfl
@[simp] theorem State.tickCompare_bench (s : State) (t : Trio Nat) :
    State.bench (State.tickCompare s t) = State.bench s := by
  unfold State.tickCompare; dsimp only; (repeat' split) <;> simp_all
@[simp] theorem State.otsCheck_bench (s : State) (t : Trio Nat) :
    State.bench (State.otsCheck s t) = State.bench s := by
  simp [State.otsCheck]
@[simp] theorem State.eventEffects_bench (s : State) :
    State.bench (State.eventEffects s) = State.bench s := by
  simp [State.eventEffects]
@[simp] theorem State.fbStores_bench (s : State) (env : StartEnv) (ls : List Lane) :
    State.bench (State.fbStores s env ls) = State.bench s := by
  simp [State.fbStores]
@[simp] theorem State.exercise_bench (s : State) (env : StartEnv) :
    State.bench (State.exercise s env) = State.bench s := by
  simp [State.exercise]
@[simp] theorem State.syncPass_bench (s : State) :
    State.bench (State.syncPass s) = State.bench s := by
  simp [State.syncPass]
@[simp] theorem State.enterMode_bench (s : State) (m : ExecMode) :
    State.bench (State.enterMode s m) = State.bench s := by
  simp [State.enterMode]
@[simp] theorem State.modeStep_bench (s : State) :
    State.bench (State.modeStep s) = State.bench s := by
  unfold State.modeStep; dsimp only; (repeat' split) <;> simp_all
@[simp] theorem State.rejoinLane_bench (s : State) (l : Lane) :
    State.bench (State.rejoinLane s l) = State.bench s := by
  simp [State.rejoinLane]
@[simp] theorem State.resyncEntry_bench (s : State) :
    State.bench (State.resyncEntry s) = State.bench s := by
  unfold State.resyncEntry; (repeat' split) <;> simp
@[simp] theorem State.stagedWork_bench (s : State) :
    State.bench (State.stagedWork s) = State.bench s := by
  simp [State.stagedWork]
@[simp] theorem State.formCore_bench (s : State) :
    State.bench (State.formCore s) = State.bench s := by
  rfl
@[simp] theorem State.fbStep_bench (s : State) :
    State.bench (State.fbStep s) = State.bench s := by
  simp [State.fbStep]
@[simp] theorem State.runPasses_bench (s : State) (ops : List OpCmd) (dt : Nat) :
    State.bench (State.runPasses s ops dt) = State.bench s := by
  simp [State.runPasses]
@[simp] theorem State.runCycle_bench (s : State) (ops : List OpCmd) (dt : Nat) :
    State.bench (State.runCycle s ops dt) = State.bench s := by
  simp [State.runCycle]
@[simp] theorem State.readCommons_bench (s : State) :
    State.bench (State.readCommons s) = State.bench s := by
  simp [State.readCommons]
@[simp] theorem State.compute_bench (s : State) (dt : Nat) :
    State.bench (State.compute s dt) = State.bench s := by
  unfold State.compute; dsimp only; (repeat' split) <;> simp_all
@[simp] theorem State.takeTicks_bench (s : State) (t : Trio Nat) :
    State.bench (State.takeTicks s t) = State.bench s := by
  rfl
@[simp] theorem State.beforeSnapshot_bench (s : State) :
    State.bench (State.beforeSnapshot s) = State.bench s := by
  simp [State.beforeSnapshot]
@[simp] theorem State.cycleStart_bench (s : State) (env : StartEnv) :
    State.bench (State.cycleStart s env) = State.bench s := by
  simp [State.cycleStart]
@[simp] theorem State.overrunCheck_bench (s : State) :
    State.bench (State.overrunCheck s) = State.bench s := by
  unfold State.overrunCheck; (repeat' split) <;> simp
theorem execOverrunLimit_bench (s : State) :
    ∀ t, (execOverrunLimit s) = .next t → State.bench t = State.bench s := by
  rintro _ ⟨⟩; simp
@[simp] theorem State.skipSlot_bench (s : State) :
    State.bench (State.skipSlot s) = State.bench s := by
  simp [State.skipSlot]
@[simp] theorem State.withdrawLate_bench (s : State) (l : Lane) :
    State.bench (State.withdrawLate s l) = State.bench s := by
  simp [State.withdrawLate]
@[simp] theorem State.doneMissing_bench (s : State) (env : StartEnv) :
    State.bench (State.doneMissing s env) = State.bench s := by
  simp [State.doneMissing]
@[simp] theorem State.copyAbandon_bench (s : State) :
    State.bench (State.copyAbandon s) = State.bench s := by
  unfold State.copyAbandon; split <;> simp
@[simp] theorem State.dueTime_bench (s : State) (env : StartEnv) :
    State.bench (State.dueTime s env) = State.bench s := by
  simp [State.dueTime]
@[simp] theorem State.enterSplit_bench (s : State) (l : Lane) :
    State.bench (State.enterSplit s l) = State.bench s := by
  simp [State.enterSplit]
@[simp] theorem State.leaveSplit_bench (s : State) (old : State) (l : Lane) :
    State.bench (State.leaveSplit s old l) = State.bench s := by
  simp [State.leaveSplit]
@[simp] theorem State.sendNonVital_bench (s : State) :
    State.bench (State.sendNonVital s) = State.bench s := by
  simp [State.sendNonVital]
@[simp] theorem State.splitForm_bench (s : State) (ops : List OpCmd) (dt : Nat) :
    State.bench (State.splitForm s ops dt) = State.bench s := by
  unfold State.splitForm; split <;> simp
@[simp] theorem State.splitStart_bench (s : State) (env : StartEnv) :
    State.bench (State.splitStart s env).2 = State.bench s := by
  unfold State.splitStart; dsimp only
  rw [State.snapConns_bench, State.readCommons_bench, State.takeOps_bench, State.freezeAll_bench, State.latchAll_bench,
    State.beforeSnapshot_bench, State.updCyc_bench]
@[simp] theorem State.splitRun_bench (s : State) (env : StartEnv) :
    State.bench (State.splitRun s env) = State.bench s := by
  unfold State.splitRun; dsimp only
  rw [State.latchStatus_bench, State.latchSummary_bench, State.finishApply_bench, State.flushCompl_bench, State.updCyc_bench, State.splitForm_bench,
    State.splitStart_bench]
@[simp] theorem State.splitCycle_bench (s : State) (l : Lane) (env : StartEnv) :
    State.bench (State.splitCycle s l env) = State.bench s := by
  simp [State.splitCycle]
theorem execDueMark_bench (lane : Lane) (env : StartEnv) (s : State) :
    ∀ t, (execDueMark lane env s) = .next t → State.bench t = State.bench s := by
  rintro _ ⟨⟩; simp
@[simp] theorem State.recordList_bench (s : State) (flags : Nat) :
    State.bench (State.recordList s flags) = State.bench s := by
  simp [State.recordList]
@[simp] theorem State.recordSafe_bench (s : State) :
    State.bench (State.recordSafe s) = State.bench s := by
  simp [State.recordSafe]
@[simp] theorem State.budget_bench (s : State) (l : Lane) (t : Nat) :
    State.bench (State.budget s l t) = State.bench s := by
  simp [State.budget]
@[simp] theorem State.postDone_bench (s : State) (comp : Trio Nat) (done : Trio Bool) :
    State.bench (State.postDone s comp done) = State.bench s := by
  simp [State.postDone]
@[simp] theorem State.safetyLimit_bench (s : State) :
    State.bench (State.safetyLimit s) = State.bench s := by
  unfold State.safetyLimit; split <;> simp
theorem execSafetyCodeFailLimit_bench (s : State) :
    ∀ t, (execSafetyCodeFailLimit s) = .next t → State.bench t = State.bench s := by
  rintro _ ⟨⟩; simp
@[simp] theorem State.cycleEnd_bench (s : State) :
    State.bench (State.cycleEnd s) = State.bench s := by
  simp [State.cycleEnd]
@[simp] theorem State.cycleDone_bench (s : State) (comp : Trio Nat) (done : Trio Bool) :
    State.bench (State.cycleDone s comp done) = State.bench s := by
  simp [State.cycleDone]
@[simp] theorem State.shadow_bench (s : State) (forms : Trio FormIn) (f : VoteForm) :
    State.bench (State.shadow s forms f) = State.bench s := by
  unfold State.shadow; (repeat' split) <;> simp
@[simp] theorem State.minority_bench (s : State) (forms : Trio FormIn) (f : VoteForm) (l : Lane) :
    State.bench (State.minority s forms f l) = State.bench s := by
  unfold State.minority; split <;> simp
@[simp] theorem State.afterVote_bench (s : State) (f : VoteForm) (issued : Trio (List LaneTransfer)) :
    State.bench (State.afterVote s f issued) = State.bench s := by
  simp [State.afterVote]
@[simp] theorem State.stampForms_bench (s : State) (forms : Trio FormIn) :
    State.bench (State.stampForms s forms) = State.bench s := by
  rfl
theorem execExchangeClose_bench (forms : Trio FormIn) (issued : Trio (List LaneTransfer)) (comp : Trio Nat) (done : Trio Bool) (s : State) :
    ∀ t, (execExchangeClose forms issued comp done s) = .next t → State.bench t = State.bench s := by
  rintro _ ⟨⟩; dsimp only; (repeat' split) <;> simp_all
@[simp] theorem State.scFailed_bench (s : State) (conn : Nat) (names : List Lane) :
    State.bench (State.scFailed s conn names) = State.bench s := by
  simp [State.scFailed]
@[simp] theorem State.release_bench (s : State) (k : ConnCfg) (g : Gvt) :
    State.bench (State.release s k g) = State.bench s := by
  simp [State.release]
theorem execTelegramRelease_bench (conn : Nat) (sc1 : Option Nat) (sc2 : Option Nat) (comp : Trio Nat) (done : Trio Bool) (s : State) :
    ∀ t, (execTelegramRelease conn sc1 sc2 comp done s) = .next t → State.bench t = State.bench s := by
  rintro _ ⟨⟩; dsimp only; (repeat' split) <;> simp_all
theorem execResyncCopy_bench (lane : Lane) (r : CopyResult) (s : State) :
    ∀ t, (execResyncCopy lane r s) = .next t → State.bench t = State.bench s := by
  rintro _ ⟨⟩; simp
theorem execResyncRetry_bench (lane : Lane) (s : State) :
    ∀ t, (execResyncRetry lane s) = .next t → State.bench t = State.bench s := by
  rintro _ ⟨⟩; simp
theorem execRejoin_bench (lane : Lane) (s : State) :
    ∀ t, (execRejoin lane s) = .next t → State.bench t = State.bench s := by
  rintro _ ⟨⟩; simp
@[simp] theorem State.mismatch_bench (s : State) (l : Lane) :
    State.bench (State.mismatch s l) = State.bench s := by
  simp [State.mismatch]
theorem execComparatorMismatch_bench (x : Handshake) (s : State) :
    ∀ t, (execComparatorMismatch x s) = .next t → State.bench t = State.bench s := by
  rintro _ ⟨⟩; simp
theorem execArbitrationSelfTestDone_bench (lane : Lane) (core0 : Bool) (core1 : Bool) (cmp : Bool) (s : State) :
    ∀ t, (execArbitrationSelfTestDone lane core0 core1 cmp s) = .next t → State.bench t = State.bench s := by
  rintro _ ⟨⟩; (repeat' split) <;> simp
theorem execArbitrationSelfTestTimeout_bench (lane : Lane) (s : State) :
    ∀ t, (execArbitrationSelfTestTimeout lane s) = .next t → State.bench t = State.bench s := by
  rintro _ ⟨⟩; simp
@[simp] theorem State.reloadTables_bench (s : State) (l : Lane) :
    State.bench (State.reloadTables s l) = State.bench s := by
  rfl
@[simp] theorem State.checkPassed_bench (s : State) (l : Lane) :
    State.bench (State.checkPassed s l) = State.bench s := by
  rfl
theorem execRestartCheckDone_bench (lane : Lane) (cmpOk : Bool) (bankOk : Bool) (s : State) :
    ∀ t, (execRestartCheckDone lane cmpOk bankOk s) = .next t → State.bench t = State.bench s := by
  rintro _ ⟨⟩; simp
theorem execProgressTimeout_bench (lane : Lane) (s : State) :
    ∀ t, (execProgressTimeout lane s) = .next t → State.bench t = State.bench s := by
  rintro _ ⟨⟩; simp
theorem execLaneStall_bench (lane : Lane) (s : State) :
    ∀ t, (execLaneStall lane s) = .next t → State.bench t = State.bench s := by
  rintro _ ⟨⟩; simp
theorem execIllegalDualRailCode_bench (region : Nat) (block : Nat) (s : State) :
    ∀ t, (execIllegalDualRailCode region block s) = .next t → State.bench t = State.bench s := by
  rintro _ ⟨⟩; simp
@[simp] theorem State.ofCore_bench (s : State) (l : Lane) (core : Bool) (f : State → State) (h : ∀ s, State.bench (f s) = State.bench s) :
    State.bench (State.ofCore s l core f) = State.bench s := by
  simp [State.ofCore, h]
theorem execCacheError_bench (lane : Lane) (kind : CacheEvent) (s : State) :
    ∀ t, (execCacheError lane kind s) = .next t → State.bench t = State.bench s := by
  rintro _ ⟨⟩; refine State.fed_bench _ _ fun s => State.ofCore_bench _ _ _ _ fun s => ?_; split <;> simp
theorem execMemoryScrubError_bench (lane : Lane) (found : ScrubEvent) (s : State) :
    ∀ t, (execMemoryScrubError lane found s) = .next t → State.bench t = State.bench s := by
  rintro _ ⟨⟩; refine State.fed_bench _ _ fun s => State.ofCore_bench _ _ _ _ fun s => ?_; split <;> simp
theorem execLaneSupplyLoss_bench (lane : Lane) (s : State) :
    ∀ t, (execLaneSupplyLoss lane s) = .next t → State.bench t = State.bench s := by
  rintro _ ⟨⟩; simp
theorem execLaneSupplyReturn_bench (lane : Lane) (s : State) :
    ∀ t, (execLaneSupplyReturn lane s) = .next t → State.bench t = State.bench s := by
  rintro _ ⟨⟩; simp
theorem execCommonsSupplyLoss_bench (s : State) :
    ∀ t, (execCommonsSupplyLoss s) = .next t → State.bench t = State.bench s := by
  rintro _ ⟨⟩; simp
theorem execServiceSupplyLoss_bench (s : State) :
    ∀ t, (execServiceSupplyLoss s) = .next t → State.bench t = State.bench s := by
  rintro _ ⟨⟩; simp
theorem execServiceRegionReturn_bench (s : State) :
    ∀ t, (execServiceRegionReturn s) = .next t → State.bench t = State.bench s := by
  rintro _ ⟨⟩; simp
theorem execTimebaseTrim_bench (offs : Trio (Option Int)) (s : State) :
    ∀ t, (execTimebaseTrim offs s) = .next t → State.bench t = State.bench s := by
  rintro _ ⟨⟩; simp
theorem execTokenOverrun_bench (s : State) :
    ∀ t, (execTokenOverrun s) = .next t → State.bench t = State.bench s := by
  rintro _ ⟨⟩; simp
theorem execTokenRegenerate_bench (s : State) :
    ∀ t, (execTokenRegenerate s) = .next t → State.bench t = State.bench s := by
  rintro _ ⟨⟩; simp
@[simp] theorem State.updTime_bench (s : State) (f : TimeSt → TimeSt) :
    State.bench (State.updTime s f) = State.bench s := by
  rfl
theorem execOtCheckpoint_bench (s : State) :
    ∀ t, (execOtCheckpoint s) = .next t → State.bench t = State.bench s := by
  rintro _ ⟨⟩; exact State.fed_bench _ _ fun s => State.updTime_bench _ _
theorem execOtShadowWrite_bench (s : State) :
    ∀ t, (execOtShadowWrite s) = .next t → State.bench t = State.bench s := by
  rintro _ ⟨⟩; simp
theorem execArchiveWindowEnd_bench (s : State) :
    ∀ t, (execArchiveWindowEnd s) = .next t → State.bench t = State.bench s := by
  rintro _ ⟨⟩; simp
theorem execCoalescingWindowEnd_bench (kind : Nat) (source : Nat) (s : State) :
    ∀ t, (execCoalescingWindowEnd kind source s) = .next t → State.bench t = State.bench s := by
  rintro _ ⟨⟩; dsimp only; (repeat' split) <;> simp_all
theorem execDropRecord_bench (s : State) :
    ∀ t, (execDropRecord s) = .next t → State.bench t = State.bench s := by
  rintro _ ⟨⟩; simp
@[simp] theorem State.lastLine_bench (s : State) (seq : Nat) (f : Fsid) (log : Nat) (seg : Nat) :
    State.bench (State.lastLine s seq f log seg) = State.bench s := by
  rfl
theorem execLogSegmentFailure_bench (log : Log) (segment : Nat) (s : State) :
    ∀ t, (execLogSegmentFailure log segment s) = .next t → State.bench t = State.bench s := by
  rintro _ ⟨⟩; simp
@[simp] theorem State.setWt_bench (s : State) (new : Nat) (source : Nat) (cred : Nat) (session : Nat) (ep : Nat) (cmd : Nat) :
    State.bench (State.setWt s new source cred session ep cmd) = State.bench s := by
  simp [State.setWt]
theorem execPtpSync_bench (offsetUs : Int) (master : PtpMaster) (s : State) :
    ∀ t, (execPtpSync offsetUs master s) = .next t → State.bench t = State.bench s := by
  rintro _ ⟨⟩; simp
theorem execPtpUnlock_bench (s : State) :
    ∀ t, (execPtpUnlock s) = .next t → State.bench t = State.bench s := by
  rintro _ ⟨⟩; simp
theorem execEscalation_bench (fsid : Fsid) (s : State) :
    ∀ t, (execEscalation fsid s) = .next t → State.bench t = State.bench s := by
  rintro _ ⟨⟩; simp
theorem execEscalationWindowExpiry_bench (fsid : Fsid) (s : State) :
    ∀ t, (execEscalationWindowExpiry fsid s) = .next t → State.bench t = State.bench s := by
  rintro _ ⟨⟩; simp
theorem execLaneLatchOut_bench (lane : Lane) (s : State) :
    ∀ t, (execLaneLatchOut lane s) = .next t → State.bench t = State.bench s := by
  rintro _ ⟨⟩; simp
theorem execWithdrawalWindowExpiry_bench (lane : Lane) (s : State) :
    ∀ t, (execWithdrawalWindowExpiry lane s) = .next t → State.bench t = State.bench s := by
  rintro _ ⟨⟩; simp
theorem execSafeCountLimit_bench (s : State) :
    ∀ t, (execSafeCountLimit s) = .next t → State.bench t = State.bench s := by
  rintro _ ⟨⟩; simp
theorem execSafeCountWindowExpiry_bench (s : State) :
    ∀ t, (execSafeCountWindowExpiry s) = .next t → State.bench t = State.bench s := by
  rintro _ ⟨⟩; simp
theorem execEventAck_bench (lane : Lane) (seq : Nat) (s : State) :
    ∀ t, (execEventAck lane seq s) = .next t → State.bench t = State.bench s := by
  rintro _ ⟨⟩; simp
@[simp] theorem State.graceOut_bench (s : State) (parent : Nat) (l : Lane) :
    State.bench (State.graceOut s parent l) = State.bench s := by
  simp [State.graceOut]
theorem execGraceExpiry_bench (seq : Nat) (s : State) :
    ∀ t, (execGraceExpiry seq s) = .next t → State.bench t = State.bench s := by
  rintro _ ⟨⟩; (repeat' split) <;> simp
theorem execSettleWindowEnd_bench (block : Nat) (pass : Bool) (s : State) :
    ∀ t, (execSettleWindowEnd block pass s) = .next t → State.bench t = State.bench s := by
  rintro _ ⟨⟩; (repeat' split) <;> simp
theorem execMfSelfCheck_bench (agree : Bool) (illegal : Bool) (conducting : Trio Bool) (s : State) :
    ∀ t, (execMfSelfCheck agree illegal conducting s) = .next t → State.bench t = State.bench s := by
  rintro _ ⟨⟩; simp
theorem execDuoLimit_bench (s : State) :
    ∀ t, (execDuoLimit s) = .next t → State.bench t = State.bench s := by
  rintro _ ⟨⟩; simp
theorem execHoldLimit_bench (lane : Lane) (s : State) :
    ∀ t, (execHoldLimit lane s) = .next t → State.bench t = State.bench s := by
  rintro _ ⟨⟩; simp
@[simp] theorem State.updPow_bench (s : State) (f : PowerSt → PowerSt) :
    State.bench (State.updPow s f) = State.bench s := by
  rfl
@[simp] theorem State.endSpan_bench (s : State) :
    State.bench (State.endSpan s) = State.bench s := by
  simp [State.endSpan]
@[simp] theorem State.archiveCold_bench (s : State) :
    State.bench (State.archiveCold s) = State.bench s := by
  simp [State.archiveCold]
@[simp] theorem State.flush_bench (s : State) :
    State.bench (State.flush s) = State.bench s := by
  unfold State.flush; dsimp only; rw [State.updTime_bench _ _]; split
  · exact State.updRecs_bench _ _
  · rfl
@[simp] theorem State.loadImage_bench (s : State) :
    State.bench (State.loadImage s) = State.bench s := by
  unfold State.loadImage; dsimp only; (repeat' split) <;> simp_all
@[simp] theorem State.bootImage_bench (s : State) :
    State.bench (State.bootImage s) = State.bench s := by
  simp [State.bootImage]
@[simp] theorem State.readOptics_bench (s : State) :
    State.bench (State.readOptics s) = State.bench s := by
  simp [State.readOptics]
@[simp] theorem State.bootChecks_bench (s : State) (env : BootEnv) (unfed : Bool) (downOt : Nat) :
    State.bench (State.bootChecks s env unfed downOt) = State.bench s := by
  simp [State.bootChecks]
@[simp] theorem State.resetBlocks_bench (s : State) (power : Bool) (h : benchWf (State.bench s)) :
    benchWf (State.bench (State.resetBlocks s power)) := by
  show benchWf (s.bridge.boot power).bench
  unfold BridgeSt.boot; split
  · exact benchWf_nil
  · exact h
@[simp] theorem State.bootBegin_bench (s : State) (cause : Nat) (jump : Nat) (env : BootEnv) (unfed : Bool) (downOt : Nat)
    (h : benchWf (State.bench s)) : benchWf (State.bench (State.bootBegin s cause jump env unfed downOt)) := by
  unfold State.bootBegin; dsimp only; (repeat' split) <;> simp [Ident.boot, h]
@[simp] theorem State.powerTimes_bench (s : State) (kaFed : Bool) (offMs : Nat) :
    State.bench (State.powerTimes s kaFed offMs) = State.bench s := by
  rfl
theorem execPowerUp_bench (env : BootEnv) (kaFed : Bool) (offMs : Nat) (s : State) (h : benchWf (State.bench s)) :
    ∀ t, (execPowerUp env kaFed offMs s) = .next t → benchWf (State.bench t) := by
  rintro _ ⟨⟩; dsimp only; (repeat' split) <;> simp [h]
theorem execBootRestart_bench (kind : RestartKind) (env : BootEnv) (s : State) (h : benchWf (State.bench s)) :
    ∀ t, (execBootRestart kind env s) = .next t → benchWf (State.bench t) := by
  rintro _ ⟨⟩; dsimp only; (repeat' split) <;> simp [h]
@[simp] theorem State.trySync_bench (s : State) :
    State.bench (State.trySync s) = State.bench s := by
  simp [State.trySync]
@[simp] theorem State.bootFailed_bench (s : State) (l : Lane) :
    State.bench (State.bootFailed s l) = State.bench s := by
  simp [State.bootFailed]
theorem execLaneBootSelfTestDone_bench (lane : Lane) (pass : Bool) (s : State) :
    ∀ t, (execLaneBootSelfTestDone lane pass s) = .next t → State.bench t = State.bench s := by
  rintro _ ⟨⟩; simp
theorem execBootSelfTestTimeout_bench (lane : Lane) (s : State) :
    ∀ t, (execBootSelfTestTimeout lane s) = .next t → State.bench t = State.bench s := by
  rintro _ ⟨⟩; simp
theorem execSyncTimeout_bench (s : State) :
    ∀ t, (execSyncTimeout s) = .next t → State.bench t = State.bench s := by
  rintro _ ⟨⟩; simp
theorem execBootTemperatureInRange_bench (s : State) :
    ∀ t, (execBootTemperatureInRange s) = .next t → State.bench t = State.bench s := by
  rintro _ ⟨⟩; simp
theorem execPowerFailWarning_bench (s : State) :
    ∀ t, (execPowerFailWarning s) = .next t → State.bench t = State.bench s := by
  rintro _ ⟨⟩; simp
theorem execPowerReturn_bench (s : State) :
    ∀ t, (execPowerReturn s) = .next t → State.bench t = State.bench s := by
  rintro _ ⟨⟩; simp
theorem execInputLoss_bench (second : Bool) (s : State) :
    ∀ t, (execInputLoss second s) = .next t → State.bench t = State.bench s := by
  rintro _ ⟨⟩; simp
theorem execInputRestored_bench (second : Bool) (s : State) :
    ∀ t, (execInputRestored second s) = .next t → State.bench t = State.bench s := by
  rintro _ ⟨⟩; simp
theorem execAddressPlugPoll_bench (plug : Plug) (s : State) :
    ∀ t, (execAddressPlugPoll plug s) = .next t → State.bench t = State.bench s := by
  rintro _ ⟨⟩; simp
theorem execThermalWarning_bench (s : State) :
    ∀ t, (execThermalWarning s) = .next t → State.bench t = State.bench s := by
  rintro _ ⟨⟩; simp
theorem execThermalWarningCleared_bench (s : State) :
    ∀ t, (execThermalWarningCleared s) = .next t → State.bench t = State.bench s := by
  rintro _ ⟨⟩; simp
theorem execThermalTrip_bench (s : State) :
    ∀ t, (execThermalTrip s) = .next t → State.bench t = State.bench s := by
  rintro _ ⟨⟩; simp
@[simp] theorem State.discardRestart_bench (s : State) (kind : RestartKind) :
    State.bench (State.discardRestart s kind) = State.bench s := by
  simp [State.discardRestart]
@[simp] theorem State.askRestart_bench (s : State) (kind : RestartKind) :
    State.bench (State.askRestart s kind) = State.bench s := by
  simp [State.askRestart]
theorem execResetButtonRelease_bench (ms : Nat) (s : State) :
    ∀ t, (execResetButtonRelease ms s) = .next t → State.bench t = State.bench s := by
  rintro _ ⟨⟩; simp
theorem execResetButtonStuck_bench (s : State) :
    ∀ t, (execResetButtonStuck s) = .next t → State.bench t = State.bench s := by
  rintro _ ⟨⟩; simp
theorem execButtonContactDisagree_bench (s : State) :
    ∀ t, (execButtonContactDisagree s) = .next t → State.bench t = State.bench s := by
  rintro _ ⟨⟩; simp
theorem execButtonReenable_bench (s : State) :
    ∀ t, (execButtonReenable s) = .next t → State.bench t = State.bench s := by
  rintro _ ⟨⟩; simp
@[simp] theorem State.updMail_bench (s : State) (f : MailSt → MailSt) :
    State.bench (State.updMail s f) = State.bench s := by
  rfl
@[simp] theorem State.freeBox_bench (s : State) (mb : Nat) :
    State.bench (State.freeBox s mb) = State.bench s := by
  simp [State.freeBox]
theorem State.claim_bench (s : State) (ep : Nat) (mb : Nat) (key : Nat) :
    ∀ t, (State.claim s ep mb key) = some t → State.bench t = State.bench s := by
  intro t h; unfold State.claim at h; (repeat' split at h) <;> simp_all <;> (subst h; simp)
theorem State.release0_bench (s : State) (ep : Nat) (mb : Nat) :
    ∀ t, (State.release0 s ep mb) = some t → State.bench t = State.bench s := by
  intro t h; unfold State.release0 at h; (repeat' split at h) <;> simp_all <;> (subst h; simp)
theorem State.ring_bench (s : State) (ep : Nat) (mb : Nat) (tag : Nat) :
    ∀ t, (State.ring s ep mb tag) = some t → State.bench t = State.bench s := by
  intro t h; unfold State.ring at h; dsimp only at h; (repeat' split at h) <;> simp at h <;> subst h <;> simp
theorem State.ack_bench (s : State) (ep : Nat) (mb : Nat) :
    ∀ t, (State.ack s ep mb) = some t → State.bench t = State.bench s := by
  intro t h; unfold State.ack at h; dsimp only at h; (repeat' split at h) <;> simp at h <;> subst h <;> simp
theorem State.ctlWrite_bench (s : State) (ep : Nat) (mb : Nat) (off : Nat) (w : Nat) :
    ∀ t, (State.ctlWrite s ep mb off w) = some t → State.bench t = State.bench s := by
  intro t h; unfold State.ctlWrite at h; (repeat' split at h) <;> first
    | exact State.claim_bench _ _ _ _ _ h
    | exact State.release0_bench _ _ _ _ h
    | exact State.ring_bench _ _ _ _ _ h
    | exact State.ack_bench _ _ _ _ h
    | simp at h
@[simp] theorem State.winWrite_bench (s : State) (ep : Nat) (addr : Nat) (data : Bytes) (who : Option Nat) :
    State.bench (State.winWrite s ep addr data who).2 = State.bench s := by
  unfold State.winWrite; dsimp only; (repeat' split) <;> first
    | rfl
    | exact State.ctlWrite_bench _ _ _ _ _ _ ‹_›
    | simp
@[simp] theorem State.refusedWrite_bench (s : State) (st : Nat) (addr : Nat) (ep : Nat) :
    State.bench (State.refusedWrite s st addr ep) = State.bench s := by
  simp [State.refusedWrite]
theorem State.endpoint_bench (s : State) (h : NspHead) :
    ∀ t, (State.endpoint s h) = some t → State.bench t.2 = State.bench s := by
  intro t h; unfold State.endpoint at h; dsimp only at h; (repeat' split at h) <;> simp at h <;> subst h <;> simp
@[simp] theorem State.useXid_bench (s : State) (id : Option Nat) (xid : Nat) :
    State.bench (State.useXid s id xid) = State.bench s := by
  unfold State.useXid; split <;> simp
@[simp] theorem State.reply_bench (s : State) (r : Reply) (keep : Bool) :
    State.bench (State.reply s r keep) = State.bench s := by
  rfl
@[simp] theorem State.nspRead_bench (s : State) (ep : Nat) (h : NspHead) (addr : Nat) :
    State.bench (State.nspRead s ep h addr) = State.bench s := by
  simp [State.nspRead]
@[simp] theorem State.nspWrite_bench (s : State) (ep : Nat) (h : NspHead) (addr : Nat) (data : Bytes) :
    State.bench (State.nspWrite s ep h addr data) = State.bench s := by
  simp [State.nspWrite]
@[simp] theorem State.nspFrame_bench (s : State) (h : NspHead) (addr : Nat) (data : Bytes) :
    State.bench (State.nspFrame s h addr data) = State.bench s := by
  unfold State.nspFrame; split
  · rfl
  · have e := State.endpoint_bench _ _ _ ‹_›
    dsimp only at e ⊢; (repeat' split) <;> simp [e]
@[simp] theorem State.cspiAlert_bench (s : State) :
    State.bench (State.cspiAlert s).2 = State.bench s := by
  unfold State.cspiAlert; dsimp only; (repeat' split) <;> simp_all
@[simp] theorem State.cspiBegin_bench (s : State) :
    State.bench (State.cspiBegin s) = State.bench s := by
  simp [State.cspiBegin]
@[simp] theorem State.cspiWrite_bench (s : State) (addr : Nat) (data : Bytes) :
    State.bench (State.cspiWrite s addr data) = State.bench s := by
  simp [State.cspiWrite]
@[simp] theorem State.cspiRead_bench (s : State) (addr : Nat) (n : Nat) :
    State.bench (State.cspiRead s addr n) = State.bench s := by
  simp [State.cspiRead]
@[simp] theorem State.access_bench (s : State) (acc : Access) (addr : Nat) (data : Bytes) :
    State.bench (State.access s acc addr data) = State.bench s := by
  unfold State.access; (repeat' split) <;> simp
theorem execMailboxAgeTimeout_bench (mb : Nat) (s : State) :
    ∀ t, (execMailboxAgeTimeout mb s) = .next t → State.bench t = State.bench s := by
  rintro _ ⟨⟩; simp
theorem execSessionIdleTimeout_bench (session : Nat) (s : State) :
    ∀ t, (execSessionIdleTimeout session s) = .next t → State.bench t = State.bench s := by
  rintro _ ⟨⟩; simp
theorem execAuthTimeout_bench (s : State) :
    ∀ t, (execAuthTimeout s) = .next t → State.bench t = State.bench s := by
  rintro _ ⟨⟩; simp
@[simp] theorem State.respond_bench (s : State) (mb : Nat) (status : Nat) (body : Bytes) :
    State.bench (State.respond s mb status body) = State.bench s := by
  rfl
theorem query_bench (n : Nat) (r : List (Nat × Nat)) (f : State → Ctx → Ans) (s : State) (x : Ctx) :
    State.bench ((query n r f).run s x).2 = State.bench s := rfl
@[simp] theorem State.answerBad_bench (x0 : Nat) (x1 : State) :
    State.bench (State.answerBad x0 x1) = State.bench x1 := by
  induction x0 generalizing x1 with
  | zero => rfl
  | succ n ih => simp only [State.answerBad]; (repeat' split) <;> simp [ih]
@[simp] theorem State.grantFirst_bench (s : State) (c : FabricClass) :
    State.bench (State.grantFirst s c) = State.bench s := by
  simp [State.grantFirst]
@[simp] theorem State.settle_bench (s : State) :
    State.bench (State.settle s) = State.bench s := by
  simp [State.settle]
@[simp] theorem State.hostWrite_bench (s : State) (acc : Access) (addr : Nat) (data : Bytes) :
    State.bench (State.hostWrite s acc addr data) = State.bench s := by
  simp [State.hostWrite]
theorem execMailboxClaim_bench (acc : Access) (mb : Nat) (ownkey : Nat) (s : State) :
    ∀ t, (execMailboxClaim acc mb ownkey s) = .next t → State.bench t = State.bench s := by
  rintro _ ⟨⟩; split <;> simp
theorem execMailboxRelease_bench (acc : Access) (mb : Nat) (s : State) :
    ∀ t, (execMailboxRelease acc mb s) = .next t → State.bench t = State.bench s := by
  rintro _ ⟨⟩; split <;> simp
theorem execDoorbellRing_bench (acc : Access) (mb : Nat) (tag : Nat) (s : State) :
    ∀ t, (execDoorbellRing acc mb tag s) = .next t → State.bench t = State.bench s := by
  rintro _ ⟨⟩; split <;> simp
theorem execDoorbellAck_bench (acc : Access) (mb : Nat) (s : State) :
    ∀ t, (execDoorbellAck acc mb s) = .next t → State.bench t = State.bench s := by
  rintro _ ⟨⟩; split <;> simp
theorem execRegisterWrite_bench (acc : Access) (addr : Nat) (data : Bytes) (s : State) :
    ∀ t, (execRegisterWrite acc addr data s) = .next t → State.bench t = State.bench s := by
  rintro _ ⟨⟩; simp
@[simp] theorem State.retryBox_bench (s : State) (mb : Nat) :
    State.bench (State.retryBox s mb) = State.bench s := by
  simp [State.retryBox]
theorem execCommandResponseTimeout_bench (mb : Nat) (s : State) :
    ∀ t, (execCommandResponseTimeout mb s) = .next t → State.bench t = State.bench s := by
  rintro _ ⟨⟩; simp
theorem execFabricGrantTimeout_bench (user : FabricUser) (s : State) :
    ∀ t, (execFabricGrantTimeout user s) = .next t → State.bench t = State.bench s := by
  rintro _ ⟨⟩; (repeat' split) <;> simp
theorem State.serveCmd_bench (s : State) (mb code : Nat) (c : Cmd)
    (h : ∀ s x, State.bench (c.run s x).2 = State.bench s) : State.bench (s.serveCmd mb code c) = State.bench s := by
  unfold State.serveCmd; dsimp only; (repeat' split) <;> simp [h]
@[simp] theorem State.firmwareFault_bench (s : State) (f : Fsid) :
    State.bench (State.firmwareFault s f) = State.bench s := by
  unfold State.firmwareFault; dsimp only; (repeat' split) <;> simp_all
theorem execFaultEventCollected_bench (fsid : Fsid) (s : State) :
    ∀ t, (execFaultEventCollected fsid s) = .next t → State.bench t = State.bench s := by
  rintro _ ⟨⟩; simp
theorem State.serveCmd_benchWf (s : State) (mb code : Nat) (c : Cmd) (h : benchWf (State.bench s))
    (hr : ∀ s x, benchWf (State.bench s) → benchWf (State.bench (c.run s x).2)) : benchWf (State.bench (s.serveCmd mb code c)) := by
  unfold State.serveCmd; dsimp only; (repeat' split) <;> simp [h, hr]
@[simp] theorem okAns_bench (b : Bytes) (s : State) :
    State.bench (okAns b s).2 = State.bench s := by
  rfl
@[simp] theorem noAns_bench (st : Nat) (s : State) :
    State.bench (noAns st s).2 = State.bench s := by
  rfl
@[simp] theorem State.accepted_bench (s : State) (c : Ctx) (item : Nat) :
    State.bench (State.accepted s c item).2 = State.bench s := by
  rfl
theorem logged_bench (f : State → Ctx → Ans × State) (h : ∀ s x, State.bench (f s x).2 = State.bench s) (s : State) (c : Ctx) :
    State.bench (logged f s c).2 = State.bench s := by
  unfold logged; split <;> simp [noAns, h]
@[simp] theorem State.dropStep_bench (s : State) (c : Ctx) :
    State.bench (State.dropStep s c) = State.bench s := by
  rfl
@[simp] theorem State.firstStep_bench (s : State) (c : Ctx) (off : Nat) :
    State.bench (State.firstStep s c off).2 = State.bench s := by
  rfl
@[simp] theorem State.secondStep_bench (s : State) (c : Ctx) (off : Nat) (window : Bool) :
    State.bench (State.secondStep s c off window).2 = State.bench s := by
  rfl
@[simp] theorem State.ctxChange_bench (s : State) (c : Ctx) (kind : Nat) (body : Bytes) :
    State.bench (State.ctxChange s c kind body) = State.bench s := by
  simp [State.ctxChange]
@[simp] theorem State.newProv_bench (s : State) (ep : Nat) (cred : Nat) (hostkey : Bytes) :
    State.bench (State.newProv s ep cred hostkey).2 = State.bench s := by
  rfl
@[simp] theorem runOpen_bench (s : State) (c : Ctx) :
    State.bench (runOpen s c).2 = State.bench s := by
  unfold runOpen; dsimp only; (repeat' split) <;> simp_all
theorem execOpenSession_bench (mb : Nat) (s : State) :
    ∀ t, execOpenSession mb s = .next t → State.bench t = State.bench s := by
  rintro _ ⟨⟩; exact State.serveCmd_bench _ _ _ _ (runOpen_bench)
@[simp] theorem runAuth_bench (s : State) (c : Ctx) :
    State.bench (runAuth s c).2 = State.bench s := by
  unfold runAuth; (repeat' split) <;> simp
theorem execAuth_bench (mb : Nat) (s : State) :
    ∀ t, execAuth mb s = .next t → State.bench t = State.bench s := by
  rintro _ ⟨⟩; exact State.serveCmd_bench _ _ _ _ (runAuth_bench)
theorem execClose_bench (mb : Nat) (s : State) :
    ∀ t, execClose mb s = .next t → State.bench t = State.bench s := by
  rintro _ ⟨⟩; exact State.serveCmd_bench _ _ _ _ (fun s x => by dsimp only [cmdClose, opCmd, noAns, okAns]; (repeat' split) <;> simp)
theorem execSessionList_bench (mb : Nat) (s : State) :
    ∀ t, execSessionList mb s = .next t → State.bench t = State.bench s := by
  rintro _ ⟨⟩; exact State.serveCmd_bench _ _ _ _ (query_bench _ _ _)
@[simp] theorem runCredAdd_bench (s : State) (c : Ctx) :
    State.bench (runCredAdd s c).2 = State.bench s := by
  unfold runCredAdd; dsimp only; (repeat' split) <;> simp_all
theorem execCredAdd_bench (mb : Nat) (s : State) :
    ∀ t, execCredAdd mb s = .next t → State.bench t = State.bench s := by
  rintro _ ⟨⟩; exact State.serveCmd_bench _ _ _ _ (logged_bench _ runCredAdd_bench)
@[simp] theorem runCredRevoke_bench (s : State) (c : Ctx) :
    State.bench (runCredRevoke s c).2 = State.bench s := by
  unfold runCredRevoke; dsimp only; (repeat' split) <;> simp_all
theorem execCredRevoke_bench (mb : Nat) (s : State) :
    ∀ t, execCredRevoke mb s = .next t → State.bench t = State.bench s := by
  rintro _ ⟨⟩; exact State.serveCmd_bench _ _ _ _ (logged_bench _ runCredRevoke_bench)
theorem execCredList_bench (mb : Nat) (s : State) :
    ∀ t, execCredList mb s = .next t → State.bench t = State.bench s := by
  rintro _ ⟨⟩; exact State.serveCmd_bench _ _ _ _ (query_bench _ _ _)
theorem execIdentity_bench (mb : Nat) (s : State) :
    ∀ t, execIdentity mb s = .next t → State.bench t = State.bench s := by
  rintro _ ⟨⟩; exact State.serveCmd_bench _ _ _ _ (query_bench _ _ _)
theorem execCycleStatus_bench (mb : Nat) (s : State) :
    ∀ t, execCycleStatus mb s = .next t → State.bench t = State.bench s := by
  rintro _ ⟨⟩; exact State.serveCmd_bench _ _ _ _ (query_bench _ _ _)
theorem execLaneStatus_bench (mb : Nat) (s : State) :
    ∀ t, execLaneStatus mb s = .next t → State.bench t = State.bench s := by
  rintro _ ⟨⟩; exact State.serveCmd_bench _ _ _ _ (query_bench _ _ _)
theorem execInputStatus_bench (mb : Nat) (s : State) :
    ∀ t, execInputStatus mb s = .next t → State.bench t = State.bench s := by
  rintro _ ⟨⟩; exact State.serveCmd_bench _ _ _ _ (query_bench _ _ _)
theorem execOutputStatus_bench (mb : Nat) (s : State) :
    ∀ t, execOutputStatus mb s = .next t → State.bench t = State.bench s := by
  rintro _ ⟨⟩; exact State.serveCmd_bench _ _ _ _ (query_bench _ _ _)
theorem execConnStatus_bench (mb : Nat) (s : State) :
    ∀ t, execConnStatus mb s = .next t → State.bench t = State.bench s := by
  rintro _ ⟨⟩; exact State.serveCmd_bench _ _ _ _ (query_bench _ _ _)
theorem execElementRead_bench (mb : Nat) (s : State) :
    ∀ t, execElementRead mb s = .next t → State.bench t = State.bench s := by
  rintro _ ⟨⟩; exact State.serveCmd_bench _ _ _ _ (query_bench _ _ _)
theorem execRouteRead_bench (mb : Nat) (s : State) :
    ∀ t, execRouteRead mb s = .next t → State.bench t = State.bench s := by
  rintro _ ⟨⟩; exact State.serveCmd_bench _ _ _ _ (query_bench _ _ _)
theorem execTrellisStatus_bench (mb : Nat) (s : State) :
    ∀ t, execTrellisStatus mb s = .next t → State.bench t = State.bench s := by
  rintro _ ⟨⟩; exact State.serveCmd_bench _ _ _ _ (query_bench _ _ _)
theorem execRouteIdent_bench (mb : Nat) (s : State) :
    ∀ t, execRouteIdent mb s = .next t → State.bench t = State.bench s := by
  rintro _ ⟨⟩; exact State.serveCmd_bench _ _ _ _ (query_bench _ _ _)
theorem execImageInfo_bench (mb : Nat) (s : State) :
    ∀ t, execImageInfo mb s = .next t → State.bench t = State.bench s := by
  rintro _ ⟨⟩; exact State.serveCmd_bench _ _ _ _ (query_bench _ _ _)
theorem execPairStatus_bench (mb : Nat) (s : State) :
    ∀ t, execPairStatus mb s = .next t → State.bench t = State.bench s := by
  rintro _ ⟨⟩; exact State.serveCmd_bench _ _ _ _ (query_bench _ _ _)
theorem execFaultStatus_bench (mb : Nat) (s : State) :
    ∀ t, execFaultStatus mb s = .next t → State.bench t = State.bench s := by
  rintro _ ⟨⟩; exact State.serveCmd_bench _ _ _ _ (query_bench _ _ _)
theorem execEscBounds_bench (mb : Nat) (s : State) :
    ∀ t, execEscBounds mb s = .next t → State.bench t = State.bench s := by
  rintro _ ⟨⟩; exact State.serveCmd_bench _ _ _ _ (query_bench _ _ _)
theorem execHedgeList_bench (mb : Nat) (s : State) :
    ∀ t, execHedgeList mb s = .next t → State.bench t = State.bench s := by
  rintro _ ⟨⟩; exact State.serveCmd_bench _ _ _ _ (query_bench _ _ _)
theorem execTimeGet_bench (mb : Nat) (s : State) :
    ∀ t, execTimeGet mb s = .next t → State.bench t = State.bench s := by
  rintro _ ⟨⟩; exact State.serveCmd_bench _ _ _ _ (query_bench _ _ _)
@[simp] theorem State.lcJudge_bench (s : State) (target : LcState) (r : CmdRef) (t : Bytes) (h : benchWf (State.bench s)) :
    benchWf (State.bench (State.lcJudge s target r t)) := by
  unfold State.lcJudge; dsimp only; (repeat' split) <;> simp [h]
@[simp] theorem runLcTransition_bench (s : State) (c : Ctx) (h : benchWf (State.bench s)) :
    benchWf (State.bench (runLcTransition s c).2) := by
  unfold runLcTransition; dsimp only; (repeat' split) <;> simp [h]
theorem execLcTransition_bench (mb : Nat) (s : State) (h : benchWf (State.bench s)) :
    ∀ t, execLcTransition mb s = .next t → benchWf (State.bench t) := by
  rintro _ ⟨⟩
  refine State.serveCmd_benchWf _ _ _ _ h fun s x h => ?_
  show benchWf (State.bench (logged runLcTransition s x).2)
  unfold logged; split
  · exact h
  · exact runLcTransition_bench _ _ h
@[simp] theorem runMode_bench (s : State) (c : Ctx) :
    State.bench (runMode s c).2 = State.bench s := by
  unfold runMode; dsimp only; (repeat' split) <;> simp_all
theorem execMode_bench (mb : Nat) (s : State) :
    ∀ t, execMode mb s = .next t → State.bench t = State.bench s := by
  rintro _ ⟨⟩; exact State.serveCmd_bench _ _ _ _ (logged_bench _ runMode_bench)
@[simp] theorem runRestart_bench (s : State) (c : Ctx) :
    State.bench (runRestart s c).2 = State.bench s := by
  unfold runRestart; dsimp only; (repeat' split) <;> simp_all
theorem execRestart_bench (mb : Nat) (s : State) :
    ∀ t, execRestart mb s = .next t → State.bench t = State.bench s := by
  rintro _ ⟨⟩; exact State.serveCmd_bench _ _ _ _ (logged_bench _ runRestart_bench)
@[simp] theorem runMaint_bench (s : State) (c : Ctx) :
    State.bench (runMaint s c).2 = State.bench s := by
  unfold runMaint; dsimp only; (repeat' split) <;> simp_all
theorem execMaint_bench (mb : Nat) (s : State) :
    ∀ t, execMaint mb s = .next t → State.bench t = State.bench s := by
  rintro _ ⟨⟩; exact State.serveCmd_bench _ _ _ _ (logged_bench _ runMaint_bench)
@[simp] theorem State.updStage_bench (s : State) (f : StageSt → StageSt) :
    State.bench (State.updStage s f) = State.bench s := by
  rfl
theorem owned_bench (f : State → Ctx → Ans × State) (h : ∀ s x, State.bench (f s x).2 = State.bench s) (s : State) (c : Ctx) :
    State.bench (owned f s c).2 = State.bench s := by
  unfold owned; split <;> simp [noAns, h]
@[simp] theorem runStageOpen_bench (s : State) (c : Ctx) :
    State.bench (runStageOpen s c).2 = State.bench s := by
  unfold runStageOpen; (repeat' split) <;> simp
theorem execStageOpen_bench (mb : Nat) (s : State) :
    ∀ t, execStageOpen mb s = .next t → State.bench t = State.bench s := by
  rintro _ ⟨⟩; exact State.serveCmd_bench _ _ _ _ (logged_bench _ runStageOpen_bench)
theorem State.stageAll_bench (s : State) (x1 : List Bytes) (x2 : Nat) :
    ∀ t, (State.stageAll s x1 x2) = .ok t → State.bench t = State.bench s := by
  induction x1 generalizing s x2 with
  | nil => intro t h; simp [State.stageAll] at h; rw [h]
  | cons r rs ih =>
    intro t h; simp only [State.stageAll] at h; split at h
    · rw [ih _ _ _ h]; simp
    · simp at h
@[simp] theorem State.afterWrite_bench (s : State) :
    State.bench (State.afterWrite s) = State.bench s := by
  simp [State.afterWrite]
@[simp] theorem State.writeEntries_bench (s : State) (role : Nat) (rs : List Bytes) :
    State.bench (State.writeEntries s role rs).2 = State.bench s := by
  unfold State.writeEntries; split; · rfl
  split; · rfl
  split
  · rfl
  · simp [okAns, State.stageAll_bench _ _ _ _ ‹_›]
@[simp] theorem runStageWrite_bench (s : State) (c : Ctx) :
    State.bench (runStageWrite s c).2 = State.bench s := by
  unfold runStageWrite; dsimp only; (repeat' split) <;> simp_all
theorem execStageWrite_bench (mb : Nat) (s : State) :
    ∀ t, execStageWrite mb s = .next t → State.bench t = State.bench s := by
  rintro _ ⟨⟩; exact State.serveCmd_bench _ _ _ _ (owned_bench _ runStageWrite_bench)
@[simp] theorem runStageRead_bench (s : State) (c : Ctx) :
    State.bench (runStageRead s c).2 = State.bench s := by
  unfold runStageRead; dsimp only; (repeat' split) <;> simp_all
theorem execStageRead_bench (mb : Nat) (s : State) :
    ∀ t, execStageRead mb s = .next t → State.bench t = State.bench s := by
  rintro _ ⟨⟩; exact State.serveCmd_bench _ _ _ _ (owned_bench _ runStageRead_bench)
@[simp] theorem State.discardFrame_bench (s : State) :
    State.bench (State.discardFrame s) = State.bench s := by
  simp [State.discardFrame]
@[simp] theorem runStageDiscard_bench (s : State) (c : Ctx) :
    State.bench (runStageDiscard s c).2 = State.bench s := by
  unfold runStageDiscard; split <;> simp
theorem execStageDiscard_bench (mb : Nat) (s : State) :
    ∀ t, execStageDiscard mb s = .next t → State.bench t = State.bench s := by
  rintro _ ⟨⟩; exact State.serveCmd_bench _ _ _ _ (logged_bench _ (owned_bench _ runStageDiscard_bench))
@[simp] theorem runStageCheck_bench (s : State) (c : Ctx) :
    State.bench (runStageCheck s c).2 = State.bench s := by
  unfold runStageCheck; split <;> simp
theorem execStageCheck_bench (mb : Nat) (s : State) :
    ∀ t, execStageCheck mb s = .next t → State.bench t = State.bench s := by
  rintro _ ⟨⟩; exact State.serveCmd_bench _ _ _ _ (logged_bench _ (owned_bench _ runStageCheck_bench))
@[simp] theorem State.acceptApply_bench (s : State) (r : CmdRef) :
    State.bench (State.acceptApply s r) = State.bench s := by
  simp [State.acceptApply]
@[simp] theorem State.applyRec_bench (s : State) (c : Ctx) (st : Nat) :
    State.bench (State.applyRec s c st) = State.bench s := by
  simp [State.applyRec]
@[simp] theorem takeApply_bench (s : State) (c : Ctx) :
    State.bench (takeApply s c).2 = State.bench s := by
  unfold takeApply; dsimp only; (repeat' split) <;> simp_all
@[simp] theorem runStageApply_bench (s : State) (c : Ctx) :
    State.bench (runStageApply s c).2 = State.bench s := by
  unfold runStageApply; split
  · exact logged_bench _ (owned_bench _ takeApply_bench) _ _
  · simp [noAns]
theorem execStageApply_bench (mb : Nat) (s : State) :
    ∀ t, execStageApply mb s = .next t → State.bench t = State.bench s := by
  rintro _ ⟨⟩; exact State.serveCmd_bench _ _ _ _ (runStageApply_bench)
theorem execStageStatus_bench (mb : Nat) (s : State) :
    ∀ t, execStageStatus mb s = .next t → State.bench t = State.bench s := by
  rintro _ ⟨⟩; exact State.serveCmd_bench _ _ _ _ (query_bench _ _ _)
@[simp] theorem State.writeKey_bench (s : State) (e : StgEntry) :
    State.bench (State.writeKey s e).2 = State.bench s := by
  unfold State.writeKey; (repeat' split) <;> simp
@[simp] theorem runConnKey_bench (s : State) (c : Ctx) :
    State.bench (runConnKey s c).2 = State.bench s := by
  unfold runConnKey; split <;> simp
theorem execConnKey_bench (mb : Nat) (s : State) :
    ∀ t, execConnKey mb s = .next t → State.bench t = State.bench s := by
  rintro _ ⟨⟩; exact State.serveCmd_bench _ _ _ _ (owned_bench _ runConnKey_bench)
@[simp] theorem State.useToken_bench (s : State) (c : Ctx) (imgid : Nat) :
    State.bench (State.useToken s c imgid) = State.bench s := by
  unfold State.useToken; split <;> simp
@[simp] theorem State.acceptAct_bench (s : State) (c : Ctx) (kind : Nat) (old : Nat) (new : Nat) :
    State.bench (State.acceptAct s c kind old new) = State.bench s := by
  simp [State.acceptAct]
@[simp] theorem State.endOther_bench (s : State) (kind : Nat) :
    State.bench (State.endOther s kind) = State.bench s := by
  simp [State.endOther]
@[simp] theorem State.activateApp_bench (s : State) (c : Ctx) (ref : Option CmdRef) :
    State.bench (State.activateApp s c ref) = State.bench s := by
  simp [State.activateApp]
@[simp] theorem runActivate_bench (s : State) (c : Ctx) :
    State.bench (runActivate s c).2 = State.bench s := by
  unfold runActivate; dsimp only; (repeat' split) <;> simp_all
theorem execActivate_bench (mb : Nat) (s : State) :
    ∀ t, execActivate mb s = .next t → State.bench t = State.bench s := by
  rintro _ ⟨⟩; exact State.serveCmd_bench _ _ _ _ (logged_bench _ runActivate_bench)
@[simp] theorem runUpdOpen_bench (s : State) (c : Ctx) :
    State.bench (runUpdOpen s c).2 = State.bench s := by
  unfold runUpdOpen; dsimp only; (repeat' split) <;> simp_all
theorem execUpdOpen_bench (mb : Nat) (s : State) :
    ∀ t, execUpdOpen mb s = .next t → State.bench t = State.bench s := by
  rintro _ ⟨⟩; exact State.serveCmd_bench _ _ _ _ (logged_bench _ runUpdOpen_bench)
theorem withUpd_bench (f : UpdSess → State → Ctx → Ans × State) (h : ∀ u s x, State.bench (f u s x).2 = State.bench s)
    (s : State) (c : Ctx) : State.bench (withUpd f s c).2 = State.bench s := by
  unfold withUpd; dsimp only; (repeat' split) <;> simp [noAns, h]
@[simp] theorem State.putSess_bench (s : State) (u : UpdSess) :
    State.bench (State.putSess s u) = State.bench s := by
  rfl
@[simp] theorem takePart_bench (u : UpdSess) (s : State) (c : Ctx) :
    State.bench (takePart u s c).2 = State.bench s := by
  unfold takePart; dsimp only; (repeat' split) <;> simp_all
theorem execUpdData_bench (mb : Nat) (s : State) :
    ∀ t, execUpdData mb s = .next t → State.bench t = State.bench s := by
  rintro _ ⟨⟩; exact State.serveCmd_bench _ _ _ _ (withUpd_bench _ takePart_bench)
@[simp] theorem askVerify_bench (u : UpdSess) (s : State) (c : Ctx) :
    State.bench (askVerify u s c).2 = State.bench s := by
  unfold askVerify; dsimp only; (repeat' split) <;> simp_all
theorem execUpdVerify_bench (mb : Nat) (s : State) :
    ∀ t, execUpdVerify mb s = .next t → State.bench t = State.bench s := by
  rintro _ ⟨⟩; exact State.serveCmd_bench _ _ _ _ (logged_bench _ (withUpd_bench _ askVerify_bench))
@[simp] theorem State.kernelDown_bench (s : State) (c : Ctx) (b : Bool) (e : Envelope) :
    State.bench (State.kernelDown s c b e) = State.bench s := by
  simp [State.kernelDown]
@[simp] theorem State.kernelTurns_bench (s : State) (c : Ctx) (b : Bool) (e : Envelope) :
    State.bench (State.kernelTurns s c b e) = State.bench s := by
  simp [State.kernelTurns]
@[simp] theorem runKernel_bench (s : State) (c : Ctx) :
    State.bench (runKernel s c).2 = State.bench s := by
  unfold runKernel; dsimp only; (repeat' split) <;> simp_all
@[simp] theorem runFirmware_bench (s : State) (c : Ctx) :
    State.bench (runFirmware s c).2 = State.bench s := by
  unfold runFirmware; split <;> simp
@[simp] theorem runAppImage_bench (s : State) (c : Ctx) :
    State.bench (runAppImage s c).2 = State.bench s := by
  unfold runAppImage; dsimp only; (repeat' split) <;> simp_all
@[simp] theorem askActivate_bench (u : UpdSess) (s : State) (c : Ctx) :
    State.bench (askActivate u s c).2 = State.bench s := by
  unfold askActivate; (repeat' split) <;> simp
theorem execUpdActivate_bench (mb : Nat) (s : State) :
    ∀ t, execUpdActivate mb s = .next t → State.bench t = State.bench s := by
  rintro _ ⟨⟩; exact State.serveCmd_bench _ _ _ _ (logged_bench _ (withUpd_bench _ askActivate_bench))
theorem execUpdAbort_bench (mb : Nat) (s : State) :
    ∀ t, execUpdAbort mb s = .next t → State.bench t = State.bench s := by
  rintro _ ⟨⟩; exact State.serveCmd_bench _ _ _ _ (logged_bench _ (withUpd_bench _ fun u s x => by simp [okAns]))
theorem execUpdStatus_bench (mb : Nat) (s : State) :
    ∀ t, execUpdStatus mb s = .next t → State.bench t = State.bench s := by
  rintro _ ⟨⟩; exact State.serveCmd_bench _ _ _ _ (query_bench _ _ _)
@[simp] theorem runRecOpen_bench (s : State) (c : Ctx) :
    State.bench (runRecOpen s c).2 = State.bench s := by
  unfold runRecOpen; split <;> simp
theorem execRecOpen_bench (mb : Nat) (s : State) :
    ∀ t, execRecOpen mb s = .next t → State.bench t = State.bench s := by
  rintro _ ⟨⟩; exact State.serveCmd_bench _ _ _ _ (runRecOpen_bench)
@[simp] theorem State.nextBatch_bench (s : State) (k : Cursor) (maxBytes : Nat) :
    State.bench (State.nextBatch s k maxBytes).2 = State.bench s := by
  rfl
@[simp] theorem runRecNext_bench (s : State) (c : Ctx) :
    State.bench (runRecNext s c).2 = State.bench s := by
  unfold runRecNext; dsimp only; (repeat' split) <;> simp_all
theorem execRecNext_bench (mb : Nat) (s : State) :
    ∀ t, execRecNext mb s = .next t → State.bench t = State.bench s := by
  rintro _ ⟨⟩; exact State.serveCmd_bench _ _ _ _ (runRecNext_bench)
theorem execRecClose_bench (mb : Nat) (s : State) :
    ∀ t, execRecClose mb s = .next t → State.bench t = State.bench s := by
  rintro _ ⟨⟩; exact State.serveCmd_bench _ _ _ _ (fun s x => by dsimp only [cmdRecClose, opCmd, noAns, okAns]; (repeat' split) <;> simp)
theorem execRecCounters_bench (mb : Nat) (s : State) :
    ∀ t, execRecCounters mb s = .next t → State.bench t = State.bench s := by
  rintro _ ⟨⟩; exact State.serveCmd_bench _ _ _ _ (query_bench _ _ _)
@[simp] theorem State.startTest_bench (s : State) (t : TestSt) :
    State.bench (State.startTest s t) = State.bench s := rfl
@[simp] theorem runTestRun_bench (s : State) (c : Ctx) :
    State.bench (runTestRun s c).2 = State.bench s := by
  unfold runTestRun; dsimp only; (repeat' split) <;> simp_all
theorem execTestRun_bench (mb : Nat) (s : State) :
    ∀ t, execTestRun mb s = .next t → State.bench t = State.bench s := by
  rintro _ ⟨⟩; exact State.serveCmd_bench _ _ _ _ (logged_bench _ runTestRun_bench)
theorem execTestList_bench (mb : Nat) (s : State) :
    ∀ t, execTestList mb s = .next t → State.bench t = State.bench s := by
  rintro _ ⟨⟩; exact State.serveCmd_bench _ _ _ _ (query_bench _ _ _)
@[simp] theorem runTestAbort_bench (s : State) (c : Ctx) :
    State.bench (runTestAbort s c).2 = State.bench s := by
  unfold runTestAbort; split <;> simp
theorem execTestAbort_bench (mb : Nat) (s : State) :
    ∀ t, execTestAbort mb s = .next t → State.bench t = State.bench s := by
  rintro _ ⟨⟩; exact State.serveCmd_bench _ _ _ _ (logged_bench _ runTestAbort_bench)
@[simp] theorem State.beginRelease_bench (s : State) (kind : Nat) (index : Nat) (r : CmdRef) :
    State.bench (State.beginRelease s kind index r) = State.bench s := by
  unfold State.beginRelease; (repeat' split) <;> simp
@[simp] theorem runHedgeRelease_bench (s : State) (c : Ctx) :
    State.bench (runHedgeRelease s c).2 = State.bench s := by
  unfold runHedgeRelease; dsimp only; (repeat' split) <;> simp_all
theorem execHedgeRelease_bench (mb : Nat) (s : State) :
    ∀ t, execHedgeRelease mb s = .next t → State.bench t = State.bench s := by
  rintro _ ⟨⟩; exact State.serveCmd_bench _ _ _ _ (logged_bench _ runHedgeRelease_bench)
@[simp] theorem State.queueOp_bench (s : State) (c : Ctx) (item : Nat) (k : OpKind) :
    State.bench (State.queueOp s c item k).2 = State.bench s := by
  simp [State.queueOp]
theorem execRouteSet_bench (mb : Nat) (s : State) :
    ∀ t, execRouteSet mb s = .next t → State.bench t = State.bench s := by
  rintro _ ⟨⟩; exact State.serveCmd_bench _ _ _ _ (fun s x => by dsimp only [cmdRouteSet, opCmd, noAns, okAns]; (repeat' split) <;> simp)
theorem execRouteCancel_bench (mb : Nat) (s : State) :
    ∀ t, execRouteCancel mb s = .next t → State.bench t = State.bench s := by
  rintro _ ⟨⟩; exact State.serveCmd_bench _ _ _ _ (fun s x => by dsimp only [cmdRouteCancel, opCmd, noAns, okAns]; (repeat' split) <;> simp)
theorem execAutoSet_bench (mb : Nat) (s : State) :
    ∀ t, execAutoSet mb s = .next t → State.bench t = State.bench s := by
  rintro _ ⟨⟩; exact State.serveCmd_bench _ _ _ _ (fun s x => by dsimp only [cmdAutoSet, opCmd, noAns, okAns]; (repeat' split) <;> simp)
theorem execTrigArm_bench (mb : Nat) (s : State) :
    ∀ t, execTrigArm mb s = .next t → State.bench t = State.bench s := by
  rintro _ ⟨⟩; exact State.serveCmd_bench _ _ _ _ (fun s x => by dsimp only [cmdTrigArm, opCmd, noAns, okAns]; (repeat' split) <;> simp)
theorem execKeyRelease_bench (mb : Nat) (s : State) :
    ∀ t, execKeyRelease mb s = .next t → State.bench t = State.bench s := by
  rintro _ ⟨⟩; exact State.serveCmd_bench _ _ _ _ (fun s x => by dsimp only [cmdKeyRelease, opCmd, noAns, okAns]; (repeat' split) <;> simp)
@[simp] theorem State.secondOp_bench (s : State) (c : Ctx) (window : Bool) (k : OpKind) :
    State.bench (State.secondOp s c window k).2 = State.bench s := by
  unfold State.secondOp; dsimp only; (repeat' split) <;> simp_all
@[simp] theorem runEmergRelease_bench (s : State) (c : Ctx) :
    State.bench (runEmergRelease s c).2 = State.bench s := by
  unfold runEmergRelease; dsimp only; (repeat' split) <;> simp_all
theorem execEmergRelease_bench (mb : Nat) (s : State) :
    ∀ t, execEmergRelease mb s = .next t → State.bench t = State.bench s := by
  rintro _ ⟨⟩; exact State.serveCmd_bench _ _ _ _ (runEmergRelease_bench)
@[simp] theorem runAxleReset_bench (s : State) (c : Ctx) :
    State.bench (runAxleReset s c).2 = State.bench s := by
  unfold runAxleReset; (repeat' split) <;> simp
theorem execAxleReset_bench (mb : Nat) (s : State) :
    ∀ t, execAxleReset mb s = .next t → State.bench t = State.bench s := by
  rintro _ ⟨⟩; exact State.serveCmd_bench _ _ _ _ (runAxleReset_bench)
@[simp] theorem runTimeSet_bench (s : State) (c : Ctx) :
    State.bench (runTimeSet s c).2 = State.bench s := by
  unfold runTimeSet; dsimp only; (repeat' split) <;> simp_all
theorem execTimeSet_bench (mb : Nat) (s : State) :
    ∀ t, execTimeSet mb s = .next t → State.bench t = State.bench s := by
  rintro _ ⟨⟩; exact State.serveCmd_bench _ _ _ _ (logged_bench _ runTimeSet_bench)
@[simp] theorem runTimeSource_bench (s : State) (c : Ctx) :
    State.bench (runTimeSource s c).2 = State.bench s := by
  unfold runTimeSource; dsimp only; split; · rfl
  split; · rfl
  rw [okAns, State.updTime_bench _ _]; simp
theorem execTimeSource_bench (mb : Nat) (s : State) :
    ∀ t, execTimeSource mb s = .next t → State.bench t = State.bench s := by
  rintro _ ⟨⟩; exact State.serveCmd_bench _ _ _ _ (logged_bench _ runTimeSource_bench)
@[simp] theorem runHandover_bench (s : State) (c : Ctx) :
    State.bench (runHandover s c).2 = State.bench s := by
  unfold runHandover; split <;> simp
theorem execHandover_bench (mb : Nat) (s : State) :
    ∀ t, execHandover mb s = .next t → State.bench t = State.bench s := by
  rintro _ ⟨⟩; exact State.serveCmd_bench _ _ _ _ (logged_bench _ runHandover_bench)
@[simp] theorem runColdAssume_bench (s : State) (c : Ctx) :
    State.bench (runColdAssume s c).2 = State.bench s := by
  unfold runColdAssume; dsimp only; (repeat' split) <;> simp_all
theorem execColdAssume_bench (mb : Nat) (s : State) :
    ∀ t, execColdAssume mb s = .next t → State.bench t = State.bench s := by
  rintro _ ⟨⟩; exact State.serveCmd_bench _ _ _ _ (logged_bench _ runColdAssume_bench)
theorem execSbStatus_bench (mb : Nat) (s : State) :
    ∀ t, execSbStatus mb s = .next t → State.bench t = State.bench s := by
  rintro _ ⟨⟩; exact State.serveCmd_bench _ _ _ _ (query_bench _ _ _)
theorem execSbErrlog_bench (mb : Nat) (s : State) :
    ∀ t, execSbErrlog mb s = .next t → State.bench t = State.bench s := by
  rintro _ ⟨⟩; exact State.serveCmd_bench _ _ _ _ (query_bench _ _ _)
theorem execSbErrclr_bench (mb : Nat) (s : State) :
    ∀ t, execSbErrclr mb s = .next t → State.bench t = State.bench s := by
  rintro _ ⟨⟩; exact State.serveCmd_bench _ _ _ _ (fun s x => by dsimp only [cmdSbErrclr, opCmd, noAns, okAns]; (repeat' split) <;> simp)
@[simp] theorem BridgeSt.setWindow_bench (n : Nat) (w : Window) (b : BridgeSt) :
    (BridgeSt.setWindow n w b).bench = b.bench := rfl
@[simp] theorem State.closeWindow_bench (s : State) (n : Nat) : State.bench (s.closeWindow n) = s.bench := by
  simp [State.closeWindow]
@[simp] theorem runWindowSet_bench (s : State) (c : Ctx) :
    State.bench (runWindowSet s c).2 = State.bench s := by
  unfold runWindowSet; dsimp only; (repeat' split) <;> simp_all
theorem execWindowSet_bench (mb : Nat) (s : State) :
    ∀ t, execWindowSet mb s = .next t → State.bench t = State.bench s := by
  rintro _ ⟨⟩; exact State.serveCmd_bench _ _ _ _ (logged_bench _ runWindowSet_bench)
@[simp] theorem runTunnelSet_bench (s : State) (c : Ctx) :
    State.bench (runTunnelSet s c).2 = State.bench s := by
  unfold runTunnelSet; dsimp only; (repeat' split) <;> simp_all
theorem execTunnelSet_bench (mb : Nat) (s : State) :
    ∀ t, execTunnelSet mb s = .next t → State.bench t = State.bench s := by
  rintro _ ⟨⟩; exact State.serveCmd_bench _ _ _ _ (logged_bench _ runTunnelSet_bench)
theorem execTunnelStatus_bench (mb : Nat) (s : State) :
    ∀ t, execTunnelStatus mb s = .next t → State.bench t = State.bench s := by
  rintro _ ⟨⟩; exact State.serveCmd_bench _ _ _ _ (query_bench _ _ _)
@[simp] theorem State.queueForce_bench (s : State) (c : Ctx) (f : ForceCmd) :
    State.bench (State.queueForce s c f).2 = State.bench s := by
  simp [State.queueForce]
@[simp] theorem runForceSet_bench (s : State) (c : Ctx) :
    State.bench (runForceSet s c).2 = State.bench s := by
  unfold runForceSet; dsimp only; (repeat' split) <;> simp_all
theorem execForceSet_bench (mb : Nat) (s : State) :
    ∀ t, execForceSet mb s = .next t → State.bench t = State.bench s := by
  rintro _ ⟨⟩; exact State.serveCmd_bench _ _ _ _ (runForceSet_bench)
@[simp] theorem runForceClear_bench (s : State) (c : Ctx) :
    State.bench (runForceClear s c).2 = State.bench s := by
  unfold runForceClear; dsimp only; (repeat' split) <;> simp_all
theorem execForceClear_bench (mb : Nat) (s : State) :
    ∀ t, execForceClear mb s = .next t → State.bench t = State.bench s := by
  rintro _ ⟨⟩; exact State.serveCmd_bench _ _ _ _ (logged_bench _ runForceClear_bench)
theorem execForceList_bench (mb : Nat) (s : State) :
    ∀ t, execForceList mb s = .next t → State.bench t = State.bench s := by
  rintro _ ⟨⟩; exact State.serveCmd_bench _ _ _ _ (query_bench _ _ _)
theorem execSwitchForwarding_bench (net : Net) (port2 : Bool) (f : Frame) (s : State) :
    ∀ t, (execSwitchForwarding net port2 f s) = .next t → State.bench t = State.bench s := by
  rintro _ ⟨⟩; simp
theorem execLearnedAddressAgeing_bench (net : Net) (mac : Nat) (s : State) :
    ∀ t, (execLearnedAddressAgeing net mac s) = .next t → State.bench t = State.bench s := by
  rintro _ ⟨⟩; simp
theorem execEthernetLinkChange_bench (net : Net) (port2 : Bool) (up : Bool) (s : State) :
    ∀ t, (execEthernetLinkChange net port2 up s) = .next t → State.bench t = State.bench s := by
  rintro _ ⟨⟩; simp
@[simp] theorem State.ringSend_bench (s : State) (n : Net) (kind : Nat) :
    State.bench (State.ringSend s n kind) = State.bench s := by
  rfl
theorem execRingtestSend_bench (net : Net) (s : State) :
    ∀ t, (execRingtestSend net s) = .next t → State.bench t = State.bench s := by
  rintro _ ⟨⟩; simp
theorem execRingtestReceived_bench (net : Net) (port2 : Bool) (f : Frame) (s : State) :
    ∀ t, (execRingtestReceived net port2 f s) = .next t → State.bench t = State.bench s := by
  rintro _ ⟨⟩; simp
theorem execRingBreak_bench (net : Net) (s : State) :
    ∀ t, (execRingBreak net s) = .next t → State.bench t = State.bench s := by
  rintro _ ⟨⟩; simp
theorem execRingClose_bench (net : Net) (s : State) :
    ∀ t, (execRingClose net s) = .next t → State.bench t = State.bench s := by
  rintro _ ⟨⟩; simp
@[simp] theorem State.clearOut_bench (s : State) :
    State.bench (State.clearOut s) = State.bench s := by
  rfl
@[simp] theorem State.tickCells_bench (s : State) :
    State.bench (State.tickCells s) = State.bench s := by
  simp [State.tickCells]
@[simp] theorem State.tickCycle_bench (s : State) :
    State.bench (State.tickCycle s) = State.bench s := by
  rfl
@[simp] theorem State.tickRecs_bench (s : State) :
    State.bench (State.tickRecs s) = State.bench s := by
  simp [State.tickRecs]
@[simp] theorem State.restartFw_bench (s : State) :
    State.bench (State.restartFw s) = State.bench s := by
  simp [State.restartFw]
@[simp] theorem tick_bench (s : State) :
    State.bench (tick s) = State.bench s := by
  simp [tick]
@[simp] theorem State.withFetchWord_bench (s : State) (nbits : Nat) (w : Nat) :
    State.bench (State.withFetchWord s nbits w) = State.bench s := by
  rfl
end Sys2Proof.Machine
end

