-- ==== Sys2Proof/Laws/Fixed.lean ====
section
/-! SUPPORT. What no command but POWER_UP changes: one lemma for each function of the state, and for each command. The queue,
the operating time, part number, serial number, hardware revision and MAC addresses stay. -/

set_option linter.unusedSimpArgs false

namespace Sys2Proof.Machine
@[simp] theorem State.fixed_mk (pending id lanes cyc app trl image set cells banks frame conns nets pair flt mail stage bridge tunnels ports recs time be upd pow netTx legacyTx plTx splits free) :
    State.fixed (State.mk pending id lanes cyc app trl image set cells banks frame conns nets pair flt mail stage bridge tunnels ports recs time be upd pow netTx legacyTx plTx splits free) = (pending, time.ot, id.partno, id.serial, id.hwrev, id.macs) := rfl
@[simp] theorem State.fixed_eta (s : State) : (s.pending, s.time.ot, s.id.partno, s.id.serial, s.id.hwrev, s.id.macs) = s.fixed := rfl
@[simp] theorem State.fixed_ite (c : Prop) [Decidable c] (s t : State) : State.fixed (if c then s else t) = if c then s.fixed else t.fixed := by split <;> rfl
@[simp] theorem State.each_fixed {α : Type} (s : State) (xs : List α) (f : State → α → State) (h : ∀ s x, State.fixed (f s x) = s.fixed) : State.fixed (s.each xs f) = s.fixed := by
  unfold State.each
  induction xs generalizing s with
  | nil => rfl
  | cons x xs ih => simp only [List.foldl_cons, ih, h]
@[simp] theorem State.when_fixed (s : State) (p : Bool) (f : State → State) (h : ∀ s, State.fixed (f s) = s.fixed) : State.fixed (s.when p f) = s.fixed := by
  unfold State.when; split <;> simp [h]
@[simp] theorem State.fed_fixed (s : State) (f : State → State) (h : ∀ s, State.fixed (f s) = s.fixed) : State.fixed (s.fed f) = s.fixed := by
  unfold State.fed; split <;> simp [h]
@[simp] theorem State.updLane_fixed (s : State) (l : Lane) (f : LaneSt → LaneSt) :
    State.fixed (State.updLane s l f) = State.fixed s := by
  rfl
@[simp] theorem State.updLanes_fixed (s : State) (f : LaneSt → LaneSt) :
    State.fixed (State.updLanes s f) = State.fixed s := by
  rfl
@[simp] theorem State.updCell_fixed (s : State) (c : Nat) (f : CellSt → CellSt) :
    State.fixed (State.updCell s c f) = State.fixed s := by
  rfl
@[simp] theorem State.updBank_fixed (s : State) (b : Nat) (f : BankSt → BankSt) :
    State.fixed (State.updBank s b f) = State.fixed s := by
  rfl
@[simp] theorem State.updNet_fixed (s : State) (n : Net) (f : NetSt → NetSt) :
    State.fixed (State.updNet s n f) = State.fixed s := by
  rfl
@[simp] theorem State.updConn_fixed (s : State) (n : Nat) (f : ConnSt → ConnSt) :
    State.fixed (State.updConn s n f) = State.fixed s := by
  rfl
@[simp] theorem State.updRecv_fixed (s : State) (n : Nat) (f : RecvRec → RecvRec) :
    State.fixed (State.updRecv s n f) = State.fixed s := by
  rfl
@[simp] theorem State.updElem_fixed (s : State) (n : Nat) (f : Elem → Elem) :
    State.fixed (State.updElem s n f) = State.fixed s := by
  rfl
@[simp] theorem State.updRoute_fixed (s : State) (r : Nat) (f : RouteCell → RouteCell) :
    State.fixed (State.updRoute s r f) = State.fixed s := by
  rfl
@[simp] theorem State.updBox_fixed (s : State) (mb : Nat) (f : Mbox → Mbox) :
    State.fixed (State.updBox s mb f) = State.fixed s := by
  rfl
@[simp] theorem State.updTunnel_fixed (s : State) (t : Nat) (f : Tunnel → Tunnel) :
    State.fixed (State.updTunnel s t f) = State.fixed s := by
  rfl
@[simp] theorem State.updPort_fixed (s : State) (p : Nat) (f : LegacyPort → LegacyPort) :
    State.fixed (State.updPort s p f) = State.fixed s := by
  rfl
@[simp] theorem State.putEff_fixed (s : State) (c : Nat) (e : Bool) :
    State.fixed (State.putEff s c e) = State.fixed s := by
  simp [State.putEff]
@[simp] theorem State.dropEffs_fixed (s : State) (cs : List Nat) :
    State.fixed (State.dropEffs s cs) = State.fixed s := by
  unfold State.dropEffs
  induction cs generalizing s with
  | nil => rfl
  | cons c cs ih => simp only [List.foldl_cons, ih, State.putEff_fixed]
@[simp] theorem State.passToken_fixed (s : State) :
    State.fixed (State.passToken s) = State.fixed s := by
  rfl
@[simp] theorem State.settleToken_fixed (s : State) :
    State.fixed (State.settleToken s) = State.fixed s := by
  simp [State.settleToken]
@[simp] theorem State.spendToken_fixed (s : State) (t : Token) :
    State.fixed (State.spendToken s t) = State.fixed s := by
  simp [State.spendToken]
@[simp] theorem State.addHedge_fixed (s : State) (h : Hedge) :
    State.fixed (State.addHedge s h) = State.fixed s := by
  simp [State.addHedge]
@[simp] theorem State.dropHedges_fixed (s : State) (p : Hedge → Bool) :
    State.fixed (State.dropHedges s p) = State.fixed s := by
  rfl
@[simp] theorem State.updHedges_fixed (s : State) (p : Hedge → Bool) (f : Hedge → Hedge) :
    State.fixed (State.updHedges s p f) = State.fixed s := by
  rfl
@[simp] theorem State.plSend_fixed (s : State) (m : PlMsg) :
    State.fixed (State.plSend s m) = State.fixed s := by
  simp [State.plSend]
@[simp] theorem State.fresh_fixed (s : State) :
    State.fixed (State.fresh s).2 = State.fixed s := by
  rfl
@[simp] theorem State.freshBytes_fixed (x0 : Nat) (x1 : State) :
    State.fixed (State.freshBytes x0 x1).2 = State.fixed x1 := by
  induction x0 generalizing x1 with
  | zero => rfl
  | succ n ih => simp [State.freshBytes, ih]
@[simp] theorem State.freshNat_fixed (s : State) (n : Nat) :
    State.fixed (State.freshNat s n).2 = State.fixed s := by
  rfl
@[simp] theorem State.freshCode_fixed (s : State) :
    State.fixed (State.freshCode s).2 = State.fixed s := by
  rfl
@[simp] theorem State.takeSeq_fixed (s : State) :
    State.fixed (State.takeSeq s).2 = State.fixed s := by
  rfl
@[simp] theorem State.updRecs_fixed (s : State) (f : RecSt → RecSt) :
    State.fixed (State.updRecs s f) = State.fixed s := by
  rfl
@[simp] theorem State.takeSeqs_fixed (s : State) (n : Nat) :
    State.fixed (State.takeSeqs s n).2 = State.fixed s := by
  simp [State.takeSeqs]
@[simp] theorem State.toRc_fixed (s : State) (prio : Nat) (x : Rec) :
    State.fixed (State.toRc s prio x) = State.fixed s := by
  simp [State.toRc]
@[simp] theorem State.logFault_fixed (s : State) (x : FaultRec) :
    State.fixed (State.logFault s x) = State.fixed s := by
  rfl
@[simp] theorem State.logCount_fixed (s : State) (c : Coal) (seq : Nat) :
    State.fixed (State.logCount s c seq) = State.fixed s := by
  simp [State.logCount]
@[simp] theorem State.alarmSeq_fixed (s : State) (kind : Nat) (source : Nat) (seq : Nat) :
    State.fixed (State.alarmSeq s kind source seq) = State.fixed s := by
  simp [State.alarmSeq]
@[simp] theorem State.closeCoal_fixed (s : State) (c : Coal) :
    State.fixed (State.closeCoal s c) = State.fixed s := by
  simp [State.closeCoal]
@[simp] theorem State.openCoal_fixed (s : State) (kind : Nat) (source : Nat) (prio : Nat) (ot : Nat) (x : Rec) (body : Bytes) :
    State.fixed (State.openCoal s kind source prio ot x body) = State.fixed s := by
  simp [State.openCoal]
@[simp] theorem State.recordAt_fixed (s : State) (kind : Nat) (source : Nat) (seq : Nat) (ot : Nat) (flags : Nat) (cls : Nat) (body : Bytes) :
    State.fixed (State.recordAt s kind source seq ot flags cls body) = State.fixed s := by
  unfold State.recordAt; split <;> simp
@[simp] theorem State.record_fixed (s : State) (kind : Nat) (source : Nat) (body : Bytes) :
    State.fixed (State.record s kind source body).2 = State.fixed s := by
  simp [State.record]
@[simp] theorem State.refill_fixed (s : State) :
    State.fixed (State.refill s) = State.fixed s := by
  simp [State.refill]
@[simp] theorem State.archiveEnd_fixed (s : State) :
    State.fixed (State.archiveEnd s) = State.fixed s := by
  simp [State.archiveEnd]
@[simp] theorem State.drain_fixed (s : State) (n : Nat) :
    State.fixed (State.drain s n) = State.fixed s := by
  simp [State.drain]
@[simp] theorem State.archiveTrigger_fixed (s : State) (cause : Nat) :
    State.fixed (State.archiveTrigger s cause) = State.fixed s := by
  simp [State.archiveTrigger]
@[simp] theorem State.changeAt_fixed (s : State) (seq : Nat) (kind : Nat) (cred : Nat) (session : Nat) (ep : Nat) (cmd : Nat) (cbody : Bytes) :
    State.fixed (State.changeAt s seq kind cred session ep cmd cbody) = State.fixed s := by
  simp [State.changeAt]
@[simp] theorem State.change_fixed (s : State) (kind : Nat) (cred : Nat) (session : Nat) (ep : Nat) (cmd : Nat) (cbody : Bytes) :
    State.fixed (State.change s kind cred session ep cmd cbody) = State.fixed s := by
  simp [State.change]
@[simp] theorem State.ownChange_fixed (s : State) (kind : Nat) (cbody : Bytes) :
    State.fixed (State.ownChange s kind cbody) = State.fixed s := by
  simp [State.ownChange]
@[simp] theorem State.bootRecord_fixed (s : State) (cause : Nat) (jump : Nat) :
    State.fixed (State.bootRecord s cause jump) = State.fixed s := by
  simp [State.bootRecord]
@[simp] theorem State.lastResort_fixed (s : State) (region : Nat) (f : Fsid) (seq : Nat) :
    State.fixed (State.lastResort s region f seq) = State.fixed s := by
  rfl
@[simp] theorem State.ringPut_fixed (s : State) (n : Notif) :
    State.fixed (State.ringPut s n) = State.fixed s := by
  rfl
@[simp] theorem State.flushWaiting_fixed (s : State) :
    State.fixed (State.flushWaiting s) = State.fixed s := by
  simp [State.flushWaiting]
@[simp] theorem State.notify_fixed (s : State) (n : Notif) :
    State.fixed (State.notify s n) = State.fixed s := by
  simp [State.notify]
@[simp] theorem State.closeAlarm_fixed (s : State) (w : AlarmWin) :
    State.fixed (State.closeAlarm s w) = State.fixed s := by
  simp [State.closeAlarm]
@[simp] theorem State.openAlarm_fixed (s : State) (f : Fsid) (seq : Nat) (body : Bytes) :
    State.fixed (State.openAlarm s f seq body) = State.fixed s := by
  simp [State.openAlarm]
@[simp] theorem State.alarm_fixed (s : State) (f : Fsid) (raised : Nat) (applied : Nat) (parent : Nat) (seq : Nat) (full : Bool) :
    State.fixed (State.alarm s f raised applied parent seq full) = State.fixed s := by
  unfold State.alarm; split <;> simp
@[simp] theorem State.writeCompl_fixed (s : State) (c : Compl) :
    State.fixed (State.writeCompl s c) = State.fixed s := by
  simp [State.writeCompl]
@[simp] theorem State.complete_fixed (s : State) (r : CmdRef) (status : Nat) (result : Bytes) :
    State.fixed (State.complete s r status result) = State.fixed s := by
  simp [State.complete]
@[simp] theorem State.completeLater_fixed (s : State) (c : Compl) :
    State.fixed (State.completeLater s c) = State.fixed s := by
  rfl
@[simp] theorem State.flushCompl_fixed (s : State) :
    State.fixed (State.flushCompl s) = State.fixed s := by
  simp [State.flushCompl]
@[simp] theorem State.recordState_fixed (s : State) (subject : Nat) (index : Nat) (old : Nat) (new : Nat) :
    State.fixed (State.recordState s subject index old new).2 = State.fixed s := by
  simp [State.recordState]
@[simp] theorem State.laneEvent_fixed (s : State) (l : Lane) (old : Nat) (new : Nat) (latch : Bool) (f : Option Fsid) :
    State.fixed (State.laneEvent s l old new latch f) = State.fixed s := by
  simp [State.laneEvent]
@[simp] theorem State.pairNotice_fixed (s : State) (old : PairState) :
    State.fixed (State.pairNotice s old) = State.fixed s := by
  simp [State.pairNotice]
@[simp] theorem State.setPair_fixed (s : State) (p : PairState) :
    State.fixed (State.setPair s p) = State.fixed s := by
  simp [State.setPair]
@[simp] theorem State.setMod_fixed (s : State) (m : ModState) :
    State.fixed (State.setMod s m) = State.fixed s := by
  simp [State.setMod]
@[simp] theorem State.progress_fixed (s : State) (r : Option CmdRef) (cmd : Nat) (step : Nat) (steps : Nat) :
    State.fixed (State.progress s r cmd step steps) = State.fixed s := by
  simp [State.progress]
@[simp] theorem State.postErr_fixed (s : State) (source : Nat) (window : Nat) (addr : Nat) (fstat : Nat) (ep : Nat) :
    State.fixed (State.postErr s source window addr fstat ep) = State.fixed s := by
  simp [State.postErr]
@[simp] theorem State.refChange_fixed (s : State) (r : CmdRef) (kind : Nat) (body : Bytes) :
    State.fixed (State.refChange s r kind body) = State.fixed s := by
  simp [State.refChange]
@[simp] theorem State.updUpd_fixed (s : State) (f : UpdSt → UpdSt) :
    State.fixed (State.updUpd s f) = State.fixed s := by
  rfl
@[simp] theorem State.setSlot_fixed (s : State) (kind : Nat) (b : Bool) (x : Slot) :
    State.fixed (State.setSlot s kind b x) = State.fixed s := by
  unfold State.setSlot; split <;> simp
@[simp] theorem State.updAct_fixed (s : State) (f : ActSt → ActSt) :
    State.fixed (State.updAct s f) = State.fixed s := by
  rfl
@[simp] theorem State.abortUpd_fixed (s : State) (cause : Nat) :
    State.fixed (State.abortUpd s cause) = State.fixed s := by
  unfold State.abortUpd; dsimp only; (repeat' split) <;> simp_all
@[simp] theorem State.emptyFrame_fixed (s : State) :
    State.fixed (State.emptyFrame s) = State.fixed s := by
  rfl
@[simp] theorem State.closeCursor_fixed (s : State) :
    State.fixed (State.closeCursor s) = State.fixed s := by
  rfl
@[simp] theorem State.endSession_fixed (s : State) (id : Nat) :
    State.fixed (State.endSession s id) = State.fixed s := by
  unfold State.endSession; split <;> simp
@[simp] theorem State.dropProv_fixed (s : State) :
    State.fixed (State.dropProv s) = State.fixed s := by
  unfold State.dropProv; split <;> simp
@[simp] theorem State.serviceDown_fixed (s : State) (rc : Bool) :
    State.fixed (State.serviceDown s rc) = State.fixed s := by
  simp [State.serviceDown]
@[simp] theorem State.serviceUp_fixed (s : State) :
    State.fixed (State.serviceUp s) = State.fixed s := by
  simp [State.serviceUp]
@[simp] theorem State.updBridge_fixed (s : State) (f : BridgeSt → BridgeSt) :
    State.fixed (State.updBridge s f) = State.fixed s := by
  rfl
@[simp] theorem State.postedFailed_fixed (s : State) (x : Xfer) (fstat : Nat) :
    State.fixed (State.postedFailed s x fstat) = State.fixed s := by
  simp [State.postedFailed]
@[simp] theorem State.endXfer_fixed (s : State) (x : Xfer) (fstat : Nat) (data : Bytes) :
    State.fixed (State.endXfer s x fstat data) = State.fixed s := by
  unfold State.endXfer; split <;> simp
@[simp] theorem State.resetSb_fixed (s : State) :
    State.fixed (State.resetSb s) = State.fixed s := by
  simp [State.resetSb]
@[simp] theorem State.useSet_fixed (s : State) (x : Option SlotSet) :
    State.fixed (State.useSet s x) = State.fixed s := by
  rfl
@[simp] theorem State.switchFw_fixed (s : State) :
    State.fixed (State.switchFw s) = State.fixed s := by
  unfold State.switchFw; dsimp only; (repeat' split) <;> simp_all
@[simp] theorem State.revertFw_fixed (s : State) :
    State.fixed (State.revertFw s) = State.fixed s := by
  unfold State.revertFw; dsimp only; (repeat' split) <;> simp_all
@[simp] theorem State.endFallback_fixed (s : State) :
    State.fixed (State.endFallback s) = State.fixed s := by
  unfold State.endFallback; (repeat' split) <;> simp
@[simp] theorem State.fallbackRec_fixed (s : State) (a : ActSt) (item : Nat) :
    State.fixed (State.fallbackRec s a item) = State.fixed s := by
  simp [State.fallbackRec]
@[simp] theorem State.kernelBack_fixed (s : State) (a : ActSt) :
    State.fixed (State.kernelBack s a) = State.fixed s := by
  simp [State.kernelBack]
@[simp] theorem State.kernelMapBack_fixed (s : State) (a : ActSt) :
    State.fixed (State.kernelMapBack s a) = State.fixed s := by
  rfl
@[simp] theorem State.failAct_fixed (s : State) (item : Nat) :
    State.fixed (State.failAct s item) = State.fixed s := by
  unfold State.failAct; (repeat' split) <;> simp
@[simp] theorem State.actLane_fixed (s : State) (l : Lane) :
    State.fixed (State.actLane s l) = State.fixed s := by
  unfold State.actLane; split <;> simp
@[simp] theorem State.actSafe_fixed (s : State) :
    State.fixed (State.actSafe s) = State.fixed s := by
  unfold State.actSafe; split <;> simp
@[simp] theorem State.actService_fixed (s : State) :
    State.fixed (State.actService s) = State.fixed s := by
  unfold State.actService; split <;> simp
@[simp] theorem State.recordEvent_fixed (s : State) (f : Fsid) (raised : Nat) (applied : Nat) (conseq : Bool) (escal : Bool) (parent : Option Nat) :
    State.fixed (State.recordEvent s f raised applied conseq escal parent).2 = State.fixed s := by
  simp [State.recordEvent]
@[simp] theorem State.noteFault_fixed (s : State) (seq : Nat) (x : List Nat) :
    State.fixed (State.noteFault s seq x) = State.fixed s := by
  rfl
@[simp] theorem State.startGrace_fixed (s : State) (f : Fsid) (seq : Nat) (cls : Nat) (out : Option Lane) :
    State.fixed (State.startGrace s f seq cls out) = State.fixed s := by
  simp [State.startGrace]
@[simp] theorem State.abandonWith_fixed (s : State) (status : Nat) (cause : Nat) (result : Bytes) :
    State.fixed (State.abandonWith s status cause result) = State.fixed s := by
  unfold State.abandonWith; split <;> simp
@[simp] theorem State.abandonTest_fixed (s : State) (status : Nat) (cause : Nat) :
    State.fixed (State.abandonTest s status cause) = State.fixed s := by
  simp [State.abandonTest]
@[simp] theorem State.safeActions_fixed (s : State) :
    State.fixed (State.safeActions s) = State.fixed s := by
  simp [State.safeActions]
@[simp] theorem State.enterTerminal_fixed (s : State) :
    State.fixed (State.enterTerminal s) = State.fixed s := by
  simp [State.enterTerminal]
@[simp] theorem State.safeLimit_fixed (s : State) :
    State.fixed (State.safeLimit s) = State.fixed s := by
  simp [State.safeLimit]
@[simp] theorem State.enterSafe_fixed (s : State) (seq : Nat) :
    State.fixed (State.enterSafe s seq) = State.fixed s := by
  simp [State.enterSafe]
@[simp] theorem State.latchMark_fixed (s : State) (l : Lane) :
    State.fixed (State.latchMark s l) = State.fixed s := by
  simp [State.latchMark]
@[simp] theorem State.latchOut_fixed (s : State) (l : Lane) :
    State.fixed (State.latchOut s l) = State.fixed s := by
  simp [State.latchOut]
@[simp] theorem State.withdraw_fixed (s : State) (l : Lane) (f : Fsid) (seq : Nat) (hold : LHold) (counted : Bool) :
    State.fixed (State.withdraw s l f seq hold counted) = State.fixed s := by
  simp [State.withdraw]
@[simp] theorem State.afterWithdraw_fixed (s : State) (l : Lane) (f : Fsid) :
    State.fixed (State.afterWithdraw s l f) = State.fixed s := by
  rfl
@[simp] theorem State.countEvent_fixed (s : State) (f : Fsid) (dflt : Nat) :
    State.fixed (State.countEvent s f dflt).2.2 = State.fixed s := by
  unfold State.countEvent; (repeat' split) <;> simp
@[simp] theorem State.serviceRestart_fixed (s : State) (rc : Bool) :
    State.fixed (State.serviceRestart s rc) = State.fixed s := by
  simp [State.serviceRestart]
@[simp] theorem State.openCut_fixed (s : State) (b : Nat) :
    State.fixed (State.openCut s b) = State.fixed s := by
  simp [State.openCut]
@[simp] theorem State.cutOf_fixed (s : State) (blk : Nat) :
    State.fixed (State.cutOf s blk) = State.fixed s := by
  simp [State.cutOf]
@[simp] theorem State.hedgeUnsettled_fixed (s : State) (blk : Nat) (f : Fsid) (seq : Nat) :
    State.fixed (State.hedgeUnsettled s blk f seq) = State.fixed s := by
  simp [State.hedgeUnsettled]
@[simp] theorem State.notSettled_fixed (s : State) (blk : Nat) (parent : Option Nat) :
    State.fixed (State.notSettled s blk parent) = State.fixed s := by
  unfold State.notSettled; dsimp only; (repeat' split) <;> simp
@[simp] theorem State.clearBlock_fixed (s : State) (blk : Nat) :
    State.fixed (State.clearBlock s blk) = State.fixed s := by
  simp [State.clearBlock]
@[simp] theorem State.postedMasked_fixed (s : State) (k seq : Nat) :
    State.fixed (State.postedMasked s k seq) = State.fixed s := by
  simp [State.postedMasked]
@[simp] theorem State.resetBlock_fixed (s : State) (blk : Nat) (f : Fsid) (seq : Nat) :
    State.fixed (State.resetBlock s blk f seq) = State.fixed s := by
  unfold State.resetBlock; split <;> simp
@[simp] theorem State.hedgeCell_fixed (s : State) (c : Nat) (f : Fsid) (seq : Nat) :
    State.fixed (State.hedgeCell s c f seq) = State.fixed s := by
  simp [State.hedgeCell]
@[simp] theorem State.containCm_fixed (s : State) (f : Fsid) (seq : Nat) :
    State.fixed (State.containCm s f seq) = State.fixed s := by
  simp [State.containCm]
@[simp] theorem State.hedgeEngine_fixed (s : State) (l : Lane) (f : Fsid) (seq : Nat) :
    State.fixed (State.hedgeEngine s l f seq) = State.fixed s := by
  simp [State.hedgeEngine]
@[simp] theorem State.failResync_fixed (s : State) (l : Lane) (parent : Option Nat) :
    State.fixed (State.failResync s l parent) = State.fixed s := by
  unfold State.failResync; dsimp only; (repeat' split) <;> simp_all
@[simp] theorem State.reactLane_fixed (s : State) (l : Lane) (f : Fsid) (cls : Nat) (seq : Nat) :
    State.fixed (State.reactLane s l f cls seq) = State.fixed s := by
  unfold State.reactLane; split <;> simp
@[simp] theorem State.react_fixed (s : State) (f : Fsid) (cls : Nat) (seq : Nat) (named : Option Lane) :
    State.fixed (State.react s f cls seq named) = State.fixed s := by
  unfold State.react; (repeat' split) <;> simp
@[simp] theorem State.collectFull_fixed (s : State) (f : Fsid) (dflt : Nat) (parent : Option Nat) (named : Option Lane) (via : Option Net) :
    State.fixed (State.collectFull s f dflt parent named via).2 = State.fixed s := by
  unfold State.collectFull; dsimp only; (repeat' split) <;> simp_all
@[simp] theorem State.collect_fixed (s : State) (f : Fsid) :
    State.fixed (State.collect s f) = State.fixed s := by
  simp [State.collect]
@[simp] theorem State.collectNamed_fixed (s : State) (f : Fsid) (x : List Nat) :
    State.fixed (State.collectNamed s f x) = State.fixed s := by
  simp [State.collectNamed]
@[simp] theorem State.collectOpen_fixed (s : State) (level : Nat) (region : Nat) (block : Nat) (cell : Nat) (k : Nat) (cls : Nat) :
    State.fixed (State.collectOpen s level region block cell k cls) = State.fixed s := by
  simp [State.collectOpen]
@[simp] theorem State.stopModule_fixed (s : State) (f : Fsid) :
    State.fixed (State.stopModule s f) = State.fixed s := by
  simp [State.stopModule]
@[simp] theorem State.updCh_fixed (s : State) (c : Nat) (l : Lane) (f : ChSt → ChSt) :
    State.fixed (State.updCh s c l f) = State.fixed s := by
  rfl
@[simp] theorem State.pairTick_fixed (s : State) (c : Nat) (l : Lane) :
    State.fixed (State.pairTick s c l) = State.fixed s := by
  simp [State.pairTick]
@[simp] theorem State.pairTicks_fixed (s : State) (c : Nat) :
    State.fixed (State.pairTicks s c) = State.fixed s := by
  simp [State.pairTicks]
@[simp] theorem State.enterWarm_fixed (s : State) (c : Nat) :
    State.fixed (State.enterWarm s c) = State.fixed s := by
  simp [State.enterWarm]
@[simp] theorem State.warmAll_fixed (s : State) :
    State.fixed (State.warmAll s) = State.fixed s := by
  simp [State.warmAll]
@[simp] theorem State.latchCell_fixed (s : State) (c : Nat) :
    State.fixed (State.latchCell s c) = State.fixed s := by
  rfl
@[simp] theorem State.latchAll_fixed (s : State) :
    State.fixed (State.latchAll s) = State.fixed s := by
  simp [State.latchAll]
@[simp] theorem State.setLatches_fixed (s : State) :
    State.fixed (State.setLatches s) = State.fixed s := by
  simp [State.setLatches]
@[simp] theorem State.countDis_fixed (s : State) (c : Nat) (l : Lane) :
    State.fixed (State.countDis s c l) = State.fixed s := by
  rfl
@[simp] theorem State.updRels_fixed (s : State) (f : RelSt → RelSt) :
    State.fixed (State.updRels s f) = State.fixed s := by
  rfl
@[simp] theorem State.raiseDis_fixed (s : State) (c : Nat) :
    State.fixed (State.raiseDis s c) = State.fixed s := by
  simp [State.raiseDis]
@[simp] theorem State.disagreements_fixed (s : State) :
    State.fixed (State.disagreements s) = State.fixed s := by
  simp [State.disagreements]
@[simp] theorem State.pulseFault_fixed (s : State) (c : Nat) (det : Nat) (ls : List Lane) :
    State.fixed (State.pulseFault s c det ls) = State.fixed s := by
  simp [State.pulseFault]
@[simp] theorem State.latchFlag_fixed (s : State) (c : Nat) (det : Nat) :
    State.fixed (State.latchFlag s c det) = State.fixed s := by
  simp [State.latchFlag]
@[simp] theorem State.latchFlags_fixed (s : State) :
    State.fixed (State.latchFlags s) = State.fixed s := by
  simp [State.latchFlags]
@[simp] theorem State.beginRels_fixed (s : State) :
    State.fixed (State.beginRels s) = State.fixed s := by
  simp (disch := intros; (repeat' split) <;> simp) [State.beginRels]
@[simp] theorem State.frameStart_fixed (s : State) :
    State.fixed (State.frameStart s) = State.fixed s := by
  simp [State.frameStart]
@[simp] theorem State.frameEnd_fixed (s : State) :
    State.fixed (State.frameEnd s) = State.fixed s := by
  simp [State.frameEnd]
@[simp] theorem State.pairsTick_fixed (s : State) :
    State.fixed (State.pairsTick s) = State.fixed s := by
  simp [State.pairsTick]
theorem execTestPulseStart_fixed (cell : Nat) (on : Trio CellMask) (s : State) :
    ∀ t, (execTestPulseStart cell on s) = .next t → State.fixed t = State.fixed s := by
  rintro _ ⟨⟩; simp
theorem execTestPulseEnd_fixed (cell : Nat) (dropped : Trio Bool) (s : State) :
    ∀ t, (execTestPulseEnd cell dropped s) = .next t → State.fixed t = State.fixed s := by
  rintro _ ⟨⟩; simp
theorem execPulseWindowEnd_fixed (slot : Nat) (dropped : Trio CellMask) (recovered : Trio CellMask) (nextOn : Trio CellMask) (sxFell : Bool) (sxBack : Bool) (s : State) :
    ∀ t, (execPulseWindowEnd slot dropped recovered nextOn sxFell sxBack s) = .next t → State.fixed t = State.fixed s := by
  rintro _ ⟨⟩; simp
theorem execSxCurrentLimit_fixed (cell : Nat) (s : State) :
    ∀ t, (execSxCurrentLimit cell s) = .next t → State.fixed t = State.fixed s := by
  rintro _ ⟨⟩; simp
theorem execInputFilterChange_fixed (lane : Lane) (cell : Nat) (samples : List Bool) (s : State) :
    ∀ t, (execInputFilterChange lane cell samples s) = .next t → State.fixed t = State.fixed s := by
  rintro _ ⟨⟩; (repeat' split) <;> simp
theorem execChannelDisagreement_fixed (lane : Lane) (cell : Nat) (s : State) :
    ∀ t, (execChannelDisagreement lane cell s) = .next t → State.fixed t = State.fixed s := by
  rintro _ ⟨⟩; simp
theorem execDiscrepancyFault_fixed (lane : Lane) (cell : Nat) (s : State) :
    ∀ t, (execDiscrepancyFault lane cell s) = .next t → State.fixed t = State.fixed s := by
  rintro _ ⟨⟩; dsimp only; (repeat' split) <;> simp_all
theorem execBankSupplyTrip_fixed (bank : Nat) (high : Bool) (s : State) :
    ∀ t, (execBankSupplyTrip bank high s) = .next t → State.fixed t = State.fixed s := by
  rintro _ ⟨⟩; simp
theorem execBankSupplyRecover_fixed (bank : Nat) (s : State) :
    ∀ t, (execBankSupplyRecover bank s) = .next t → State.fixed t = State.fixed s := by
  rintro _ ⟨⟩; simp
@[simp] theorem State.liftFsv_fixed (s : State) :
    State.fixed (State.liftFsv s) = State.fixed s := by
  simp [State.liftFsv]
@[simp] theorem State.setEff_fixed (s : State) (c : Nat) :
    State.fixed (State.setEff s c) = State.fixed s := by
  simp [State.setEff]
@[simp] theorem State.setEffs_fixed (s : State) (cs : List Nat) :
    State.fixed (State.setEffs s cs) = State.fixed s := by
  simp [State.setEffs]
@[simp] theorem State.driveCell_fixed (s : State) (m : CellMask) (c : Nat) :
    State.fixed (State.driveCell s m c) = State.fixed s := by
  simp [State.driveCell]
@[simp] theorem State.driveStep_fixed (s : State) (m : CellMask) :
    State.fixed (State.driveStep s m) = State.fixed s := by
  simp [State.driveStep]
@[simp] theorem State.raiseNamed_fixed (s : State) (c : Nat) (det : Nat) (x : List Nat) :
    State.fixed (State.raiseNamed s c det x) = State.fixed s := by
  simp [State.raiseNamed]
@[simp] theorem State.raiseOut_fixed (s : State) (c : Nat) (det : Nat) :
    State.fixed (State.raiseOut s c det) = State.fixed s := by
  simp [State.raiseOut]
@[simp] theorem State.noteCounted_fixed (s : State) (c : Nat) :
    State.fixed (State.noteCounted s c) = State.fixed s := by
  rfl
@[simp] theorem State.roundEnd_fixed (s : State) :
    State.fixed (State.roundEnd s) = State.fixed s := by
  simp [State.roundEnd]
@[simp] theorem State.roundStart_fixed (s : State) :
    State.fixed (State.roundStart s) = State.fixed s := by
  simp [State.roundStart]
theorem execRoundMark_fixed (lane : Lane) (s : State) :
    ∀ t, (execRoundMark lane s) = .next t → State.fixed t = State.fixed s := by
  rintro _ ⟨⟩
  split
  · rfl
  · dsimp only
    split
    · rw [State.roundStart_fixed]; split <;> simp
    · simp
theorem execTestNotCompleted_fixed (cell : Nat) (lane : Lane) (s : State) :
    ∀ t, (execTestNotCompleted cell lane s) = .next t → State.fixed t = State.fixed s := by
  rintro _ ⟨⟩; simp
theorem execTestPosition_fixed (bank : Nat) (midOk : Bool) (s : State) :
    ∀ t, (execTestPosition bank midOk s) = .next t → State.fixed t = State.fixed s := by
  rintro _ ⟨⟩; dsimp only; (repeat' split) <;> simp_all
theorem execDarkStepEnd_fixed (bank : Nat) (current : Paths Bool) (s : State) :
    ∀ t, (execDarkStepEnd bank current s) = .next t → State.fixed t = State.fixed s := by
  rintro _ ⟨⟩; (repeat' split) <;> simp
theorem execLightStepEnd_fixed (bank : Nat) (mids : Paths Mid) (current : Paths Bool) (pxOn : Bool) (s : State) :
    ∀ t, (execLightStepEnd bank mids current pxOn s) = .next t → State.fixed t = State.fixed s := by
  rintro _ ⟨⟩; (repeat' split) <;> simp
theorem execMidpointStuck_fixed (cell : Nat) (_path : Path) (_high : Bool) (s : State) :
    ∀ t, (execMidpointStuck cell _path _high s) = .next t → State.fixed t = State.fixed s := by
  rintro _ ⟨⟩; simp
theorem execPathCurrentWithdrawn_fixed (cell : Nat) (path : Path) (s : State) :
    ∀ t, (execPathCurrentWithdrawn cell path s) = .next t → State.fixed t = State.fixed s := by
  rintro _ ⟨⟩; simp
@[simp] theorem State.updTest_fixed (s : State) (f : TestSt → TestSt) :
    State.fixed (State.updTest s f) = State.fixed s := by
  rfl
@[simp] theorem State.cutTest_fixed (s : State) (cs : List Nat) :
    State.fixed (State.cutTest s cs) = State.fixed s := by
  simp [State.cutTest]
@[simp] theorem State.cutBank_fixed (s : State) (b : Nat) :
    State.fixed (State.cutBank s b) = State.fixed s := by
  simp [State.cutBank]
@[simp] theorem State.readFault_fixed (s : State) (c : Nat) :
    State.fixed (State.readFault s c) = State.fixed s := by
  simp [State.readFault]
@[simp] theorem State.readOne_fixed (s : State) (c : Nat) (l : Lane) (v : Bool) :
    State.fixed (State.readOne s c l v) = State.fixed s := by
  simp [State.readOne]
theorem execReadbackFault_fixed (lane : Lane) (cell : Nat) (samples : List Bool) (s : State) :
    ∀ t, (execReadbackFault lane cell samples s) = .next t → State.fixed t = State.fixed s := by
  rintro _ ⟨⟩; (repeat' split) <;> simp
theorem execExternalVoltage_fixed (cell : Nat) (s : State) :
    ∀ t, (execExternalVoltage cell s) = .next t → State.fixed t = State.fixed s := by
  rintro _ ⟨⟩; (repeat' split) <;> simp
@[simp] theorem State.readTick_fixed (s : State) (c : Nat) :
    State.fixed (State.readTick s c) = State.fixed s := by
  simp [State.readTick]
@[simp] theorem State.cellTick_fixed (s : State) :
    State.fixed (State.cellTick s) = State.fixed s := by
  simp [State.cellTick]
@[simp] theorem State.slotTick_fixed (s : State) (us : Nat) :
    State.fixed (State.slotTick s us) = State.fixed s := by
  simp [State.slotTick]
@[simp] theorem State.nextSlot_fixed (s : State) (us : Nat) (skew : Nat) :
    State.fixed (State.nextSlot s us skew) = State.fixed s := by
  simp [State.nextSlot]
theorem execSlotMark_fixed (lane : Lane) (stamp : SlotStamp) (s : State) :
    ∀ t, (execSlotMark lane stamp s) = .next t → State.fixed t = State.fixed s := by
  rintro _ ⟨⟩; simp
@[simp] theorem State.dropSteps_fixed (s : State) (cs : List Nat) :
    State.fixed (State.dropSteps s cs) = State.fixed s := by
  simp [State.dropSteps]
@[simp] theorem State.protCell_fixed (s : State) (c : Nat) (det : Nat) :
    State.fixed (State.protCell s c det) = State.fixed s := by
  simp [State.protCell]
theorem execOverloadTrip_fixed (cell : Nat) (_cause : Overload) (s : State) :
    ∀ t, (execOverloadTrip cell _cause s) = .next t → State.fixed t = State.fixed s := by
  rintro _ ⟨⟩; simp
theorem execClampOvertemp_fixed (cell : Nat) (s : State) :
    ∀ t, (execClampOvertemp cell s) = .next t → State.fixed t = State.fixed s := by
  rintro _ ⟨⟩; simp
theorem execBankOvercurrent_fixed (bank : Nat) (s : State) :
    ∀ t, (execBankOvercurrent bank s) = .next t → State.fixed t = State.fixed s := by
  rintro _ ⟨⟩; simp
theorem execFeedbackMismatch_fixed (lane : Lane) (cell : Nat) (s : State) :
    ∀ t, (execFeedbackMismatch lane cell s) = .next t → State.fixed t = State.fixed s := by
  rintro _ ⟨⟩; simp
@[simp] theorem State.warmEnds_fixed (s : State) :
    State.fixed (State.warmEnds s) = State.fixed s := by
  simp [State.warmEnds]
@[simp] theorem State.relDone_fixed (s : State) (kind : Nat) (index : Nat) (ref : CmdRef) (st : Nat) :
    State.fixed (State.relDone s kind index ref st) = State.fixed s := by
  simp [State.relDone]
@[simp] theorem State.finishRel_fixed (s : State) (r : RelSt) :
    State.fixed (State.finishRel s r) = State.fixed s := by
  simp [State.finishRel]
@[simp] theorem State.finishRels_fixed (s : State) :
    State.fixed (State.finishRels s) = State.fixed s := by
  simp [State.finishRels]
@[simp] theorem State.arrive_fixed (s : State) (k : ConnCfg) (p : Bool) (x : TgCopy) :
    State.fixed (State.arrive s k p x) = State.fixed s := by
  rfl
@[simp] theorem State.discard_fixed (s : State) (g : Gvt) :
    State.fixed (State.discard s g) = State.fixed s := by
  unfold State.discard; split <;> simp
@[simp] theorem State.duplicate_fixed (s : State) :
    State.fixed (State.duplicate s) = State.fixed s := by
  simp [State.duplicate]
@[simp] theorem State.notOwn_fixed (s : State) (f : Frame) (k : State) (h : State.fixed k = State.fixed s) :
    State.fixed (State.notOwn s f k) = State.fixed s := by
  unfold State.notOwn; (repeat' split) <;> simp [h]
theorem execFrameReceived_fixed (net : Net) (f : Frame) (us : Nat) (s : State) :
    ∀ t, (execFrameReceived net f us s) = .next t → State.fixed t = State.fixed s := by
  rintro _ ⟨⟩; dsimp only; split
  · rfl
  · refine State.notOwn_fixed _ _ _ ?_; (repeat' split) <;> simp
theorem execSkewExpiry_fixed (conn : Nat) (peer2 : Bool) (s : State) :
    ∀ t, (execSkewExpiry conn peer2 s) = .next t → State.fixed t = State.fixed s := by
  rintro _ ⟨⟩; (repeat' split) <;> simp
theorem execOneNetworkSilent_fixed (conn : Nat) (s : State) :
    ∀ t, (execOneNetworkSilent conn s) = .next t → State.fixed t = State.fixed s := by
  rintro _ ⟨⟩; (repeat' split) <;> simp
@[simp] theorem State.sendOn_fixed (s : State) (n : Net) (f : Frame) :
    State.fixed (State.sendOn s n f) = State.fixed s := by
  simp [State.sendOn]
@[simp] theorem State.sendBoth_fixed (s : State) (udp : Option Nat) (g : Gvt) :
    State.fixed (State.sendBoth s udp g) = State.fixed s := by
  simp [State.sendBoth]
@[simp] theorem State.freezeAll_fixed (s : State) :
    State.fixed (State.freezeAll s) = State.fixed s := by
  rfl
@[simp] theorem State.refuse_fixed (s : State) (conn : Nat) (det : Nat) (via : Net) (f : ConnSt → ConnSt) :
    State.fixed (State.refuse s conn det via f) = State.fixed s := by
  simp [State.refuse]
@[simp] theorem State.connTimeout_fixed (s : State) (k : ConnCfg) (r : RecvRec) :
    State.fixed (State.connTimeout s k r) = State.fixed s := by
  unfold State.connTimeout; (repeat' split) <;> simp
@[simp] theorem State.connRelease_fixed (s : State) (n : Nat) :
    State.fixed (State.connRelease s n) = State.fixed s := by
  unfold State.connRelease; split <;> simp
@[simp] theorem State.examine_fixed (k : ConnCfg) (r : RecvRec) (x : State × List PCopy × List PCopy) (y : PCopy) :
    State.fixed (State.examine k r x y).1 = State.fixed x.1 := by
  unfold State.examine; dsimp only; (repeat' split) <;> simp
@[simp] theorem State.examine_fold_fixed (k : ConnCfg) (r : RecvRec) (xs : List PCopy) (x : State × List PCopy × List PCopy) :
    State.fixed (xs.foldl (State.examine k r) x).1 = State.fixed x.1 := by
  induction xs generalizing x with
  | nil => rfl
  | cons y ys ih => rw [List.foldl_cons, ih]; exact State.examine_fixed _ _ _ _
@[simp] theorem State.snapCopies_fixed (s : State) (k : ConnCfg) (r : RecvRec) (c : ConnSt) :
    State.fixed (s.snapCopies k r c) = State.fixed s := by
  unfold State.snapCopies; dsimp only; (repeat' split) <;> simp
@[simp] theorem State.connChanged_fixed (s : State) (n : Nat) :
    State.fixed (State.connChanged s n) = State.fixed s := by
  simp [State.connChanged]
@[simp] theorem State.snapConn_fixed (s : State) (k : ConnCfg) :
    State.fixed (State.snapConn s k) = State.fixed s := by
  unfold State.snapConn; dsimp only; (repeat' split) <;> simp_all
@[simp] theorem State.snapConns_fixed (s : State) :
    State.fixed (State.snapConns s) = State.fixed s := by
  simp [State.snapConns]
@[simp] theorem State.raiseReq_fixed (s : State) (route : Nat) (elem : Nat) (set : Bool) :
    State.fixed (State.raiseReq s route elem set) = State.fixed s := by
  rfl
@[simp] theorem State.raiseElem_fixed (s : State) (num : Nat) (codes : List Nat) :
    State.fixed (State.raiseElem s num codes) = State.fixed s := by
  simp [State.raiseElem]
@[simp] theorem State.axleDone_fixed (s : State) (x : AxleStep) (ok : Bool) (code : Nat) :
    State.fixed (State.axleDone s x ok code) = State.fixed s := by
  unfold State.axleDone; split <;> simp
@[simp] theorem State.axleArmed_fixed (s : State) (num : Nat) (x : AxleStep) (code : Nat) :
    State.fixed (State.axleArmed s num x code) = State.fixed s := by
  unfold State.axleArmed; split <;> simp
@[simp] theorem State.axleSteps_fixed (s : State) (num : Nat) (v : InEnv) (xs : List AxleStep) :
    State.fixed (State.axleSteps s num v xs) = State.fixed s := by
  simp (disch := intros; (repeat' split) <;> simp) [State.axleSteps]
@[simp] theorem State.inElem_fixed (s : State) (dt : Nat) (steps : Nat → List AxleStep) (num : Nat) :
    State.fixed (State.inElem s dt steps num) = State.fixed s := by
  unfold State.inElem; dsimp only; (repeat' split) <;> simp_all
@[simp] theorem State.inputPass_fixed (s : State) (dt : Nat) (steps : Nat → List AxleStep) :
    State.fixed (State.inputPass s dt steps) = State.fixed s := by
  simp [State.inputPass]
@[simp] theorem State.outElem_fixed (s : State) (num : Nat) :
    State.fixed (State.outElem s num) = State.fixed s := by
  unfold State.outElem; split <;> simp
@[simp] theorem State.outputPass_fixed (s : State) :
    State.fixed (State.outputPass s) = State.fixed s := by
  simp [State.outputPass]
@[simp] theorem State.elemEvent_fixed (s : State) (num : Nat) (f : Elem → Elem) :
    State.fixed (State.elemEvent s num f) = State.fixed s := by
  unfold State.elemEvent; split <;> simp
theorem execMoveTimeLimit_fixed (elem : Nat) (s : State) :
    ∀ t, (execMoveTimeLimit elem s) = .next t → State.fixed t = State.fixed s := by
  rintro _ ⟨⟩; simp
theorem execProvingTime_fixed (elem : Nat) (s : State) :
    ∀ t, (execProvingTime elem s) = .next t → State.fixed t = State.fixed s := by
  rintro _ ⟨⟩; simp
theorem execClearingDelay_fixed (elem : Nat) (s : State) :
    ∀ t, (execClearingDelay elem s) = .next t → State.fixed t = State.fixed s := by
  rintro _ ⟨⟩; simp
theorem execResetStepLimit_fixed (elem : Nat) (s : State) :
    ∀ t, (execResetStepLimit elem s) = .next t → State.fixed t = State.fixed s := by
  rintro _ ⟨⟩; simp
theorem execCloseTimeLimit_fixed (elem : Nat) (s : State) :
    ∀ t, (execCloseTimeLimit elem s) = .next t → State.fixed t = State.fixed s := by
  rintro _ ⟨⟩; simp
theorem execOpenDelay_fixed (elem : Nat) (s : State) :
    ∀ t, (execOpenDelay elem s) = .next t → State.fixed t = State.fixed s := by
  rintro _ ⟨⟩; simp
theorem execDirectionExchangeLimit_fixed (elem : Nat) (s : State) :
    ∀ t, (execDirectionExchangeLimit elem s) = .next t → State.fixed t = State.fixed s := by
  rintro _ ⟨⟩; simp
@[simp] theorem State.admission_fixed (s : State) :
    State.fixed (State.admission s) = State.fixed s := by
  simp [State.admission]
@[simp] theorem State.recount_fixed (s : State) (t : RouteEntry) (old : RouteCell) (new : RouteCell) :
    State.fixed (State.recount s t old new) = State.fixed s := by
  simp [State.recount]
@[simp] theorem State.ownerDone_fixed (s : State) (owner : Nat) (c : RouteCell) (status : Nat) :
    State.fixed (State.ownerDone s owner c status) = State.fixed s := by
  unfold State.ownerDone; split <;> simp
@[simp] theorem State.raiseAuto_fixed (s : State) (r : Nat) (origin : Nat) :
    State.fixed (State.raiseAuto s r origin) = State.fixed s := by
  rfl
@[simp] theorem State.afterReleased_fixed (s : State) (r : Nat) (t : RouteEntry) (old : RouteCell) (new : RouteCell) (check : Nat) :
    State.fixed (State.afterReleased s r t old new check) = State.fixed s := by
  unfold State.afterReleased; (repeat' split) <;> simp
@[simp] theorem State.afterMove_fixed (s : State) (r : Nat) (t : RouteEntry) (old : RouteCell) (new : RouteCell) (check : Nat) :
    State.fixed (State.afterMove s r t old new check) = State.fixed s := by
  unfold State.afterMove; (repeat' split) <;> simp
@[simp] theorem State.watchStep_fixed (s : State) (dt : Nat) :
    State.fixed (State.watchStep s dt) = State.fixed s := by
  rfl
@[simp] theorem State.quietCheck_fixed (s : State) (r : Nat) :
    State.fixed (State.quietCheck s r) = State.fixed s := by
  simp [State.quietCheck]
@[simp] theorem State.trigger_fixed (s : State) (r : Nat) (t : RouteEntry) :
    State.fixed (State.trigger s r t) = State.fixed s := by
  simp [State.trigger]
@[simp] theorem State.tickApproach_fixed (s : State) (dt : Nat) :
    State.fixed (State.tickApproach s dt) = State.fixed s := by
  simp [State.tickApproach]
@[simp] theorem State.tickRoutes_fixed (s : State) (dt : Nat) :
    State.fixed (State.tickRoutes s dt) = State.fixed s := by
  rfl
@[simp] theorem State.badRoutes_fixed (s : State) :
    State.fixed (State.badRoutes s) = State.fixed s := by
  unfold State.badRoutes; split <;> simp
@[simp] theorem State.passRoute_fixed (s : State) (s0 : State) (evs : List (Nat × Eval)) (won : List Nat) (lost : List (Nat × Nat)) (r : Nat) :
    State.fixed (State.passRoute s s0 evs won lost r) = State.fixed s := by
  unfold State.passRoute; split <;> simp
@[simp] theorem State.countRequests_fixed (s : State) :
    State.fixed (State.countRequests s) = State.fixed s := by
  rfl
@[simp] theorem State.passRoutes_fixed (s : State) (dt : Nat) :
    State.fixed (State.passRoutes s dt) = State.fixed s := by
  simp [State.passRoutes]
@[simp] theorem State.triggers_fixed (s : State) :
    State.fixed (State.triggers s) = State.fixed s := by
  simp (disch := intros; (repeat' split) <;> simp) [State.triggers]
@[simp] theorem State.quietChecks_fixed (s : State) :
    State.fixed (State.quietChecks s) = State.fixed s := by
  simp [State.quietChecks]
@[simp] theorem State.writeElems_fixed (s : State) (s0 : State) :
    State.fixed (State.writeElems s s0) = State.fixed s := by
  rfl
@[simp] theorem State.confirmAll_fixed (s : State) :
    State.fixed (State.confirmAll s) = State.fixed s := by
  rfl
@[simp] theorem State.trellisPass_fixed (s : State) (dt : Nat) :
    State.fixed (State.trellisPass s dt) = State.fixed s := by
  simp (disch := intros; (repeat' split) <;> simp) [State.trellisPass]
@[simp] theorem State.endReleased_fixed (s : State) :
    State.fixed (State.endReleased s) = State.fixed s := by
  rfl
@[simp] theorem State.takeCmdseq_fixed (s : State) :
    State.fixed (State.takeCmdseq s).2 = State.fixed s := by
  rfl
@[simp] theorem State.takeReqseq_fixed (s : State) :
    State.fixed (State.takeReqseq s).2 = State.fixed s := by
  rfl
@[simp] theorem State.countNotEntered_fixed (s : State) :
    State.fixed (State.countNotEntered s) = State.fixed s := by
  rfl
@[simp] theorem State.enter_fixed (s : State) (r : Nat) (origin : Nat) (cmdseq : Nat) (ref : Option CmdRef) :
    State.fixed (State.enter s r origin cmdseq ref) = State.fixed s := by
  rfl
@[simp] theorem State.doneOp_fixed (s : State) (ref : CmdRef) (status : Nat) (cmdseq : Nat) :
    State.fixed (State.doneOp s ref status cmdseq) = State.fixed s := by
  rfl
@[simp] theorem State.enterCancel_fixed (s : State) (ref : CmdRef) (r : Nat) (q : Nat) :
    State.fixed (State.enterCancel s ref r q) = State.fixed s := by
  unfold State.enterCancel; split <;> simp
@[simp] theorem State.enterKey_fixed (s : State) (ref : CmdRef) (n : Nat) (q : Nat) :
    State.fixed (State.enterKey s ref n q) = State.fixed s := by
  unfold State.enterKey; (repeat' split) <;> simp
@[simp] theorem State.enterOp_fixed (s : State) (o : OpCmd) :
    State.fixed (State.enterOp s o) = State.fixed s := by
  unfold State.enterOp; dsimp only; (repeat' split) <;> simp_all
@[simp] theorem State.enterElemReq_fixed (s : State) (x : Nat × Nat × Bool) :
    State.fixed (State.enterElemReq s x) = State.fixed s := by
  unfold State.enterElemReq; (repeat' split) <;> simp
@[simp] theorem State.enterAuto_fixed (s : State) (x : Nat × Nat) :
    State.fixed (State.enterAuto s x) = State.fixed s := by
  unfold State.enterAuto; split <;> simp
@[simp] theorem State.enterRequests_fixed (s : State) (ops : List OpCmd) :
    State.fixed (State.enterRequests s ops) = State.fixed s := by
  simp [State.enterRequests]
@[simp] theorem State.refuseOps_fixed (s : State) (ops : List OpCmd) :
    State.fixed (State.refuseOps s ops) = State.fixed s := by
  simp [State.refuseOps]
@[simp] theorem State.routeEvent_fixed (s : State) (r : Nat) (states : List Nat) (due : RouteEntry → RouteCell → Bool) :
    State.fixed (State.routeEvent s r states due) = State.fixed s := by
  unfold State.routeEvent; split <;> simp
theorem execSettingTimeLimit_fixed (route : Nat) (s : State) :
    ∀ t, (execSettingTimeLimit route s) = .next t → State.fixed t = State.fixed s := by
  rintro _ ⟨⟩; simp
theorem execRequestLifetime_fixed (route : Nat) (s : State) :
    ∀ t, (execRequestLifetime route s) = .next t → State.fixed t = State.fixed s := by
  rintro _ ⟨⟩; simp
theorem execApproachReleaseTimer_fixed (route : Nat) (s : State) :
    ∀ t, (execApproachReleaseTimer route s) = .next t → State.fixed t = State.fixed s := by
  rintro _ ⟨⟩; simp
theorem execOverlapReleaseTimer_fixed (route : Nat) (s : State) :
    ∀ t, (execOverlapReleaseTimer route s) = .next t → State.fixed t = State.fixed s := by
  rintro _ ⟨⟩; simp
theorem execReleasingTimeout_fixed (route : Nat) (s : State) :
    ∀ t, (execReleasingTimeout route s) = .next t → State.fixed t = State.fixed s := by
  rintro _ ⟨⟩; simp
@[simp] theorem State.storeTables_fixed (s : State) :
    State.fixed (State.storeTables s) = State.fixed s := by
  rfl
@[simp] theorem State.buildVecs_fixed (s : State) :
    State.fixed (State.buildVecs s) = State.fixed s := by
  simp [State.buildVecs]
@[simp] theorem State.tableCheck_fixed (s : State) :
    State.fixed (State.tableCheck s) = State.fixed s := by
  rfl
@[simp] theorem State.syncConns_fixed (s : State) :
    State.fixed (State.syncConns s) = State.fixed s := by
  rfl
@[simp] theorem State.resetConns_fixed (s : State) :
    State.fixed (State.resetConns s) = State.fixed s := by
  rfl
@[simp] theorem State.bindForces_fixed (s : State) :
    State.fixed (State.bindForces s) = State.fixed s := by
  rfl
@[simp] theorem State.applyForceMarks_fixed (s : State) :
    State.fixed (State.applyForceMarks s) = State.fixed s := by
  rfl
@[simp] theorem State.coldStart_fixed (s : State) :
    State.fixed (State.coldStart s) = State.fixed s := by
  simp [State.coldStart]
@[simp] theorem State.warmStart_fixed (s : State) (passed : Nat) :
    State.fixed (State.warmStart s passed) = State.fixed s := by
  rfl
@[simp] theorem State.startApp_fixed (s : State) :
    State.fixed (State.startApp s) = State.fixed s := by
  simp [State.startApp]
@[simp] theorem State.graftLanes_fixed (s : State) :
    State.fixed (State.graftLanes s) = State.fixed s := by
  rfl
@[simp] theorem State.graft_fixed (s : State) (r : CmdRef) (new : Image) :
    State.fixed (State.graft s r new) = State.fixed s := by
  simp [State.graft]
@[simp] theorem State.latchSummary_fixed (s : State) :
    State.fixed (State.latchSummary s) = State.fixed s := by
  rfl
@[simp] theorem State.seeRing_fixed (s : State) (addr : Nat) (n : Nat) :
    State.fixed (State.seeRing s addr n) = State.fixed s := by
  simp [State.seeRing]
@[simp] theorem State.testFsv_fixed (s : State) (id target : Nat) :
    State.fixed (State.testFsv s id target).2 = State.fixed s := by
  unfold State.testFsv; split <;> simp
@[simp] theorem State.coverLane_fixed (s : State) (l : Lane) :
    State.fixed (State.coverLane s l) = State.fixed s := by
  simp [State.coverLane]
@[simp] theorem State.clocheStart_fixed (s : State) :
    State.fixed (State.clocheStart s) = State.fixed s := by
  unfold State.clocheStart; split <;> simp
@[simp] theorem State.testFailed_fixed (s : State) (id : Nat) (target : Nat) :
    State.fixed (State.testFailed s id target) = State.fixed s := by
  unfold State.testFailed; split <;> simp
@[simp] theorem State.testPassed_fixed (s : State) (id : Nat) (target : Nat) :
    State.fixed (State.testPassed s id target) = State.fixed s := by
  unfold State.testPassed; split <;> simp
@[simp] theorem State.uncoverLane_fixed (s : State) (l : Lane) (took : Bool) :
    State.fixed (State.uncoverLane s l took) = State.fixed s := by
  rfl
@[simp] theorem State.clocheEnd_fixed (s : State) :
    State.fixed (State.clocheEnd s) = State.fixed s := by
  unfold State.clocheEnd; (repeat' split) <;> simp
theorem execTestComplete_fixed (codes : List Nat) (s : State) :
    ∀ t, (execTestComplete codes s) = .next t → State.fixed t = State.fixed s := by
  rintro _ ⟨⟩; (repeat' split) <;> simp
theorem execPreconditionCheck_fixed (q : Quantities) (s : State) :
    ∀ t, (execPreconditionCheck q s) = .next t → State.fixed t = State.fixed s := by
  rintro _ ⟨⟩; dsimp only; (repeat' split) <;> simp_all
theorem execOscillatorMeasurement_fixed (offset : Int) (s : State) :
    ∀ t, (execOscillatorMeasurement offset s) = .next t → State.fixed t = State.fixed s := by
  rintro _ ⟨⟩; simp
@[simp] theorem State.testAtApply_fixed (s : State) (old : Settings) (img : Bool) :
    State.fixed (State.testAtApply s old img) = State.fixed s := by
  unfold State.testAtApply; split <;> simp
@[simp] theorem State.passesAtApply_fixed (s : State) (old : Settings) :
    State.fixed (State.passesAtApply s old) = State.fixed s := by
  rfl
@[simp] theorem State.breakCheck_fixed (s : State) :
    State.fixed (State.breakCheck s) = State.fixed s := by
  unfold State.breakCheck; split <;> simp
@[simp] theorem State.cancelApply_fixed (s : State) :
    State.fixed (State.cancelApply s) = State.fixed s := by
  unfold State.cancelApply; split <;> simp
@[simp] theorem State.retryApply_fixed (s : State) :
    State.fixed (State.retryApply s) = State.fixed s := by
  unfold State.retryApply; split <;> simp
@[simp] theorem State.warmChanged_fixed (s : State) (old : Settings) :
    State.fixed (State.warmChanged s old) = State.fixed s := by
  simp [State.warmChanged]
@[simp] theorem State.markConns_fixed (s : State) (old : Settings) :
    State.fixed (State.markConns s old) = State.fixed s := by
  simp [State.markConns]
@[simp] theorem State.syncRecs_fixed (s : State) :
    State.fixed (State.syncRecs s) = State.fixed s := by
  rfl
@[simp] theorem State.ringModes_fixed (s : State) (old : Settings) :
    State.fixed (State.ringModes s old) = State.fixed s := by
  simp [State.ringModes]
@[simp] theorem State.putSettings_fixed (s : State) (st : Settings) :
    State.fixed (State.putSettings s st) = State.fixed s := by
  simp [State.putSettings]
@[simp] theorem State.forceChange_fixed (s : State) (r : CmdRef) (old : ForceEntry) (new : ForceEntry) :
    State.fixed (State.forceChange s r old new) = State.fixed s := by
  simp [State.forceChange]
@[simp] theorem State.putForces_fixed (s : State) (r : CmdRef) (fs : List ForceEntry) :
    State.fixed (State.putForces s r fs) = State.fixed s := by
  simp [State.putForces]
@[simp] theorem State.applyRecords_fixed (s : State) (r : CmdRef) :
    State.fixed (State.applyRecords s r) = State.fixed s := by
  simp [State.applyRecords]
@[simp] theorem State.makeApply_fixed (s : State) (a : ApplySt) (new : Option Image) :
    State.fixed (State.makeApply s a new) = State.fixed s := by
  unfold State.makeApply; split <;> simp
@[simp] theorem State.graftFails_fixed (s : State) (a : ApplySt) (item : Nat) :
    State.fixed (State.graftFails s a item) = State.fixed s := by
  simp [State.graftFails]
@[simp] theorem State.ftgenFails_fixed (s : State) (a : ApplySt) :
    State.fixed (State.ftgenFails s a) = State.fixed s := by
  simp [State.ftgenFails]
@[simp] theorem State.doApply_fixed (s : State) (a : ApplySt) :
    State.fixed (State.doApply s a) = State.fixed s := by
  unfold State.doApply; dsimp only; (repeat' split) <;> simp_all
@[simp] theorem State.applyStep_fixed (s : State) :
    State.fixed (State.applyStep s) = State.fixed s := by
  unfold State.applyStep; split <;> simp
@[simp] theorem State.finishApply_fixed (s : State) :
    State.fixed (State.finishApply s) = State.fixed s := by
  unfold State.finishApply; split <;> simp
@[simp] theorem State.bootSettings_fixed (s : State) :
    State.fixed (State.bootSettings s) = State.fixed s := by
  unfold State.bootSettings; dsimp only; (repeat' split) <;> simp_all
@[simp] theorem State.forceDone_fixed (s : State) (f : ForceCmd) (status : Nat) (code : Nat) :
    State.fixed (State.forceDone s f status code) = State.fixed s := by
  simp [State.forceDone]
@[simp] theorem State.setForceNow_fixed (s : State) (f : ForceCmd) :
    State.fixed (State.setForceNow s f) = State.fixed s := by
  unfold State.setForceNow; dsimp only; (repeat' split) <;> simp_all
@[simp] theorem State.clearForceNow_fixed (s : State) (f : ForceCmd) :
    State.fixed (State.clearForceNow s f) = State.fixed s := by
  unfold State.clearForceNow; dsimp only; (repeat' split) <;> simp_all
@[simp] theorem State.forceNow_fixed (s : State) (f : ForceCmd) :
    State.fixed (State.forceNow s f) = State.fixed s := by
  simp [State.forceNow]
@[simp] theorem State.forceStep_fixed (s : State) :
    State.fixed (State.forceStep s) = State.fixed s := by
  simp [State.forceStep]
@[simp] theorem State.endCheck_fixed (s : State) (r : CmdRef) (res : CheckRes) (lanes : List Lane) (passed : Lane → Bool) :
    State.fixed (State.endCheck s r res lanes passed) = State.fixed s := by
  simp [State.endCheck]
theorem execStageCheckDone_fixed (differs : Trio Bool) (s : State) :
    ∀ t, (execStageCheckDone differs s) = .next t → State.fixed t = State.fixed s := by
  rintro _ ⟨⟩; dsimp only; (repeat' split) <;> simp_all
@[simp] theorem State.maintStep_fixed (s : State) :
    State.fixed (State.maintStep s) = State.fixed s := by
  unfold State.maintStep; split <;> simp
@[simp] theorem State.makeTransition_fixed (s : State) (target : LcState) (r : CmdRef) (signer : Nat) (reason : Bytes) :
    State.fixed (State.makeTransition s target r signer reason) = State.fixed s := by
  simp [State.makeTransition]
@[simp] theorem State.refuseTransition_fixed (s : State) (target : Nat) (r : CmdRef) (signer : Nat) (status : Nat) :
    State.fixed (State.refuseTransition s target r signer status) = State.fixed s := by
  simp [State.refuseTransition]
@[simp] theorem State.lcStep_fixed (s : State) :
    State.fixed (State.lcStep s) = State.fixed s := by
  unfold State.lcStep; dsimp only; (repeat' split) <;> simp_all
@[simp] theorem State.lcErase_fixed (s : State) (src : LcState) (target : LcState) :
    State.fixed (State.lcErase s src target) = State.fixed s := by
  unfold State.lcErase; split <;> simp
@[simp] theorem State.lcNow_fixed (s : State) (target : LcState) (r : CmdRef) (signer : Nat) (reason : Bytes) :
    State.fixed (State.lcNow s target r signer reason) = State.fixed s := by
  simp [State.lcNow]
@[simp] theorem State.latchTamperAt_fixed (s : State) (wt : Nat) :
    State.fixed (State.latchTamperAt s wt) = State.fixed s := by
  simp [State.latchTamperAt]
@[simp] theorem State.latchTamper_fixed (s : State) :
    State.fixed (State.latchTamper s) = State.fixed s := by
  simp [State.latchTamper]
@[simp] theorem State.unpoweredOpening_fixed (s : State) :
    State.fixed (State.unpoweredOpening s) = State.fixed s := by
  simp [State.unpoweredOpening]
theorem execTamperSwitchOpen_fixed (s : State) :
    ∀ t, (execTamperSwitchOpen s) = .next t → State.fixed t = State.fixed s := by
  rintro _ ⟨⟩; simp
theorem execSealLoopCheck_fixed (intact : Bool) (s : State) :
    ∀ t, (execSealLoopCheck intact s) = .next t → State.fixed t = State.fixed s := by
  rintro _ ⟨⟩; simp
theorem execUnpoweredEnclosureOpening_fixed (s : State) :
    ∀ t, (execUnpoweredEnclosureOpening s) = .next t → State.fixed t = State.fixed s := by
  rintro _ ⟨⟩; simp
@[simp] theorem State.bootTamper_fixed (s : State) (loopOk : Bool) (unfed : Bool) (downOt : Nat) :
    State.fixed (State.bootTamper s loopOk unfed downOt) = State.fixed s := by
  simp [State.bootTamper]
theorem execUpdVerifyDone_fixed (s : State) :
    ∀ t, (execUpdVerifyDone s) = .next t → State.fixed t = State.fixed s := by
  rintro _ ⟨⟩; (repeat' split) <;> simp
theorem execUpdateSessionTimeout_fixed (s : State) :
    ∀ t, (execUpdateSessionTimeout s) = .next t → State.fixed t = State.fixed s := by
  rintro _ ⟨⟩; simp
@[simp] theorem State.actProgress_fixed (s : State) (step : Nat) :
    State.fixed (State.actProgress s step) = State.fixed s := by
  unfold State.actProgress; split <;> simp
@[simp] theorem State.beginTurn_fixed (s : State) (a : ActSt) (lane : Lane) :
    State.fixed (State.beginTurn s a lane) = State.fixed s := by
  simp [State.beginTurn]
@[simp] theorem State.turnStart_fixed (s : State) :
    State.fixed (State.turnStart s) = State.fixed s := by
  unfold State.turnStart; (repeat' split) <;> simp
theorem execLaneTurn_fixed (lane : Lane) (s : State) :
    ∀ t, (execLaneTurn lane s) = .next t → State.fixed t = State.fixed s := by
  rintro _ ⟨⟩; (repeat' split) <;> simp
theorem execKernelLoadDone_fixed (lane : Lane) (s : State) :
    ∀ t, (execKernelLoadDone lane s) = .next t → State.fixed t = State.fixed s := by
  rintro _ ⟨⟩; simp
@[simp] theorem State.turnEnds_fixed (s : State) (l : Lane) :
    State.fixed (State.turnEnds s l) = State.fixed s := by
  unfold State.turnEnds; split <;> simp
@[simp] theorem State.switchLevel_fixed (s : State) :
    State.fixed (State.switchLevel s) = State.fixed s := by
  unfold State.switchLevel; split <;> simp
@[simp] theorem State.switchStart_fixed (s : State) :
    State.fixed (State.switchStart s) = State.fixed s := by
  simp [State.switchStart]
theorem execLevelSwitch_fixed (s : State) :
    ∀ t, (execLevelSwitch s) = .next t → State.fixed t = State.fixed s := by
  rintro _ ⟨⟩; simp
@[simp] theorem State.actStart_fixed (s : State) :
    State.fixed (State.actStart s) = State.fixed s := by
  unfold State.actStart; split <;> simp
theorem execImageConfirmed_fixed (s : State) :
    ∀ t, (execImageConfirmed s) = .next t → State.fixed t = State.fixed s := by
  rintro _ ⟨⟩; (repeat' split) <;> simp
theorem execPostActivationTimeout_fixed (s : State) :
    ∀ t, (execPostActivationTimeout s) = .next t → State.fixed t = State.fixed s := by
  rintro _ ⟨⟩; (repeat' split) <;> simp
@[simp] theorem State.putSend_fixed (s : State) (r : SendRec) :
    State.fixed (State.putSend s r) = State.fixed s := by
  rfl
@[simp] theorem State.putFb_fixed (s : State) (off : Nat) (b : Bytes) :
    State.fixed (State.putFb s off b) = State.fixed s := by
  rfl
@[simp] theorem State.commitItem_fixed (held : List CmdRef) (s : State) (x2 : MirrorItem) :
    State.fixed (State.commitItem held s x2) = State.fixed s := by
  unfold State.commitItem; split <;> simp
@[simp] theorem State.commitSet_fixed (s : State) (is : List MirrorItem) : State.fixed (s.commitSet is) = State.fixed s := by
  unfold State.commitSet; dsimp only
  rw [State.bindForces_fixed, State.each_fixed _ _ _ (State.commitItem_fixed _)]; rfl
@[simp] theorem State.unconfirm_fixed (s : State) (is : List MirrorItem) :
    State.fixed (State.unconfirm s is) = State.fixed s := by
  rfl
@[simp] theorem State.sbAnswer_fixed (s : State) (ini : Initiator) (win : Nat) (off : Nat) (op : Nat) (fstat : Nat) (retry : Bool) (data : Bytes) :
    State.fixed (State.sbAnswer s ini win off op fstat retry data) = State.fixed s := by
  rfl
@[simp] theorem State.takeSbSeq_fixed (s : State) :
    State.fixed (State.takeSbSeq s).2 = State.fixed s := by
  rfl
@[simp] theorem State.sendBridge_fixed (s : State) (dst : Nat) (seq : Nat) (payload : Bytes) :
    State.fixed (State.sendBridge s dst seq payload) = State.fixed s := by
  simp [State.sendBridge]
@[simp] theorem State.sendXfer_fixed (s : State) (x : Xfer) :
    State.fixed (State.sendXfer s x) = State.fixed s := by
  simp [State.sendXfer]
@[simp] theorem State.pumpWindow_fixed (s : State) (w : Nat) :
    State.fixed (State.pumpWindow s w) = State.fixed s := by
  unfold State.pumpWindow; dsimp only; (repeat' split) <;> simp_all
@[simp] theorem State.finishXfer_fixed (s : State) (x : Xfer) (fstat : Nat) (data : Bytes) :
    State.fixed (State.finishXfer s x fstat data) = State.fixed s := by
  simp [State.finishXfer]
@[simp] theorem State.spoil_fixed (s : State) (win : Nat) (off : Nat) (len : Nat) :
    State.fixed (State.spoil s win off len) = State.fixed s := by
  rfl
@[simp] theorem State.sbTake_fixed (s : State) (ini : Initiator) (win : Nat) (off : Nat) (op : Nat) (len : Nat) (data : Bytes) :
    State.fixed (State.sbTake s ini win off op len data) = State.fixed s := by
  simp [State.sbTake]
@[simp] theorem State.postedOff_fixed (s : State) (win : Nat) (off : Nat) (data : Bytes) :
    State.fixed (State.postedOff s win off data) = State.fixed s := by
  simp [State.postedOff]
@[simp] theorem State.sbIssueWrite_fixed (s : State) (ini : Initiator) (win : Nat) (off : Nat) (op : Nat) (data : Bytes) :
    State.fixed (State.sbIssueWrite s ini win off op data) = State.fixed s := by
  unfold State.sbIssueWrite; split <;> simp
@[simp] theorem State.sbIssueRead_fixed (s : State) (ini : Initiator) (win : Nat) (off : Nat) (len : Nat) :
    State.fixed (State.sbIssueRead s ini win off len) = State.fixed s := by
  unfold State.sbIssueRead; (repeat' split) <;> simp
theorem execSbWrite_fixed (win : Nat) (off : Nat) (data : Bytes) (s : State) :
    ∀ t, (execSbWrite win off data s) = .next t → State.fixed t = State.fixed s := by
  rintro _ ⟨⟩; simp
theorem execSbRead_fixed (win : Nat) (off : Nat) (len : Nat) (s : State) :
    ∀ t, (execSbRead win off len s) = .next t → State.fixed t = State.fixed s := by
  rintro _ ⟨⟩; simp
theorem execSbPostedWrite_fixed (win : Nat) (off : Nat) (data : Bytes) (s : State) :
    ∀ t, (execSbPostedWrite win off data s) = .next t → State.fixed t = State.fixed s := by
  rintro _ ⟨⟩; simp
@[simp] theorem State.laneTransfer_fixed (s : State) (t : LaneTransfer) :
    State.fixed (State.laneTransfer s t) = State.fixed s := by
  unfold State.laneTransfer; split <;> simp
@[simp] theorem State.laneTransfers_fixed (s : State) (issued : Trio (List LaneTransfer)) :
    State.fixed (State.laneTransfers s issued) = State.fixed s := by
  simp [State.laneTransfers]
@[simp] theorem State.freezeBridge_fixed (s : State) :
    State.fixed (State.freezeBridge s) = State.fixed s := by
  rfl
@[simp] theorem State.serve_fixed (s : State) (bop : Nat) (addr : Nat) (len : Nat) (data : Bytes) :
    State.fixed (State.serve s bop addr len data).2.2 = State.fixed s := by
  unfold State.serve; dsimp only; (repeat' split) <;> simp_all
@[simp] theorem State.inbound_fixed (s : State) (g : Gvt) :
    State.fixed (State.inbound s g) = State.fixed s := by
  unfold State.inbound; dsimp only; (repeat' split) <;> simp_all
@[simp] theorem State.completion_fixed (s : State) (g : Gvt) :
    State.fixed (State.completion s g) = State.fixed s := by
  unfold State.completion; split <;> simp
@[simp] theorem State.tvFail_fixed (s : State) :
    State.fixed (State.tvFail s) = State.fixed s := by
  simp [State.tvFail]
theorem execBridgeFrameReceived_fixed (net : Net) (f : Frame) (s : State) :
    ∀ t, (execBridgeFrameReceived net f s) = .next t → State.fixed t = State.fixed s := by
  rintro _ ⟨⟩; dsimp only; split
  · rfl
  · refine State.notOwn_fixed _ _ _ ?_; (repeat' split) <;> simp
theorem execSbTransferTimeout_fixed (seq : Nat) (s : State) :
    ∀ t, (execSbTransferTimeout seq s) = .next t → State.fixed t = State.fixed s := by
  rintro _ ⟨⟩; (repeat' split) <;> simp
theorem execSbBusyRetry_fixed (seq : Nat) (s : State) :
    ∀ t, (execSbBusyRetry seq s) = .next t → State.fixed t = State.fixed s := by
  rintro _ ⟨⟩; (repeat' split) <;> simp
theorem execSbHeldResultExpiry_fixed (vk : Bool) (win : Nat) (off : Nat) (len : Nat) (s : State) :
    ∀ t, (execSbHeldResultExpiry vk win off len s) = .next t → State.fixed t = State.fixed s := by
  rintro _ ⟨⟩; simp
@[simp] theorem State.updPair_fixed (s : State) (f : PairSt → PairSt) :
    State.fixed (State.updPair s f) = State.fixed s := by
  rfl
theorem execPstartReceived_fixed (m : PStart) (us : Nat) (s : State) :
    ∀ t, (execPstartReceived m us s) = .next t → State.fixed t = State.fixed s := by
  rintro _ ⟨⟩; simp
theorem execMblockReceived_fixed (m : MBlock) (s : State) :
    ∀ t, (execMblockReceived m s) = .next t → State.fixed t = State.fixed s := by
  rintro _ ⟨⟩; simp
theorem execMcloseReceived_fixed (m : MClose) (s : State) :
    ∀ t, (execMcloseReceived m s) = .next t → State.fixed t = State.fixed s := by
  rintro _ ⟨⟩; simp
theorem execPreportReceived_fixed (crcOk : Bool) (h : Health) (s : State) :
    ∀ t, (execPreportReceived crcOk h s) = .next t → State.fixed t = State.fixed s := by
  rintro _ ⟨⟩; simp
@[simp] theorem State.noteCmd_fixed (s : State) (r : CmdRef) :
    State.fixed (State.noteCmd s r) = State.fixed s := by
  rfl
theorem execCmdfwdReceived_fixed (m : CmdFwdMsg) (s : State) :
    ∀ t, (execCmdfwdReceived m s) = .next t → State.fixed t = State.fixed s := by
  rintro _ ⟨⟩; (repeat' split) <;> simp
theorem execHeartbeatReceived_fixed (net : Net) (f : Frame) (s : State) :
    ∀ t, (execHeartbeatReceived net f s) = .next t → State.fixed t = State.fixed s := by
  rintro _ ⟨⟩; dsimp only; split
  · rfl
  · refine State.notOwn_fixed _ _ _ ?_; (repeat' split) <;> simp
@[simp] theorem State.sendHeartbeat_fixed (s : State) :
    State.fixed (State.sendHeartbeat s) = State.fixed s := by
  simp [State.sendHeartbeat]
theorem execPlLinkLoss_fixed (link2 : Bool) (s : State) :
    ∀ t, (execPlLinkLoss link2 s) = .next t → State.fixed t = State.fixed s := by
  rintro _ ⟨⟩; simp
theorem execPlLinkReturn_fixed (link2 : Bool) (s : State) :
    ∀ t, (execPlLinkReturn link2 s) = .next t → State.fixed t = State.fixed s := by
  rintro _ ⟨⟩; simp
theorem execOpticInserted_fixed (link2 : Bool) (kind : Optic) (s : State) :
    ∀ t, (execOpticInserted link2 kind s) = .next t → State.fixed t = State.fixed s := by
  rintro _ ⟨⟩; simp
@[simp] theorem State.pairCmdDone_fixed (s : State) (r : CmdRef) (before : Nat) (after : Nat) (st : Nat) :
    State.fixed (State.pairCmdDone s r before after st) = State.fixed s := by
  simp [State.pairCmdDone]
@[simp] theorem State.endHandover_fixed (s : State) (after : Nat) (st : Nat) :
    State.fixed (State.endHandover s after st) = State.fixed s := by
  unfold State.endHandover; split <;> simp
@[simp] theorem State.handoverDone_fixed (s : State) :
    State.fixed (State.handoverDone s) = State.fixed s := by
  simp [State.handoverDone]
@[simp] theorem State.leadWith_fixed (s : State) (e : Nat) :
    State.fixed (State.leadWith s e) = State.fixed s := by
  simp [State.leadWith]
@[simp] theorem State.takeLead_fixed (s : State) :
    State.fixed (State.takeLead s) = State.fixed s := by
  simp [State.takeLead]
@[simp] theorem State.becomeFollow_fixed (s : State) (instep : Nat) :
    State.fixed (State.becomeFollow s instep) = State.fixed s := by
  simp [State.becomeFollow]
@[simp] theorem State.outOfStep_fixed (s : State) :
    State.fixed (State.outOfStep s) = State.fixed s := by
  simp [State.outOfStep]
@[simp] theorem State.relinquish_fixed (s : State) :
    State.fixed (State.relinquish s) = State.fixed s := by
  simp [State.relinquish]
@[simp] theorem State.takeIfDue_fixed (s : State) :
    State.fixed (State.takeIfDue s) = State.fixed s := by
  simp [State.takeIfDue]
theorem execPartnerSilent_fixed (s : State) :
    ∀ t, (execPartnerSilent s) = .next t → State.fixed t = State.fixed s := by
  rintro _ ⟨⟩; simp
theorem execRevertHoldOff_fixed (s : State) :
    ∀ t, (execRevertHoldOff s) = .next t → State.fixed t = State.fixed s := by
  rintro _ ⟨⟩; simp
@[simp] theorem State.comeInStep_fixed (s : State) :
    State.fixed (State.comeInStep s) = State.fixed s := by
  simp [State.comeInStep]
theorem execInStep_fixed (s : State) :
    ∀ t, (execInStep s) = .next t → State.fixed t = State.fixed s := by
  rintro _ ⟨⟩; simp
@[simp] theorem State.endConflict_fixed (s : State) :
    State.fixed (State.endConflict s) = State.fixed s := by
  simp [State.endConflict]
theorem execLeadClaimConflict_fixed (s : State) :
    ∀ t, (execLeadClaimConflict s) = .next t → State.fixed t = State.fixed s := by
  rintro _ ⟨⟩; simp
@[simp] theorem State.joinRestart_fixed (s : State) :
    State.fixed (State.joinRestart s) = State.fixed s := by
  simp [State.joinRestart]
@[simp] theorem State.joinExpiry_fixed (s : State) :
    State.fixed (State.joinExpiry s) = State.fixed s := by
  simp [State.joinExpiry]
theorem execJoinWaitExpiry_fixed (s : State) :
    ∀ t, (execJoinWaitExpiry s) = .next t → State.fixed t = State.fixed s := by
  rintro _ ⟨⟩; simp
theorem execPairApplyTimeout_fixed (s : State) :
    ∀ t, (execPairApplyTimeout s) = .next t → State.fixed t = State.fixed s := by
  rintro _ ⟨⟩; simp
@[simp] theorem State.dropFar_fixed (s : State) :
    State.fixed (State.dropFar s) = State.fixed s := by
  simp [State.dropFar]
@[simp] theorem State.startJoining_fixed (s : State) :
    State.fixed (State.startJoining s) = State.fixed s := by
  simp [State.startJoining]
@[simp] theorem State.fallSilent_fixed (s : State) :
    State.fixed (State.fallSilent s) = State.fixed s := by
  simp [State.fallSilent]
@[simp] theorem State.pairCount_fixed (s : State) :
    State.fixed (State.pairCount s) = State.fixed s := by
  unfold State.pairCount; split <;> simp
@[simp] theorem State.countSilence_fixed (s : State) :
    State.fixed (State.countSilence s) = State.fixed s := by
  simp [State.countSilence]
@[simp] theorem State.adoptEpoch_fixed (s : State) :
    State.fixed (State.adoptEpoch s) = State.fixed s := by
  simp [State.adoptEpoch]
@[simp] theorem State.claims_fixed (s : State) :
    State.fixed (State.claims s) = State.fixed s := by
  simp [State.claims]
@[simp] theorem State.compareOne_fixed (s : State) (h : Health) :
    State.fixed (State.compareOne s h) = State.fixed s := by
  unfold State.compareOne; split <;> simp
@[simp] theorem State.compareReports_fixed (s : State) :
    State.fixed (State.compareReports s) = State.fixed s := by
  simp [State.compareReports]
@[simp] theorem State.keepOwn_fixed (s : State) (is : List MirrorItem) :
    State.fixed (State.keepOwn s is) = State.fixed s := by
  simp [State.keepOwn]
@[simp] theorem State.commitMirror_fixed (s : State) :
    State.fixed (State.commitMirror s) = State.fixed s := by
  unfold State.commitMirror; dsimp only; (repeat' split) <;> simp_all
@[simp] theorem State.phaseCheck_fixed (s : State) :
    State.fixed (State.phaseCheck s) = State.fixed s := by
  simp [State.phaseCheck]
@[simp] theorem State.phaseCorrect_fixed (s : State) :
    State.fixed (State.phaseCorrect s) = State.fixed s := by
  rfl
@[simp] theorem State.assumeNow_fixed (s : State) :
    State.fixed (State.assumeNow s) = State.fixed s := by
  unfold State.assumeNow; split <;> simp
@[simp] theorem State.mirrorAbandon_fixed (s : State) :
    State.fixed (State.mirrorAbandon s) = State.fixed s := by
  simp [State.mirrorAbandon]
@[simp] theorem State.holdRestart_fixed (s : State) :
    State.fixed (State.holdRestart s) = State.fixed s := by
  simp [State.holdRestart]
@[simp] theorem State.pairStart_fixed (s : State) :
    State.fixed (State.pairStart s) = State.fixed s := by
  simp [State.pairStart]
@[simp] theorem State.pairClaim_fixed (s : State) :
    State.fixed (State.pairClaim s) = State.fixed s := by
  simp [State.pairClaim]
@[simp] theorem State.noteEntered_fixed (s : State) (ops : List OpCmd) :
    State.fixed (State.noteEntered s ops) = State.fixed s := by
  simp [State.noteEntered]
@[simp] theorem State.opsOf_fixed (s : State) :
    State.fixed (State.opsOf s).2 = State.fixed s := by
  unfold State.opsOf; split <;> simp
@[simp] theorem State.numberOp_fixed (x : List OpCmd × State) (o : OpCmd) : State.fixed (State.numberOp x o).2 = State.fixed x.2 := by
  unfold State.numberOp; split <;> simp
@[simp] theorem State.numberOps_fixed (os : List OpCmd) (x : List OpCmd × State) :
    State.fixed (os.foldl State.numberOp x).2 = State.fixed x.2 := by
  induction os generalizing x with
  | nil => rfl
  | cons o os ih => rw [List.foldl_cons, ih, State.numberOp_fixed]
@[simp] theorem State.takeOps_fixed (s : State) :
    State.fixed (State.takeOps s).2 = State.fixed s := by
  unfold State.takeOps; dsimp only; split <;> simp
@[simp] theorem State.holdForces_fixed (s : State) :
    State.fixed (State.holdForces s) = State.fixed s := by
  simp [State.holdForces]
@[simp] theorem State.listForce_fixed (s : State) (c : ForceCmd) :
    State.fixed (State.listForce s c) = State.fixed s := by
  simp [State.listForce]
@[simp] theorem State.listApply_fixed (s : State) :
    State.fixed (State.listApply s) = State.fixed s := by
  rfl
@[simp] theorem State.takeLists_fixed (s : State) :
    State.fixed (State.takeLists s) = State.fixed s := by
  unfold State.takeLists; split <;> simp
@[simp] theorem State.sendPstart_fixed (s : State) (ops : List OpCmd) :
    State.fixed (State.sendPstart s ops) = State.fixed s := by
  simp [State.sendPstart]
@[simp] theorem State.formReport_fixed (s : State) :
    State.fixed (State.formReport s) = State.fixed s := by
  rfl
@[simp] theorem State.pairDone_fixed (s : State) :
    State.fixed (State.pairDone s) = State.fixed s := by
  simp [State.pairDone]
theorem execMcloseSend_fixed (s : State) :
    ∀ t, (execMcloseSend s) = .next t → State.fixed t = State.fixed s := by
  rintro _ ⟨⟩; simp
@[simp] theorem State.sendTunnel_fixed (s : State) (n : Nat) (seq : Nat) (data : Bytes) :
    State.fixed (State.sendTunnel s n seq data) = State.fixed s := by
  simp [State.sendTunnel]
@[simp] theorem State.carry_fixed (s : State) (n : Nat) (data : Bytes) :
    State.fixed (State.carry s n data) = State.fixed s := by
  simp [State.carry]
@[simp] theorem State.carryOr_fixed (s : State) (n : Nat) (data : Bytes) :
    State.fixed (State.carryOr s n data) = State.fixed s := by
  simp [State.carryOr]
@[simp] theorem State.lineFrame_fixed (s : State) (port : Nat) (data : Bytes) (bad : Bool) :
    State.fixed (State.lineFrame s port data bad) = State.fixed s := by
  unfold State.lineFrame; dsimp only; (repeat' split) <;> simp_all
theorem execLegacyFrameReceived_fixed (port : Nat) (data : Bytes) (ending : LegacyEnd) (s : State) :
    ∀ t, (execLegacyFrameReceived port data ending s) = .next t → State.fixed t = State.fixed s := by
  rintro _ ⟨⟩; dsimp only; (repeat' split) <;> simp_all
@[simp] theorem State.tunnelData_fixed (s : State) (n : Nat) (g : Gvt) :
    State.fixed (State.tunnelData s n g) = State.fixed s := by
  simp [State.tunnelData]
theorem execTunnelFrameReceived_fixed (net : Net) (f : Frame) (s : State) :
    ∀ t, (execTunnelFrameReceived net f s) = .next t → State.fixed t = State.fixed s := by
  rintro _ ⟨⟩; dsimp only; split
  · rfl
  · refine State.notOwn_fixed _ _ _ ?_; (repeat' split) <;> simp
theorem execLegacyTransmit_fixed (tunnel : Nat) (s : State) :
    ∀ t, (execLegacyTransmit tunnel s) = .next t → State.fixed t = State.fixed s := by
  rintro _ ⟨⟩; dsimp only; (repeat' split) <;> simp_all
theorem execTunnelKeepalive_fixed (tunnel : Nat) (s : State) :
    ∀ t, (execTunnelKeepalive tunnel s) = .next t → State.fixed t = State.fixed s := by
  rintro _ ⟨⟩; simp
theorem execTunnelDown_fixed (tunnel : Nat) (s : State) :
    ∀ t, (execTunnelDown tunnel s) = .next t → State.fixed t = State.fixed s := by
  rintro _ ⟨⟩; simp
@[simp] theorem State.latchCurrent_fixed (s : State) (c : Nat) :
    State.fixed (State.latchCurrent s c) = State.fixed s := by
  simp [State.latchCurrent]
@[simp] theorem State.latchStatus_fixed (s : State) :
    State.fixed (State.latchStatus s) = State.fixed s := by
  simp [State.latchStatus]
@[simp] theorem State.updCyc_fixed (s : State) (f : CycleSt → CycleSt) :
    State.fixed (State.updCyc s f) = State.fixed s := by
  rfl
@[simp] theorem State.advanceSends_fixed (s : State) (conns : List Nat) :
    State.fixed (State.advanceSends s conns) = State.fixed s := by
  rfl
@[simp] theorem State.putForm_fixed (s : State) (f : VoteForm) :
    State.fixed (State.putForm s f) = State.fixed s := by
  rfl
@[simp] theorem State.holdForm_fixed (s : State) :
    State.fixed (State.holdForm s) = State.fixed s := by
  rfl
@[simp] theorem State.keepImage_fixed (s : State) (f : VoteForm) :
    State.fixed (State.keepImage s f) = State.fixed s := by
  rfl
@[simp] theorem State.tickCompare_fixed (s : State) (t : Trio Nat) :
    State.fixed (State.tickCompare s t) = State.fixed s := by
  unfold State.tickCompare; dsimp only; (repeat' split) <;> simp_all
@[simp] theorem State.otsCheck_fixed (s : State) (t : Trio Nat) :
    State.fixed (State.otsCheck s t) = State.fixed s := by
  simp [State.otsCheck]
@[simp] theorem State.eventEffects_fixed (s : State) :
    State.fixed (State.eventEffects s) = State.fixed s := by
  simp [State.eventEffects]
@[simp] theorem State.fbStores_fixed (s : State) (env : StartEnv) (ls : List Lane) :
    State.fixed (State.fbStores s env ls) = State.fixed s := by
  simp [State.fbStores]
@[simp] theorem State.exercise_fixed (s : State) (env : StartEnv) :
    State.fixed (State.exercise s env) = State.fixed s := by
  simp [State.exercise]
@[simp] theorem State.syncPass_fixed (s : State) :
    State.fixed (State.syncPass s) = State.fixed s := by
  simp [State.syncPass]
@[simp] theorem State.enterMode_fixed (s : State) (m : ExecMode) :
    State.fixed (State.enterMode s m) = State.fixed s := by
  simp [State.enterMode]
@[simp] theorem State.modeStep_fixed (s : State) :
    State.fixed (State.modeStep s) = State.fixed s := by
  unfold State.modeStep; dsimp only; (repeat' split) <;> simp_all
@[simp] theorem State.rejoinLane_fixed (s : State) (l : Lane) :
    State.fixed (State.rejoinLane s l) = State.fixed s := by
  simp [State.rejoinLane]
@[simp] theorem State.resyncEntry_fixed (s : State) :
    State.fixed (State.resyncEntry s) = State.fixed s := by
  unfold State.resyncEntry; (repeat' split) <;> simp
@[simp] theorem State.stagedWork_fixed (s : State) :
    State.fixed (State.stagedWork s) = State.fixed s := by
  simp [State.stagedWork]
@[simp] theorem State.formCore_fixed (s : State) :
    State.fixed (State.formCore s) = State.fixed s := by
  rfl
@[simp] theorem State.fbStep_fixed (s : State) :
    State.fixed (State.fbStep s) = State.fixed s := by
  simp [State.fbStep]
@[simp] theorem State.runPasses_fixed (s : State) (ops : List OpCmd) (dt : Nat) :
    State.fixed (State.runPasses s ops dt) = State.fixed s := by
  simp [State.runPasses]
@[simp] theorem State.runCycle_fixed (s : State) (ops : List OpCmd) (dt : Nat) :
    State.fixed (State.runCycle s ops dt) = State.fixed s := by
  simp [State.runCycle]
@[simp] theorem State.readCommons_fixed (s : State) :
    State.fixed (State.readCommons s) = State.fixed s := by
  simp [State.readCommons]
@[simp] theorem State.compute_fixed (s : State) (dt : Nat) :
    State.fixed (State.compute s dt) = State.fixed s := by
  unfold State.compute; dsimp only; (repeat' split) <;> simp_all
@[simp] theorem State.takeTicks_fixed (s : State) (t : Trio Nat) :
    State.fixed (State.takeTicks s t) = State.fixed s := by
  rfl
@[simp] theorem State.beforeSnapshot_fixed (s : State) :
    State.fixed (State.beforeSnapshot s) = State.fixed s := by
  simp [State.beforeSnapshot]
@[simp] theorem State.cycleStart_fixed (s : State) (env : StartEnv) :
    State.fixed (State.cycleStart s env) = State.fixed s := by
  simp [State.cycleStart]
@[simp] theorem State.overrunCheck_fixed (s : State) :
    State.fixed (State.overrunCheck s) = State.fixed s := by
  unfold State.overrunCheck; (repeat' split) <;> simp
theorem execOverrunLimit_fixed (s : State) :
    ∀ t, (execOverrunLimit s) = .next t → State.fixed t = State.fixed s := by
  rintro _ ⟨⟩; simp
@[simp] theorem State.skipSlot_fixed (s : State) :
    State.fixed (State.skipSlot s) = State.fixed s := by
  simp [State.skipSlot]
@[simp] theorem State.withdrawLate_fixed (s : State) (l : Lane) :
    State.fixed (State.withdrawLate s l) = State.fixed s := by
  simp [State.withdrawLate]
@[simp] theorem State.doneMissing_fixed (s : State) (env : StartEnv) :
    State.fixed (State.doneMissing s env) = State.fixed s := by
  simp [State.doneMissing]
@[simp] theorem State.copyAbandon_fixed (s : State) :
    State.fixed (State.copyAbandon s) = State.fixed s := by
  unfold State.copyAbandon; split <;> simp
@[simp] theorem State.dueTime_fixed (s : State) (env : StartEnv) :
    State.fixed (State.dueTime s env) = State.fixed s := by
  simp [State.dueTime]
@[simp] theorem State.enterSplit_fixed (s : State) (l : Lane) :
    State.fixed (State.enterSplit s l) = State.fixed s := by
  simp [State.enterSplit]
@[simp] theorem State.leaveSplit_fixed (s : State) (old : State) (l : Lane) :
    State.fixed (State.leaveSplit s old l) = State.fixed s := by
  simp [State.leaveSplit]
@[simp] theorem State.sendNonVital_fixed (s : State) :
    State.fixed (State.sendNonVital s) = State.fixed s := by
  simp [State.sendNonVital]
@[simp] theorem State.splitForm_fixed (s : State) (ops : List OpCmd) (dt : Nat) :
    State.fixed (State.splitForm s ops dt) = State.fixed s := by
  unfold State.splitForm; split <;> simp
@[simp] theorem State.splitStart_fixed (s : State) (env : StartEnv) :
    State.fixed (State.splitStart s env).2 = State.fixed s := by
  unfold State.splitStart; dsimp only
  rw [State.snapConns_fixed, State.readCommons_fixed, State.takeOps_fixed, State.freezeAll_fixed, State.latchAll_fixed,
    State.beforeSnapshot_fixed, State.updCyc_fixed]
@[simp] theorem State.splitRun_fixed (s : State) (env : StartEnv) :
    State.fixed (State.splitRun s env) = State.fixed s := by
  unfold State.splitRun; dsimp only
  rw [State.latchStatus_fixed, State.latchSummary_fixed, State.finishApply_fixed, State.flushCompl_fixed, State.updCyc_fixed, State.splitForm_fixed,
    State.splitStart_fixed]
@[simp] theorem State.splitCycle_fixed (s : State) (l : Lane) (env : StartEnv) :
    State.fixed (State.splitCycle s l env) = State.fixed s := by
  simp [State.splitCycle]
theorem execDueMark_fixed (lane : Lane) (env : StartEnv) (s : State) :
    ∀ t, (execDueMark lane env s) = .next t → State.fixed t = State.fixed s := by
  rintro _ ⟨⟩; simp
@[simp] theorem State.recordList_fixed (s : State) (flags : Nat) :
    State.fixed (State.recordList s flags) = State.fixed s := by
  simp [State.recordList]
@[simp] theorem State.recordSafe_fixed (s : State) :
    State.fixed (State.recordSafe s) = State.fixed s := by
  simp [State.recordSafe]
@[simp] theorem State.budget_fixed (s : State) (l : Lane) (t : Nat) :
    State.fixed (State.budget s l t) = State.fixed s := by
  simp [State.budget]
@[simp] theorem State.postDone_fixed (s : State) (comp : Trio Nat) (done : Trio Bool) :
    State.fixed (State.postDone s comp done) = State.fixed s := by
  simp [State.postDone]
@[simp] theorem State.safetyLimit_fixed (s : State) :
    State.fixed (State.safetyLimit s) = State.fixed s := by
  unfold State.safetyLimit; split <;> simp
theorem execSafetyCodeFailLimit_fixed (s : State) :
    ∀ t, (execSafetyCodeFailLimit s) = .next t → State.fixed t = State.fixed s := by
  rintro _ ⟨⟩; simp
@[simp] theorem State.cycleEnd_fixed (s : State) :
    State.fixed (State.cycleEnd s) = State.fixed s := by
  simp [State.cycleEnd]
@[simp] theorem State.cycleDone_fixed (s : State) (comp : Trio Nat) (done : Trio Bool) :
    State.fixed (State.cycleDone s comp done) = State.fixed s := by
  simp [State.cycleDone]
@[simp] theorem State.shadow_fixed (s : State) (forms : Trio FormIn) (f : VoteForm) :
    State.fixed (State.shadow s forms f) = State.fixed s := by
  unfold State.shadow; (repeat' split) <;> simp
@[simp] theorem State.minority_fixed (s : State) (forms : Trio FormIn) (f : VoteForm) (l : Lane) :
    State.fixed (State.minority s forms f l) = State.fixed s := by
  unfold State.minority; split <;> simp
@[simp] theorem State.afterVote_fixed (s : State) (f : VoteForm) (issued : Trio (List LaneTransfer)) :
    State.fixed (State.afterVote s f issued) = State.fixed s := by
  simp [State.afterVote]
@[simp] theorem State.stampForms_fixed (s : State) (forms : Trio FormIn) :
    State.fixed (State.stampForms s forms) = State.fixed s := by
  rfl
theorem execExchangeClose_fixed (forms : Trio FormIn) (issued : Trio (List LaneTransfer)) (comp : Trio Nat) (done : Trio Bool) (s : State) :
    ∀ t, (execExchangeClose forms issued comp done s) = .next t → State.fixed t = State.fixed s := by
  rintro _ ⟨⟩; dsimp only; (repeat' split) <;> simp_all
@[simp] theorem State.scFailed_fixed (s : State) (conn : Nat) (names : List Lane) :
    State.fixed (State.scFailed s conn names) = State.fixed s := by
  simp [State.scFailed]
@[simp] theorem State.release_fixed (s : State) (k : ConnCfg) (g : Gvt) :
    State.fixed (State.release s k g) = State.fixed s := by
  simp [State.release]
theorem execTelegramRelease_fixed (conn : Nat) (sc1 : Option Nat) (sc2 : Option Nat) (comp : Trio Nat) (done : Trio Bool) (s : State) :
    ∀ t, (execTelegramRelease conn sc1 sc2 comp done s) = .next t → State.fixed t = State.fixed s := by
  rintro _ ⟨⟩; dsimp only; (repeat' split) <;> simp_all
theorem execResyncCopy_fixed (lane : Lane) (r : CopyResult) (s : State) :
    ∀ t, (execResyncCopy lane r s) = .next t → State.fixed t = State.fixed s := by
  rintro _ ⟨⟩; simp
theorem execResyncRetry_fixed (lane : Lane) (s : State) :
    ∀ t, (execResyncRetry lane s) = .next t → State.fixed t = State.fixed s := by
  rintro _ ⟨⟩; simp
theorem execRejoin_fixed (lane : Lane) (s : State) :
    ∀ t, (execRejoin lane s) = .next t → State.fixed t = State.fixed s := by
  rintro _ ⟨⟩; simp
@[simp] theorem State.mismatch_fixed (s : State) (l : Lane) :
    State.fixed (State.mismatch s l) = State.fixed s := by
  simp [State.mismatch]
theorem execComparatorMismatch_fixed (x : Handshake) (s : State) :
    ∀ t, (execComparatorMismatch x s) = .next t → State.fixed t = State.fixed s := by
  rintro _ ⟨⟩; simp
theorem execArbitrationSelfTestDone_fixed (lane : Lane) (core0 : Bool) (core1 : Bool) (cmp : Bool) (s : State) :
    ∀ t, (execArbitrationSelfTestDone lane core0 core1 cmp s) = .next t → State.fixed t = State.fixed s := by
  rintro _ ⟨⟩; (repeat' split) <;> simp
theorem execArbitrationSelfTestTimeout_fixed (lane : Lane) (s : State) :
    ∀ t, (execArbitrationSelfTestTimeout lane s) = .next t → State.fixed t = State.fixed s := by
  rintro _ ⟨⟩; simp
@[simp] theorem State.reloadTables_fixed (s : State) (l : Lane) :
    State.fixed (State.reloadTables s l) = State.fixed s := by
  rfl
@[simp] theorem State.checkPassed_fixed (s : State) (l : Lane) :
    State.fixed (State.checkPassed s l) = State.fixed s := by
  rfl
theorem execRestartCheckDone_fixed (lane : Lane) (cmpOk : Bool) (bankOk : Bool) (s : State) :
    ∀ t, (execRestartCheckDone lane cmpOk bankOk s) = .next t → State.fixed t = State.fixed s := by
  rintro _ ⟨⟩; simp
theorem execProgressTimeout_fixed (lane : Lane) (s : State) :
    ∀ t, (execProgressTimeout lane s) = .next t → State.fixed t = State.fixed s := by
  rintro _ ⟨⟩; simp
theorem execLaneStall_fixed (lane : Lane) (s : State) :
    ∀ t, (execLaneStall lane s) = .next t → State.fixed t = State.fixed s := by
  rintro _ ⟨⟩; simp
theorem execIllegalDualRailCode_fixed (region : Nat) (block : Nat) (s : State) :
    ∀ t, (execIllegalDualRailCode region block s) = .next t → State.fixed t = State.fixed s := by
  rintro _ ⟨⟩; simp
@[simp] theorem State.ofCore_fixed (s : State) (l : Lane) (core : Bool) (f : State → State) (h : ∀ s, State.fixed (f s) = State.fixed s) :
    State.fixed (State.ofCore s l core f) = State.fixed s := by
  simp [State.ofCore, h]
theorem execCacheError_fixed (lane : Lane) (kind : CacheEvent) (s : State) :
    ∀ t, (execCacheError lane kind s) = .next t → State.fixed t = State.fixed s := by
  rintro _ ⟨⟩; refine State.fed_fixed _ _ fun s => State.ofCore_fixed _ _ _ _ fun s => ?_; split <;> simp
theorem execMemoryScrubError_fixed (lane : Lane) (found : ScrubEvent) (s : State) :
    ∀ t, (execMemoryScrubError lane found s) = .next t → State.fixed t = State.fixed s := by
  rintro _ ⟨⟩; refine State.fed_fixed _ _ fun s => State.ofCore_fixed _ _ _ _ fun s => ?_; split <;> simp
theorem execLaneSupplyLoss_fixed (lane : Lane) (s : State) :
    ∀ t, (execLaneSupplyLoss lane s) = .next t → State.fixed t = State.fixed s := by
  rintro _ ⟨⟩; simp
theorem execLaneSupplyReturn_fixed (lane : Lane) (s : State) :
    ∀ t, (execLaneSupplyReturn lane s) = .next t → State.fixed t = State.fixed s := by
  rintro _ ⟨⟩; simp
theorem execCommonsSupplyLoss_fixed (s : State) :
    ∀ t, (execCommonsSupplyLoss s) = .next t → State.fixed t = State.fixed s := by
  rintro _ ⟨⟩; simp
theorem execServiceSupplyLoss_fixed (s : State) :
    ∀ t, (execServiceSupplyLoss s) = .next t → State.fixed t = State.fixed s := by
  rintro _ ⟨⟩; simp
theorem execServiceRegionReturn_fixed (s : State) :
    ∀ t, (execServiceRegionReturn s) = .next t → State.fixed t = State.fixed s := by
  rintro _ ⟨⟩; simp
theorem execTimebaseTrim_fixed (offs : Trio (Option Int)) (s : State) :
    ∀ t, (execTimebaseTrim offs s) = .next t → State.fixed t = State.fixed s := by
  rintro _ ⟨⟩; simp
theorem execTokenOverrun_fixed (s : State) :
    ∀ t, (execTokenOverrun s) = .next t → State.fixed t = State.fixed s := by
  rintro _ ⟨⟩; simp
theorem execTokenRegenerate_fixed (s : State) :
    ∀ t, (execTokenRegenerate s) = .next t → State.fixed t = State.fixed s := by
  rintro _ ⟨⟩; simp
@[simp] theorem State.updTime_fixed (s : State) (f : TimeSt → TimeSt) (h : (f s.time).ot = s.time.ot) :
    State.fixed (s.updTime f) = State.fixed s := by
  simp [State.updTime, h]
theorem execOtCheckpoint_fixed (s : State) :
    ∀ t, (execOtCheckpoint s) = .next t → State.fixed t = State.fixed s := by
  rintro _ ⟨⟩; exact State.fed_fixed _ _ fun s => State.updTime_fixed _ _ rfl
theorem execOtShadowWrite_fixed (s : State) :
    ∀ t, (execOtShadowWrite s) = .next t → State.fixed t = State.fixed s := by
  rintro _ ⟨⟩; simp
theorem execArchiveWindowEnd_fixed (s : State) :
    ∀ t, (execArchiveWindowEnd s) = .next t → State.fixed t = State.fixed s := by
  rintro _ ⟨⟩; simp
theorem execCoalescingWindowEnd_fixed (kind : Nat) (source : Nat) (s : State) :
    ∀ t, (execCoalescingWindowEnd kind source s) = .next t → State.fixed t = State.fixed s := by
  rintro _ ⟨⟩; dsimp only; (repeat' split) <;> simp_all
theorem execDropRecord_fixed (s : State) :
    ∀ t, (execDropRecord s) = .next t → State.fixed t = State.fixed s := by
  rintro _ ⟨⟩; simp
@[simp] theorem State.lastLine_fixed (s : State) (seq : Nat) (f : Fsid) (log : Nat) (seg : Nat) :
    State.fixed (State.lastLine s seq f log seg) = State.fixed s := by
  rfl
theorem execLogSegmentFailure_fixed (log : Log) (segment : Nat) (s : State) :
    ∀ t, (execLogSegmentFailure log segment s) = .next t → State.fixed t = State.fixed s := by
  rintro _ ⟨⟩; simp
@[simp] theorem State.setWt_fixed (s : State) (new : Nat) (source : Nat) (cred : Nat) (session : Nat) (ep : Nat) (cmd : Nat) :
    State.fixed (State.setWt s new source cred session ep cmd) = State.fixed s := by
  simp [State.setWt]
theorem execPtpSync_fixed (offsetUs : Int) (master : PtpMaster) (s : State) :
    ∀ t, (execPtpSync offsetUs master s) = .next t → State.fixed t = State.fixed s := by
  rintro _ ⟨⟩; simp
theorem execPtpUnlock_fixed (s : State) :
    ∀ t, (execPtpUnlock s) = .next t → State.fixed t = State.fixed s := by
  rintro _ ⟨⟩; simp
theorem execEscalation_fixed (fsid : Fsid) (s : State) :
    ∀ t, (execEscalation fsid s) = .next t → State.fixed t = State.fixed s := by
  rintro _ ⟨⟩; simp
theorem execEscalationWindowExpiry_fixed (fsid : Fsid) (s : State) :
    ∀ t, (execEscalationWindowExpiry fsid s) = .next t → State.fixed t = State.fixed s := by
  rintro _ ⟨⟩; simp
theorem execLaneLatchOut_fixed (lane : Lane) (s : State) :
    ∀ t, (execLaneLatchOut lane s) = .next t → State.fixed t = State.fixed s := by
  rintro _ ⟨⟩; simp
theorem execWithdrawalWindowExpiry_fixed (lane : Lane) (s : State) :
    ∀ t, (execWithdrawalWindowExpiry lane s) = .next t → State.fixed t = State.fixed s := by
  rintro _ ⟨⟩; simp
theorem execSafeCountLimit_fixed (s : State) :
    ∀ t, (execSafeCountLimit s) = .next t → State.fixed t = State.fixed s := by
  rintro _ ⟨⟩; simp
theorem execSafeCountWindowExpiry_fixed (s : State) :
    ∀ t, (execSafeCountWindowExpiry s) = .next t → State.fixed t = State.fixed s := by
  rintro _ ⟨⟩; simp
theorem execEventAck_fixed (lane : Lane) (seq : Nat) (s : State) :
    ∀ t, (execEventAck lane seq s) = .next t → State.fixed t = State.fixed s := by
  rintro _ ⟨⟩; simp
@[simp] theorem State.graceOut_fixed (s : State) (parent : Nat) (l : Lane) :
    State.fixed (State.graceOut s parent l) = State.fixed s := by
  simp [State.graceOut]
theorem execGraceExpiry_fixed (seq : Nat) (s : State) :
    ∀ t, (execGraceExpiry seq s) = .next t → State.fixed t = State.fixed s := by
  rintro _ ⟨⟩; (repeat' split) <;> simp
theorem execSettleWindowEnd_fixed (block : Nat) (pass : Bool) (s : State) :
    ∀ t, (execSettleWindowEnd block pass s) = .next t → State.fixed t = State.fixed s := by
  rintro _ ⟨⟩; (repeat' split) <;> simp
theorem execMfSelfCheck_fixed (agree : Bool) (illegal : Bool) (conducting : Trio Bool) (s : State) :
    ∀ t, (execMfSelfCheck agree illegal conducting s) = .next t → State.fixed t = State.fixed s := by
  rintro _ ⟨⟩; simp
theorem execDuoLimit_fixed (s : State) :
    ∀ t, (execDuoLimit s) = .next t → State.fixed t = State.fixed s := by
  rintro _ ⟨⟩; simp
theorem execHoldLimit_fixed (lane : Lane) (s : State) :
    ∀ t, (execHoldLimit lane s) = .next t → State.fixed t = State.fixed s := by
  rintro _ ⟨⟩; simp
@[simp] theorem State.updPow_fixed (s : State) (f : PowerSt → PowerSt) :
    State.fixed (State.updPow s f) = State.fixed s := by
  rfl
@[simp] theorem State.endSpan_fixed (s : State) :
    State.fixed (State.endSpan s) = State.fixed s := by
  simp [State.endSpan]
@[simp] theorem State.archiveCold_fixed (s : State) :
    State.fixed (State.archiveCold s) = State.fixed s := by
  simp [State.archiveCold]
@[simp] theorem State.flush_fixed (s : State) :
    State.fixed (State.flush s) = State.fixed s := by
  unfold State.flush; dsimp only; rw [State.updTime_fixed _ _ rfl]; split
  · exact State.updRecs_fixed _ _
  · rfl
@[simp] theorem State.loadImage_fixed (s : State) :
    State.fixed (State.loadImage s) = State.fixed s := by
  unfold State.loadImage; dsimp only; (repeat' split) <;> simp_all
@[simp] theorem State.bootImage_fixed (s : State) :
    State.fixed (State.bootImage s) = State.fixed s := by
  simp [State.bootImage]
@[simp] theorem State.readOptics_fixed (s : State) :
    State.fixed (State.readOptics s) = State.fixed s := by
  simp [State.readOptics]
@[simp] theorem State.bootChecks_fixed (s : State) (env : BootEnv) (unfed : Bool) (downOt : Nat) :
    State.fixed (State.bootChecks s env unfed downOt) = State.fixed s := by
  simp [State.bootChecks]
@[simp] theorem State.resetBlocks_fixed (s : State) (power : Bool) :
    State.fixed (State.resetBlocks s power) = State.fixed s := by
  rfl
@[simp] theorem State.bootBegin_fixed (s : State) (cause : Nat) (jump : Nat) (env : BootEnv) (unfed : Bool) (downOt : Nat) :
    State.fixed (State.bootBegin s cause jump env unfed downOt) = State.fixed s := by
  unfold State.bootBegin; dsimp only; (repeat' split) <;> simp [Ident.boot]
theorem execBootRestart_fixed (kind : RestartKind) (env : BootEnv) (s : State) :
    ∀ t, (execBootRestart kind env s) = .next t → State.fixed t = State.fixed s := by
  rintro _ ⟨⟩; simp
@[simp] theorem State.trySync_fixed (s : State) :
    State.fixed (State.trySync s) = State.fixed s := by
  simp [State.trySync]
@[simp] theorem State.bootFailed_fixed (s : State) (l : Lane) :
    State.fixed (State.bootFailed s l) = State.fixed s := by
  simp [State.bootFailed]
theorem execLaneBootSelfTestDone_fixed (lane : Lane) (pass : Bool) (s : State) :
    ∀ t, (execLaneBootSelfTestDone lane pass s) = .next t → State.fixed t = State.fixed s := by
  rintro _ ⟨⟩; simp
theorem execBootSelfTestTimeout_fixed (lane : Lane) (s : State) :
    ∀ t, (execBootSelfTestTimeout lane s) = .next t → State.fixed t = State.fixed s := by
  rintro _ ⟨⟩; simp
theorem execSyncTimeout_fixed (s : State) :
    ∀ t, (execSyncTimeout s) = .next t → State.fixed t = State.fixed s := by
  rintro _ ⟨⟩; simp
theorem execBootTemperatureInRange_fixed (s : State) :
    ∀ t, (execBootTemperatureInRange s) = .next t → State.fixed t = State.fixed s := by
  rintro _ ⟨⟩; simp
theorem execPowerFailWarning_fixed (s : State) :
    ∀ t, (execPowerFailWarning s) = .next t → State.fixed t = State.fixed s := by
  rintro _ ⟨⟩; simp
theorem execPowerReturn_fixed (s : State) :
    ∀ t, (execPowerReturn s) = .next t → State.fixed t = State.fixed s := by
  rintro _ ⟨⟩; simp
theorem execInputLoss_fixed (second : Bool) (s : State) :
    ∀ t, (execInputLoss second s) = .next t → State.fixed t = State.fixed s := by
  rintro _ ⟨⟩; simp
theorem execInputRestored_fixed (second : Bool) (s : State) :
    ∀ t, (execInputRestored second s) = .next t → State.fixed t = State.fixed s := by
  rintro _ ⟨⟩; simp
theorem execAddressPlugPoll_fixed (plug : Plug) (s : State) :
    ∀ t, (execAddressPlugPoll plug s) = .next t → State.fixed t = State.fixed s := by
  rintro _ ⟨⟩; simp
theorem execThermalWarning_fixed (s : State) :
    ∀ t, (execThermalWarning s) = .next t → State.fixed t = State.fixed s := by
  rintro _ ⟨⟩; simp
theorem execThermalWarningCleared_fixed (s : State) :
    ∀ t, (execThermalWarningCleared s) = .next t → State.fixed t = State.fixed s := by
  rintro _ ⟨⟩; simp
theorem execThermalTrip_fixed (s : State) :
    ∀ t, (execThermalTrip s) = .next t → State.fixed t = State.fixed s := by
  rintro _ ⟨⟩; simp
@[simp] theorem State.discardRestart_fixed (s : State) (kind : RestartKind) :
    State.fixed (State.discardRestart s kind) = State.fixed s := by
  simp [State.discardRestart]
@[simp] theorem State.askRestart_fixed (s : State) (kind : RestartKind) :
    State.fixed (State.askRestart s kind) = State.fixed s := by
  simp [State.askRestart]
theorem execResetButtonRelease_fixed (ms : Nat) (s : State) :
    ∀ t, (execResetButtonRelease ms s) = .next t → State.fixed t = State.fixed s := by
  rintro _ ⟨⟩; simp
theorem execResetButtonStuck_fixed (s : State) :
    ∀ t, (execResetButtonStuck s) = .next t → State.fixed t = State.fixed s := by
  rintro _ ⟨⟩; simp
theorem execButtonContactDisagree_fixed (s : State) :
    ∀ t, (execButtonContactDisagree s) = .next t → State.fixed t = State.fixed s := by
  rintro _ ⟨⟩; simp
theorem execButtonReenable_fixed (s : State) :
    ∀ t, (execButtonReenable s) = .next t → State.fixed t = State.fixed s := by
  rintro _ ⟨⟩; simp
@[simp] theorem State.updMail_fixed (s : State) (f : MailSt → MailSt) :
    State.fixed (State.updMail s f) = State.fixed s := by
  rfl
@[simp] theorem State.freeBox_fixed (s : State) (mb : Nat) :
    State.fixed (State.freeBox s mb) = State.fixed s := by
  simp [State.freeBox]
theorem State.claim_fixed (s : State) (ep : Nat) (mb : Nat) (key : Nat) :
    ∀ t, (State.claim s ep mb key) = some t → State.fixed t = State.fixed s := by
  intro t h; unfold State.claim at h; (repeat' split at h) <;> simp_all <;> (subst h; simp)
theorem State.release0_fixed (s : State) (ep : Nat) (mb : Nat) :
    ∀ t, (State.release0 s ep mb) = some t → State.fixed t = State.fixed s := by
  intro t h; unfold State.release0 at h; (repeat' split at h) <;> simp_all <;> (subst h; simp)
theorem State.ring_fixed (s : State) (ep : Nat) (mb : Nat) (tag : Nat) :
    ∀ t, (State.ring s ep mb tag) = some t → State.fixed t = State.fixed s := by
  intro t h; unfold State.ring at h; dsimp only at h; (repeat' split at h) <;> simp at h <;> subst h <;> simp
theorem State.ack_fixed (s : State) (ep : Nat) (mb : Nat) :
    ∀ t, (State.ack s ep mb) = some t → State.fixed t = State.fixed s := by
  intro t h; unfold State.ack at h; dsimp only at h; (repeat' split at h) <;> simp at h <;> subst h <;> simp
theorem State.ctlWrite_fixed (s : State) (ep : Nat) (mb : Nat) (off : Nat) (w : Nat) :
    ∀ t, (State.ctlWrite s ep mb off w) = some t → State.fixed t = State.fixed s := by
  intro t h; unfold State.ctlWrite at h; (repeat' split at h) <;> first
    | exact State.claim_fixed _ _ _ _ _ h
    | exact State.release0_fixed _ _ _ _ h
    | exact State.ring_fixed _ _ _ _ _ h
    | exact State.ack_fixed _ _ _ _ h
    | simp at h
@[simp] theorem State.winWrite_fixed (s : State) (ep : Nat) (addr : Nat) (data : Bytes) (who : Option Nat) :
    State.fixed (State.winWrite s ep addr data who).2 = State.fixed s := by
  unfold State.winWrite; dsimp only; (repeat' split) <;> first
    | rfl
    | exact State.ctlWrite_fixed _ _ _ _ _ _ ‹_›
    | simp
@[simp] theorem State.refusedWrite_fixed (s : State) (st : Nat) (addr : Nat) (ep : Nat) :
    State.fixed (State.refusedWrite s st addr ep) = State.fixed s := by
  simp [State.refusedWrite]
theorem State.endpoint_fixed (s : State) (h : NspHead) :
    ∀ t, (State.endpoint s h) = some t → State.fixed t.2 = State.fixed s := by
  intro t h; unfold State.endpoint at h; dsimp only at h; (repeat' split at h) <;> simp at h <;> subst h <;> simp
@[simp] theorem State.useXid_fixed (s : State) (id : Option Nat) (xid : Nat) :
    State.fixed (State.useXid s id xid) = State.fixed s := by
  unfold State.useXid; split <;> simp
@[simp] theorem State.reply_fixed (s : State) (r : Reply) (keep : Bool) :
    State.fixed (State.reply s r keep) = State.fixed s := by
  rfl
@[simp] theorem State.nspRead_fixed (s : State) (ep : Nat) (h : NspHead) (addr : Nat) :
    State.fixed (State.nspRead s ep h addr) = State.fixed s := by
  simp [State.nspRead]
@[simp] theorem State.nspWrite_fixed (s : State) (ep : Nat) (h : NspHead) (addr : Nat) (data : Bytes) :
    State.fixed (State.nspWrite s ep h addr data) = State.fixed s := by
  simp [State.nspWrite]
@[simp] theorem State.nspFrame_fixed (s : State) (h : NspHead) (addr : Nat) (data : Bytes) :
    State.fixed (State.nspFrame s h addr data) = State.fixed s := by
  unfold State.nspFrame; split
  · rfl
  · have e := State.endpoint_fixed _ _ _ ‹_›
    dsimp only at e ⊢; (repeat' split) <;> simp [e]
@[simp] theorem State.cspiAlert_fixed (s : State) :
    State.fixed (State.cspiAlert s).2 = State.fixed s := by
  unfold State.cspiAlert; dsimp only; (repeat' split) <;> simp_all
@[simp] theorem State.cspiBegin_fixed (s : State) :
    State.fixed (State.cspiBegin s) = State.fixed s := by
  simp [State.cspiBegin]
@[simp] theorem State.cspiWrite_fixed (s : State) (addr : Nat) (data : Bytes) :
    State.fixed (State.cspiWrite s addr data) = State.fixed s := by
  simp [State.cspiWrite]
@[simp] theorem State.cspiRead_fixed (s : State) (addr : Nat) (n : Nat) :
    State.fixed (State.cspiRead s addr n) = State.fixed s := by
  simp [State.cspiRead]
@[simp] theorem State.access_fixed (s : State) (acc : Access) (addr : Nat) (data : Bytes) :
    State.fixed (State.access s acc addr data) = State.fixed s := by
  unfold State.access; (repeat' split) <;> simp
theorem execMailboxAgeTimeout_fixed (mb : Nat) (s : State) :
    ∀ t, (execMailboxAgeTimeout mb s) = .next t → State.fixed t = State.fixed s := by
  rintro _ ⟨⟩; simp
theorem execSessionIdleTimeout_fixed (session : Nat) (s : State) :
    ∀ t, (execSessionIdleTimeout session s) = .next t → State.fixed t = State.fixed s := by
  rintro _ ⟨⟩; simp
theorem execAuthTimeout_fixed (s : State) :
    ∀ t, (execAuthTimeout s) = .next t → State.fixed t = State.fixed s := by
  rintro _ ⟨⟩; simp
@[simp] theorem State.respond_fixed (s : State) (mb : Nat) (status : Nat) (body : Bytes) :
    State.fixed (State.respond s mb status body) = State.fixed s := by
  rfl
theorem query_fixed (n : Nat) (r : List (Nat × Nat)) (f : State → Ctx → Ans) (s : State) (x : Ctx) :
    State.fixed ((query n r f).run s x).2 = State.fixed s := rfl
@[simp] theorem State.answerBad_fixed (x0 : Nat) (x1 : State) :
    State.fixed (State.answerBad x0 x1) = State.fixed x1 := by
  induction x0 generalizing x1 with
  | zero => rfl
  | succ n ih => simp only [State.answerBad]; (repeat' split) <;> simp [ih]
@[simp] theorem State.grantFirst_fixed (s : State) (c : FabricClass) :
    State.fixed (State.grantFirst s c) = State.fixed s := by
  simp [State.grantFirst]
@[simp] theorem State.settle_fixed (s : State) :
    State.fixed (State.settle s) = State.fixed s := by
  simp [State.settle]
@[simp] theorem State.hostWrite_fixed (s : State) (acc : Access) (addr : Nat) (data : Bytes) :
    State.fixed (State.hostWrite s acc addr data) = State.fixed s := by
  simp [State.hostWrite]
theorem execMailboxClaim_fixed (acc : Access) (mb : Nat) (ownkey : Nat) (s : State) :
    ∀ t, (execMailboxClaim acc mb ownkey s) = .next t → State.fixed t = State.fixed s := by
  rintro _ ⟨⟩; split <;> simp
theorem execMailboxRelease_fixed (acc : Access) (mb : Nat) (s : State) :
    ∀ t, (execMailboxRelease acc mb s) = .next t → State.fixed t = State.fixed s := by
  rintro _ ⟨⟩; split <;> simp
theorem execDoorbellRing_fixed (acc : Access) (mb : Nat) (tag : Nat) (s : State) :
    ∀ t, (execDoorbellRing acc mb tag s) = .next t → State.fixed t = State.fixed s := by
  rintro _ ⟨⟩; split <;> simp
theorem execDoorbellAck_fixed (acc : Access) (mb : Nat) (s : State) :
    ∀ t, (execDoorbellAck acc mb s) = .next t → State.fixed t = State.fixed s := by
  rintro _ ⟨⟩; split <;> simp
theorem execRegisterWrite_fixed (acc : Access) (addr : Nat) (data : Bytes) (s : State) :
    ∀ t, (execRegisterWrite acc addr data s) = .next t → State.fixed t = State.fixed s := by
  rintro _ ⟨⟩; simp
@[simp] theorem State.retryBox_fixed (s : State) (mb : Nat) :
    State.fixed (State.retryBox s mb) = State.fixed s := by
  simp [State.retryBox]
theorem execCommandResponseTimeout_fixed (mb : Nat) (s : State) :
    ∀ t, (execCommandResponseTimeout mb s) = .next t → State.fixed t = State.fixed s := by
  rintro _ ⟨⟩; simp
theorem execFabricGrantTimeout_fixed (user : FabricUser) (s : State) :
    ∀ t, (execFabricGrantTimeout user s) = .next t → State.fixed t = State.fixed s := by
  rintro _ ⟨⟩; (repeat' split) <;> simp
theorem State.serveCmd_fixed (s : State) (mb code : Nat) (c : Cmd)
    (h : ∀ s x, State.fixed (c.run s x).2 = State.fixed s) : State.fixed (s.serveCmd mb code c) = State.fixed s := by
  unfold State.serveCmd; dsimp only; (repeat' split) <;> simp [h]
@[simp] theorem State.firmwareFault_fixed (s : State) (f : Fsid) :
    State.fixed (State.firmwareFault s f) = State.fixed s := by
  unfold State.firmwareFault; dsimp only; (repeat' split) <;> simp_all
theorem execFaultEventCollected_fixed (fsid : Fsid) (s : State) :
    ∀ t, (execFaultEventCollected fsid s) = .next t → State.fixed t = State.fixed s := by
  rintro _ ⟨⟩; simp
@[simp] theorem okAns_fixed (b : Bytes) (s : State) :
    State.fixed (okAns b s).2 = State.fixed s := by
  rfl
@[simp] theorem noAns_fixed (st : Nat) (s : State) :
    State.fixed (noAns st s).2 = State.fixed s := by
  rfl
@[simp] theorem State.accepted_fixed (s : State) (c : Ctx) (item : Nat) :
    State.fixed (State.accepted s c item).2 = State.fixed s := by
  rfl
theorem logged_fixed (f : State → Ctx → Ans × State) (h : ∀ s x, State.fixed (f s x).2 = State.fixed s) (s : State) (c : Ctx) :
    State.fixed (logged f s c).2 = State.fixed s := by
  unfold logged; split <;> simp [noAns, h]
@[simp] theorem State.dropStep_fixed (s : State) (c : Ctx) :
    State.fixed (State.dropStep s c) = State.fixed s := by
  rfl
@[simp] theorem State.firstStep_fixed (s : State) (c : Ctx) (off : Nat) :
    State.fixed (State.firstStep s c off).2 = State.fixed s := by
  rfl
@[simp] theorem State.secondStep_fixed (s : State) (c : Ctx) (off : Nat) (window : Bool) :
    State.fixed (State.secondStep s c off window).2 = State.fixed s := by
  rfl
@[simp] theorem State.ctxChange_fixed (s : State) (c : Ctx) (kind : Nat) (body : Bytes) :
    State.fixed (State.ctxChange s c kind body) = State.fixed s := by
  simp [State.ctxChange]
@[simp] theorem State.newProv_fixed (s : State) (ep : Nat) (cred : Nat) (hostkey : Bytes) :
    State.fixed (State.newProv s ep cred hostkey).2 = State.fixed s := by
  rfl
@[simp] theorem runOpen_fixed (s : State) (c : Ctx) :
    State.fixed (runOpen s c).2 = State.fixed s := by
  unfold runOpen; dsimp only; (repeat' split) <;> simp_all
theorem execOpenSession_fixed (mb : Nat) (s : State) :
    ∀ t, execOpenSession mb s = .next t → State.fixed t = State.fixed s := by
  rintro _ ⟨⟩; exact State.serveCmd_fixed _ _ _ _ (runOpen_fixed)
@[simp] theorem runAuth_fixed (s : State) (c : Ctx) :
    State.fixed (runAuth s c).2 = State.fixed s := by
  unfold runAuth; (repeat' split) <;> simp
theorem execAuth_fixed (mb : Nat) (s : State) :
    ∀ t, execAuth mb s = .next t → State.fixed t = State.fixed s := by
  rintro _ ⟨⟩; exact State.serveCmd_fixed _ _ _ _ (runAuth_fixed)
theorem execClose_fixed (mb : Nat) (s : State) :
    ∀ t, execClose mb s = .next t → State.fixed t = State.fixed s := by
  rintro _ ⟨⟩; exact State.serveCmd_fixed _ _ _ _ (fun s x => by dsimp only [cmdClose, opCmd, noAns, okAns]; (repeat' split) <;> simp)
theorem execSessionList_fixed (mb : Nat) (s : State) :
    ∀ t, execSessionList mb s = .next t → State.fixed t = State.fixed s := by
  rintro _ ⟨⟩; exact State.serveCmd_fixed _ _ _ _ (query_fixed _ _ _)
@[simp] theorem runCredAdd_fixed (s : State) (c : Ctx) :
    State.fixed (runCredAdd s c).2 = State.fixed s := by
  unfold runCredAdd; dsimp only; (repeat' split) <;> simp_all
theorem execCredAdd_fixed (mb : Nat) (s : State) :
    ∀ t, execCredAdd mb s = .next t → State.fixed t = State.fixed s := by
  rintro _ ⟨⟩; exact State.serveCmd_fixed _ _ _ _ (logged_fixed _ runCredAdd_fixed)
@[simp] theorem runCredRevoke_fixed (s : State) (c : Ctx) :
    State.fixed (runCredRevoke s c).2 = State.fixed s := by
  unfold runCredRevoke; dsimp only; (repeat' split) <;> simp_all
theorem execCredRevoke_fixed (mb : Nat) (s : State) :
    ∀ t, execCredRevoke mb s = .next t → State.fixed t = State.fixed s := by
  rintro _ ⟨⟩; exact State.serveCmd_fixed _ _ _ _ (logged_fixed _ runCredRevoke_fixed)
theorem execCredList_fixed (mb : Nat) (s : State) :
    ∀ t, execCredList mb s = .next t → State.fixed t = State.fixed s := by
  rintro _ ⟨⟩; exact State.serveCmd_fixed _ _ _ _ (query_fixed _ _ _)
theorem execIdentity_fixed (mb : Nat) (s : State) :
    ∀ t, execIdentity mb s = .next t → State.fixed t = State.fixed s := by
  rintro _ ⟨⟩; exact State.serveCmd_fixed _ _ _ _ (query_fixed _ _ _)
theorem execCycleStatus_fixed (mb : Nat) (s : State) :
    ∀ t, execCycleStatus mb s = .next t → State.fixed t = State.fixed s := by
  rintro _ ⟨⟩; exact State.serveCmd_fixed _ _ _ _ (query_fixed _ _ _)
theorem execLaneStatus_fixed (mb : Nat) (s : State) :
    ∀ t, execLaneStatus mb s = .next t → State.fixed t = State.fixed s := by
  rintro _ ⟨⟩; exact State.serveCmd_fixed _ _ _ _ (query_fixed _ _ _)
theorem execInputStatus_fixed (mb : Nat) (s : State) :
    ∀ t, execInputStatus mb s = .next t → State.fixed t = State.fixed s := by
  rintro _ ⟨⟩; exact State.serveCmd_fixed _ _ _ _ (query_fixed _ _ _)
theorem execOutputStatus_fixed (mb : Nat) (s : State) :
    ∀ t, execOutputStatus mb s = .next t → State.fixed t = State.fixed s := by
  rintro _ ⟨⟩; exact State.serveCmd_fixed _ _ _ _ (query_fixed _ _ _)
theorem execConnStatus_fixed (mb : Nat) (s : State) :
    ∀ t, execConnStatus mb s = .next t → State.fixed t = State.fixed s := by
  rintro _ ⟨⟩; exact State.serveCmd_fixed _ _ _ _ (query_fixed _ _ _)
theorem execElementRead_fixed (mb : Nat) (s : State) :
    ∀ t, execElementRead mb s = .next t → State.fixed t = State.fixed s := by
  rintro _ ⟨⟩; exact State.serveCmd_fixed _ _ _ _ (query_fixed _ _ _)
theorem execRouteRead_fixed (mb : Nat) (s : State) :
    ∀ t, execRouteRead mb s = .next t → State.fixed t = State.fixed s := by
  rintro _ ⟨⟩; exact State.serveCmd_fixed _ _ _ _ (query_fixed _ _ _)
theorem execTrellisStatus_fixed (mb : Nat) (s : State) :
    ∀ t, execTrellisStatus mb s = .next t → State.fixed t = State.fixed s := by
  rintro _ ⟨⟩; exact State.serveCmd_fixed _ _ _ _ (query_fixed _ _ _)
theorem execRouteIdent_fixed (mb : Nat) (s : State) :
    ∀ t, execRouteIdent mb s = .next t → State.fixed t = State.fixed s := by
  rintro _ ⟨⟩; exact State.serveCmd_fixed _ _ _ _ (query_fixed _ _ _)
theorem execImageInfo_fixed (mb : Nat) (s : State) :
    ∀ t, execImageInfo mb s = .next t → State.fixed t = State.fixed s := by
  rintro _ ⟨⟩; exact State.serveCmd_fixed _ _ _ _ (query_fixed _ _ _)
theorem execPairStatus_fixed (mb : Nat) (s : State) :
    ∀ t, execPairStatus mb s = .next t → State.fixed t = State.fixed s := by
  rintro _ ⟨⟩; exact State.serveCmd_fixed _ _ _ _ (query_fixed _ _ _)
theorem execFaultStatus_fixed (mb : Nat) (s : State) :
    ∀ t, execFaultStatus mb s = .next t → State.fixed t = State.fixed s := by
  rintro _ ⟨⟩; exact State.serveCmd_fixed _ _ _ _ (query_fixed _ _ _)
theorem execEscBounds_fixed (mb : Nat) (s : State) :
    ∀ t, execEscBounds mb s = .next t → State.fixed t = State.fixed s := by
  rintro _ ⟨⟩; exact State.serveCmd_fixed _ _ _ _ (query_fixed _ _ _)
theorem execHedgeList_fixed (mb : Nat) (s : State) :
    ∀ t, execHedgeList mb s = .next t → State.fixed t = State.fixed s := by
  rintro _ ⟨⟩; exact State.serveCmd_fixed _ _ _ _ (query_fixed _ _ _)
theorem execTimeGet_fixed (mb : Nat) (s : State) :
    ∀ t, execTimeGet mb s = .next t → State.fixed t = State.fixed s := by
  rintro _ ⟨⟩; exact State.serveCmd_fixed _ _ _ _ (query_fixed _ _ _)
@[simp] theorem State.lcJudge_fixed (s : State) (target : LcState) (r : CmdRef) (t : Bytes) :
    State.fixed (State.lcJudge s target r t) = State.fixed s := by
  unfold State.lcJudge; dsimp only; (repeat' split) <;> simp_all
@[simp] theorem runLcTransition_fixed (s : State) (c : Ctx) :
    State.fixed (runLcTransition s c).2 = State.fixed s := by
  unfold runLcTransition; dsimp only; (repeat' split) <;> simp_all
theorem execLcTransition_fixed (mb : Nat) (s : State) :
    ∀ t, execLcTransition mb s = .next t → State.fixed t = State.fixed s := by
  rintro _ ⟨⟩; exact State.serveCmd_fixed _ _ _ _ (logged_fixed _ runLcTransition_fixed)
@[simp] theorem runMode_fixed (s : State) (c : Ctx) :
    State.fixed (runMode s c).2 = State.fixed s := by
  unfold runMode; dsimp only; (repeat' split) <;> simp_all
theorem execMode_fixed (mb : Nat) (s : State) :
    ∀ t, execMode mb s = .next t → State.fixed t = State.fixed s := by
  rintro _ ⟨⟩; exact State.serveCmd_fixed _ _ _ _ (logged_fixed _ runMode_fixed)
@[simp] theorem runRestart_fixed (s : State) (c : Ctx) :
    State.fixed (runRestart s c).2 = State.fixed s := by
  unfold runRestart; dsimp only; (repeat' split) <;> simp_all
theorem execRestart_fixed (mb : Nat) (s : State) :
    ∀ t, execRestart mb s = .next t → State.fixed t = State.fixed s := by
  rintro _ ⟨⟩; exact State.serveCmd_fixed _ _ _ _ (logged_fixed _ runRestart_fixed)
@[simp] theorem runMaint_fixed (s : State) (c : Ctx) :
    State.fixed (runMaint s c).2 = State.fixed s := by
  unfold runMaint; dsimp only; (repeat' split) <;> simp_all
theorem execMaint_fixed (mb : Nat) (s : State) :
    ∀ t, execMaint mb s = .next t → State.fixed t = State.fixed s := by
  rintro _ ⟨⟩; exact State.serveCmd_fixed _ _ _ _ (logged_fixed _ runMaint_fixed)
@[simp] theorem State.updStage_fixed (s : State) (f : StageSt → StageSt) :
    State.fixed (State.updStage s f) = State.fixed s := by
  rfl
theorem owned_fixed (f : State → Ctx → Ans × State) (h : ∀ s x, State.fixed (f s x).2 = State.fixed s) (s : State) (c : Ctx) :
    State.fixed (owned f s c).2 = State.fixed s := by
  unfold owned; split <;> simp [noAns, h]
@[simp] theorem runStageOpen_fixed (s : State) (c : Ctx) :
    State.fixed (runStageOpen s c).2 = State.fixed s := by
  unfold runStageOpen; (repeat' split) <;> simp
theorem execStageOpen_fixed (mb : Nat) (s : State) :
    ∀ t, execStageOpen mb s = .next t → State.fixed t = State.fixed s := by
  rintro _ ⟨⟩; exact State.serveCmd_fixed _ _ _ _ (logged_fixed _ runStageOpen_fixed)
theorem State.stageAll_fixed (s : State) (x1 : List Bytes) (x2 : Nat) :
    ∀ t, (State.stageAll s x1 x2) = .ok t → State.fixed t = State.fixed s := by
  induction x1 generalizing s x2 with
  | nil => intro t h; simp [State.stageAll] at h; rw [h]
  | cons r rs ih =>
    intro t h; simp only [State.stageAll] at h; split at h
    · rw [ih _ _ _ h]; simp
    · simp at h
@[simp] theorem State.afterWrite_fixed (s : State) :
    State.fixed (State.afterWrite s) = State.fixed s := by
  simp [State.afterWrite]
@[simp] theorem State.writeEntries_fixed (s : State) (role : Nat) (rs : List Bytes) :
    State.fixed (State.writeEntries s role rs).2 = State.fixed s := by
  unfold State.writeEntries; split; · rfl
  split; · rfl
  split
  · rfl
  · simp [okAns, State.stageAll_fixed _ _ _ _ ‹_›]
@[simp] theorem runStageWrite_fixed (s : State) (c : Ctx) :
    State.fixed (runStageWrite s c).2 = State.fixed s := by
  unfold runStageWrite; dsimp only; (repeat' split) <;> simp_all
theorem execStageWrite_fixed (mb : Nat) (s : State) :
    ∀ t, execStageWrite mb s = .next t → State.fixed t = State.fixed s := by
  rintro _ ⟨⟩; exact State.serveCmd_fixed _ _ _ _ (owned_fixed _ runStageWrite_fixed)
@[simp] theorem runStageRead_fixed (s : State) (c : Ctx) :
    State.fixed (runStageRead s c).2 = State.fixed s := by
  unfold runStageRead; dsimp only; (repeat' split) <;> simp_all
theorem execStageRead_fixed (mb : Nat) (s : State) :
    ∀ t, execStageRead mb s = .next t → State.fixed t = State.fixed s := by
  rintro _ ⟨⟩; exact State.serveCmd_fixed _ _ _ _ (owned_fixed _ runStageRead_fixed)
@[simp] theorem State.discardFrame_fixed (s : State) :
    State.fixed (State.discardFrame s) = State.fixed s := by
  simp [State.discardFrame]
@[simp] theorem runStageDiscard_fixed (s : State) (c : Ctx) :
    State.fixed (runStageDiscard s c).2 = State.fixed s := by
  unfold runStageDiscard; split <;> simp
theorem execStageDiscard_fixed (mb : Nat) (s : State) :
    ∀ t, execStageDiscard mb s = .next t → State.fixed t = State.fixed s := by
  rintro _ ⟨⟩; exact State.serveCmd_fixed _ _ _ _ (logged_fixed _ (owned_fixed _ runStageDiscard_fixed))
@[simp] theorem runStageCheck_fixed (s : State) (c : Ctx) :
    State.fixed (runStageCheck s c).2 = State.fixed s := by
  unfold runStageCheck; split <;> simp
theorem execStageCheck_fixed (mb : Nat) (s : State) :
    ∀ t, execStageCheck mb s = .next t → State.fixed t = State.fixed s := by
  rintro _ ⟨⟩; exact State.serveCmd_fixed _ _ _ _ (logged_fixed _ (owned_fixed _ runStageCheck_fixed))
@[simp] theorem State.acceptApply_fixed (s : State) (r : CmdRef) :
    State.fixed (State.acceptApply s r) = State.fixed s := by
  simp [State.acceptApply]
@[simp] theorem State.applyRec_fixed (s : State) (c : Ctx) (st : Nat) :
    State.fixed (State.applyRec s c st) = State.fixed s := by
  simp [State.applyRec]
@[simp] theorem takeApply_fixed (s : State) (c : Ctx) :
    State.fixed (takeApply s c).2 = State.fixed s := by
  unfold takeApply; dsimp only; (repeat' split) <;> simp_all
@[simp] theorem runStageApply_fixed (s : State) (c : Ctx) :
    State.fixed (runStageApply s c).2 = State.fixed s := by
  unfold runStageApply; split
  · exact logged_fixed _ (owned_fixed _ takeApply_fixed) _ _
  · simp [noAns]
theorem execStageApply_fixed (mb : Nat) (s : State) :
    ∀ t, execStageApply mb s = .next t → State.fixed t = State.fixed s := by
  rintro _ ⟨⟩; exact State.serveCmd_fixed _ _ _ _ (runStageApply_fixed)
theorem execStageStatus_fixed (mb : Nat) (s : State) :
    ∀ t, execStageStatus mb s = .next t → State.fixed t = State.fixed s := by
  rintro _ ⟨⟩; exact State.serveCmd_fixed _ _ _ _ (query_fixed _ _ _)
@[simp] theorem State.writeKey_fixed (s : State) (e : StgEntry) :
    State.fixed (State.writeKey s e).2 = State.fixed s := by
  unfold State.writeKey; (repeat' split) <;> simp
@[simp] theorem runConnKey_fixed (s : State) (c : Ctx) :
    State.fixed (runConnKey s c).2 = State.fixed s := by
  unfold runConnKey; split <;> simp
theorem execConnKey_fixed (mb : Nat) (s : State) :
    ∀ t, execConnKey mb s = .next t → State.fixed t = State.fixed s := by
  rintro _ ⟨⟩; exact State.serveCmd_fixed _ _ _ _ (owned_fixed _ runConnKey_fixed)
@[simp] theorem State.useToken_fixed (s : State) (c : Ctx) (imgid : Nat) :
    State.fixed (State.useToken s c imgid) = State.fixed s := by
  unfold State.useToken; split <;> simp
@[simp] theorem State.acceptAct_fixed (s : State) (c : Ctx) (kind : Nat) (old : Nat) (new : Nat) :
    State.fixed (State.acceptAct s c kind old new) = State.fixed s := by
  simp [State.acceptAct]
@[simp] theorem State.endOther_fixed (s : State) (kind : Nat) :
    State.fixed (State.endOther s kind) = State.fixed s := by
  simp [State.endOther]
@[simp] theorem State.activateApp_fixed (s : State) (c : Ctx) (ref : Option CmdRef) :
    State.fixed (State.activateApp s c ref) = State.fixed s := by
  simp [State.activateApp]
@[simp] theorem runActivate_fixed (s : State) (c : Ctx) :
    State.fixed (runActivate s c).2 = State.fixed s := by
  unfold runActivate; dsimp only; (repeat' split) <;> simp_all
theorem execActivate_fixed (mb : Nat) (s : State) :
    ∀ t, execActivate mb s = .next t → State.fixed t = State.fixed s := by
  rintro _ ⟨⟩; exact State.serveCmd_fixed _ _ _ _ (logged_fixed _ runActivate_fixed)
@[simp] theorem runUpdOpen_fixed (s : State) (c : Ctx) :
    State.fixed (runUpdOpen s c).2 = State.fixed s := by
  unfold runUpdOpen; dsimp only; (repeat' split) <;> simp_all
theorem execUpdOpen_fixed (mb : Nat) (s : State) :
    ∀ t, execUpdOpen mb s = .next t → State.fixed t = State.fixed s := by
  rintro _ ⟨⟩; exact State.serveCmd_fixed _ _ _ _ (logged_fixed _ runUpdOpen_fixed)
theorem withUpd_fixed (f : UpdSess → State → Ctx → Ans × State) (h : ∀ u s x, State.fixed (f u s x).2 = State.fixed s)
    (s : State) (c : Ctx) : State.fixed (withUpd f s c).2 = State.fixed s := by
  unfold withUpd; dsimp only; (repeat' split) <;> simp [noAns, h]
@[simp] theorem State.putSess_fixed (s : State) (u : UpdSess) :
    State.fixed (State.putSess s u) = State.fixed s := by
  rfl
@[simp] theorem takePart_fixed (u : UpdSess) (s : State) (c : Ctx) :
    State.fixed (takePart u s c).2 = State.fixed s := by
  unfold takePart; dsimp only; (repeat' split) <;> simp_all
theorem execUpdData_fixed (mb : Nat) (s : State) :
    ∀ t, execUpdData mb s = .next t → State.fixed t = State.fixed s := by
  rintro _ ⟨⟩; exact State.serveCmd_fixed _ _ _ _ (withUpd_fixed _ takePart_fixed)
@[simp] theorem askVerify_fixed (u : UpdSess) (s : State) (c : Ctx) :
    State.fixed (askVerify u s c).2 = State.fixed s := by
  unfold askVerify; dsimp only; (repeat' split) <;> simp_all
theorem execUpdVerify_fixed (mb : Nat) (s : State) :
    ∀ t, execUpdVerify mb s = .next t → State.fixed t = State.fixed s := by
  rintro _ ⟨⟩; exact State.serveCmd_fixed _ _ _ _ (logged_fixed _ (withUpd_fixed _ askVerify_fixed))
@[simp] theorem State.kernelDown_fixed (s : State) (c : Ctx) (b : Bool) (e : Envelope) :
    State.fixed (State.kernelDown s c b e) = State.fixed s := by
  simp [State.kernelDown]
@[simp] theorem State.kernelTurns_fixed (s : State) (c : Ctx) (b : Bool) (e : Envelope) :
    State.fixed (State.kernelTurns s c b e) = State.fixed s := by
  simp [State.kernelTurns]
@[simp] theorem runKernel_fixed (s : State) (c : Ctx) :
    State.fixed (runKernel s c).2 = State.fixed s := by
  unfold runKernel; dsimp only; (repeat' split) <;> simp_all
@[simp] theorem runFirmware_fixed (s : State) (c : Ctx) :
    State.fixed (runFirmware s c).2 = State.fixed s := by
  unfold runFirmware; split <;> simp
@[simp] theorem runAppImage_fixed (s : State) (c : Ctx) :
    State.fixed (runAppImage s c).2 = State.fixed s := by
  unfold runAppImage; dsimp only; (repeat' split) <;> simp_all
@[simp] theorem askActivate_fixed (u : UpdSess) (s : State) (c : Ctx) :
    State.fixed (askActivate u s c).2 = State.fixed s := by
  unfold askActivate; (repeat' split) <;> simp
theorem execUpdActivate_fixed (mb : Nat) (s : State) :
    ∀ t, execUpdActivate mb s = .next t → State.fixed t = State.fixed s := by
  rintro _ ⟨⟩; exact State.serveCmd_fixed _ _ _ _ (logged_fixed _ (withUpd_fixed _ askActivate_fixed))
theorem execUpdAbort_fixed (mb : Nat) (s : State) :
    ∀ t, execUpdAbort mb s = .next t → State.fixed t = State.fixed s := by
  rintro _ ⟨⟩; exact State.serveCmd_fixed _ _ _ _ (logged_fixed _ (withUpd_fixed _ fun u s x => by simp [okAns]))
theorem execUpdStatus_fixed (mb : Nat) (s : State) :
    ∀ t, execUpdStatus mb s = .next t → State.fixed t = State.fixed s := by
  rintro _ ⟨⟩; exact State.serveCmd_fixed _ _ _ _ (query_fixed _ _ _)
@[simp] theorem runRecOpen_fixed (s : State) (c : Ctx) :
    State.fixed (runRecOpen s c).2 = State.fixed s := by
  unfold runRecOpen; split <;> simp
theorem execRecOpen_fixed (mb : Nat) (s : State) :
    ∀ t, execRecOpen mb s = .next t → State.fixed t = State.fixed s := by
  rintro _ ⟨⟩; exact State.serveCmd_fixed _ _ _ _ (runRecOpen_fixed)
@[simp] theorem State.nextBatch_fixed (s : State) (k : Cursor) (maxBytes : Nat) :
    State.fixed (State.nextBatch s k maxBytes).2 = State.fixed s := by
  rfl
@[simp] theorem runRecNext_fixed (s : State) (c : Ctx) :
    State.fixed (runRecNext s c).2 = State.fixed s := by
  unfold runRecNext; dsimp only; (repeat' split) <;> simp_all
theorem execRecNext_fixed (mb : Nat) (s : State) :
    ∀ t, execRecNext mb s = .next t → State.fixed t = State.fixed s := by
  rintro _ ⟨⟩; exact State.serveCmd_fixed _ _ _ _ (runRecNext_fixed)
theorem execRecClose_fixed (mb : Nat) (s : State) :
    ∀ t, execRecClose mb s = .next t → State.fixed t = State.fixed s := by
  rintro _ ⟨⟩; exact State.serveCmd_fixed _ _ _ _ (fun s x => by dsimp only [cmdRecClose, opCmd, noAns, okAns]; (repeat' split) <;> simp)
theorem execRecCounters_fixed (mb : Nat) (s : State) :
    ∀ t, execRecCounters mb s = .next t → State.fixed t = State.fixed s := by
  rintro _ ⟨⟩; exact State.serveCmd_fixed _ _ _ _ (query_fixed _ _ _)
@[simp] theorem State.startTest_fixed (s : State) (t : TestSt) :
    State.fixed (State.startTest s t) = State.fixed s := rfl
@[simp] theorem runTestRun_fixed (s : State) (c : Ctx) :
    State.fixed (runTestRun s c).2 = State.fixed s := by
  unfold runTestRun; dsimp only; (repeat' split) <;> simp_all
theorem execTestRun_fixed (mb : Nat) (s : State) :
    ∀ t, execTestRun mb s = .next t → State.fixed t = State.fixed s := by
  rintro _ ⟨⟩; exact State.serveCmd_fixed _ _ _ _ (logged_fixed _ runTestRun_fixed)
theorem execTestList_fixed (mb : Nat) (s : State) :
    ∀ t, execTestList mb s = .next t → State.fixed t = State.fixed s := by
  rintro _ ⟨⟩; exact State.serveCmd_fixed _ _ _ _ (query_fixed _ _ _)
@[simp] theorem runTestAbort_fixed (s : State) (c : Ctx) :
    State.fixed (runTestAbort s c).2 = State.fixed s := by
  unfold runTestAbort; split <;> simp
theorem execTestAbort_fixed (mb : Nat) (s : State) :
    ∀ t, execTestAbort mb s = .next t → State.fixed t = State.fixed s := by
  rintro _ ⟨⟩; exact State.serveCmd_fixed _ _ _ _ (logged_fixed _ runTestAbort_fixed)
@[simp] theorem State.beginRelease_fixed (s : State) (kind : Nat) (index : Nat) (r : CmdRef) :
    State.fixed (State.beginRelease s kind index r) = State.fixed s := by
  unfold State.beginRelease; (repeat' split) <;> simp
@[simp] theorem runHedgeRelease_fixed (s : State) (c : Ctx) :
    State.fixed (runHedgeRelease s c).2 = State.fixed s := by
  unfold runHedgeRelease; dsimp only; (repeat' split) <;> simp_all
theorem execHedgeRelease_fixed (mb : Nat) (s : State) :
    ∀ t, execHedgeRelease mb s = .next t → State.fixed t = State.fixed s := by
  rintro _ ⟨⟩; exact State.serveCmd_fixed _ _ _ _ (logged_fixed _ runHedgeRelease_fixed)
@[simp] theorem State.queueOp_fixed (s : State) (c : Ctx) (item : Nat) (k : OpKind) :
    State.fixed (State.queueOp s c item k).2 = State.fixed s := by
  simp [State.queueOp]
theorem execRouteSet_fixed (mb : Nat) (s : State) :
    ∀ t, execRouteSet mb s = .next t → State.fixed t = State.fixed s := by
  rintro _ ⟨⟩; exact State.serveCmd_fixed _ _ _ _ (fun s x => by dsimp only [cmdRouteSet, opCmd, noAns, okAns]; (repeat' split) <;> simp)
theorem execRouteCancel_fixed (mb : Nat) (s : State) :
    ∀ t, execRouteCancel mb s = .next t → State.fixed t = State.fixed s := by
  rintro _ ⟨⟩; exact State.serveCmd_fixed _ _ _ _ (fun s x => by dsimp only [cmdRouteCancel, opCmd, noAns, okAns]; (repeat' split) <;> simp)
theorem execAutoSet_fixed (mb : Nat) (s : State) :
    ∀ t, execAutoSet mb s = .next t → State.fixed t = State.fixed s := by
  rintro _ ⟨⟩; exact State.serveCmd_fixed _ _ _ _ (fun s x => by dsimp only [cmdAutoSet, opCmd, noAns, okAns]; (repeat' split) <;> simp)
theorem execTrigArm_fixed (mb : Nat) (s : State) :
    ∀ t, execTrigArm mb s = .next t → State.fixed t = State.fixed s := by
  rintro _ ⟨⟩; exact State.serveCmd_fixed _ _ _ _ (fun s x => by dsimp only [cmdTrigArm, opCmd, noAns, okAns]; (repeat' split) <;> simp)
theorem execKeyRelease_fixed (mb : Nat) (s : State) :
    ∀ t, execKeyRelease mb s = .next t → State.fixed t = State.fixed s := by
  rintro _ ⟨⟩; exact State.serveCmd_fixed _ _ _ _ (fun s x => by dsimp only [cmdKeyRelease, opCmd, noAns, okAns]; (repeat' split) <;> simp)
@[simp] theorem State.secondOp_fixed (s : State) (c : Ctx) (window : Bool) (k : OpKind) :
    State.fixed (State.secondOp s c window k).2 = State.fixed s := by
  unfold State.secondOp; dsimp only; (repeat' split) <;> simp_all
@[simp] theorem runEmergRelease_fixed (s : State) (c : Ctx) :
    State.fixed (runEmergRelease s c).2 = State.fixed s := by
  unfold runEmergRelease; dsimp only; (repeat' split) <;> simp_all
theorem execEmergRelease_fixed (mb : Nat) (s : State) :
    ∀ t, execEmergRelease mb s = .next t → State.fixed t = State.fixed s := by
  rintro _ ⟨⟩; exact State.serveCmd_fixed _ _ _ _ (runEmergRelease_fixed)
@[simp] theorem runAxleReset_fixed (s : State) (c : Ctx) :
    State.fixed (runAxleReset s c).2 = State.fixed s := by
  unfold runAxleReset; (repeat' split) <;> simp
theorem execAxleReset_fixed (mb : Nat) (s : State) :
    ∀ t, execAxleReset mb s = .next t → State.fixed t = State.fixed s := by
  rintro _ ⟨⟩; exact State.serveCmd_fixed _ _ _ _ (runAxleReset_fixed)
@[simp] theorem runTimeSet_fixed (s : State) (c : Ctx) :
    State.fixed (runTimeSet s c).2 = State.fixed s := by
  unfold runTimeSet; dsimp only; (repeat' split) <;> simp_all
theorem execTimeSet_fixed (mb : Nat) (s : State) :
    ∀ t, execTimeSet mb s = .next t → State.fixed t = State.fixed s := by
  rintro _ ⟨⟩; exact State.serveCmd_fixed _ _ _ _ (logged_fixed _ runTimeSet_fixed)
@[simp] theorem runTimeSource_fixed (s : State) (c : Ctx) :
    State.fixed (runTimeSource s c).2 = State.fixed s := by
  unfold runTimeSource; dsimp only; split; · rfl
  split; · rfl
  rw [okAns, State.updTime_fixed _ _ rfl]; simp
theorem execTimeSource_fixed (mb : Nat) (s : State) :
    ∀ t, execTimeSource mb s = .next t → State.fixed t = State.fixed s := by
  rintro _ ⟨⟩; exact State.serveCmd_fixed _ _ _ _ (logged_fixed _ runTimeSource_fixed)
@[simp] theorem runHandover_fixed (s : State) (c : Ctx) :
    State.fixed (runHandover s c).2 = State.fixed s := by
  unfold runHandover; split <;> simp
theorem execHandover_fixed (mb : Nat) (s : State) :
    ∀ t, execHandover mb s = .next t → State.fixed t = State.fixed s := by
  rintro _ ⟨⟩; exact State.serveCmd_fixed _ _ _ _ (logged_fixed _ runHandover_fixed)
@[simp] theorem runColdAssume_fixed (s : State) (c : Ctx) :
    State.fixed (runColdAssume s c).2 = State.fixed s := by
  unfold runColdAssume; dsimp only; (repeat' split) <;> simp_all
theorem execColdAssume_fixed (mb : Nat) (s : State) :
    ∀ t, execColdAssume mb s = .next t → State.fixed t = State.fixed s := by
  rintro _ ⟨⟩; exact State.serveCmd_fixed _ _ _ _ (logged_fixed _ runColdAssume_fixed)
theorem execSbStatus_fixed (mb : Nat) (s : State) :
    ∀ t, execSbStatus mb s = .next t → State.fixed t = State.fixed s := by
  rintro _ ⟨⟩; exact State.serveCmd_fixed _ _ _ _ (query_fixed _ _ _)
theorem execSbErrlog_fixed (mb : Nat) (s : State) :
    ∀ t, execSbErrlog mb s = .next t → State.fixed t = State.fixed s := by
  rintro _ ⟨⟩; exact State.serveCmd_fixed _ _ _ _ (query_fixed _ _ _)
theorem execSbErrclr_fixed (mb : Nat) (s : State) :
    ∀ t, execSbErrclr mb s = .next t → State.fixed t = State.fixed s := by
  rintro _ ⟨⟩; exact State.serveCmd_fixed _ _ _ _ (fun s x => by dsimp only [cmdSbErrclr, opCmd, noAns, okAns]; (repeat' split) <;> simp)
@[simp] theorem State.closeWindow_fixed (s : State) (n : Nat) :
    State.fixed (State.closeWindow s n) = State.fixed s := by
  simp [State.closeWindow]
@[simp] theorem runWindowSet_fixed (s : State) (c : Ctx) :
    State.fixed (runWindowSet s c).2 = State.fixed s := by
  unfold runWindowSet; dsimp only; (repeat' split) <;> simp_all
theorem execWindowSet_fixed (mb : Nat) (s : State) :
    ∀ t, execWindowSet mb s = .next t → State.fixed t = State.fixed s := by
  rintro _ ⟨⟩; exact State.serveCmd_fixed _ _ _ _ (logged_fixed _ runWindowSet_fixed)
@[simp] theorem runTunnelSet_fixed (s : State) (c : Ctx) :
    State.fixed (runTunnelSet s c).2 = State.fixed s := by
  unfold runTunnelSet; dsimp only; (repeat' split) <;> simp_all
theorem execTunnelSet_fixed (mb : Nat) (s : State) :
    ∀ t, execTunnelSet mb s = .next t → State.fixed t = State.fixed s := by
  rintro _ ⟨⟩; exact State.serveCmd_fixed _ _ _ _ (logged_fixed _ runTunnelSet_fixed)
theorem execTunnelStatus_fixed (mb : Nat) (s : State) :
    ∀ t, execTunnelStatus mb s = .next t → State.fixed t = State.fixed s := by
  rintro _ ⟨⟩; exact State.serveCmd_fixed _ _ _ _ (query_fixed _ _ _)
@[simp] theorem State.queueForce_fixed (s : State) (c : Ctx) (f : ForceCmd) :
    State.fixed (State.queueForce s c f).2 = State.fixed s := by
  simp [State.queueForce]
@[simp] theorem runForceSet_fixed (s : State) (c : Ctx) :
    State.fixed (runForceSet s c).2 = State.fixed s := by
  unfold runForceSet; dsimp only; (repeat' split) <;> simp_all
theorem execForceSet_fixed (mb : Nat) (s : State) :
    ∀ t, execForceSet mb s = .next t → State.fixed t = State.fixed s := by
  rintro _ ⟨⟩; exact State.serveCmd_fixed _ _ _ _ (runForceSet_fixed)
@[simp] theorem runForceClear_fixed (s : State) (c : Ctx) :
    State.fixed (runForceClear s c).2 = State.fixed s := by
  unfold runForceClear; dsimp only; (repeat' split) <;> simp_all
theorem execForceClear_fixed (mb : Nat) (s : State) :
    ∀ t, execForceClear mb s = .next t → State.fixed t = State.fixed s := by
  rintro _ ⟨⟩; exact State.serveCmd_fixed _ _ _ _ (logged_fixed _ runForceClear_fixed)
theorem execForceList_fixed (mb : Nat) (s : State) :
    ∀ t, execForceList mb s = .next t → State.fixed t = State.fixed s := by
  rintro _ ⟨⟩; exact State.serveCmd_fixed _ _ _ _ (query_fixed _ _ _)
theorem execSwitchForwarding_fixed (net : Net) (port2 : Bool) (f : Frame) (s : State) :
    ∀ t, (execSwitchForwarding net port2 f s) = .next t → State.fixed t = State.fixed s := by
  rintro _ ⟨⟩; simp
theorem execLearnedAddressAgeing_fixed (net : Net) (mac : Nat) (s : State) :
    ∀ t, (execLearnedAddressAgeing net mac s) = .next t → State.fixed t = State.fixed s := by
  rintro _ ⟨⟩; simp
theorem execEthernetLinkChange_fixed (net : Net) (port2 : Bool) (up : Bool) (s : State) :
    ∀ t, (execEthernetLinkChange net port2 up s) = .next t → State.fixed t = State.fixed s := by
  rintro _ ⟨⟩; simp
@[simp] theorem State.ringSend_fixed (s : State) (n : Net) (kind : Nat) :
    State.fixed (State.ringSend s n kind) = State.fixed s := by
  rfl
theorem execRingtestSend_fixed (net : Net) (s : State) :
    ∀ t, (execRingtestSend net s) = .next t → State.fixed t = State.fixed s := by
  rintro _ ⟨⟩; simp
theorem execRingtestReceived_fixed (net : Net) (port2 : Bool) (f : Frame) (s : State) :
    ∀ t, (execRingtestReceived net port2 f s) = .next t → State.fixed t = State.fixed s := by
  rintro _ ⟨⟩; simp
theorem execRingBreak_fixed (net : Net) (s : State) :
    ∀ t, (execRingBreak net s) = .next t → State.fixed t = State.fixed s := by
  rintro _ ⟨⟩; simp
theorem execRingClose_fixed (net : Net) (s : State) :
    ∀ t, (execRingClose net s) = .next t → State.fixed t = State.fixed s := by
  rintro _ ⟨⟩; simp
@[simp] theorem State.clearOut_fixed (s : State) :
    State.fixed (State.clearOut s) = State.fixed s := by
  rfl
@[simp] theorem State.tickCells_fixed (s : State) :
    State.fixed (State.tickCells s) = State.fixed s := by
  simp [State.tickCells]
@[simp] theorem State.tickCycle_fixed (s : State) :
    State.fixed (State.tickCycle s) = State.fixed s := by
  rfl
@[simp] theorem State.tickRecs_fixed (s : State) :
    State.fixed (State.tickRecs s) = State.fixed s := by
  simp [State.tickRecs]
@[simp] theorem State.restartFw_fixed (s : State) :
    State.fixed (State.restartFw s) = State.fixed s := by
  simp [State.restartFw]
@[simp] theorem State.withFetchWord_fixed (s : State) (nbits : Nat) (w : Nat) :
    State.fixed (State.withFetchWord s nbits w) = State.fixed s := by
  rfl
end Sys2Proof.Machine
end

