-- ==== Sys2Proof/Laws/Guard.lean ====
section
/-! SUPPORT. What no command but a few changes: the credentials, the rollback floors and the tamper latch; one lemma for each function of the
state, and for each command. -/

set_option linter.unusedSimpArgs false
set_option linter.unusedVariables false

namespace Sys2Proof.Machine
@[simp] theorem State.guard_mk (pending id lanes cyc app trl image set cells banks frame conns nets pair flt mail stage bridge tunnels ports recs time be upd pow netTx legacyTx plTx splits free) :
    State.guard (State.mk pending id lanes cyc app trl image set cells banks frame conns nets pair flt mail stage bridge tunnels ports recs time be upd pow netTx legacyTx plTx splits free) = (id.creds, upd.rbfloor, be.tamper, be.tamperWt, be.tamperWtOk) := rfl
@[simp] theorem State.guard_eta (s : State) : (s.id.creds, s.upd.rbfloor, s.be.tamper, s.be.tamperWt, s.be.tamperWtOk) = s.guard := rfl
@[simp] theorem State.guard_ite (c : Prop) [Decidable c] (s t : State) : State.guard (if c then s else t) = if c then s.guard else t.guard := by split <;> rfl
@[simp] theorem State.each_guard {α : Type} (s : State) (xs : List α) (f : State → α → State) (h : ∀ s x, State.guard (f s x) = s.guard) : State.guard (s.each xs f) = s.guard := by
  unfold State.each
  induction xs generalizing s with
  | nil => rfl
  | cons x xs ih => simp only [List.foldl_cons, ih, h]
@[simp] theorem State.when_guard (s : State) (p : Bool) (f : State → State) (h : ∀ s, State.guard (f s) = s.guard) : State.guard (s.when p f) = s.guard := by
  unfold State.when; split <;> simp [h]
@[simp] theorem State.fed_guard (s : State) (f : State → State) (h : ∀ s, State.guard (f s) = s.guard) : State.guard (s.fed f) = s.guard := by
  unfold State.fed; split <;> simp [h]
@[simp] theorem State.updLane_guard (s : State) (l : Lane) (f : LaneSt → LaneSt) :
    State.guard (State.updLane s l f) = State.guard s := by
  rfl
@[simp] theorem State.updLanes_guard (s : State) (f : LaneSt → LaneSt) :
    State.guard (State.updLanes s f) = State.guard s := by
  rfl
@[simp] theorem State.updCell_guard (s : State) (c : Nat) (f : CellSt → CellSt) :
    State.guard (State.updCell s c f) = State.guard s := by
  rfl
@[simp] theorem State.updBank_guard (s : State) (b : Nat) (f : BankSt → BankSt) :
    State.guard (State.updBank s b f) = State.guard s := by
  rfl
@[simp] theorem State.updNet_guard (s : State) (n : Net) (f : NetSt → NetSt) :
    State.guard (State.updNet s n f) = State.guard s := by
  rfl
@[simp] theorem State.updConn_guard (s : State) (n : Nat) (f : ConnSt → ConnSt) :
    State.guard (State.updConn s n f) = State.guard s := by
  rfl
@[simp] theorem State.updRecv_guard (s : State) (n : Nat) (f : RecvRec → RecvRec) :
    State.guard (State.updRecv s n f) = State.guard s := by
  rfl
@[simp] theorem State.updElem_guard (s : State) (n : Nat) (f : Elem → Elem) :
    State.guard (State.updElem s n f) = State.guard s := by
  rfl
@[simp] theorem State.updRoute_guard (s : State) (r : Nat) (f : RouteCell → RouteCell) :
    State.guard (State.updRoute s r f) = State.guard s := by
  rfl
@[simp] theorem State.updBox_guard (s : State) (mb : Nat) (f : Mbox → Mbox) :
    State.guard (State.updBox s mb f) = State.guard s := by
  rfl
@[simp] theorem State.updTunnel_guard (s : State) (t : Nat) (f : Tunnel → Tunnel) :
    State.guard (State.updTunnel s t f) = State.guard s := by
  rfl
@[simp] theorem State.updPort_guard (s : State) (p : Nat) (f : LegacyPort → LegacyPort) :
    State.guard (State.updPort s p f) = State.guard s := by
  rfl
@[simp] theorem State.putEff_guard (s : State) (c : Nat) (e : Bool) :
    State.guard (State.putEff s c e) = State.guard s := by
  simp [State.putEff]
@[simp] theorem State.dropEffs_guard (s : State) (cs : List Nat) :
    State.guard (State.dropEffs s cs) = State.guard s := by
  unfold State.dropEffs
  induction cs generalizing s with
  | nil => rfl
  | cons c cs ih => simp only [List.foldl_cons, ih, State.putEff_guard]
@[simp] theorem State.passToken_guard (s : State) :
    State.guard (State.passToken s) = State.guard s := by
  rfl
@[simp] theorem State.settleToken_guard (s : State) :
    State.guard (State.settleToken s) = State.guard s := by
  simp [State.settleToken]
@[simp] theorem State.spendToken_guard (s : State) (t : Token) :
    State.guard (State.spendToken s t) = State.guard s := by
  simp [State.spendToken]
@[simp] theorem State.addHedge_guard (s : State) (h : Hedge) :
    State.guard (State.addHedge s h) = State.guard s := by
  simp [State.addHedge]
@[simp] theorem State.dropHedges_guard (s : State) (p : Hedge → Bool) :
    State.guard (State.dropHedges s p) = State.guard s := by
  rfl
@[simp] theorem State.updHedges_guard (s : State) (p : Hedge → Bool) (f : Hedge → Hedge) :
    State.guard (State.updHedges s p f) = State.guard s := by
  rfl
@[simp] theorem State.plSend_guard (s : State) (m : PlMsg) :
    State.guard (State.plSend s m) = State.guard s := by
  simp [State.plSend]
@[simp] theorem State.fresh_guard (s : State) :
    State.guard (State.fresh s).2 = State.guard s := by
  rfl
@[simp] theorem State.freshBytes_guard (x0 : Nat) (x1 : State) :
    State.guard (State.freshBytes x0 x1).2 = State.guard x1 := by
  induction x0 generalizing x1 with
  | zero => rfl
  | succ n ih => simp [State.freshBytes, ih]
@[simp] theorem State.freshNat_guard (s : State) (n : Nat) :
    State.guard (State.freshNat s n).2 = State.guard s := by
  rfl
@[simp] theorem State.freshCode_guard (s : State) :
    State.guard (State.freshCode s).2 = State.guard s := by
  rfl
@[simp] theorem State.takeSeq_guard (s : State) :
    State.guard (State.takeSeq s).2 = State.guard s := by
  rfl
@[simp] theorem State.updRecs_guard (s : State) (f : RecSt → RecSt) :
    State.guard (State.updRecs s f) = State.guard s := by
  rfl
@[simp] theorem State.takeSeqs_guard (s : State) (n : Nat) :
    State.guard (State.takeSeqs s n).2 = State.guard s := by
  simp [State.takeSeqs]
@[simp] theorem State.toRc_guard (s : State) (prio : Nat) (x : Rec) :
    State.guard (State.toRc s prio x) = State.guard s := by
  simp [State.toRc]
@[simp] theorem State.logFault_guard (s : State) (x : FaultRec) :
    State.guard (State.logFault s x) = State.guard s := by
  rfl
@[simp] theorem State.logCount_guard (s : State) (c : Coal) (seq : Nat) :
    State.guard (State.logCount s c seq) = State.guard s := by
  simp [State.logCount]
@[simp] theorem State.alarmSeq_guard (s : State) (kind : Nat) (source : Nat) (seq : Nat) :
    State.guard (State.alarmSeq s kind source seq) = State.guard s := by
  simp [State.alarmSeq]
@[simp] theorem State.closeCoal_guard (s : State) (c : Coal) :
    State.guard (State.closeCoal s c) = State.guard s := by
  simp [State.closeCoal]
@[simp] theorem State.openCoal_guard (s : State) (kind : Nat) (source : Nat) (prio : Nat) (ot : Nat) (x : Rec) (body : Bytes) :
    State.guard (State.openCoal s kind source prio ot x body) = State.guard s := by
  simp [State.openCoal]
@[simp] theorem State.recordAt_guard (s : State) (kind : Nat) (source : Nat) (seq : Nat) (ot : Nat) (flags : Nat) (cls : Nat) (body : Bytes) :
    State.guard (State.recordAt s kind source seq ot flags cls body) = State.guard s := by
  unfold State.recordAt; split <;> simp
@[simp] theorem State.record_guard (s : State) (kind : Nat) (source : Nat) (body : Bytes) :
    State.guard (State.record s kind source body).2 = State.guard s := by
  simp [State.record]
@[simp] theorem State.refill_guard (s : State) :
    State.guard (State.refill s) = State.guard s := by
  simp [State.refill]
@[simp] theorem State.archiveEnd_guard (s : State) :
    State.guard (State.archiveEnd s) = State.guard s := by
  simp [State.archiveEnd]
@[simp] theorem State.drain_guard (s : State) (n : Nat) :
    State.guard (State.drain s n) = State.guard s := by
  simp [State.drain]
@[simp] theorem State.archiveTrigger_guard (s : State) (cause : Nat) :
    State.guard (State.archiveTrigger s cause) = State.guard s := by
  simp [State.archiveTrigger]
@[simp] theorem State.changeAt_guard (s : State) (seq : Nat) (kind : Nat) (cred : Nat) (session : Nat) (ep : Nat) (cmd : Nat) (cbody : Bytes) :
    State.guard (State.changeAt s seq kind cred session ep cmd cbody) = State.guard s := by
  simp [State.changeAt]
@[simp] theorem State.change_guard (s : State) (kind : Nat) (cred : Nat) (session : Nat) (ep : Nat) (cmd : Nat) (cbody : Bytes) :
    State.guard (State.change s kind cred session ep cmd cbody) = State.guard s := by
  simp [State.change]
@[simp] theorem State.ownChange_guard (s : State) (kind : Nat) (cbody : Bytes) :
    State.guard (State.ownChange s kind cbody) = State.guard s := by
  simp [State.ownChange]
@[simp] theorem State.bootRecord_guard (s : State) (cause : Nat) (jump : Nat) :
    State.guard (State.bootRecord s cause jump) = State.guard s := by
  simp [State.bootRecord]
@[simp] theorem State.lastResort_guard (s : State) (region : Nat) (f : Fsid) (seq : Nat) :
    State.guard (State.lastResort s region f seq) = State.guard s := by
  rfl
@[simp] theorem State.ringPut_guard (s : State) (n : Notif) :
    State.guard (State.ringPut s n) = State.guard s := by
  rfl
@[simp] theorem State.flushWaiting_guard (s : State) :
    State.guard (State.flushWaiting s) = State.guard s := by
  simp [State.flushWaiting]
@[simp] theorem State.notify_guard (s : State) (n : Notif) :
    State.guard (State.notify s n) = State.guard s := by
  simp [State.notify]
@[simp] theorem State.closeAlarm_guard (s : State) (w : AlarmWin) :
    State.guard (State.closeAlarm s w) = State.guard s := by
  simp [State.closeAlarm]
@[simp] theorem State.openAlarm_guard (s : State) (f : Fsid) (seq : Nat) (body : Bytes) :
    State.guard (State.openAlarm s f seq body) = State.guard s := by
  simp [State.openAlarm]
@[simp] theorem State.alarm_guard (s : State) (f : Fsid) (raised : Nat) (applied : Nat) (parent : Nat) (seq : Nat) (full : Bool) :
    State.guard (State.alarm s f raised applied parent seq full) = State.guard s := by
  unfold State.alarm; split <;> simp
@[simp] theorem State.writeCompl_guard (s : State) (c : Compl) :
    State.guard (State.writeCompl s c) = State.guard s := by
  simp [State.writeCompl]
@[simp] theorem State.complete_guard (s : State) (r : CmdRef) (status : Nat) (result : Bytes) :
    State.guard (State.complete s r status result) = State.guard s := by
  simp [State.complete]
@[simp] theorem State.completeLater_guard (s : State) (c : Compl) :
    State.guard (State.completeLater s c) = State.guard s := by
  rfl
@[simp] theorem State.flushCompl_guard (s : State) :
    State.guard (State.flushCompl s) = State.guard s := by
  simp [State.flushCompl]
@[simp] theorem State.recordState_guard (s : State) (subject : Nat) (index : Nat) (old : Nat) (new : Nat) :
    State.guard (State.recordState s subject index old new).2 = State.guard s := by
  simp [State.recordState]
@[simp] theorem State.laneEvent_guard (s : State) (l : Lane) (old : Nat) (new : Nat) (latch : Bool) (f : Option Fsid) :
    State.guard (State.laneEvent s l old new latch f) = State.guard s := by
  simp [State.laneEvent]
@[simp] theorem State.pairNotice_guard (s : State) (old : PairState) :
    State.guard (State.pairNotice s old) = State.guard s := by
  simp [State.pairNotice]
@[simp] theorem State.setPair_guard (s : State) (p : PairState) :
    State.guard (State.setPair s p) = State.guard s := by
  simp [State.setPair]
@[simp] theorem State.setMod_guard (s : State) (m : ModState) :
    State.guard (State.setMod s m) = State.guard s := by
  simp [State.setMod]
@[simp] theorem State.progress_guard (s : State) (r : Option CmdRef) (cmd : Nat) (step : Nat) (steps : Nat) :
    State.guard (State.progress s r cmd step steps) = State.guard s := by
  simp [State.progress]
@[simp] theorem State.postErr_guard (s : State) (source : Nat) (window : Nat) (addr : Nat) (fstat : Nat) (ep : Nat) :
    State.guard (State.postErr s source window addr fstat ep) = State.guard s := by
  simp [State.postErr]
@[simp] theorem State.refChange_guard (s : State) (r : CmdRef) (kind : Nat) (body : Bytes) :
    State.guard (State.refChange s r kind body) = State.guard s := by
  simp [State.refChange]
@[simp] theorem State.updUpd_guard (s : State) (f : UpdSt → UpdSt) :
    State.guard (s.updUpd f) = (s.id.creds, (f s.upd).rbfloor, s.be.tamper, s.be.tamperWt, s.be.tamperWtOk) := rfl
@[simp] theorem State.setSlot_guard (s : State) (kind : Nat) (b : Bool) (x : Slot) :
    State.guard (State.setSlot s kind b x) = State.guard s := by
  unfold State.setSlot; split <;> simp
@[simp] theorem State.updAct_guard (s : State) (f : ActSt → ActSt) :
    State.guard (State.updAct s f) = State.guard s := by
  rfl
@[simp] theorem State.abortUpd_guard (s : State) (cause : Nat) :
    State.guard (State.abortUpd s cause) = State.guard s := by
  unfold State.abortUpd; dsimp only; (repeat' split) <;> simp_all
@[simp] theorem State.emptyFrame_guard (s : State) :
    State.guard (State.emptyFrame s) = State.guard s := by
  rfl
@[simp] theorem State.closeCursor_guard (s : State) :
    State.guard (State.closeCursor s) = State.guard s := by
  rfl
@[simp] theorem State.endSession_guard (s : State) (id : Nat) :
    State.guard (State.endSession s id) = State.guard s := by
  unfold State.endSession; split <;> simp
@[simp] theorem State.dropProv_guard (s : State) :
    State.guard (State.dropProv s) = State.guard s := by
  unfold State.dropProv; split <;> simp
@[simp] theorem State.serviceDown_guard (s : State) (rc : Bool) :
    State.guard (State.serviceDown s rc) = State.guard s := by
  simp [State.serviceDown]
@[simp] theorem State.serviceUp_guard (s : State) :
    State.guard (State.serviceUp s) = State.guard s := by
  simp [State.serviceUp]
@[simp] theorem State.updBridge_guard (s : State) (f : BridgeSt → BridgeSt) :
    State.guard (State.updBridge s f) = State.guard s := by
  rfl
@[simp] theorem State.postedFailed_guard (s : State) (x : Xfer) (fstat : Nat) :
    State.guard (State.postedFailed s x fstat) = State.guard s := by
  simp [State.postedFailed]
@[simp] theorem State.endXfer_guard (s : State) (x : Xfer) (fstat : Nat) (data : Bytes) :
    State.guard (State.endXfer s x fstat data) = State.guard s := by
  unfold State.endXfer; split <;> simp
@[simp] theorem State.resetSb_guard (s : State) :
    State.guard (State.resetSb s) = State.guard s := by
  simp [State.resetSb]
@[simp] theorem State.useSet_guard (s : State) (x : Option SlotSet) :
    State.guard (State.useSet s x) = State.guard s := by
  rfl
@[simp] theorem State.switchFw_guard (s : State) :
    State.guard (State.switchFw s) = State.guard s := by
  unfold State.switchFw; dsimp only; (repeat' split) <;> simp_all
@[simp] theorem State.revertFw_guard (s : State) :
    State.guard (State.revertFw s) = State.guard s := by
  unfold State.revertFw; dsimp only; (repeat' split) <;> simp_all
@[simp] theorem State.endFallback_guard (s : State) :
    State.guard (State.endFallback s) = State.guard s := by
  unfold State.endFallback; (repeat' split) <;> simp
@[simp] theorem State.fallbackRec_guard (s : State) (a : ActSt) (item : Nat) :
    State.guard (State.fallbackRec s a item) = State.guard s := by
  simp [State.fallbackRec]
@[simp] theorem State.kernelBack_guard (s : State) (a : ActSt) :
    State.guard (State.kernelBack s a) = State.guard s := by
  simp [State.kernelBack]
@[simp] theorem State.kernelMapBack_guard (s : State) (a : ActSt) :
    State.guard (State.kernelMapBack s a) = State.guard s := by
  rfl
@[simp] theorem State.failAct_guard (s : State) (item : Nat) :
    State.guard (State.failAct s item) = State.guard s := by
  unfold State.failAct; (repeat' split) <;> simp
@[simp] theorem State.actLane_guard (s : State) (l : Lane) :
    State.guard (State.actLane s l) = State.guard s := by
  unfold State.actLane; split <;> simp
@[simp] theorem State.actSafe_guard (s : State) :
    State.guard (State.actSafe s) = State.guard s := by
  unfold State.actSafe; split <;> simp
@[simp] theorem State.actService_guard (s : State) :
    State.guard (State.actService s) = State.guard s := by
  unfold State.actService; split <;> simp
@[simp] theorem State.recordEvent_guard (s : State) (f : Fsid) (raised : Nat) (applied : Nat) (conseq : Bool) (escal : Bool) (parent : Option Nat) :
    State.guard (State.recordEvent s f raised applied conseq escal parent).2 = State.guard s := by
  simp [State.recordEvent]
@[simp] theorem State.noteFault_guard (s : State) (seq : Nat) (x : List Nat) :
    State.guard (State.noteFault s seq x) = State.guard s := by
  rfl
@[simp] theorem State.startGrace_guard (s : State) (f : Fsid) (seq : Nat) (cls : Nat) (out : Option Lane) :
    State.guard (State.startGrace s f seq cls out) = State.guard s := by
  simp [State.startGrace]
@[simp] theorem State.abandonWith_guard (s : State) (status : Nat) (cause : Nat) (result : Bytes) :
    State.guard (State.abandonWith s status cause result) = State.guard s := by
  unfold State.abandonWith; split <;> simp
@[simp] theorem State.abandonTest_guard (s : State) (status : Nat) (cause : Nat) :
    State.guard (State.abandonTest s status cause) = State.guard s := by
  simp [State.abandonTest]
@[simp] theorem State.safeActions_guard (s : State) :
    State.guard (State.safeActions s) = State.guard s := by
  simp [State.safeActions]
@[simp] theorem State.enterTerminal_guard (s : State) :
    State.guard (State.enterTerminal s) = State.guard s := by
  simp [State.enterTerminal]
@[simp] theorem State.safeLimit_guard (s : State) :
    State.guard (State.safeLimit s) = State.guard s := by
  simp [State.safeLimit]
@[simp] theorem State.enterSafe_guard (s : State) (seq : Nat) :
    State.guard (State.enterSafe s seq) = State.guard s := by
  simp [State.enterSafe]
@[simp] theorem State.latchMark_guard (s : State) (l : Lane) :
    State.guard (State.latchMark s l) = State.guard s := by
  simp [State.latchMark]
@[simp] theorem State.latchOut_guard (s : State) (l : Lane) :
    State.guard (State.latchOut s l) = State.guard s := by
  simp [State.latchOut]
@[simp] theorem State.withdraw_guard (s : State) (l : Lane) (f : Fsid) (seq : Nat) (hold : LHold) (counted : Bool) :
    State.guard (State.withdraw s l f seq hold counted) = State.guard s := by
  simp [State.withdraw]
@[simp] theorem State.afterWithdraw_guard (s : State) (l : Lane) (f : Fsid) :
    State.guard (State.afterWithdraw s l f) = State.guard s := by
  rfl
@[simp] theorem State.countEvent_guard (s : State) (f : Fsid) (dflt : Nat) :
    State.guard (State.countEvent s f dflt).2.2 = State.guard s := by
  unfold State.countEvent; (repeat' split) <;> simp
@[simp] theorem State.serviceRestart_guard (s : State) (rc : Bool) :
    State.guard (State.serviceRestart s rc) = State.guard s := by
  simp [State.serviceRestart]
@[simp] theorem State.openCut_guard (s : State) (b : Nat) :
    State.guard (State.openCut s b) = State.guard s := by
  simp [State.openCut]
@[simp] theorem State.cutOf_guard (s : State) (blk : Nat) :
    State.guard (State.cutOf s blk) = State.guard s := by
  simp [State.cutOf]
@[simp] theorem State.hedgeUnsettled_guard (s : State) (blk : Nat) (f : Fsid) (seq : Nat) :
    State.guard (State.hedgeUnsettled s blk f seq) = State.guard s := by
  simp [State.hedgeUnsettled]
@[simp] theorem State.notSettled_guard (s : State) (blk : Nat) (parent : Option Nat) :
    State.guard (State.notSettled s blk parent) = State.guard s := by
  unfold State.notSettled; dsimp only; (repeat' split) <;> simp
@[simp] theorem State.clearBlock_guard (s : State) (blk : Nat) :
    State.guard (State.clearBlock s blk) = State.guard s := by
  simp [State.clearBlock]
@[simp] theorem State.postedMasked_guard (s : State) (k seq : Nat) :
    State.guard (State.postedMasked s k seq) = State.guard s := by
  simp [State.postedMasked]
@[simp] theorem State.resetBlock_guard (s : State) (blk : Nat) (f : Fsid) (seq : Nat) :
    State.guard (State.resetBlock s blk f seq) = State.guard s := by
  unfold State.resetBlock; split <;> simp
@[simp] theorem State.hedgeCell_guard (s : State) (c : Nat) (f : Fsid) (seq : Nat) :
    State.guard (State.hedgeCell s c f seq) = State.guard s := by
  simp [State.hedgeCell]
@[simp] theorem State.containCm_guard (s : State) (f : Fsid) (seq : Nat) :
    State.guard (State.containCm s f seq) = State.guard s := by
  simp [State.containCm]
@[simp] theorem State.hedgeEngine_guard (s : State) (l : Lane) (f : Fsid) (seq : Nat) :
    State.guard (State.hedgeEngine s l f seq) = State.guard s := by
  simp [State.hedgeEngine]
@[simp] theorem State.failResync_guard (s : State) (l : Lane) (parent : Option Nat) :
    State.guard (State.failResync s l parent) = State.guard s := by
  unfold State.failResync; dsimp only; (repeat' split) <;> simp_all
@[simp] theorem State.reactLane_guard (s : State) (l : Lane) (f : Fsid) (cls : Nat) (seq : Nat) :
    State.guard (State.reactLane s l f cls seq) = State.guard s := by
  unfold State.reactLane; split <;> simp
@[simp] theorem State.react_guard (s : State) (f : Fsid) (cls : Nat) (seq : Nat) (named : Option Lane) :
    State.guard (State.react s f cls seq named) = State.guard s := by
  unfold State.react; (repeat' split) <;> simp
@[simp] theorem State.collectFull_guard (s : State) (f : Fsid) (dflt : Nat) (parent : Option Nat) (named : Option Lane) (via : Option Net) :
    State.guard (State.collectFull s f dflt parent named via).2 = State.guard s := by
  unfold State.collectFull; dsimp only; (repeat' split) <;> simp_all
@[simp] theorem State.collect_guard (s : State) (f : Fsid) :
    State.guard (State.collect s f) = State.guard s := by
  simp [State.collect]
@[simp] theorem State.collectNamed_guard (s : State) (f : Fsid) (x : List Nat) :
    State.guard (State.collectNamed s f x) = State.guard s := by
  simp [State.collectNamed]
@[simp] theorem State.collectOpen_guard (s : State) (level : Nat) (region : Nat) (block : Nat) (cell : Nat) (k : Nat) (cls : Nat) :
    State.guard (State.collectOpen s level region block cell k cls) = State.guard s := by
  simp [State.collectOpen]
@[simp] theorem State.stopModule_guard (s : State) (f : Fsid) :
    State.guard (State.stopModule s f) = State.guard s := by
  simp [State.stopModule]
@[simp] theorem State.updCh_guard (s : State) (c : Nat) (l : Lane) (f : ChSt → ChSt) :
    State.guard (State.updCh s c l f) = State.guard s := by
  rfl
@[simp] theorem State.pairTick_guard (s : State) (c : Nat) (l : Lane) :
    State.guard (State.pairTick s c l) = State.guard s := by
  simp [State.pairTick]
@[simp] theorem State.pairTicks_guard (s : State) (c : Nat) :
    State.guard (State.pairTicks s c) = State.guard s := by
  simp [State.pairTicks]
@[simp] theorem State.enterWarm_guard (s : State) (c : Nat) :
    State.guard (State.enterWarm s c) = State.guard s := by
  simp [State.enterWarm]
@[simp] theorem State.warmAll_guard (s : State) :
    State.guard (State.warmAll s) = State.guard s := by
  simp [State.warmAll]
@[simp] theorem State.latchCell_guard (s : State) (c : Nat) :
    State.guard (State.latchCell s c) = State.guard s := by
  rfl
@[simp] theorem State.latchAll_guard (s : State) :
    State.guard (State.latchAll s) = State.guard s := by
  simp [State.latchAll]
@[simp] theorem State.setLatches_guard (s : State) :
    State.guard (State.setLatches s) = State.guard s := by
  simp [State.setLatches]
@[simp] theorem State.countDis_guard (s : State) (c : Nat) (l : Lane) :
    State.guard (State.countDis s c l) = State.guard s := by
  rfl
@[simp] theorem State.updRels_guard (s : State) (f : RelSt → RelSt) :
    State.guard (State.updRels s f) = State.guard s := by
  rfl
@[simp] theorem State.raiseDis_guard (s : State) (c : Nat) :
    State.guard (State.raiseDis s c) = State.guard s := by
  simp [State.raiseDis]
@[simp] theorem State.disagreements_guard (s : State) :
    State.guard (State.disagreements s) = State.guard s := by
  simp [State.disagreements]
@[simp] theorem State.pulseFault_guard (s : State) (c : Nat) (det : Nat) (ls : List Lane) :
    State.guard (State.pulseFault s c det ls) = State.guard s := by
  simp [State.pulseFault]
@[simp] theorem State.latchFlag_guard (s : State) (c : Nat) (det : Nat) :
    State.guard (State.latchFlag s c det) = State.guard s := by
  simp [State.latchFlag]
@[simp] theorem State.latchFlags_guard (s : State) :
    State.guard (State.latchFlags s) = State.guard s := by
  simp [State.latchFlags]
@[simp] theorem State.beginRels_guard (s : State) :
    State.guard (State.beginRels s) = State.guard s := by
  simp (disch := intros; (repeat' split) <;> simp) [State.beginRels]
@[simp] theorem State.frameStart_guard (s : State) :
    State.guard (State.frameStart s) = State.guard s := by
  simp [State.frameStart]
@[simp] theorem State.frameEnd_guard (s : State) :
    State.guard (State.frameEnd s) = State.guard s := by
  simp [State.frameEnd]
@[simp] theorem State.pairsTick_guard (s : State) :
    State.guard (State.pairsTick s) = State.guard s := by
  simp [State.pairsTick]
theorem execTestPulseStart_guard (cell : Nat) (on : Trio CellMask) (s : State) :
    ∀ t, (execTestPulseStart cell on s) = .next t → State.guard t = State.guard s := by
  rintro _ ⟨⟩; simp
theorem execTestPulseEnd_guard (cell : Nat) (dropped : Trio Bool) (s : State) :
    ∀ t, (execTestPulseEnd cell dropped s) = .next t → State.guard t = State.guard s := by
  rintro _ ⟨⟩; simp
theorem execPulseWindowEnd_guard (slot : Nat) (dropped : Trio CellMask) (recovered : Trio CellMask) (nextOn : Trio CellMask) (sxFell : Bool) (sxBack : Bool) (s : State) :
    ∀ t, (execPulseWindowEnd slot dropped recovered nextOn sxFell sxBack s) = .next t → State.guard t = State.guard s := by
  rintro _ ⟨⟩; simp
theorem execSxCurrentLimit_guard (cell : Nat) (s : State) :
    ∀ t, (execSxCurrentLimit cell s) = .next t → State.guard t = State.guard s := by
  rintro _ ⟨⟩; simp
theorem execInputFilterChange_guard (lane : Lane) (cell : Nat) (samples : List Bool) (s : State) :
    ∀ t, (execInputFilterChange lane cell samples s) = .next t → State.guard t = State.guard s := by
  rintro _ ⟨⟩; (repeat' split) <;> simp
theorem execChannelDisagreement_guard (lane : Lane) (cell : Nat) (s : State) :
    ∀ t, (execChannelDisagreement lane cell s) = .next t → State.guard t = State.guard s := by
  rintro _ ⟨⟩; simp
theorem execDiscrepancyFault_guard (lane : Lane) (cell : Nat) (s : State) :
    ∀ t, (execDiscrepancyFault lane cell s) = .next t → State.guard t = State.guard s := by
  rintro _ ⟨⟩; dsimp only; (repeat' split) <;> simp_all
theorem execBankSupplyTrip_guard (bank : Nat) (high : Bool) (s : State) :
    ∀ t, (execBankSupplyTrip bank high s) = .next t → State.guard t = State.guard s := by
  rintro _ ⟨⟩; simp
theorem execBankSupplyRecover_guard (bank : Nat) (s : State) :
    ∀ t, (execBankSupplyRecover bank s) = .next t → State.guard t = State.guard s := by
  rintro _ ⟨⟩; simp
@[simp] theorem State.liftFsv_guard (s : State) :
    State.guard (State.liftFsv s) = State.guard s := by
  simp [State.liftFsv]
@[simp] theorem State.setEff_guard (s : State) (c : Nat) :
    State.guard (State.setEff s c) = State.guard s := by
  simp [State.setEff]
@[simp] theorem State.setEffs_guard (s : State) (cs : List Nat) :
    State.guard (State.setEffs s cs) = State.guard s := by
  simp [State.setEffs]
@[simp] theorem State.driveCell_guard (s : State) (m : CellMask) (c : Nat) :
    State.guard (State.driveCell s m c) = State.guard s := by
  simp [State.driveCell]
@[simp] theorem State.driveStep_guard (s : State) (m : CellMask) :
    State.guard (State.driveStep s m) = State.guard s := by
  simp [State.driveStep]
@[simp] theorem State.raiseNamed_guard (s : State) (c : Nat) (det : Nat) (x : List Nat) :
    State.guard (State.raiseNamed s c det x) = State.guard s := by
  simp [State.raiseNamed]
@[simp] theorem State.raiseOut_guard (s : State) (c : Nat) (det : Nat) :
    State.guard (State.raiseOut s c det) = State.guard s := by
  simp [State.raiseOut]
@[simp] theorem State.noteCounted_guard (s : State) (c : Nat) :
    State.guard (State.noteCounted s c) = State.guard s := by
  rfl
@[simp] theorem State.roundEnd_guard (s : State) :
    State.guard (State.roundEnd s) = State.guard s := by
  simp [State.roundEnd]
@[simp] theorem State.roundStart_guard (s : State) :
    State.guard (State.roundStart s) = State.guard s := by
  simp [State.roundStart]
theorem execRoundMark_guard (lane : Lane) (s : State) :
    ∀ t, (execRoundMark lane s) = .next t → State.guard t = State.guard s := by
  rintro _ ⟨⟩
  split
  · rfl
  · dsimp only
    split
    · rw [State.roundStart_guard]; split <;> simp
    · simp
theorem execTestNotCompleted_guard (cell : Nat) (lane : Lane) (s : State) :
    ∀ t, (execTestNotCompleted cell lane s) = .next t → State.guard t = State.guard s := by
  rintro _ ⟨⟩; simp
theorem execTestPosition_guard (bank : Nat) (midOk : Bool) (s : State) :
    ∀ t, (execTestPosition bank midOk s) = .next t → State.guard t = State.guard s := by
  rintro _ ⟨⟩; dsimp only; (repeat' split) <;> simp_all
theorem execDarkStepEnd_guard (bank : Nat) (current : Paths Bool) (s : State) :
    ∀ t, (execDarkStepEnd bank current s) = .next t → State.guard t = State.guard s := by
  rintro _ ⟨⟩; (repeat' split) <;> simp
theorem execLightStepEnd_guard (bank : Nat) (mids : Paths Mid) (current : Paths Bool) (pxOn : Bool) (s : State) :
    ∀ t, (execLightStepEnd bank mids current pxOn s) = .next t → State.guard t = State.guard s := by
  rintro _ ⟨⟩; (repeat' split) <;> simp
theorem execMidpointStuck_guard (cell : Nat) (_path : Path) (_high : Bool) (s : State) :
    ∀ t, (execMidpointStuck cell _path _high s) = .next t → State.guard t = State.guard s := by
  rintro _ ⟨⟩; simp
theorem execPathCurrentWithdrawn_guard (cell : Nat) (path : Path) (s : State) :
    ∀ t, (execPathCurrentWithdrawn cell path s) = .next t → State.guard t = State.guard s := by
  rintro _ ⟨⟩; simp
@[simp] theorem State.updTest_guard (s : State) (f : TestSt → TestSt) :
    State.guard (State.updTest s f) = State.guard s := by
  rfl
@[simp] theorem State.cutTest_guard (s : State) (cs : List Nat) :
    State.guard (State.cutTest s cs) = State.guard s := by
  simp [State.cutTest]
@[simp] theorem State.cutBank_guard (s : State) (b : Nat) :
    State.guard (State.cutBank s b) = State.guard s := by
  simp [State.cutBank]
@[simp] theorem State.readFault_guard (s : State) (c : Nat) :
    State.guard (State.readFault s c) = State.guard s := by
  simp [State.readFault]
@[simp] theorem State.readOne_guard (s : State) (c : Nat) (l : Lane) (v : Bool) :
    State.guard (State.readOne s c l v) = State.guard s := by
  simp [State.readOne]
theorem execReadbackFault_guard (lane : Lane) (cell : Nat) (samples : List Bool) (s : State) :
    ∀ t, (execReadbackFault lane cell samples s) = .next t → State.guard t = State.guard s := by
  rintro _ ⟨⟩; (repeat' split) <;> simp
theorem execExternalVoltage_guard (cell : Nat) (s : State) :
    ∀ t, (execExternalVoltage cell s) = .next t → State.guard t = State.guard s := by
  rintro _ ⟨⟩; (repeat' split) <;> simp
@[simp] theorem State.readTick_guard (s : State) (c : Nat) :
    State.guard (State.readTick s c) = State.guard s := by
  simp [State.readTick]
@[simp] theorem State.cellTick_guard (s : State) :
    State.guard (State.cellTick s) = State.guard s := by
  simp [State.cellTick]
@[simp] theorem State.slotTick_guard (s : State) (us : Nat) :
    State.guard (State.slotTick s us) = State.guard s := by
  simp [State.slotTick]
@[simp] theorem State.nextSlot_guard (s : State) (us : Nat) (skew : Nat) :
    State.guard (State.nextSlot s us skew) = State.guard s := by
  simp [State.nextSlot]
theorem execSlotMark_guard (lane : Lane) (stamp : SlotStamp) (s : State) :
    ∀ t, (execSlotMark lane stamp s) = .next t → State.guard t = State.guard s := by
  rintro _ ⟨⟩; simp
@[simp] theorem State.dropSteps_guard (s : State) (cs : List Nat) :
    State.guard (State.dropSteps s cs) = State.guard s := by
  simp [State.dropSteps]
@[simp] theorem State.protCell_guard (s : State) (c : Nat) (det : Nat) :
    State.guard (State.protCell s c det) = State.guard s := by
  simp [State.protCell]
theorem execOverloadTrip_guard (cell : Nat) (_cause : Overload) (s : State) :
    ∀ t, (execOverloadTrip cell _cause s) = .next t → State.guard t = State.guard s := by
  rintro _ ⟨⟩; simp
theorem execClampOvertemp_guard (cell : Nat) (s : State) :
    ∀ t, (execClampOvertemp cell s) = .next t → State.guard t = State.guard s := by
  rintro _ ⟨⟩; simp
theorem execBankOvercurrent_guard (bank : Nat) (s : State) :
    ∀ t, (execBankOvercurrent bank s) = .next t → State.guard t = State.guard s := by
  rintro _ ⟨⟩; simp
theorem execFeedbackMismatch_guard (lane : Lane) (cell : Nat) (s : State) :
    ∀ t, (execFeedbackMismatch lane cell s) = .next t → State.guard t = State.guard s := by
  rintro _ ⟨⟩; simp
@[simp] theorem State.warmEnds_guard (s : State) :
    State.guard (State.warmEnds s) = State.guard s := by
  simp [State.warmEnds]
@[simp] theorem State.relDone_guard (s : State) (kind : Nat) (index : Nat) (ref : CmdRef) (st : Nat) :
    State.guard (State.relDone s kind index ref st) = State.guard s := by
  simp [State.relDone]
@[simp] theorem State.finishRel_guard (s : State) (r : RelSt) :
    State.guard (State.finishRel s r) = State.guard s := by
  simp [State.finishRel]
@[simp] theorem State.finishRels_guard (s : State) :
    State.guard (State.finishRels s) = State.guard s := by
  simp [State.finishRels]
@[simp] theorem State.arrive_guard (s : State) (k : ConnCfg) (p : Bool) (x : TgCopy) :
    State.guard (State.arrive s k p x) = State.guard s := by
  rfl
@[simp] theorem State.discard_guard (s : State) (g : Gvt) :
    State.guard (State.discard s g) = State.guard s := by
  unfold State.discard; split <;> simp
@[simp] theorem State.duplicate_guard (s : State) :
    State.guard (State.duplicate s) = State.guard s := by
  simp [State.duplicate]
@[simp] theorem State.notOwn_guard (s : State) (f : Frame) (k : State) (h : State.guard k = State.guard s) :
    State.guard (State.notOwn s f k) = State.guard s := by
  unfold State.notOwn; (repeat' split) <;> simp [h]
theorem execFrameReceived_guard (net : Net) (f : Frame) (us : Nat) (s : State) :
    ∀ t, (execFrameReceived net f us s) = .next t → State.guard t = State.guard s := by
  rintro _ ⟨⟩; dsimp only; split
  · rfl
  · refine State.notOwn_guard _ _ _ ?_; (repeat' split) <;> simp
theorem execSkewExpiry_guard (conn : Nat) (peer2 : Bool) (s : State) :
    ∀ t, (execSkewExpiry conn peer2 s) = .next t → State.guard t = State.guard s := by
  rintro _ ⟨⟩; (repeat' split) <;> simp
theorem execOneNetworkSilent_guard (conn : Nat) (s : State) :
    ∀ t, (execOneNetworkSilent conn s) = .next t → State.guard t = State.guard s := by
  rintro _ ⟨⟩; (repeat' split) <;> simp
@[simp] theorem State.sendOn_guard (s : State) (n : Net) (f : Frame) :
    State.guard (State.sendOn s n f) = State.guard s := by
  simp [State.sendOn]
@[simp] theorem State.sendBoth_guard (s : State) (udp : Option Nat) (g : Gvt) :
    State.guard (State.sendBoth s udp g) = State.guard s := by
  simp [State.sendBoth]
@[simp] theorem State.freezeAll_guard (s : State) :
    State.guard (State.freezeAll s) = State.guard s := by
  rfl
@[simp] theorem State.refuse_guard (s : State) (conn : Nat) (det : Nat) (via : Net) (f : ConnSt → ConnSt) :
    State.guard (State.refuse s conn det via f) = State.guard s := by
  simp [State.refuse]
@[simp] theorem State.connTimeout_guard (s : State) (k : ConnCfg) (r : RecvRec) :
    State.guard (State.connTimeout s k r) = State.guard s := by
  unfold State.connTimeout; (repeat' split) <;> simp
@[simp] theorem State.connRelease_guard (s : State) (n : Nat) :
    State.guard (State.connRelease s n) = State.guard s := by
  unfold State.connRelease; split <;> simp
@[simp] theorem State.examine_guard (k : ConnCfg) (r : RecvRec) (x : State × List PCopy × List PCopy) (y : PCopy) :
    State.guard (State.examine k r x y).1 = State.guard x.1 := by
  unfold State.examine; dsimp only; (repeat' split) <;> simp
@[simp] theorem State.examine_fold_guard (k : ConnCfg) (r : RecvRec) (xs : List PCopy) (x : State × List PCopy × List PCopy) :
    State.guard (xs.foldl (State.examine k r) x).1 = State.guard x.1 := by
  induction xs generalizing x with
  | nil => rfl
  | cons y ys ih => rw [List.foldl_cons, ih]; exact State.examine_guard _ _ _ _
@[simp] theorem State.snapCopies_guard (s : State) (k : ConnCfg) (r : RecvRec) (c : ConnSt) :
    State.guard (s.snapCopies k r c) = State.guard s := by
  unfold State.snapCopies; dsimp only; (repeat' split) <;> simp
@[simp] theorem State.connChanged_guard (s : State) (n : Nat) :
    State.guard (State.connChanged s n) = State.guard s := by
  simp [State.connChanged]
@[simp] theorem State.snapConn_guard (s : State) (k : ConnCfg) :
    State.guard (State.snapConn s k) = State.guard s := by
  unfold State.snapConn; dsimp only; (repeat' split) <;> simp_all
@[simp] theorem State.snapConns_guard (s : State) :
    State.guard (State.snapConns s) = State.guard s := by
  simp [State.snapConns]
@[simp] theorem State.raiseReq_guard (s : State) (route : Nat) (elem : Nat) (set : Bool) :
    State.guard (State.raiseReq s route elem set) = State.guard s := by
  rfl
@[simp] theorem State.raiseElem_guard (s : State) (num : Nat) (codes : List Nat) :
    State.guard (State.raiseElem s num codes) = State.guard s := by
  simp [State.raiseElem]
@[simp] theorem State.axleDone_guard (s : State) (x : AxleStep) (ok : Bool) (code : Nat) :
    State.guard (State.axleDone s x ok code) = State.guard s := by
  unfold State.axleDone; split <;> simp
@[simp] theorem State.axleArmed_guard (s : State) (num : Nat) (x : AxleStep) (code : Nat) :
    State.guard (State.axleArmed s num x code) = State.guard s := by
  unfold State.axleArmed; split <;> simp
@[simp] theorem State.axleSteps_guard (s : State) (num : Nat) (v : InEnv) (xs : List AxleStep) :
    State.guard (State.axleSteps s num v xs) = State.guard s := by
  simp (disch := intros; (repeat' split) <;> simp) [State.axleSteps]
@[simp] theorem State.inElem_guard (s : State) (dt : Nat) (steps : Nat → List AxleStep) (num : Nat) :
    State.guard (State.inElem s dt steps num) = State.guard s := by
  unfold State.inElem; dsimp only; (repeat' split) <;> simp_all
@[simp] theorem State.inputPass_guard (s : State) (dt : Nat) (steps : Nat → List AxleStep) :
    State.guard (State.inputPass s dt steps) = State.guard s := by
  simp [State.inputPass]
@[simp] theorem State.outElem_guard (s : State) (num : Nat) :
    State.guard (State.outElem s num) = State.guard s := by
  unfold State.outElem; split <;> simp
@[simp] theorem State.outputPass_guard (s : State) :
    State.guard (State.outputPass s) = State.guard s := by
  simp [State.outputPass]
@[simp] theorem State.elemEvent_guard (s : State) (num : Nat) (f : Elem → Elem) :
    State.guard (State.elemEvent s num f) = State.guard s := by
  unfold State.elemEvent; split <;> simp
theorem execMoveTimeLimit_guard (elem : Nat) (s : State) :
    ∀ t, (execMoveTimeLimit elem s) = .next t → State.guard t = State.guard s := by
  rintro _ ⟨⟩; simp
theorem execProvingTime_guard (elem : Nat) (s : State) :
    ∀ t, (execProvingTime elem s) = .next t → State.guard t = State.guard s := by
  rintro _ ⟨⟩; simp
theorem execClearingDelay_guard (elem : Nat) (s : State) :
    ∀ t, (execClearingDelay elem s) = .next t → State.guard t = State.guard s := by
  rintro _ ⟨⟩; simp
theorem execResetStepLimit_guard (elem : Nat) (s : State) :
    ∀ t, (execResetStepLimit elem s) = .next t → State.guard t = State.guard s := by
  rintro _ ⟨⟩; simp
theorem execCloseTimeLimit_guard (elem : Nat) (s : State) :
    ∀ t, (execCloseTimeLimit elem s) = .next t → State.guard t = State.guard s := by
  rintro _ ⟨⟩; simp
theorem execOpenDelay_guard (elem : Nat) (s : State) :
    ∀ t, (execOpenDelay elem s) = .next t → State.guard t = State.guard s := by
  rintro _ ⟨⟩; simp
theorem execDirectionExchangeLimit_guard (elem : Nat) (s : State) :
    ∀ t, (execDirectionExchangeLimit elem s) = .next t → State.guard t = State.guard s := by
  rintro _ ⟨⟩; simp
@[simp] theorem State.admission_guard (s : State) :
    State.guard (State.admission s) = State.guard s := by
  simp [State.admission]
@[simp] theorem State.recount_guard (s : State) (t : RouteEntry) (old : RouteCell) (new : RouteCell) :
    State.guard (State.recount s t old new) = State.guard s := by
  simp [State.recount]
@[simp] theorem State.ownerDone_guard (s : State) (owner : Nat) (c : RouteCell) (status : Nat) :
    State.guard (State.ownerDone s owner c status) = State.guard s := by
  unfold State.ownerDone; split <;> simp
@[simp] theorem State.raiseAuto_guard (s : State) (r : Nat) (origin : Nat) :
    State.guard (State.raiseAuto s r origin) = State.guard s := by
  rfl
@[simp] theorem State.afterReleased_guard (s : State) (r : Nat) (t : RouteEntry) (old : RouteCell) (new : RouteCell) (check : Nat) :
    State.guard (State.afterReleased s r t old new check) = State.guard s := by
  unfold State.afterReleased; (repeat' split) <;> simp
@[simp] theorem State.afterMove_guard (s : State) (r : Nat) (t : RouteEntry) (old : RouteCell) (new : RouteCell) (check : Nat) :
    State.guard (State.afterMove s r t old new check) = State.guard s := by
  unfold State.afterMove; (repeat' split) <;> simp
@[simp] theorem State.watchStep_guard (s : State) (dt : Nat) :
    State.guard (State.watchStep s dt) = State.guard s := by
  rfl
@[simp] theorem State.quietCheck_guard (s : State) (r : Nat) :
    State.guard (State.quietCheck s r) = State.guard s := by
  simp [State.quietCheck]
@[simp] theorem State.trigger_guard (s : State) (r : Nat) (t : RouteEntry) :
    State.guard (State.trigger s r t) = State.guard s := by
  simp [State.trigger]
@[simp] theorem State.tickApproach_guard (s : State) (dt : Nat) :
    State.guard (State.tickApproach s dt) = State.guard s := by
  simp [State.tickApproach]
@[simp] theorem State.tickRoutes_guard (s : State) (dt : Nat) :
    State.guard (State.tickRoutes s dt) = State.guard s := by
  rfl
@[simp] theorem State.badRoutes_guard (s : State) :
    State.guard (State.badRoutes s) = State.guard s := by
  unfold State.badRoutes; split <;> simp
@[simp] theorem State.passRoute_guard (s : State) (s0 : State) (evs : List (Nat × Eval)) (won : List Nat) (lost : List (Nat × Nat)) (r : Nat) :
    State.guard (State.passRoute s s0 evs won lost r) = State.guard s := by
  unfold State.passRoute; split <;> simp
@[simp] theorem State.countRequests_guard (s : State) :
    State.guard (State.countRequests s) = State.guard s := by
  rfl
@[simp] theorem State.passRoutes_guard (s : State) (dt : Nat) :
    State.guard (State.passRoutes s dt) = State.guard s := by
  simp [State.passRoutes]
@[simp] theorem State.triggers_guard (s : State) :
    State.guard (State.triggers s) = State.guard s := by
  simp (disch := intros; (repeat' split) <;> simp) [State.triggers]
@[simp] theorem State.quietChecks_guard (s : State) :
    State.guard (State.quietChecks s) = State.guard s := by
  simp [State.quietChecks]
@[simp] theorem State.writeElems_guard (s : State) (s0 : State) :
    State.guard (State.writeElems s s0) = State.guard s := by
  rfl
@[simp] theorem State.confirmAll_guard (s : State) :
    State.guard (State.confirmAll s) = State.guard s := by
  rfl
@[simp] theorem State.trellisPass_guard (s : State) (dt : Nat) :
    State.guard (State.trellisPass s dt) = State.guard s := by
  simp (disch := intros; (repeat' split) <;> simp) [State.trellisPass]
@[simp] theorem State.endReleased_guard (s : State) :
    State.guard (State.endReleased s) = State.guard s := by
  rfl
@[simp] theorem State.takeCmdseq_guard (s : State) :
    State.guard (State.takeCmdseq s).2 = State.guard s := by
  rfl
@[simp] theorem State.takeReqseq_guard (s : State) :
    State.guard (State.takeReqseq s).2 = State.guard s := by
  rfl
@[simp] theorem State.countNotEntered_guard (s : State) :
    State.guard (State.countNotEntered s) = State.guard s := by
  rfl
@[simp] theorem State.enter_guard (s : State) (r : Nat) (origin : Nat) (cmdseq : Nat) (ref : Option CmdRef) :
    State.guard (State.enter s r origin cmdseq ref) = State.guard s := by
  rfl
@[simp] theorem State.doneOp_guard (s : State) (ref : CmdRef) (status : Nat) (cmdseq : Nat) :
    State.guard (State.doneOp s ref status cmdseq) = State.guard s := by
  rfl
@[simp] theorem State.enterCancel_guard (s : State) (ref : CmdRef) (r : Nat) (q : Nat) :
    State.guard (State.enterCancel s ref r q) = State.guard s := by
  unfold State.enterCancel; split <;> simp
@[simp] theorem State.enterKey_guard (s : State) (ref : CmdRef) (n : Nat) (q : Nat) :
    State.guard (State.enterKey s ref n q) = State.guard s := by
  unfold State.enterKey; (repeat' split) <;> simp
@[simp] theorem State.enterOp_guard (s : State) (o : OpCmd) :
    State.guard (State.enterOp s o) = State.guard s := by
  unfold State.enterOp; dsimp only; (repeat' split) <;> simp_all
@[simp] theorem State.enterElemReq_guard (s : State) (x : Nat × Nat × Bool) :
    State.guard (State.enterElemReq s x) = State.guard s := by
  unfold State.enterElemReq; (repeat' split) <;> simp
@[simp] theorem State.enterAuto_guard (s : State) (x : Nat × Nat) :
    State.guard (State.enterAuto s x) = State.guard s := by
  unfold State.enterAuto; split <;> simp
@[simp] theorem State.enterRequests_guard (s : State) (ops : List OpCmd) :
    State.guard (State.enterRequests s ops) = State.guard s := by
  simp [State.enterRequests]
@[simp] theorem State.refuseOps_guard (s : State) (ops : List OpCmd) :
    State.guard (State.refuseOps s ops) = State.guard s := by
  simp [State.refuseOps]
@[simp] theorem State.routeEvent_guard (s : State) (r : Nat) (states : List Nat) (due : RouteEntry → RouteCell → Bool) :
    State.guard (State.routeEvent s r states due) = State.guard s := by
  unfold State.routeEvent; split <;> simp
theorem execSettingTimeLimit_guard (route : Nat) (s : State) :
    ∀ t, (execSettingTimeLimit route s) = .next t → State.guard t = State.guard s := by
  rintro _ ⟨⟩; simp
theorem execRequestLifetime_guard (route : Nat) (s : State) :
    ∀ t, (execRequestLifetime route s) = .next t → State.guard t = State.guard s := by
  rintro _ ⟨⟩; simp
theorem execApproachReleaseTimer_guard (route : Nat) (s : State) :
    ∀ t, (execApproachReleaseTimer route s) = .next t → State.guard t = State.guard s := by
  rintro _ ⟨⟩; simp
theorem execOverlapReleaseTimer_guard (route : Nat) (s : State) :
    ∀ t, (execOverlapReleaseTimer route s) = .next t → State.guard t = State.guard s := by
  rintro _ ⟨⟩; simp
theorem execReleasingTimeout_guard (route : Nat) (s : State) :
    ∀ t, (execReleasingTimeout route s) = .next t → State.guard t = State.guard s := by
  rintro _ ⟨⟩; simp
@[simp] theorem State.storeTables_guard (s : State) :
    State.guard (State.storeTables s) = State.guard s := by
  rfl
@[simp] theorem State.buildVecs_guard (s : State) :
    State.guard (State.buildVecs s) = State.guard s := by
  simp [State.buildVecs]
@[simp] theorem State.tableCheck_guard (s : State) :
    State.guard (State.tableCheck s) = State.guard s := by
  rfl
@[simp] theorem State.syncConns_guard (s : State) :
    State.guard (State.syncConns s) = State.guard s := by
  rfl
@[simp] theorem State.resetConns_guard (s : State) :
    State.guard (State.resetConns s) = State.guard s := by
  rfl
@[simp] theorem State.bindForces_guard (s : State) :
    State.guard (State.bindForces s) = State.guard s := by
  rfl
@[simp] theorem State.applyForceMarks_guard (s : State) :
    State.guard (State.applyForceMarks s) = State.guard s := by
  rfl
@[simp] theorem State.coldStart_guard (s : State) :
    State.guard (State.coldStart s) = State.guard s := by
  simp [State.coldStart]
@[simp] theorem State.warmStart_guard (s : State) (passed : Nat) :
    State.guard (State.warmStart s passed) = State.guard s := by
  rfl
@[simp] theorem State.startApp_guard (s : State) :
    State.guard (State.startApp s) = State.guard s := by
  simp [State.startApp]
@[simp] theorem State.graftLanes_guard (s : State) :
    State.guard (State.graftLanes s) = State.guard s := by
  rfl
@[simp] theorem State.graft_guard (s : State) (r : CmdRef) (new : Image) :
    State.guard (State.graft s r new) = State.guard s := by
  simp [State.graft]
@[simp] theorem State.latchSummary_guard (s : State) :
    State.guard (State.latchSummary s) = State.guard s := by
  rfl
@[simp] theorem State.seeRing_guard (s : State) (addr : Nat) (n : Nat) :
    State.guard (State.seeRing s addr n) = State.guard s := by
  simp [State.seeRing]
@[simp] theorem State.testFsv_guard (s : State) (id target : Nat) :
    State.guard (State.testFsv s id target).2 = State.guard s := by
  unfold State.testFsv; split <;> simp
@[simp] theorem State.coverLane_guard (s : State) (l : Lane) :
    State.guard (State.coverLane s l) = State.guard s := by
  simp [State.coverLane]
@[simp] theorem State.clocheStart_guard (s : State) :
    State.guard (State.clocheStart s) = State.guard s := by
  unfold State.clocheStart; split <;> simp
@[simp] theorem State.testFailed_guard (s : State) (id : Nat) (target : Nat) :
    State.guard (State.testFailed s id target) = State.guard s := by
  unfold State.testFailed; split <;> simp
@[simp] theorem State.testPassed_guard (s : State) (id : Nat) (target : Nat) :
    State.guard (State.testPassed s id target) = State.guard s := by
  unfold State.testPassed; split <;> simp
@[simp] theorem State.uncoverLane_guard (s : State) (l : Lane) (took : Bool) :
    State.guard (State.uncoverLane s l took) = State.guard s := by
  rfl
@[simp] theorem State.clocheEnd_guard (s : State) :
    State.guard (State.clocheEnd s) = State.guard s := by
  unfold State.clocheEnd; (repeat' split) <;> simp
theorem execTestComplete_guard (codes : List Nat) (s : State) :
    ∀ t, (execTestComplete codes s) = .next t → State.guard t = State.guard s := by
  rintro _ ⟨⟩; (repeat' split) <;> simp
theorem execPreconditionCheck_guard (q : Quantities) (s : State) :
    ∀ t, (execPreconditionCheck q s) = .next t → State.guard t = State.guard s := by
  rintro _ ⟨⟩; dsimp only; (repeat' split) <;> simp_all
theorem execOscillatorMeasurement_guard (offset : Int) (s : State) :
    ∀ t, (execOscillatorMeasurement offset s) = .next t → State.guard t = State.guard s := by
  rintro _ ⟨⟩; simp
@[simp] theorem State.testAtApply_guard (s : State) (old : Settings) (img : Bool) :
    State.guard (State.testAtApply s old img) = State.guard s := by
  unfold State.testAtApply; split <;> simp
@[simp] theorem State.passesAtApply_guard (s : State) (old : Settings) :
    State.guard (State.passesAtApply s old) = State.guard s := by
  rfl
@[simp] theorem State.breakCheck_guard (s : State) :
    State.guard (State.breakCheck s) = State.guard s := by
  unfold State.breakCheck; split <;> simp
@[simp] theorem State.cancelApply_guard (s : State) :
    State.guard (State.cancelApply s) = State.guard s := by
  unfold State.cancelApply; split <;> simp
@[simp] theorem State.retryApply_guard (s : State) :
    State.guard (State.retryApply s) = State.guard s := by
  unfold State.retryApply; split <;> simp
@[simp] theorem State.warmChanged_guard (s : State) (old : Settings) :
    State.guard (State.warmChanged s old) = State.guard s := by
  simp [State.warmChanged]
@[simp] theorem State.markConns_guard (s : State) (old : Settings) :
    State.guard (State.markConns s old) = State.guard s := by
  simp [State.markConns]
@[simp] theorem State.syncRecs_guard (s : State) :
    State.guard (State.syncRecs s) = State.guard s := by
  rfl
@[simp] theorem State.ringModes_guard (s : State) (old : Settings) :
    State.guard (State.ringModes s old) = State.guard s := by
  simp [State.ringModes]
@[simp] theorem State.putSettings_guard (s : State) (st : Settings) :
    State.guard (State.putSettings s st) = State.guard s := by
  simp [State.putSettings]
@[simp] theorem State.forceChange_guard (s : State) (r : CmdRef) (old : ForceEntry) (new : ForceEntry) :
    State.guard (State.forceChange s r old new) = State.guard s := by
  simp [State.forceChange]
@[simp] theorem State.putForces_guard (s : State) (r : CmdRef) (fs : List ForceEntry) :
    State.guard (State.putForces s r fs) = State.guard s := by
  simp [State.putForces]
@[simp] theorem State.applyRecords_guard (s : State) (r : CmdRef) :
    State.guard (State.applyRecords s r) = State.guard s := by
  simp [State.applyRecords]
@[simp] theorem State.makeApply_guard (s : State) (a : ApplySt) (new : Option Image) :
    State.guard (State.makeApply s a new) = State.guard s := by
  unfold State.makeApply; split <;> simp
@[simp] theorem State.graftFails_guard (s : State) (a : ApplySt) (item : Nat) :
    State.guard (State.graftFails s a item) = State.guard s := by
  simp [State.graftFails]
@[simp] theorem State.ftgenFails_guard (s : State) (a : ApplySt) :
    State.guard (State.ftgenFails s a) = State.guard s := by
  simp [State.ftgenFails]
@[simp] theorem State.doApply_guard (s : State) (a : ApplySt) :
    State.guard (State.doApply s a) = State.guard s := by
  unfold State.doApply; dsimp only; (repeat' split) <;> simp_all
@[simp] theorem State.applyStep_guard (s : State) :
    State.guard (State.applyStep s) = State.guard s := by
  unfold State.applyStep; split <;> simp
@[simp] theorem State.finishApply_guard (s : State) :
    State.guard (State.finishApply s) = State.guard s := by
  unfold State.finishApply; split <;> simp
@[simp] theorem State.bootSettings_guard (s : State) :
    State.guard (State.bootSettings s) = State.guard s := by
  unfold State.bootSettings; dsimp only; (repeat' split) <;> simp_all
@[simp] theorem State.forceDone_guard (s : State) (f : ForceCmd) (status : Nat) (code : Nat) :
    State.guard (State.forceDone s f status code) = State.guard s := by
  simp [State.forceDone]
@[simp] theorem State.setForceNow_guard (s : State) (f : ForceCmd) :
    State.guard (State.setForceNow s f) = State.guard s := by
  unfold State.setForceNow; dsimp only; (repeat' split) <;> simp_all
@[simp] theorem State.clearForceNow_guard (s : State) (f : ForceCmd) :
    State.guard (State.clearForceNow s f) = State.guard s := by
  unfold State.clearForceNow; dsimp only; (repeat' split) <;> simp_all
@[simp] theorem State.forceNow_guard (s : State) (f : ForceCmd) :
    State.guard (State.forceNow s f) = State.guard s := by
  simp [State.forceNow]
@[simp] theorem State.forceStep_guard (s : State) :
    State.guard (State.forceStep s) = State.guard s := by
  simp [State.forceStep]
@[simp] theorem State.endCheck_guard (s : State) (r : CmdRef) (res : CheckRes) (lanes : List Lane) (passed : Lane → Bool) :
    State.guard (State.endCheck s r res lanes passed) = State.guard s := by
  simp [State.endCheck]
theorem execStageCheckDone_guard (differs : Trio Bool) (s : State) :
    ∀ t, (execStageCheckDone differs s) = .next t → State.guard t = State.guard s := by
  rintro _ ⟨⟩; dsimp only; (repeat' split) <;> simp_all
@[simp] theorem State.maintStep_guard (s : State) :
    State.guard (State.maintStep s) = State.guard s := by
  unfold State.maintStep; split <;> simp
@[simp] theorem State.makeTransition_guard (s : State) (target : LcState) (r : CmdRef) (signer : Nat) (reason : Bytes) :
    State.guard (State.makeTransition s target r signer reason) = State.guard s := by
  simp [State.makeTransition]
@[simp] theorem State.refuseTransition_guard (s : State) (target : Nat) (r : CmdRef) (signer : Nat) (status : Nat) :
    State.guard (State.refuseTransition s target r signer status) = State.guard s := by
  simp [State.refuseTransition]
@[simp] theorem State.lcStep_guard (s : State) :
    State.guard (State.lcStep s) = State.guard s := by
  unfold State.lcStep; dsimp only; (repeat' split) <;> simp_all
@[simp] theorem State.bootTamper_guard (s : State) (loopOk : Bool) (unfed : Bool) (downOt : Nat) :
    State.guard (State.bootTamper s loopOk unfed downOt) = State.guard s := by
  simp [State.bootTamper]
theorem execUpdVerifyDone_guard (s : State) :
    ∀ t, (execUpdVerifyDone s) = .next t → State.guard t = State.guard s := by
  rintro _ ⟨⟩; (repeat' split) <;> simp
theorem execUpdateSessionTimeout_guard (s : State) :
    ∀ t, (execUpdateSessionTimeout s) = .next t → State.guard t = State.guard s := by
  rintro _ ⟨⟩; simp
@[simp] theorem State.actProgress_guard (s : State) (step : Nat) :
    State.guard (State.actProgress s step) = State.guard s := by
  unfold State.actProgress; split <;> simp
@[simp] theorem State.beginTurn_guard (s : State) (a : ActSt) (lane : Lane) :
    State.guard (State.beginTurn s a lane) = State.guard s := by
  simp [State.beginTurn]
@[simp] theorem State.turnStart_guard (s : State) :
    State.guard (State.turnStart s) = State.guard s := by
  unfold State.turnStart; (repeat' split) <;> simp
theorem execLaneTurn_guard (lane : Lane) (s : State) :
    ∀ t, (execLaneTurn lane s) = .next t → State.guard t = State.guard s := by
  rintro _ ⟨⟩; (repeat' split) <;> simp
theorem execKernelLoadDone_guard (lane : Lane) (s : State) :
    ∀ t, (execKernelLoadDone lane s) = .next t → State.guard t = State.guard s := by
  rintro _ ⟨⟩; simp
@[simp] theorem State.turnEnds_guard (s : State) (l : Lane) :
    State.guard (State.turnEnds s l) = State.guard s := by
  unfold State.turnEnds; split <;> simp
@[simp] theorem State.switchLevel_guard (s : State) :
    State.guard (State.switchLevel s) = State.guard s := by
  unfold State.switchLevel; split <;> simp
@[simp] theorem State.switchStart_guard (s : State) :
    State.guard (State.switchStart s) = State.guard s := by
  simp [State.switchStart]
theorem execLevelSwitch_guard (s : State) :
    ∀ t, (execLevelSwitch s) = .next t → State.guard t = State.guard s := by
  rintro _ ⟨⟩; simp
@[simp] theorem State.actStart_guard (s : State) :
    State.guard (State.actStart s) = State.guard s := by
  unfold State.actStart; split <;> simp
theorem execPostActivationTimeout_guard (s : State) :
    ∀ t, (execPostActivationTimeout s) = .next t → State.guard t = State.guard s := by
  rintro _ ⟨⟩; (repeat' split) <;> simp
@[simp] theorem State.putSend_guard (s : State) (r : SendRec) :
    State.guard (State.putSend s r) = State.guard s := by
  rfl
@[simp] theorem State.putFb_guard (s : State) (off : Nat) (b : Bytes) :
    State.guard (State.putFb s off b) = State.guard s := by
  rfl
@[simp] theorem State.commitItem_guard (held : List CmdRef) (s : State) (x2 : MirrorItem) :
    State.guard (State.commitItem held s x2) = State.guard s := by
  unfold State.commitItem; split <;> simp
@[simp] theorem State.commitSet_guard (s : State) (is : List MirrorItem) : State.guard (s.commitSet is) = State.guard s := by
  unfold State.commitSet; dsimp only
  rw [State.bindForces_guard, State.each_guard _ _ _ (State.commitItem_guard _)]; rfl
@[simp] theorem State.unconfirm_guard (s : State) (is : List MirrorItem) :
    State.guard (State.unconfirm s is) = State.guard s := by
  rfl
@[simp] theorem State.sbAnswer_guard (s : State) (ini : Initiator) (win : Nat) (off : Nat) (op : Nat) (fstat : Nat) (retry : Bool) (data : Bytes) :
    State.guard (State.sbAnswer s ini win off op fstat retry data) = State.guard s := by
  rfl
@[simp] theorem State.takeSbSeq_guard (s : State) :
    State.guard (State.takeSbSeq s).2 = State.guard s := by
  rfl
@[simp] theorem State.sendBridge_guard (s : State) (dst : Nat) (seq : Nat) (payload : Bytes) :
    State.guard (State.sendBridge s dst seq payload) = State.guard s := by
  simp [State.sendBridge]
@[simp] theorem State.sendXfer_guard (s : State) (x : Xfer) :
    State.guard (State.sendXfer s x) = State.guard s := by
  simp [State.sendXfer]
@[simp] theorem State.pumpWindow_guard (s : State) (w : Nat) :
    State.guard (State.pumpWindow s w) = State.guard s := by
  unfold State.pumpWindow; dsimp only; (repeat' split) <;> simp_all
@[simp] theorem State.finishXfer_guard (s : State) (x : Xfer) (fstat : Nat) (data : Bytes) :
    State.guard (State.finishXfer s x fstat data) = State.guard s := by
  simp [State.finishXfer]
@[simp] theorem State.spoil_guard (s : State) (win : Nat) (off : Nat) (len : Nat) :
    State.guard (State.spoil s win off len) = State.guard s := by
  rfl
@[simp] theorem State.sbTake_guard (s : State) (ini : Initiator) (win : Nat) (off : Nat) (op : Nat) (len : Nat) (data : Bytes) :
    State.guard (State.sbTake s ini win off op len data) = State.guard s := by
  simp [State.sbTake]
@[simp] theorem State.postedOff_guard (s : State) (win : Nat) (off : Nat) (data : Bytes) :
    State.guard (State.postedOff s win off data) = State.guard s := by
  simp [State.postedOff]
@[simp] theorem State.sbIssueWrite_guard (s : State) (ini : Initiator) (win : Nat) (off : Nat) (op : Nat) (data : Bytes) :
    State.guard (State.sbIssueWrite s ini win off op data) = State.guard s := by
  unfold State.sbIssueWrite; split <;> simp
@[simp] theorem State.sbIssueRead_guard (s : State) (ini : Initiator) (win : Nat) (off : Nat) (len : Nat) :
    State.guard (State.sbIssueRead s ini win off len) = State.guard s := by
  unfold State.sbIssueRead; (repeat' split) <;> simp
theorem execSbWrite_guard (win : Nat) (off : Nat) (data : Bytes) (s : State) :
    ∀ t, (execSbWrite win off data s) = .next t → State.guard t = State.guard s := by
  rintro _ ⟨⟩; simp
theorem execSbRead_guard (win : Nat) (off : Nat) (len : Nat) (s : State) :
    ∀ t, (execSbRead win off len s) = .next t → State.guard t = State.guard s := by
  rintro _ ⟨⟩; simp
theorem execSbPostedWrite_guard (win : Nat) (off : Nat) (data : Bytes) (s : State) :
    ∀ t, (execSbPostedWrite win off data s) = .next t → State.guard t = State.guard s := by
  rintro _ ⟨⟩; simp
@[simp] theorem State.laneTransfer_guard (s : State) (t : LaneTransfer) :
    State.guard (State.laneTransfer s t) = State.guard s := by
  unfold State.laneTransfer; split <;> simp
@[simp] theorem State.laneTransfers_guard (s : State) (issued : Trio (List LaneTransfer)) :
    State.guard (State.laneTransfers s issued) = State.guard s := by
  simp [State.laneTransfers]
@[simp] theorem State.freezeBridge_guard (s : State) :
    State.guard (State.freezeBridge s) = State.guard s := by
  rfl
@[simp] theorem State.serve_guard (s : State) (bop : Nat) (addr : Nat) (len : Nat) (data : Bytes) :
    State.guard (State.serve s bop addr len data).2.2 = State.guard s := by
  unfold State.serve; dsimp only; (repeat' split) <;> simp_all
@[simp] theorem State.inbound_guard (s : State) (g : Gvt) :
    State.guard (State.inbound s g) = State.guard s := by
  unfold State.inbound; dsimp only; (repeat' split) <;> simp_all
@[simp] theorem State.completion_guard (s : State) (g : Gvt) :
    State.guard (State.completion s g) = State.guard s := by
  unfold State.completion; split <;> simp
@[simp] theorem State.tvFail_guard (s : State) :
    State.guard (State.tvFail s) = State.guard s := by
  simp [State.tvFail]
theorem execBridgeFrameReceived_guard (net : Net) (f : Frame) (s : State) :
    ∀ t, (execBridgeFrameReceived net f s) = .next t → State.guard t = State.guard s := by
  rintro _ ⟨⟩; dsimp only; split
  · rfl
  · refine State.notOwn_guard _ _ _ ?_; (repeat' split) <;> simp
theorem execSbTransferTimeout_guard (seq : Nat) (s : State) :
    ∀ t, (execSbTransferTimeout seq s) = .next t → State.guard t = State.guard s := by
  rintro _ ⟨⟩; (repeat' split) <;> simp
theorem execSbBusyRetry_guard (seq : Nat) (s : State) :
    ∀ t, (execSbBusyRetry seq s) = .next t → State.guard t = State.guard s := by
  rintro _ ⟨⟩; (repeat' split) <;> simp
theorem execSbHeldResultExpiry_guard (vk : Bool) (win : Nat) (off : Nat) (len : Nat) (s : State) :
    ∀ t, (execSbHeldResultExpiry vk win off len s) = .next t → State.guard t = State.guard s := by
  rintro _ ⟨⟩; simp
@[simp] theorem State.updPair_guard (s : State) (f : PairSt → PairSt) :
    State.guard (State.updPair s f) = State.guard s := by
  rfl
theorem execPstartReceived_guard (m : PStart) (us : Nat) (s : State) :
    ∀ t, (execPstartReceived m us s) = .next t → State.guard t = State.guard s := by
  rintro _ ⟨⟩; simp
theorem execMblockReceived_guard (m : MBlock) (s : State) :
    ∀ t, (execMblockReceived m s) = .next t → State.guard t = State.guard s := by
  rintro _ ⟨⟩; simp
theorem execMcloseReceived_guard (m : MClose) (s : State) :
    ∀ t, (execMcloseReceived m s) = .next t → State.guard t = State.guard s := by
  rintro _ ⟨⟩; simp
theorem execPreportReceived_guard (crcOk : Bool) (h : Health) (s : State) :
    ∀ t, (execPreportReceived crcOk h s) = .next t → State.guard t = State.guard s := by
  rintro _ ⟨⟩; simp
@[simp] theorem State.noteCmd_guard (s : State) (r : CmdRef) :
    State.guard (State.noteCmd s r) = State.guard s := by
  rfl
theorem execCmdfwdReceived_guard (m : CmdFwdMsg) (s : State) :
    ∀ t, (execCmdfwdReceived m s) = .next t → State.guard t = State.guard s := by
  rintro _ ⟨⟩; (repeat' split) <;> simp
theorem execHeartbeatReceived_guard (net : Net) (f : Frame) (s : State) :
    ∀ t, (execHeartbeatReceived net f s) = .next t → State.guard t = State.guard s := by
  rintro _ ⟨⟩; dsimp only; split
  · rfl
  · refine State.notOwn_guard _ _ _ ?_; (repeat' split) <;> simp
@[simp] theorem State.sendHeartbeat_guard (s : State) :
    State.guard (State.sendHeartbeat s) = State.guard s := by
  simp [State.sendHeartbeat]
theorem execPlLinkLoss_guard (link2 : Bool) (s : State) :
    ∀ t, (execPlLinkLoss link2 s) = .next t → State.guard t = State.guard s := by
  rintro _ ⟨⟩; simp
theorem execPlLinkReturn_guard (link2 : Bool) (s : State) :
    ∀ t, (execPlLinkReturn link2 s) = .next t → State.guard t = State.guard s := by
  rintro _ ⟨⟩; simp
theorem execOpticInserted_guard (link2 : Bool) (kind : Optic) (s : State) :
    ∀ t, (execOpticInserted link2 kind s) = .next t → State.guard t = State.guard s := by
  rintro _ ⟨⟩; simp
@[simp] theorem State.pairCmdDone_guard (s : State) (r : CmdRef) (before : Nat) (after : Nat) (st : Nat) :
    State.guard (State.pairCmdDone s r before after st) = State.guard s := by
  simp [State.pairCmdDone]
@[simp] theorem State.endHandover_guard (s : State) (after : Nat) (st : Nat) :
    State.guard (State.endHandover s after st) = State.guard s := by
  unfold State.endHandover; split <;> simp
@[simp] theorem State.handoverDone_guard (s : State) :
    State.guard (State.handoverDone s) = State.guard s := by
  simp [State.handoverDone]
@[simp] theorem State.leadWith_guard (s : State) (e : Nat) :
    State.guard (State.leadWith s e) = State.guard s := by
  simp [State.leadWith]
@[simp] theorem State.takeLead_guard (s : State) :
    State.guard (State.takeLead s) = State.guard s := by
  simp [State.takeLead]
@[simp] theorem State.becomeFollow_guard (s : State) (instep : Nat) :
    State.guard (State.becomeFollow s instep) = State.guard s := by
  simp [State.becomeFollow]
@[simp] theorem State.outOfStep_guard (s : State) :
    State.guard (State.outOfStep s) = State.guard s := by
  simp [State.outOfStep]
@[simp] theorem State.relinquish_guard (s : State) :
    State.guard (State.relinquish s) = State.guard s := by
  simp [State.relinquish]
@[simp] theorem State.takeIfDue_guard (s : State) :
    State.guard (State.takeIfDue s) = State.guard s := by
  simp [State.takeIfDue]
theorem execPartnerSilent_guard (s : State) :
    ∀ t, (execPartnerSilent s) = .next t → State.guard t = State.guard s := by
  rintro _ ⟨⟩; simp
theorem execRevertHoldOff_guard (s : State) :
    ∀ t, (execRevertHoldOff s) = .next t → State.guard t = State.guard s := by
  rintro _ ⟨⟩; simp
@[simp] theorem State.comeInStep_guard (s : State) :
    State.guard (State.comeInStep s) = State.guard s := by
  simp [State.comeInStep]
theorem execInStep_guard (s : State) :
    ∀ t, (execInStep s) = .next t → State.guard t = State.guard s := by
  rintro _ ⟨⟩; simp
@[simp] theorem State.endConflict_guard (s : State) :
    State.guard (State.endConflict s) = State.guard s := by
  simp [State.endConflict]
theorem execLeadClaimConflict_guard (s : State) :
    ∀ t, (execLeadClaimConflict s) = .next t → State.guard t = State.guard s := by
  rintro _ ⟨⟩; simp
@[simp] theorem State.joinRestart_guard (s : State) :
    State.guard (State.joinRestart s) = State.guard s := by
  simp [State.joinRestart]
@[simp] theorem State.joinExpiry_guard (s : State) :
    State.guard (State.joinExpiry s) = State.guard s := by
  simp [State.joinExpiry]
theorem execJoinWaitExpiry_guard (s : State) :
    ∀ t, (execJoinWaitExpiry s) = .next t → State.guard t = State.guard s := by
  rintro _ ⟨⟩; simp
theorem execPairApplyTimeout_guard (s : State) :
    ∀ t, (execPairApplyTimeout s) = .next t → State.guard t = State.guard s := by
  rintro _ ⟨⟩; simp
@[simp] theorem State.dropFar_guard (s : State) :
    State.guard (State.dropFar s) = State.guard s := by
  simp [State.dropFar]
@[simp] theorem State.startJoining_guard (s : State) :
    State.guard (State.startJoining s) = State.guard s := by
  simp [State.startJoining]
@[simp] theorem State.fallSilent_guard (s : State) :
    State.guard (State.fallSilent s) = State.guard s := by
  simp [State.fallSilent]
@[simp] theorem State.pairCount_guard (s : State) :
    State.guard (State.pairCount s) = State.guard s := by
  unfold State.pairCount; split <;> simp
@[simp] theorem State.countSilence_guard (s : State) :
    State.guard (State.countSilence s) = State.guard s := by
  simp [State.countSilence]
@[simp] theorem State.adoptEpoch_guard (s : State) :
    State.guard (State.adoptEpoch s) = State.guard s := by
  simp [State.adoptEpoch]
@[simp] theorem State.claims_guard (s : State) :
    State.guard (State.claims s) = State.guard s := by
  simp [State.claims]
@[simp] theorem State.compareOne_guard (s : State) (h : Health) :
    State.guard (State.compareOne s h) = State.guard s := by
  unfold State.compareOne; split <;> simp
@[simp] theorem State.compareReports_guard (s : State) :
    State.guard (State.compareReports s) = State.guard s := by
  simp [State.compareReports]
@[simp] theorem State.keepOwn_guard (s : State) (is : List MirrorItem) :
    State.guard (State.keepOwn s is) = State.guard s := by
  simp [State.keepOwn]
@[simp] theorem State.commitMirror_guard (s : State) :
    State.guard (State.commitMirror s) = State.guard s := by
  unfold State.commitMirror; dsimp only; (repeat' split) <;> simp_all
@[simp] theorem State.phaseCheck_guard (s : State) :
    State.guard (State.phaseCheck s) = State.guard s := by
  simp [State.phaseCheck]
@[simp] theorem State.phaseCorrect_guard (s : State) :
    State.guard (State.phaseCorrect s) = State.guard s := by
  rfl
@[simp] theorem State.assumeNow_guard (s : State) :
    State.guard (State.assumeNow s) = State.guard s := by
  unfold State.assumeNow; split <;> simp
@[simp] theorem State.mirrorAbandon_guard (s : State) :
    State.guard (State.mirrorAbandon s) = State.guard s := by
  simp [State.mirrorAbandon]
@[simp] theorem State.holdRestart_guard (s : State) :
    State.guard (State.holdRestart s) = State.guard s := by
  simp [State.holdRestart]
@[simp] theorem State.pairStart_guard (s : State) :
    State.guard (State.pairStart s) = State.guard s := by
  simp [State.pairStart]
@[simp] theorem State.pairClaim_guard (s : State) :
    State.guard (State.pairClaim s) = State.guard s := by
  simp [State.pairClaim]
@[simp] theorem State.noteEntered_guard (s : State) (ops : List OpCmd) :
    State.guard (State.noteEntered s ops) = State.guard s := by
  simp [State.noteEntered]
@[simp] theorem State.opsOf_guard (s : State) :
    State.guard (State.opsOf s).2 = State.guard s := by
  unfold State.opsOf; split <;> simp
@[simp] theorem State.numberOp_guard (x : List OpCmd × State) (o : OpCmd) : State.guard (State.numberOp x o).2 = State.guard x.2 := by
  unfold State.numberOp; split <;> simp
@[simp] theorem State.numberOps_guard (os : List OpCmd) (x : List OpCmd × State) :
    State.guard (os.foldl State.numberOp x).2 = State.guard x.2 := by
  induction os generalizing x with
  | nil => rfl
  | cons o os ih => rw [List.foldl_cons, ih, State.numberOp_guard]
@[simp] theorem State.takeOps_guard (s : State) :
    State.guard (State.takeOps s).2 = State.guard s := by
  unfold State.takeOps; dsimp only; split <;> simp
@[simp] theorem State.holdForces_guard (s : State) :
    State.guard (State.holdForces s) = State.guard s := by
  simp [State.holdForces]
@[simp] theorem State.listForce_guard (s : State) (c : ForceCmd) :
    State.guard (State.listForce s c) = State.guard s := by
  simp [State.listForce]
@[simp] theorem State.listApply_guard (s : State) :
    State.guard (State.listApply s) = State.guard s := by
  rfl
@[simp] theorem State.takeLists_guard (s : State) :
    State.guard (State.takeLists s) = State.guard s := by
  unfold State.takeLists; split <;> simp
@[simp] theorem State.sendPstart_guard (s : State) (ops : List OpCmd) :
    State.guard (State.sendPstart s ops) = State.guard s := by
  simp [State.sendPstart]
@[simp] theorem State.formReport_guard (s : State) :
    State.guard (State.formReport s) = State.guard s := by
  rfl
@[simp] theorem State.pairDone_guard (s : State) :
    State.guard (State.pairDone s) = State.guard s := by
  simp [State.pairDone]
theorem execMcloseSend_guard (s : State) :
    ∀ t, (execMcloseSend s) = .next t → State.guard t = State.guard s := by
  rintro _ ⟨⟩; simp
@[simp] theorem State.sendTunnel_guard (s : State) (n : Nat) (seq : Nat) (data : Bytes) :
    State.guard (State.sendTunnel s n seq data) = State.guard s := by
  simp [State.sendTunnel]
@[simp] theorem State.carry_guard (s : State) (n : Nat) (data : Bytes) :
    State.guard (State.carry s n data) = State.guard s := by
  simp [State.carry]
@[simp] theorem State.carryOr_guard (s : State) (n : Nat) (data : Bytes) :
    State.guard (State.carryOr s n data) = State.guard s := by
  simp [State.carryOr]
@[simp] theorem State.lineFrame_guard (s : State) (port : Nat) (data : Bytes) (bad : Bool) :
    State.guard (State.lineFrame s port data bad) = State.guard s := by
  unfold State.lineFrame; dsimp only; (repeat' split) <;> simp_all
theorem execLegacyFrameReceived_guard (port : Nat) (data : Bytes) (ending : LegacyEnd) (s : State) :
    ∀ t, (execLegacyFrameReceived port data ending s) = .next t → State.guard t = State.guard s := by
  rintro _ ⟨⟩; dsimp only; (repeat' split) <;> simp_all
@[simp] theorem State.tunnelData_guard (s : State) (n : Nat) (g : Gvt) :
    State.guard (State.tunnelData s n g) = State.guard s := by
  simp [State.tunnelData]
theorem execTunnelFrameReceived_guard (net : Net) (f : Frame) (s : State) :
    ∀ t, (execTunnelFrameReceived net f s) = .next t → State.guard t = State.guard s := by
  rintro _ ⟨⟩; dsimp only; split
  · rfl
  · refine State.notOwn_guard _ _ _ ?_; (repeat' split) <;> simp
theorem execLegacyTransmit_guard (tunnel : Nat) (s : State) :
    ∀ t, (execLegacyTransmit tunnel s) = .next t → State.guard t = State.guard s := by
  rintro _ ⟨⟩; dsimp only; (repeat' split) <;> simp_all
theorem execTunnelKeepalive_guard (tunnel : Nat) (s : State) :
    ∀ t, (execTunnelKeepalive tunnel s) = .next t → State.guard t = State.guard s := by
  rintro _ ⟨⟩; simp
theorem execTunnelDown_guard (tunnel : Nat) (s : State) :
    ∀ t, (execTunnelDown tunnel s) = .next t → State.guard t = State.guard s := by
  rintro _ ⟨⟩; simp
@[simp] theorem State.latchCurrent_guard (s : State) (c : Nat) :
    State.guard (State.latchCurrent s c) = State.guard s := by
  simp [State.latchCurrent]
@[simp] theorem State.latchStatus_guard (s : State) :
    State.guard (State.latchStatus s) = State.guard s := by
  simp [State.latchStatus]
@[simp] theorem State.updCyc_guard (s : State) (f : CycleSt → CycleSt) :
    State.guard (State.updCyc s f) = State.guard s := by
  rfl
@[simp] theorem State.advanceSends_guard (s : State) (conns : List Nat) :
    State.guard (State.advanceSends s conns) = State.guard s := by
  rfl
@[simp] theorem State.putForm_guard (s : State) (f : VoteForm) :
    State.guard (State.putForm s f) = State.guard s := by
  rfl
@[simp] theorem State.holdForm_guard (s : State) :
    State.guard (State.holdForm s) = State.guard s := by
  rfl
@[simp] theorem State.keepImage_guard (s : State) (f : VoteForm) :
    State.guard (State.keepImage s f) = State.guard s := by
  rfl
@[simp] theorem State.tickCompare_guard (s : State) (t : Trio Nat) :
    State.guard (State.tickCompare s t) = State.guard s := by
  unfold State.tickCompare; dsimp only; (repeat' split) <;> simp_all
@[simp] theorem State.otsCheck_guard (s : State) (t : Trio Nat) :
    State.guard (State.otsCheck s t) = State.guard s := by
  simp [State.otsCheck]
@[simp] theorem State.eventEffects_guard (s : State) :
    State.guard (State.eventEffects s) = State.guard s := by
  simp [State.eventEffects]
@[simp] theorem State.fbStores_guard (s : State) (env : StartEnv) (ls : List Lane) :
    State.guard (State.fbStores s env ls) = State.guard s := by
  simp [State.fbStores]
@[simp] theorem State.exercise_guard (s : State) (env : StartEnv) :
    State.guard (State.exercise s env) = State.guard s := by
  simp [State.exercise]
@[simp] theorem State.syncPass_guard (s : State) :
    State.guard (State.syncPass s) = State.guard s := by
  simp [State.syncPass]
@[simp] theorem State.enterMode_guard (s : State) (m : ExecMode) :
    State.guard (State.enterMode s m) = State.guard s := by
  simp [State.enterMode]
@[simp] theorem State.modeStep_guard (s : State) :
    State.guard (State.modeStep s) = State.guard s := by
  unfold State.modeStep; dsimp only; (repeat' split) <;> simp_all
@[simp] theorem State.rejoinLane_guard (s : State) (l : Lane) :
    State.guard (State.rejoinLane s l) = State.guard s := by
  simp [State.rejoinLane]
@[simp] theorem State.resyncEntry_guard (s : State) :
    State.guard (State.resyncEntry s) = State.guard s := by
  unfold State.resyncEntry; (repeat' split) <;> simp
@[simp] theorem State.stagedWork_guard (s : State) :
    State.guard (State.stagedWork s) = State.guard s := by
  simp [State.stagedWork]
@[simp] theorem State.formCore_guard (s : State) :
    State.guard (State.formCore s) = State.guard s := by
  rfl
@[simp] theorem State.fbStep_guard (s : State) :
    State.guard (State.fbStep s) = State.guard s := by
  simp [State.fbStep]
@[simp] theorem State.runPasses_guard (s : State) (ops : List OpCmd) (dt : Nat) :
    State.guard (State.runPasses s ops dt) = State.guard s := by
  simp [State.runPasses]
@[simp] theorem State.runCycle_guard (s : State) (ops : List OpCmd) (dt : Nat) :
    State.guard (State.runCycle s ops dt) = State.guard s := by
  simp [State.runCycle]
@[simp] theorem State.readCommons_guard (s : State) :
    State.guard (State.readCommons s) = State.guard s := by
  simp [State.readCommons]
@[simp] theorem State.compute_guard (s : State) (dt : Nat) :
    State.guard (State.compute s dt) = State.guard s := by
  unfold State.compute; dsimp only; (repeat' split) <;> simp_all
@[simp] theorem State.takeTicks_guard (s : State) (t : Trio Nat) :
    State.guard (State.takeTicks s t) = State.guard s := by
  rfl
@[simp] theorem State.beforeSnapshot_guard (s : State) :
    State.guard (State.beforeSnapshot s) = State.guard s := by
  simp [State.beforeSnapshot]
@[simp] theorem State.cycleStart_guard (s : State) (env : StartEnv) :
    State.guard (State.cycleStart s env) = State.guard s := by
  simp [State.cycleStart]
@[simp] theorem State.overrunCheck_guard (s : State) :
    State.guard (State.overrunCheck s) = State.guard s := by
  unfold State.overrunCheck; (repeat' split) <;> simp
theorem execOverrunLimit_guard (s : State) :
    ∀ t, (execOverrunLimit s) = .next t → State.guard t = State.guard s := by
  rintro _ ⟨⟩; simp
@[simp] theorem State.skipSlot_guard (s : State) :
    State.guard (State.skipSlot s) = State.guard s := by
  simp [State.skipSlot]
@[simp] theorem State.withdrawLate_guard (s : State) (l : Lane) :
    State.guard (State.withdrawLate s l) = State.guard s := by
  simp [State.withdrawLate]
@[simp] theorem State.doneMissing_guard (s : State) (env : StartEnv) :
    State.guard (State.doneMissing s env) = State.guard s := by
  simp [State.doneMissing]
@[simp] theorem State.copyAbandon_guard (s : State) :
    State.guard (State.copyAbandon s) = State.guard s := by
  unfold State.copyAbandon; split <;> simp
@[simp] theorem State.dueTime_guard (s : State) (env : StartEnv) :
    State.guard (State.dueTime s env) = State.guard s := by
  simp [State.dueTime]
@[simp] theorem State.enterSplit_guard (s : State) (l : Lane) :
    State.guard (State.enterSplit s l) = State.guard s := by
  simp [State.enterSplit]
@[simp] theorem State.leaveSplit_guard (s : State) (old : State) (l : Lane) :
    State.guard (State.leaveSplit s old l) = State.guard s := by
  simp [State.leaveSplit]
@[simp] theorem State.sendNonVital_guard (s : State) :
    State.guard (State.sendNonVital s) = State.guard s := by
  simp [State.sendNonVital]
@[simp] theorem State.splitForm_guard (s : State) (ops : List OpCmd) (dt : Nat) :
    State.guard (State.splitForm s ops dt) = State.guard s := by
  unfold State.splitForm; split <;> simp
@[simp] theorem State.splitStart_guard (s : State) (env : StartEnv) :
    State.guard (State.splitStart s env).2 = State.guard s := by
  unfold State.splitStart; dsimp only
  rw [State.snapConns_guard, State.readCommons_guard, State.takeOps_guard, State.freezeAll_guard, State.latchAll_guard,
    State.beforeSnapshot_guard, State.updCyc_guard]
@[simp] theorem State.splitRun_guard (s : State) (env : StartEnv) :
    State.guard (State.splitRun s env) = State.guard s := by
  unfold State.splitRun; dsimp only
  rw [State.latchStatus_guard, State.latchSummary_guard, State.finishApply_guard, State.flushCompl_guard, State.updCyc_guard, State.splitForm_guard,
    State.splitStart_guard]
@[simp] theorem State.splitCycle_guard (s : State) (l : Lane) (env : StartEnv) :
    State.guard (State.splitCycle s l env) = State.guard s := by
  simp [State.splitCycle]
theorem execDueMark_guard (lane : Lane) (env : StartEnv) (s : State) :
    ∀ t, (execDueMark lane env s) = .next t → State.guard t = State.guard s := by
  rintro _ ⟨⟩; simp
@[simp] theorem State.recordList_guard (s : State) (flags : Nat) :
    State.guard (State.recordList s flags) = State.guard s := by
  simp [State.recordList]
@[simp] theorem State.recordSafe_guard (s : State) :
    State.guard (State.recordSafe s) = State.guard s := by
  simp [State.recordSafe]
@[simp] theorem State.budget_guard (s : State) (l : Lane) (t : Nat) :
    State.guard (State.budget s l t) = State.guard s := by
  simp [State.budget]
@[simp] theorem State.postDone_guard (s : State) (comp : Trio Nat) (done : Trio Bool) :
    State.guard (State.postDone s comp done) = State.guard s := by
  simp [State.postDone]
@[simp] theorem State.safetyLimit_guard (s : State) :
    State.guard (State.safetyLimit s) = State.guard s := by
  unfold State.safetyLimit; split <;> simp
theorem execSafetyCodeFailLimit_guard (s : State) :
    ∀ t, (execSafetyCodeFailLimit s) = .next t → State.guard t = State.guard s := by
  rintro _ ⟨⟩; simp
@[simp] theorem State.cycleEnd_guard (s : State) :
    State.guard (State.cycleEnd s) = State.guard s := by
  simp [State.cycleEnd]
@[simp] theorem State.cycleDone_guard (s : State) (comp : Trio Nat) (done : Trio Bool) :
    State.guard (State.cycleDone s comp done) = State.guard s := by
  simp [State.cycleDone]
@[simp] theorem State.shadow_guard (s : State) (forms : Trio FormIn) (f : VoteForm) :
    State.guard (State.shadow s forms f) = State.guard s := by
  unfold State.shadow; (repeat' split) <;> simp
@[simp] theorem State.minority_guard (s : State) (forms : Trio FormIn) (f : VoteForm) (l : Lane) :
    State.guard (State.minority s forms f l) = State.guard s := by
  unfold State.minority; split <;> simp
@[simp] theorem State.afterVote_guard (s : State) (f : VoteForm) (issued : Trio (List LaneTransfer)) :
    State.guard (State.afterVote s f issued) = State.guard s := by
  simp [State.afterVote]
@[simp] theorem State.stampForms_guard (s : State) (forms : Trio FormIn) :
    State.guard (State.stampForms s forms) = State.guard s := by
  rfl
theorem execExchangeClose_guard (forms : Trio FormIn) (issued : Trio (List LaneTransfer)) (comp : Trio Nat) (done : Trio Bool) (s : State) :
    ∀ t, (execExchangeClose forms issued comp done s) = .next t → State.guard t = State.guard s := by
  rintro _ ⟨⟩; dsimp only; (repeat' split) <;> simp_all
@[simp] theorem State.scFailed_guard (s : State) (conn : Nat) (names : List Lane) :
    State.guard (State.scFailed s conn names) = State.guard s := by
  simp [State.scFailed]
@[simp] theorem State.release_guard (s : State) (k : ConnCfg) (g : Gvt) :
    State.guard (State.release s k g) = State.guard s := by
  simp [State.release]
theorem execTelegramRelease_guard (conn : Nat) (sc1 : Option Nat) (sc2 : Option Nat) (comp : Trio Nat) (done : Trio Bool) (s : State) :
    ∀ t, (execTelegramRelease conn sc1 sc2 comp done s) = .next t → State.guard t = State.guard s := by
  rintro _ ⟨⟩; dsimp only; (repeat' split) <;> simp_all
theorem execResyncCopy_guard (lane : Lane) (r : CopyResult) (s : State) :
    ∀ t, (execResyncCopy lane r s) = .next t → State.guard t = State.guard s := by
  rintro _ ⟨⟩; simp
theorem execResyncRetry_guard (lane : Lane) (s : State) :
    ∀ t, (execResyncRetry lane s) = .next t → State.guard t = State.guard s := by
  rintro _ ⟨⟩; simp
theorem execRejoin_guard (lane : Lane) (s : State) :
    ∀ t, (execRejoin lane s) = .next t → State.guard t = State.guard s := by
  rintro _ ⟨⟩; simp
@[simp] theorem State.mismatch_guard (s : State) (l : Lane) :
    State.guard (State.mismatch s l) = State.guard s := by
  simp [State.mismatch]
theorem execComparatorMismatch_guard (x : Handshake) (s : State) :
    ∀ t, (execComparatorMismatch x s) = .next t → State.guard t = State.guard s := by
  rintro _ ⟨⟩; simp
theorem execArbitrationSelfTestDone_guard (lane : Lane) (core0 : Bool) (core1 : Bool) (cmp : Bool) (s : State) :
    ∀ t, (execArbitrationSelfTestDone lane core0 core1 cmp s) = .next t → State.guard t = State.guard s := by
  rintro _ ⟨⟩; (repeat' split) <;> simp
theorem execArbitrationSelfTestTimeout_guard (lane : Lane) (s : State) :
    ∀ t, (execArbitrationSelfTestTimeout lane s) = .next t → State.guard t = State.guard s := by
  rintro _ ⟨⟩; simp
@[simp] theorem State.reloadTables_guard (s : State) (l : Lane) :
    State.guard (State.reloadTables s l) = State.guard s := by
  rfl
@[simp] theorem State.checkPassed_guard (s : State) (l : Lane) :
    State.guard (State.checkPassed s l) = State.guard s := by
  rfl
theorem execRestartCheckDone_guard (lane : Lane) (cmpOk : Bool) (bankOk : Bool) (s : State) :
    ∀ t, (execRestartCheckDone lane cmpOk bankOk s) = .next t → State.guard t = State.guard s := by
  rintro _ ⟨⟩; simp
theorem execProgressTimeout_guard (lane : Lane) (s : State) :
    ∀ t, (execProgressTimeout lane s) = .next t → State.guard t = State.guard s := by
  rintro _ ⟨⟩; simp
theorem execLaneStall_guard (lane : Lane) (s : State) :
    ∀ t, (execLaneStall lane s) = .next t → State.guard t = State.guard s := by
  rintro _ ⟨⟩; simp
theorem execIllegalDualRailCode_guard (region : Nat) (block : Nat) (s : State) :
    ∀ t, (execIllegalDualRailCode region block s) = .next t → State.guard t = State.guard s := by
  rintro _ ⟨⟩; simp
@[simp] theorem State.ofCore_guard (s : State) (l : Lane) (core : Bool) (f : State → State) (h : ∀ s, State.guard (f s) = State.guard s) :
    State.guard (State.ofCore s l core f) = State.guard s := by
  simp [State.ofCore, h]
theorem execCacheError_guard (lane : Lane) (kind : CacheEvent) (s : State) :
    ∀ t, (execCacheError lane kind s) = .next t → State.guard t = State.guard s := by
  rintro _ ⟨⟩; refine State.fed_guard _ _ fun s => State.ofCore_guard _ _ _ _ fun s => ?_; split <;> simp
theorem execMemoryScrubError_guard (lane : Lane) (found : ScrubEvent) (s : State) :
    ∀ t, (execMemoryScrubError lane found s) = .next t → State.guard t = State.guard s := by
  rintro _ ⟨⟩; refine State.fed_guard _ _ fun s => State.ofCore_guard _ _ _ _ fun s => ?_; split <;> simp
theorem execLaneSupplyLoss_guard (lane : Lane) (s : State) :
    ∀ t, (execLaneSupplyLoss lane s) = .next t → State.guard t = State.guard s := by
  rintro _ ⟨⟩; simp
theorem execLaneSupplyReturn_guard (lane : Lane) (s : State) :
    ∀ t, (execLaneSupplyReturn lane s) = .next t → State.guard t = State.guard s := by
  rintro _ ⟨⟩; simp
theorem execCommonsSupplyLoss_guard (s : State) :
    ∀ t, (execCommonsSupplyLoss s) = .next t → State.guard t = State.guard s := by
  rintro _ ⟨⟩; simp
theorem execServiceSupplyLoss_guard (s : State) :
    ∀ t, (execServiceSupplyLoss s) = .next t → State.guard t = State.guard s := by
  rintro _ ⟨⟩; simp
theorem execServiceRegionReturn_guard (s : State) :
    ∀ t, (execServiceRegionReturn s) = .next t → State.guard t = State.guard s := by
  rintro _ ⟨⟩; simp
theorem execTimebaseTrim_guard (offs : Trio (Option Int)) (s : State) :
    ∀ t, (execTimebaseTrim offs s) = .next t → State.guard t = State.guard s := by
  rintro _ ⟨⟩; simp
theorem execTokenOverrun_guard (s : State) :
    ∀ t, (execTokenOverrun s) = .next t → State.guard t = State.guard s := by
  rintro _ ⟨⟩; simp
theorem execTokenRegenerate_guard (s : State) :
    ∀ t, (execTokenRegenerate s) = .next t → State.guard t = State.guard s := by
  rintro _ ⟨⟩; simp
@[simp] theorem State.updTime_guard (s : State) (f : TimeSt → TimeSt) (h : (f s.time).ot = s.time.ot) :
    State.guard (s.updTime f) = State.guard s := by
  simp [State.updTime, h]
theorem execOtCheckpoint_guard (s : State) :
    ∀ t, (execOtCheckpoint s) = .next t → State.guard t = State.guard s := by
  rintro _ ⟨⟩; exact State.fed_guard _ _ fun s => State.updTime_guard _ _ rfl
theorem execOtShadowWrite_guard (s : State) :
    ∀ t, (execOtShadowWrite s) = .next t → State.guard t = State.guard s := by
  rintro _ ⟨⟩; simp
theorem execArchiveWindowEnd_guard (s : State) :
    ∀ t, (execArchiveWindowEnd s) = .next t → State.guard t = State.guard s := by
  rintro _ ⟨⟩; simp
theorem execCoalescingWindowEnd_guard (kind : Nat) (source : Nat) (s : State) :
    ∀ t, (execCoalescingWindowEnd kind source s) = .next t → State.guard t = State.guard s := by
  rintro _ ⟨⟩; dsimp only; (repeat' split) <;> simp_all
theorem execDropRecord_guard (s : State) :
    ∀ t, (execDropRecord s) = .next t → State.guard t = State.guard s := by
  rintro _ ⟨⟩; simp
@[simp] theorem State.lastLine_guard (s : State) (seq : Nat) (f : Fsid) (log : Nat) (seg : Nat) :
    State.guard (State.lastLine s seq f log seg) = State.guard s := by
  rfl
theorem execLogSegmentFailure_guard (log : Log) (segment : Nat) (s : State) :
    ∀ t, (execLogSegmentFailure log segment s) = .next t → State.guard t = State.guard s := by
  rintro _ ⟨⟩; simp
@[simp] theorem State.setWt_guard (s : State) (new : Nat) (source : Nat) (cred : Nat) (session : Nat) (ep : Nat) (cmd : Nat) :
    State.guard (State.setWt s new source cred session ep cmd) = State.guard s := by
  simp [State.setWt]
theorem execPtpSync_guard (offsetUs : Int) (master : PtpMaster) (s : State) :
    ∀ t, (execPtpSync offsetUs master s) = .next t → State.guard t = State.guard s := by
  rintro _ ⟨⟩; simp
theorem execPtpUnlock_guard (s : State) :
    ∀ t, (execPtpUnlock s) = .next t → State.guard t = State.guard s := by
  rintro _ ⟨⟩; simp
theorem execEscalation_guard (fsid : Fsid) (s : State) :
    ∀ t, (execEscalation fsid s) = .next t → State.guard t = State.guard s := by
  rintro _ ⟨⟩; simp
theorem execEscalationWindowExpiry_guard (fsid : Fsid) (s : State) :
    ∀ t, (execEscalationWindowExpiry fsid s) = .next t → State.guard t = State.guard s := by
  rintro _ ⟨⟩; simp
theorem execLaneLatchOut_guard (lane : Lane) (s : State) :
    ∀ t, (execLaneLatchOut lane s) = .next t → State.guard t = State.guard s := by
  rintro _ ⟨⟩; simp
theorem execWithdrawalWindowExpiry_guard (lane : Lane) (s : State) :
    ∀ t, (execWithdrawalWindowExpiry lane s) = .next t → State.guard t = State.guard s := by
  rintro _ ⟨⟩; simp
theorem execSafeCountLimit_guard (s : State) :
    ∀ t, (execSafeCountLimit s) = .next t → State.guard t = State.guard s := by
  rintro _ ⟨⟩; simp
theorem execSafeCountWindowExpiry_guard (s : State) :
    ∀ t, (execSafeCountWindowExpiry s) = .next t → State.guard t = State.guard s := by
  rintro _ ⟨⟩; simp
theorem execEventAck_guard (lane : Lane) (seq : Nat) (s : State) :
    ∀ t, (execEventAck lane seq s) = .next t → State.guard t = State.guard s := by
  rintro _ ⟨⟩; simp
@[simp] theorem State.graceOut_guard (s : State) (parent : Nat) (l : Lane) :
    State.guard (State.graceOut s parent l) = State.guard s := by
  simp [State.graceOut]
theorem execGraceExpiry_guard (seq : Nat) (s : State) :
    ∀ t, (execGraceExpiry seq s) = .next t → State.guard t = State.guard s := by
  rintro _ ⟨⟩; (repeat' split) <;> simp
theorem execSettleWindowEnd_guard (block : Nat) (pass : Bool) (s : State) :
    ∀ t, (execSettleWindowEnd block pass s) = .next t → State.guard t = State.guard s := by
  rintro _ ⟨⟩; (repeat' split) <;> simp
theorem execMfSelfCheck_guard (agree : Bool) (illegal : Bool) (conducting : Trio Bool) (s : State) :
    ∀ t, (execMfSelfCheck agree illegal conducting s) = .next t → State.guard t = State.guard s := by
  rintro _ ⟨⟩; simp
theorem execDuoLimit_guard (s : State) :
    ∀ t, (execDuoLimit s) = .next t → State.guard t = State.guard s := by
  rintro _ ⟨⟩; simp
theorem execHoldLimit_guard (lane : Lane) (s : State) :
    ∀ t, (execHoldLimit lane s) = .next t → State.guard t = State.guard s := by
  rintro _ ⟨⟩; simp
@[simp] theorem State.updPow_guard (s : State) (f : PowerSt → PowerSt) :
    State.guard (State.updPow s f) = State.guard s := by
  rfl
@[simp] theorem State.endSpan_guard (s : State) :
    State.guard (State.endSpan s) = State.guard s := by
  simp [State.endSpan]
@[simp] theorem State.archiveCold_guard (s : State) :
    State.guard (State.archiveCold s) = State.guard s := by
  simp [State.archiveCold]
@[simp] theorem State.flush_guard (s : State) :
    State.guard (State.flush s) = State.guard s := by
  unfold State.flush; dsimp only; rw [State.updTime_guard _ _ rfl]; split
  · exact State.updRecs_guard _ _
  · rfl
@[simp] theorem State.loadImage_guard (s : State) :
    State.guard (State.loadImage s) = State.guard s := by
  unfold State.loadImage; dsimp only; (repeat' split) <;> simp_all
@[simp] theorem State.bootImage_guard (s : State) :
    State.guard (State.bootImage s) = State.guard s := by
  simp [State.bootImage]
@[simp] theorem State.readOptics_guard (s : State) :
    State.guard (State.readOptics s) = State.guard s := by
  simp [State.readOptics]
@[simp] theorem State.bootChecks_guard (s : State) (env : BootEnv) (unfed : Bool) (downOt : Nat) :
    State.guard (State.bootChecks s env unfed downOt) = State.guard s := by
  simp [State.bootChecks]
@[simp] theorem State.resetBlocks_guard (s : State) (power : Bool) :
    State.guard (State.resetBlocks s power) = State.guard s := by
  rfl
@[simp] theorem State.bootBegin_guard (s : State) (cause : Nat) (jump : Nat) (env : BootEnv) (unfed : Bool) (downOt : Nat) :
    State.guard (State.bootBegin s cause jump env unfed downOt) = State.guard s := by
  unfold State.bootBegin; dsimp only; (repeat' split) <;> simp [Ident.boot]
@[simp] theorem State.powerTimes_guard (s : State) (kaFed : Bool) (offMs : Nat) :
    State.guard (State.powerTimes s kaFed offMs) = State.guard s := by
  rfl
theorem execPowerUp_guard (env : BootEnv) (kaFed : Bool) (offMs : Nat) (s : State) :
    ∀ t, (execPowerUp env kaFed offMs s) = .next t → State.guard t = State.guard s := by
  rintro _ ⟨⟩; simp
theorem execBootRestart_guard (kind : RestartKind) (env : BootEnv) (s : State) :
    ∀ t, (execBootRestart kind env s) = .next t → State.guard t = State.guard s := by
  rintro _ ⟨⟩; simp
@[simp] theorem State.trySync_guard (s : State) :
    State.guard (State.trySync s) = State.guard s := by
  simp [State.trySync]
@[simp] theorem State.bootFailed_guard (s : State) (l : Lane) :
    State.guard (State.bootFailed s l) = State.guard s := by
  simp [State.bootFailed]
theorem execLaneBootSelfTestDone_guard (lane : Lane) (pass : Bool) (s : State) :
    ∀ t, (execLaneBootSelfTestDone lane pass s) = .next t → State.guard t = State.guard s := by
  rintro _ ⟨⟩; simp
theorem execBootSelfTestTimeout_guard (lane : Lane) (s : State) :
    ∀ t, (execBootSelfTestTimeout lane s) = .next t → State.guard t = State.guard s := by
  rintro _ ⟨⟩; simp
theorem execSyncTimeout_guard (s : State) :
    ∀ t, (execSyncTimeout s) = .next t → State.guard t = State.guard s := by
  rintro _ ⟨⟩; simp
theorem execBootTemperatureInRange_guard (s : State) :
    ∀ t, (execBootTemperatureInRange s) = .next t → State.guard t = State.guard s := by
  rintro _ ⟨⟩; simp
theorem execPowerFailWarning_guard (s : State) :
    ∀ t, (execPowerFailWarning s) = .next t → State.guard t = State.guard s := by
  rintro _ ⟨⟩; simp
theorem execPowerReturn_guard (s : State) :
    ∀ t, (execPowerReturn s) = .next t → State.guard t = State.guard s := by
  rintro _ ⟨⟩; simp
theorem execInputLoss_guard (second : Bool) (s : State) :
    ∀ t, (execInputLoss second s) = .next t → State.guard t = State.guard s := by
  rintro _ ⟨⟩; simp
theorem execInputRestored_guard (second : Bool) (s : State) :
    ∀ t, (execInputRestored second s) = .next t → State.guard t = State.guard s := by
  rintro _ ⟨⟩; simp
theorem execAddressPlugPoll_guard (plug : Plug) (s : State) :
    ∀ t, (execAddressPlugPoll plug s) = .next t → State.guard t = State.guard s := by
  rintro _ ⟨⟩; simp
theorem execThermalWarning_guard (s : State) :
    ∀ t, (execThermalWarning s) = .next t → State.guard t = State.guard s := by
  rintro _ ⟨⟩; simp
theorem execThermalWarningCleared_guard (s : State) :
    ∀ t, (execThermalWarningCleared s) = .next t → State.guard t = State.guard s := by
  rintro _ ⟨⟩; simp
theorem execThermalTrip_guard (s : State) :
    ∀ t, (execThermalTrip s) = .next t → State.guard t = State.guard s := by
  rintro _ ⟨⟩; simp
@[simp] theorem State.discardRestart_guard (s : State) (kind : RestartKind) :
    State.guard (State.discardRestart s kind) = State.guard s := by
  simp [State.discardRestart]
@[simp] theorem State.askRestart_guard (s : State) (kind : RestartKind) :
    State.guard (State.askRestart s kind) = State.guard s := by
  simp [State.askRestart]
theorem execResetButtonRelease_guard (ms : Nat) (s : State) :
    ∀ t, (execResetButtonRelease ms s) = .next t → State.guard t = State.guard s := by
  rintro _ ⟨⟩; simp
theorem execResetButtonStuck_guard (s : State) :
    ∀ t, (execResetButtonStuck s) = .next t → State.guard t = State.guard s := by
  rintro _ ⟨⟩; simp
theorem execButtonContactDisagree_guard (s : State) :
    ∀ t, (execButtonContactDisagree s) = .next t → State.guard t = State.guard s := by
  rintro _ ⟨⟩; simp
theorem execButtonReenable_guard (s : State) :
    ∀ t, (execButtonReenable s) = .next t → State.guard t = State.guard s := by
  rintro _ ⟨⟩; simp
@[simp] theorem State.updMail_guard (s : State) (f : MailSt → MailSt) :
    State.guard (State.updMail s f) = State.guard s := by
  rfl
@[simp] theorem State.freeBox_guard (s : State) (mb : Nat) :
    State.guard (State.freeBox s mb) = State.guard s := by
  simp [State.freeBox]
theorem State.claim_guard (s : State) (ep : Nat) (mb : Nat) (key : Nat) :
    ∀ t, (State.claim s ep mb key) = some t → State.guard t = State.guard s := by
  intro t h; unfold State.claim at h; (repeat' split at h) <;> simp_all <;> (subst h; simp)
theorem State.release0_guard (s : State) (ep : Nat) (mb : Nat) :
    ∀ t, (State.release0 s ep mb) = some t → State.guard t = State.guard s := by
  intro t h; unfold State.release0 at h; (repeat' split at h) <;> simp_all <;> (subst h; simp)
theorem State.ring_guard (s : State) (ep : Nat) (mb : Nat) (tag : Nat) :
    ∀ t, (State.ring s ep mb tag) = some t → State.guard t = State.guard s := by
  intro t h; unfold State.ring at h; dsimp only at h; (repeat' split at h) <;> simp at h <;> subst h <;> simp
theorem State.ack_guard (s : State) (ep : Nat) (mb : Nat) :
    ∀ t, (State.ack s ep mb) = some t → State.guard t = State.guard s := by
  intro t h; unfold State.ack at h; dsimp only at h; (repeat' split at h) <;> simp at h <;> subst h <;> simp
theorem State.ctlWrite_guard (s : State) (ep : Nat) (mb : Nat) (off : Nat) (w : Nat) :
    ∀ t, (State.ctlWrite s ep mb off w) = some t → State.guard t = State.guard s := by
  intro t h; unfold State.ctlWrite at h; (repeat' split at h) <;> first
    | exact State.claim_guard _ _ _ _ _ h
    | exact State.release0_guard _ _ _ _ h
    | exact State.ring_guard _ _ _ _ _ h
    | exact State.ack_guard _ _ _ _ h
    | simp at h
@[simp] theorem State.winWrite_guard (s : State) (ep : Nat) (addr : Nat) (data : Bytes) (who : Option Nat) :
    State.guard (State.winWrite s ep addr data who).2 = State.guard s := by
  unfold State.winWrite; dsimp only; (repeat' split) <;> first
    | rfl
    | exact State.ctlWrite_guard _ _ _ _ _ _ ‹_›
    | simp
@[simp] theorem State.refusedWrite_guard (s : State) (st : Nat) (addr : Nat) (ep : Nat) :
    State.guard (State.refusedWrite s st addr ep) = State.guard s := by
  simp [State.refusedWrite]
theorem State.endpoint_guard (s : State) (h : NspHead) :
    ∀ t, (State.endpoint s h) = some t → State.guard t.2 = State.guard s := by
  intro t h; unfold State.endpoint at h; dsimp only at h; (repeat' split at h) <;> simp at h <;> subst h <;> simp
@[simp] theorem State.useXid_guard (s : State) (id : Option Nat) (xid : Nat) :
    State.guard (State.useXid s id xid) = State.guard s := by
  unfold State.useXid; split <;> simp
@[simp] theorem State.reply_guard (s : State) (r : Reply) (keep : Bool) :
    State.guard (State.reply s r keep) = State.guard s := by
  rfl
@[simp] theorem State.nspRead_guard (s : State) (ep : Nat) (h : NspHead) (addr : Nat) :
    State.guard (State.nspRead s ep h addr) = State.guard s := by
  simp [State.nspRead]
@[simp] theorem State.nspWrite_guard (s : State) (ep : Nat) (h : NspHead) (addr : Nat) (data : Bytes) :
    State.guard (State.nspWrite s ep h addr data) = State.guard s := by
  simp [State.nspWrite]
@[simp] theorem State.nspFrame_guard (s : State) (h : NspHead) (addr : Nat) (data : Bytes) :
    State.guard (State.nspFrame s h addr data) = State.guard s := by
  unfold State.nspFrame; split
  · rfl
  · have e := State.endpoint_guard _ _ _ ‹_›
    dsimp only at e ⊢; (repeat' split) <;> simp [e]
@[simp] theorem State.cspiAlert_guard (s : State) :
    State.guard (State.cspiAlert s).2 = State.guard s := by
  unfold State.cspiAlert; dsimp only; (repeat' split) <;> simp_all
@[simp] theorem State.cspiBegin_guard (s : State) :
    State.guard (State.cspiBegin s) = State.guard s := by
  simp [State.cspiBegin]
@[simp] theorem State.cspiWrite_guard (s : State) (addr : Nat) (data : Bytes) :
    State.guard (State.cspiWrite s addr data) = State.guard s := by
  simp [State.cspiWrite]
@[simp] theorem State.cspiRead_guard (s : State) (addr : Nat) (n : Nat) :
    State.guard (State.cspiRead s addr n) = State.guard s := by
  simp [State.cspiRead]
@[simp] theorem State.access_guard (s : State) (acc : Access) (addr : Nat) (data : Bytes) :
    State.guard (State.access s acc addr data) = State.guard s := by
  unfold State.access; (repeat' split) <;> simp
theorem execMailboxAgeTimeout_guard (mb : Nat) (s : State) :
    ∀ t, (execMailboxAgeTimeout mb s) = .next t → State.guard t = State.guard s := by
  rintro _ ⟨⟩; simp
theorem execSessionIdleTimeout_guard (session : Nat) (s : State) :
    ∀ t, (execSessionIdleTimeout session s) = .next t → State.guard t = State.guard s := by
  rintro _ ⟨⟩; simp
theorem execAuthTimeout_guard (s : State) :
    ∀ t, (execAuthTimeout s) = .next t → State.guard t = State.guard s := by
  rintro _ ⟨⟩; simp
@[simp] theorem State.respond_guard (s : State) (mb : Nat) (status : Nat) (body : Bytes) :
    State.guard (State.respond s mb status body) = State.guard s := by
  rfl
theorem query_guard (n : Nat) (r : List (Nat × Nat)) (f : State → Ctx → Ans) (s : State) (x : Ctx) :
    State.guard ((query n r f).run s x).2 = State.guard s := rfl
@[simp] theorem State.answerBad_guard (x0 : Nat) (x1 : State) :
    State.guard (State.answerBad x0 x1) = State.guard x1 := by
  induction x0 generalizing x1 with
  | zero => rfl
  | succ n ih => simp only [State.answerBad]; (repeat' split) <;> simp [ih]
@[simp] theorem State.grantFirst_guard (s : State) (c : FabricClass) :
    State.guard (State.grantFirst s c) = State.guard s := by
  simp [State.grantFirst]
@[simp] theorem State.settle_guard (s : State) :
    State.guard (State.settle s) = State.guard s := by
  simp [State.settle]
@[simp] theorem State.hostWrite_guard (s : State) (acc : Access) (addr : Nat) (data : Bytes) :
    State.guard (State.hostWrite s acc addr data) = State.guard s := by
  simp [State.hostWrite]
theorem execMailboxClaim_guard (acc : Access) (mb : Nat) (ownkey : Nat) (s : State) :
    ∀ t, (execMailboxClaim acc mb ownkey s) = .next t → State.guard t = State.guard s := by
  rintro _ ⟨⟩; split <;> simp
theorem execMailboxRelease_guard (acc : Access) (mb : Nat) (s : State) :
    ∀ t, (execMailboxRelease acc mb s) = .next t → State.guard t = State.guard s := by
  rintro _ ⟨⟩; split <;> simp
theorem execDoorbellRing_guard (acc : Access) (mb : Nat) (tag : Nat) (s : State) :
    ∀ t, (execDoorbellRing acc mb tag s) = .next t → State.guard t = State.guard s := by
  rintro _ ⟨⟩; split <;> simp
theorem execDoorbellAck_guard (acc : Access) (mb : Nat) (s : State) :
    ∀ t, (execDoorbellAck acc mb s) = .next t → State.guard t = State.guard s := by
  rintro _ ⟨⟩; split <;> simp
theorem execRegisterWrite_guard (acc : Access) (addr : Nat) (data : Bytes) (s : State) :
    ∀ t, (execRegisterWrite acc addr data s) = .next t → State.guard t = State.guard s := by
  rintro _ ⟨⟩; simp
@[simp] theorem State.retryBox_guard (s : State) (mb : Nat) :
    State.guard (State.retryBox s mb) = State.guard s := by
  simp [State.retryBox]
theorem execCommandResponseTimeout_guard (mb : Nat) (s : State) :
    ∀ t, (execCommandResponseTimeout mb s) = .next t → State.guard t = State.guard s := by
  rintro _ ⟨⟩; simp
theorem execFabricGrantTimeout_guard (user : FabricUser) (s : State) :
    ∀ t, (execFabricGrantTimeout user s) = .next t → State.guard t = State.guard s := by
  rintro _ ⟨⟩; (repeat' split) <;> simp
theorem State.serveCmd_guard (s : State) (mb code : Nat) (c : Cmd)
    (h : ∀ s x, State.guard (c.run s x).2 = State.guard s) : State.guard (s.serveCmd mb code c) = State.guard s := by
  unfold State.serveCmd; dsimp only; (repeat' split) <;> simp [h]
@[simp] theorem State.firmwareFault_guard (s : State) (f : Fsid) :
    State.guard (State.firmwareFault s f) = State.guard s := by
  unfold State.firmwareFault; dsimp only; (repeat' split) <;> simp_all
theorem execFaultEventCollected_guard (fsid : Fsid) (s : State) :
    ∀ t, (execFaultEventCollected fsid s) = .next t → State.guard t = State.guard s := by
  rintro _ ⟨⟩; simp
@[simp] theorem okAns_guard (b : Bytes) (s : State) :
    State.guard (okAns b s).2 = State.guard s := by
  rfl
@[simp] theorem noAns_guard (st : Nat) (s : State) :
    State.guard (noAns st s).2 = State.guard s := by
  rfl
@[simp] theorem State.accepted_guard (s : State) (c : Ctx) (item : Nat) :
    State.guard (State.accepted s c item).2 = State.guard s := by
  rfl
theorem logged_guard (f : State → Ctx → Ans × State) (h : ∀ s x, State.guard (f s x).2 = State.guard s) (s : State) (c : Ctx) :
    State.guard (logged f s c).2 = State.guard s := by
  unfold logged; split <;> simp [noAns, h]
@[simp] theorem State.dropStep_guard (s : State) (c : Ctx) :
    State.guard (State.dropStep s c) = State.guard s := by
  rfl
@[simp] theorem State.firstStep_guard (s : State) (c : Ctx) (off : Nat) :
    State.guard (State.firstStep s c off).2 = State.guard s := by
  rfl
@[simp] theorem State.secondStep_guard (s : State) (c : Ctx) (off : Nat) (window : Bool) :
    State.guard (State.secondStep s c off window).2 = State.guard s := by
  rfl
@[simp] theorem State.ctxChange_guard (s : State) (c : Ctx) (kind : Nat) (body : Bytes) :
    State.guard (State.ctxChange s c kind body) = State.guard s := by
  simp [State.ctxChange]
@[simp] theorem State.newProv_guard (s : State) (ep : Nat) (cred : Nat) (hostkey : Bytes) :
    State.guard (State.newProv s ep cred hostkey).2 = State.guard s := by
  rfl
@[simp] theorem runOpen_guard (s : State) (c : Ctx) :
    State.guard (runOpen s c).2 = State.guard s := by
  unfold runOpen; dsimp only; (repeat' split) <;> simp_all
theorem execOpenSession_guard (mb : Nat) (s : State) :
    ∀ t, execOpenSession mb s = .next t → State.guard t = State.guard s := by
  rintro _ ⟨⟩; exact State.serveCmd_guard _ _ _ _ (runOpen_guard)
@[simp] theorem runAuth_guard (s : State) (c : Ctx) :
    State.guard (runAuth s c).2 = State.guard s := by
  unfold runAuth; (repeat' split) <;> simp
theorem execAuth_guard (mb : Nat) (s : State) :
    ∀ t, execAuth mb s = .next t → State.guard t = State.guard s := by
  rintro _ ⟨⟩; exact State.serveCmd_guard _ _ _ _ (runAuth_guard)
theorem execClose_guard (mb : Nat) (s : State) :
    ∀ t, execClose mb s = .next t → State.guard t = State.guard s := by
  rintro _ ⟨⟩; exact State.serveCmd_guard _ _ _ _ (fun s x => by dsimp only [cmdClose, opCmd, noAns, okAns]; (repeat' split) <;> simp)
theorem execSessionList_guard (mb : Nat) (s : State) :
    ∀ t, execSessionList mb s = .next t → State.guard t = State.guard s := by
  rintro _ ⟨⟩; exact State.serveCmd_guard _ _ _ _ (query_guard _ _ _)
theorem execCredList_guard (mb : Nat) (s : State) :
    ∀ t, execCredList mb s = .next t → State.guard t = State.guard s := by
  rintro _ ⟨⟩; exact State.serveCmd_guard _ _ _ _ (query_guard _ _ _)
theorem execIdentity_guard (mb : Nat) (s : State) :
    ∀ t, execIdentity mb s = .next t → State.guard t = State.guard s := by
  rintro _ ⟨⟩; exact State.serveCmd_guard _ _ _ _ (query_guard _ _ _)
theorem execCycleStatus_guard (mb : Nat) (s : State) :
    ∀ t, execCycleStatus mb s = .next t → State.guard t = State.guard s := by
  rintro _ ⟨⟩; exact State.serveCmd_guard _ _ _ _ (query_guard _ _ _)
theorem execLaneStatus_guard (mb : Nat) (s : State) :
    ∀ t, execLaneStatus mb s = .next t → State.guard t = State.guard s := by
  rintro _ ⟨⟩; exact State.serveCmd_guard _ _ _ _ (query_guard _ _ _)
theorem execInputStatus_guard (mb : Nat) (s : State) :
    ∀ t, execInputStatus mb s = .next t → State.guard t = State.guard s := by
  rintro _ ⟨⟩; exact State.serveCmd_guard _ _ _ _ (query_guard _ _ _)
theorem execOutputStatus_guard (mb : Nat) (s : State) :
    ∀ t, execOutputStatus mb s = .next t → State.guard t = State.guard s := by
  rintro _ ⟨⟩; exact State.serveCmd_guard _ _ _ _ (query_guard _ _ _)
theorem execConnStatus_guard (mb : Nat) (s : State) :
    ∀ t, execConnStatus mb s = .next t → State.guard t = State.guard s := by
  rintro _ ⟨⟩; exact State.serveCmd_guard _ _ _ _ (query_guard _ _ _)
theorem execElementRead_guard (mb : Nat) (s : State) :
    ∀ t, execElementRead mb s = .next t → State.guard t = State.guard s := by
  rintro _ ⟨⟩; exact State.serveCmd_guard _ _ _ _ (query_guard _ _ _)
theorem execRouteRead_guard (mb : Nat) (s : State) :
    ∀ t, execRouteRead mb s = .next t → State.guard t = State.guard s := by
  rintro _ ⟨⟩; exact State.serveCmd_guard _ _ _ _ (query_guard _ _ _)
theorem execTrellisStatus_guard (mb : Nat) (s : State) :
    ∀ t, execTrellisStatus mb s = .next t → State.guard t = State.guard s := by
  rintro _ ⟨⟩; exact State.serveCmd_guard _ _ _ _ (query_guard _ _ _)
theorem execRouteIdent_guard (mb : Nat) (s : State) :
    ∀ t, execRouteIdent mb s = .next t → State.guard t = State.guard s := by
  rintro _ ⟨⟩; exact State.serveCmd_guard _ _ _ _ (query_guard _ _ _)
theorem execImageInfo_guard (mb : Nat) (s : State) :
    ∀ t, execImageInfo mb s = .next t → State.guard t = State.guard s := by
  rintro _ ⟨⟩; exact State.serveCmd_guard _ _ _ _ (query_guard _ _ _)
theorem execPairStatus_guard (mb : Nat) (s : State) :
    ∀ t, execPairStatus mb s = .next t → State.guard t = State.guard s := by
  rintro _ ⟨⟩; exact State.serveCmd_guard _ _ _ _ (query_guard _ _ _)
theorem execFaultStatus_guard (mb : Nat) (s : State) :
    ∀ t, execFaultStatus mb s = .next t → State.guard t = State.guard s := by
  rintro _ ⟨⟩; exact State.serveCmd_guard _ _ _ _ (query_guard _ _ _)
theorem execEscBounds_guard (mb : Nat) (s : State) :
    ∀ t, execEscBounds mb s = .next t → State.guard t = State.guard s := by
  rintro _ ⟨⟩; exact State.serveCmd_guard _ _ _ _ (query_guard _ _ _)
theorem execHedgeList_guard (mb : Nat) (s : State) :
    ∀ t, execHedgeList mb s = .next t → State.guard t = State.guard s := by
  rintro _ ⟨⟩; exact State.serveCmd_guard _ _ _ _ (query_guard _ _ _)
theorem execTimeGet_guard (mb : Nat) (s : State) :
    ∀ t, execTimeGet mb s = .next t → State.guard t = State.guard s := by
  rintro _ ⟨⟩; exact State.serveCmd_guard _ _ _ _ (query_guard _ _ _)
@[simp] theorem runMode_guard (s : State) (c : Ctx) :
    State.guard (runMode s c).2 = State.guard s := by
  unfold runMode; dsimp only; (repeat' split) <;> simp_all
theorem execMode_guard (mb : Nat) (s : State) :
    ∀ t, execMode mb s = .next t → State.guard t = State.guard s := by
  rintro _ ⟨⟩; exact State.serveCmd_guard _ _ _ _ (logged_guard _ runMode_guard)
@[simp] theorem runRestart_guard (s : State) (c : Ctx) :
    State.guard (runRestart s c).2 = State.guard s := by
  unfold runRestart; dsimp only; (repeat' split) <;> simp_all
theorem execRestart_guard (mb : Nat) (s : State) :
    ∀ t, execRestart mb s = .next t → State.guard t = State.guard s := by
  rintro _ ⟨⟩; exact State.serveCmd_guard _ _ _ _ (logged_guard _ runRestart_guard)
@[simp] theorem runMaint_guard (s : State) (c : Ctx) :
    State.guard (runMaint s c).2 = State.guard s := by
  unfold runMaint; dsimp only; (repeat' split) <;> simp_all
theorem execMaint_guard (mb : Nat) (s : State) :
    ∀ t, execMaint mb s = .next t → State.guard t = State.guard s := by
  rintro _ ⟨⟩; exact State.serveCmd_guard _ _ _ _ (logged_guard _ runMaint_guard)
@[simp] theorem State.updStage_guard (s : State) (f : StageSt → StageSt) :
    State.guard (State.updStage s f) = State.guard s := by
  rfl
theorem owned_guard (f : State → Ctx → Ans × State) (h : ∀ s x, State.guard (f s x).2 = State.guard s) (s : State) (c : Ctx) :
    State.guard (owned f s c).2 = State.guard s := by
  unfold owned; split <;> simp [noAns, h]
@[simp] theorem runStageOpen_guard (s : State) (c : Ctx) :
    State.guard (runStageOpen s c).2 = State.guard s := by
  unfold runStageOpen; (repeat' split) <;> simp
theorem execStageOpen_guard (mb : Nat) (s : State) :
    ∀ t, execStageOpen mb s = .next t → State.guard t = State.guard s := by
  rintro _ ⟨⟩; exact State.serveCmd_guard _ _ _ _ (logged_guard _ runStageOpen_guard)
theorem State.stageAll_guard (s : State) (x1 : List Bytes) (x2 : Nat) :
    ∀ t, (State.stageAll s x1 x2) = .ok t → State.guard t = State.guard s := by
  induction x1 generalizing s x2 with
  | nil => intro t h; simp [State.stageAll] at h; rw [h]
  | cons r rs ih =>
    intro t h; simp only [State.stageAll] at h; split at h
    · rw [ih _ _ _ h]; simp
    · simp at h
@[simp] theorem State.afterWrite_guard (s : State) :
    State.guard (State.afterWrite s) = State.guard s := by
  simp [State.afterWrite]
@[simp] theorem State.writeEntries_guard (s : State) (role : Nat) (rs : List Bytes) :
    State.guard (State.writeEntries s role rs).2 = State.guard s := by
  unfold State.writeEntries; split; · rfl
  split; · rfl
  split
  · rfl
  · simp [okAns, State.stageAll_guard _ _ _ _ ‹_›]
@[simp] theorem runStageWrite_guard (s : State) (c : Ctx) :
    State.guard (runStageWrite s c).2 = State.guard s := by
  unfold runStageWrite; dsimp only; (repeat' split) <;> simp_all
theorem execStageWrite_guard (mb : Nat) (s : State) :
    ∀ t, execStageWrite mb s = .next t → State.guard t = State.guard s := by
  rintro _ ⟨⟩; exact State.serveCmd_guard _ _ _ _ (owned_guard _ runStageWrite_guard)
@[simp] theorem runStageRead_guard (s : State) (c : Ctx) :
    State.guard (runStageRead s c).2 = State.guard s := by
  unfold runStageRead; dsimp only; (repeat' split) <;> simp_all
theorem execStageRead_guard (mb : Nat) (s : State) :
    ∀ t, execStageRead mb s = .next t → State.guard t = State.guard s := by
  rintro _ ⟨⟩; exact State.serveCmd_guard _ _ _ _ (owned_guard _ runStageRead_guard)
@[simp] theorem State.discardFrame_guard (s : State) :
    State.guard (State.discardFrame s) = State.guard s := by
  simp [State.discardFrame]
@[simp] theorem runStageDiscard_guard (s : State) (c : Ctx) :
    State.guard (runStageDiscard s c).2 = State.guard s := by
  unfold runStageDiscard; split <;> simp
theorem execStageDiscard_guard (mb : Nat) (s : State) :
    ∀ t, execStageDiscard mb s = .next t → State.guard t = State.guard s := by
  rintro _ ⟨⟩; exact State.serveCmd_guard _ _ _ _ (logged_guard _ (owned_guard _ runStageDiscard_guard))
@[simp] theorem runStageCheck_guard (s : State) (c : Ctx) :
    State.guard (runStageCheck s c).2 = State.guard s := by
  unfold runStageCheck; split <;> simp
theorem execStageCheck_guard (mb : Nat) (s : State) :
    ∀ t, execStageCheck mb s = .next t → State.guard t = State.guard s := by
  rintro _ ⟨⟩; exact State.serveCmd_guard _ _ _ _ (logged_guard _ (owned_guard _ runStageCheck_guard))
@[simp] theorem State.acceptApply_guard (s : State) (r : CmdRef) :
    State.guard (State.acceptApply s r) = State.guard s := by
  simp [State.acceptApply]
@[simp] theorem State.applyRec_guard (s : State) (c : Ctx) (st : Nat) :
    State.guard (State.applyRec s c st) = State.guard s := by
  simp [State.applyRec]
@[simp] theorem takeApply_guard (s : State) (c : Ctx) :
    State.guard (takeApply s c).2 = State.guard s := by
  unfold takeApply; dsimp only; (repeat' split) <;> simp_all
@[simp] theorem runStageApply_guard (s : State) (c : Ctx) :
    State.guard (runStageApply s c).2 = State.guard s := by
  unfold runStageApply; split
  · exact logged_guard _ (owned_guard _ takeApply_guard) _ _
  · simp [noAns]
theorem execStageApply_guard (mb : Nat) (s : State) :
    ∀ t, execStageApply mb s = .next t → State.guard t = State.guard s := by
  rintro _ ⟨⟩; exact State.serveCmd_guard _ _ _ _ (runStageApply_guard)
theorem execStageStatus_guard (mb : Nat) (s : State) :
    ∀ t, execStageStatus mb s = .next t → State.guard t = State.guard s := by
  rintro _ ⟨⟩; exact State.serveCmd_guard _ _ _ _ (query_guard _ _ _)
@[simp] theorem State.writeKey_guard (s : State) (e : StgEntry) :
    State.guard (State.writeKey s e).2 = State.guard s := by
  unfold State.writeKey; (repeat' split) <;> simp
@[simp] theorem runConnKey_guard (s : State) (c : Ctx) :
    State.guard (runConnKey s c).2 = State.guard s := by
  unfold runConnKey; split <;> simp
theorem execConnKey_guard (mb : Nat) (s : State) :
    ∀ t, execConnKey mb s = .next t → State.guard t = State.guard s := by
  rintro _ ⟨⟩; exact State.serveCmd_guard _ _ _ _ (owned_guard _ runConnKey_guard)
@[simp] theorem State.useToken_guard (s : State) (c : Ctx) (imgid : Nat) :
    State.guard (State.useToken s c imgid) = State.guard s := by
  unfold State.useToken; split <;> simp
@[simp] theorem State.acceptAct_guard (s : State) (c : Ctx) (kind : Nat) (old : Nat) (new : Nat) :
    State.guard (State.acceptAct s c kind old new) = State.guard s := by
  simp [State.acceptAct]
@[simp] theorem State.endOther_guard (s : State) (kind : Nat) :
    State.guard (State.endOther s kind) = State.guard s := by
  simp [State.endOther]
@[simp] theorem State.activateApp_guard (s : State) (c : Ctx) (ref : Option CmdRef) :
    State.guard (State.activateApp s c ref) = State.guard s := by
  simp [State.activateApp]
@[simp] theorem runActivate_guard (s : State) (c : Ctx) :
    State.guard (runActivate s c).2 = State.guard s := by
  unfold runActivate; dsimp only; (repeat' split) <;> simp_all
theorem execActivate_guard (mb : Nat) (s : State) :
    ∀ t, execActivate mb s = .next t → State.guard t = State.guard s := by
  rintro _ ⟨⟩; exact State.serveCmd_guard _ _ _ _ (logged_guard _ runActivate_guard)
@[simp] theorem runUpdOpen_guard (s : State) (c : Ctx) :
    State.guard (runUpdOpen s c).2 = State.guard s := by
  unfold runUpdOpen; dsimp only; (repeat' split) <;> simp_all
theorem execUpdOpen_guard (mb : Nat) (s : State) :
    ∀ t, execUpdOpen mb s = .next t → State.guard t = State.guard s := by
  rintro _ ⟨⟩; exact State.serveCmd_guard _ _ _ _ (logged_guard _ runUpdOpen_guard)
theorem withUpd_guard (f : UpdSess → State → Ctx → Ans × State) (h : ∀ u s x, State.guard (f u s x).2 = State.guard s)
    (s : State) (c : Ctx) : State.guard (withUpd f s c).2 = State.guard s := by
  unfold withUpd; dsimp only; (repeat' split) <;> simp [noAns, h]
@[simp] theorem State.putSess_guard (s : State) (u : UpdSess) :
    State.guard (State.putSess s u) = State.guard s := by
  rfl
@[simp] theorem takePart_guard (u : UpdSess) (s : State) (c : Ctx) :
    State.guard (takePart u s c).2 = State.guard s := by
  unfold takePart; dsimp only; (repeat' split) <;> simp_all
theorem execUpdData_guard (mb : Nat) (s : State) :
    ∀ t, execUpdData mb s = .next t → State.guard t = State.guard s := by
  rintro _ ⟨⟩; exact State.serveCmd_guard _ _ _ _ (withUpd_guard _ takePart_guard)
@[simp] theorem askVerify_guard (u : UpdSess) (s : State) (c : Ctx) :
    State.guard (askVerify u s c).2 = State.guard s := by
  unfold askVerify; dsimp only; (repeat' split) <;> simp_all
theorem execUpdVerify_guard (mb : Nat) (s : State) :
    ∀ t, execUpdVerify mb s = .next t → State.guard t = State.guard s := by
  rintro _ ⟨⟩; exact State.serveCmd_guard _ _ _ _ (logged_guard _ (withUpd_guard _ askVerify_guard))
@[simp] theorem State.kernelDown_guard (s : State) (c : Ctx) (b : Bool) (e : Envelope) :
    State.guard (State.kernelDown s c b e) = State.guard s := by
  simp [State.kernelDown]
@[simp] theorem State.kernelTurns_guard (s : State) (c : Ctx) (b : Bool) (e : Envelope) :
    State.guard (State.kernelTurns s c b e) = State.guard s := by
  simp [State.kernelTurns]
@[simp] theorem runKernel_guard (s : State) (c : Ctx) :
    State.guard (runKernel s c).2 = State.guard s := by
  unfold runKernel; dsimp only; (repeat' split) <;> simp_all
@[simp] theorem runFirmware_guard (s : State) (c : Ctx) :
    State.guard (runFirmware s c).2 = State.guard s := by
  unfold runFirmware; split <;> simp
@[simp] theorem runAppImage_guard (s : State) (c : Ctx) :
    State.guard (runAppImage s c).2 = State.guard s := by
  unfold runAppImage; dsimp only; (repeat' split) <;> simp_all
@[simp] theorem askActivate_guard (u : UpdSess) (s : State) (c : Ctx) :
    State.guard (askActivate u s c).2 = State.guard s := by
  unfold askActivate; (repeat' split) <;> simp
theorem execUpdActivate_guard (mb : Nat) (s : State) :
    ∀ t, execUpdActivate mb s = .next t → State.guard t = State.guard s := by
  rintro _ ⟨⟩; exact State.serveCmd_guard _ _ _ _ (logged_guard _ (withUpd_guard _ askActivate_guard))
theorem execUpdAbort_guard (mb : Nat) (s : State) :
    ∀ t, execUpdAbort mb s = .next t → State.guard t = State.guard s := by
  rintro _ ⟨⟩; exact State.serveCmd_guard _ _ _ _ (logged_guard _ (withUpd_guard _ fun u s x => by simp [okAns]))
theorem execUpdStatus_guard (mb : Nat) (s : State) :
    ∀ t, execUpdStatus mb s = .next t → State.guard t = State.guard s := by
  rintro _ ⟨⟩; exact State.serveCmd_guard _ _ _ _ (query_guard _ _ _)
@[simp] theorem runRecOpen_guard (s : State) (c : Ctx) :
    State.guard (runRecOpen s c).2 = State.guard s := by
  unfold runRecOpen; split <;> simp
theorem execRecOpen_guard (mb : Nat) (s : State) :
    ∀ t, execRecOpen mb s = .next t → State.guard t = State.guard s := by
  rintro _ ⟨⟩; exact State.serveCmd_guard _ _ _ _ (runRecOpen_guard)
@[simp] theorem State.nextBatch_guard (s : State) (k : Cursor) (maxBytes : Nat) :
    State.guard (State.nextBatch s k maxBytes).2 = State.guard s := by
  rfl
@[simp] theorem runRecNext_guard (s : State) (c : Ctx) :
    State.guard (runRecNext s c).2 = State.guard s := by
  unfold runRecNext; dsimp only; (repeat' split) <;> simp_all
theorem execRecNext_guard (mb : Nat) (s : State) :
    ∀ t, execRecNext mb s = .next t → State.guard t = State.guard s := by
  rintro _ ⟨⟩; exact State.serveCmd_guard _ _ _ _ (runRecNext_guard)
theorem execRecClose_guard (mb : Nat) (s : State) :
    ∀ t, execRecClose mb s = .next t → State.guard t = State.guard s := by
  rintro _ ⟨⟩; exact State.serveCmd_guard _ _ _ _ (fun s x => by dsimp only [cmdRecClose, opCmd, noAns, okAns]; (repeat' split) <;> simp)
theorem execRecCounters_guard (mb : Nat) (s : State) :
    ∀ t, execRecCounters mb s = .next t → State.guard t = State.guard s := by
  rintro _ ⟨⟩; exact State.serveCmd_guard _ _ _ _ (query_guard _ _ _)
@[simp] theorem State.startTest_guard (s : State) (t : TestSt) :
    State.guard (State.startTest s t) = State.guard s := rfl
@[simp] theorem runTestRun_guard (s : State) (c : Ctx) :
    State.guard (runTestRun s c).2 = State.guard s := by
  unfold runTestRun; dsimp only; (repeat' split) <;> simp_all
theorem execTestRun_guard (mb : Nat) (s : State) :
    ∀ t, execTestRun mb s = .next t → State.guard t = State.guard s := by
  rintro _ ⟨⟩; exact State.serveCmd_guard _ _ _ _ (logged_guard _ runTestRun_guard)
theorem execTestList_guard (mb : Nat) (s : State) :
    ∀ t, execTestList mb s = .next t → State.guard t = State.guard s := by
  rintro _ ⟨⟩; exact State.serveCmd_guard _ _ _ _ (query_guard _ _ _)
@[simp] theorem runTestAbort_guard (s : State) (c : Ctx) :
    State.guard (runTestAbort s c).2 = State.guard s := by
  unfold runTestAbort; split <;> simp
theorem execTestAbort_guard (mb : Nat) (s : State) :
    ∀ t, execTestAbort mb s = .next t → State.guard t = State.guard s := by
  rintro _ ⟨⟩; exact State.serveCmd_guard _ _ _ _ (logged_guard _ runTestAbort_guard)
@[simp] theorem State.beginRelease_guard (s : State) (kind : Nat) (index : Nat) (r : CmdRef) :
    State.guard (State.beginRelease s kind index r) = State.guard s := by
  unfold State.beginRelease; (repeat' split) <;> simp
@[simp] theorem runHedgeRelease_guard (s : State) (c : Ctx) :
    State.guard (runHedgeRelease s c).2 = State.guard s := by
  unfold runHedgeRelease; dsimp only; (repeat' split) <;> simp_all
theorem execHedgeRelease_guard (mb : Nat) (s : State) :
    ∀ t, execHedgeRelease mb s = .next t → State.guard t = State.guard s := by
  rintro _ ⟨⟩; exact State.serveCmd_guard _ _ _ _ (logged_guard _ runHedgeRelease_guard)
@[simp] theorem State.queueOp_guard (s : State) (c : Ctx) (item : Nat) (k : OpKind) :
    State.guard (State.queueOp s c item k).2 = State.guard s := by
  simp [State.queueOp]
theorem execRouteSet_guard (mb : Nat) (s : State) :
    ∀ t, execRouteSet mb s = .next t → State.guard t = State.guard s := by
  rintro _ ⟨⟩; exact State.serveCmd_guard _ _ _ _ (fun s x => by dsimp only [cmdRouteSet, opCmd, noAns, okAns]; (repeat' split) <;> simp)
theorem execRouteCancel_guard (mb : Nat) (s : State) :
    ∀ t, execRouteCancel mb s = .next t → State.guard t = State.guard s := by
  rintro _ ⟨⟩; exact State.serveCmd_guard _ _ _ _ (fun s x => by dsimp only [cmdRouteCancel, opCmd, noAns, okAns]; (repeat' split) <;> simp)
theorem execAutoSet_guard (mb : Nat) (s : State) :
    ∀ t, execAutoSet mb s = .next t → State.guard t = State.guard s := by
  rintro _ ⟨⟩; exact State.serveCmd_guard _ _ _ _ (fun s x => by dsimp only [cmdAutoSet, opCmd, noAns, okAns]; (repeat' split) <;> simp)
theorem execTrigArm_guard (mb : Nat) (s : State) :
    ∀ t, execTrigArm mb s = .next t → State.guard t = State.guard s := by
  rintro _ ⟨⟩; exact State.serveCmd_guard _ _ _ _ (fun s x => by dsimp only [cmdTrigArm, opCmd, noAns, okAns]; (repeat' split) <;> simp)
theorem execKeyRelease_guard (mb : Nat) (s : State) :
    ∀ t, execKeyRelease mb s = .next t → State.guard t = State.guard s := by
  rintro _ ⟨⟩; exact State.serveCmd_guard _ _ _ _ (fun s x => by dsimp only [cmdKeyRelease, opCmd, noAns, okAns]; (repeat' split) <;> simp)
@[simp] theorem State.secondOp_guard (s : State) (c : Ctx) (window : Bool) (k : OpKind) :
    State.guard (State.secondOp s c window k).2 = State.guard s := by
  unfold State.secondOp; dsimp only; (repeat' split) <;> simp_all
@[simp] theorem runEmergRelease_guard (s : State) (c : Ctx) :
    State.guard (runEmergRelease s c).2 = State.guard s := by
  unfold runEmergRelease; dsimp only; (repeat' split) <;> simp_all
theorem execEmergRelease_guard (mb : Nat) (s : State) :
    ∀ t, execEmergRelease mb s = .next t → State.guard t = State.guard s := by
  rintro _ ⟨⟩; exact State.serveCmd_guard _ _ _ _ (runEmergRelease_guard)
@[simp] theorem runAxleReset_guard (s : State) (c : Ctx) :
    State.guard (runAxleReset s c).2 = State.guard s := by
  unfold runAxleReset; (repeat' split) <;> simp
theorem execAxleReset_guard (mb : Nat) (s : State) :
    ∀ t, execAxleReset mb s = .next t → State.guard t = State.guard s := by
  rintro _ ⟨⟩; exact State.serveCmd_guard _ _ _ _ (runAxleReset_guard)
@[simp] theorem runTimeSet_guard (s : State) (c : Ctx) :
    State.guard (runTimeSet s c).2 = State.guard s := by
  unfold runTimeSet; dsimp only; (repeat' split) <;> simp_all
theorem execTimeSet_guard (mb : Nat) (s : State) :
    ∀ t, execTimeSet mb s = .next t → State.guard t = State.guard s := by
  rintro _ ⟨⟩; exact State.serveCmd_guard _ _ _ _ (logged_guard _ runTimeSet_guard)
@[simp] theorem runTimeSource_guard (s : State) (c : Ctx) :
    State.guard (runTimeSource s c).2 = State.guard s := by
  unfold runTimeSource; dsimp only; split; · rfl
  split; · rfl
  rw [okAns, State.updTime_guard _ _ rfl]; simp
theorem execTimeSource_guard (mb : Nat) (s : State) :
    ∀ t, execTimeSource mb s = .next t → State.guard t = State.guard s := by
  rintro _ ⟨⟩; exact State.serveCmd_guard _ _ _ _ (logged_guard _ runTimeSource_guard)
@[simp] theorem runHandover_guard (s : State) (c : Ctx) :
    State.guard (runHandover s c).2 = State.guard s := by
  unfold runHandover; split <;> simp
theorem execHandover_guard (mb : Nat) (s : State) :
    ∀ t, execHandover mb s = .next t → State.guard t = State.guard s := by
  rintro _ ⟨⟩; exact State.serveCmd_guard _ _ _ _ (logged_guard _ runHandover_guard)
@[simp] theorem runColdAssume_guard (s : State) (c : Ctx) :
    State.guard (runColdAssume s c).2 = State.guard s := by
  unfold runColdAssume; dsimp only; (repeat' split) <;> simp_all
theorem execColdAssume_guard (mb : Nat) (s : State) :
    ∀ t, execColdAssume mb s = .next t → State.guard t = State.guard s := by
  rintro _ ⟨⟩; exact State.serveCmd_guard _ _ _ _ (logged_guard _ runColdAssume_guard)
theorem execSbStatus_guard (mb : Nat) (s : State) :
    ∀ t, execSbStatus mb s = .next t → State.guard t = State.guard s := by
  rintro _ ⟨⟩; exact State.serveCmd_guard _ _ _ _ (query_guard _ _ _)
theorem execSbErrlog_guard (mb : Nat) (s : State) :
    ∀ t, execSbErrlog mb s = .next t → State.guard t = State.guard s := by
  rintro _ ⟨⟩; exact State.serveCmd_guard _ _ _ _ (query_guard _ _ _)
theorem execSbErrclr_guard (mb : Nat) (s : State) :
    ∀ t, execSbErrclr mb s = .next t → State.guard t = State.guard s := by
  rintro _ ⟨⟩; exact State.serveCmd_guard _ _ _ _ (fun s x => by dsimp only [cmdSbErrclr, opCmd, noAns, okAns]; (repeat' split) <;> simp)
@[simp] theorem State.closeWindow_guard (s : State) (n : Nat) :
    State.guard (State.closeWindow s n) = State.guard s := by
  simp [State.closeWindow]
@[simp] theorem runWindowSet_guard (s : State) (c : Ctx) :
    State.guard (runWindowSet s c).2 = State.guard s := by
  unfold runWindowSet; dsimp only; (repeat' split) <;> simp_all
theorem execWindowSet_guard (mb : Nat) (s : State) :
    ∀ t, execWindowSet mb s = .next t → State.guard t = State.guard s := by
  rintro _ ⟨⟩; exact State.serveCmd_guard _ _ _ _ (logged_guard _ runWindowSet_guard)
@[simp] theorem runTunnelSet_guard (s : State) (c : Ctx) :
    State.guard (runTunnelSet s c).2 = State.guard s := by
  unfold runTunnelSet; dsimp only; (repeat' split) <;> simp_all
theorem execTunnelSet_guard (mb : Nat) (s : State) :
    ∀ t, execTunnelSet mb s = .next t → State.guard t = State.guard s := by
  rintro _ ⟨⟩; exact State.serveCmd_guard _ _ _ _ (logged_guard _ runTunnelSet_guard)
theorem execTunnelStatus_guard (mb : Nat) (s : State) :
    ∀ t, execTunnelStatus mb s = .next t → State.guard t = State.guard s := by
  rintro _ ⟨⟩; exact State.serveCmd_guard _ _ _ _ (query_guard _ _ _)
@[simp] theorem State.queueForce_guard (s : State) (c : Ctx) (f : ForceCmd) :
    State.guard (State.queueForce s c f).2 = State.guard s := by
  simp [State.queueForce]
@[simp] theorem runForceSet_guard (s : State) (c : Ctx) :
    State.guard (runForceSet s c).2 = State.guard s := by
  unfold runForceSet; dsimp only; (repeat' split) <;> simp_all
theorem execForceSet_guard (mb : Nat) (s : State) :
    ∀ t, execForceSet mb s = .next t → State.guard t = State.guard s := by
  rintro _ ⟨⟩; exact State.serveCmd_guard _ _ _ _ (runForceSet_guard)
@[simp] theorem runForceClear_guard (s : State) (c : Ctx) :
    State.guard (runForceClear s c).2 = State.guard s := by
  unfold runForceClear; dsimp only; (repeat' split) <;> simp_all
theorem execForceClear_guard (mb : Nat) (s : State) :
    ∀ t, execForceClear mb s = .next t → State.guard t = State.guard s := by
  rintro _ ⟨⟩; exact State.serveCmd_guard _ _ _ _ (logged_guard _ runForceClear_guard)
theorem execForceList_guard (mb : Nat) (s : State) :
    ∀ t, execForceList mb s = .next t → State.guard t = State.guard s := by
  rintro _ ⟨⟩; exact State.serveCmd_guard _ _ _ _ (query_guard _ _ _)
theorem execSwitchForwarding_guard (net : Net) (port2 : Bool) (f : Frame) (s : State) :
    ∀ t, (execSwitchForwarding net port2 f s) = .next t → State.guard t = State.guard s := by
  rintro _ ⟨⟩; simp
theorem execLearnedAddressAgeing_guard (net : Net) (mac : Nat) (s : State) :
    ∀ t, (execLearnedAddressAgeing net mac s) = .next t → State.guard t = State.guard s := by
  rintro _ ⟨⟩; simp
theorem execEthernetLinkChange_guard (net : Net) (port2 : Bool) (up : Bool) (s : State) :
    ∀ t, (execEthernetLinkChange net port2 up s) = .next t → State.guard t = State.guard s := by
  rintro _ ⟨⟩; simp
@[simp] theorem State.ringSend_guard (s : State) (n : Net) (kind : Nat) :
    State.guard (State.ringSend s n kind) = State.guard s := by
  rfl
theorem execRingtestSend_guard (net : Net) (s : State) :
    ∀ t, (execRingtestSend net s) = .next t → State.guard t = State.guard s := by
  rintro _ ⟨⟩; simp
theorem execRingtestReceived_guard (net : Net) (port2 : Bool) (f : Frame) (s : State) :
    ∀ t, (execRingtestReceived net port2 f s) = .next t → State.guard t = State.guard s := by
  rintro _ ⟨⟩; simp
theorem execRingBreak_guard (net : Net) (s : State) :
    ∀ t, (execRingBreak net s) = .next t → State.guard t = State.guard s := by
  rintro _ ⟨⟩; simp
theorem execRingClose_guard (net : Net) (s : State) :
    ∀ t, (execRingClose net s) = .next t → State.guard t = State.guard s := by
  rintro _ ⟨⟩; simp
@[simp] theorem State.clearOut_guard (s : State) :
    State.guard (State.clearOut s) = State.guard s := by
  rfl
@[simp] theorem State.tickCells_guard (s : State) :
    State.guard (State.tickCells s) = State.guard s := by
  simp [State.tickCells]
@[simp] theorem State.tickCycle_guard (s : State) :
    State.guard (State.tickCycle s) = State.guard s := by
  rfl
@[simp] theorem State.tickRecs_guard (s : State) :
    State.guard (State.tickRecs s) = State.guard s := by
  simp [State.tickRecs]
@[simp] theorem State.restartFw_guard (s : State) :
    State.guard (State.restartFw s) = State.guard s := by
  simp [State.restartFw]
@[simp] theorem tick_guard (s : State) :
    State.guard (tick s) = State.guard s := by
  have e : ∀ u : UpdSt, u.tick.rbfloor = u.rbfloor := fun _ => rfl
  simp [tick, e]
@[simp] theorem State.withFetchWord_guard (s : State) (nbits : Nat) (w : Nat) :
    State.guard (State.withFetchWord s nbits w) = State.guard s := by
  rfl
end Sys2Proof.Machine
end

