-- ==== Sys2Proof/Laws/LaneForms.lean ====
section
/-! SUPPORT. The three lanes' forms of the Trellis checks give one result (03 R108, R109), and it is the one the passes
use. -/

namespace Sys2Proof.Machine

/-- Bit k of lane A's check is what the passes ask of the element: its code is 0, or it is available and code 1 finds Q1 or
code 2 finds Q2. -/
theorem okA_passes {n : Nat} (m0 m1 av q1 q2 : BitVec n) (k : Nat) (e : Elem) (code : Nat) (hk : k < n) (hc : code < 4)
    (h0 : m0.getLsbD k = !code.testBit 0) (h1 : m1.getLsbD k = !code.testBit 1) (hav : av.getLsbD k = avail e)
    (hq1 : q1.getLsbD k = satCode e 1) (hq2 : q2.getLsbD k = satCode e 2) :
    (okA m0 m1 av q1 q2).getLsbD k = passes e code := by
  have : code = 0 ∨ code = 1 ∨ code = 2 ∨ code = 3 := by omega
  rcases this with rfl | rfl | rfl | rfl <;>
    simp_all [okA, passes, satCode, Nat.testBit] <;> cases avail e <;> simp

/-- Lane B, on inverted planes, computes the complement of lane A. -/
theorem nokB_canon {n : Nat} (m0 m1 av q1 q2 : BitVec n) :
    canonB (nokB (~~~m0) (~~~m1) (~~~av) (~~~q1) (~~~q2)) = okA m0 m1 av q1 q2 := by
  ext k hk
  simp only [canonB, nokB, okA, BitVec.getElem_not, BitVec.getElem_and, BitVec.getElem_or]
  cases m0[k] <;> cases m1[k] <;> cases av[k] <;> cases q1[k] <;> cases q2[k] <;> rfl

@[simp] theorem dAnd_toDual {n : Nat} (a b : BitVec n) : dAnd (toDual a) (toDual b) = toDual (a &&& b) := by
  simp [dAnd, toDual, BitVec.not_and]

@[simp] theorem dOr_toDual {n : Nat} (a b : BitVec n) : dOr (toDual a) (toDual b) = toDual (a ||| b) := by
  simp [dOr, toDual, BitVec.not_or]

@[simp] theorem dNot_toDual {n : Nat} (a : BitVec n) : dNot (toDual a) = toDual (~~~a) := by simp [dNot, toDual]

/-- Lane C's gates on legal codes give lane A's result, legally coded. -/
theorem okC_toDual {n : Nat} (m0 m1 av q1 q2 : BitVec n) :
    okC (toDual m0) (toDual m1) (toDual av) (toDual q1) (toDual q2) = toDual (okA m0 m1 av q1 q2) := by
  simp [okC, okA]

theorem confB_canon {n : Nat} (row h : BitVec n) : canonB (confB (~~~row) (~~~h)) = confA row h := by
  simp [canonB, confB, confA, BitVec.not_and]

theorem confC_toDual {n : Nat} (row h : BitVec n) : confC (toDual row) (toDual h) = toDual (confA row h) := by
  simp [confC, confA]

@[simp] theorem canonC_toDual {n : Nat} (v : BitVec n) : canonC (toDual v) = v := rfl

end Sys2Proof.Machine
end

