-- ==== Sys2Proof/Laws/Mailbox.lean ====
section
/-! SUPPORT. An admitted mailbox request: what serving it gives, and what the answer leaves in its mailbox
(12 R345 to R352). -/

namespace Sys2Proof.Machine

@[simp] theorem modAt_len {α : Type} (f : α → α) (n : Nat) (xs : List α) : (modAt f n xs).length = xs.length := by
  induction xs generalizing n with
  | nil => simp [modAt]
  | cons y ys ih => cases n <;> simp [modAt, ih]

theorem modAt_getElem? {α : Type} (f : α → α) (n m : Nat) (xs : List α) :
    (modAt f n xs)[m]? = if m = n then xs[m]?.map f else xs[m]? := by
  induction xs generalizing n m with
  | nil => cases n <;> simp [modAt]
  | cons y ys ih =>
    cases n with
    | zero => cases m <;> simp [modAt]
    | succ n => cases m <;> simp [modAt, ih]

theorem modAt_modAt {α : Type} (f g : α → α) (n : Nat) (xs : List α) :
    modAt f n (modAt g n xs) = modAt (fun x => f (g x)) n xs := by
  induction xs generalizing n with
  | nil => cases n <;> simp [modAt]
  | cons y ys ih => cases n <;> simp [modAt, ih]

theorem State.box_updBox (s : State) (mb : Nat) (f : Mbox → Mbox) (h : mb < s.mail.boxes.length) :
    (s.updBox mb f).box mb = f (s.box mb) := by
  simp only [State.box, State.updBox, List.getD_eq_getElem?_getD, modAt_getElem?, if_true, List.getElem?_eq_getElem h, Option.map_some, Option.getD_some]

theorem State.box_updBox_ne (s : State) (mb m : Nat) (f : Mbox → Mbox) (h : m ≠ mb) :
    (s.updBox mb f).box m = s.box m := by
  simp only [State.box, State.updBox, List.getD_eq_getElem?_getD, modAt_getElem?, if_neg h]

/-- A mailbox that is not free is one of the sixteen. -/
theorem State.box_lt (s : State) (mb : Nat) (h : (s.box mb).st = .posted) : mb < s.mail.boxes.length := by
  apply Classical.byContradiction
  intro hn
  rw [State.box, List.getD_eq_getElem?_getD, List.getElem?_eq_none (by omega)] at h
  simp [Mbox.init] at h

/-- The queue of posted requests waits at one that some command takes. -/
theorem State.answerBad_known (n : Nat) (s : State) (mb : Nat) (h : s.nextBox = some mb) (hk : s.knownReq mb = true) :
    s.answerBad n = s := by
  cases n with
  | zero => rfl
  | succ n => simp [State.answerBad, h, hk]

theorem State.checkReq_group (s : State) (mb : Nat) (k : CmdRow) (c : Cmd) (q : Req) (x : Ctx)
    (h : s.checkReq mb k c q = .ok x) : takesGroup mb q.cmd = true := by
  simp only [State.checkReq] at h
  split at h
  · cases h
  · rename_i h1; simp at h1; exact h1.1.1.1.1.1

theorem Admitted.known {s : State} {mb code : Nat} {c : Cmd} {x : Ctx} (h : Admitted s mb code c x) :
    s.knownReq mb = true := by
  obtain ⟨-, -, -, hc, k, hk, hx⟩ := h
  have := State.checkReq_group _ _ _ _ _ _ hx
  simp [State.knownReq, hc, hk] at this ⊢
  exact this

/-- The fabric's grant to a higher class is all that serving changes first: the self-test asks for its next transfer. -/
theorem State.grantFirst_only (s : State) (c : FabricClass) :
    s.grantFirst c = { s with be := { s.be with test := (s.grantFirst c).be.test } } := by
  unfold State.grantFirst; split <;> rfl

@[simp] theorem State.grantFirst_mail (s : State) (c : FabricClass) : (s.grantFirst c).mail = s.mail := by
  unfold State.grantFirst; split <;> rfl

@[simp] theorem State.grantFirst_pending (s : State) (c : FabricClass) : (s.grantFirst c).pending = s.pending := by
  rw [State.grantFirst_only]

@[simp] theorem State.grantFirst_id (s : State) (c : FabricClass) : (s.grantFirst c).id = s.id := by
  rw [State.grantFirst_only]

@[simp] theorem State.grantFirst_lanes (s : State) (c : FabricClass) : (s.grantFirst c).lanes = s.lanes := by
  rw [State.grantFirst_only]

@[simp] theorem State.grantFirst_cyc (s : State) (c : FabricClass) : (s.grantFirst c).cyc = s.cyc := by
  rw [State.grantFirst_only]

@[simp] theorem State.grantFirst_app (s : State) (c : FabricClass) : (s.grantFirst c).app = s.app := by
  rw [State.grantFirst_only]

@[simp] theorem State.grantFirst_trl (s : State) (c : FabricClass) : (s.grantFirst c).trl = s.trl := by
  rw [State.grantFirst_only]

@[simp] theorem State.grantFirst_image (s : State) (c : FabricClass) : (s.grantFirst c).image = s.image := by
  rw [State.grantFirst_only]

@[simp] theorem State.grantFirst_set (s : State) (c : FabricClass) : (s.grantFirst c).set = s.set := by
  rw [State.grantFirst_only]

@[simp] theorem State.grantFirst_cells (s : State) (c : FabricClass) : (s.grantFirst c).cells = s.cells := by
  rw [State.grantFirst_only]

@[simp] theorem State.grantFirst_banks (s : State) (c : FabricClass) : (s.grantFirst c).banks = s.banks := by
  rw [State.grantFirst_only]

@[simp] theorem State.grantFirst_frame (s : State) (c : FabricClass) : (s.grantFirst c).frame = s.frame := by
  rw [State.grantFirst_only]

@[simp] theorem State.grantFirst_conns (s : State) (c : FabricClass) : (s.grantFirst c).conns = s.conns := by
  rw [State.grantFirst_only]

@[simp] theorem State.grantFirst_nets (s : State) (c : FabricClass) : (s.grantFirst c).nets = s.nets := by
  rw [State.grantFirst_only]

@[simp] theorem State.grantFirst_pair (s : State) (c : FabricClass) : (s.grantFirst c).pair = s.pair := by
  rw [State.grantFirst_only]

@[simp] theorem State.grantFirst_flt (s : State) (c : FabricClass) : (s.grantFirst c).flt = s.flt := by
  rw [State.grantFirst_only]

@[simp] theorem State.grantFirst_stage (s : State) (c : FabricClass) : (s.grantFirst c).stage = s.stage := by
  rw [State.grantFirst_only]

@[simp] theorem State.grantFirst_bridge (s : State) (c : FabricClass) : (s.grantFirst c).bridge = s.bridge := by
  rw [State.grantFirst_only]

@[simp] theorem State.grantFirst_tunnels (s : State) (c : FabricClass) : (s.grantFirst c).tunnels = s.tunnels := by
  rw [State.grantFirst_only]

@[simp] theorem State.grantFirst_ports (s : State) (c : FabricClass) : (s.grantFirst c).ports = s.ports := by
  rw [State.grantFirst_only]

@[simp] theorem State.grantFirst_recs (s : State) (c : FabricClass) : (s.grantFirst c).recs = s.recs := by
  rw [State.grantFirst_only]

@[simp] theorem State.grantFirst_time (s : State) (c : FabricClass) : (s.grantFirst c).time = s.time := by
  rw [State.grantFirst_only]

@[simp] theorem State.grantFirst_upd (s : State) (c : FabricClass) : (s.grantFirst c).upd = s.upd := by
  rw [State.grantFirst_only]

@[simp] theorem State.grantFirst_pow (s : State) (c : FabricClass) : (s.grantFirst c).pow = s.pow := by
  rw [State.grantFirst_only]

@[simp] theorem State.grantFirst_netTx (s : State) (c : FabricClass) : (s.grantFirst c).netTx = s.netTx := by
  rw [State.grantFirst_only]

@[simp] theorem State.grantFirst_legacyTx (s : State) (c : FabricClass) : (s.grantFirst c).legacyTx = s.legacyTx := by
  rw [State.grantFirst_only]

@[simp] theorem State.grantFirst_plTx (s : State) (c : FabricClass) : (s.grantFirst c).plTx = s.plTx := by
  rw [State.grantFirst_only]

@[simp] theorem State.grantFirst_splits (s : State) (c : FabricClass) : (s.grantFirst c).splits = s.splits := by
  rw [State.grantFirst_only]

@[simp] theorem State.grantFirst_free (s : State) (c : FabricClass) : (s.grantFirst c).free = s.free := by
  rw [State.grantFirst_only]

/-- With no test in hand nothing waits before a service transfer. -/
theorem State.grantFirst_idle (s : State) (h : s.be.test = none) : s.grantFirst .service = s := by
  have e : s.be.test.map (fun t => { t with asked := s.time.ot }) = s.be.test := by rw [h]; rfl
  unfold State.grantFirst; split
  · show { s with be := { s.be with test := s.be.test.map _ } } = s
    rw [e]
  · rfl

@[simp] theorem State.taken_mail (s : State) (mb : Nat) :
    (s.taken mb).mail = { s.mail with boxes := modAt (fun b => { b with st := .running }) mb s.mail.boxes } := by
  simp [State.taken, State.updBox]

@[simp] theorem State.taken_pending (s : State) (mb : Nat) : (s.taken mb).pending = s.pending := State.grantFirst_pending s .service

@[simp] theorem State.taken_id (s : State) (mb : Nat) : (s.taken mb).id = s.id := State.grantFirst_id s .service

@[simp] theorem State.taken_lanes (s : State) (mb : Nat) : (s.taken mb).lanes = s.lanes := State.grantFirst_lanes s .service

@[simp] theorem State.taken_cyc (s : State) (mb : Nat) : (s.taken mb).cyc = s.cyc := State.grantFirst_cyc s .service

@[simp] theorem State.taken_app (s : State) (mb : Nat) : (s.taken mb).app = s.app := State.grantFirst_app s .service

@[simp] theorem State.taken_trl (s : State) (mb : Nat) : (s.taken mb).trl = s.trl := State.grantFirst_trl s .service

@[simp] theorem State.taken_image (s : State) (mb : Nat) : (s.taken mb).image = s.image := State.grantFirst_image s .service

@[simp] theorem State.taken_set (s : State) (mb : Nat) : (s.taken mb).set = s.set := State.grantFirst_set s .service

@[simp] theorem State.taken_cells (s : State) (mb : Nat) : (s.taken mb).cells = s.cells := State.grantFirst_cells s .service

@[simp] theorem State.taken_banks (s : State) (mb : Nat) : (s.taken mb).banks = s.banks := State.grantFirst_banks s .service

@[simp] theorem State.taken_frame (s : State) (mb : Nat) : (s.taken mb).frame = s.frame := State.grantFirst_frame s .service

@[simp] theorem State.taken_conns (s : State) (mb : Nat) : (s.taken mb).conns = s.conns := State.grantFirst_conns s .service

@[simp] theorem State.taken_nets (s : State) (mb : Nat) : (s.taken mb).nets = s.nets := State.grantFirst_nets s .service

@[simp] theorem State.taken_pair (s : State) (mb : Nat) : (s.taken mb).pair = s.pair := State.grantFirst_pair s .service

@[simp] theorem State.taken_flt (s : State) (mb : Nat) : (s.taken mb).flt = s.flt := State.grantFirst_flt s .service

@[simp] theorem State.taken_stage (s : State) (mb : Nat) : (s.taken mb).stage = s.stage := State.grantFirst_stage s .service

@[simp] theorem State.taken_bridge (s : State) (mb : Nat) : (s.taken mb).bridge = s.bridge := State.grantFirst_bridge s .service

@[simp] theorem State.taken_tunnels (s : State) (mb : Nat) : (s.taken mb).tunnels = s.tunnels := State.grantFirst_tunnels s .service

@[simp] theorem State.taken_ports (s : State) (mb : Nat) : (s.taken mb).ports = s.ports := State.grantFirst_ports s .service

@[simp] theorem State.taken_recs (s : State) (mb : Nat) : (s.taken mb).recs = s.recs := State.grantFirst_recs s .service

@[simp] theorem State.taken_time (s : State) (mb : Nat) : (s.taken mb).time = s.time := State.grantFirst_time s .service

@[simp] theorem State.taken_upd (s : State) (mb : Nat) : (s.taken mb).upd = s.upd := State.grantFirst_upd s .service

@[simp] theorem State.taken_pow (s : State) (mb : Nat) : (s.taken mb).pow = s.pow := State.grantFirst_pow s .service

@[simp] theorem State.taken_netTx (s : State) (mb : Nat) : (s.taken mb).netTx = s.netTx := State.grantFirst_netTx s .service

@[simp] theorem State.taken_legacyTx (s : State) (mb : Nat) : (s.taken mb).legacyTx = s.legacyTx := State.grantFirst_legacyTx s .service

@[simp] theorem State.taken_plTx (s : State) (mb : Nat) : (s.taken mb).plTx = s.plTx := State.grantFirst_plTx s .service

@[simp] theorem State.taken_splits (s : State) (mb : Nat) : (s.taken mb).splits = s.splits := State.grantFirst_splits s .service

@[simp] theorem State.taken_free (s : State) (mb : Nat) : (s.taken mb).free = s.free := State.grantFirst_free s .service

/-- Serving an admitted request: its command's effect on the state with the mailbox RUNNING, then its response. -/
theorem Admitted.serve {s : State} {mb code : Nat} {c : Cmd} {x : Ctx} (h : Admitted s mb code c x) :
    s.serveCmd mb code c =
      ((c.run (s.taken mb) x).2.respond mb (c.run (s.taken mb) x).1.1 (c.run (s.taken mb) x).1.2).answerBad 16 := by
  have hk := h.known
  obtain ⟨h1, h2, h3, hc, k, hr, hx⟩ := h
  simp only [State.serveCmd, h1, State.answerBad_known _ _ _ h2 hk, h2, h3, hc, hr, hx]
  simp [State.taken]

/-- The same, for a command whose effect and answer are known. -/
theorem Admitted.answers {s : State} {mb code st : Nat} {c : Cmd} {x : Ctx} {body : Bytes} {s' : State}
    (h : Admitted s mb code c x) (hr : c.run (s.taken mb) x = ((st, body), s')) :
    s.serveCmd mb code c = (s'.respond mb st body).answerBad 16 := by
  rw [h.serve, hr]

/-- The mailboxes and the queue of posted requests are all that a response writes. -/
theorem State.respond_frame (s : State) (mb st : Nat) (body : Bytes) :
    s.respond mb st body = { s with mail := { s.mail with
      boxes := (s.respond mb st body).mail.boxes, order := (s.respond mb st body).mail.order } } := rfl

theorem State.answerBad_frame (n : Nat) (s : State) :
    s.answerBad n = { s with mail := { s.mail with
      boxes := (s.answerBad n).mail.boxes, order := (s.answerBad n).mail.order } } := by
  induction n generalizing s with
  | zero => rfl
  | succ n ih =>
    simp only [State.answerBad]
    split
    · rfl
    · split
      · rfl
      · rw [ih]; rfl

/-- Answers to other mailboxes leave a mailbox that waits no more. -/
theorem State.answerBad_box (n : Nat) (s : State) (mb : Nat) (h : mb ∉ s.mail.order) :
    (s.answerBad n).box mb = s.box mb := by
  induction n generalizing s with
  | zero => rfl
  | succ n ih =>
    simp only [State.answerBad]
    split
    · rfl
    · rename_i m hm
      split
      · rfl
      · have hne : mb ≠ m := by
          rintro rfl
          exact h (List.mem_of_mem_head? (by simp [State.nextBox] at hm; simp [hm]))
        rw [ih]
        · exact State.box_updBox_ne s m mb _ hne
        · simp [State.respond, State.updMail]; intro h'; exact absurd h' h

theorem State.respond_order (s : State) (mb st : Nat) (body : Bytes) :
    mb ∉ (s.respond mb st body).mail.order := by
  simp [State.respond, State.updMail]

/-- The session of an admitted request other than OPEN and AUTH is open. -/
theorem Admitted.session {s : State} {mb code : Nat} {c : Cmd} {x : Ctx} (h : Admitted s mb code c x)
    (hc : 0x0103 ≤ code) : s.mail.sessions.any (·.ep == (s.box mb).ep) = true := by
  obtain ⟨-, -, -, he, k, hr, hx⟩ := h
  simp only [State.checkReq] at hx
  split at hx
  · cases hx
  · split at hx
    · cases hx
    · cases hq : s.reqSession (reqOf (s.box mb)) (s.box mb).ep with
      | none => rw [hq] at hx; cases hx
      | some p =>
        simp only [State.reqSession, he] at hq
        rw [if_neg (by simp; omega), if_neg (by simp; omega)] at hq
        cases hf : s.mail.sessions.find? fun x => x.id == (reqOf (s.box mb)).session && x.ep == (s.box mb).ep with
        | none => rw [hf] at hq; cases hq
        | some y =>
          have := List.find?_some hf
          simp only [Bool.and_eq_true] at this
          exact List.any_eq_true.2 ⟨y, List.mem_of_find?_eq_some hf, this.2⟩

theorem reqOf_taken (b : Mbox) : reqOf { b with st := .running } = reqOf b := rfl

/-- What the mailbox holds after its answer. -/
theorem State.answered_box (s : State) (mb st : Nat) (body : Bytes) (n : Nat) (hl : mb < s.mail.boxes.length) :
    ((s.respond mb st body).answerBad n).box mb = Mbox.answered (reqOf (s.box mb)) st body (s.box mb) := by
  rw [State.answerBad_box _ _ _ (State.respond_order _ _ _ _)]
  exact State.box_updBox s mb _ hl

/-- A command that only reads. -/
theorem Admitted.reads {s : State} {mb code : Nat} {c : Cmd} {x : Ctx} {i : Instr} {st : Nat} {body : Bytes}
    (h : Admitted s mb code c x) (he : exec i s = .next (s.serveCmd mb code c))
    (hr : c.run (s.taken mb) x = ((st, body), s.taken mb)) : Reads i s mb st body := by
  have hl := State.box_lt s mb h.2.2.1
  have hb : (s.taken mb).box mb = { s.box mb with st := .running } := by
    rw [State.taken, State.box_updBox _ mb _ (by simpa using hl), State.box, State.grantFirst_mail, State.box]
  have hbx := State.answered_box (s.taken mb) mb st body 16 (by simpa using hl)
  rw [hb, reqOf_taken] at hbx
  refine ⟨_, by rw [he, h.answers hr], ?_, fun ho => ?_, fun ho => ?_⟩
  · clear hb hbx hr he h hl
    have hm := State.grantFirst_mail s .service
    unfold State.taken
    generalize s.grantFirst .service = g at hm ⊢
    rw [State.answerBad_frame, ← hm]; rfl
  · rw [hbx]; simp [Mbox.answered, ho]
  · rw [hbx]; simp [Mbox.answered, ho, Mbox.release]

end Sys2Proof.Machine
end

