-- ==== Sys2Proof/Laws/OffOk.lean ====
section
/-! SUPPORT. Every function of the state, and every command, keeps the invariant that no cell is driven in warm-up or in the
latched safe state. -/

set_option linter.unusedSimpArgs false

namespace Sys2Proof.Machine
@[simp] theorem State.offOk_mk (pending id lanes cyc app trl image set cells banks frame conns nets pair flt mail stage bridge tunnels ports recs time be upd pow netTx legacyTx plTx splits free) :
    State.offOk (State.mk pending id lanes cyc app trl image set cells banks frame conns nets pair flt mail stage bridge tunnels ports recs time be upd pow netTx legacyTx plTx splits free) ↔
    (cells.length = 48 ∧ ∀ x ∈ cells, x.warm = true ∨ flt.safelatch = true → x.eff = false) := Iff.rfl
@[simp] theorem State.offOk_eta (s : State) :
    (s.cells.length = 48 ∧ ∀ x ∈ s.cells, x.warm = true ∨ s.flt.safelatch = true → x.eff = false) ↔ s.offOk := Iff.rfl
@[simp] theorem State.offOk_ite (c : Prop) [Decidable c] (s t : State) (hs : s.offOk) (ht : t.offOk) :
    State.offOk (if c then s else t) := by split <;> assumption
theorem State.each_offOk {α : Type} (s : State) (xs : List α) (f : State → α → State) (h : s.offOk)
    (hf : ∀ s x, s.offOk → State.offOk (f s x)) : State.offOk (s.each xs f) := by
  unfold State.each
  induction xs generalizing s with
  | nil => exact h
  | cons x xs ih => exact ih _ (hf _ _ h)
theorem State.when_offOk (s : State) (p : Bool) (f : State → State) (h : s.offOk)
    (hf : ∀ s, s.offOk → State.offOk (f s)) : State.offOk (s.when p f) := by
  unfold State.when; split
  · exact hf _ h
  · exact h
theorem State.fed_offOk (s : State) (f : State → State) (h : s.offOk)
    (hf : ∀ s, s.offOk → State.offOk (f s)) : State.offOk (s.fed f) := by
  unfold State.fed; split
  · exact hf _ h
  · exact h
theorem mem_modAt {α : Type} (f : α → α) (n : Nat) (xs : List α) (x : α) (h : x ∈ modAt f n xs) :
    x ∈ xs ∨ ∃ y ∈ xs, xs[n]? = some y ∧ x = f y := by
  induction xs generalizing n with
  | nil => simp [modAt] at h
  | cons y ys ih =>
    cases n with
    | zero => simp [modAt] at h ⊢; rcases h with h | h <;> simp [h]
    | succ n =>
      simp only [modAt, List.mem_cons] at h
      rcases h with h | h
      · exact .inl (by simp [h])
      · rcases ih _ h with h | ⟨z, hz, hn, e⟩
        · exact .inl (by simp [h])
        · exact .inr ⟨z, by simp [hz], by simpa using hn, e⟩
@[simp] theorem modAt_length {α : Type} (f : α → α) (n : Nat) (xs : List α) : (modAt f n xs).length = xs.length := by
  induction xs generalizing n with
  | nil => simp [modAt]
  | cons y ys ih => cases n <;> simp [modAt, ih]
theorem State.updCell_offOk' (s : State) (c : Nat) (f : CellSt → CellSt) (h : s.offOk)
    (hf : ∀ x, s.cells[c]? = some x → (f x).warm = true ∨ s.flt.safelatch = true → (f x).eff = false) : State.offOk (s.updCell c f) := by
  refine ⟨by simpa [State.updCell] using h.1, fun x hx => ?_⟩
  rcases mem_modAt _ _ _ _ hx with hx | ⟨y, hy, hn, rfl⟩
  · exact h.2 x hx
  · exact hf y hn
theorem State.updCell_offOk (s : State) (c : Nat) (f : CellSt → CellSt) (h : s.offOk)
    (hf : ∀ x, (f x).eff = x.eff ∧ ((f x).warm = true → x.warm = true)) : State.offOk (s.updCell c f) := by
  refine State.updCell_offOk' s c f h fun x hx hw => ?_
  rw [(hf x).1]
  refine h.2 x (List.mem_of_getElem? hx) ?_
  rcases hw with hw | hw
  · exact .inl ((hf x).2 hw)
  · exact .inr hw
@[simp] theorem CellSt.endFrame_eff (x : CellSt) : x.endFrame.eff = x.eff := by unfold CellSt.endFrame; split <;> rfl
@[simp] theorem CellSt.endFrame_warm (x : CellSt) : x.endFrame.warm = x.warm := by unfold CellSt.endFrame; split <;> rfl
@[simp] theorem CellSt.proved_eff (i t : Nat) (x : CellSt) : (x.proved i t).eff = x.eff := rfl
@[simp] theorem CellSt.proved_warm (i t : Nat) (x : CellSt) : (x.proved i t).warm = x.warm := rfl
@[simp] theorem CellSt.boot_eff (p : Bool) (x : CellSt) : (x.boot p).eff = false := by unfold CellSt.boot; split <;> rfl
@[simp] theorem CellSt.beginFrame_eff (x : CellSt) : (CellSt.beginFrame x).eff = x.eff := rfl
@[simp] theorem CellSt.beginFrame_warm (x : CellSt) : (CellSt.beginFrame x).warm = x.warm := rfl
@[simp] theorem CellSt.beginRound_eff (x : CellSt) : (CellSt.beginRound x).eff = x.eff := rfl
@[simp] theorem CellSt.beginRound_warm (x : CellSt) : (CellSt.beginRound x).warm = x.warm := rfl
@[simp] theorem CellSt.roundEnd_eff (h : Bool) (x : CellSt) : (CellSt.roundEnd h x).eff = x.eff := rfl
@[simp] theorem CellSt.roundEnd_warm (h : Bool) (x : CellSt) : (CellSt.roundEnd h x).warm = x.warm := rfl
@[simp] theorem CellSt.setUnder_eff (b : Bool) (x : CellSt) : (CellSt.setUnder b x).eff = x.eff := rfl
@[simp] theorem CellSt.setUnder_warm (b : Bool) (x : CellSt) : (CellSt.setUnder b x).warm = x.warm := rfl
@[simp] theorem CellSt.lit_eff (x : CellSt) : (CellSt.lit x).eff = x.eff := rfl
@[simp] theorem CellSt.lit_warm (x : CellSt) : (CellSt.lit x).warm = x.warm := rfl
@[simp] theorem CellSt.unprot_eff (x : CellSt) : (CellSt.unprot x).eff = x.eff := rfl
@[simp] theorem CellSt.unprot_warm (x : CellSt) : (CellSt.unprot x).warm = x.warm := rfl
@[simp] theorem CellSt.passLight_eff (l : Lane) (x : CellSt) : (CellSt.passLight l x).eff = x.eff := rfl
@[simp] theorem CellSt.passLight_warm (l : Lane) (x : CellSt) : (CellSt.passLight l x).warm = x.warm := rfl
@[simp] theorem CellSt.need_eff (n : Nat × Nat) (x : CellSt) : (CellSt.need n x).eff = x.eff := rfl
@[simp] theorem CellSt.need_warm (n : Nat × Nat) (x : CellSt) : (CellSt.need n x).warm = x.warm := rfl
@[simp] theorem CellSt.complete_eff (l : Lane) (ot : Nat) (x : CellSt) : (CellSt.complete l ot x).eff = x.eff := rfl
@[simp] theorem CellSt.complete_warm (l : Lane) (ot : Nat) (x : CellSt) : (CellSt.complete l ot x).warm = x.warm := rfl
theorem State.offOk_congr (s t : State) (hc : t.cells = s.cells) (hf : t.flt = s.flt) (h : s.offOk) : t.offOk := by
  unfold State.offOk at h ⊢; rw [hc, hf]; exact h
@[simp] theorem State.updLane_offOk (s : State) (l : Lane) (f : LaneSt → LaneSt) (hO : State.offOk s) :
    State.offOk (State.updLane s l f) := by
  exact hO
@[simp] theorem State.updLanes_offOk (s : State) (f : LaneSt → LaneSt) (hO : State.offOk s) :
    State.offOk (State.updLanes s f) := by
  exact hO
@[simp] theorem State.updBank_offOk (s : State) (b : Nat) (f : BankSt → BankSt) (hO : State.offOk s) :
    State.offOk (State.updBank s b f) := by
  exact hO
@[simp] theorem State.updNet_offOk (s : State) (n : Net) (f : NetSt → NetSt) (hO : State.offOk s) :
    State.offOk (State.updNet s n f) := by
  exact hO
@[simp] theorem State.updConn_offOk (s : State) (n : Nat) (f : ConnSt → ConnSt) (hO : State.offOk s) :
    State.offOk (State.updConn s n f) := by
  exact hO
@[simp] theorem State.updRecv_offOk (s : State) (n : Nat) (f : RecvRec → RecvRec) (hO : State.offOk s) :
    State.offOk (State.updRecv s n f) := by
  exact hO
@[simp] theorem State.updElem_offOk (s : State) (n : Nat) (f : Elem → Elem) (hO : State.offOk s) :
    State.offOk (State.updElem s n f) := by
  exact hO
@[simp] theorem State.updRoute_offOk (s : State) (r : Nat) (f : RouteCell → RouteCell) (hO : State.offOk s) :
    State.offOk (State.updRoute s r f) := by
  exact hO
@[simp] theorem State.updBox_offOk (s : State) (mb : Nat) (f : Mbox → Mbox) (hO : State.offOk s) :
    State.offOk (State.updBox s mb f) := by
  exact hO
@[simp] theorem State.updTunnel_offOk (s : State) (t : Nat) (f : Tunnel → Tunnel) (hO : State.offOk s) :
    State.offOk (State.updTunnel s t f) := by
  exact hO
@[simp] theorem State.updPort_offOk (s : State) (p : Nat) (f : LegacyPort → LegacyPort) (hO : State.offOk s) :
    State.offOk (State.updPort s p f) := by
  exact hO
theorem State.putEff_offOk (s : State) (c : Nat) (e : Bool) (h : s.offOk)
    (he : e = true → (s.cell c).warm = false ∧ s.flt.safelatch = false) : State.offOk (s.putEff c e) := by
  unfold State.putEff; split
  · exact h
  · refine State.updCell_offOk' s c _ h fun x hx hw => ?_
    cases e with
    | false => rfl
    | true =>
      have := he rfl
      simp [State.cell, List.getD, hx] at this
      simp [this] at hw
@[simp] theorem State.putEff_off (s : State) (c : Nat) (h : s.offOk) : State.offOk (s.putEff c false) :=
  State.putEff_offOk _ _ _ h (by simp)
@[simp] theorem State.dropEffs_offOk (s : State) (cs : List Nat) (h : s.offOk) : State.offOk (s.dropEffs cs) := by
  unfold State.dropEffs
  induction cs generalizing s with
  | nil => exact h
  | cons c cs ih => exact ih _ (State.putEff_offOk _ _ _ h (by simp))
@[simp] theorem State.passToken_offOk (s : State) (hO : State.offOk s) :
    State.offOk (State.passToken s) := by
  exact hO
@[simp] theorem State.settleToken_offOk (s : State) (hO : State.offOk s) :
    State.offOk (State.settleToken s) := by
  simp (maxDischargeDepth := 60) [State.settleToken, hO]
@[simp] theorem State.spendToken_offOk (s : State) (t : Token) (hO : State.offOk s) :
    State.offOk (State.spendToken s t) := by
  simp (maxDischargeDepth := 60) [State.spendToken, hO]
@[simp] theorem State.addHedge_offOk (s : State) (h : Hedge) (hO : State.offOk s) :
    State.offOk (State.addHedge s h) := by
  simp (maxDischargeDepth := 60) [State.addHedge, hO]
@[simp] theorem State.dropHedges_offOk (s : State) (p : Hedge → Bool) (hO : State.offOk s) :
    State.offOk (State.dropHedges s p) := by
  exact hO
@[simp] theorem State.updHedges_offOk (s : State) (p : Hedge → Bool) (f : Hedge → Hedge) (hO : State.offOk s) :
    State.offOk (State.updHedges s p f) := by
  exact hO
@[simp] theorem State.plSend_offOk (s : State) (m : PlMsg) (hO : State.offOk s) :
    State.offOk (State.plSend s m) := by
  simp (maxDischargeDepth := 60) [State.plSend, hO]
@[simp] theorem State.fresh_offOk (s : State) (hO : State.offOk s) :
    State.offOk (State.fresh s).2 := by
  exact hO
@[simp] theorem freshBytes_offOk (n : Nat) (s : State) (hO : s.offOk) : State.offOk (State.freshBytes n s).2 := by
  induction n generalizing s with
  | zero => exact hO
  | succ n ih => simp [State.freshBytes, ih, hO]
@[simp] theorem State.freshNat_offOk (s : State) (n : Nat) (hO : State.offOk s) :
    State.offOk (State.freshNat s n).2 := by
  exact hO
@[simp] theorem State.freshCode_offOk (s : State) (hO : State.offOk s) :
    State.offOk (State.freshCode s).2 := by
  exact hO
@[simp] theorem State.takeSeq_offOk (s : State) (hO : State.offOk s) :
    State.offOk (State.takeSeq s).2 := by
  exact hO
@[simp] theorem State.updRecs_offOk (s : State) (f : RecSt → RecSt) (hO : State.offOk s) :
    State.offOk (State.updRecs s f) := by
  exact hO
@[simp] theorem State.takeSeqs_offOk (s : State) (n : Nat) (hO : State.offOk s) :
    State.offOk (State.takeSeqs s n).2 := by
  simp (maxDischargeDepth := 60) [State.takeSeqs, hO]
@[simp] theorem State.toRc_offOk (s : State) (prio : Nat) (x : Rec) (hO : State.offOk s) :
    State.offOk (State.toRc s prio x) := by
  simp (maxDischargeDepth := 60) [State.toRc, hO]
@[simp] theorem State.logFault_offOk (s : State) (x : FaultRec) (hO : State.offOk s) :
    State.offOk (State.logFault s x) := by
  exact hO
@[simp] theorem State.logCount_offOk (s : State) (c : Coal) (seq : Nat) (hO : State.offOk s) :
    State.offOk (State.logCount s c seq) := by
  simp (maxDischargeDepth := 60) [State.logCount, hO]
@[simp] theorem State.alarmSeq_offOk (s : State) (kind : Nat) (source : Nat) (seq : Nat) (hO : State.offOk s) :
    State.offOk (State.alarmSeq s kind source seq) := by
  simp (maxDischargeDepth := 60) [State.alarmSeq, hO]
@[simp] theorem State.closeCoal_offOk (s : State) (c : Coal) (hO : State.offOk s) :
    State.offOk (State.closeCoal s c) := by
  simp (maxDischargeDepth := 60) [State.closeCoal, hO]
@[simp] theorem State.openCoal_offOk (s : State) (kind : Nat) (source : Nat) (prio : Nat) (ot : Nat) (x : Rec) (body : Bytes) (hO : State.offOk s) :
    State.offOk (State.openCoal s kind source prio ot x body) := by
  simp (maxDischargeDepth := 60) [State.openCoal, hO]
@[simp] theorem State.recordAt_offOk (s : State) (kind : Nat) (source : Nat) (seq : Nat) (ot : Nat) (flags : Nat) (cls : Nat) (body : Bytes) (hO : State.offOk s) :
    State.offOk (State.recordAt s kind source seq ot flags cls body) := by
  unfold State.recordAt; split <;> simp (maxDischargeDepth := 60) [hO]
@[simp] theorem State.record_offOk (s : State) (kind : Nat) (source : Nat) (body : Bytes) (hO : State.offOk s) :
    State.offOk (State.record s kind source body).2 := by
  simp (maxDischargeDepth := 60) [State.record, hO]
@[simp] theorem State.refill_offOk (s : State) (hO : State.offOk s) :
    State.offOk (State.refill s) := by
  simp (maxDischargeDepth := 60) [State.refill, hO]
@[simp] theorem State.archiveEnd_offOk (s : State) (hO : State.offOk s) :
    State.offOk (State.archiveEnd s) := by
  simp (maxDischargeDepth := 60) [State.archiveEnd, hO]
@[simp] theorem State.drain_offOk (s : State) (n : Nat) (hO : State.offOk s) :
    State.offOk (State.drain s n) := by
  simp (maxDischargeDepth := 60) [State.drain, hO]
@[simp] theorem State.archiveTrigger_offOk (s : State) (cause : Nat) (hO : State.offOk s) :
    State.offOk (State.archiveTrigger s cause) := by
  simp (maxDischargeDepth := 60) [State.archiveTrigger, hO]
@[simp] theorem State.changeAt_offOk (s : State) (seq : Nat) (kind : Nat) (cred : Nat) (session : Nat) (ep : Nat) (cmd : Nat) (cbody : Bytes) (hO : State.offOk s) :
    State.offOk (State.changeAt s seq kind cred session ep cmd cbody) := by
  simp (maxDischargeDepth := 60) [State.changeAt, hO]
@[simp] theorem State.change_offOk (s : State) (kind : Nat) (cred : Nat) (session : Nat) (ep : Nat) (cmd : Nat) (cbody : Bytes) (hO : State.offOk s) :
    State.offOk (State.change s kind cred session ep cmd cbody) := by
  simp (maxDischargeDepth := 60) [State.change, hO]
@[simp] theorem State.ownChange_offOk (s : State) (kind : Nat) (cbody : Bytes) (hO : State.offOk s) :
    State.offOk (State.ownChange s kind cbody) := by
  simp (maxDischargeDepth := 60) [State.ownChange, hO]
@[simp] theorem State.bootRecord_offOk (s : State) (cause : Nat) (jump : Nat) (hO : State.offOk s) :
    State.offOk (State.bootRecord s cause jump) := by
  simp (maxDischargeDepth := 60) [State.bootRecord, hO]
@[simp] theorem State.lastResort_offOk (s : State) (region : Nat) (f : Fsid) (seq : Nat) (hO : State.offOk s) :
    State.offOk (State.lastResort s region f seq) := by
  exact hO
@[simp] theorem State.ringPut_offOk (s : State) (n : Notif) (hO : State.offOk s) :
    State.offOk (State.ringPut s n) := by
  exact hO
@[simp] theorem State.flushWaiting_offOk (s : State) (hO : State.offOk s) :
    State.offOk (State.flushWaiting s) := by
  simp (maxDischargeDepth := 60) +contextual [State.flushWaiting, hO, State.each_offOk, State.updCell_offOk]
@[simp] theorem State.notify_offOk (s : State) (n : Notif) (hO : State.offOk s) :
    State.offOk (State.notify s n) := by
  simp (maxDischargeDepth := 60) [State.notify, hO]
@[simp] theorem State.closeAlarm_offOk (s : State) (w : AlarmWin) (hO : State.offOk s) :
    State.offOk (State.closeAlarm s w) := by
  simp (maxDischargeDepth := 60) [State.closeAlarm, hO]
@[simp] theorem State.openAlarm_offOk (s : State) (f : Fsid) (seq : Nat) (body : Bytes) (hO : State.offOk s) :
    State.offOk (State.openAlarm s f seq body) := by
  simp (maxDischargeDepth := 60) [State.openAlarm, hO]
@[simp] theorem State.alarm_offOk (s : State) (f : Fsid) (raised : Nat) (applied : Nat) (parent : Nat) (seq : Nat) (full : Bool) (hO : State.offOk s) :
    State.offOk (State.alarm s f raised applied parent seq full) := by
  unfold State.alarm; split <;> simp (maxDischargeDepth := 60) [hO]
@[simp] theorem State.writeCompl_offOk (s : State) (c : Compl) (hO : State.offOk s) :
    State.offOk (State.writeCompl s c) := by
  simp (maxDischargeDepth := 60) [State.writeCompl, hO]
@[simp] theorem State.complete_offOk (s : State) (r : CmdRef) (status : Nat) (result : Bytes) (hO : State.offOk s) :
    State.offOk (State.complete s r status result) := by
  simp (maxDischargeDepth := 60) [State.complete, hO]
@[simp] theorem State.completeLater_offOk (s : State) (c : Compl) (hO : State.offOk s) :
    State.offOk (State.completeLater s c) := by
  exact hO
@[simp] theorem State.flushCompl_offOk (s : State) (hO : State.offOk s) :
    State.offOk (State.flushCompl s) := by
  simp (maxDischargeDepth := 60) +contextual [State.flushCompl, hO, State.each_offOk, State.updCell_offOk]
@[simp] theorem State.recordState_offOk (s : State) (subject : Nat) (index : Nat) (old : Nat) (new : Nat) (hO : State.offOk s) :
    State.offOk (State.recordState s subject index old new).2 := by
  simp (maxDischargeDepth := 60) [State.recordState, hO]
@[simp] theorem State.laneEvent_offOk (s : State) (l : Lane) (old : Nat) (new : Nat) (latch : Bool) (f : Option Fsid) (hO : State.offOk s) :
    State.offOk (State.laneEvent s l old new latch f) := by
  simp (maxDischargeDepth := 60) [State.laneEvent, hO]
@[simp] theorem State.pairNotice_offOk (s : State) (old : PairState) (hO : State.offOk s) :
    State.offOk (State.pairNotice s old) := by
  simp (maxDischargeDepth := 60) [State.pairNotice, hO]
@[simp] theorem State.setPair_offOk (s : State) (p : PairState) (hO : State.offOk s) :
    State.offOk (State.setPair s p) := by
  simp (maxDischargeDepth := 60) [State.setPair, hO]
@[simp] theorem State.setMod_offOk (s : State) (m : ModState) (hO : State.offOk s) :
    State.offOk (State.setMod s m) := by
  simp (maxDischargeDepth := 60) [State.setMod, hO]
@[simp] theorem State.progress_offOk (s : State) (r : Option CmdRef) (cmd : Nat) (step : Nat) (steps : Nat) (hO : State.offOk s) :
    State.offOk (State.progress s r cmd step steps) := by
  simp (maxDischargeDepth := 60) [State.progress, hO]
@[simp] theorem State.postErr_offOk (s : State) (source : Nat) (window : Nat) (addr : Nat) (fstat : Nat) (ep : Nat) (hO : State.offOk s) :
    State.offOk (State.postErr s source window addr fstat ep) := by
  simp (maxDischargeDepth := 60) [State.postErr, hO]
@[simp] theorem State.refChange_offOk (s : State) (r : CmdRef) (kind : Nat) (body : Bytes) (hO : State.offOk s) :
    State.offOk (State.refChange s r kind body) := by
  simp (maxDischargeDepth := 60) [State.refChange, hO]
@[simp] theorem State.updUpd_offOk (s : State) (f : UpdSt → UpdSt) (hO : State.offOk s) :
    State.offOk (State.updUpd s f) := by
  exact hO
@[simp] theorem State.setSlot_offOk (s : State) (kind : Nat) (b : Bool) (x : Slot) (hO : State.offOk s) :
    State.offOk (State.setSlot s kind b x) := by
  unfold State.setSlot; split <;> simp (maxDischargeDepth := 60) [hO]
@[simp] theorem State.updAct_offOk (s : State) (f : ActSt → ActSt) (hO : State.offOk s) :
    State.offOk (State.updAct s f) := by
  exact hO
@[simp] theorem State.abortUpd_offOk (s : State) (cause : Nat) (hO : State.offOk s) :
    State.offOk (State.abortUpd s cause) := by
  unfold State.abortUpd; dsimp only; (repeat' split) <;> simp (maxDischargeDepth := 60) +contextual [hO, State.each_offOk, State.when_offOk, State.updCell_offOk]
@[simp] theorem State.emptyFrame_offOk (s : State) (hO : State.offOk s) :
    State.offOk (State.emptyFrame s) := by
  exact hO
@[simp] theorem State.closeCursor_offOk (s : State) (hO : State.offOk s) :
    State.offOk (State.closeCursor s) := by
  exact hO
@[simp] theorem State.endSession_offOk (s : State) (id : Nat) (hO : State.offOk s) :
    State.offOk (State.endSession s id) := by
  unfold State.endSession; split <;> simp (maxDischargeDepth := 60) [hO]
@[simp] theorem State.dropProv_offOk (s : State) (hO : State.offOk s) :
    State.offOk (State.dropProv s) := by
  unfold State.dropProv; split <;> simp (maxDischargeDepth := 60) [hO]
@[simp] theorem State.serviceDown_offOk (s : State) (rc : Bool) (hO : State.offOk s) :
    State.offOk (State.serviceDown s rc) := by
  simp (maxDischargeDepth := 60) +contextual [State.serviceDown, hO, State.each_offOk, State.updCell_offOk]
@[simp] theorem State.serviceUp_offOk (s : State) (hO : State.offOk s) :
    State.offOk (State.serviceUp s) := by
  simp (maxDischargeDepth := 60) +contextual [State.serviceUp, hO, State.each_offOk, State.updCell_offOk]
@[simp] theorem State.updBridge_offOk (s : State) (f : BridgeSt → BridgeSt) (hO : State.offOk s) :
    State.offOk (State.updBridge s f) := by
  exact hO
@[simp] theorem State.postedFailed_offOk (s : State) (x : Xfer) (fstat : Nat) (hO : State.offOk s) :
    State.offOk (State.postedFailed s x fstat) := by
  simp (maxDischargeDepth := 60) [State.postedFailed, hO]
@[simp] theorem State.endXfer_offOk (s : State) (x : Xfer) (fstat : Nat) (data : Bytes) (hO : State.offOk s) :
    State.offOk (State.endXfer s x fstat data) := by
  unfold State.endXfer; split <;> simp (maxDischargeDepth := 60) [hO]
@[simp] theorem State.resetSb_offOk (s : State) (hO : State.offOk s) :
    State.offOk (State.resetSb s) := by
  simp (maxDischargeDepth := 60) +contextual [State.resetSb, hO, State.each_offOk, State.updCell_offOk]
@[simp] theorem State.useSet_offOk (s : State) (x : Option SlotSet) (hO : State.offOk s) :
    State.offOk (State.useSet s x) := by
  exact hO
@[simp] theorem State.switchFw_offOk (s : State) (hO : State.offOk s) :
    State.offOk (State.switchFw s) := by
  unfold State.switchFw; dsimp only; (repeat' split) <;> simp_all
@[simp] theorem State.revertFw_offOk (s : State) (hO : State.offOk s) :
    State.offOk (State.revertFw s) := by
  unfold State.revertFw; dsimp only; (repeat' split) <;> simp_all
@[simp] theorem State.endFallback_offOk (s : State) (hO : State.offOk s) :
    State.offOk (State.endFallback s) := by
  unfold State.endFallback; (repeat' split) <;> simp (maxDischargeDepth := 60) [hO]
@[simp] theorem State.fallbackRec_offOk (s : State) (a : ActSt) (item : Nat) (hO : State.offOk s) :
    State.offOk (State.fallbackRec s a item) := by
  simp (maxDischargeDepth := 60) [State.fallbackRec, hO]
@[simp] theorem State.kernelBack_offOk (s : State) (a : ActSt) (hO : State.offOk s) :
    State.offOk (State.kernelBack s a) := by
  simp (maxDischargeDepth := 60) +contextual [State.kernelBack, hO, State.each_offOk, State.updCell_offOk]
@[simp] theorem State.kernelMapBack_offOk (s : State) (a : ActSt) (hO : State.offOk s) :
    State.offOk (State.kernelMapBack s a) := by
  exact hO
@[simp] theorem State.failAct_offOk (s : State) (item : Nat) (hO : State.offOk s) :
    State.offOk (State.failAct s item) := by
  unfold State.failAct; (repeat' split) <;> simp (maxDischargeDepth := 60) [hO]
@[simp] theorem State.actLane_offOk (s : State) (l : Lane) (hO : State.offOk s) :
    State.offOk (State.actLane s l) := by
  unfold State.actLane; split <;> simp (maxDischargeDepth := 60) [hO]
@[simp] theorem State.actSafe_offOk (s : State) (hO : State.offOk s) :
    State.offOk (State.actSafe s) := by
  unfold State.actSafe; split <;> simp (maxDischargeDepth := 60) [hO]
@[simp] theorem State.actService_offOk (s : State) (hO : State.offOk s) :
    State.offOk (State.actService s) := by
  unfold State.actService; split <;> simp (maxDischargeDepth := 60) [hO]
@[simp] theorem State.recordEvent_offOk (s : State) (f : Fsid) (raised : Nat) (applied : Nat) (conseq : Bool) (escal : Bool) (parent : Option Nat) (hO : State.offOk s) :
    State.offOk (State.recordEvent s f raised applied conseq escal parent).2 := by
  simp (maxDischargeDepth := 60) [State.recordEvent, hO]
@[simp] theorem State.noteFault_offOk (s : State) (seq : Nat) (x : List Nat) (hO : State.offOk s) :
    State.offOk (State.noteFault s seq x) := by
  exact hO
@[simp] theorem State.startGrace_offOk (s : State) (f : Fsid) (seq : Nat) (cls : Nat) (out : Option Lane) (hO : State.offOk s) :
    State.offOk (State.startGrace s f seq cls out) := by
  simp (maxDischargeDepth := 60) [State.startGrace, hO]
@[simp] theorem State.abandonWith_offOk (s : State) (status : Nat) (cause : Nat) (result : Bytes) (hO : State.offOk s) :
    State.offOk (State.abandonWith s status cause result) := by
  unfold State.abandonWith; split <;> simp (maxDischargeDepth := 60) [hO]
@[simp] theorem State.abandonTest_offOk (s : State) (status : Nat) (cause : Nat) (hO : State.offOk s) :
    State.offOk (State.abandonTest s status cause) := by
  simp (maxDischargeDepth := 60) [State.abandonTest, hO]
theorem modAt_get {α : Type} (f : α → α) (n i : Nat) (xs : List α) :
    (modAt f n xs)[i]? = if i = n then (xs[i]?).map f else xs[i]? := by
  induction xs generalizing n i with
  | nil => simp [modAt]
  | cons y ys ih => cases n <;> cases i <;> simp [modAt, ih]
theorem State.putEff_get (s : State) (c i : Nat) (x : CellSt) (h : (s.putEff c false).cells[i]? = some x) :
    x.eff = false ∨ (i ≠ c ∧ s.cells[i]? = some x) := by
  unfold State.putEff at h; split at h
  · rename_i he
    by_cases hi : i = c
    · subst hi; simp [State.cell, List.getD, h] at he; exact .inl he
    · exact .inr ⟨hi, h⟩
  · simp only [State.updCell, modAt_get] at h
    split at h
    · cases hx : s.cells[i]? with
      | none => simp [hx] at h
      | some y => simp [hx] at h; subst h; exact .inl rfl
    · exact .inr ⟨by assumption, h⟩
theorem State.dropEffs_get (s : State) (cs : List Nat) (i : Nat) (x : CellSt)
    (h : (s.dropEffs cs).cells[i]? = some x) : x.eff = false ∨ (i ∉ cs ∧ s.cells[i]? = some x) := by
  unfold State.dropEffs at h
  induction cs generalizing s with
  | nil => exact .inr ⟨by simp, h⟩
  | cons c cs ih =>
    rcases ih _ h with h | ⟨hn, h⟩
    · exact .inl h
    · rcases State.putEff_get _ _ _ _ h with h | ⟨hc, h⟩
      · exact .inl h
      · exact .inr ⟨by simp [hn, hc], h⟩
theorem State.dropAll_off (s : State) (hO : s.offOk) :
    ∀ x ∈ (s.dropEffs (List.range Config.nCells)).cells, x.eff = false := by
  intro x hx
  obtain ⟨i, hi⟩ := List.getElem?_of_mem hx
  rcases State.dropEffs_get _ _ _ _ hi with h | ⟨hn, h⟩
  · exact h
  · have := List.getElem?_eq_some_iff.1 h
    obtain ⟨hl, -⟩ := this
    rw [hO.1] at hl
    simp [Config.nCells] at hn; omega
@[simp] theorem State.safeActions_offOk (s : State) (hO : s.offOk) : State.offOk s.safeActions := by
  have hl : State.offOk (s.updLanes fun l => { l with gate := false }) := hO
  have h1 := State.dropAll_off _ hl
  have h2 := (State.dropEffs_offOk _ (List.range Config.nCells) hl).1
  unfold State.safeActions
  generalize (s.updLanes fun l => { l with gate := false }).dropEffs (List.range Config.nCells) = s1 at h1 h2
  dsimp only
  apply State.actSafe_offOk
  apply State.abandonTest_offOk
  apply State.offOk_ite
  · apply State.setPair_offOk
    exact ⟨h2, fun x hx _ => h1 x hx⟩
  · exact ⟨h2, fun x hx _ => h1 x hx⟩
@[simp] theorem State.enterTerminal_offOk (s : State) (hO : State.offOk s) :
    State.offOk (State.enterTerminal s) := by
  simp (maxDischargeDepth := 60) [State.enterTerminal, hO]
@[simp] theorem State.safeLimit_offOk (s : State) (hO : State.offOk s) :
    State.offOk (State.safeLimit s) := by
  simp (maxDischargeDepth := 60) [State.safeLimit, hO]
@[simp] theorem State.enterSafe_offOk (s : State) (seq : Nat) (hO : State.offOk s) :
    State.offOk (State.enterSafe s seq) := by
  simp (maxDischargeDepth := 60) [State.enterSafe, hO]
@[simp] theorem State.latchMark_offOk (s : State) (l : Lane) (hO : State.offOk s) :
    State.offOk (State.latchMark s l) := by
  simp (maxDischargeDepth := 60) [State.latchMark, hO]
@[simp] theorem State.latchOut_offOk (s : State) (l : Lane) (hO : State.offOk s) :
    State.offOk (State.latchOut s l) := by
  simp (maxDischargeDepth := 60) [State.latchOut, hO]
@[simp] theorem State.withdraw_offOk (s : State) (l : Lane) (f : Fsid) (seq : Nat) (hold : LHold) (counted : Bool) (hO : State.offOk s) :
    State.offOk (State.withdraw s l f seq hold counted) := by
  simp (maxDischargeDepth := 60) [State.withdraw, hO]
@[simp] theorem State.afterWithdraw_offOk (s : State) (l : Lane) (f : Fsid) (hO : State.offOk s) :
    State.offOk (State.afterWithdraw s l f) := by
  exact hO
@[simp] theorem State.countEvent_offOk (s : State) (f : Fsid) (dflt : Nat) (hO : State.offOk s) :
    State.offOk (State.countEvent s f dflt).2.2 := by
  unfold State.countEvent; (repeat' split) <;> simp (maxDischargeDepth := 60) [hO]
@[simp] theorem State.serviceRestart_offOk (s : State) (rc : Bool) (hO : State.offOk s) :
    State.offOk (State.serviceRestart s rc) := by
  simp (maxDischargeDepth := 60) [State.serviceRestart, hO]
@[simp] theorem State.openCut_offOk (s : State) (b : Nat) (hO : State.offOk s) :
    State.offOk (State.openCut s b) := by
  simp (maxDischargeDepth := 60) [State.openCut, hO]
@[simp] theorem State.cutOf_offOk (s : State) (blk : Nat) (hO : State.offOk s) :
    State.offOk (State.cutOf s blk) := by
  simp (maxDischargeDepth := 60) [State.cutOf, hO]
@[simp] theorem State.hedgeUnsettled_offOk (s : State) (blk : Nat) (f : Fsid) (seq : Nat) (hO : State.offOk s) :
    State.offOk (State.hedgeUnsettled s blk f seq) := by
  simp (maxDischargeDepth := 60) [State.hedgeUnsettled, hO]
@[simp] theorem State.notSettled_offOk (s : State) (blk : Nat) (parent : Option Nat) (hO : State.offOk s) :
    State.offOk (State.notSettled s blk parent) := by
  unfold State.notSettled; dsimp only; (repeat' split) <;> simp (maxDischargeDepth := 60) [hO]
@[simp] theorem State.clearBlock_offOk (s : State) (blk : Nat) (hO : State.offOk s) :
    State.offOk (State.clearBlock s blk) := by
  simp (maxDischargeDepth := 60) [State.clearBlock, hO]
@[simp] theorem State.postedMasked_offOk (s : State) (k seq : Nat) (hO : State.offOk s) :
    State.offOk (State.postedMasked s k seq) := by
  simp (maxDischargeDepth := 60) +contextual [State.postedMasked, hO, State.each_offOk]
@[simp] theorem State.resetBlock_offOk (s : State) (blk : Nat) (f : Fsid) (seq : Nat) (hO : State.offOk s) :
    State.offOk (State.resetBlock s blk f seq) := by
  unfold State.resetBlock; split <;> simp (maxDischargeDepth := 60) [hO]
@[simp] theorem State.hedgeCell_offOk (s : State) (c : Nat) (f : Fsid) (seq : Nat) (hO : State.offOk s) :
    State.offOk (State.hedgeCell s c f seq) := by
  simp (maxDischargeDepth := 60) [State.hedgeCell, hO]
@[simp] theorem State.containCm_offOk (s : State) (f : Fsid) (seq : Nat) (hO : State.offOk s) :
    State.offOk (State.containCm s f seq) := by
  simp (maxDischargeDepth := 60) [State.containCm, hO]
@[simp] theorem State.hedgeEngine_offOk (s : State) (l : Lane) (f : Fsid) (seq : Nat) (hO : State.offOk s) :
    State.offOk (State.hedgeEngine s l f seq) := by
  simp (maxDischargeDepth := 60) [State.hedgeEngine, hO]
@[simp] theorem State.failResync_offOk (s : State) (l : Lane) (parent : Option Nat) (hO : State.offOk s) :
    State.offOk (State.failResync s l parent) := by
  unfold State.failResync; dsimp only; (repeat' split) <;> simp (maxDischargeDepth := 60) +contextual [hO, State.each_offOk, State.when_offOk, State.updCell_offOk]
@[simp] theorem State.reactLane_offOk (s : State) (l : Lane) (f : Fsid) (cls : Nat) (seq : Nat) (hO : State.offOk s) :
    State.offOk (State.reactLane s l f cls seq) := by
  unfold State.reactLane; split <;> simp (maxDischargeDepth := 60) [hO]
@[simp] theorem State.react_offOk (s : State) (f : Fsid) (cls : Nat) (seq : Nat) (named : Option Lane) (hO : State.offOk s) :
    State.offOk (State.react s f cls seq named) := by
  unfold State.react; (repeat' split) <;> simp (maxDischargeDepth := 60) [hO]
@[simp] theorem State.collectFull_offOk (s : State) (f : Fsid) (dflt : Nat) (parent : Option Nat) (named : Option Lane) (via : Option Net) (hO : State.offOk s) :
    State.offOk (State.collectFull s f dflt parent named via).2 := by
  unfold State.collectFull; dsimp only; (repeat' split) <;> simp (maxDischargeDepth := 60) +contextual [hO, State.each_offOk, State.when_offOk, State.updCell_offOk]
@[simp] theorem State.collect_offOk (s : State) (f : Fsid) (hO : State.offOk s) :
    State.offOk (State.collect s f) := by
  simp (maxDischargeDepth := 60) [State.collect, hO]
@[simp] theorem State.collectNamed_offOk (s : State) (f : Fsid) (x : List Nat) (hO : State.offOk s) :
    State.offOk (State.collectNamed s f x) := by
  simp (maxDischargeDepth := 60) [State.collectNamed, hO]
@[simp] theorem State.collectOpen_offOk (s : State) (level : Nat) (region : Nat) (block : Nat) (cell : Nat) (k : Nat) (cls : Nat) (hO : State.offOk s) :
    State.offOk (State.collectOpen s level region block cell k cls) := by
  simp (maxDischargeDepth := 60) [State.collectOpen, hO]
@[simp] theorem State.stopModule_offOk (s : State) (f : Fsid) (hO : State.offOk s) :
    State.offOk (State.stopModule s f) := by
  simp (maxDischargeDepth := 60) [State.stopModule, hO]
@[simp] theorem State.updCh_offOk (s : State) (c : Nat) (l : Lane) (f : ChSt → ChSt) (hO : State.offOk s) :
    State.offOk (State.updCh s c l f) := by
  simp (maxDischargeDepth := 60) +contextual [State.updCh, hO, State.each_offOk, State.updCell_offOk]
@[simp] theorem State.pairTick_offOk (s : State) (c : Nat) (l : Lane) (hO : State.offOk s) :
    State.offOk (State.pairTick s c l) := by
  simp (maxDischargeDepth := 60) [State.pairTick, hO]
@[simp] theorem State.pairTicks_offOk (s : State) (c : Nat) (hO : State.offOk s) :
    State.offOk (State.pairTicks s c) := by
  simp (maxDischargeDepth := 60) [State.pairTicks, hO]
@[simp] theorem State.enterWarm_offOk (s : State) (c : Nat) (hO : State.offOk s) :
    State.offOk (State.enterWarm s c) := by
  unfold State.enterWarm; dsimp only
  exact State.pairTicks_offOk _ _ (State.updCell_offOk' _ _ _ hO fun _ _ _ => rfl)
@[simp] theorem State.warmAll_offOk (s : State) (hO : State.offOk s) :
    State.offOk (State.warmAll s) := by
  exact State.each_offOk _ _ _ hO fun s c h => State.enterWarm_offOk s c h
@[simp] theorem State.latchCell_offOk (s : State) (c : Nat) (hO : State.offOk s) :
    State.offOk (State.latchCell s c) := by
  simp (maxDischargeDepth := 60) +contextual [State.latchCell, hO, State.each_offOk, State.updCell_offOk]
@[simp] theorem State.latchAll_offOk (s : State) (hO : State.offOk s) :
    State.offOk (State.latchAll s) := by
  simp (maxDischargeDepth := 60) +contextual [State.latchAll, hO, State.each_offOk, State.updCell_offOk]
@[simp] theorem State.setLatches_offOk (s : State) (hO : State.offOk s) :
    State.offOk (State.setLatches s) := by
  simp (maxDischargeDepth := 60) +contextual [State.setLatches, hO, State.each_offOk, State.updCell_offOk]
@[simp] theorem State.countDis_offOk (s : State) (c : Nat) (l : Lane) (hO : State.offOk s) :
    State.offOk (State.countDis s c l) := by
  simp (maxDischargeDepth := 60) [State.countDis, hO]
@[simp] theorem State.updRels_offOk (s : State) (f : RelSt → RelSt) (hO : State.offOk s) :
    State.offOk (State.updRels s f) := by
  exact hO
@[simp] theorem State.raiseDis_offOk (s : State) (c : Nat) (hO : State.offOk s) :
    State.offOk (State.raiseDis s c) := by
  simp (maxDischargeDepth := 60) [State.raiseDis, hO]
@[simp] theorem State.disagreements_offOk (s : State) (hO : State.offOk s) :
    State.offOk (State.disagreements s) := by
  simp (maxDischargeDepth := 60) +contextual [State.disagreements, hO, State.each_offOk, State.updCell_offOk]
@[simp] theorem State.pulseFault_offOk (s : State) (c : Nat) (det : Nat) (ls : List Lane) (hO : State.offOk s) :
    State.offOk (State.pulseFault s c det ls) := by
  simp (maxDischargeDepth := 60) +contextual [State.pulseFault, hO, State.each_offOk, State.updCell_offOk]
@[simp] theorem State.latchFlag_offOk (s : State) (c : Nat) (det : Nat) (hO : State.offOk s) :
    State.offOk (State.latchFlag s c det) := by
  simp (maxDischargeDepth := 60) +contextual [State.latchFlag, hO, State.each_offOk, State.updCell_offOk]
@[simp] theorem State.latchFlags_offOk (s : State) (hO : State.offOk s) :
    State.offOk (State.latchFlags s) := by
  simp (maxDischargeDepth := 60) +contextual [State.latchFlags, hO, State.each_offOk, State.updCell_offOk]
@[simp] theorem State.beginRels_offOk (s : State) (hO : State.offOk s) :
    State.offOk (State.beginRels s) := by
  simp (maxDischargeDepth := 60) +contextual [State.beginRels, hO, State.each_offOk, State.updCell_offOk]
@[simp] theorem State.frameStart_offOk (s : State) (hO : State.offOk s) :
    State.offOk (State.frameStart s) := by
  simp (maxDischargeDepth := 60) [State.frameStart, hO]
@[simp] theorem State.frameEnd_offOk (s : State) (hO : State.offOk s) :
    State.offOk (State.frameEnd s) := by
  simp (maxDischargeDepth := 60) +contextual [State.frameEnd, hO, State.each_offOk, State.updCell_offOk]
@[simp] theorem State.pairsTick_offOk (s : State) (hO : State.offOk s) :
    State.offOk (State.pairsTick s) := by
  simp (maxDischargeDepth := 60) +contextual [State.pairsTick, hO, State.each_offOk, State.updCell_offOk]
theorem execTestPulseStart_offOk (cell : Nat) (on : Trio CellMask) (s : State) (hO : State.offOk s) :
    ∀ t, (execTestPulseStart cell on s) = .next t → State.offOk t := by
  rintro _ ⟨⟩; simp (maxDischargeDepth := 60) +contextual [hO, State.each_offOk, State.fed_offOk, State.updCell_offOk]
theorem execTestPulseEnd_offOk (cell : Nat) (dropped : Trio Bool) (s : State) (hO : State.offOk s) :
    ∀ t, (execTestPulseEnd cell dropped s) = .next t → State.offOk t := by
  rintro _ ⟨⟩; simp (maxDischargeDepth := 60) [hO]
theorem execPulseWindowEnd_offOk (slot : Nat) (dropped : Trio CellMask) (recovered : Trio CellMask) (nextOn : Trio CellMask) (sxFell : Bool) (sxBack : Bool) (s : State) (hO : State.offOk s) :
    ∀ t, (execPulseWindowEnd slot dropped recovered nextOn sxFell sxBack s) = .next t → State.offOk t := by
  rintro _ ⟨⟩; simp (maxDischargeDepth := 60) +contextual [hO, State.each_offOk, State.fed_offOk, State.updCell_offOk]
theorem execSxCurrentLimit_offOk (cell : Nat) (s : State) (hO : State.offOk s) :
    ∀ t, (execSxCurrentLimit cell s) = .next t → State.offOk t := by
  rintro _ ⟨⟩; simp (maxDischargeDepth := 60) [hO]
theorem execInputFilterChange_offOk (lane : Lane) (cell : Nat) (samples : List Bool) (s : State) (hO : State.offOk s) :
    ∀ t, (execInputFilterChange lane cell samples s) = .next t → State.offOk t := by
  rintro _ ⟨⟩; (repeat' split) <;> simp (maxDischargeDepth := 60) [hO]
theorem execChannelDisagreement_offOk (lane : Lane) (cell : Nat) (s : State) (hO : State.offOk s) :
    ∀ t, (execChannelDisagreement lane cell s) = .next t → State.offOk t := by
  rintro _ ⟨⟩; simp (maxDischargeDepth := 60) [hO]
theorem execDiscrepancyFault_offOk (lane : Lane) (cell : Nat) (s : State) (hO : State.offOk s) :
    ∀ t, (execDiscrepancyFault lane cell s) = .next t → State.offOk t := by
  rintro _ ⟨⟩; dsimp only; (repeat' split) <;> simp_all
theorem execBankSupplyTrip_offOk (bank : Nat) (high : Bool) (s : State) (hO : State.offOk s) :
    ∀ t, (execBankSupplyTrip bank high s) = .next t → State.offOk t := by
  rintro _ ⟨⟩; simp (maxDischargeDepth := 60) +contextual [hO, State.each_offOk, State.fed_offOk, State.updCell_offOk]
theorem execBankSupplyRecover_offOk (bank : Nat) (s : State) (hO : State.offOk s) :
    ∀ t, (execBankSupplyRecover bank s) = .next t → State.offOk t := by
  rintro _ ⟨⟩; simp (maxDischargeDepth := 60) [hO]
@[simp] theorem State.liftFsv_offOk (s : State) (hO : State.offOk s) :
    State.offOk (State.liftFsv s) := by
  simp (maxDischargeDepth := 60) +contextual [State.liftFsv, hO, State.each_offOk, State.updCell_offOk]
@[simp] theorem State.setEff_offOk (s : State) (c : Nat) (h : s.offOk) : State.offOk (s.setEff c) := by
  refine State.putEff_offOk _ _ _ h fun he => ?_
  simp [State.effOf] at he
  simp [he]
@[simp] theorem State.setEffs_offOk (s : State) (cs : List Nat) (hO : State.offOk s) :
    State.offOk (State.setEffs s cs) := by
  simp (maxDischargeDepth := 60) +contextual [State.setEffs, hO, State.each_offOk, State.updCell_offOk]
@[simp] theorem State.driveCell_offOk (s : State) (m : CellMask) (c : Nat) (hO : State.offOk s) :
    State.offOk (State.driveCell s m c) := by
  simp (maxDischargeDepth := 60) +contextual [State.driveCell, hO, State.each_offOk, State.updCell_offOk]
@[simp] theorem State.driveStep_offOk (s : State) (m : CellMask) (hO : State.offOk s) :
    State.offOk (State.driveStep s m) := by
  simp (maxDischargeDepth := 60) +contextual [State.driveStep, hO, State.each_offOk, State.updCell_offOk]
@[simp] theorem State.raiseNamed_offOk (s : State) (c : Nat) (det : Nat) (x : List Nat) (hO : State.offOk s) :
    State.offOk (State.raiseNamed s c det x) := by
  simp (maxDischargeDepth := 60) +contextual [State.raiseNamed, hO, State.each_offOk, State.updCell_offOk]
@[simp] theorem State.raiseOut_offOk (s : State) (c : Nat) (det : Nat) (hO : State.offOk s) :
    State.offOk (State.raiseOut s c det) := by
  simp (maxDischargeDepth := 60) +contextual [State.raiseOut, hO, State.each_offOk, State.updCell_offOk]
@[simp] theorem State.noteCounted_offOk (s : State) (c : Nat) (hO : State.offOk s) :
    State.offOk (State.noteCounted s c) := by
  simp (maxDischargeDepth := 60) +contextual [State.noteCounted, hO, State.each_offOk, State.updCell_offOk]
@[simp] theorem State.roundEnd_offOk (s : State) (hO : State.offOk s) :
    State.offOk (State.roundEnd s) := by
  unfold State.roundEnd; dsimp only
  exact State.each_offOk _ _ _ (by simp [hO]) fun s c h => State.updCell_offOk _ _ _ h fun _ => ⟨rfl, fun h => h⟩
@[simp] theorem State.roundStart_offOk (s : State) (hO : State.offOk s) :
    State.offOk (State.roundStart s) := by
  simp (maxDischargeDepth := 60) +contextual [State.roundStart, hO, State.each_offOk, State.updCell_offOk]
theorem execRoundMark_offOk (lane : Lane) (s : State) (hO : State.offOk s) :
    ∀ t, (execRoundMark lane s) = .next t → State.offOk t := by
  rintro _ ⟨⟩
  split
  · exact hO
  · dsimp only
    split
    · exact State.roundStart_offOk _ (by split <;> simp [hO])
    · simp [hO]
theorem execTestNotCompleted_offOk (cell : Nat) (lane : Lane) (s : State) (hO : State.offOk s) :
    ∀ t, (execTestNotCompleted cell lane s) = .next t → State.offOk t := by
  rintro _ ⟨⟩; simp (maxDischargeDepth := 60) +contextual [hO, State.each_offOk, State.fed_offOk, State.updCell_offOk]
theorem execTestPosition_offOk (bank : Nat) (midOk : Bool) (s : State) (hO : State.offOk s) :
    ∀ t, (execTestPosition bank midOk s) = .next t → State.offOk t := by
  rintro _ ⟨⟩; dsimp only; (repeat' split) <;> simp (maxDischargeDepth := 60) +contextual [hO, State.each_offOk, State.fed_offOk, State.updCell_offOk]
theorem execDarkStepEnd_offOk (bank : Nat) (current : Paths Bool) (s : State) (hO : State.offOk s) :
    ∀ t, (execDarkStepEnd bank current s) = .next t → State.offOk t := by
  rintro _ ⟨⟩; dsimp only; (repeat' split) <;> simp (maxDischargeDepth := 60) +contextual [hO, State.each_offOk, State.fed_offOk, State.updCell_offOk]
theorem execLightStepEnd_offOk (bank : Nat) (mids : Paths Mid) (current : Paths Bool) (pxOn : Bool) (s : State) (hO : State.offOk s) :
    ∀ t, (execLightStepEnd bank mids current pxOn s) = .next t → State.offOk t := by
  rintro _ ⟨⟩; dsimp only; (repeat' split) <;> simp (maxDischargeDepth := 60) +contextual [hO, State.each_offOk, State.fed_offOk, State.updCell_offOk]
theorem execMidpointStuck_offOk (cell : Nat) (_path : Path) (_high : Bool) (s : State) (hO : State.offOk s) :
    ∀ t, (execMidpointStuck cell _path _high s) = .next t → State.offOk t := by
  rintro _ ⟨⟩; simp (maxDischargeDepth := 60) [hO]
theorem execPathCurrentWithdrawn_offOk (cell : Nat) (path : Path) (s : State) (hO : State.offOk s) :
    ∀ t, (execPathCurrentWithdrawn cell path s) = .next t → State.offOk t := by
  rintro _ ⟨⟩; simp (maxDischargeDepth := 60) [hO]
@[simp] theorem State.updTest_offOk (s : State) (f : TestSt → TestSt) (hO : State.offOk s) :
    State.offOk (State.updTest s f) := by
  exact hO
@[simp] theorem State.cutTest_offOk (s : State) (cs : List Nat) (hO : State.offOk s) :
    State.offOk (State.cutTest s cs) := by
  simp (maxDischargeDepth := 60) [State.cutTest, hO]
@[simp] theorem State.cutBank_offOk (s : State) (b : Nat) (hO : State.offOk s) :
    State.offOk (State.cutBank s b) := by
  simp (maxDischargeDepth := 60) [State.cutBank, hO]
@[simp] theorem State.readFault_offOk (s : State) (c : Nat) (hO : State.offOk s) :
    State.offOk (State.readFault s c) := by
  simp (maxDischargeDepth := 60) +contextual [State.readFault, hO, State.each_offOk, State.updCell_offOk]
@[simp] theorem State.readOne_offOk (s : State) (c : Nat) (l : Lane) (v : Bool) (hO : State.offOk s) :
    State.offOk (State.readOne s c l v) := by
  simp (maxDischargeDepth := 60) [State.readOne, hO]
theorem execReadbackFault_offOk (lane : Lane) (cell : Nat) (samples : List Bool) (s : State) (hO : State.offOk s) :
    ∀ t, (execReadbackFault lane cell samples s) = .next t → State.offOk t := by
  rintro _ ⟨⟩; dsimp only; (repeat' split) <;> simp (maxDischargeDepth := 60) +contextual [hO, State.each_offOk, State.fed_offOk, State.updCell_offOk]
theorem execExternalVoltage_offOk (cell : Nat) (s : State) (hO : State.offOk s) :
    ∀ t, (execExternalVoltage cell s) = .next t → State.offOk t := by
  rintro _ ⟨⟩; dsimp only; (repeat' split) <;> simp (maxDischargeDepth := 60) +contextual [hO, State.each_offOk, State.fed_offOk, State.updCell_offOk]
@[simp] theorem State.readTick_offOk (s : State) (c : Nat) (hO : State.offOk s) :
    State.offOk (State.readTick s c) := by
  simp (maxDischargeDepth := 60) +contextual [State.readTick, hO, State.each_offOk, State.updCell_offOk]
@[simp] theorem State.cellTick_offOk (s : State) (hO : State.offOk s) :
    State.offOk (State.cellTick s) := by
  simp (maxDischargeDepth := 60) +contextual [State.cellTick, hO, State.each_offOk, State.updCell_offOk]
@[simp] theorem State.slotTick_offOk (s : State) (us : Nat) (hO : State.offOk s) :
    State.offOk (State.slotTick s us) := by
  simp (maxDischargeDepth := 60) [State.slotTick, hO]
@[simp] theorem State.nextSlot_offOk (s : State) (us : Nat) (skew : Nat) (hO : State.offOk s) :
    State.offOk (State.nextSlot s us skew) := by
  simp (maxDischargeDepth := 60) +contextual [State.nextSlot, hO, State.each_offOk, State.updCell_offOk]
theorem execSlotMark_offOk (lane : Lane) (stamp : SlotStamp) (s : State) (hO : State.offOk s) :
    ∀ t, (execSlotMark lane stamp s) = .next t → State.offOk t := by
  rintro _ ⟨⟩; simp (maxDischargeDepth := 60) [hO]
@[simp] theorem State.dropSteps_offOk (s : State) (cs : List Nat) (hO : State.offOk s) :
    State.offOk (State.dropSteps s cs) := by
  simp (maxDischargeDepth := 60) +contextual [State.dropSteps, hO, State.each_offOk, State.updCell_offOk]
@[simp] theorem State.protCell_offOk (s : State) (c : Nat) (det : Nat) (hO : State.offOk s) :
    State.offOk (State.protCell s c det) := by
  simp (maxDischargeDepth := 60) +contextual [State.protCell, hO, State.each_offOk, State.updCell_offOk]
theorem execOverloadTrip_offOk (cell : Nat) (_cause : Overload) (s : State) (hO : State.offOk s) :
    ∀ t, (execOverloadTrip cell _cause s) = .next t → State.offOk t := by
  rintro _ ⟨⟩; simp (maxDischargeDepth := 60) [hO]
theorem execClampOvertemp_offOk (cell : Nat) (s : State) (hO : State.offOk s) :
    ∀ t, (execClampOvertemp cell s) = .next t → State.offOk t := by
  rintro _ ⟨⟩; simp (maxDischargeDepth := 60) [hO]
theorem execBankOvercurrent_offOk (bank : Nat) (s : State) (hO : State.offOk s) :
    ∀ t, (execBankOvercurrent bank s) = .next t → State.offOk t := by
  rintro _ ⟨⟩; simp (maxDischargeDepth := 60) [hO]
theorem execFeedbackMismatch_offOk (lane : Lane) (cell : Nat) (s : State) (hO : State.offOk s) :
    ∀ t, (execFeedbackMismatch lane cell s) = .next t → State.offOk t := by
  rintro _ ⟨⟩; simp (maxDischargeDepth := 60) [hO]
@[simp] theorem State.warmEnds_offOk (s : State) (hO : State.offOk s) :
    State.offOk (State.warmEnds s) := by
  simp (maxDischargeDepth := 60) +contextual [State.warmEnds, hO, State.each_offOk, State.updCell_offOk]
@[simp] theorem State.relDone_offOk (s : State) (kind : Nat) (index : Nat) (ref : CmdRef) (st : Nat) (hO : State.offOk s) :
    State.offOk (State.relDone s kind index ref st) := by
  simp (maxDischargeDepth := 60) [State.relDone, hO]
@[simp] theorem State.finishRel_offOk (s : State) (r : RelSt) (hO : State.offOk s) :
    State.offOk (State.finishRel s r) := by
  simp (maxDischargeDepth := 60) [State.finishRel, hO]
@[simp] theorem State.finishRels_offOk (s : State) (hO : State.offOk s) :
    State.offOk (State.finishRels s) := by
  simp (maxDischargeDepth := 60) +contextual [State.finishRels, hO, State.each_offOk, State.updCell_offOk]
@[simp] theorem State.arrive_offOk (s : State) (k : ConnCfg) (p : Bool) (x : TgCopy) (hO : State.offOk s) :
    State.offOk (State.arrive s k p x) := by
  exact hO
@[simp] theorem State.discard_offOk (s : State) (g : Gvt) (hO : State.offOk s) :
    State.offOk (State.discard s g) := by
  unfold State.discard; split <;> simp (maxDischargeDepth := 60) [hO]
@[simp] theorem State.duplicate_offOk (s : State) (hO : State.offOk s) :
    State.offOk (State.duplicate s) := by
  simp (maxDischargeDepth := 60) [State.duplicate, hO]
@[simp] theorem State.notOwn_offOk (s : State) (f : Frame) (k : State) (hO : State.offOk s) (h : State.offOk k) :
    State.offOk (State.notOwn s f k) := by
  unfold State.notOwn; (repeat' split) <;> simp [h, hO]
theorem execFrameReceived_offOk (net : Net) (f : Frame) (us : Nat) (s : State) (hO : State.offOk s) :
    ∀ t, (execFrameReceived net f us s) = .next t → State.offOk t := by
  rintro _ ⟨⟩; dsimp only; split
  · exact hO
  · refine State.notOwn_offOk _ _ _ hO ?_; (repeat' split) <;> simp (maxDischargeDepth := 60) [hO]
theorem execSkewExpiry_offOk (conn : Nat) (peer2 : Bool) (s : State) (hO : State.offOk s) :
    ∀ t, (execSkewExpiry conn peer2 s) = .next t → State.offOk t := by
  rintro _ ⟨⟩; (repeat' split) <;> simp (maxDischargeDepth := 60) [hO]
theorem execOneNetworkSilent_offOk (conn : Nat) (s : State) (hO : State.offOk s) :
    ∀ t, (execOneNetworkSilent conn s) = .next t → State.offOk t := by
  rintro _ ⟨⟩; (repeat' split) <;> simp (maxDischargeDepth := 60) [hO]
@[simp] theorem State.sendOn_offOk (s : State) (n : Net) (f : Frame) (hO : State.offOk s) :
    State.offOk (State.sendOn s n f) := by
  simp (maxDischargeDepth := 60) [State.sendOn, hO]
@[simp] theorem State.sendBoth_offOk (s : State) (udp : Option Nat) (g : Gvt) (hO : State.offOk s) :
    State.offOk (State.sendBoth s udp g) := by
  simp (maxDischargeDepth := 60) [State.sendBoth, hO]
@[simp] theorem State.freezeAll_offOk (s : State) (hO : State.offOk s) :
    State.offOk (State.freezeAll s) := by
  exact hO
@[simp] theorem State.refuse_offOk (s : State) (conn : Nat) (det : Nat) (via : Net) (f : ConnSt → ConnSt) (hO : State.offOk s) :
    State.offOk (State.refuse s conn det via f) := by
  simp (maxDischargeDepth := 60) [State.refuse, hO]
@[simp] theorem State.connTimeout_offOk (s : State) (k : ConnCfg) (r : RecvRec) (hO : State.offOk s) :
    State.offOk (State.connTimeout s k r) := by
  unfold State.connTimeout; (repeat' split) <;> simp (maxDischargeDepth := 60) [hO]
@[simp] theorem State.connRelease_offOk (s : State) (n : Nat) (hO : State.offOk s) :
    State.offOk (State.connRelease s n) := by
  unfold State.connRelease; dsimp only; (repeat' split) <;> simp (maxDischargeDepth := 60) +contextual [hO, State.each_offOk, State.when_offOk, State.updCell_offOk]
theorem State.examine_offOk (k : ConnCfg) (r : RecvRec) (x : State × List PCopy × List PCopy) (y : PCopy) (hO : State.offOk x.1) :
    State.offOk (State.examine k r x y).1 := by
  unfold State.examine; dsimp only; (repeat' split) <;> simp (maxDischargeDepth := 60) [hO]
theorem State.examine_fold_offOk (k : ConnCfg) (r : RecvRec) (xs : List PCopy) (x : State × List PCopy × List PCopy)
    (hO : State.offOk x.1) : State.offOk (xs.foldl (State.examine k r) x).1 := by
  induction xs generalizing x with
  | nil => exact hO
  | cons y ys ih => exact ih _ (State.examine_offOk _ _ _ _ hO)
@[simp] theorem State.snapCopies_offOk (s : State) (k : ConnCfg) (r : RecvRec) (c : ConnSt) (hO : State.offOk s) :
    State.offOk (s.snapCopies k r c) := by
  have h := State.examine_fold_offOk k r (newCopies s.cyc.ots c) (s, [], []) hO
  unfold State.snapCopies; dsimp only
  generalize ((newCopies s.cyc.ots c).foldl (State.examine k r) (s, [], [])) = x at h ⊢
  obtain ⟨s1, oks, twins⟩ := x
  dsimp only at h ⊢
  (repeat' split) <;> simp (maxDischargeDepth := 60) +contextual [h, State.each_offOk]
@[simp] theorem State.connChanged_offOk (s : State) (n : Nat) (hO : State.offOk s) :
    State.offOk (State.connChanged s n) := by
  simp (maxDischargeDepth := 60) [State.connChanged, hO]
@[simp] theorem State.snapConn_offOk (s : State) (k : ConnCfg) (hO : State.offOk s) :
    State.offOk (State.snapConn s k) := by
  unfold State.snapConn; dsimp only; (repeat' split) <;> simp (maxDischargeDepth := 60) +contextual [hO, State.each_offOk, State.when_offOk, State.updCell_offOk]
@[simp] theorem State.snapConns_offOk (s : State) (hO : State.offOk s) :
    State.offOk (State.snapConns s) := by
  simp (maxDischargeDepth := 60) +contextual [State.snapConns, hO, State.each_offOk, State.updCell_offOk]
@[simp] theorem State.raiseReq_offOk (s : State) (route : Nat) (elem : Nat) (set : Bool) (hO : State.offOk s) :
    State.offOk (State.raiseReq s route elem set) := by
  exact hO
@[simp] theorem State.raiseElem_offOk (s : State) (num : Nat) (codes : List Nat) (hO : State.offOk s) :
    State.offOk (State.raiseElem s num codes) := by
  simp (maxDischargeDepth := 60) +contextual [State.raiseElem, hO, State.each_offOk, State.updCell_offOk]
@[simp] theorem State.axleDone_offOk (s : State) (x : AxleStep) (ok : Bool) (code : Nat) (hO : State.offOk s) :
    State.offOk (State.axleDone s x ok code) := by
  unfold State.axleDone; split <;> simp (maxDischargeDepth := 60) [hO]
@[simp] theorem State.axleArmed_offOk (s : State) (num : Nat) (x : AxleStep) (code : Nat) (hO : State.offOk s) :
    State.offOk (State.axleArmed s num x code) := by
  unfold State.axleArmed; split <;> simp (maxDischargeDepth := 60) [hO]
@[simp] theorem State.axleSteps_offOk (s : State) (num : Nat) (v : InEnv) (xs : List AxleStep) (hO : State.offOk s) :
    State.offOk (State.axleSteps s num v xs) := by
  unfold State.axleSteps; refine State.each_offOk _ _ _ hO fun s x h => ?_
  dsimp only; (repeat' split) <;> simp (maxDischargeDepth := 60) [h]
@[simp] theorem State.inElem_offOk (s : State) (dt : Nat) (steps : Nat → List AxleStep) (num : Nat) (hO : State.offOk s) :
    State.offOk (State.inElem s dt steps num) := by
  unfold State.inElem; dsimp only; (repeat' split) <;> simp (maxDischargeDepth := 60) +contextual [hO, State.each_offOk, State.when_offOk, State.updCell_offOk]
@[simp] theorem State.inputPass_offOk (s : State) (dt : Nat) (steps : Nat → List AxleStep) (hO : State.offOk s) :
    State.offOk (State.inputPass s dt steps) := by
  simp (maxDischargeDepth := 60) +contextual [State.inputPass, hO, State.each_offOk, State.updCell_offOk]
@[simp] theorem State.outElem_offOk (s : State) (num : Nat) (hO : State.offOk s) :
    State.offOk (State.outElem s num) := by
  unfold State.outElem; split <;> simp (maxDischargeDepth := 60) [hO]
@[simp] theorem State.outputPass_offOk (s : State) (hO : State.offOk s) :
    State.offOk (State.outputPass s) := by
  simp (maxDischargeDepth := 60) +contextual [State.outputPass, hO, State.each_offOk, State.updCell_offOk]
@[simp] theorem State.elemEvent_offOk (s : State) (num : Nat) (f : Elem → Elem) (hO : State.offOk s) :
    State.offOk (State.elemEvent s num f) := by
  unfold State.elemEvent; split <;> simp (maxDischargeDepth := 60) [hO]
theorem execMoveTimeLimit_offOk (elem : Nat) (s : State) (hO : State.offOk s) :
    ∀ t, (execMoveTimeLimit elem s) = .next t → State.offOk t := by
  rintro _ ⟨⟩; simp (maxDischargeDepth := 60) [hO]
theorem execProvingTime_offOk (elem : Nat) (s : State) (hO : State.offOk s) :
    ∀ t, (execProvingTime elem s) = .next t → State.offOk t := by
  rintro _ ⟨⟩; simp (maxDischargeDepth := 60) [hO]
theorem execClearingDelay_offOk (elem : Nat) (s : State) (hO : State.offOk s) :
    ∀ t, (execClearingDelay elem s) = .next t → State.offOk t := by
  rintro _ ⟨⟩; dsimp only; (repeat' split) <;> simp_all
theorem execResetStepLimit_offOk (elem : Nat) (s : State) (hO : State.offOk s) :
    ∀ t, (execResetStepLimit elem s) = .next t → State.offOk t := by
  rintro _ ⟨⟩; simp (maxDischargeDepth := 60) [hO]
theorem execCloseTimeLimit_offOk (elem : Nat) (s : State) (hO : State.offOk s) :
    ∀ t, (execCloseTimeLimit elem s) = .next t → State.offOk t := by
  rintro _ ⟨⟩; simp (maxDischargeDepth := 60) [hO]
theorem execOpenDelay_offOk (elem : Nat) (s : State) (hO : State.offOk s) :
    ∀ t, (execOpenDelay elem s) = .next t → State.offOk t := by
  rintro _ ⟨⟩; simp (maxDischargeDepth := 60) [hO]
theorem execDirectionExchangeLimit_offOk (elem : Nat) (s : State) (hO : State.offOk s) :
    ∀ t, (execDirectionExchangeLimit elem s) = .next t → State.offOk t := by
  rintro _ ⟨⟩; dsimp only; (repeat' split) <;> simp_all
@[simp] theorem State.admission_offOk (s : State) (hO : State.offOk s) :
    State.offOk (State.admission s) := by
  simp (maxDischargeDepth := 60) +contextual [State.admission, hO, State.each_offOk, State.updCell_offOk]
@[simp] theorem State.recount_offOk (s : State) (t : RouteEntry) (old : RouteCell) (new : RouteCell) (hO : State.offOk s) :
    State.offOk (State.recount s t old new) := by
  simp (maxDischargeDepth := 60) [State.recount, hO]
@[simp] theorem State.ownerDone_offOk (s : State) (owner : Nat) (c : RouteCell) (status : Nat) (hO : State.offOk s) :
    State.offOk (State.ownerDone s owner c status) := by
  unfold State.ownerDone; split <;> simp (maxDischargeDepth := 60) [hO]
@[simp] theorem State.raiseAuto_offOk (s : State) (r : Nat) (origin : Nat) (hO : State.offOk s) :
    State.offOk (State.raiseAuto s r origin) := by
  exact hO
@[simp] theorem State.afterReleased_offOk (s : State) (r : Nat) (t : RouteEntry) (old : RouteCell) (new : RouteCell) (check : Nat) (hO : State.offOk s) :
    State.offOk (State.afterReleased s r t old new check) := by
  unfold State.afterReleased; dsimp only; (repeat' split) <;> simp (maxDischargeDepth := 60) +contextual [hO, State.each_offOk, State.when_offOk, State.updCell_offOk]
@[simp] theorem State.afterMove_offOk (s : State) (r : Nat) (t : RouteEntry) (old : RouteCell) (new : RouteCell) (check : Nat) (hO : State.offOk s) :
    State.offOk (State.afterMove s r t old new check) := by
  unfold State.afterMove; (repeat' split) <;> simp (maxDischargeDepth := 60) [hO]
@[simp] theorem State.watchStep_offOk (s : State) (dt : Nat) (hO : State.offOk s) :
    State.offOk (State.watchStep s dt) := by
  exact hO
@[simp] theorem State.quietCheck_offOk (s : State) (r : Nat) (hO : State.offOk s) :
    State.offOk (State.quietCheck s r) := by
  simp (maxDischargeDepth := 60) [State.quietCheck, hO]
@[simp] theorem State.trigger_offOk (s : State) (r : Nat) (t : RouteEntry) (hO : State.offOk s) :
    State.offOk (State.trigger s r t) := by
  simp (maxDischargeDepth := 60) [State.trigger, hO]
@[simp] theorem State.tickApproach_offOk (s : State) (dt : Nat) (hO : State.offOk s) :
    State.offOk (State.tickApproach s dt) := by
  simp (maxDischargeDepth := 60) [State.tickApproach, hO]
@[simp] theorem State.tickRoutes_offOk (s : State) (dt : Nat) (hO : State.offOk s) :
    State.offOk (State.tickRoutes s dt) := by
  exact hO
@[simp] theorem State.badRoutes_offOk (s : State) (hO : State.offOk s) :
    State.offOk (State.badRoutes s) := by
  unfold State.badRoutes; split
  · exact State.each_offOk _ _ _ hO fun s l h => by simp [h]
  · exact hO
@[simp] theorem State.passRoute_offOk (s : State) (s0 : State) (evs : List (Nat × Eval)) (won : List Nat) (lost : List (Nat × Nat)) (r : Nat) (hO : State.offOk s) :
    State.offOk (State.passRoute s s0 evs won lost r) := by
  unfold State.passRoute; split <;> simp (maxDischargeDepth := 60) [hO]
@[simp] theorem State.countRequests_offOk (s : State) (hO : State.offOk s) :
    State.offOk (State.countRequests s) := by
  exact hO
@[simp] theorem State.passRoutes_offOk (s : State) (dt : Nat) (hO : State.offOk s) :
    State.offOk (State.passRoutes s dt) := by
  unfold State.passRoutes; dsimp only; exact State.each_offOk _ _ _ hO fun s x h => State.passRoute_offOk _ _ _ _ _ _ h
@[simp] theorem State.triggers_offOk (s : State) (hO : State.offOk s) :
    State.offOk (State.triggers s) := by
  exact State.each_offOk _ _ _ hO fun s x h => by split <;> simp [h]
@[simp] theorem State.quietChecks_offOk (s : State) (hO : State.offOk s) :
    State.offOk (State.quietChecks s) := by
  exact State.each_offOk _ _ _ hO fun s x h => State.quietCheck_offOk _ _ h
@[simp] theorem State.writeElems_offOk (s : State) (s0 : State) (hO : State.offOk s) :
    State.offOk (State.writeElems s s0) := by
  exact hO
@[simp] theorem State.confirmAll_offOk (s : State) (hO : State.offOk s) :
    State.offOk (State.confirmAll s) := by
  exact hO
@[simp] theorem State.trellisPass_offOk (s : State) (dt : Nat) (hO : State.offOk s) :
    State.offOk (State.trellisPass s dt) := by
  unfold State.trellisPass; dsimp only
  exact State.countRequests_offOk _ (State.confirmAll_offOk _ (State.writeElems_offOk _ _ (State.quietChecks_offOk _ (State.watchStep_offOk _ _ (State.triggers_offOk _ (State.passRoutes_offOk _ _ (State.admission_offOk _ (State.badRoutes_offOk _ (State.tickRoutes_offOk _ dt hO)))))))))
@[simp] theorem State.endReleased_offOk (s : State) (hO : State.offOk s) :
    State.offOk (State.endReleased s) := by
  exact hO
@[simp] theorem State.takeCmdseq_offOk (s : State) (hO : State.offOk s) :
    State.offOk (State.takeCmdseq s).2 := by
  exact hO
@[simp] theorem State.takeReqseq_offOk (s : State) (hO : State.offOk s) :
    State.offOk (State.takeReqseq s).2 := by
  exact hO
@[simp] theorem State.countNotEntered_offOk (s : State) (hO : State.offOk s) :
    State.offOk (State.countNotEntered s) := by
  exact hO
@[simp] theorem State.enter_offOk (s : State) (r : Nat) (origin : Nat) (cmdseq : Nat) (ref : Option CmdRef) (hO : State.offOk s) :
    State.offOk (State.enter s r origin cmdseq ref) := by
  exact hO
@[simp] theorem State.doneOp_offOk (s : State) (ref : CmdRef) (status : Nat) (cmdseq : Nat) (hO : State.offOk s) :
    State.offOk (State.doneOp s ref status cmdseq) := by
  exact hO
@[simp] theorem State.enterCancel_offOk (s : State) (ref : CmdRef) (r : Nat) (q : Nat) (hO : State.offOk s) :
    State.offOk (State.enterCancel s ref r q) := by
  unfold State.enterCancel; split <;> simp (maxDischargeDepth := 60) [hO]
@[simp] theorem State.enterKey_offOk (s : State) (ref : CmdRef) (n : Nat) (q : Nat) (hO : State.offOk s) :
    State.offOk (State.enterKey s ref n q) := by
  unfold State.enterKey; (repeat' split) <;> simp (maxDischargeDepth := 60) [hO]
@[simp] theorem State.enterOp_offOk (s : State) (o : OpCmd) (hO : State.offOk s) :
    State.offOk (State.enterOp s o) := by
  unfold State.enterOp; dsimp only; (repeat' split) <;> simp (maxDischargeDepth := 60) +contextual [hO, State.each_offOk, State.when_offOk, State.updCell_offOk]
@[simp] theorem State.enterElemReq_offOk (s : State) (x : Nat × Nat × Bool) (hO : State.offOk s) :
    State.offOk (State.enterElemReq s x) := by
  unfold State.enterElemReq; (repeat' split) <;> simp (maxDischargeDepth := 60) [hO]
@[simp] theorem State.enterAuto_offOk (s : State) (x : Nat × Nat) (hO : State.offOk s) :
    State.offOk (State.enterAuto s x) := by
  unfold State.enterAuto; split <;> simp (maxDischargeDepth := 60) [hO]
@[simp] theorem State.enterRequests_offOk (s : State) (ops : List OpCmd) (hO : State.offOk s) :
    State.offOk (State.enterRequests s ops) := by
  simp (maxDischargeDepth := 60) +contextual [State.enterRequests, hO, State.each_offOk, State.updCell_offOk]
@[simp] theorem State.refuseOps_offOk (s : State) (ops : List OpCmd) (hO : State.offOk s) :
    State.offOk (State.refuseOps s ops) := by
  simp (maxDischargeDepth := 60) +contextual [State.refuseOps, hO, State.each_offOk, State.updCell_offOk]
@[simp] theorem State.routeEvent_offOk (s : State) (r : Nat) (states : List Nat) (due : RouteEntry → RouteCell → Bool) (hO : State.offOk s) :
    State.offOk (State.routeEvent s r states due) := by
  unfold State.routeEvent; split <;> simp (maxDischargeDepth := 60) [hO]
theorem execSettingTimeLimit_offOk (route : Nat) (s : State) (hO : State.offOk s) :
    ∀ t, (execSettingTimeLimit route s) = .next t → State.offOk t := by
  rintro _ ⟨⟩; simp (maxDischargeDepth := 60) [hO]
theorem execRequestLifetime_offOk (route : Nat) (s : State) (hO : State.offOk s) :
    ∀ t, (execRequestLifetime route s) = .next t → State.offOk t := by
  rintro _ ⟨⟩; simp (maxDischargeDepth := 60) [hO]
theorem execApproachReleaseTimer_offOk (route : Nat) (s : State) (hO : State.offOk s) :
    ∀ t, (execApproachReleaseTimer route s) = .next t → State.offOk t := by
  rintro _ ⟨⟩; simp (maxDischargeDepth := 60) [hO]
theorem execOverlapReleaseTimer_offOk (route : Nat) (s : State) (hO : State.offOk s) :
    ∀ t, (execOverlapReleaseTimer route s) = .next t → State.offOk t := by
  rintro _ ⟨⟩; simp (maxDischargeDepth := 60) [hO]
theorem execReleasingTimeout_offOk (route : Nat) (s : State) (hO : State.offOk s) :
    ∀ t, (execReleasingTimeout route s) = .next t → State.offOk t := by
  rintro _ ⟨⟩; simp (maxDischargeDepth := 60) [hO]
@[simp] theorem State.storeTables_offOk (s : State) (hO : State.offOk s) :
    State.offOk (State.storeTables s) := by
  exact hO
@[simp] theorem State.buildVecs_offOk (s : State) (hO : State.offOk s) :
    State.offOk (State.buildVecs s) := by
  simp (maxDischargeDepth := 60) +contextual [State.buildVecs, hO, State.each_offOk, State.updCell_offOk]
@[simp] theorem State.tableCheck_offOk (s : State) (hO : State.offOk s) :
    State.offOk (State.tableCheck s) := by
  exact hO
@[simp] theorem State.syncConns_offOk (s : State) (hO : State.offOk s) :
    State.offOk (State.syncConns s) := by
  exact hO
@[simp] theorem State.resetConns_offOk (s : State) (hO : State.offOk s) :
    State.offOk (State.resetConns s) := by
  exact hO
@[simp] theorem State.bindForces_offOk (s : State) (hO : State.offOk s) :
    State.offOk (State.bindForces s) := by
  exact hO
@[simp] theorem State.applyForceMarks_offOk (s : State) (hO : State.offOk s) :
    State.offOk (State.applyForceMarks s) := by
  exact hO
@[simp] theorem State.coldStart_offOk (s : State) (hO : State.offOk s) :
    State.offOk (State.coldStart s) := by
  simp (maxDischargeDepth := 60) [State.coldStart, hO]
@[simp] theorem State.warmStart_offOk (s : State) (passed : Nat) (hO : State.offOk s) :
    State.offOk (State.warmStart s passed) := by
  exact hO
@[simp] theorem State.startApp_offOk (s : State) (hO : State.offOk s) :
    State.offOk (State.startApp s) := by
  simp (maxDischargeDepth := 60) [State.startApp, hO]
@[simp] theorem State.graftLanes_offOk (s : State) (hO : State.offOk s) :
    State.offOk (State.graftLanes s) := by
  exact hO
@[simp] theorem State.graft_offOk (s : State) (r : CmdRef) (new : Image) (hO : State.offOk s) :
    State.offOk (State.graft s r new) := by
  simp (maxDischargeDepth := 60) [State.graft, hO]
@[simp] theorem State.latchSummary_offOk (s : State) (hO : State.offOk s) :
    State.offOk (State.latchSummary s) := by
  exact hO
@[simp] theorem State.seeRing_offOk (s : State) (addr : Nat) (n : Nat) (hO : State.offOk s) :
    State.offOk (State.seeRing s addr n) := by
  simp (maxDischargeDepth := 60) [State.seeRing, hO]
@[simp] theorem State.testFsv_offOk (s : State) (id target : Nat) (hO : State.offOk s) :
    State.offOk (State.testFsv s id target).2 := by
  unfold State.testFsv; split <;> simp [hO]
@[simp] theorem State.coverLane_offOk (s : State) (l : Lane) (hO : State.offOk s) :
    State.offOk (State.coverLane s l) := by
  simp (maxDischargeDepth := 60) [State.coverLane, hO]
@[simp] theorem State.clocheStart_offOk (s : State) (hO : State.offOk s) :
    State.offOk (State.clocheStart s) := by
  unfold State.clocheStart; dsimp only; (repeat' split) <;> simp (maxDischargeDepth := 60) +contextual [hO, State.each_offOk, State.when_offOk, State.updCell_offOk]
@[simp] theorem State.testFailed_offOk (s : State) (id : Nat) (target : Nat) (hO : State.offOk s) :
    State.offOk (State.testFailed s id target) := by
  unfold State.testFailed; dsimp only; (repeat' split) <;> simp (maxDischargeDepth := 60) +contextual [hO, State.each_offOk, State.when_offOk, State.updCell_offOk]
@[simp] theorem State.testPassed_offOk (s : State) (id : Nat) (target : Nat) (hO : State.offOk s) :
    State.offOk (State.testPassed s id target) := by
  unfold State.testPassed; dsimp only; (repeat' split) <;> simp (maxDischargeDepth := 60) +contextual [hO, State.each_offOk, State.when_offOk, State.updCell_offOk]
@[simp] theorem State.uncoverLane_offOk (s : State) (l : Lane) (took : Bool) (hO : State.offOk s) :
    State.offOk (State.uncoverLane s l took) := by
  exact hO
@[simp] theorem State.clocheEnd_offOk (s : State) (hO : State.offOk s) :
    State.offOk (State.clocheEnd s) := by
  unfold State.clocheEnd; dsimp only; (repeat' split) <;> simp (maxDischargeDepth := 60) +contextual [hO, State.each_offOk, State.when_offOk, State.updCell_offOk]
theorem execTestComplete_offOk (codes : List Nat) (s : State) (hO : State.offOk s) :
    ∀ t, (execTestComplete codes s) = .next t → State.offOk t := by
  rintro _ ⟨⟩; (repeat' split) <;> simp (maxDischargeDepth := 60) [hO]
theorem execPreconditionCheck_offOk (q : Quantities) (s : State) (hO : State.offOk s) :
    ∀ t, (execPreconditionCheck q s) = .next t → State.offOk t := by
  rintro _ ⟨⟩; dsimp only; (repeat' split) <;> simp_all
theorem execOscillatorMeasurement_offOk (offset : Int) (s : State) (hO : State.offOk s) :
    ∀ t, (execOscillatorMeasurement offset s) = .next t → State.offOk t := by
  rintro _ ⟨⟩; simp (maxDischargeDepth := 60) [hO]
@[simp] theorem State.testAtApply_offOk (s : State) (old : Settings) (img : Bool) (hO : State.offOk s) :
    State.offOk (State.testAtApply s old img) := by
  unfold State.testAtApply; split <;> simp (maxDischargeDepth := 60) [hO]
@[simp] theorem State.passesAtApply_offOk (s : State) (old : Settings) (hO : State.offOk s) :
    State.offOk (State.passesAtApply s old) := by
  exact hO
@[simp] theorem State.breakCheck_offOk (s : State) (hO : State.offOk s) :
    State.offOk (State.breakCheck s) := by
  unfold State.breakCheck; split <;> simp (maxDischargeDepth := 60) [hO]
@[simp] theorem State.cancelApply_offOk (s : State) (hO : State.offOk s) :
    State.offOk (State.cancelApply s) := by
  unfold State.cancelApply; split <;> simp (maxDischargeDepth := 60) [hO]
@[simp] theorem State.retryApply_offOk (s : State) (hO : State.offOk s) :
    State.offOk (State.retryApply s) := by
  unfold State.retryApply; split <;> simp (maxDischargeDepth := 60) [hO]
@[simp] theorem State.warmChanged_offOk (s : State) (old : Settings) (hO : State.offOk s) :
    State.offOk (State.warmChanged s old) := by
  simp (maxDischargeDepth := 60) +contextual [State.warmChanged, hO, State.each_offOk, State.updCell_offOk]
@[simp] theorem State.markConns_offOk (s : State) (old : Settings) (hO : State.offOk s) :
    State.offOk (State.markConns s old) := by
  simp (maxDischargeDepth := 60) +contextual [State.markConns, hO, State.each_offOk, State.updCell_offOk]
@[simp] theorem State.syncRecs_offOk (s : State) (hO : State.offOk s) :
    State.offOk (State.syncRecs s) := by
  exact hO
@[simp] theorem State.ringModes_offOk (s : State) (old : Settings) (hO : State.offOk s) :
    State.offOk (State.ringModes s old) := by
  simp (maxDischargeDepth := 60) +contextual [State.ringModes, hO, State.each_offOk, State.updCell_offOk]
@[simp] theorem State.putSettings_offOk (s : State) (st : Settings) (hO : State.offOk s) :
    State.offOk (State.putSettings s st) := by
  simp (maxDischargeDepth := 60) [State.putSettings, hO]
@[simp] theorem State.forceChange_offOk (s : State) (r : CmdRef) (old : ForceEntry) (new : ForceEntry) (hO : State.offOk s) :
    State.offOk (State.forceChange s r old new) := by
  simp (maxDischargeDepth := 60) [State.forceChange, hO]
@[simp] theorem State.putForces_offOk (s : State) (r : CmdRef) (fs : List ForceEntry) (hO : State.offOk s) :
    State.offOk (State.putForces s r fs) := by
  simp (maxDischargeDepth := 60) +contextual [State.putForces, hO, State.each_offOk, State.updCell_offOk]
@[simp] theorem State.applyRecords_offOk (s : State) (r : CmdRef) (hO : State.offOk s) :
    State.offOk (State.applyRecords s r) := by
  simp (maxDischargeDepth := 60) +contextual [State.applyRecords, hO, State.each_offOk, State.updCell_offOk]
@[simp] theorem State.makeApply_offOk (s : State) (a : ApplySt) (new : Option Image) (hO : State.offOk s) :
    State.offOk (State.makeApply s a new) := by
  unfold State.makeApply; split <;> simp (maxDischargeDepth := 60) [hO]
@[simp] theorem State.graftFails_offOk (s : State) (a : ApplySt) (item : Nat) (hO : State.offOk s) :
    State.offOk (State.graftFails s a item) := by
  simp (maxDischargeDepth := 60) [State.graftFails, hO]
@[simp] theorem State.ftgenFails_offOk (s : State) (a : ApplySt) (hO : State.offOk s) :
    State.offOk (State.ftgenFails s a) := by
  simp (maxDischargeDepth := 60) [State.ftgenFails, hO]
@[simp] theorem State.doApply_offOk (s : State) (a : ApplySt) (hO : State.offOk s) :
    State.offOk (State.doApply s a) := by
  unfold State.doApply; dsimp only; (repeat' split) <;> simp_all
@[simp] theorem State.applyStep_offOk (s : State) (hO : State.offOk s) :
    State.offOk (State.applyStep s) := by
  unfold State.applyStep; split <;> simp (maxDischargeDepth := 60) [hO]
@[simp] theorem State.finishApply_offOk (s : State) (hO : State.offOk s) :
    State.offOk (State.finishApply s) := by
  unfold State.finishApply; split <;> simp (maxDischargeDepth := 60) [hO]
@[simp] theorem State.bootSettings_offOk (s : State) (hO : State.offOk s) :
    State.offOk (State.bootSettings s) := by
  unfold State.bootSettings; dsimp only; (repeat' split) <;> simp_all
@[simp] theorem State.forceDone_offOk (s : State) (f : ForceCmd) (status : Nat) (code : Nat) (hO : State.offOk s) :
    State.offOk (State.forceDone s f status code) := by
  simp (maxDischargeDepth := 60) [State.forceDone, hO]
@[simp] theorem State.setForceNow_offOk (s : State) (f : ForceCmd) (hO : State.offOk s) :
    State.offOk (State.setForceNow s f) := by
  unfold State.setForceNow; dsimp only; (repeat' split) <;> simp_all
@[simp] theorem State.clearForceNow_offOk (s : State) (f : ForceCmd) (hO : State.offOk s) :
    State.offOk (State.clearForceNow s f) := by
  unfold State.clearForceNow; dsimp only; (repeat' split) <;> simp_all
@[simp] theorem State.forceNow_offOk (s : State) (f : ForceCmd) (hO : State.offOk s) :
    State.offOk (State.forceNow s f) := by
  simp (maxDischargeDepth := 60) [State.forceNow, hO]
@[simp] theorem State.forceStep_offOk (s : State) (hO : State.offOk s) :
    State.offOk (State.forceStep s) := by
  simp (maxDischargeDepth := 60) +contextual [State.forceStep, hO, State.each_offOk, State.updCell_offOk]
@[simp] theorem State.endCheck_offOk (s : State) (r : CmdRef) (res : CheckRes) (lanes : List Lane) (passed : Lane → Bool) (hO : State.offOk s) :
    State.offOk (State.endCheck s r res lanes passed) := by
  simp (maxDischargeDepth := 60) [State.endCheck, hO]
theorem execStageCheckDone_offOk (differs : Trio Bool) (s : State) (hO : State.offOk s) :
    ∀ t, (execStageCheckDone differs s) = .next t → State.offOk t := by
  rintro _ ⟨⟩; dsimp only; (repeat' split) <;> simp_all
@[simp] theorem State.maintStep_offOk (s : State) (hO : State.offOk s) :
    State.offOk (State.maintStep s) := by
  unfold State.maintStep; split <;> simp (maxDischargeDepth := 60) [hO]
@[simp] theorem State.makeTransition_offOk (s : State) (target : LcState) (r : CmdRef) (signer : Nat) (reason : Bytes) (hO : State.offOk s) :
    State.offOk (State.makeTransition s target r signer reason) := by
  simp (maxDischargeDepth := 60) [State.makeTransition, hO]
@[simp] theorem State.refuseTransition_offOk (s : State) (target : Nat) (r : CmdRef) (signer : Nat) (status : Nat) (hO : State.offOk s) :
    State.offOk (State.refuseTransition s target r signer status) := by
  simp (maxDischargeDepth := 60) [State.refuseTransition, hO]
@[simp] theorem State.lcStep_offOk (s : State) (hO : State.offOk s) :
    State.offOk (State.lcStep s) := by
  unfold State.lcStep; dsimp only; (repeat' split) <;> simp_all
@[simp] theorem State.lcErase_offOk (s : State) (src : LcState) (target : LcState) (hO : State.offOk s) :
    State.offOk (State.lcErase s src target) := by
  unfold State.lcErase; split <;> simp (maxDischargeDepth := 60) [hO]
@[simp] theorem State.lcNow_offOk (s : State) (target : LcState) (r : CmdRef) (signer : Nat) (reason : Bytes) (hO : State.offOk s) :
    State.offOk (State.lcNow s target r signer reason) := by
  simp (maxDischargeDepth := 60) [State.lcNow, hO]
@[simp] theorem State.latchTamperAt_offOk (s : State) (wt : Nat) (hO : State.offOk s) :
    State.offOk (State.latchTamperAt s wt) := by
  simp (maxDischargeDepth := 60) [State.latchTamperAt, hO]
@[simp] theorem State.latchTamper_offOk (s : State) (hO : State.offOk s) :
    State.offOk (State.latchTamper s) := by
  simp (maxDischargeDepth := 60) [State.latchTamper, hO]
@[simp] theorem State.unpoweredOpening_offOk (s : State) (hO : State.offOk s) :
    State.offOk (State.unpoweredOpening s) := by
  simp (maxDischargeDepth := 60) [State.unpoweredOpening, hO]
theorem execTamperSwitchOpen_offOk (s : State) (hO : State.offOk s) :
    ∀ t, (execTamperSwitchOpen s) = .next t → State.offOk t := by
  rintro _ ⟨⟩; simp (maxDischargeDepth := 60) [hO]
theorem execSealLoopCheck_offOk (intact : Bool) (s : State) (hO : State.offOk s) :
    ∀ t, (execSealLoopCheck intact s) = .next t → State.offOk t := by
  rintro _ ⟨⟩; simp (maxDischargeDepth := 60) [hO]
theorem execUnpoweredEnclosureOpening_offOk (s : State) (hO : State.offOk s) :
    ∀ t, (execUnpoweredEnclosureOpening s) = .next t → State.offOk t := by
  rintro _ ⟨⟩; simp (maxDischargeDepth := 60) [hO]
@[simp] theorem State.bootTamper_offOk (s : State) (loopOk : Bool) (unfed : Bool) (downOt : Nat) (hO : State.offOk s) :
    State.offOk (State.bootTamper s loopOk unfed downOt) := by
  simp (maxDischargeDepth := 60) [State.bootTamper, hO]
theorem execUpdVerifyDone_offOk (s : State) (hO : State.offOk s) :
    ∀ t, (execUpdVerifyDone s) = .next t → State.offOk t := by
  rintro _ ⟨⟩; (repeat' split) <;> simp (maxDischargeDepth := 60) [hO]
theorem execUpdateSessionTimeout_offOk (s : State) (hO : State.offOk s) :
    ∀ t, (execUpdateSessionTimeout s) = .next t → State.offOk t := by
  rintro _ ⟨⟩; simp (maxDischargeDepth := 60) [hO]
@[simp] theorem State.actProgress_offOk (s : State) (step : Nat) (hO : State.offOk s) :
    State.offOk (State.actProgress s step) := by
  unfold State.actProgress; split <;> simp (maxDischargeDepth := 60) [hO]
@[simp] theorem State.beginTurn_offOk (s : State) (a : ActSt) (lane : Lane) (hO : State.offOk s) :
    State.offOk (State.beginTurn s a lane) := by
  simp (maxDischargeDepth := 60) [State.beginTurn, hO]
@[simp] theorem State.turnStart_offOk (s : State) (hO : State.offOk s) :
    State.offOk (State.turnStart s) := by
  unfold State.turnStart; (repeat' split) <;> simp (maxDischargeDepth := 60) [hO]
theorem execLaneTurn_offOk (lane : Lane) (s : State) (hO : State.offOk s) :
    ∀ t, (execLaneTurn lane s) = .next t → State.offOk t := by
  rintro _ ⟨⟩; (repeat' split) <;> simp (maxDischargeDepth := 60) [hO]
theorem execKernelLoadDone_offOk (lane : Lane) (s : State) (hO : State.offOk s) :
    ∀ t, (execKernelLoadDone lane s) = .next t → State.offOk t := by
  rintro _ ⟨⟩; simp (maxDischargeDepth := 60) [hO]
@[simp] theorem State.turnEnds_offOk (s : State) (l : Lane) (hO : State.offOk s) :
    State.offOk (State.turnEnds s l) := by
  unfold State.turnEnds; split <;> simp (maxDischargeDepth := 60) [hO]
@[simp] theorem State.switchLevel_offOk (s : State) (hO : State.offOk s) :
    State.offOk (State.switchLevel s) := by
  unfold State.switchLevel; split <;> simp (maxDischargeDepth := 60) [hO]
@[simp] theorem State.switchStart_offOk (s : State) (hO : State.offOk s) :
    State.offOk (State.switchStart s) := by
  simp (maxDischargeDepth := 60) [State.switchStart, hO]
theorem execLevelSwitch_offOk (s : State) (hO : State.offOk s) :
    ∀ t, (execLevelSwitch s) = .next t → State.offOk t := by
  rintro _ ⟨⟩; simp (maxDischargeDepth := 60) [hO]
@[simp] theorem State.actStart_offOk (s : State) (hO : State.offOk s) :
    State.offOk (State.actStart s) := by
  unfold State.actStart; split <;> simp (maxDischargeDepth := 60) [hO]
theorem execImageConfirmed_offOk (s : State) (hO : State.offOk s) :
    ∀ t, (execImageConfirmed s) = .next t → State.offOk t := by
  rintro _ ⟨⟩; (repeat' split) <;> simp (maxDischargeDepth := 60) [hO]
theorem execPostActivationTimeout_offOk (s : State) (hO : State.offOk s) :
    ∀ t, (execPostActivationTimeout s) = .next t → State.offOk t := by
  rintro _ ⟨⟩; (repeat' split) <;> simp (maxDischargeDepth := 60) [hO]
@[simp] theorem State.putSend_offOk (s : State) (r : SendRec) (hO : State.offOk s) :
    State.offOk (State.putSend s r) := by
  exact hO
@[simp] theorem State.putFb_offOk (s : State) (off : Nat) (b : Bytes) (hO : State.offOk s) :
    State.offOk (State.putFb s off b) := by
  exact hO
@[simp] theorem State.commitItem_offOk (held : List CmdRef) (s : State) (x2 : MirrorItem) (hO : State.offOk s) :
    State.offOk (State.commitItem held s x2) := by
  unfold State.commitItem; split <;> simp (maxDischargeDepth := 60) [hO]
@[simp] theorem State.commitSet_offOk (s : State) (is : List MirrorItem) (hO : State.offOk s) : State.offOk (s.commitSet is) := by
  unfold State.commitSet; dsimp only
  apply State.bindForces_offOk
  exact State.each_offOk _ _ _ hO fun s x h => State.commitItem_offOk _ s x h
@[simp] theorem State.unconfirm_offOk (s : State) (is : List MirrorItem) (hO : State.offOk s) :
    State.offOk (State.unconfirm s is) := by
  exact hO
@[simp] theorem State.sbAnswer_offOk (s : State) (ini : Initiator) (win : Nat) (off : Nat) (op : Nat) (fstat : Nat) (retry : Bool) (data : Bytes) (hO : State.offOk s) :
    State.offOk (State.sbAnswer s ini win off op fstat retry data) := by
  exact hO
@[simp] theorem State.takeSbSeq_offOk (s : State) (hO : State.offOk s) :
    State.offOk (State.takeSbSeq s).2 := by
  exact hO
@[simp] theorem State.sendBridge_offOk (s : State) (dst : Nat) (seq : Nat) (payload : Bytes) (hO : State.offOk s) :
    State.offOk (State.sendBridge s dst seq payload) := by
  simp (maxDischargeDepth := 60) [State.sendBridge, hO]
@[simp] theorem State.sendXfer_offOk (s : State) (x : Xfer) (hO : State.offOk s) :
    State.offOk (State.sendXfer s x) := by
  simp (maxDischargeDepth := 60) [State.sendXfer, hO]
@[simp] theorem State.pumpWindow_offOk (s : State) (w : Nat) (hO : State.offOk s) :
    State.offOk (State.pumpWindow s w) := by
  unfold State.pumpWindow; dsimp only; (repeat' split) <;> simp_all
@[simp] theorem State.finishXfer_offOk (s : State) (x : Xfer) (fstat : Nat) (data : Bytes) (hO : State.offOk s) :
    State.offOk (State.finishXfer s x fstat data) := by
  simp (maxDischargeDepth := 60) [State.finishXfer, hO]
@[simp] theorem State.spoil_offOk (s : State) (win : Nat) (off : Nat) (len : Nat) (hO : State.offOk s) :
    State.offOk (State.spoil s win off len) := by
  exact hO
@[simp] theorem State.sbTake_offOk (s : State) (ini : Initiator) (win : Nat) (off : Nat) (op : Nat) (len : Nat) (data : Bytes) (hO : State.offOk s) :
    State.offOk (State.sbTake s ini win off op len data) := by
  simp (maxDischargeDepth := 60) [State.sbTake, hO]
@[simp] theorem State.postedOff_offOk (s : State) (win : Nat) (off : Nat) (data : Bytes) (hO : State.offOk s) :
    State.offOk (State.postedOff s win off data) := by
  simp (maxDischargeDepth := 60) [State.postedOff, hO]
@[simp] theorem State.sbIssueWrite_offOk (s : State) (ini : Initiator) (win : Nat) (off : Nat) (op : Nat) (data : Bytes) (hO : State.offOk s) :
    State.offOk (State.sbIssueWrite s ini win off op data) := by
  unfold State.sbIssueWrite; split <;> simp (maxDischargeDepth := 60) [hO]
@[simp] theorem State.sbIssueRead_offOk (s : State) (ini : Initiator) (win : Nat) (off : Nat) (len : Nat) (hO : State.offOk s) :
    State.offOk (State.sbIssueRead s ini win off len) := by
  unfold State.sbIssueRead; (repeat' split) <;> simp (maxDischargeDepth := 60) [hO]
theorem execSbWrite_offOk (win : Nat) (off : Nat) (data : Bytes) (s : State) (hO : State.offOk s) :
    ∀ t, (execSbWrite win off data s) = .next t → State.offOk t := by
  rintro _ ⟨⟩; simp (maxDischargeDepth := 60) [hO]
theorem execSbRead_offOk (win : Nat) (off : Nat) (len : Nat) (s : State) (hO : State.offOk s) :
    ∀ t, (execSbRead win off len s) = .next t → State.offOk t := by
  rintro _ ⟨⟩; simp (maxDischargeDepth := 60) [hO]
theorem execSbPostedWrite_offOk (win : Nat) (off : Nat) (data : Bytes) (s : State) (hO : State.offOk s) :
    ∀ t, (execSbPostedWrite win off data s) = .next t → State.offOk t := by
  rintro _ ⟨⟩; simp (maxDischargeDepth := 60) [hO]
@[simp] theorem State.laneTransfer_offOk (s : State) (t : LaneTransfer) (hO : State.offOk s) :
    State.offOk (State.laneTransfer s t) := by
  unfold State.laneTransfer; split <;> simp (maxDischargeDepth := 60) [hO]
@[simp] theorem State.laneTransfers_offOk (s : State) (issued : Trio (List LaneTransfer)) (hO : State.offOk s) :
    State.offOk (State.laneTransfers s issued) := by
  simp (maxDischargeDepth := 60) +contextual [State.laneTransfers, hO, State.each_offOk, State.updCell_offOk]
@[simp] theorem State.freezeBridge_offOk (s : State) (hO : State.offOk s) :
    State.offOk (State.freezeBridge s) := by
  exact hO
@[simp] theorem State.serve_offOk (s : State) (bop : Nat) (addr : Nat) (len : Nat) (data : Bytes) (hO : State.offOk s) :
    State.offOk (State.serve s bop addr len data).2.2 := by
  unfold State.serve; dsimp only; (repeat' split) <;> simp_all
@[simp] theorem State.inbound_offOk (s : State) (g : Gvt) (hO : State.offOk s) :
    State.offOk (State.inbound s g) := by
  unfold State.inbound; dsimp only; (repeat' split) <;> simp (maxDischargeDepth := 60) +contextual [hO, State.each_offOk, State.when_offOk, State.updCell_offOk]
@[simp] theorem State.completion_offOk (s : State) (g : Gvt) (hO : State.offOk s) :
    State.offOk (State.completion s g) := by
  unfold State.completion; split <;> simp (maxDischargeDepth := 60) [hO]
@[simp] theorem State.tvFail_offOk (s : State) (hO : State.offOk s) :
    State.offOk (State.tvFail s) := by
  simp (maxDischargeDepth := 60) [State.tvFail, hO]
theorem execBridgeFrameReceived_offOk (net : Net) (f : Frame) (s : State) (hO : State.offOk s) :
    ∀ t, (execBridgeFrameReceived net f s) = .next t → State.offOk t := by
  rintro _ ⟨⟩; dsimp only; split
  · exact hO
  · refine State.notOwn_offOk _ _ _ hO ?_; (repeat' split) <;> simp (maxDischargeDepth := 60) [hO]
theorem execSbTransferTimeout_offOk (seq : Nat) (s : State) (hO : State.offOk s) :
    ∀ t, (execSbTransferTimeout seq s) = .next t → State.offOk t := by
  rintro _ ⟨⟩; (repeat' split) <;> simp (maxDischargeDepth := 60) [hO]
theorem execSbBusyRetry_offOk (seq : Nat) (s : State) (hO : State.offOk s) :
    ∀ t, (execSbBusyRetry seq s) = .next t → State.offOk t := by
  rintro _ ⟨⟩; (repeat' split) <;> simp (maxDischargeDepth := 60) [hO]
theorem execSbHeldResultExpiry_offOk (vk : Bool) (win : Nat) (off : Nat) (len : Nat) (s : State) (hO : State.offOk s) :
    ∀ t, (execSbHeldResultExpiry vk win off len s) = .next t → State.offOk t := by
  rintro _ ⟨⟩; simp (maxDischargeDepth := 60) [hO]
@[simp] theorem State.updPair_offOk (s : State) (f : PairSt → PairSt) (hO : State.offOk s) :
    State.offOk (State.updPair s f) := by
  exact hO
theorem execPstartReceived_offOk (m : PStart) (us : Nat) (s : State) (hO : State.offOk s) :
    ∀ t, (execPstartReceived m us s) = .next t → State.offOk t := by
  rintro _ ⟨⟩; simp (maxDischargeDepth := 60) [hO]
theorem execMblockReceived_offOk (m : MBlock) (s : State) (hO : State.offOk s) :
    ∀ t, (execMblockReceived m s) = .next t → State.offOk t := by
  rintro _ ⟨⟩; simp (maxDischargeDepth := 60) [hO]
theorem execMcloseReceived_offOk (m : MClose) (s : State) (hO : State.offOk s) :
    ∀ t, (execMcloseReceived m s) = .next t → State.offOk t := by
  rintro _ ⟨⟩; simp (maxDischargeDepth := 60) [hO]
theorem execPreportReceived_offOk (crcOk : Bool) (h : Health) (s : State) (hO : State.offOk s) :
    ∀ t, (execPreportReceived crcOk h s) = .next t → State.offOk t := by
  rintro _ ⟨⟩; simp (maxDischargeDepth := 60) [hO]
@[simp] theorem State.noteCmd_offOk (s : State) (r : CmdRef) (hO : State.offOk s) :
    State.offOk (State.noteCmd s r) := by
  exact hO
theorem execCmdfwdReceived_offOk (m : CmdFwdMsg) (s : State) (hO : State.offOk s) :
    ∀ t, (execCmdfwdReceived m s) = .next t → State.offOk t := by
  rintro _ ⟨⟩; (repeat' split) <;> simp (maxDischargeDepth := 60) [hO]
theorem execHeartbeatReceived_offOk (net : Net) (f : Frame) (s : State) (hO : State.offOk s) :
    ∀ t, (execHeartbeatReceived net f s) = .next t → State.offOk t := by
  rintro _ ⟨⟩; dsimp only; split
  · exact hO
  · refine State.notOwn_offOk _ _ _ hO ?_; (repeat' split) <;> simp (maxDischargeDepth := 60) [hO]
@[simp] theorem State.sendHeartbeat_offOk (s : State) (hO : State.offOk s) :
    State.offOk (State.sendHeartbeat s) := by
  simp (maxDischargeDepth := 60) [State.sendHeartbeat, hO]
theorem execPlLinkLoss_offOk (link2 : Bool) (s : State) (hO : State.offOk s) :
    ∀ t, (execPlLinkLoss link2 s) = .next t → State.offOk t := by
  rintro _ ⟨⟩; simp (maxDischargeDepth := 60) [hO]
theorem execPlLinkReturn_offOk (link2 : Bool) (s : State) (hO : State.offOk s) :
    ∀ t, (execPlLinkReturn link2 s) = .next t → State.offOk t := by
  rintro _ ⟨⟩; simp (maxDischargeDepth := 60) [hO]
theorem execOpticInserted_offOk (link2 : Bool) (kind : Optic) (s : State) (hO : State.offOk s) :
    ∀ t, (execOpticInserted link2 kind s) = .next t → State.offOk t := by
  rintro _ ⟨⟩; simp (maxDischargeDepth := 60) [hO]
@[simp] theorem State.pairCmdDone_offOk (s : State) (r : CmdRef) (before : Nat) (after : Nat) (st : Nat) (hO : State.offOk s) :
    State.offOk (State.pairCmdDone s r before after st) := by
  simp (maxDischargeDepth := 60) [State.pairCmdDone, hO]
@[simp] theorem State.endHandover_offOk (s : State) (after : Nat) (st : Nat) (hO : State.offOk s) :
    State.offOk (State.endHandover s after st) := by
  unfold State.endHandover; split <;> simp (maxDischargeDepth := 60) [hO]
@[simp] theorem State.handoverDone_offOk (s : State) (hO : State.offOk s) :
    State.offOk (State.handoverDone s) := by
  simp (maxDischargeDepth := 60) [State.handoverDone, hO]
@[simp] theorem State.leadWith_offOk (s : State) (e : Nat) (hO : State.offOk s) :
    State.offOk (State.leadWith s e) := by
  simp (maxDischargeDepth := 60) [State.leadWith, hO]
@[simp] theorem State.takeLead_offOk (s : State) (hO : State.offOk s) :
    State.offOk (State.takeLead s) := by
  simp (maxDischargeDepth := 60) [State.takeLead, hO]
@[simp] theorem State.becomeFollow_offOk (s : State) (instep : Nat) (hO : State.offOk s) :
    State.offOk (State.becomeFollow s instep) := by
  simp (maxDischargeDepth := 60) [State.becomeFollow, hO]
@[simp] theorem State.outOfStep_offOk (s : State) (hO : State.offOk s) :
    State.offOk (State.outOfStep s) := by
  simp (maxDischargeDepth := 60) [State.outOfStep, hO]
@[simp] theorem State.relinquish_offOk (s : State) (hO : State.offOk s) :
    State.offOk (State.relinquish s) := by
  simp (maxDischargeDepth := 60) [State.relinquish, hO]
@[simp] theorem State.takeIfDue_offOk (s : State) (hO : State.offOk s) :
    State.offOk (State.takeIfDue s) := by
  simp (maxDischargeDepth := 60) [State.takeIfDue, hO]
theorem execPartnerSilent_offOk (s : State) (hO : State.offOk s) :
    ∀ t, (execPartnerSilent s) = .next t → State.offOk t := by
  rintro _ ⟨⟩; simp (maxDischargeDepth := 60) [hO]
theorem execRevertHoldOff_offOk (s : State) (hO : State.offOk s) :
    ∀ t, (execRevertHoldOff s) = .next t → State.offOk t := by
  rintro _ ⟨⟩; simp (maxDischargeDepth := 60) [hO]
@[simp] theorem State.comeInStep_offOk (s : State) (hO : State.offOk s) :
    State.offOk (State.comeInStep s) := by
  simp (maxDischargeDepth := 60) [State.comeInStep, hO]
theorem execInStep_offOk (s : State) (hO : State.offOk s) :
    ∀ t, (execInStep s) = .next t → State.offOk t := by
  rintro _ ⟨⟩; simp (maxDischargeDepth := 60) [hO]
@[simp] theorem State.endConflict_offOk (s : State) (hO : State.offOk s) :
    State.offOk (State.endConflict s) := by
  simp (maxDischargeDepth := 60) [State.endConflict, hO]
theorem execLeadClaimConflict_offOk (s : State) (hO : State.offOk s) :
    ∀ t, (execLeadClaimConflict s) = .next t → State.offOk t := by
  rintro _ ⟨⟩; simp (maxDischargeDepth := 60) [hO]
@[simp] theorem State.joinRestart_offOk (s : State) (hO : State.offOk s) :
    State.offOk (State.joinRestart s) := by
  simp (maxDischargeDepth := 60) [State.joinRestart, hO]
@[simp] theorem State.joinExpiry_offOk (s : State) (hO : State.offOk s) :
    State.offOk (State.joinExpiry s) := by
  simp (maxDischargeDepth := 60) [State.joinExpiry, hO]
theorem execJoinWaitExpiry_offOk (s : State) (hO : State.offOk s) :
    ∀ t, (execJoinWaitExpiry s) = .next t → State.offOk t := by
  rintro _ ⟨⟩; simp (maxDischargeDepth := 60) [hO]
theorem execPairApplyTimeout_offOk (s : State) (hO : State.offOk s) :
    ∀ t, (execPairApplyTimeout s) = .next t → State.offOk t := by
  rintro _ ⟨⟩; simp (maxDischargeDepth := 60) [hO]
@[simp] theorem State.dropFar_offOk (s : State) (hO : State.offOk s) :
    State.offOk (State.dropFar s) := by
  simp (maxDischargeDepth := 60) [State.dropFar, hO]
@[simp] theorem State.startJoining_offOk (s : State) (hO : State.offOk s) :
    State.offOk (State.startJoining s) := by
  simp (maxDischargeDepth := 60) [State.startJoining, hO]
@[simp] theorem State.fallSilent_offOk (s : State) (hO : State.offOk s) :
    State.offOk (State.fallSilent s) := by
  simp (maxDischargeDepth := 60) [State.fallSilent, hO]
@[simp] theorem State.pairCount_offOk (s : State) (hO : State.offOk s) :
    State.offOk (State.pairCount s) := by
  unfold State.pairCount; split <;> simp (maxDischargeDepth := 60) [hO]
@[simp] theorem State.countSilence_offOk (s : State) (hO : State.offOk s) :
    State.offOk (State.countSilence s) := by
  simp (maxDischargeDepth := 60) [State.countSilence, hO]
@[simp] theorem State.adoptEpoch_offOk (s : State) (hO : State.offOk s) :
    State.offOk (State.adoptEpoch s) := by
  simp (maxDischargeDepth := 60) [State.adoptEpoch, hO]
@[simp] theorem State.claims_offOk (s : State) (hO : State.offOk s) :
    State.offOk (State.claims s) := by
  simp (maxDischargeDepth := 60) [State.claims, hO]
@[simp] theorem State.compareOne_offOk (s : State) (h : Health) (hO : State.offOk s) :
    State.offOk (State.compareOne s h) := by
  unfold State.compareOne; split <;> simp (maxDischargeDepth := 60) [hO]
@[simp] theorem State.compareReports_offOk (s : State) (hO : State.offOk s) :
    State.offOk (State.compareReports s) := by
  simp (maxDischargeDepth := 60) +contextual [State.compareReports, hO, State.each_offOk, State.updCell_offOk]
@[simp] theorem State.keepOwn_offOk (s : State) (is : List MirrorItem) (hO : State.offOk s) :
    State.offOk (State.keepOwn s is) := by
  simp (maxDischargeDepth := 60) [State.keepOwn, hO]
@[simp] theorem State.commitMirror_offOk (s : State) (hO : State.offOk s) :
    State.offOk (State.commitMirror s) := by
  unfold State.commitMirror; dsimp only; (repeat' split) <;> simp (maxDischargeDepth := 60) +contextual [hO, State.each_offOk, State.when_offOk, State.updCell_offOk]
@[simp] theorem State.phaseCheck_offOk (s : State) (hO : State.offOk s) :
    State.offOk (State.phaseCheck s) := by
  simp (maxDischargeDepth := 60) [State.phaseCheck, hO]
@[simp] theorem State.phaseCorrect_offOk (s : State) (hO : State.offOk s) :
    State.offOk (State.phaseCorrect s) := by
  exact hO
@[simp] theorem State.assumeNow_offOk (s : State) (hO : State.offOk s) :
    State.offOk (State.assumeNow s) := by
  unfold State.assumeNow; split <;> simp (maxDischargeDepth := 60) [hO]
@[simp] theorem State.mirrorAbandon_offOk (s : State) (hO : State.offOk s) :
    State.offOk (State.mirrorAbandon s) := by
  simp (maxDischargeDepth := 60) [State.mirrorAbandon, hO]
@[simp] theorem State.holdRestart_offOk (s : State) (hO : State.offOk s) :
    State.offOk (State.holdRestart s) := by
  simp (maxDischargeDepth := 60) [State.holdRestart, hO]
@[simp] theorem State.pairStart_offOk (s : State) (hO : State.offOk s) :
    State.offOk (State.pairStart s) := by
  simp (maxDischargeDepth := 60) [State.pairStart, hO]
@[simp] theorem State.pairClaim_offOk (s : State) (hO : State.offOk s) :
    State.offOk (State.pairClaim s) := by
  simp (maxDischargeDepth := 60) [State.pairClaim, hO]
@[simp] theorem State.noteEntered_offOk (s : State) (ops : List OpCmd) (hO : State.offOk s) :
    State.offOk (State.noteEntered s ops) := by
  simp (maxDischargeDepth := 60) [State.noteEntered, hO]
@[simp] theorem State.opsOf_offOk (s : State) (hO : State.offOk s) :
    State.offOk (State.opsOf s).2 := by
  unfold State.opsOf; split <;> simp (maxDischargeDepth := 60) [hO]
@[simp] theorem State.numberOp_offOk (x : List OpCmd × State) (o : OpCmd) (hO : State.offOk x.2) : State.offOk (State.numberOp x o).2 := by
  unfold State.numberOp; split <;> simp [hO]
@[simp] theorem State.numberOps_offOk (os : List OpCmd) (x : List OpCmd × State) (hO : State.offOk x.2) :
    State.offOk (os.foldl State.numberOp x).2 := by
  induction os generalizing x with
  | nil => exact hO
  | cons o os ih => exact ih _ (State.numberOp_offOk _ _ hO)
@[simp] theorem State.takeOps_offOk (s : State) (hO : State.offOk s) :
    State.offOk (State.takeOps s).2 := by
  unfold State.takeOps; dsimp only; split <;> simp [hO]
@[simp] theorem State.holdForces_offOk (s : State) (hO : State.offOk s) :
    State.offOk (State.holdForces s) := by
  simp (maxDischargeDepth := 60) [State.holdForces, hO]
@[simp] theorem State.listForce_offOk (s : State) (c : ForceCmd) (hO : State.offOk s) :
    State.offOk (State.listForce s c) := by
  simp (maxDischargeDepth := 60) [State.listForce, hO]
@[simp] theorem State.listApply_offOk (s : State) (hO : State.offOk s) :
    State.offOk (State.listApply s) := by
  exact hO
@[simp] theorem State.takeLists_offOk (s : State) (hO : State.offOk s) :
    State.offOk (State.takeLists s) := by
  unfold State.takeLists; dsimp only; (repeat' split) <;> simp (maxDischargeDepth := 60) +contextual [hO, State.each_offOk, State.when_offOk, State.updCell_offOk]
@[simp] theorem State.sendPstart_offOk (s : State) (ops : List OpCmd) (hO : State.offOk s) :
    State.offOk (State.sendPstart s ops) := by
  simp (maxDischargeDepth := 60) [State.sendPstart, hO]
@[simp] theorem State.formReport_offOk (s : State) (hO : State.offOk s) :
    State.offOk (State.formReport s) := by
  exact hO
@[simp] theorem State.pairDone_offOk (s : State) (hO : State.offOk s) :
    State.offOk (State.pairDone s) := by
  simp (maxDischargeDepth := 60) +contextual [State.pairDone, hO, State.each_offOk, State.updCell_offOk]
theorem execMcloseSend_offOk (s : State) (hO : State.offOk s) :
    ∀ t, (execMcloseSend s) = .next t → State.offOk t := by
  rintro _ ⟨⟩; simp (maxDischargeDepth := 60) [hO]
@[simp] theorem State.sendTunnel_offOk (s : State) (n : Nat) (seq : Nat) (data : Bytes) (hO : State.offOk s) :
    State.offOk (State.sendTunnel s n seq data) := by
  simp (maxDischargeDepth := 60) [State.sendTunnel, hO]
@[simp] theorem State.carry_offOk (s : State) (n : Nat) (data : Bytes) (hO : State.offOk s) :
    State.offOk (State.carry s n data) := by
  simp (maxDischargeDepth := 60) [State.carry, hO]
@[simp] theorem State.carryOr_offOk (s : State) (n : Nat) (data : Bytes) (hO : State.offOk s) :
    State.offOk (State.carryOr s n data) := by
  simp (maxDischargeDepth := 60) [State.carryOr, hO]
@[simp] theorem State.lineFrame_offOk (s : State) (port : Nat) (data : Bytes) (bad : Bool) (hO : State.offOk s) :
    State.offOk (State.lineFrame s port data bad) := by
  unfold State.lineFrame; dsimp only; (repeat' split) <;> simp_all
theorem execLegacyFrameReceived_offOk (port : Nat) (data : Bytes) (ending : LegacyEnd) (s : State) (hO : State.offOk s) :
    ∀ t, (execLegacyFrameReceived port data ending s) = .next t → State.offOk t := by
  rintro _ ⟨⟩; dsimp only; (repeat' split) <;> simp_all
@[simp] theorem State.tunnelData_offOk (s : State) (n : Nat) (g : Gvt) (hO : State.offOk s) :
    State.offOk (State.tunnelData s n g) := by
  simp (maxDischargeDepth := 60) [State.tunnelData, hO]
theorem execTunnelFrameReceived_offOk (net : Net) (f : Frame) (s : State) (hO : State.offOk s) :
    ∀ t, (execTunnelFrameReceived net f s) = .next t → State.offOk t := by
  rintro _ ⟨⟩; dsimp only; split
  · exact hO
  · refine State.notOwn_offOk _ _ _ hO ?_; (repeat' split) <;> simp (maxDischargeDepth := 60) [hO]
theorem execLegacyTransmit_offOk (tunnel : Nat) (s : State) (hO : State.offOk s) :
    ∀ t, (execLegacyTransmit tunnel s) = .next t → State.offOk t := by
  rintro _ ⟨⟩; dsimp only; (repeat' split) <;> simp_all
theorem execTunnelKeepalive_offOk (tunnel : Nat) (s : State) (hO : State.offOk s) :
    ∀ t, (execTunnelKeepalive tunnel s) = .next t → State.offOk t := by
  rintro _ ⟨⟩; simp (maxDischargeDepth := 60) [hO]
theorem execTunnelDown_offOk (tunnel : Nat) (s : State) (hO : State.offOk s) :
    ∀ t, (execTunnelDown tunnel s) = .next t → State.offOk t := by
  rintro _ ⟨⟩; simp (maxDischargeDepth := 60) [hO]
@[simp] theorem State.latchCurrent_offOk (s : State) (c : Nat) (hO : State.offOk s) :
    State.offOk (State.latchCurrent s c) := by
  simp (maxDischargeDepth := 60) +contextual [State.latchCurrent, hO, State.each_offOk, State.updCell_offOk]
@[simp] theorem State.latchStatus_offOk (s : State) (hO : State.offOk s) :
    State.offOk (State.latchStatus s) := by
  simp (maxDischargeDepth := 60) +contextual [State.latchStatus, hO, State.each_offOk, State.updCell_offOk]
@[simp] theorem State.updCyc_offOk (s : State) (f : CycleSt → CycleSt) (hO : State.offOk s) :
    State.offOk (State.updCyc s f) := by
  exact hO
@[simp] theorem State.advanceSends_offOk (s : State) (conns : List Nat) (hO : State.offOk s) :
    State.offOk (State.advanceSends s conns) := by
  exact hO
@[simp] theorem State.putForm_offOk (s : State) (f : VoteForm) (hO : State.offOk s) :
    State.offOk (State.putForm s f) := by
  exact hO
@[simp] theorem State.holdForm_offOk (s : State) (hO : State.offOk s) :
    State.offOk (State.holdForm s) := by
  exact hO
@[simp] theorem State.keepImage_offOk (s : State) (f : VoteForm) (hO : State.offOk s) :
    State.offOk (State.keepImage s f) := by
  exact hO
@[simp] theorem State.tickCompare_offOk (s : State) (t : Trio Nat) (hO : State.offOk s) :
    State.offOk (State.tickCompare s t) := by
  unfold State.tickCompare; dsimp only; (repeat' split) <;> simp (maxDischargeDepth := 60) +contextual [hO, State.each_offOk, State.when_offOk, State.updCell_offOk]
@[simp] theorem State.otsCheck_offOk (s : State) (t : Trio Nat) (hO : State.offOk s) :
    State.offOk (State.otsCheck s t) := by
  simp (maxDischargeDepth := 60) [State.otsCheck, hO]
@[simp] theorem State.eventEffects_offOk (s : State) (hO : State.offOk s) :
    State.offOk (State.eventEffects s) := by
  simp (maxDischargeDepth := 60) +contextual [State.eventEffects, hO, State.each_offOk, State.updCell_offOk]
@[simp] theorem State.fbStores_offOk (s : State) (env : StartEnv) (ls : List Lane) (hO : State.offOk s) :
    State.offOk (State.fbStores s env ls) := by
  simp (maxDischargeDepth := 60) +contextual [State.fbStores, hO, State.each_offOk, State.updCell_offOk]
@[simp] theorem State.exercise_offOk (s : State) (env : StartEnv) (hO : State.offOk s) :
    State.offOk (State.exercise s env) := by
  simp (maxDischargeDepth := 60) +contextual [State.exercise, hO, State.each_offOk, State.updCell_offOk]
@[simp] theorem State.syncPass_offOk (s : State) (hO : State.offOk s) :
    State.offOk (State.syncPass s) := by
  simp (maxDischargeDepth := 60) [State.syncPass, hO]
@[simp] theorem State.enterMode_offOk (s : State) (m : ExecMode) (hO : State.offOk s) :
    State.offOk (State.enterMode s m) := by
  simp (maxDischargeDepth := 60) [State.enterMode, hO]
@[simp] theorem State.modeStep_offOk (s : State) (hO : State.offOk s) :
    State.offOk (State.modeStep s) := by
  unfold State.modeStep; dsimp only; (repeat' split) <;> simp (maxDischargeDepth := 60) +contextual [hO, State.each_offOk, State.when_offOk, State.updCell_offOk]
@[simp] theorem State.rejoinLane_offOk (s : State) (l : Lane) (hO : State.offOk s) :
    State.offOk (State.rejoinLane s l) := by
  simp (maxDischargeDepth := 60) [State.rejoinLane, hO]
@[simp] theorem State.resyncEntry_offOk (s : State) (hO : State.offOk s) :
    State.offOk (State.resyncEntry s) := by
  unfold State.resyncEntry; (repeat' split) <;> simp (maxDischargeDepth := 60) [hO]
@[simp] theorem State.stagedWork_offOk (s : State) (hO : State.offOk s) :
    State.offOk (State.stagedWork s) := by
  simp (maxDischargeDepth := 60) [State.stagedWork, hO]
@[simp] theorem State.formCore_offOk (s : State) (hO : State.offOk s) :
    State.offOk (State.formCore s) := by
  exact hO
@[simp] theorem State.fbStep_offOk (s : State) (hO : State.offOk s) :
    State.offOk (State.fbStep s) := by
  simp (maxDischargeDepth := 60) [State.fbStep, hO]
@[simp] theorem State.runPasses_offOk (s : State) (ops : List OpCmd) (dt : Nat) (hO : State.offOk s) :
    State.offOk (State.runPasses s ops dt) := by
  simp (maxDischargeDepth := 60) [State.runPasses, hO]
@[simp] theorem State.runCycle_offOk (s : State) (ops : List OpCmd) (dt : Nat) (hO : State.offOk s) :
    State.offOk (State.runCycle s ops dt) := by
  simp (maxDischargeDepth := 60) [State.runCycle, hO]
@[simp] theorem State.readCommons_offOk (s : State) (hO : State.offOk s) :
    State.offOk (State.readCommons s) := by
  simp (maxDischargeDepth := 60) +contextual [State.readCommons, hO, State.each_offOk, State.updCell_offOk]
@[simp] theorem State.compute_offOk (s : State) (dt : Nat) (hO : State.offOk s) :
    State.offOk (State.compute s dt) := by
  unfold State.compute; dsimp only; (repeat' split) <;> simp (maxDischargeDepth := 60) +contextual [hO, State.each_offOk, State.when_offOk, State.updCell_offOk]
@[simp] theorem State.takeTicks_offOk (s : State) (t : Trio Nat) (hO : State.offOk s) :
    State.offOk (State.takeTicks s t) := by
  exact hO
@[simp] theorem State.beforeSnapshot_offOk (s : State) (hO : State.offOk s) :
    State.offOk (State.beforeSnapshot s) := by
  simp (maxDischargeDepth := 60) +contextual [State.beforeSnapshot, hO, State.each_offOk, State.updCell_offOk]
@[simp] theorem State.cycleStart_offOk (s : State) (env : StartEnv) (hO : State.offOk s) :
    State.offOk (State.cycleStart s env) := by
  simp (maxDischargeDepth := 60) [State.cycleStart, hO]
@[simp] theorem State.overrunCheck_offOk (s : State) (hO : State.offOk s) :
    State.offOk (State.overrunCheck s) := by
  unfold State.overrunCheck; (repeat' split) <;> simp (maxDischargeDepth := 60) [hO]
theorem execOverrunLimit_offOk (s : State) (hO : State.offOk s) :
    ∀ t, (execOverrunLimit s) = .next t → State.offOk t := by
  rintro _ ⟨⟩; simp (maxDischargeDepth := 60) [hO]
@[simp] theorem State.skipSlot_offOk (s : State) (hO : State.offOk s) :
    State.offOk (State.skipSlot s) := by
  simp (maxDischargeDepth := 60) [State.skipSlot, hO]
@[simp] theorem State.withdrawLate_offOk (s : State) (l : Lane) (hO : State.offOk s) :
    State.offOk (State.withdrawLate s l) := by
  simp (maxDischargeDepth := 60) [State.withdrawLate, hO]
@[simp] theorem State.doneMissing_offOk (s : State) (env : StartEnv) (hO : State.offOk s) :
    State.offOk (State.doneMissing s env) := by
  simp (maxDischargeDepth := 60) +contextual [State.doneMissing, hO, State.each_offOk, State.updCell_offOk]
@[simp] theorem State.copyAbandon_offOk (s : State) (hO : State.offOk s) :
    State.offOk (State.copyAbandon s) := by
  unfold State.copyAbandon; split <;> simp (maxDischargeDepth := 60) [hO]
@[simp] theorem State.dueTime_offOk (s : State) (env : StartEnv) (hO : State.offOk s) :
    State.offOk (State.dueTime s env) := by
  simp (maxDischargeDepth := 60) [State.dueTime, hO]
@[simp] theorem State.enterSplit_offOk (s : State) (l : Lane) (hO : State.offOk s) :
    State.offOk (State.enterSplit s l) := by
  simp (maxDischargeDepth := 60) [State.enterSplit, hO]
@[simp] theorem State.leaveSplit_offOk (s : State) (old : State) (l : Lane) (hO : State.offOk s) :
    State.offOk (State.leaveSplit s old l) := by
  simp (maxDischargeDepth := 60) [State.leaveSplit, hO]
@[simp] theorem State.sendNonVital_offOk (s : State) (hO : State.offOk s) :
    State.offOk (State.sendNonVital s) := by
  simp (maxDischargeDepth := 60) +contextual [State.sendNonVital, hO, State.each_offOk, State.updCell_offOk]
@[simp] theorem State.splitForm_offOk (s : State) (ops : List OpCmd) (dt : Nat) (hO : State.offOk s) :
    State.offOk (State.splitForm s ops dt) := by
  unfold State.splitForm; split <;> simp (maxDischargeDepth := 60) [hO]
@[simp] theorem State.splitStart_offOk (s : State) (env : StartEnv) (hO : State.offOk s) :
    State.offOk (State.splitStart s env).2 := by
  unfold State.splitStart; dsimp only
  exact State.snapConns_offOk _ (State.readCommons_offOk _ (State.takeOps_offOk _ (State.freezeAll_offOk _ (State.latchAll_offOk _
    (State.beforeSnapshot_offOk _ (State.updCyc_offOk _ _ hO))))))
@[simp] theorem State.splitRun_offOk (s : State) (env : StartEnv) (hO : State.offOk s) :
    State.offOk (State.splitRun s env) := by
  unfold State.splitRun; dsimp only
  exact State.latchStatus_offOk _ (State.latchSummary_offOk _ (State.finishApply_offOk _ (State.flushCompl_offOk _ (State.updCyc_offOk _ _
    (State.splitForm_offOk _ _ _ (State.splitStart_offOk _ _ hO))))))
@[simp] theorem State.splitCycle_offOk (s : State) (l : Lane) (env : StartEnv) (hO : State.offOk s) :
    State.offOk (State.splitCycle s l env) := by
  simp (maxDischargeDepth := 60) [State.splitCycle, hO]
theorem execDueMark_offOk (lane : Lane) (env : StartEnv) (s : State) (hO : State.offOk s) :
    ∀ t, (execDueMark lane env s) = .next t → State.offOk t := by
  rintro _ ⟨⟩; simp (maxDischargeDepth := 60) [hO]
@[simp] theorem State.recordList_offOk (s : State) (flags : Nat) (hO : State.offOk s) :
    State.offOk (State.recordList s flags) := by
  simp (maxDischargeDepth := 60) +contextual [State.recordList, hO, State.each_offOk, State.updCell_offOk]
@[simp] theorem State.recordSafe_offOk (s : State) (hO : State.offOk s) :
    State.offOk (State.recordSafe s) := by
  simp (maxDischargeDepth := 60) [State.recordSafe, hO]
@[simp] theorem State.budget_offOk (s : State) (l : Lane) (t : Nat) (hO : State.offOk s) :
    State.offOk (State.budget s l t) := by
  simp (maxDischargeDepth := 60) [State.budget, hO]
@[simp] theorem State.postDone_offOk (s : State) (comp : Trio Nat) (done : Trio Bool) (hO : State.offOk s) :
    State.offOk (State.postDone s comp done) := by
  simp (maxDischargeDepth := 60) +contextual [State.postDone, hO, State.each_offOk, State.updCell_offOk]
@[simp] theorem State.safetyLimit_offOk (s : State) (hO : State.offOk s) :
    State.offOk (State.safetyLimit s) := by
  unfold State.safetyLimit; split <;> simp (maxDischargeDepth := 60) [hO]
theorem execSafetyCodeFailLimit_offOk (s : State) (hO : State.offOk s) :
    ∀ t, (execSafetyCodeFailLimit s) = .next t → State.offOk t := by
  rintro _ ⟨⟩; simp (maxDischargeDepth := 60) [hO]
@[simp] theorem State.cycleEnd_offOk (s : State) (hO : State.offOk s) :
    State.offOk (State.cycleEnd s) := by
  simp (maxDischargeDepth := 60) [State.cycleEnd, hO]
@[simp] theorem State.cycleDone_offOk (s : State) (comp : Trio Nat) (done : Trio Bool) (hO : State.offOk s) :
    State.offOk (State.cycleDone s comp done) := by
  simp (maxDischargeDepth := 60) [State.cycleDone, hO]
@[simp] theorem State.shadow_offOk (s : State) (forms : Trio FormIn) (f : VoteForm) (hO : State.offOk s) :
    State.offOk (State.shadow s forms f) := by
  unfold State.shadow; (repeat' split) <;> simp (maxDischargeDepth := 60) [hO]
@[simp] theorem State.minority_offOk (s : State) (forms : Trio FormIn) (f : VoteForm) (l : Lane) (hO : State.offOk s) :
    State.offOk (State.minority s forms f l) := by
  unfold State.minority; split <;> simp (maxDischargeDepth := 60) [hO]
@[simp] theorem State.afterVote_offOk (s : State) (f : VoteForm) (issued : Trio (List LaneTransfer)) (hO : State.offOk s) :
    State.offOk (State.afterVote s f issued) := by
  simp (maxDischargeDepth := 60) [State.afterVote, hO]
@[simp] theorem State.stampForms_offOk (s : State) (forms : Trio FormIn) (hO : State.offOk s) :
    State.offOk (State.stampForms s forms) := by
  exact hO
theorem execExchangeClose_offOk (forms : Trio FormIn) (issued : Trio (List LaneTransfer)) (comp : Trio Nat) (done : Trio Bool) (s : State) (hO : State.offOk s) :
    ∀ t, (execExchangeClose forms issued comp done s) = .next t → State.offOk t := by
  rintro _ ⟨⟩; dsimp only; (repeat' split) <;> simp (maxDischargeDepth := 60) +contextual [hO, State.each_offOk, State.fed_offOk, State.updCell_offOk]
@[simp] theorem State.scFailed_offOk (s : State) (conn : Nat) (names : List Lane) (hO : State.offOk s) :
    State.offOk (State.scFailed s conn names) := by
  simp (maxDischargeDepth := 60) +contextual [State.scFailed, hO, State.each_offOk, State.updCell_offOk]
@[simp] theorem State.release_offOk (s : State) (k : ConnCfg) (g : Gvt) (hO : State.offOk s) :
    State.offOk (State.release s k g) := by
  simp (maxDischargeDepth := 60) +contextual [State.release, hO, State.each_offOk, State.updCell_offOk]
theorem execTelegramRelease_offOk (conn : Nat) (sc1 : Option Nat) (sc2 : Option Nat) (comp : Trio Nat) (done : Trio Bool) (s : State) (hO : State.offOk s) :
    ∀ t, (execTelegramRelease conn sc1 sc2 comp done s) = .next t → State.offOk t := by
  rintro _ ⟨⟩; dsimp only; (repeat' split) <;> simp (maxDischargeDepth := 60) +contextual [hO, State.each_offOk, State.fed_offOk, State.updCell_offOk]
theorem execResyncCopy_offOk (lane : Lane) (r : CopyResult) (s : State) (hO : State.offOk s) :
    ∀ t, (execResyncCopy lane r s) = .next t → State.offOk t := by
  rintro _ ⟨⟩; simp (maxDischargeDepth := 60) [hO]
theorem execResyncRetry_offOk (lane : Lane) (s : State) (hO : State.offOk s) :
    ∀ t, (execResyncRetry lane s) = .next t → State.offOk t := by
  rintro _ ⟨⟩; simp (maxDischargeDepth := 60) [hO]
theorem execRejoin_offOk (lane : Lane) (s : State) (hO : State.offOk s) :
    ∀ t, (execRejoin lane s) = .next t → State.offOk t := by
  rintro _ ⟨⟩; simp (maxDischargeDepth := 60) [hO]
@[simp] theorem State.mismatch_offOk (s : State) (l : Lane) (hO : State.offOk s) :
    State.offOk (State.mismatch s l) := by
  simp (maxDischargeDepth := 60) [State.mismatch, hO]
theorem execComparatorMismatch_offOk (x : Handshake) (s : State) (hO : State.offOk s) :
    ∀ t, (execComparatorMismatch x s) = .next t → State.offOk t := by
  rintro _ ⟨⟩; simp (maxDischargeDepth := 60) +contextual [hO, State.each_offOk, State.fed_offOk, State.updCell_offOk]
theorem execArbitrationSelfTestDone_offOk (lane : Lane) (core0 : Bool) (core1 : Bool) (cmp : Bool) (s : State) (hO : State.offOk s) :
    ∀ t, (execArbitrationSelfTestDone lane core0 core1 cmp s) = .next t → State.offOk t := by
  rintro _ ⟨⟩; (repeat' split) <;> simp (maxDischargeDepth := 60) [hO]
theorem execArbitrationSelfTestTimeout_offOk (lane : Lane) (s : State) (hO : State.offOk s) :
    ∀ t, (execArbitrationSelfTestTimeout lane s) = .next t → State.offOk t := by
  rintro _ ⟨⟩; simp (maxDischargeDepth := 60) [hO]
@[simp] theorem State.reloadTables_offOk (s : State) (l : Lane) (hO : State.offOk s) :
    State.offOk (State.reloadTables s l) := by
  exact hO
@[simp] theorem State.checkPassed_offOk (s : State) (l : Lane) (hO : State.offOk s) :
    State.offOk (State.checkPassed s l) := by
  exact hO
theorem execRestartCheckDone_offOk (lane : Lane) (cmpOk : Bool) (bankOk : Bool) (s : State) (hO : State.offOk s) :
    ∀ t, (execRestartCheckDone lane cmpOk bankOk s) = .next t → State.offOk t := by
  rintro _ ⟨⟩; simp (maxDischargeDepth := 60) [hO]
theorem execProgressTimeout_offOk (lane : Lane) (s : State) (hO : State.offOk s) :
    ∀ t, (execProgressTimeout lane s) = .next t → State.offOk t := by
  rintro _ ⟨⟩; simp (maxDischargeDepth := 60) +contextual [hO, State.each_offOk, State.fed_offOk, State.updCell_offOk]
theorem execLaneStall_offOk (lane : Lane) (s : State) (hO : State.offOk s) :
    ∀ t, (execLaneStall lane s) = .next t → State.offOk t := by
  rintro _ ⟨⟩; simp (maxDischargeDepth := 60) +contextual [hO, State.each_offOk, State.fed_offOk, State.updCell_offOk]
theorem execIllegalDualRailCode_offOk (region : Nat) (block : Nat) (s : State) (hO : State.offOk s) :
    ∀ t, (execIllegalDualRailCode region block s) = .next t → State.offOk t := by
  rintro _ ⟨⟩; simp (maxDischargeDepth := 60) +contextual [hO, State.each_offOk, State.fed_offOk, State.updCell_offOk]
theorem State.ofCore_offOk (s : State) (l : Lane) (core : Bool) (f : State → State) (hO : State.offOk s)
    (h : ∀ s, State.offOk s → State.offOk (f s)) : State.offOk (State.ofCore s l core f) := by
  unfold State.ofCore; exact State.updLane_offOk _ _ _ (h _ (State.updLane_offOk _ _ _ hO))
theorem execCacheError_offOk (lane : Lane) (kind : CacheEvent) (s : State) (hO : State.offOk s) :
    ∀ t, (execCacheError lane kind s) = .next t → State.offOk t := by
  rintro _ ⟨⟩; refine State.fed_offOk _ _ hO fun s hO => State.ofCore_offOk _ _ _ _ hO fun s hO => ?_; split <;> simp [hO]
theorem execMemoryScrubError_offOk (lane : Lane) (found : ScrubEvent) (s : State) (hO : State.offOk s) :
    ∀ t, (execMemoryScrubError lane found s) = .next t → State.offOk t := by
  rintro _ ⟨⟩; refine State.fed_offOk _ _ hO fun s hO => State.ofCore_offOk _ _ _ _ hO fun s hO => ?_; split <;> simp [hO]
theorem execLaneSupplyLoss_offOk (lane : Lane) (s : State) (hO : State.offOk s) :
    ∀ t, (execLaneSupplyLoss lane s) = .next t → State.offOk t := by
  rintro _ ⟨⟩; simp (maxDischargeDepth := 60) +contextual [hO, State.each_offOk, State.fed_offOk, State.updCell_offOk]
theorem execLaneSupplyReturn_offOk (lane : Lane) (s : State) (hO : State.offOk s) :
    ∀ t, (execLaneSupplyReturn lane s) = .next t → State.offOk t := by
  rintro _ ⟨⟩; simp (maxDischargeDepth := 60) +contextual [hO, State.each_offOk, State.fed_offOk, State.updCell_offOk]
theorem execCommonsSupplyLoss_offOk (s : State) (hO : State.offOk s) :
    ∀ t, (execCommonsSupplyLoss s) = .next t → State.offOk t := by
  rintro _ ⟨⟩; simp (maxDischargeDepth := 60) +contextual [hO, State.each_offOk, State.fed_offOk, State.updCell_offOk]
theorem execServiceSupplyLoss_offOk (s : State) (hO : State.offOk s) :
    ∀ t, (execServiceSupplyLoss s) = .next t → State.offOk t := by
  rintro _ ⟨⟩; simp (maxDischargeDepth := 60) +contextual [hO, State.each_offOk, State.fed_offOk, State.updCell_offOk]
theorem execServiceRegionReturn_offOk (s : State) (hO : State.offOk s) :
    ∀ t, (execServiceRegionReturn s) = .next t → State.offOk t := by
  rintro _ ⟨⟩; simp (maxDischargeDepth := 60) +contextual [hO, State.each_offOk, State.fed_offOk, State.updCell_offOk]
theorem execTimebaseTrim_offOk (offs : Trio (Option Int)) (s : State) (hO : State.offOk s) :
    ∀ t, (execTimebaseTrim offs s) = .next t → State.offOk t := by
  rintro _ ⟨⟩; simp (maxDischargeDepth := 60) +contextual [hO, State.each_offOk, State.fed_offOk, State.updCell_offOk]
theorem execTokenOverrun_offOk (s : State) (hO : State.offOk s) :
    ∀ t, (execTokenOverrun s) = .next t → State.offOk t := by
  rintro _ ⟨⟩; simp (maxDischargeDepth := 60) +contextual [hO, State.each_offOk, State.fed_offOk, State.updCell_offOk]
theorem execTokenRegenerate_offOk (s : State) (hO : State.offOk s) :
    ∀ t, (execTokenRegenerate s) = .next t → State.offOk t := by
  rintro _ ⟨⟩; simp (maxDischargeDepth := 60) +contextual [hO, State.each_offOk, State.fed_offOk, State.updCell_offOk]
@[simp] theorem State.updTime_offOk (s : State) (f : TimeSt → TimeSt) (hO : State.offOk s) :
    State.offOk (State.updTime s f) := by
  exact hO
theorem execOtCheckpoint_offOk (s : State) (hO : State.offOk s) :
    ∀ t, (execOtCheckpoint s) = .next t → State.offOk t := by
  rintro _ ⟨⟩; simp (maxDischargeDepth := 60) +contextual [hO, State.each_offOk, State.fed_offOk, State.updCell_offOk]
theorem execOtShadowWrite_offOk (s : State) (hO : State.offOk s) :
    ∀ t, (execOtShadowWrite s) = .next t → State.offOk t := by
  rintro _ ⟨⟩; simp (maxDischargeDepth := 60) +contextual [hO, State.each_offOk, State.fed_offOk, State.updCell_offOk]
theorem execArchiveWindowEnd_offOk (s : State) (hO : State.offOk s) :
    ∀ t, (execArchiveWindowEnd s) = .next t → State.offOk t := by
  rintro _ ⟨⟩; simp (maxDischargeDepth := 60) [hO]
theorem execCoalescingWindowEnd_offOk (kind : Nat) (source : Nat) (s : State) (hO : State.offOk s) :
    ∀ t, (execCoalescingWindowEnd kind source s) = .next t → State.offOk t := by
  rintro _ ⟨⟩; dsimp only; (repeat' split) <;> simp_all
theorem execDropRecord_offOk (s : State) (hO : State.offOk s) :
    ∀ t, (execDropRecord s) = .next t → State.offOk t := by
  rintro _ ⟨⟩; simp (maxDischargeDepth := 60) [hO]
@[simp] theorem State.lastLine_offOk (s : State) (seq : Nat) (f : Fsid) (log : Nat) (seg : Nat) (hO : State.offOk s) :
    State.offOk (State.lastLine s seq f log seg) := by
  exact hO
theorem execLogSegmentFailure_offOk (log : Log) (segment : Nat) (s : State) (hO : State.offOk s) :
    ∀ t, (execLogSegmentFailure log segment s) = .next t → State.offOk t := by
  rintro _ ⟨⟩; simp (maxDischargeDepth := 60) +contextual [hO, State.each_offOk, State.fed_offOk, State.updCell_offOk]
@[simp] theorem State.setWt_offOk (s : State) (new : Nat) (source : Nat) (cred : Nat) (session : Nat) (ep : Nat) (cmd : Nat) (hO : State.offOk s) :
    State.offOk (State.setWt s new source cred session ep cmd) := by
  simp (maxDischargeDepth := 60) [State.setWt, hO]
theorem execPtpSync_offOk (offsetUs : Int) (master : PtpMaster) (s : State) (hO : State.offOk s) :
    ∀ t, (execPtpSync offsetUs master s) = .next t → State.offOk t := by
  rintro _ ⟨⟩; simp (maxDischargeDepth := 60) +contextual [hO, State.each_offOk, State.fed_offOk, State.updCell_offOk]
theorem execPtpUnlock_offOk (s : State) (hO : State.offOk s) :
    ∀ t, (execPtpUnlock s) = .next t → State.offOk t := by
  rintro _ ⟨⟩; simp (maxDischargeDepth := 60) [hO]
theorem execEscalation_offOk (fsid : Fsid) (s : State) (hO : State.offOk s) :
    ∀ t, (execEscalation fsid s) = .next t → State.offOk t := by
  rintro _ ⟨⟩; simp (maxDischargeDepth := 60) +contextual [hO, State.each_offOk, State.fed_offOk, State.updCell_offOk]
theorem execEscalationWindowExpiry_offOk (fsid : Fsid) (s : State) (hO : State.offOk s) :
    ∀ t, (execEscalationWindowExpiry fsid s) = .next t → State.offOk t := by
  rintro _ ⟨⟩; simp (maxDischargeDepth := 60) [hO]
theorem execLaneLatchOut_offOk (lane : Lane) (s : State) (hO : State.offOk s) :
    ∀ t, (execLaneLatchOut lane s) = .next t → State.offOk t := by
  rintro _ ⟨⟩; simp (maxDischargeDepth := 60) [hO]
theorem execWithdrawalWindowExpiry_offOk (lane : Lane) (s : State) (hO : State.offOk s) :
    ∀ t, (execWithdrawalWindowExpiry lane s) = .next t → State.offOk t := by
  rintro _ ⟨⟩; simp (maxDischargeDepth := 60) [hO]
theorem execSafeCountLimit_offOk (s : State) (hO : State.offOk s) :
    ∀ t, (execSafeCountLimit s) = .next t → State.offOk t := by
  rintro _ ⟨⟩; simp (maxDischargeDepth := 60) [hO]
theorem execSafeCountWindowExpiry_offOk (s : State) (hO : State.offOk s) :
    ∀ t, (execSafeCountWindowExpiry s) = .next t → State.offOk t := by
  rintro _ ⟨⟩; simp (maxDischargeDepth := 60) [hO]
theorem execEventAck_offOk (lane : Lane) (seq : Nat) (s : State) (hO : State.offOk s) :
    ∀ t, (execEventAck lane seq s) = .next t → State.offOk t := by
  rintro _ ⟨⟩; simp (maxDischargeDepth := 60) [hO]
@[simp] theorem State.graceOut_offOk (s : State) (parent : Nat) (l : Lane) (hO : State.offOk s) :
    State.offOk (State.graceOut s parent l) := by
  simp (maxDischargeDepth := 60) [State.graceOut, hO]
theorem execGraceExpiry_offOk (seq : Nat) (s : State) (hO : State.offOk s) :
    ∀ t, (execGraceExpiry seq s) = .next t → State.offOk t := by
  rintro _ ⟨⟩; dsimp only; (repeat' split) <;> simp (maxDischargeDepth := 60) +contextual [hO, State.each_offOk, State.fed_offOk, State.updCell_offOk]
theorem execSettleWindowEnd_offOk (block : Nat) (pass : Bool) (s : State) (hO : State.offOk s) :
    ∀ t, (execSettleWindowEnd block pass s) = .next t → State.offOk t := by
  rintro _ ⟨⟩; (repeat' split) <;> simp (maxDischargeDepth := 60) [hO]
theorem execMfSelfCheck_offOk (agree : Bool) (illegal : Bool) (conducting : Trio Bool) (s : State) (hO : State.offOk s) :
    ∀ t, (execMfSelfCheck agree illegal conducting s) = .next t → State.offOk t := by
  rintro _ ⟨⟩; simp (maxDischargeDepth := 60) +contextual [hO, State.each_offOk, State.fed_offOk, State.updCell_offOk]
theorem execDuoLimit_offOk (s : State) (hO : State.offOk s) :
    ∀ t, (execDuoLimit s) = .next t → State.offOk t := by
  rintro _ ⟨⟩; simp (maxDischargeDepth := 60) [hO]
theorem execHoldLimit_offOk (lane : Lane) (s : State) (hO : State.offOk s) :
    ∀ t, (execHoldLimit lane s) = .next t → State.offOk t := by
  rintro _ ⟨⟩; simp (maxDischargeDepth := 60) [hO]
@[simp] theorem State.updPow_offOk (s : State) (f : PowerSt → PowerSt) (hO : State.offOk s) :
    State.offOk (State.updPow s f) := by
  exact hO
@[simp] theorem State.endSpan_offOk (s : State) (hO : State.offOk s) :
    State.offOk (State.endSpan s) := by
  simp (maxDischargeDepth := 60) +contextual [State.endSpan, hO, State.each_offOk, State.updCell_offOk]
@[simp] theorem State.archiveCold_offOk (s : State) (hO : State.offOk s) :
    State.offOk (State.archiveCold s) := by
  simp (maxDischargeDepth := 60) [State.archiveCold, hO]
@[simp] theorem State.flush_offOk (s : State) (hO : State.offOk s) :
    State.offOk (State.flush s) := by
  simp (maxDischargeDepth := 60) [State.flush, hO]
@[simp] theorem State.loadImage_offOk (s : State) (hO : State.offOk s) :
    State.offOk (State.loadImage s) := by
  unfold State.loadImage; dsimp only; (repeat' split) <;> simp_all
@[simp] theorem State.bootImage_offOk (s : State) (hO : State.offOk s) :
    State.offOk (State.bootImage s) := by
  simp (maxDischargeDepth := 60) [State.bootImage, hO]
@[simp] theorem State.readOptics_offOk (s : State) (hO : State.offOk s) :
    State.offOk (State.readOptics s) := by
  simp (maxDischargeDepth := 60) +contextual [State.readOptics, hO, State.each_offOk, State.updCell_offOk]
@[simp] theorem State.bootChecks_offOk (s : State) (env : BootEnv) (unfed : Bool) (downOt : Nat) (hO : State.offOk s) :
    State.offOk (State.bootChecks s env unfed downOt) := by
  simp (maxDischargeDepth := 60) [State.bootChecks, hO]
@[simp] theorem State.resetBlocks_offOk (s : State) (power : Bool) (hO : State.offOk s) :
    State.offOk (State.resetBlocks s power) := by
  refine ⟨by simp [State.resetBlocks, hO.1], fun x hx _ => ?_⟩
  simp only [State.resetBlocks, List.mem_map] at hx
  obtain ⟨y, -, rfl⟩ := hx
  exact CellSt.boot_eff _ _
@[simp] theorem State.bootBegin_offOk (s : State) (cause : Nat) (jump : Nat) (env : BootEnv) (unfed : Bool) (downOt : Nat) (hO : State.offOk s) :
    State.offOk (State.bootBegin s cause jump env unfed downOt) := by
  unfold State.bootBegin; dsimp only
  (repeat' split) <;> simp (maxDischargeDepth := 60) [hO]
@[simp] theorem State.powerTimes_offOk (s : State) (kaFed : Bool) (offMs : Nat) (hO : State.offOk s) :
    State.offOk (State.powerTimes s kaFed offMs) := by
  exact hO
theorem execPowerUp_offOk (env : BootEnv) (kaFed : Bool) (offMs : Nat) (s : State) (hO : State.offOk s) :
    ∀ t, (execPowerUp env kaFed offMs s) = .next t → State.offOk t := by
  rintro _ ⟨⟩; simp (maxDischargeDepth := 60) [hO]
theorem execBootRestart_offOk (kind : RestartKind) (env : BootEnv) (s : State) (hO : State.offOk s) :
    ∀ t, (execBootRestart kind env s) = .next t → State.offOk t := by
  rintro _ ⟨⟩; dsimp only; (repeat' split) <;> simp (maxDischargeDepth := 60) [hO]
@[simp] theorem State.trySync_offOk (s : State) (hO : State.offOk s) :
    State.offOk (State.trySync s) := by
  simp (maxDischargeDepth := 60) [State.trySync, hO]
@[simp] theorem State.bootFailed_offOk (s : State) (l : Lane) (hO : State.offOk s) :
    State.offOk (State.bootFailed s l) := by
  simp (maxDischargeDepth := 60) [State.bootFailed, hO]
theorem execLaneBootSelfTestDone_offOk (lane : Lane) (pass : Bool) (s : State) (hO : State.offOk s) :
    ∀ t, (execLaneBootSelfTestDone lane pass s) = .next t → State.offOk t := by
  rintro _ ⟨⟩; simp (maxDischargeDepth := 60) +contextual [hO, State.each_offOk, State.fed_offOk, State.updCell_offOk]
theorem execBootSelfTestTimeout_offOk (lane : Lane) (s : State) (hO : State.offOk s) :
    ∀ t, (execBootSelfTestTimeout lane s) = .next t → State.offOk t := by
  rintro _ ⟨⟩; simp (maxDischargeDepth := 60) +contextual [hO, State.each_offOk, State.fed_offOk, State.updCell_offOk]
theorem execSyncTimeout_offOk (s : State) (hO : State.offOk s) :
    ∀ t, (execSyncTimeout s) = .next t → State.offOk t := by
  rintro _ ⟨⟩; simp (maxDischargeDepth := 60) [hO]
theorem execBootTemperatureInRange_offOk (s : State) (hO : State.offOk s) :
    ∀ t, (execBootTemperatureInRange s) = .next t → State.offOk t := by
  rintro _ ⟨⟩; simp (maxDischargeDepth := 60) [hO]
theorem execPowerFailWarning_offOk (s : State) (hO : State.offOk s) :
    ∀ t, (execPowerFailWarning s) = .next t → State.offOk t := by
  rintro _ ⟨⟩; simp (maxDischargeDepth := 60) [hO]
theorem execPowerReturn_offOk (s : State) (hO : State.offOk s) :
    ∀ t, (execPowerReturn s) = .next t → State.offOk t := by
  rintro _ ⟨⟩; simp (maxDischargeDepth := 60) [hO]
theorem execInputLoss_offOk (second : Bool) (s : State) (hO : State.offOk s) :
    ∀ t, (execInputLoss second s) = .next t → State.offOk t := by
  rintro _ ⟨⟩; simp (maxDischargeDepth := 60) +contextual [hO, State.each_offOk, State.fed_offOk, State.updCell_offOk]
theorem execInputRestored_offOk (second : Bool) (s : State) (hO : State.offOk s) :
    ∀ t, (execInputRestored second s) = .next t → State.offOk t := by
  rintro _ ⟨⟩; simp (maxDischargeDepth := 60) [hO]
theorem execAddressPlugPoll_offOk (plug : Plug) (s : State) (hO : State.offOk s) :
    ∀ t, (execAddressPlugPoll plug s) = .next t → State.offOk t := by
  rintro _ ⟨⟩; simp (maxDischargeDepth := 60) +contextual [hO, State.each_offOk, State.fed_offOk, State.updCell_offOk]
theorem execThermalWarning_offOk (s : State) (hO : State.offOk s) :
    ∀ t, (execThermalWarning s) = .next t → State.offOk t := by
  rintro _ ⟨⟩; simp (maxDischargeDepth := 60) +contextual [hO, State.each_offOk, State.fed_offOk, State.updCell_offOk]
theorem execThermalWarningCleared_offOk (s : State) (hO : State.offOk s) :
    ∀ t, (execThermalWarningCleared s) = .next t → State.offOk t := by
  rintro _ ⟨⟩; simp (maxDischargeDepth := 60) [hO]
theorem execThermalTrip_offOk (s : State) (hO : State.offOk s) :
    ∀ t, (execThermalTrip s) = .next t → State.offOk t := by
  rintro _ ⟨⟩; simp (maxDischargeDepth := 60) +contextual [hO, State.each_offOk, State.fed_offOk, State.updCell_offOk]
@[simp] theorem State.discardRestart_offOk (s : State) (kind : RestartKind) (hO : State.offOk s) :
    State.offOk (State.discardRestart s kind) := by
  simp (maxDischargeDepth := 60) [State.discardRestart, hO]
@[simp] theorem State.askRestart_offOk (s : State) (kind : RestartKind) (hO : State.offOk s) :
    State.offOk (State.askRestart s kind) := by
  simp (maxDischargeDepth := 60) [State.askRestart, hO]
theorem execResetButtonRelease_offOk (ms : Nat) (s : State) (hO : State.offOk s) :
    ∀ t, (execResetButtonRelease ms s) = .next t → State.offOk t := by
  rintro _ ⟨⟩; simp (maxDischargeDepth := 60) +contextual [hO, State.each_offOk, State.fed_offOk, State.updCell_offOk]
theorem execResetButtonStuck_offOk (s : State) (hO : State.offOk s) :
    ∀ t, (execResetButtonStuck s) = .next t → State.offOk t := by
  rintro _ ⟨⟩; simp (maxDischargeDepth := 60) +contextual [hO, State.each_offOk, State.fed_offOk, State.updCell_offOk]
theorem execButtonContactDisagree_offOk (s : State) (hO : State.offOk s) :
    ∀ t, (execButtonContactDisagree s) = .next t → State.offOk t := by
  rintro _ ⟨⟩; simp (maxDischargeDepth := 60) +contextual [hO, State.each_offOk, State.fed_offOk, State.updCell_offOk]
theorem execButtonReenable_offOk (s : State) (hO : State.offOk s) :
    ∀ t, (execButtonReenable s) = .next t → State.offOk t := by
  rintro _ ⟨⟩; simp (maxDischargeDepth := 60) [hO]
@[simp] theorem State.updMail_offOk (s : State) (f : MailSt → MailSt) (hO : State.offOk s) :
    State.offOk (State.updMail s f) := by
  exact hO
@[simp] theorem State.freeBox_offOk (s : State) (mb : Nat) (hO : State.offOk s) :
    State.offOk (State.freeBox s mb) := by
  simp (maxDischargeDepth := 60) [State.freeBox, hO]
theorem State.claim_offOk (s : State) (ep : Nat) (mb : Nat) (key : Nat) (hO : State.offOk s) :
    ∀ t, (State.claim s ep mb key) = some t → State.offOk t := by
  intro t h2; unfold State.claim at h2; split at h2 <;> simp at h2
  subst h2; simp [hO]
theorem State.release0_offOk (s : State) (ep : Nat) (mb : Nat) (hO : State.offOk s) :
    ∀ t, (State.release0 s ep mb) = some t → State.offOk t := by
  intro t h2; unfold State.release0 at h2; split at h2 <;> simp at h2
  subst h2; simp [hO]
theorem State.ring_offOk (s : State) (ep : Nat) (mb : Nat) (tag : Nat) (hO : State.offOk s) :
    ∀ t, (State.ring s ep mb tag) = some t → State.offOk t := by
  intro t h2; unfold State.ring at h2; dsimp only at h2; (repeat' split at h2) <;> simp at h2 <;> subst h2 <;> simp (maxDischargeDepth := 60) [hO]
theorem State.ack_offOk (s : State) (ep : Nat) (mb : Nat) (hO : State.offOk s) :
    ∀ t, (State.ack s ep mb) = some t → State.offOk t := by
  intro t h2; unfold State.ack at h2; dsimp only at h2; (repeat' split at h2) <;> simp at h2 <;> subst h2 <;> simp (maxDischargeDepth := 60) [hO]
theorem State.ctlWrite_offOk (s : State) (ep : Nat) (mb : Nat) (off : Nat) (w : Nat) (hO : State.offOk s) :
    ∀ t, (State.ctlWrite s ep mb off w) = some t → State.offOk t := by
  intro t h; unfold State.ctlWrite at h; (repeat' split at h) <;> first
    | exact State.claim_offOk _ _ _ _ hO _ h
    | exact State.release0_offOk _ _ _ hO _ h
    | exact State.ring_offOk _ _ _ _ hO _ h
    | exact State.ack_offOk _ _ _ hO _ h
    | simp at h
@[simp] theorem State.winWrite_offOk (s : State) (ep : Nat) (addr : Nat) (data : Bytes) (who : Option Nat) (hO : State.offOk s) :
    State.offOk (State.winWrite s ep addr data who).2 := by
  unfold State.winWrite; dsimp only; (repeat' split) <;> first
    | exact hO
    | exact State.ctlWrite_offOk _ _ _ _ _ hO _ ‹_›
    | simp [hO]
@[simp] theorem State.refusedWrite_offOk (s : State) (st : Nat) (addr : Nat) (ep : Nat) (hO : State.offOk s) :
    State.offOk (State.refusedWrite s st addr ep) := by
  simp (maxDischargeDepth := 60) [State.refusedWrite, hO]
theorem State.endpoint_offOk (s : State) (h : NspHead) (hO : State.offOk s) :
    ∀ t, (State.endpoint s h) = some t → State.offOk t.2 := by
  intro t h2; unfold State.endpoint at h2; dsimp only at h2; (repeat' split at h2) <;> simp at h2 <;> subst h2 <;> simp (maxDischargeDepth := 60) [hO]
@[simp] theorem State.useXid_offOk (s : State) (id : Option Nat) (xid : Nat) (hO : State.offOk s) :
    State.offOk (State.useXid s id xid) := by
  unfold State.useXid; split <;> simp (maxDischargeDepth := 60) [hO]
@[simp] theorem State.reply_offOk (s : State) (r : Reply) (keep : Bool) (hO : State.offOk s) :
    State.offOk (State.reply s r keep) := by
  exact hO
@[simp] theorem State.nspRead_offOk (s : State) (ep : Nat) (h : NspHead) (addr : Nat) (hO : State.offOk s) :
    State.offOk (State.nspRead s ep h addr) := by
  simp (maxDischargeDepth := 60) [State.nspRead, hO]
@[simp] theorem State.nspWrite_offOk (s : State) (ep : Nat) (h : NspHead) (addr : Nat) (data : Bytes) (hO : State.offOk s) :
    State.offOk (State.nspWrite s ep h addr data) := by
  simp (maxDischargeDepth := 60) [State.nspWrite, hO]
@[simp] theorem State.nspFrame_offOk (s : State) (h : NspHead) (addr : Nat) (data : Bytes) (hO : State.offOk s) :
    State.offOk (State.nspFrame s h addr data) := by
  unfold State.nspFrame; split
  · exact hO
  · have e := State.endpoint_offOk _ _ hO _ ‹_›
    dsimp only at e ⊢; (repeat' split) <;> simp [e]
@[simp] theorem State.cspiAlert_offOk (s : State) (hO : State.offOk s) :
    State.offOk (State.cspiAlert s).2 := by
  unfold State.cspiAlert; dsimp only; (repeat' split) <;> simp_all
@[simp] theorem State.cspiBegin_offOk (s : State) (hO : State.offOk s) :
    State.offOk (State.cspiBegin s) := by
  simp (maxDischargeDepth := 60) [State.cspiBegin, hO]
@[simp] theorem State.cspiWrite_offOk (s : State) (addr : Nat) (data : Bytes) (hO : State.offOk s) :
    State.offOk (State.cspiWrite s addr data) := by
  simp (maxDischargeDepth := 60) [State.cspiWrite, hO]
@[simp] theorem State.cspiRead_offOk (s : State) (addr : Nat) (n : Nat) (hO : State.offOk s) :
    State.offOk (State.cspiRead s addr n) := by
  simp (maxDischargeDepth := 60) [State.cspiRead, hO]
@[simp] theorem State.access_offOk (s : State) (acc : Access) (addr : Nat) (data : Bytes) (hO : State.offOk s) :
    State.offOk (State.access s acc addr data) := by
  unfold State.access; (repeat' split) <;> simp (maxDischargeDepth := 60) [hO]
theorem execMailboxAgeTimeout_offOk (mb : Nat) (s : State) (hO : State.offOk s) :
    ∀ t, (execMailboxAgeTimeout mb s) = .next t → State.offOk t := by
  rintro _ ⟨⟩; simp (maxDischargeDepth := 60) [hO]
theorem execSessionIdleTimeout_offOk (session : Nat) (s : State) (hO : State.offOk s) :
    ∀ t, (execSessionIdleTimeout session s) = .next t → State.offOk t := by
  rintro _ ⟨⟩; simp (maxDischargeDepth := 60) [hO]
theorem execAuthTimeout_offOk (s : State) (hO : State.offOk s) :
    ∀ t, (execAuthTimeout s) = .next t → State.offOk t := by
  rintro _ ⟨⟩; simp (maxDischargeDepth := 60) [hO]
@[simp] theorem State.respond_offOk (s : State) (mb : Nat) (status : Nat) (body : Bytes) (hO : State.offOk s) :
    State.offOk (State.respond s mb status body) := by
  exact hO
theorem query_offOk (n : Nat) (r : List (Nat × Nat)) (f : State → Ctx → Ans) (s : State) (x : Ctx) (hO : s.offOk) :
    State.offOk ((query n r f).run s x).2 := hO
@[simp] theorem State.answerBad_offOk (x0 : Nat) (x1 : State) (hO : State.offOk x1) :
    State.offOk (State.answerBad x0 x1) := by
  induction x0 generalizing x1 with
  | zero => exact hO
  | succ n ih => simp only [State.answerBad]; (repeat' split) <;> simp [ih, hO]
@[simp] theorem State.grantFirst_offOk (s : State) (c : FabricClass) (hO : State.offOk s) :
    State.offOk (State.grantFirst s c) := by
  simp (maxDischargeDepth := 60) [State.grantFirst, hO]
@[simp] theorem State.settle_offOk (s : State) (hO : State.offOk s) :
    State.offOk (State.settle s) := by
  simp (maxDischargeDepth := 60) [State.settle, hO]
@[simp] theorem State.hostWrite_offOk (s : State) (acc : Access) (addr : Nat) (data : Bytes) (hO : State.offOk s) :
    State.offOk (State.hostWrite s acc addr data) := by
  simp (maxDischargeDepth := 60) [State.hostWrite, hO]
theorem execMailboxClaim_offOk (acc : Access) (mb : Nat) (ownkey : Nat) (s : State) (hO : State.offOk s) :
    ∀ t, (execMailboxClaim acc mb ownkey s) = .next t → State.offOk t := by
  rintro _ ⟨⟩; simp (maxDischargeDepth := 60) [hO]
theorem execMailboxRelease_offOk (acc : Access) (mb : Nat) (s : State) (hO : State.offOk s) :
    ∀ t, (execMailboxRelease acc mb s) = .next t → State.offOk t := by
  rintro _ ⟨⟩; simp (maxDischargeDepth := 60) [hO]
theorem execDoorbellRing_offOk (acc : Access) (mb : Nat) (tag : Nat) (s : State) (hO : State.offOk s) :
    ∀ t, (execDoorbellRing acc mb tag s) = .next t → State.offOk t := by
  rintro _ ⟨⟩; simp (maxDischargeDepth := 60) [hO]
theorem execDoorbellAck_offOk (acc : Access) (mb : Nat) (s : State) (hO : State.offOk s) :
    ∀ t, (execDoorbellAck acc mb s) = .next t → State.offOk t := by
  rintro _ ⟨⟩; simp (maxDischargeDepth := 60) [hO]
theorem execRegisterWrite_offOk (acc : Access) (addr : Nat) (data : Bytes) (s : State) (hO : State.offOk s) :
    ∀ t, (execRegisterWrite acc addr data s) = .next t → State.offOk t := by
  rintro _ ⟨⟩; simp (maxDischargeDepth := 60) [hO]
@[simp] theorem State.retryBox_offOk (s : State) (mb : Nat) (hO : State.offOk s) :
    State.offOk (State.retryBox s mb) := by
  simp (maxDischargeDepth := 60) [State.retryBox, hO]
theorem execCommandResponseTimeout_offOk (mb : Nat) (s : State) (hO : State.offOk s) :
    ∀ t, (execCommandResponseTimeout mb s) = .next t → State.offOk t := by
  rintro _ ⟨⟩; simp (maxDischargeDepth := 60) [hO]
theorem execFabricGrantTimeout_offOk (user : FabricUser) (s : State) (hO : State.offOk s) :
    ∀ t, (execFabricGrantTimeout user s) = .next t → State.offOk t := by
  rintro _ ⟨⟩; (repeat' split) <;> simp (maxDischargeDepth := 60) [hO]
theorem State.serveCmd_offOk (s : State) (mb code : Nat) (c : Cmd) (hO : s.offOk)
    (h : ∀ s x, State.offOk s → State.offOk (c.run s x).2) : State.offOk (s.serveCmd mb code c) := by
  unfold State.serveCmd; dsimp only; (repeat' split) <;> simp (maxDischargeDepth := 60) [h, hO]
@[simp] theorem State.firmwareFault_offOk (s : State) (f : Fsid) (hO : State.offOk s) :
    State.offOk (State.firmwareFault s f) := by
  unfold State.firmwareFault; dsimp only; (repeat' split) <;> simp (maxDischargeDepth := 60) +contextual [hO, State.each_offOk, State.when_offOk, State.updCell_offOk]
theorem execFaultEventCollected_offOk (fsid : Fsid) (s : State) (hO : State.offOk s) :
    ∀ t, (execFaultEventCollected fsid s) = .next t → State.offOk t := by
  rintro _ ⟨⟩; simp (maxDischargeDepth := 60) +contextual [hO, State.each_offOk, State.fed_offOk, State.updCell_offOk]
@[simp] theorem okAns_offOk (b : Bytes) (s : State) (hO : State.offOk s) :
    State.offOk (okAns b s).2 := by
  exact hO
@[simp] theorem noAns_offOk (st : Nat) (s : State) (hO : State.offOk s) :
    State.offOk (noAns st s).2 := by
  exact hO
@[simp] theorem State.accepted_offOk (s : State) (c : Ctx) (item : Nat) (hO : State.offOk s) :
    State.offOk (State.accepted s c item).2 := by
  exact hO
theorem logged_offOk (f : State → Ctx → Ans × State) (h : ∀ s x, State.offOk s → State.offOk (f s x).2) (s : State) (c : Ctx)
    (hO : s.offOk) : State.offOk (logged f s c).2 := by
  unfold logged; split <;> simp [noAns, h, hO]
@[simp] theorem State.dropStep_offOk (s : State) (c : Ctx) (hO : State.offOk s) :
    State.offOk (State.dropStep s c) := by
  exact hO
@[simp] theorem State.firstStep_offOk (s : State) (c : Ctx) (off : Nat) (hO : State.offOk s) :
    State.offOk (State.firstStep s c off).2 := by
  exact hO
@[simp] theorem State.secondStep_offOk (s : State) (c : Ctx) (off : Nat) (window : Bool) (hO : State.offOk s) :
    State.offOk (State.secondStep s c off window).2 := by
  exact hO
@[simp] theorem State.ctxChange_offOk (s : State) (c : Ctx) (kind : Nat) (body : Bytes) (hO : State.offOk s) :
    State.offOk (State.ctxChange s c kind body) := by
  simp (maxDischargeDepth := 60) [State.ctxChange, hO]
@[simp] theorem State.newProv_offOk (s : State) (ep : Nat) (cred : Nat) (hostkey : Bytes) (hO : State.offOk s) :
    State.offOk (State.newProv s ep cred hostkey).2 := by
  exact hO
@[simp] theorem runOpen_offOk (s : State) (c : Ctx) (hO : State.offOk s) :
    State.offOk (runOpen s c).2 := by
  unfold runOpen; dsimp only; (repeat' split) <;> simp (maxDischargeDepth := 60) +contextual [hO, State.each_offOk, State.when_offOk, State.updCell_offOk]
theorem execOpenSession_offOk (mb : Nat) (s : State) (hO : s.offOk) :
    ∀ t, execOpenSession mb s = .next t → State.offOk t := by
  rintro _ ⟨⟩; exact State.serveCmd_offOk _ _ _ _ hO (runOpen_offOk)
@[simp] theorem runAuth_offOk (s : State) (c : Ctx) (hO : State.offOk s) :
    State.offOk (runAuth s c).2 := by
  unfold runAuth; (repeat' split) <;> simp (maxDischargeDepth := 60) [hO]
theorem execAuth_offOk (mb : Nat) (s : State) (hO : s.offOk) :
    ∀ t, execAuth mb s = .next t → State.offOk t := by
  rintro _ ⟨⟩; exact State.serveCmd_offOk _ _ _ _ hO (runAuth_offOk)
theorem execClose_offOk (mb : Nat) (s : State) (hO : s.offOk) :
    ∀ t, execClose mb s = .next t → State.offOk t := by
  rintro _ ⟨⟩; exact State.serveCmd_offOk _ _ _ _ hO (fun s x h => by dsimp only [cmdClose, opCmd, noAns, okAns]; (repeat' split) <;> simp [h])
theorem execSessionList_offOk (mb : Nat) (s : State) (hO : s.offOk) :
    ∀ t, execSessionList mb s = .next t → State.offOk t := by
  rintro _ ⟨⟩; exact State.serveCmd_offOk _ _ _ _ hO (query_offOk _ _ _)
@[simp] theorem runCredAdd_offOk (s : State) (c : Ctx) (hO : State.offOk s) :
    State.offOk (runCredAdd s c).2 := by
  unfold runCredAdd; dsimp only; (repeat' split) <;> simp_all
theorem execCredAdd_offOk (mb : Nat) (s : State) (hO : s.offOk) :
    ∀ t, execCredAdd mb s = .next t → State.offOk t := by
  rintro _ ⟨⟩; exact State.serveCmd_offOk _ _ _ _ hO (logged_offOk _ runCredAdd_offOk)
@[simp] theorem runCredRevoke_offOk (s : State) (c : Ctx) (hO : State.offOk s) :
    State.offOk (runCredRevoke s c).2 := by
  unfold runCredRevoke; dsimp only; (repeat' split) <;> simp (maxDischargeDepth := 60) +contextual [hO, State.each_offOk, State.when_offOk, State.updCell_offOk]
theorem execCredRevoke_offOk (mb : Nat) (s : State) (hO : s.offOk) :
    ∀ t, execCredRevoke mb s = .next t → State.offOk t := by
  rintro _ ⟨⟩; exact State.serveCmd_offOk _ _ _ _ hO (logged_offOk _ runCredRevoke_offOk)
theorem execCredList_offOk (mb : Nat) (s : State) (hO : s.offOk) :
    ∀ t, execCredList mb s = .next t → State.offOk t := by
  rintro _ ⟨⟩; exact State.serveCmd_offOk _ _ _ _ hO (query_offOk _ _ _)
theorem execIdentity_offOk (mb : Nat) (s : State) (hO : s.offOk) :
    ∀ t, execIdentity mb s = .next t → State.offOk t := by
  rintro _ ⟨⟩; exact State.serveCmd_offOk _ _ _ _ hO (query_offOk _ _ _)
theorem execCycleStatus_offOk (mb : Nat) (s : State) (hO : s.offOk) :
    ∀ t, execCycleStatus mb s = .next t → State.offOk t := by
  rintro _ ⟨⟩; exact State.serveCmd_offOk _ _ _ _ hO (query_offOk _ _ _)
theorem execLaneStatus_offOk (mb : Nat) (s : State) (hO : s.offOk) :
    ∀ t, execLaneStatus mb s = .next t → State.offOk t := by
  rintro _ ⟨⟩; exact State.serveCmd_offOk _ _ _ _ hO (query_offOk _ _ _)
theorem execInputStatus_offOk (mb : Nat) (s : State) (hO : s.offOk) :
    ∀ t, execInputStatus mb s = .next t → State.offOk t := by
  rintro _ ⟨⟩; exact State.serveCmd_offOk _ _ _ _ hO (query_offOk _ _ _)
theorem execOutputStatus_offOk (mb : Nat) (s : State) (hO : s.offOk) :
    ∀ t, execOutputStatus mb s = .next t → State.offOk t := by
  rintro _ ⟨⟩; exact State.serveCmd_offOk _ _ _ _ hO (query_offOk _ _ _)
theorem execConnStatus_offOk (mb : Nat) (s : State) (hO : s.offOk) :
    ∀ t, execConnStatus mb s = .next t → State.offOk t := by
  rintro _ ⟨⟩; exact State.serveCmd_offOk _ _ _ _ hO (query_offOk _ _ _)
theorem execElementRead_offOk (mb : Nat) (s : State) (hO : s.offOk) :
    ∀ t, execElementRead mb s = .next t → State.offOk t := by
  rintro _ ⟨⟩; exact State.serveCmd_offOk _ _ _ _ hO (query_offOk _ _ _)
theorem execRouteRead_offOk (mb : Nat) (s : State) (hO : s.offOk) :
    ∀ t, execRouteRead mb s = .next t → State.offOk t := by
  rintro _ ⟨⟩; exact State.serveCmd_offOk _ _ _ _ hO (query_offOk _ _ _)
theorem execTrellisStatus_offOk (mb : Nat) (s : State) (hO : s.offOk) :
    ∀ t, execTrellisStatus mb s = .next t → State.offOk t := by
  rintro _ ⟨⟩; exact State.serveCmd_offOk _ _ _ _ hO (query_offOk _ _ _)
theorem execRouteIdent_offOk (mb : Nat) (s : State) (hO : s.offOk) :
    ∀ t, execRouteIdent mb s = .next t → State.offOk t := by
  rintro _ ⟨⟩; exact State.serveCmd_offOk _ _ _ _ hO (query_offOk _ _ _)
theorem execImageInfo_offOk (mb : Nat) (s : State) (hO : s.offOk) :
    ∀ t, execImageInfo mb s = .next t → State.offOk t := by
  rintro _ ⟨⟩; exact State.serveCmd_offOk _ _ _ _ hO (query_offOk _ _ _)
theorem execPairStatus_offOk (mb : Nat) (s : State) (hO : s.offOk) :
    ∀ t, execPairStatus mb s = .next t → State.offOk t := by
  rintro _ ⟨⟩; exact State.serveCmd_offOk _ _ _ _ hO (query_offOk _ _ _)
theorem execFaultStatus_offOk (mb : Nat) (s : State) (hO : s.offOk) :
    ∀ t, execFaultStatus mb s = .next t → State.offOk t := by
  rintro _ ⟨⟩; exact State.serveCmd_offOk _ _ _ _ hO (query_offOk _ _ _)
theorem execEscBounds_offOk (mb : Nat) (s : State) (hO : s.offOk) :
    ∀ t, execEscBounds mb s = .next t → State.offOk t := by
  rintro _ ⟨⟩; exact State.serveCmd_offOk _ _ _ _ hO (query_offOk _ _ _)
theorem execHedgeList_offOk (mb : Nat) (s : State) (hO : s.offOk) :
    ∀ t, execHedgeList mb s = .next t → State.offOk t := by
  rintro _ ⟨⟩; exact State.serveCmd_offOk _ _ _ _ hO (query_offOk _ _ _)
theorem execTimeGet_offOk (mb : Nat) (s : State) (hO : s.offOk) :
    ∀ t, execTimeGet mb s = .next t → State.offOk t := by
  rintro _ ⟨⟩; exact State.serveCmd_offOk _ _ _ _ hO (query_offOk _ _ _)
@[simp] theorem State.lcJudge_offOk (s : State) (target : LcState) (r : CmdRef) (t : Bytes) (hO : State.offOk s) :
    State.offOk (State.lcJudge s target r t) := by
  unfold State.lcJudge; dsimp only; (repeat' split) <;> simp_all
@[simp] theorem runLcTransition_offOk (s : State) (c : Ctx) (hO : State.offOk s) :
    State.offOk (runLcTransition s c).2 := by
  unfold runLcTransition; dsimp only; (repeat' split) <;> simp_all
theorem execLcTransition_offOk (mb : Nat) (s : State) (hO : s.offOk) :
    ∀ t, execLcTransition mb s = .next t → State.offOk t := by
  rintro _ ⟨⟩; exact State.serveCmd_offOk _ _ _ _ hO (logged_offOk _ runLcTransition_offOk)
@[simp] theorem runMode_offOk (s : State) (c : Ctx) (hO : State.offOk s) :
    State.offOk (runMode s c).2 := by
  unfold runMode; dsimp only; (repeat' split) <;> simp_all
theorem execMode_offOk (mb : Nat) (s : State) (hO : s.offOk) :
    ∀ t, execMode mb s = .next t → State.offOk t := by
  rintro _ ⟨⟩; exact State.serveCmd_offOk _ _ _ _ hO (logged_offOk _ runMode_offOk)
@[simp] theorem runRestart_offOk (s : State) (c : Ctx) (hO : State.offOk s) :
    State.offOk (runRestart s c).2 := by
  unfold runRestart; dsimp only; (repeat' split) <;> simp (maxDischargeDepth := 60) +contextual [hO, State.each_offOk, State.when_offOk, State.updCell_offOk]
theorem execRestart_offOk (mb : Nat) (s : State) (hO : s.offOk) :
    ∀ t, execRestart mb s = .next t → State.offOk t := by
  rintro _ ⟨⟩; exact State.serveCmd_offOk _ _ _ _ hO (logged_offOk _ runRestart_offOk)
@[simp] theorem runMaint_offOk (s : State) (c : Ctx) (hO : State.offOk s) :
    State.offOk (runMaint s c).2 := by
  unfold runMaint; dsimp only; (repeat' split) <;> simp_all
theorem execMaint_offOk (mb : Nat) (s : State) (hO : s.offOk) :
    ∀ t, execMaint mb s = .next t → State.offOk t := by
  rintro _ ⟨⟩; exact State.serveCmd_offOk _ _ _ _ hO (logged_offOk _ runMaint_offOk)
@[simp] theorem State.updStage_offOk (s : State) (f : StageSt → StageSt) (hO : State.offOk s) :
    State.offOk (State.updStage s f) := by
  exact hO
theorem owned_offOk (f : State → Ctx → Ans × State) (h : ∀ s x, State.offOk s → State.offOk (f s x).2) (s : State) (c : Ctx)
    (hO : s.offOk) : State.offOk (owned f s c).2 := by
  unfold owned; split <;> simp [noAns, h, hO]
@[simp] theorem runStageOpen_offOk (s : State) (c : Ctx) (hO : State.offOk s) :
    State.offOk (runStageOpen s c).2 := by
  unfold runStageOpen; (repeat' split) <;> simp (maxDischargeDepth := 60) [hO]
theorem execStageOpen_offOk (mb : Nat) (s : State) (hO : s.offOk) :
    ∀ t, execStageOpen mb s = .next t → State.offOk t := by
  rintro _ ⟨⟩; exact State.serveCmd_offOk _ _ _ _ hO (logged_offOk _ runStageOpen_offOk)
theorem State.stageAll_offOk (s : State) (x1 : List Bytes) (x2 : Nat) (hO : State.offOk s) :
    ∀ t, (State.stageAll s x1 x2) = .ok t → State.offOk t := by
  induction x1 generalizing s x2 with
  | nil => intro t h; simp [State.stageAll] at h; rw [← h]; exact hO
  | cons r rs ih =>
    intro t h; simp only [State.stageAll] at h; split at h
    · exact ih _ _ (by simp [hO]) _ h
    · simp at h
@[simp] theorem State.afterWrite_offOk (s : State) (hO : State.offOk s) :
    State.offOk (State.afterWrite s) := by
  simp (maxDischargeDepth := 60) [State.afterWrite, hO]
@[simp] theorem State.writeEntries_offOk (s : State) (role : Nat) (rs : List Bytes) (hO : State.offOk s) :
    State.offOk (State.writeEntries s role rs).2 := by
  unfold State.writeEntries; split; · exact hO
  split; · exact hO
  split
  · exact hO
  · simp [okAns, State.stageAll_offOk _ _ _ hO _ ‹_›]
@[simp] theorem runStageWrite_offOk (s : State) (c : Ctx) (hO : State.offOk s) :
    State.offOk (runStageWrite s c).2 := by
  unfold runStageWrite; dsimp only; (repeat' split) <;> simp_all
theorem execStageWrite_offOk (mb : Nat) (s : State) (hO : s.offOk) :
    ∀ t, execStageWrite mb s = .next t → State.offOk t := by
  rintro _ ⟨⟩; exact State.serveCmd_offOk _ _ _ _ hO (owned_offOk _ runStageWrite_offOk)
@[simp] theorem runStageRead_offOk (s : State) (c : Ctx) (hO : State.offOk s) :
    State.offOk (runStageRead s c).2 := by
  unfold runStageRead; dsimp only; (repeat' split) <;> simp_all
theorem execStageRead_offOk (mb : Nat) (s : State) (hO : s.offOk) :
    ∀ t, execStageRead mb s = .next t → State.offOk t := by
  rintro _ ⟨⟩; exact State.serveCmd_offOk _ _ _ _ hO (owned_offOk _ runStageRead_offOk)
@[simp] theorem State.discardFrame_offOk (s : State) (hO : State.offOk s) :
    State.offOk (State.discardFrame s) := by
  simp (maxDischargeDepth := 60) [State.discardFrame, hO]
@[simp] theorem runStageDiscard_offOk (s : State) (c : Ctx) (hO : State.offOk s) :
    State.offOk (runStageDiscard s c).2 := by
  unfold runStageDiscard; split <;> simp (maxDischargeDepth := 60) [hO]
theorem execStageDiscard_offOk (mb : Nat) (s : State) (hO : s.offOk) :
    ∀ t, execStageDiscard mb s = .next t → State.offOk t := by
  rintro _ ⟨⟩; exact State.serveCmd_offOk _ _ _ _ hO (logged_offOk _ (owned_offOk _ runStageDiscard_offOk))
@[simp] theorem runStageCheck_offOk (s : State) (c : Ctx) (hO : State.offOk s) :
    State.offOk (runStageCheck s c).2 := by
  unfold runStageCheck; split <;> simp (maxDischargeDepth := 60) [hO]
theorem execStageCheck_offOk (mb : Nat) (s : State) (hO : s.offOk) :
    ∀ t, execStageCheck mb s = .next t → State.offOk t := by
  rintro _ ⟨⟩; exact State.serveCmd_offOk _ _ _ _ hO (logged_offOk _ (owned_offOk _ runStageCheck_offOk))
@[simp] theorem State.acceptApply_offOk (s : State) (r : CmdRef) (hO : State.offOk s) :
    State.offOk (State.acceptApply s r) := by
  simp (maxDischargeDepth := 60) [State.acceptApply, hO]
@[simp] theorem State.applyRec_offOk (s : State) (c : Ctx) (st : Nat) (hO : State.offOk s) :
    State.offOk (State.applyRec s c st) := by
  simp (maxDischargeDepth := 60) [State.applyRec, hO]
@[simp] theorem takeApply_offOk (s : State) (c : Ctx) (hO : State.offOk s) :
    State.offOk (takeApply s c).2 := by
  unfold takeApply; dsimp only; (repeat' split) <;> simp (maxDischargeDepth := 60) +contextual [hO, State.each_offOk, State.when_offOk, State.updCell_offOk]
@[simp] theorem runStageApply_offOk (s : State) (c : Ctx) (hO : State.offOk s) :
    State.offOk (runStageApply s c).2 := by
  unfold runStageApply; split
  · exact logged_offOk _ (owned_offOk _ fun s c h => takeApply_offOk s c h) _ _ hO
  · simp [noAns, hO]
theorem execStageApply_offOk (mb : Nat) (s : State) (hO : s.offOk) :
    ∀ t, execStageApply mb s = .next t → State.offOk t := by
  rintro _ ⟨⟩; exact State.serveCmd_offOk _ _ _ _ hO (runStageApply_offOk)
theorem execStageStatus_offOk (mb : Nat) (s : State) (hO : s.offOk) :
    ∀ t, execStageStatus mb s = .next t → State.offOk t := by
  rintro _ ⟨⟩; exact State.serveCmd_offOk _ _ _ _ hO (query_offOk _ _ _)
@[simp] theorem State.writeKey_offOk (s : State) (e : StgEntry) (hO : State.offOk s) :
    State.offOk (State.writeKey s e).2 := by
  unfold State.writeKey; (repeat' split) <;> simp (maxDischargeDepth := 60) [hO]
@[simp] theorem runConnKey_offOk (s : State) (c : Ctx) (hO : State.offOk s) :
    State.offOk (runConnKey s c).2 := by
  unfold runConnKey; split <;> simp (maxDischargeDepth := 60) [hO]
theorem execConnKey_offOk (mb : Nat) (s : State) (hO : s.offOk) :
    ∀ t, execConnKey mb s = .next t → State.offOk t := by
  rintro _ ⟨⟩; exact State.serveCmd_offOk _ _ _ _ hO (owned_offOk _ runConnKey_offOk)
@[simp] theorem State.useToken_offOk (s : State) (c : Ctx) (imgid : Nat) (hO : State.offOk s) :
    State.offOk (State.useToken s c imgid) := by
  unfold State.useToken; split <;> simp (maxDischargeDepth := 60) [hO]
@[simp] theorem State.acceptAct_offOk (s : State) (c : Ctx) (kind : Nat) (old : Nat) (new : Nat) (hO : State.offOk s) :
    State.offOk (State.acceptAct s c kind old new) := by
  simp (maxDischargeDepth := 60) [State.acceptAct, hO]
@[simp] theorem State.endOther_offOk (s : State) (kind : Nat) (hO : State.offOk s) :
    State.offOk (State.endOther s kind) := by
  simp (maxDischargeDepth := 60) [State.endOther, hO]
@[simp] theorem State.activateApp_offOk (s : State) (c : Ctx) (ref : Option CmdRef) (hO : State.offOk s) :
    State.offOk (State.activateApp s c ref) := by
  simp (maxDischargeDepth := 60) [State.activateApp, hO]
@[simp] theorem runActivate_offOk (s : State) (c : Ctx) (hO : State.offOk s) :
    State.offOk (runActivate s c).2 := by
  unfold runActivate; dsimp only; (repeat' split) <;> simp_all
theorem execActivate_offOk (mb : Nat) (s : State) (hO : s.offOk) :
    ∀ t, execActivate mb s = .next t → State.offOk t := by
  rintro _ ⟨⟩; exact State.serveCmd_offOk _ _ _ _ hO (logged_offOk _ runActivate_offOk)
@[simp] theorem runUpdOpen_offOk (s : State) (c : Ctx) (hO : State.offOk s) :
    State.offOk (runUpdOpen s c).2 := by
  unfold runUpdOpen; dsimp only; (repeat' split) <;> simp (maxDischargeDepth := 60) +contextual [hO, State.each_offOk, State.when_offOk, State.updCell_offOk]
theorem execUpdOpen_offOk (mb : Nat) (s : State) (hO : s.offOk) :
    ∀ t, execUpdOpen mb s = .next t → State.offOk t := by
  rintro _ ⟨⟩; exact State.serveCmd_offOk _ _ _ _ hO (logged_offOk _ runUpdOpen_offOk)
theorem withUpd_offOk (f : UpdSess → State → Ctx → Ans × State)
    (h : ∀ u s x, State.offOk s → State.offOk (f u s x).2) (s : State) (c : Ctx) (hO : s.offOk) :
    State.offOk (withUpd f s c).2 := by
  unfold withUpd; dsimp only; (repeat' split) <;> simp [noAns, h, hO]
@[simp] theorem State.putSess_offOk (s : State) (u : UpdSess) (hO : State.offOk s) :
    State.offOk (State.putSess s u) := by
  exact hO
@[simp] theorem takePart_offOk (u : UpdSess) (s : State) (c : Ctx) (hO : State.offOk s) :
    State.offOk (takePart u s c).2 := by
  unfold takePart; dsimp only; (repeat' split) <;> simp (maxDischargeDepth := 60) +contextual [hO, State.each_offOk, State.when_offOk, State.updCell_offOk]
theorem execUpdData_offOk (mb : Nat) (s : State) (hO : s.offOk) :
    ∀ t, execUpdData mb s = .next t → State.offOk t := by
  rintro _ ⟨⟩; exact State.serveCmd_offOk _ _ _ _ hO (withUpd_offOk _ takePart_offOk)
@[simp] theorem askVerify_offOk (u : UpdSess) (s : State) (c : Ctx) (hO : State.offOk s) :
    State.offOk (askVerify u s c).2 := by
  unfold askVerify; dsimp only; (repeat' split) <;> simp_all
theorem execUpdVerify_offOk (mb : Nat) (s : State) (hO : s.offOk) :
    ∀ t, execUpdVerify mb s = .next t → State.offOk t := by
  rintro _ ⟨⟩; exact State.serveCmd_offOk _ _ _ _ hO (logged_offOk _ (withUpd_offOk _ askVerify_offOk))
@[simp] theorem State.kernelDown_offOk (s : State) (c : Ctx) (b : Bool) (e : Envelope) (hO : State.offOk s) :
    State.offOk (State.kernelDown s c b e) := by
  simp (maxDischargeDepth := 60) [State.kernelDown, hO]
@[simp] theorem State.kernelTurns_offOk (s : State) (c : Ctx) (b : Bool) (e : Envelope) (hO : State.offOk s) :
    State.offOk (State.kernelTurns s c b e) := by
  simp (maxDischargeDepth := 60) [State.kernelTurns, hO]
@[simp] theorem runKernel_offOk (s : State) (c : Ctx) (hO : State.offOk s) :
    State.offOk (runKernel s c).2 := by
  unfold runKernel; dsimp only; (repeat' split) <;> simp_all
@[simp] theorem runFirmware_offOk (s : State) (c : Ctx) (hO : State.offOk s) :
    State.offOk (runFirmware s c).2 := by
  unfold runFirmware; split <;> simp (maxDischargeDepth := 60) [hO]
@[simp] theorem runAppImage_offOk (s : State) (c : Ctx) (hO : State.offOk s) :
    State.offOk (runAppImage s c).2 := by
  unfold runAppImage; dsimp only; (repeat' split) <;> simp_all
@[simp] theorem askActivate_offOk (u : UpdSess) (s : State) (c : Ctx) (hO : State.offOk s) :
    State.offOk (askActivate u s c).2 := by
  unfold askActivate; (repeat' split) <;> simp (maxDischargeDepth := 60) [hO]
theorem execUpdActivate_offOk (mb : Nat) (s : State) (hO : s.offOk) :
    ∀ t, execUpdActivate mb s = .next t → State.offOk t := by
  rintro _ ⟨⟩; exact State.serveCmd_offOk _ _ _ _ hO (logged_offOk _ (withUpd_offOk _ askActivate_offOk))
theorem execUpdAbort_offOk (mb : Nat) (s : State) (hO : s.offOk) :
    ∀ t, execUpdAbort mb s = .next t → State.offOk t := by
  rintro _ ⟨⟩; exact State.serveCmd_offOk _ _ _ _ hO (logged_offOk _ (withUpd_offOk _ fun u s x h => by simp [okAns, h]))
theorem execUpdStatus_offOk (mb : Nat) (s : State) (hO : s.offOk) :
    ∀ t, execUpdStatus mb s = .next t → State.offOk t := by
  rintro _ ⟨⟩; exact State.serveCmd_offOk _ _ _ _ hO (query_offOk _ _ _)
@[simp] theorem runRecOpen_offOk (s : State) (c : Ctx) (hO : State.offOk s) :
    State.offOk (runRecOpen s c).2 := by
  unfold runRecOpen; split <;> simp (maxDischargeDepth := 60) [hO]
theorem execRecOpen_offOk (mb : Nat) (s : State) (hO : s.offOk) :
    ∀ t, execRecOpen mb s = .next t → State.offOk t := by
  rintro _ ⟨⟩; exact State.serveCmd_offOk _ _ _ _ hO (runRecOpen_offOk)
@[simp] theorem State.nextBatch_offOk (s : State) (k : Cursor) (maxBytes : Nat) (hO : State.offOk s) :
    State.offOk (State.nextBatch s k maxBytes).2 := by
  exact hO
@[simp] theorem runRecNext_offOk (s : State) (c : Ctx) (hO : State.offOk s) :
    State.offOk (runRecNext s c).2 := by
  unfold runRecNext; dsimp only; (repeat' split) <;> simp_all
theorem execRecNext_offOk (mb : Nat) (s : State) (hO : s.offOk) :
    ∀ t, execRecNext mb s = .next t → State.offOk t := by
  rintro _ ⟨⟩; exact State.serveCmd_offOk _ _ _ _ hO (runRecNext_offOk)
theorem execRecClose_offOk (mb : Nat) (s : State) (hO : s.offOk) :
    ∀ t, execRecClose mb s = .next t → State.offOk t := by
  rintro _ ⟨⟩; exact State.serveCmd_offOk _ _ _ _ hO (fun s x h => by dsimp only [cmdRecClose, opCmd, noAns, okAns]; (repeat' split) <;> simp [h])
theorem execRecCounters_offOk (mb : Nat) (s : State) (hO : s.offOk) :
    ∀ t, execRecCounters mb s = .next t → State.offOk t := by
  rintro _ ⟨⟩; exact State.serveCmd_offOk _ _ _ _ hO (query_offOk _ _ _)
@[simp] theorem State.startTest_offOk (s : State) (t : TestSt) (hO : State.offOk s) :
    State.offOk (State.startTest s t) := hO
@[simp] theorem runTestRun_offOk (s : State) (c : Ctx) (hO : State.offOk s) :
    State.offOk (runTestRun s c).2 := by
  unfold runTestRun; dsimp only; (repeat' split) <;> simp_all (maxDischargeDepth := 60)
theorem execTestRun_offOk (mb : Nat) (s : State) (hO : s.offOk) :
    ∀ t, execTestRun mb s = .next t → State.offOk t := by
  rintro _ ⟨⟩; exact State.serveCmd_offOk _ _ _ _ hO (logged_offOk _ runTestRun_offOk)
theorem execTestList_offOk (mb : Nat) (s : State) (hO : s.offOk) :
    ∀ t, execTestList mb s = .next t → State.offOk t := by
  rintro _ ⟨⟩; exact State.serveCmd_offOk _ _ _ _ hO (query_offOk _ _ _)
@[simp] theorem runTestAbort_offOk (s : State) (c : Ctx) (hO : State.offOk s) :
    State.offOk (runTestAbort s c).2 := by
  unfold runTestAbort; split <;> simp (maxDischargeDepth := 60) [hO]
theorem execTestAbort_offOk (mb : Nat) (s : State) (hO : s.offOk) :
    ∀ t, execTestAbort mb s = .next t → State.offOk t := by
  rintro _ ⟨⟩; exact State.serveCmd_offOk _ _ _ _ hO (logged_offOk _ runTestAbort_offOk)
@[simp] theorem State.beginRelease_offOk (s : State) (kind : Nat) (index : Nat) (r : CmdRef) (hO : State.offOk s) :
    State.offOk (State.beginRelease s kind index r) := by
  unfold State.beginRelease; dsimp only; (repeat' split) <;> simp (maxDischargeDepth := 60) +contextual [hO, State.each_offOk, State.when_offOk, State.updCell_offOk]
@[simp] theorem runHedgeRelease_offOk (s : State) (c : Ctx) (hO : State.offOk s) :
    State.offOk (runHedgeRelease s c).2 := by
  unfold runHedgeRelease; dsimp only; (repeat' split) <;> simp_all
theorem execHedgeRelease_offOk (mb : Nat) (s : State) (hO : s.offOk) :
    ∀ t, execHedgeRelease mb s = .next t → State.offOk t := by
  rintro _ ⟨⟩; exact State.serveCmd_offOk _ _ _ _ hO (logged_offOk _ runHedgeRelease_offOk)
@[simp] theorem State.queueOp_offOk (s : State) (c : Ctx) (item : Nat) (k : OpKind) (hO : State.offOk s) :
    State.offOk (State.queueOp s c item k).2 := by
  simp (maxDischargeDepth := 60) [State.queueOp, hO]
theorem execRouteSet_offOk (mb : Nat) (s : State) (hO : s.offOk) :
    ∀ t, execRouteSet mb s = .next t → State.offOk t := by
  rintro _ ⟨⟩; exact State.serveCmd_offOk _ _ _ _ hO (fun s x h => by dsimp only [cmdRouteSet, opCmd, noAns, okAns]; (repeat' split) <;> simp [h])
theorem execRouteCancel_offOk (mb : Nat) (s : State) (hO : s.offOk) :
    ∀ t, execRouteCancel mb s = .next t → State.offOk t := by
  rintro _ ⟨⟩; exact State.serveCmd_offOk _ _ _ _ hO (fun s x h => by dsimp only [cmdRouteCancel, opCmd, noAns, okAns]; (repeat' split) <;> simp [h])
theorem execAutoSet_offOk (mb : Nat) (s : State) (hO : s.offOk) :
    ∀ t, execAutoSet mb s = .next t → State.offOk t := by
  rintro _ ⟨⟩; exact State.serveCmd_offOk _ _ _ _ hO (fun s x h => by dsimp only [cmdAutoSet, opCmd, noAns, okAns]; (repeat' split) <;> simp [h])
theorem execTrigArm_offOk (mb : Nat) (s : State) (hO : s.offOk) :
    ∀ t, execTrigArm mb s = .next t → State.offOk t := by
  rintro _ ⟨⟩; exact State.serveCmd_offOk _ _ _ _ hO (fun s x h => by dsimp only [cmdTrigArm, opCmd, noAns, okAns]; (repeat' split) <;> simp [h])
theorem execKeyRelease_offOk (mb : Nat) (s : State) (hO : s.offOk) :
    ∀ t, execKeyRelease mb s = .next t → State.offOk t := by
  rintro _ ⟨⟩; exact State.serveCmd_offOk _ _ _ _ hO (fun s x h => by dsimp only [cmdKeyRelease, opCmd, noAns, okAns]; (repeat' split) <;> simp [h])
@[simp] theorem State.secondOp_offOk (s : State) (c : Ctx) (window : Bool) (k : OpKind) (hO : State.offOk s) :
    State.offOk (State.secondOp s c window k).2 := by
  unfold State.secondOp; dsimp only; (repeat' split) <;> simp_all
@[simp] theorem runEmergRelease_offOk (s : State) (c : Ctx) (hO : State.offOk s) :
    State.offOk (runEmergRelease s c).2 := by
  unfold runEmergRelease; dsimp only; (repeat' split) <;> simp_all
theorem execEmergRelease_offOk (mb : Nat) (s : State) (hO : s.offOk) :
    ∀ t, execEmergRelease mb s = .next t → State.offOk t := by
  rintro _ ⟨⟩; exact State.serveCmd_offOk _ _ _ _ hO (runEmergRelease_offOk)
@[simp] theorem runAxleReset_offOk (s : State) (c : Ctx) (hO : State.offOk s) :
    State.offOk (runAxleReset s c).2 := by
  unfold runAxleReset; (repeat' split) <;> simp (maxDischargeDepth := 60) [hO]
theorem execAxleReset_offOk (mb : Nat) (s : State) (hO : s.offOk) :
    ∀ t, execAxleReset mb s = .next t → State.offOk t := by
  rintro _ ⟨⟩; exact State.serveCmd_offOk _ _ _ _ hO (runAxleReset_offOk)
@[simp] theorem runTimeSet_offOk (s : State) (c : Ctx) (hO : State.offOk s) :
    State.offOk (runTimeSet s c).2 := by
  unfold runTimeSet; dsimp only; (repeat' split) <;> simp (maxDischargeDepth := 60) +contextual [hO, State.each_offOk, State.when_offOk, State.updCell_offOk]
theorem execTimeSet_offOk (mb : Nat) (s : State) (hO : s.offOk) :
    ∀ t, execTimeSet mb s = .next t → State.offOk t := by
  rintro _ ⟨⟩; exact State.serveCmd_offOk _ _ _ _ hO (logged_offOk _ runTimeSet_offOk)
@[simp] theorem runTimeSource_offOk (s : State) (c : Ctx) (hO : State.offOk s) :
    State.offOk (runTimeSource s c).2 := by
  unfold runTimeSource; dsimp only; (repeat' split) <;> simp (maxDischargeDepth := 60) +contextual [hO, State.each_offOk, State.when_offOk, State.updCell_offOk]
theorem execTimeSource_offOk (mb : Nat) (s : State) (hO : s.offOk) :
    ∀ t, execTimeSource mb s = .next t → State.offOk t := by
  rintro _ ⟨⟩; exact State.serveCmd_offOk _ _ _ _ hO (logged_offOk _ runTimeSource_offOk)
@[simp] theorem runHandover_offOk (s : State) (c : Ctx) (hO : State.offOk s) :
    State.offOk (runHandover s c).2 := by
  unfold runHandover; split <;> simp (maxDischargeDepth := 60) [hO]
theorem execHandover_offOk (mb : Nat) (s : State) (hO : s.offOk) :
    ∀ t, execHandover mb s = .next t → State.offOk t := by
  rintro _ ⟨⟩; exact State.serveCmd_offOk _ _ _ _ hO (logged_offOk _ runHandover_offOk)
@[simp] theorem runColdAssume_offOk (s : State) (c : Ctx) (hO : State.offOk s) :
    State.offOk (runColdAssume s c).2 := by
  unfold runColdAssume; dsimp only; (repeat' split) <;> simp (maxDischargeDepth := 60) +contextual [hO, State.each_offOk, State.when_offOk, State.updCell_offOk]
theorem execColdAssume_offOk (mb : Nat) (s : State) (hO : s.offOk) :
    ∀ t, execColdAssume mb s = .next t → State.offOk t := by
  rintro _ ⟨⟩; exact State.serveCmd_offOk _ _ _ _ hO (logged_offOk _ runColdAssume_offOk)
theorem execSbStatus_offOk (mb : Nat) (s : State) (hO : s.offOk) :
    ∀ t, execSbStatus mb s = .next t → State.offOk t := by
  rintro _ ⟨⟩; exact State.serveCmd_offOk _ _ _ _ hO (query_offOk _ _ _)
theorem execSbErrlog_offOk (mb : Nat) (s : State) (hO : s.offOk) :
    ∀ t, execSbErrlog mb s = .next t → State.offOk t := by
  rintro _ ⟨⟩; exact State.serveCmd_offOk _ _ _ _ hO (query_offOk _ _ _)
theorem execSbErrclr_offOk (mb : Nat) (s : State) (hO : s.offOk) :
    ∀ t, execSbErrclr mb s = .next t → State.offOk t := by
  rintro _ ⟨⟩; exact State.serveCmd_offOk _ _ _ _ hO (fun s x h => by dsimp only [cmdSbErrclr, opCmd, noAns, okAns]; (repeat' split) <;> simp [h])
@[simp] theorem State.closeWindow_offOk (s : State) (n : Nat) (hO : State.offOk s) :
    State.offOk (State.closeWindow s n) := by
  simp (maxDischargeDepth := 60) +contextual [State.closeWindow, hO, State.each_offOk, State.updCell_offOk]
@[simp] theorem runWindowSet_offOk (s : State) (c : Ctx) (hO : State.offOk s) :
    State.offOk (runWindowSet s c).2 := by
  unfold runWindowSet; dsimp only; (repeat' split) <;> simp (maxDischargeDepth := 60) +contextual [hO, State.each_offOk, State.when_offOk, State.updCell_offOk]
theorem execWindowSet_offOk (mb : Nat) (s : State) (hO : s.offOk) :
    ∀ t, execWindowSet mb s = .next t → State.offOk t := by
  rintro _ ⟨⟩; exact State.serveCmd_offOk _ _ _ _ hO (logged_offOk _ runWindowSet_offOk)
@[simp] theorem runTunnelSet_offOk (s : State) (c : Ctx) (hO : State.offOk s) :
    State.offOk (runTunnelSet s c).2 := by
  unfold runTunnelSet; dsimp only; (repeat' split) <;> simp (maxDischargeDepth := 60) +contextual [hO, State.each_offOk, State.when_offOk, State.updCell_offOk]
theorem execTunnelSet_offOk (mb : Nat) (s : State) (hO : s.offOk) :
    ∀ t, execTunnelSet mb s = .next t → State.offOk t := by
  rintro _ ⟨⟩; exact State.serveCmd_offOk _ _ _ _ hO (logged_offOk _ runTunnelSet_offOk)
theorem execTunnelStatus_offOk (mb : Nat) (s : State) (hO : s.offOk) :
    ∀ t, execTunnelStatus mb s = .next t → State.offOk t := by
  rintro _ ⟨⟩; exact State.serveCmd_offOk _ _ _ _ hO (query_offOk _ _ _)
@[simp] theorem State.queueForce_offOk (s : State) (c : Ctx) (f : ForceCmd) (hO : State.offOk s) :
    State.offOk (State.queueForce s c f).2 := by
  simp (maxDischargeDepth := 60) [State.queueForce, hO]
@[simp] theorem runForceSet_offOk (s : State) (c : Ctx) (hO : State.offOk s) :
    State.offOk (runForceSet s c).2 := by
  unfold runForceSet; dsimp only; (repeat' split) <;> simp_all
theorem execForceSet_offOk (mb : Nat) (s : State) (hO : s.offOk) :
    ∀ t, execForceSet mb s = .next t → State.offOk t := by
  rintro _ ⟨⟩; exact State.serveCmd_offOk _ _ _ _ hO (runForceSet_offOk)
@[simp] theorem runForceClear_offOk (s : State) (c : Ctx) (hO : State.offOk s) :
    State.offOk (runForceClear s c).2 := by
  unfold runForceClear; dsimp only; (repeat' split) <;> simp_all
theorem execForceClear_offOk (mb : Nat) (s : State) (hO : s.offOk) :
    ∀ t, execForceClear mb s = .next t → State.offOk t := by
  rintro _ ⟨⟩; exact State.serveCmd_offOk _ _ _ _ hO (logged_offOk _ runForceClear_offOk)
theorem execForceList_offOk (mb : Nat) (s : State) (hO : s.offOk) :
    ∀ t, execForceList mb s = .next t → State.offOk t := by
  rintro _ ⟨⟩; exact State.serveCmd_offOk _ _ _ _ hO (query_offOk _ _ _)
theorem execSwitchForwarding_offOk (net : Net) (port2 : Bool) (f : Frame) (s : State) (hO : State.offOk s) :
    ∀ t, (execSwitchForwarding net port2 f s) = .next t → State.offOk t := by
  rintro _ ⟨⟩; simp (maxDischargeDepth := 60) [hO]
theorem execLearnedAddressAgeing_offOk (net : Net) (mac : Nat) (s : State) (hO : State.offOk s) :
    ∀ t, (execLearnedAddressAgeing net mac s) = .next t → State.offOk t := by
  rintro _ ⟨⟩; simp (maxDischargeDepth := 60) [hO]
theorem execEthernetLinkChange_offOk (net : Net) (port2 : Bool) (up : Bool) (s : State) (hO : State.offOk s) :
    ∀ t, (execEthernetLinkChange net port2 up s) = .next t → State.offOk t := by
  rintro _ ⟨⟩; simp (maxDischargeDepth := 60) [hO]
@[simp] theorem State.ringSend_offOk (s : State) (n : Net) (kind : Nat) (hO : State.offOk s) :
    State.offOk (State.ringSend s n kind) := by
  exact hO
theorem execRingtestSend_offOk (net : Net) (s : State) (hO : State.offOk s) :
    ∀ t, (execRingtestSend net s) = .next t → State.offOk t := by
  rintro _ ⟨⟩; simp (maxDischargeDepth := 60) [hO]
theorem execRingtestReceived_offOk (net : Net) (port2 : Bool) (f : Frame) (s : State) (hO : State.offOk s) :
    ∀ t, (execRingtestReceived net port2 f s) = .next t → State.offOk t := by
  rintro _ ⟨⟩; simp (maxDischargeDepth := 60) [hO]
theorem execRingBreak_offOk (net : Net) (s : State) (hO : State.offOk s) :
    ∀ t, (execRingBreak net s) = .next t → State.offOk t := by
  rintro _ ⟨⟩; simp (maxDischargeDepth := 60) [hO]
theorem execRingClose_offOk (net : Net) (s : State) (hO : State.offOk s) :
    ∀ t, (execRingClose net s) = .next t → State.offOk t := by
  rintro _ ⟨⟩; simp (maxDischargeDepth := 60) [hO]
@[simp] theorem State.clearOut_offOk (s : State) (hO : State.offOk s) :
    State.offOk (State.clearOut s) := by
  exact hO
@[simp] theorem State.tickCells_offOk (s : State) (hO : State.offOk s) :
    State.offOk (State.tickCells s) := by
  simp (maxDischargeDepth := 60) +contextual [State.tickCells, hO, State.each_offOk, State.updCell_offOk]
@[simp] theorem State.tickCycle_offOk (s : State) (hO : State.offOk s) :
    State.offOk (State.tickCycle s) := by
  exact hO
@[simp] theorem State.tickRecs_offOk (s : State) (hO : State.offOk s) :
    State.offOk (State.tickRecs s) := by
  simp (maxDischargeDepth := 60) [State.tickRecs, hO]
@[simp] theorem State.restartFw_offOk (s : State) (hO : State.offOk s) :
    State.offOk (State.restartFw s) := by
  simp (maxDischargeDepth := 60) [State.restartFw, hO]
@[simp] theorem tick_offOk (s : State) (hO : State.offOk s) :
    State.offOk (tick s) := by
  simp (maxDischargeDepth := 60) [tick, hO]
@[simp] theorem State.withFetchWord_offOk (s : State) (nbits : Nat) (w : Nat) (hO : State.offOk s) :
    State.offOk (State.withFetchWord s nbits w) := by
  exact hO
end Sys2Proof.Machine
end

