-- ==== Sys2Proof/Laws/Records.lean ====
section
/-! SUPPORT. What a record, a change-log record, a notification and a completion write: the recorder's part of the
state and the notification ring, never the read cursor, the sessions or the first steps (14, 12 R360 to R362). -/

namespace Sys2Proof.Machine

/-- t is s but for its records and the record numbers of the alarm windows, and the read cursor is the same. -/
def OnlyRecs (s t : State) : Prop :=
  t = { s with recs := t.recs, mail := { s.mail with alarms := t.mail.alarms } } ∧ t.recs.cursor = s.recs.cursor

theorem OnlyRecs.refl (s : State) : OnlyRecs s s := ⟨rfl, rfl⟩

theorem OnlyRecs.trans {s t u : State} (h : OnlyRecs s t) (g : OnlyRecs t u) : OnlyRecs s u := by
  obtain ⟨h1, h2⟩ := h
  obtain ⟨g1, g2⟩ := g
  refine ⟨?_, g2.trans h2⟩
  rw [g1, h1]

theorem OnlyRecs.updRecs (s : State) (f : RecSt → RecSt) (h : ∀ r, (f r).cursor = r.cursor) : OnlyRecs s (s.updRecs f) :=
  ⟨rfl, h _⟩

theorem OnlyRecs.takeSeq (s : State) : OnlyRecs s s.takeSeq.2 := ⟨rfl, rfl⟩

theorem RecSt.countDrop_cursor (r : RecSt) (p : Nat) (b : Bool) : (r.countDrop p b).cursor = r.cursor := by
  unfold RecSt.countDrop; dsimp only; split <;> rfl

theorem RecSt.enqueue_cursor (r : RecSt) (p : Nat) (x : Rec) : (r.enqueue p x).cursor = r.cursor := by
  unfold RecSt.enqueue; dsimp only; (repeat' split) <;> simp only [RecSt.countDrop_cursor]

theorem OnlyRecs.toRc (s : State) (p : Nat) (x : Rec) : OnlyRecs s (s.toRc p x) := by
  unfold State.toRc; split
  · exact OnlyRecs.updRecs _ _ fun r => RecSt.enqueue_cursor r _ _
  · exact OnlyRecs.updRecs _ _ fun _ => rfl

theorem OnlyRecs.logFault (s : State) (x : FaultRec) : OnlyRecs s (s.logFault x) :=
  OnlyRecs.updRecs _ _ fun r => by dsimp only; (repeat' split) <;> simp only [RecSt.countDrop_cursor]

theorem OnlyRecs.logCount (s : State) (c : Coal) (seq : Nat) : OnlyRecs s (s.logCount c seq) := by
  unfold State.logCount; dsimp only; split
  · exact OnlyRecs.logFault _ _
  · exact OnlyRecs.refl _

theorem OnlyRecs.alarmSeq (s : State) (kind source seq : Nat) : OnlyRecs s (s.alarmSeq kind source seq) := by
  unfold State.alarmSeq; split <;> exact ⟨rfl, rfl⟩

theorem OnlyRecs.closeCoal (s : State) (c : Coal) : OnlyRecs s (s.closeCoal c) := by
  unfold State.closeCoal; dsimp only; split
  · exact OnlyRecs.updRecs _ _ fun _ => rfl
  · refine ((OnlyRecs.updRecs _ _ ?_).trans (OnlyRecs.takeSeq _)).trans 
      (((OnlyRecs.logCount _ _ _).trans (OnlyRecs.alarmSeq _ _ _ _)).trans (OnlyRecs.toRc _ _ _))
    intro _; rfl

theorem OnlyRecs.openCoal (s : State) (kind source prio ot : Nat) (x : Rec) (body : Bytes) :
    OnlyRecs s (s.openCoal kind source prio ot x body) := by
  unfold State.openCoal; dsimp only; split
  · refine (OnlyRecs.updRecs _ _ ?_).trans (OnlyRecs.updRecs _ _ fun r => RecSt.countDrop_cursor r _ _)
    intro _; rfl
  · refine (OnlyRecs.updRecs _ _ ?_).trans (OnlyRecs.toRc _ _ _)
    intro _; rfl

theorem OnlyRecs.recordAt (s : State) (kind source seq ot flags cls : Nat) (body : Bytes) :
    OnlyRecs s (s.recordAt kind source seq ot flags cls body) := by
  unfold State.recordAt; dsimp only; split
  · split
    · exact OnlyRecs.updRecs _ _ fun _ => rfl
    · exact (OnlyRecs.closeCoal _ _).trans (OnlyRecs.openCoal _ _ _ _ _ _ _)
  · exact OnlyRecs.openCoal _ _ _ _ _ _ _

theorem OnlyRecs.record (s : State) (kind source : Nat) (body : Bytes) : OnlyRecs s (s.record kind source body).2 :=
  (OnlyRecs.takeSeq s).trans (OnlyRecs.recordAt _ _ _ _ _ _ _ _)

theorem OnlyRecs.changeAt (s : State) (seq kind cred session ep cmd : Nat) (b : Bytes) :
    OnlyRecs s (s.changeAt seq kind cred session ep cmd b) := by
  unfold State.changeAt; dsimp only; split
  · exact OnlyRecs.updRecs _ _ fun r => by split <;> rfl
  · exact OnlyRecs.updRecs _ _ fun r => rfl

theorem OnlyRecs.change (s : State) (kind cred session ep cmd : Nat) (b : Bytes) :
    OnlyRecs s (s.change kind cred session ep cmd b) :=
  (OnlyRecs.takeSeq s).trans (OnlyRecs.changeAt _ _ _ _ _ _ _ _)

/-- A change-log record of a request writes the records alone. -/
theorem OnlyRecs.ctxChange (s : State) (x : Ctx) (kind : Nat) (b : Bytes) : OnlyRecs s (s.ctxChange x kind b) :=
  OnlyRecs.change _ _ _ _ _ _ _

/-- t is s but for its records and mailboxes; the read cursor, the sessions and the first steps are the same. -/
def OnlyNotes (s t : State) : Prop :=
  t = { s with recs := t.recs, mail := t.mail } ∧ t.recs.cursor = s.recs.cursor ∧
  t.mail.sessions = s.mail.sessions ∧ t.mail.steps = s.mail.steps ∧ t.mail.boxes = s.mail.boxes ∧ t.mail.order = s.mail.order

theorem OnlyNotes.refl (s : State) : OnlyNotes s s := ⟨rfl, rfl, rfl, rfl, rfl, rfl⟩

theorem OnlyNotes.trans {s t u : State} (h : OnlyNotes s t) (g : OnlyNotes t u) : OnlyNotes s u := by
  obtain ⟨h1, h2, h3, h4, h5, h6⟩ := h
  obtain ⟨g1, g2, g3, g4, g5, g6⟩ := g
  refine ⟨?_, g2.trans h2, g3.trans h3, g4.trans h4, g5.trans h5, g6.trans h6⟩
  rw [g1, h1]

theorem OnlyRecs.notes {s t : State} (h : OnlyRecs s t) : OnlyNotes s t := by
  obtain ⟨h1, h2⟩ := h
  refine ⟨?_, h2, by rw [h1], by rw [h1], by rw [h1], by rw [h1]⟩
  rw [h1]

theorem OnlyNotes.ringPut (s : State) (n : Notif) : OnlyNotes s (s.ringPut n) := ⟨rfl, rfl, rfl, rfl, rfl, rfl⟩

theorem OnlyNotes.each {α : Type} (s : State) (xs : List α) (f : State → α → State) (h : ∀ s x, OnlyNotes s (f s x)) :
    OnlyNotes s (s.each xs f) := by
  induction xs generalizing s with
  | nil => exact OnlyNotes.refl s
  | cons x xs ih => exact (h s x).trans (ih (f s x))

theorem OnlyNotes.flushWaiting (s : State) : OnlyNotes s s.flushWaiting := by
  unfold State.flushWaiting; split
  · exact OnlyNotes.trans (t := { s with mail := { s.mail with waiting := [] } }) ⟨rfl, rfl, rfl, rfl, rfl, rfl⟩
      (OnlyNotes.each _ _ _ OnlyNotes.ringPut)
  · exact OnlyNotes.refl s

theorem OnlyNotes.notify (s : State) (n : Notif) : OnlyNotes s (s.notify n) := by
  unfold State.notify; split
  · exact (OnlyNotes.flushWaiting s).trans (OnlyNotes.ringPut _ _)
  · exact ⟨rfl, rfl, rfl, rfl, rfl, rfl⟩

theorem OnlyNotes.close (s : State) (p : OpenCmd → Bool) (n : Notif) :
    OnlyNotes s (State.notify { s with mail := { s.mail with opened := s.mail.opened.filter p } } n) :=
  OnlyNotes.trans (t := { s with mail := { s.mail with opened := s.mail.opened.filter p } })
    ⟨rfl, rfl, rfl, rfl, rfl, rfl⟩ (OnlyNotes.notify _ _)

/-- A completion writes its record, its notification, and takes the command from the open ones. -/
theorem OnlyNotes.complete (s : State) (r : CmdRef) (status : Nat) (b : Bytes) : OnlyNotes s (s.complete r status b) := by
  unfold State.complete State.writeCompl; dsimp only; split
  · exact (OnlyRecs.record s _ _ _).notes.trans (OnlyNotes.close _ _ _)
  · exact OnlyNotes.refl _

end Sys2Proof.Machine
end

