-- ==== Sys2Proof/Laws/State.lean ====
section
/-! SUPPORT. One lemma for each update of the state and each field: what an update of one part leaves of the others, and
what a read of the part gives after it. No later proof needs to unfold a record update. -/

namespace Sys2Proof.Machine

variable (s : State)

/-! ### updLane -/

@[simp] theorem State.updLane_pending (l : Lane) (f : LaneSt → LaneSt) : (s.updLane l f).pending = s.pending := rfl
@[simp] theorem State.updLane_id (l : Lane) (f : LaneSt → LaneSt) : (s.updLane l f).id = s.id := rfl
@[simp] theorem State.updLane_cyc (l : Lane) (f : LaneSt → LaneSt) : (s.updLane l f).cyc = s.cyc := rfl
@[simp] theorem State.updLane_app (l : Lane) (f : LaneSt → LaneSt) : (s.updLane l f).app = s.app := rfl
@[simp] theorem State.updLane_trl (l : Lane) (f : LaneSt → LaneSt) : (s.updLane l f).trl = s.trl := rfl
@[simp] theorem State.updLane_image (l : Lane) (f : LaneSt → LaneSt) : (s.updLane l f).image = s.image := rfl
@[simp] theorem State.updLane_set (l : Lane) (f : LaneSt → LaneSt) : (s.updLane l f).set = s.set := rfl
@[simp] theorem State.updLane_cells (l : Lane) (f : LaneSt → LaneSt) : (s.updLane l f).cells = s.cells := rfl
@[simp] theorem State.updLane_banks (l : Lane) (f : LaneSt → LaneSt) : (s.updLane l f).banks = s.banks := rfl
@[simp] theorem State.updLane_frame (l : Lane) (f : LaneSt → LaneSt) : (s.updLane l f).frame = s.frame := rfl
@[simp] theorem State.updLane_conns (l : Lane) (f : LaneSt → LaneSt) : (s.updLane l f).conns = s.conns := rfl
@[simp] theorem State.updLane_nets (l : Lane) (f : LaneSt → LaneSt) : (s.updLane l f).nets = s.nets := rfl
@[simp] theorem State.updLane_pair (l : Lane) (f : LaneSt → LaneSt) : (s.updLane l f).pair = s.pair := rfl
@[simp] theorem State.updLane_flt (l : Lane) (f : LaneSt → LaneSt) : (s.updLane l f).flt = s.flt := rfl
@[simp] theorem State.updLane_mail (l : Lane) (f : LaneSt → LaneSt) : (s.updLane l f).mail = s.mail := rfl
@[simp] theorem State.updLane_stage (l : Lane) (f : LaneSt → LaneSt) : (s.updLane l f).stage = s.stage := rfl
@[simp] theorem State.updLane_bridge (l : Lane) (f : LaneSt → LaneSt) : (s.updLane l f).bridge = s.bridge := rfl
@[simp] theorem State.updLane_tunnels (l : Lane) (f : LaneSt → LaneSt) : (s.updLane l f).tunnels = s.tunnels := rfl
@[simp] theorem State.updLane_ports (l : Lane) (f : LaneSt → LaneSt) : (s.updLane l f).ports = s.ports := rfl
@[simp] theorem State.updLane_recs (l : Lane) (f : LaneSt → LaneSt) : (s.updLane l f).recs = s.recs := rfl
@[simp] theorem State.updLane_time (l : Lane) (f : LaneSt → LaneSt) : (s.updLane l f).time = s.time := rfl
@[simp] theorem State.updLane_be (l : Lane) (f : LaneSt → LaneSt) : (s.updLane l f).be = s.be := rfl
@[simp] theorem State.updLane_upd (l : Lane) (f : LaneSt → LaneSt) : (s.updLane l f).upd = s.upd := rfl
@[simp] theorem State.updLane_pow (l : Lane) (f : LaneSt → LaneSt) : (s.updLane l f).pow = s.pow := rfl
@[simp] theorem State.updLane_netTx (l : Lane) (f : LaneSt → LaneSt) : (s.updLane l f).netTx = s.netTx := rfl
@[simp] theorem State.updLane_legacyTx (l : Lane) (f : LaneSt → LaneSt) : (s.updLane l f).legacyTx = s.legacyTx := rfl
@[simp] theorem State.updLane_plTx (l : Lane) (f : LaneSt → LaneSt) : (s.updLane l f).plTx = s.plTx := rfl
@[simp] theorem State.updLane_splits (l : Lane) (f : LaneSt → LaneSt) : (s.updLane l f).splits = s.splits := rfl
@[simp] theorem State.updLane_free (l : Lane) (f : LaneSt → LaneSt) : (s.updLane l f).free = s.free := rfl

/-! ### updLanes -/

@[simp] theorem State.updLanes_pending (f : LaneSt → LaneSt) : (s.updLanes f).pending = s.pending := rfl
@[simp] theorem State.updLanes_id (f : LaneSt → LaneSt) : (s.updLanes f).id = s.id := rfl
@[simp] theorem State.updLanes_lanes (f : LaneSt → LaneSt) : (s.updLanes f).lanes = s.lanes.map f := rfl
@[simp] theorem State.updLanes_cyc (f : LaneSt → LaneSt) : (s.updLanes f).cyc = s.cyc := rfl
@[simp] theorem State.updLanes_app (f : LaneSt → LaneSt) : (s.updLanes f).app = s.app := rfl
@[simp] theorem State.updLanes_trl (f : LaneSt → LaneSt) : (s.updLanes f).trl = s.trl := rfl
@[simp] theorem State.updLanes_image (f : LaneSt → LaneSt) : (s.updLanes f).image = s.image := rfl
@[simp] theorem State.updLanes_set (f : LaneSt → LaneSt) : (s.updLanes f).set = s.set := rfl
@[simp] theorem State.updLanes_cells (f : LaneSt → LaneSt) : (s.updLanes f).cells = s.cells := rfl
@[simp] theorem State.updLanes_banks (f : LaneSt → LaneSt) : (s.updLanes f).banks = s.banks := rfl
@[simp] theorem State.updLanes_frame (f : LaneSt → LaneSt) : (s.updLanes f).frame = s.frame := rfl
@[simp] theorem State.updLanes_conns (f : LaneSt → LaneSt) : (s.updLanes f).conns = s.conns := rfl
@[simp] theorem State.updLanes_nets (f : LaneSt → LaneSt) : (s.updLanes f).nets = s.nets := rfl
@[simp] theorem State.updLanes_pair (f : LaneSt → LaneSt) : (s.updLanes f).pair = s.pair := rfl
@[simp] theorem State.updLanes_flt (f : LaneSt → LaneSt) : (s.updLanes f).flt = s.flt := rfl
@[simp] theorem State.updLanes_mail (f : LaneSt → LaneSt) : (s.updLanes f).mail = s.mail := rfl
@[simp] theorem State.updLanes_stage (f : LaneSt → LaneSt) : (s.updLanes f).stage = s.stage := rfl
@[simp] theorem State.updLanes_bridge (f : LaneSt → LaneSt) : (s.updLanes f).bridge = s.bridge := rfl
@[simp] theorem State.updLanes_tunnels (f : LaneSt → LaneSt) : (s.updLanes f).tunnels = s.tunnels := rfl
@[simp] theorem State.updLanes_ports (f : LaneSt → LaneSt) : (s.updLanes f).ports = s.ports := rfl
@[simp] theorem State.updLanes_recs (f : LaneSt → LaneSt) : (s.updLanes f).recs = s.recs := rfl
@[simp] theorem State.updLanes_time (f : LaneSt → LaneSt) : (s.updLanes f).time = s.time := rfl
@[simp] theorem State.updLanes_be (f : LaneSt → LaneSt) : (s.updLanes f).be = s.be := rfl
@[simp] theorem State.updLanes_upd (f : LaneSt → LaneSt) : (s.updLanes f).upd = s.upd := rfl
@[simp] theorem State.updLanes_pow (f : LaneSt → LaneSt) : (s.updLanes f).pow = s.pow := rfl
@[simp] theorem State.updLanes_netTx (f : LaneSt → LaneSt) : (s.updLanes f).netTx = s.netTx := rfl
@[simp] theorem State.updLanes_legacyTx (f : LaneSt → LaneSt) : (s.updLanes f).legacyTx = s.legacyTx := rfl
@[simp] theorem State.updLanes_plTx (f : LaneSt → LaneSt) : (s.updLanes f).plTx = s.plTx := rfl
@[simp] theorem State.updLanes_splits (f : LaneSt → LaneSt) : (s.updLanes f).splits = s.splits := rfl
@[simp] theorem State.updLanes_free (f : LaneSt → LaneSt) : (s.updLanes f).free = s.free := rfl

/-! ### updCell -/

@[simp] theorem State.updCell_pending (n : Nat) (f : CellSt → CellSt) : (s.updCell n f).pending = s.pending := rfl
@[simp] theorem State.updCell_id (n : Nat) (f : CellSt → CellSt) : (s.updCell n f).id = s.id := rfl
@[simp] theorem State.updCell_lanes (n : Nat) (f : CellSt → CellSt) : (s.updCell n f).lanes = s.lanes := rfl
@[simp] theorem State.updCell_cyc (n : Nat) (f : CellSt → CellSt) : (s.updCell n f).cyc = s.cyc := rfl
@[simp] theorem State.updCell_app (n : Nat) (f : CellSt → CellSt) : (s.updCell n f).app = s.app := rfl
@[simp] theorem State.updCell_trl (n : Nat) (f : CellSt → CellSt) : (s.updCell n f).trl = s.trl := rfl
@[simp] theorem State.updCell_image (n : Nat) (f : CellSt → CellSt) : (s.updCell n f).image = s.image := rfl
@[simp] theorem State.updCell_set (n : Nat) (f : CellSt → CellSt) : (s.updCell n f).set = s.set := rfl
@[simp] theorem State.updCell_banks (n : Nat) (f : CellSt → CellSt) : (s.updCell n f).banks = s.banks := rfl
@[simp] theorem State.updCell_frame (n : Nat) (f : CellSt → CellSt) : (s.updCell n f).frame = s.frame := rfl
@[simp] theorem State.updCell_conns (n : Nat) (f : CellSt → CellSt) : (s.updCell n f).conns = s.conns := rfl
@[simp] theorem State.updCell_nets (n : Nat) (f : CellSt → CellSt) : (s.updCell n f).nets = s.nets := rfl
@[simp] theorem State.updCell_pair (n : Nat) (f : CellSt → CellSt) : (s.updCell n f).pair = s.pair := rfl
@[simp] theorem State.updCell_flt (n : Nat) (f : CellSt → CellSt) : (s.updCell n f).flt = s.flt := rfl
@[simp] theorem State.updCell_mail (n : Nat) (f : CellSt → CellSt) : (s.updCell n f).mail = s.mail := rfl
@[simp] theorem State.updCell_stage (n : Nat) (f : CellSt → CellSt) : (s.updCell n f).stage = s.stage := rfl
@[simp] theorem State.updCell_bridge (n : Nat) (f : CellSt → CellSt) : (s.updCell n f).bridge = s.bridge := rfl
@[simp] theorem State.updCell_tunnels (n : Nat) (f : CellSt → CellSt) : (s.updCell n f).tunnels = s.tunnels := rfl
@[simp] theorem State.updCell_ports (n : Nat) (f : CellSt → CellSt) : (s.updCell n f).ports = s.ports := rfl
@[simp] theorem State.updCell_recs (n : Nat) (f : CellSt → CellSt) : (s.updCell n f).recs = s.recs := rfl
@[simp] theorem State.updCell_time (n : Nat) (f : CellSt → CellSt) : (s.updCell n f).time = s.time := rfl
@[simp] theorem State.updCell_be (n : Nat) (f : CellSt → CellSt) : (s.updCell n f).be = s.be := rfl
@[simp] theorem State.updCell_upd (n : Nat) (f : CellSt → CellSt) : (s.updCell n f).upd = s.upd := rfl
@[simp] theorem State.updCell_pow (n : Nat) (f : CellSt → CellSt) : (s.updCell n f).pow = s.pow := rfl
@[simp] theorem State.updCell_netTx (n : Nat) (f : CellSt → CellSt) : (s.updCell n f).netTx = s.netTx := rfl
@[simp] theorem State.updCell_legacyTx (n : Nat) (f : CellSt → CellSt) : (s.updCell n f).legacyTx = s.legacyTx := rfl
@[simp] theorem State.updCell_plTx (n : Nat) (f : CellSt → CellSt) : (s.updCell n f).plTx = s.plTx := rfl
@[simp] theorem State.updCell_splits (n : Nat) (f : CellSt → CellSt) : (s.updCell n f).splits = s.splits := rfl
@[simp] theorem State.updCell_free (n : Nat) (f : CellSt → CellSt) : (s.updCell n f).free = s.free := rfl

/-! ### updBank -/

@[simp] theorem State.updBank_pending (n : Nat) (f : BankSt → BankSt) : (s.updBank n f).pending = s.pending := rfl
@[simp] theorem State.updBank_id (n : Nat) (f : BankSt → BankSt) : (s.updBank n f).id = s.id := rfl
@[simp] theorem State.updBank_lanes (n : Nat) (f : BankSt → BankSt) : (s.updBank n f).lanes = s.lanes := rfl
@[simp] theorem State.updBank_cyc (n : Nat) (f : BankSt → BankSt) : (s.updBank n f).cyc = s.cyc := rfl
@[simp] theorem State.updBank_app (n : Nat) (f : BankSt → BankSt) : (s.updBank n f).app = s.app := rfl
@[simp] theorem State.updBank_trl (n : Nat) (f : BankSt → BankSt) : (s.updBank n f).trl = s.trl := rfl
@[simp] theorem State.updBank_image (n : Nat) (f : BankSt → BankSt) : (s.updBank n f).image = s.image := rfl
@[simp] theorem State.updBank_set (n : Nat) (f : BankSt → BankSt) : (s.updBank n f).set = s.set := rfl
@[simp] theorem State.updBank_cells (n : Nat) (f : BankSt → BankSt) : (s.updBank n f).cells = s.cells := rfl
@[simp] theorem State.updBank_frame (n : Nat) (f : BankSt → BankSt) : (s.updBank n f).frame = s.frame := rfl
@[simp] theorem State.updBank_conns (n : Nat) (f : BankSt → BankSt) : (s.updBank n f).conns = s.conns := rfl
@[simp] theorem State.updBank_nets (n : Nat) (f : BankSt → BankSt) : (s.updBank n f).nets = s.nets := rfl
@[simp] theorem State.updBank_pair (n : Nat) (f : BankSt → BankSt) : (s.updBank n f).pair = s.pair := rfl
@[simp] theorem State.updBank_flt (n : Nat) (f : BankSt → BankSt) : (s.updBank n f).flt = s.flt := rfl
@[simp] theorem State.updBank_mail (n : Nat) (f : BankSt → BankSt) : (s.updBank n f).mail = s.mail := rfl
@[simp] theorem State.updBank_stage (n : Nat) (f : BankSt → BankSt) : (s.updBank n f).stage = s.stage := rfl
@[simp] theorem State.updBank_bridge (n : Nat) (f : BankSt → BankSt) : (s.updBank n f).bridge = s.bridge := rfl
@[simp] theorem State.updBank_tunnels (n : Nat) (f : BankSt → BankSt) : (s.updBank n f).tunnels = s.tunnels := rfl
@[simp] theorem State.updBank_ports (n : Nat) (f : BankSt → BankSt) : (s.updBank n f).ports = s.ports := rfl
@[simp] theorem State.updBank_recs (n : Nat) (f : BankSt → BankSt) : (s.updBank n f).recs = s.recs := rfl
@[simp] theorem State.updBank_time (n : Nat) (f : BankSt → BankSt) : (s.updBank n f).time = s.time := rfl
@[simp] theorem State.updBank_be (n : Nat) (f : BankSt → BankSt) : (s.updBank n f).be = s.be := rfl
@[simp] theorem State.updBank_upd (n : Nat) (f : BankSt → BankSt) : (s.updBank n f).upd = s.upd := rfl
@[simp] theorem State.updBank_pow (n : Nat) (f : BankSt → BankSt) : (s.updBank n f).pow = s.pow := rfl
@[simp] theorem State.updBank_netTx (n : Nat) (f : BankSt → BankSt) : (s.updBank n f).netTx = s.netTx := rfl
@[simp] theorem State.updBank_legacyTx (n : Nat) (f : BankSt → BankSt) : (s.updBank n f).legacyTx = s.legacyTx := rfl
@[simp] theorem State.updBank_plTx (n : Nat) (f : BankSt → BankSt) : (s.updBank n f).plTx = s.plTx := rfl
@[simp] theorem State.updBank_splits (n : Nat) (f : BankSt → BankSt) : (s.updBank n f).splits = s.splits := rfl
@[simp] theorem State.updBank_free (n : Nat) (f : BankSt → BankSt) : (s.updBank n f).free = s.free := rfl

/-! ### updNet -/

@[simp] theorem State.updNet_pending (n : Net) (f : NetSt → NetSt) : (s.updNet n f).pending = s.pending := rfl
@[simp] theorem State.updNet_id (n : Net) (f : NetSt → NetSt) : (s.updNet n f).id = s.id := rfl
@[simp] theorem State.updNet_lanes (n : Net) (f : NetSt → NetSt) : (s.updNet n f).lanes = s.lanes := rfl
@[simp] theorem State.updNet_cyc (n : Net) (f : NetSt → NetSt) : (s.updNet n f).cyc = s.cyc := rfl
@[simp] theorem State.updNet_app (n : Net) (f : NetSt → NetSt) : (s.updNet n f).app = s.app := rfl
@[simp] theorem State.updNet_trl (n : Net) (f : NetSt → NetSt) : (s.updNet n f).trl = s.trl := rfl
@[simp] theorem State.updNet_image (n : Net) (f : NetSt → NetSt) : (s.updNet n f).image = s.image := rfl
@[simp] theorem State.updNet_set (n : Net) (f : NetSt → NetSt) : (s.updNet n f).set = s.set := rfl
@[simp] theorem State.updNet_cells (n : Net) (f : NetSt → NetSt) : (s.updNet n f).cells = s.cells := rfl
@[simp] theorem State.updNet_banks (n : Net) (f : NetSt → NetSt) : (s.updNet n f).banks = s.banks := rfl
@[simp] theorem State.updNet_frame (n : Net) (f : NetSt → NetSt) : (s.updNet n f).frame = s.frame := rfl
@[simp] theorem State.updNet_conns (n : Net) (f : NetSt → NetSt) : (s.updNet n f).conns = s.conns := rfl
@[simp] theorem State.updNet_pair (n : Net) (f : NetSt → NetSt) : (s.updNet n f).pair = s.pair := rfl
@[simp] theorem State.updNet_flt (n : Net) (f : NetSt → NetSt) : (s.updNet n f).flt = s.flt := rfl
@[simp] theorem State.updNet_mail (n : Net) (f : NetSt → NetSt) : (s.updNet n f).mail = s.mail := rfl
@[simp] theorem State.updNet_stage (n : Net) (f : NetSt → NetSt) : (s.updNet n f).stage = s.stage := rfl
@[simp] theorem State.updNet_bridge (n : Net) (f : NetSt → NetSt) : (s.updNet n f).bridge = s.bridge := rfl
@[simp] theorem State.updNet_tunnels (n : Net) (f : NetSt → NetSt) : (s.updNet n f).tunnels = s.tunnels := rfl
@[simp] theorem State.updNet_ports (n : Net) (f : NetSt → NetSt) : (s.updNet n f).ports = s.ports := rfl
@[simp] theorem State.updNet_recs (n : Net) (f : NetSt → NetSt) : (s.updNet n f).recs = s.recs := rfl
@[simp] theorem State.updNet_time (n : Net) (f : NetSt → NetSt) : (s.updNet n f).time = s.time := rfl
@[simp] theorem State.updNet_be (n : Net) (f : NetSt → NetSt) : (s.updNet n f).be = s.be := rfl
@[simp] theorem State.updNet_upd (n : Net) (f : NetSt → NetSt) : (s.updNet n f).upd = s.upd := rfl
@[simp] theorem State.updNet_pow (n : Net) (f : NetSt → NetSt) : (s.updNet n f).pow = s.pow := rfl
@[simp] theorem State.updNet_netTx (n : Net) (f : NetSt → NetSt) : (s.updNet n f).netTx = s.netTx := rfl
@[simp] theorem State.updNet_legacyTx (n : Net) (f : NetSt → NetSt) : (s.updNet n f).legacyTx = s.legacyTx := rfl
@[simp] theorem State.updNet_plTx (n : Net) (f : NetSt → NetSt) : (s.updNet n f).plTx = s.plTx := rfl
@[simp] theorem State.updNet_splits (n : Net) (f : NetSt → NetSt) : (s.updNet n f).splits = s.splits := rfl
@[simp] theorem State.updNet_free (n : Net) (f : NetSt → NetSt) : (s.updNet n f).free = s.free := rfl

/-! ### updConn -/

@[simp] theorem State.updConn_pending (n : Nat) (f : ConnSt → ConnSt) : (s.updConn n f).pending = s.pending := rfl
@[simp] theorem State.updConn_id (n : Nat) (f : ConnSt → ConnSt) : (s.updConn n f).id = s.id := rfl
@[simp] theorem State.updConn_lanes (n : Nat) (f : ConnSt → ConnSt) : (s.updConn n f).lanes = s.lanes := rfl
@[simp] theorem State.updConn_cyc (n : Nat) (f : ConnSt → ConnSt) : (s.updConn n f).cyc = s.cyc := rfl
@[simp] theorem State.updConn_app (n : Nat) (f : ConnSt → ConnSt) : (s.updConn n f).app = s.app := rfl
@[simp] theorem State.updConn_trl (n : Nat) (f : ConnSt → ConnSt) : (s.updConn n f).trl = s.trl := rfl
@[simp] theorem State.updConn_image (n : Nat) (f : ConnSt → ConnSt) : (s.updConn n f).image = s.image := rfl
@[simp] theorem State.updConn_set (n : Nat) (f : ConnSt → ConnSt) : (s.updConn n f).set = s.set := rfl
@[simp] theorem State.updConn_cells (n : Nat) (f : ConnSt → ConnSt) : (s.updConn n f).cells = s.cells := rfl
@[simp] theorem State.updConn_banks (n : Nat) (f : ConnSt → ConnSt) : (s.updConn n f).banks = s.banks := rfl
@[simp] theorem State.updConn_frame (n : Nat) (f : ConnSt → ConnSt) : (s.updConn n f).frame = s.frame := rfl
@[simp] theorem State.updConn_nets (n : Nat) (f : ConnSt → ConnSt) : (s.updConn n f).nets = s.nets := rfl
@[simp] theorem State.updConn_pair (n : Nat) (f : ConnSt → ConnSt) : (s.updConn n f).pair = s.pair := rfl
@[simp] theorem State.updConn_flt (n : Nat) (f : ConnSt → ConnSt) : (s.updConn n f).flt = s.flt := rfl
@[simp] theorem State.updConn_mail (n : Nat) (f : ConnSt → ConnSt) : (s.updConn n f).mail = s.mail := rfl
@[simp] theorem State.updConn_stage (n : Nat) (f : ConnSt → ConnSt) : (s.updConn n f).stage = s.stage := rfl
@[simp] theorem State.updConn_bridge (n : Nat) (f : ConnSt → ConnSt) : (s.updConn n f).bridge = s.bridge := rfl
@[simp] theorem State.updConn_tunnels (n : Nat) (f : ConnSt → ConnSt) : (s.updConn n f).tunnels = s.tunnels := rfl
@[simp] theorem State.updConn_ports (n : Nat) (f : ConnSt → ConnSt) : (s.updConn n f).ports = s.ports := rfl
@[simp] theorem State.updConn_recs (n : Nat) (f : ConnSt → ConnSt) : (s.updConn n f).recs = s.recs := rfl
@[simp] theorem State.updConn_time (n : Nat) (f : ConnSt → ConnSt) : (s.updConn n f).time = s.time := rfl
@[simp] theorem State.updConn_be (n : Nat) (f : ConnSt → ConnSt) : (s.updConn n f).be = s.be := rfl
@[simp] theorem State.updConn_upd (n : Nat) (f : ConnSt → ConnSt) : (s.updConn n f).upd = s.upd := rfl
@[simp] theorem State.updConn_pow (n : Nat) (f : ConnSt → ConnSt) : (s.updConn n f).pow = s.pow := rfl
@[simp] theorem State.updConn_netTx (n : Nat) (f : ConnSt → ConnSt) : (s.updConn n f).netTx = s.netTx := rfl
@[simp] theorem State.updConn_legacyTx (n : Nat) (f : ConnSt → ConnSt) : (s.updConn n f).legacyTx = s.legacyTx := rfl
@[simp] theorem State.updConn_plTx (n : Nat) (f : ConnSt → ConnSt) : (s.updConn n f).plTx = s.plTx := rfl
@[simp] theorem State.updConn_splits (n : Nat) (f : ConnSt → ConnSt) : (s.updConn n f).splits = s.splits := rfl
@[simp] theorem State.updConn_free (n : Nat) (f : ConnSt → ConnSt) : (s.updConn n f).free = s.free := rfl

/-! ### updRecv -/

@[simp] theorem State.updRecv_pending (n : Nat) (f : RecvRec → RecvRec) : (s.updRecv n f).pending = s.pending := rfl
@[simp] theorem State.updRecv_id (n : Nat) (f : RecvRec → RecvRec) : (s.updRecv n f).id = s.id := rfl
@[simp] theorem State.updRecv_lanes (n : Nat) (f : RecvRec → RecvRec) : (s.updRecv n f).lanes = s.lanes := rfl
@[simp] theorem State.updRecv_cyc (n : Nat) (f : RecvRec → RecvRec) : (s.updRecv n f).cyc = s.cyc := rfl
@[simp] theorem State.updRecv_trl (n : Nat) (f : RecvRec → RecvRec) : (s.updRecv n f).trl = s.trl := rfl
@[simp] theorem State.updRecv_image (n : Nat) (f : RecvRec → RecvRec) : (s.updRecv n f).image = s.image := rfl
@[simp] theorem State.updRecv_set (n : Nat) (f : RecvRec → RecvRec) : (s.updRecv n f).set = s.set := rfl
@[simp] theorem State.updRecv_cells (n : Nat) (f : RecvRec → RecvRec) : (s.updRecv n f).cells = s.cells := rfl
@[simp] theorem State.updRecv_banks (n : Nat) (f : RecvRec → RecvRec) : (s.updRecv n f).banks = s.banks := rfl
@[simp] theorem State.updRecv_frame (n : Nat) (f : RecvRec → RecvRec) : (s.updRecv n f).frame = s.frame := rfl
@[simp] theorem State.updRecv_conns (n : Nat) (f : RecvRec → RecvRec) : (s.updRecv n f).conns = s.conns := rfl
@[simp] theorem State.updRecv_nets (n : Nat) (f : RecvRec → RecvRec) : (s.updRecv n f).nets = s.nets := rfl
@[simp] theorem State.updRecv_pair (n : Nat) (f : RecvRec → RecvRec) : (s.updRecv n f).pair = s.pair := rfl
@[simp] theorem State.updRecv_flt (n : Nat) (f : RecvRec → RecvRec) : (s.updRecv n f).flt = s.flt := rfl
@[simp] theorem State.updRecv_mail (n : Nat) (f : RecvRec → RecvRec) : (s.updRecv n f).mail = s.mail := rfl
@[simp] theorem State.updRecv_stage (n : Nat) (f : RecvRec → RecvRec) : (s.updRecv n f).stage = s.stage := rfl
@[simp] theorem State.updRecv_bridge (n : Nat) (f : RecvRec → RecvRec) : (s.updRecv n f).bridge = s.bridge := rfl
@[simp] theorem State.updRecv_tunnels (n : Nat) (f : RecvRec → RecvRec) : (s.updRecv n f).tunnels = s.tunnels := rfl
@[simp] theorem State.updRecv_ports (n : Nat) (f : RecvRec → RecvRec) : (s.updRecv n f).ports = s.ports := rfl
@[simp] theorem State.updRecv_recs (n : Nat) (f : RecvRec → RecvRec) : (s.updRecv n f).recs = s.recs := rfl
@[simp] theorem State.updRecv_time (n : Nat) (f : RecvRec → RecvRec) : (s.updRecv n f).time = s.time := rfl
@[simp] theorem State.updRecv_be (n : Nat) (f : RecvRec → RecvRec) : (s.updRecv n f).be = s.be := rfl
@[simp] theorem State.updRecv_upd (n : Nat) (f : RecvRec → RecvRec) : (s.updRecv n f).upd = s.upd := rfl
@[simp] theorem State.updRecv_pow (n : Nat) (f : RecvRec → RecvRec) : (s.updRecv n f).pow = s.pow := rfl
@[simp] theorem State.updRecv_netTx (n : Nat) (f : RecvRec → RecvRec) : (s.updRecv n f).netTx = s.netTx := rfl
@[simp] theorem State.updRecv_legacyTx (n : Nat) (f : RecvRec → RecvRec) : (s.updRecv n f).legacyTx = s.legacyTx := rfl
@[simp] theorem State.updRecv_plTx (n : Nat) (f : RecvRec → RecvRec) : (s.updRecv n f).plTx = s.plTx := rfl
@[simp] theorem State.updRecv_splits (n : Nat) (f : RecvRec → RecvRec) : (s.updRecv n f).splits = s.splits := rfl
@[simp] theorem State.updRecv_free (n : Nat) (f : RecvRec → RecvRec) : (s.updRecv n f).free = s.free := rfl

/-! ### updElem -/

@[simp] theorem State.updElem_pending (n : Nat) (f : Elem → Elem) : (s.updElem n f).pending = s.pending := rfl
@[simp] theorem State.updElem_id (n : Nat) (f : Elem → Elem) : (s.updElem n f).id = s.id := rfl
@[simp] theorem State.updElem_lanes (n : Nat) (f : Elem → Elem) : (s.updElem n f).lanes = s.lanes := rfl
@[simp] theorem State.updElem_cyc (n : Nat) (f : Elem → Elem) : (s.updElem n f).cyc = s.cyc := rfl
@[simp] theorem State.updElem_trl (n : Nat) (f : Elem → Elem) : (s.updElem n f).trl = s.trl := rfl
@[simp] theorem State.updElem_image (n : Nat) (f : Elem → Elem) : (s.updElem n f).image = s.image := rfl
@[simp] theorem State.updElem_set (n : Nat) (f : Elem → Elem) : (s.updElem n f).set = s.set := rfl
@[simp] theorem State.updElem_cells (n : Nat) (f : Elem → Elem) : (s.updElem n f).cells = s.cells := rfl
@[simp] theorem State.updElem_banks (n : Nat) (f : Elem → Elem) : (s.updElem n f).banks = s.banks := rfl
@[simp] theorem State.updElem_frame (n : Nat) (f : Elem → Elem) : (s.updElem n f).frame = s.frame := rfl
@[simp] theorem State.updElem_conns (n : Nat) (f : Elem → Elem) : (s.updElem n f).conns = s.conns := rfl
@[simp] theorem State.updElem_nets (n : Nat) (f : Elem → Elem) : (s.updElem n f).nets = s.nets := rfl
@[simp] theorem State.updElem_pair (n : Nat) (f : Elem → Elem) : (s.updElem n f).pair = s.pair := rfl
@[simp] theorem State.updElem_flt (n : Nat) (f : Elem → Elem) : (s.updElem n f).flt = s.flt := rfl
@[simp] theorem State.updElem_mail (n : Nat) (f : Elem → Elem) : (s.updElem n f).mail = s.mail := rfl
@[simp] theorem State.updElem_stage (n : Nat) (f : Elem → Elem) : (s.updElem n f).stage = s.stage := rfl
@[simp] theorem State.updElem_bridge (n : Nat) (f : Elem → Elem) : (s.updElem n f).bridge = s.bridge := rfl
@[simp] theorem State.updElem_tunnels (n : Nat) (f : Elem → Elem) : (s.updElem n f).tunnels = s.tunnels := rfl
@[simp] theorem State.updElem_ports (n : Nat) (f : Elem → Elem) : (s.updElem n f).ports = s.ports := rfl
@[simp] theorem State.updElem_recs (n : Nat) (f : Elem → Elem) : (s.updElem n f).recs = s.recs := rfl
@[simp] theorem State.updElem_time (n : Nat) (f : Elem → Elem) : (s.updElem n f).time = s.time := rfl
@[simp] theorem State.updElem_be (n : Nat) (f : Elem → Elem) : (s.updElem n f).be = s.be := rfl
@[simp] theorem State.updElem_upd (n : Nat) (f : Elem → Elem) : (s.updElem n f).upd = s.upd := rfl
@[simp] theorem State.updElem_pow (n : Nat) (f : Elem → Elem) : (s.updElem n f).pow = s.pow := rfl
@[simp] theorem State.updElem_netTx (n : Nat) (f : Elem → Elem) : (s.updElem n f).netTx = s.netTx := rfl
@[simp] theorem State.updElem_legacyTx (n : Nat) (f : Elem → Elem) : (s.updElem n f).legacyTx = s.legacyTx := rfl
@[simp] theorem State.updElem_plTx (n : Nat) (f : Elem → Elem) : (s.updElem n f).plTx = s.plTx := rfl
@[simp] theorem State.updElem_splits (n : Nat) (f : Elem → Elem) : (s.updElem n f).splits = s.splits := rfl
@[simp] theorem State.updElem_free (n : Nat) (f : Elem → Elem) : (s.updElem n f).free = s.free := rfl

/-! ### updRoute -/

@[simp] theorem State.updRoute_pending (n : Nat) (f : RouteCell → RouteCell) : (s.updRoute n f).pending = s.pending := rfl
@[simp] theorem State.updRoute_id (n : Nat) (f : RouteCell → RouteCell) : (s.updRoute n f).id = s.id := rfl
@[simp] theorem State.updRoute_lanes (n : Nat) (f : RouteCell → RouteCell) : (s.updRoute n f).lanes = s.lanes := rfl
@[simp] theorem State.updRoute_cyc (n : Nat) (f : RouteCell → RouteCell) : (s.updRoute n f).cyc = s.cyc := rfl
@[simp] theorem State.updRoute_trl (n : Nat) (f : RouteCell → RouteCell) : (s.updRoute n f).trl = s.trl := rfl
@[simp] theorem State.updRoute_image (n : Nat) (f : RouteCell → RouteCell) : (s.updRoute n f).image = s.image := rfl
@[simp] theorem State.updRoute_set (n : Nat) (f : RouteCell → RouteCell) : (s.updRoute n f).set = s.set := rfl
@[simp] theorem State.updRoute_cells (n : Nat) (f : RouteCell → RouteCell) : (s.updRoute n f).cells = s.cells := rfl
@[simp] theorem State.updRoute_banks (n : Nat) (f : RouteCell → RouteCell) : (s.updRoute n f).banks = s.banks := rfl
@[simp] theorem State.updRoute_frame (n : Nat) (f : RouteCell → RouteCell) : (s.updRoute n f).frame = s.frame := rfl
@[simp] theorem State.updRoute_conns (n : Nat) (f : RouteCell → RouteCell) : (s.updRoute n f).conns = s.conns := rfl
@[simp] theorem State.updRoute_nets (n : Nat) (f : RouteCell → RouteCell) : (s.updRoute n f).nets = s.nets := rfl
@[simp] theorem State.updRoute_pair (n : Nat) (f : RouteCell → RouteCell) : (s.updRoute n f).pair = s.pair := rfl
@[simp] theorem State.updRoute_flt (n : Nat) (f : RouteCell → RouteCell) : (s.updRoute n f).flt = s.flt := rfl
@[simp] theorem State.updRoute_mail (n : Nat) (f : RouteCell → RouteCell) : (s.updRoute n f).mail = s.mail := rfl
@[simp] theorem State.updRoute_stage (n : Nat) (f : RouteCell → RouteCell) : (s.updRoute n f).stage = s.stage := rfl
@[simp] theorem State.updRoute_bridge (n : Nat) (f : RouteCell → RouteCell) : (s.updRoute n f).bridge = s.bridge := rfl
@[simp] theorem State.updRoute_tunnels (n : Nat) (f : RouteCell → RouteCell) : (s.updRoute n f).tunnels = s.tunnels := rfl
@[simp] theorem State.updRoute_ports (n : Nat) (f : RouteCell → RouteCell) : (s.updRoute n f).ports = s.ports := rfl
@[simp] theorem State.updRoute_recs (n : Nat) (f : RouteCell → RouteCell) : (s.updRoute n f).recs = s.recs := rfl
@[simp] theorem State.updRoute_time (n : Nat) (f : RouteCell → RouteCell) : (s.updRoute n f).time = s.time := rfl
@[simp] theorem State.updRoute_be (n : Nat) (f : RouteCell → RouteCell) : (s.updRoute n f).be = s.be := rfl
@[simp] theorem State.updRoute_upd (n : Nat) (f : RouteCell → RouteCell) : (s.updRoute n f).upd = s.upd := rfl
@[simp] theorem State.updRoute_pow (n : Nat) (f : RouteCell → RouteCell) : (s.updRoute n f).pow = s.pow := rfl
@[simp] theorem State.updRoute_netTx (n : Nat) (f : RouteCell → RouteCell) : (s.updRoute n f).netTx = s.netTx := rfl
@[simp] theorem State.updRoute_legacyTx (n : Nat) (f : RouteCell → RouteCell) : (s.updRoute n f).legacyTx = s.legacyTx := rfl
@[simp] theorem State.updRoute_plTx (n : Nat) (f : RouteCell → RouteCell) : (s.updRoute n f).plTx = s.plTx := rfl
@[simp] theorem State.updRoute_splits (n : Nat) (f : RouteCell → RouteCell) : (s.updRoute n f).splits = s.splits := rfl
@[simp] theorem State.updRoute_free (n : Nat) (f : RouteCell → RouteCell) : (s.updRoute n f).free = s.free := rfl

/-! ### updBox -/

@[simp] theorem State.updBox_pending (n : Nat) (f : Mbox → Mbox) : (s.updBox n f).pending = s.pending := rfl
@[simp] theorem State.updBox_id (n : Nat) (f : Mbox → Mbox) : (s.updBox n f).id = s.id := rfl
@[simp] theorem State.updBox_lanes (n : Nat) (f : Mbox → Mbox) : (s.updBox n f).lanes = s.lanes := rfl
@[simp] theorem State.updBox_cyc (n : Nat) (f : Mbox → Mbox) : (s.updBox n f).cyc = s.cyc := rfl
@[simp] theorem State.updBox_app (n : Nat) (f : Mbox → Mbox) : (s.updBox n f).app = s.app := rfl
@[simp] theorem State.updBox_trl (n : Nat) (f : Mbox → Mbox) : (s.updBox n f).trl = s.trl := rfl
@[simp] theorem State.updBox_image (n : Nat) (f : Mbox → Mbox) : (s.updBox n f).image = s.image := rfl
@[simp] theorem State.updBox_set (n : Nat) (f : Mbox → Mbox) : (s.updBox n f).set = s.set := rfl
@[simp] theorem State.updBox_cells (n : Nat) (f : Mbox → Mbox) : (s.updBox n f).cells = s.cells := rfl
@[simp] theorem State.updBox_banks (n : Nat) (f : Mbox → Mbox) : (s.updBox n f).banks = s.banks := rfl
@[simp] theorem State.updBox_frame (n : Nat) (f : Mbox → Mbox) : (s.updBox n f).frame = s.frame := rfl
@[simp] theorem State.updBox_conns (n : Nat) (f : Mbox → Mbox) : (s.updBox n f).conns = s.conns := rfl
@[simp] theorem State.updBox_nets (n : Nat) (f : Mbox → Mbox) : (s.updBox n f).nets = s.nets := rfl
@[simp] theorem State.updBox_pair (n : Nat) (f : Mbox → Mbox) : (s.updBox n f).pair = s.pair := rfl
@[simp] theorem State.updBox_flt (n : Nat) (f : Mbox → Mbox) : (s.updBox n f).flt = s.flt := rfl
@[simp] theorem State.updBox_stage (n : Nat) (f : Mbox → Mbox) : (s.updBox n f).stage = s.stage := rfl
@[simp] theorem State.updBox_bridge (n : Nat) (f : Mbox → Mbox) : (s.updBox n f).bridge = s.bridge := rfl
@[simp] theorem State.updBox_tunnels (n : Nat) (f : Mbox → Mbox) : (s.updBox n f).tunnels = s.tunnels := rfl
@[simp] theorem State.updBox_ports (n : Nat) (f : Mbox → Mbox) : (s.updBox n f).ports = s.ports := rfl
@[simp] theorem State.updBox_recs (n : Nat) (f : Mbox → Mbox) : (s.updBox n f).recs = s.recs := rfl
@[simp] theorem State.updBox_time (n : Nat) (f : Mbox → Mbox) : (s.updBox n f).time = s.time := rfl
@[simp] theorem State.updBox_be (n : Nat) (f : Mbox → Mbox) : (s.updBox n f).be = s.be := rfl
@[simp] theorem State.updBox_upd (n : Nat) (f : Mbox → Mbox) : (s.updBox n f).upd = s.upd := rfl
@[simp] theorem State.updBox_pow (n : Nat) (f : Mbox → Mbox) : (s.updBox n f).pow = s.pow := rfl
@[simp] theorem State.updBox_netTx (n : Nat) (f : Mbox → Mbox) : (s.updBox n f).netTx = s.netTx := rfl
@[simp] theorem State.updBox_legacyTx (n : Nat) (f : Mbox → Mbox) : (s.updBox n f).legacyTx = s.legacyTx := rfl
@[simp] theorem State.updBox_plTx (n : Nat) (f : Mbox → Mbox) : (s.updBox n f).plTx = s.plTx := rfl
@[simp] theorem State.updBox_splits (n : Nat) (f : Mbox → Mbox) : (s.updBox n f).splits = s.splits := rfl
@[simp] theorem State.updBox_free (n : Nat) (f : Mbox → Mbox) : (s.updBox n f).free = s.free := rfl

/-! ### updTunnel -/

@[simp] theorem State.updTunnel_pending (n : Nat) (f : Tunnel → Tunnel) : (s.updTunnel n f).pending = s.pending := rfl
@[simp] theorem State.updTunnel_id (n : Nat) (f : Tunnel → Tunnel) : (s.updTunnel n f).id = s.id := rfl
@[simp] theorem State.updTunnel_lanes (n : Nat) (f : Tunnel → Tunnel) : (s.updTunnel n f).lanes = s.lanes := rfl
@[simp] theorem State.updTunnel_cyc (n : Nat) (f : Tunnel → Tunnel) : (s.updTunnel n f).cyc = s.cyc := rfl
@[simp] theorem State.updTunnel_app (n : Nat) (f : Tunnel → Tunnel) : (s.updTunnel n f).app = s.app := rfl
@[simp] theorem State.updTunnel_trl (n : Nat) (f : Tunnel → Tunnel) : (s.updTunnel n f).trl = s.trl := rfl
@[simp] theorem State.updTunnel_image (n : Nat) (f : Tunnel → Tunnel) : (s.updTunnel n f).image = s.image := rfl
@[simp] theorem State.updTunnel_set (n : Nat) (f : Tunnel → Tunnel) : (s.updTunnel n f).set = s.set := rfl
@[simp] theorem State.updTunnel_cells (n : Nat) (f : Tunnel → Tunnel) : (s.updTunnel n f).cells = s.cells := rfl
@[simp] theorem State.updTunnel_banks (n : Nat) (f : Tunnel → Tunnel) : (s.updTunnel n f).banks = s.banks := rfl
@[simp] theorem State.updTunnel_frame (n : Nat) (f : Tunnel → Tunnel) : (s.updTunnel n f).frame = s.frame := rfl
@[simp] theorem State.updTunnel_conns (n : Nat) (f : Tunnel → Tunnel) : (s.updTunnel n f).conns = s.conns := rfl
@[simp] theorem State.updTunnel_nets (n : Nat) (f : Tunnel → Tunnel) : (s.updTunnel n f).nets = s.nets := rfl
@[simp] theorem State.updTunnel_pair (n : Nat) (f : Tunnel → Tunnel) : (s.updTunnel n f).pair = s.pair := rfl
@[simp] theorem State.updTunnel_flt (n : Nat) (f : Tunnel → Tunnel) : (s.updTunnel n f).flt = s.flt := rfl
@[simp] theorem State.updTunnel_mail (n : Nat) (f : Tunnel → Tunnel) : (s.updTunnel n f).mail = s.mail := rfl
@[simp] theorem State.updTunnel_stage (n : Nat) (f : Tunnel → Tunnel) : (s.updTunnel n f).stage = s.stage := rfl
@[simp] theorem State.updTunnel_bridge (n : Nat) (f : Tunnel → Tunnel) : (s.updTunnel n f).bridge = s.bridge := rfl
@[simp] theorem State.updTunnel_ports (n : Nat) (f : Tunnel → Tunnel) : (s.updTunnel n f).ports = s.ports := rfl
@[simp] theorem State.updTunnel_recs (n : Nat) (f : Tunnel → Tunnel) : (s.updTunnel n f).recs = s.recs := rfl
@[simp] theorem State.updTunnel_time (n : Nat) (f : Tunnel → Tunnel) : (s.updTunnel n f).time = s.time := rfl
@[simp] theorem State.updTunnel_be (n : Nat) (f : Tunnel → Tunnel) : (s.updTunnel n f).be = s.be := rfl
@[simp] theorem State.updTunnel_upd (n : Nat) (f : Tunnel → Tunnel) : (s.updTunnel n f).upd = s.upd := rfl
@[simp] theorem State.updTunnel_pow (n : Nat) (f : Tunnel → Tunnel) : (s.updTunnel n f).pow = s.pow := rfl
@[simp] theorem State.updTunnel_netTx (n : Nat) (f : Tunnel → Tunnel) : (s.updTunnel n f).netTx = s.netTx := rfl
@[simp] theorem State.updTunnel_legacyTx (n : Nat) (f : Tunnel → Tunnel) : (s.updTunnel n f).legacyTx = s.legacyTx := rfl
@[simp] theorem State.updTunnel_plTx (n : Nat) (f : Tunnel → Tunnel) : (s.updTunnel n f).plTx = s.plTx := rfl
@[simp] theorem State.updTunnel_splits (n : Nat) (f : Tunnel → Tunnel) : (s.updTunnel n f).splits = s.splits := rfl
@[simp] theorem State.updTunnel_free (n : Nat) (f : Tunnel → Tunnel) : (s.updTunnel n f).free = s.free := rfl

/-! ### updPort -/

@[simp] theorem State.updPort_pending (n : Nat) (f : LegacyPort → LegacyPort) : (s.updPort n f).pending = s.pending := rfl
@[simp] theorem State.updPort_id (n : Nat) (f : LegacyPort → LegacyPort) : (s.updPort n f).id = s.id := rfl
@[simp] theorem State.updPort_lanes (n : Nat) (f : LegacyPort → LegacyPort) : (s.updPort n f).lanes = s.lanes := rfl
@[simp] theorem State.updPort_cyc (n : Nat) (f : LegacyPort → LegacyPort) : (s.updPort n f).cyc = s.cyc := rfl
@[simp] theorem State.updPort_app (n : Nat) (f : LegacyPort → LegacyPort) : (s.updPort n f).app = s.app := rfl
@[simp] theorem State.updPort_trl (n : Nat) (f : LegacyPort → LegacyPort) : (s.updPort n f).trl = s.trl := rfl
@[simp] theorem State.updPort_image (n : Nat) (f : LegacyPort → LegacyPort) : (s.updPort n f).image = s.image := rfl
@[simp] theorem State.updPort_set (n : Nat) (f : LegacyPort → LegacyPort) : (s.updPort n f).set = s.set := rfl
@[simp] theorem State.updPort_cells (n : Nat) (f : LegacyPort → LegacyPort) : (s.updPort n f).cells = s.cells := rfl
@[simp] theorem State.updPort_banks (n : Nat) (f : LegacyPort → LegacyPort) : (s.updPort n f).banks = s.banks := rfl
@[simp] theorem State.updPort_frame (n : Nat) (f : LegacyPort → LegacyPort) : (s.updPort n f).frame = s.frame := rfl
@[simp] theorem State.updPort_conns (n : Nat) (f : LegacyPort → LegacyPort) : (s.updPort n f).conns = s.conns := rfl
@[simp] theorem State.updPort_nets (n : Nat) (f : LegacyPort → LegacyPort) : (s.updPort n f).nets = s.nets := rfl
@[simp] theorem State.updPort_pair (n : Nat) (f : LegacyPort → LegacyPort) : (s.updPort n f).pair = s.pair := rfl
@[simp] theorem State.updPort_flt (n : Nat) (f : LegacyPort → LegacyPort) : (s.updPort n f).flt = s.flt := rfl
@[simp] theorem State.updPort_mail (n : Nat) (f : LegacyPort → LegacyPort) : (s.updPort n f).mail = s.mail := rfl
@[simp] theorem State.updPort_stage (n : Nat) (f : LegacyPort → LegacyPort) : (s.updPort n f).stage = s.stage := rfl
@[simp] theorem State.updPort_bridge (n : Nat) (f : LegacyPort → LegacyPort) : (s.updPort n f).bridge = s.bridge := rfl
@[simp] theorem State.updPort_tunnels (n : Nat) (f : LegacyPort → LegacyPort) : (s.updPort n f).tunnels = s.tunnels := rfl
@[simp] theorem State.updPort_recs (n : Nat) (f : LegacyPort → LegacyPort) : (s.updPort n f).recs = s.recs := rfl
@[simp] theorem State.updPort_time (n : Nat) (f : LegacyPort → LegacyPort) : (s.updPort n f).time = s.time := rfl
@[simp] theorem State.updPort_be (n : Nat) (f : LegacyPort → LegacyPort) : (s.updPort n f).be = s.be := rfl
@[simp] theorem State.updPort_upd (n : Nat) (f : LegacyPort → LegacyPort) : (s.updPort n f).upd = s.upd := rfl
@[simp] theorem State.updPort_pow (n : Nat) (f : LegacyPort → LegacyPort) : (s.updPort n f).pow = s.pow := rfl
@[simp] theorem State.updPort_netTx (n : Nat) (f : LegacyPort → LegacyPort) : (s.updPort n f).netTx = s.netTx := rfl
@[simp] theorem State.updPort_legacyTx (n : Nat) (f : LegacyPort → LegacyPort) : (s.updPort n f).legacyTx = s.legacyTx := rfl
@[simp] theorem State.updPort_plTx (n : Nat) (f : LegacyPort → LegacyPort) : (s.updPort n f).plTx = s.plTx := rfl
@[simp] theorem State.updPort_splits (n : Nat) (f : LegacyPort → LegacyPort) : (s.updPort n f).splits = s.splits := rfl
@[simp] theorem State.updPort_free (n : Nat) (f : LegacyPort → LegacyPort) : (s.updPort n f).free = s.free := rfl

/-! ### updPow -/

@[simp] theorem State.updPow_pending (f : PowerSt → PowerSt) : (s.updPow f).pending = s.pending := rfl
@[simp] theorem State.updPow_id (f : PowerSt → PowerSt) : (s.updPow f).id = s.id := rfl
@[simp] theorem State.updPow_lanes (f : PowerSt → PowerSt) : (s.updPow f).lanes = s.lanes := rfl
@[simp] theorem State.updPow_cyc (f : PowerSt → PowerSt) : (s.updPow f).cyc = s.cyc := rfl
@[simp] theorem State.updPow_app (f : PowerSt → PowerSt) : (s.updPow f).app = s.app := rfl
@[simp] theorem State.updPow_trl (f : PowerSt → PowerSt) : (s.updPow f).trl = s.trl := rfl
@[simp] theorem State.updPow_image (f : PowerSt → PowerSt) : (s.updPow f).image = s.image := rfl
@[simp] theorem State.updPow_set (f : PowerSt → PowerSt) : (s.updPow f).set = s.set := rfl
@[simp] theorem State.updPow_cells (f : PowerSt → PowerSt) : (s.updPow f).cells = s.cells := rfl
@[simp] theorem State.updPow_banks (f : PowerSt → PowerSt) : (s.updPow f).banks = s.banks := rfl
@[simp] theorem State.updPow_frame (f : PowerSt → PowerSt) : (s.updPow f).frame = s.frame := rfl
@[simp] theorem State.updPow_conns (f : PowerSt → PowerSt) : (s.updPow f).conns = s.conns := rfl
@[simp] theorem State.updPow_nets (f : PowerSt → PowerSt) : (s.updPow f).nets = s.nets := rfl
@[simp] theorem State.updPow_pair (f : PowerSt → PowerSt) : (s.updPow f).pair = s.pair := rfl
@[simp] theorem State.updPow_flt (f : PowerSt → PowerSt) : (s.updPow f).flt = s.flt := rfl
@[simp] theorem State.updPow_mail (f : PowerSt → PowerSt) : (s.updPow f).mail = s.mail := rfl
@[simp] theorem State.updPow_stage (f : PowerSt → PowerSt) : (s.updPow f).stage = s.stage := rfl
@[simp] theorem State.updPow_bridge (f : PowerSt → PowerSt) : (s.updPow f).bridge = s.bridge := rfl
@[simp] theorem State.updPow_tunnels (f : PowerSt → PowerSt) : (s.updPow f).tunnels = s.tunnels := rfl
@[simp] theorem State.updPow_ports (f : PowerSt → PowerSt) : (s.updPow f).ports = s.ports := rfl
@[simp] theorem State.updPow_recs (f : PowerSt → PowerSt) : (s.updPow f).recs = s.recs := rfl
@[simp] theorem State.updPow_time (f : PowerSt → PowerSt) : (s.updPow f).time = s.time := rfl
@[simp] theorem State.updPow_be (f : PowerSt → PowerSt) : (s.updPow f).be = s.be := rfl
@[simp] theorem State.updPow_upd (f : PowerSt → PowerSt) : (s.updPow f).upd = s.upd := rfl
@[simp] theorem State.updPow_pow (f : PowerSt → PowerSt) : (s.updPow f).pow = f s.pow := rfl
@[simp] theorem State.updPow_netTx (f : PowerSt → PowerSt) : (s.updPow f).netTx = s.netTx := rfl
@[simp] theorem State.updPow_legacyTx (f : PowerSt → PowerSt) : (s.updPow f).legacyTx = s.legacyTx := rfl
@[simp] theorem State.updPow_plTx (f : PowerSt → PowerSt) : (s.updPow f).plTx = s.plTx := rfl
@[simp] theorem State.updPow_splits (f : PowerSt → PowerSt) : (s.updPow f).splits = s.splits := rfl
@[simp] theorem State.updPow_free (f : PowerSt → PowerSt) : (s.updPow f).free = s.free := rfl

/-! ### updStage -/

@[simp] theorem State.updStage_pending (f : StageSt → StageSt) : (s.updStage f).pending = s.pending := rfl
@[simp] theorem State.updStage_id (f : StageSt → StageSt) : (s.updStage f).id = s.id := rfl
@[simp] theorem State.updStage_lanes (f : StageSt → StageSt) : (s.updStage f).lanes = s.lanes := rfl
@[simp] theorem State.updStage_cyc (f : StageSt → StageSt) : (s.updStage f).cyc = s.cyc := rfl
@[simp] theorem State.updStage_app (f : StageSt → StageSt) : (s.updStage f).app = s.app := rfl
@[simp] theorem State.updStage_trl (f : StageSt → StageSt) : (s.updStage f).trl = s.trl := rfl
@[simp] theorem State.updStage_image (f : StageSt → StageSt) : (s.updStage f).image = s.image := rfl
@[simp] theorem State.updStage_set (f : StageSt → StageSt) : (s.updStage f).set = s.set := rfl
@[simp] theorem State.updStage_cells (f : StageSt → StageSt) : (s.updStage f).cells = s.cells := rfl
@[simp] theorem State.updStage_banks (f : StageSt → StageSt) : (s.updStage f).banks = s.banks := rfl
@[simp] theorem State.updStage_frame (f : StageSt → StageSt) : (s.updStage f).frame = s.frame := rfl
@[simp] theorem State.updStage_conns (f : StageSt → StageSt) : (s.updStage f).conns = s.conns := rfl
@[simp] theorem State.updStage_nets (f : StageSt → StageSt) : (s.updStage f).nets = s.nets := rfl
@[simp] theorem State.updStage_pair (f : StageSt → StageSt) : (s.updStage f).pair = s.pair := rfl
@[simp] theorem State.updStage_flt (f : StageSt → StageSt) : (s.updStage f).flt = s.flt := rfl
@[simp] theorem State.updStage_mail (f : StageSt → StageSt) : (s.updStage f).mail = s.mail := rfl
@[simp] theorem State.updStage_stage (f : StageSt → StageSt) : (s.updStage f).stage = f s.stage := rfl
@[simp] theorem State.updStage_bridge (f : StageSt → StageSt) : (s.updStage f).bridge = s.bridge := rfl
@[simp] theorem State.updStage_tunnels (f : StageSt → StageSt) : (s.updStage f).tunnels = s.tunnels := rfl
@[simp] theorem State.updStage_ports (f : StageSt → StageSt) : (s.updStage f).ports = s.ports := rfl
@[simp] theorem State.updStage_recs (f : StageSt → StageSt) : (s.updStage f).recs = s.recs := rfl
@[simp] theorem State.updStage_time (f : StageSt → StageSt) : (s.updStage f).time = s.time := rfl
@[simp] theorem State.updStage_be (f : StageSt → StageSt) : (s.updStage f).be = s.be := rfl
@[simp] theorem State.updStage_upd (f : StageSt → StageSt) : (s.updStage f).upd = s.upd := rfl
@[simp] theorem State.updStage_pow (f : StageSt → StageSt) : (s.updStage f).pow = s.pow := rfl
@[simp] theorem State.updStage_netTx (f : StageSt → StageSt) : (s.updStage f).netTx = s.netTx := rfl
@[simp] theorem State.updStage_legacyTx (f : StageSt → StageSt) : (s.updStage f).legacyTx = s.legacyTx := rfl
@[simp] theorem State.updStage_plTx (f : StageSt → StageSt) : (s.updStage f).plTx = s.plTx := rfl
@[simp] theorem State.updStage_splits (f : StageSt → StageSt) : (s.updStage f).splits = s.splits := rfl
@[simp] theorem State.updStage_free (f : StageSt → StageSt) : (s.updStage f).free = s.free := rfl

/-! ### updCyc -/

@[simp] theorem State.updCyc_pending (f : CycleSt → CycleSt) : (s.updCyc f).pending = s.pending := rfl
@[simp] theorem State.updCyc_id (f : CycleSt → CycleSt) : (s.updCyc f).id = s.id := rfl
@[simp] theorem State.updCyc_lanes (f : CycleSt → CycleSt) : (s.updCyc f).lanes = s.lanes := rfl
@[simp] theorem State.updCyc_cyc (f : CycleSt → CycleSt) : (s.updCyc f).cyc = f s.cyc := rfl
@[simp] theorem State.updCyc_app (f : CycleSt → CycleSt) : (s.updCyc f).app = s.app := rfl
@[simp] theorem State.updCyc_trl (f : CycleSt → CycleSt) : (s.updCyc f).trl = s.trl := rfl
@[simp] theorem State.updCyc_image (f : CycleSt → CycleSt) : (s.updCyc f).image = s.image := rfl
@[simp] theorem State.updCyc_set (f : CycleSt → CycleSt) : (s.updCyc f).set = s.set := rfl
@[simp] theorem State.updCyc_cells (f : CycleSt → CycleSt) : (s.updCyc f).cells = s.cells := rfl
@[simp] theorem State.updCyc_banks (f : CycleSt → CycleSt) : (s.updCyc f).banks = s.banks := rfl
@[simp] theorem State.updCyc_frame (f : CycleSt → CycleSt) : (s.updCyc f).frame = s.frame := rfl
@[simp] theorem State.updCyc_conns (f : CycleSt → CycleSt) : (s.updCyc f).conns = s.conns := rfl
@[simp] theorem State.updCyc_nets (f : CycleSt → CycleSt) : (s.updCyc f).nets = s.nets := rfl
@[simp] theorem State.updCyc_pair (f : CycleSt → CycleSt) : (s.updCyc f).pair = s.pair := rfl
@[simp] theorem State.updCyc_flt (f : CycleSt → CycleSt) : (s.updCyc f).flt = s.flt := rfl
@[simp] theorem State.updCyc_mail (f : CycleSt → CycleSt) : (s.updCyc f).mail = s.mail := rfl
@[simp] theorem State.updCyc_stage (f : CycleSt → CycleSt) : (s.updCyc f).stage = s.stage := rfl
@[simp] theorem State.updCyc_bridge (f : CycleSt → CycleSt) : (s.updCyc f).bridge = s.bridge := rfl
@[simp] theorem State.updCyc_tunnels (f : CycleSt → CycleSt) : (s.updCyc f).tunnels = s.tunnels := rfl
@[simp] theorem State.updCyc_ports (f : CycleSt → CycleSt) : (s.updCyc f).ports = s.ports := rfl
@[simp] theorem State.updCyc_recs (f : CycleSt → CycleSt) : (s.updCyc f).recs = s.recs := rfl
@[simp] theorem State.updCyc_time (f : CycleSt → CycleSt) : (s.updCyc f).time = s.time := rfl
@[simp] theorem State.updCyc_be (f : CycleSt → CycleSt) : (s.updCyc f).be = s.be := rfl
@[simp] theorem State.updCyc_upd (f : CycleSt → CycleSt) : (s.updCyc f).upd = s.upd := rfl
@[simp] theorem State.updCyc_pow (f : CycleSt → CycleSt) : (s.updCyc f).pow = s.pow := rfl
@[simp] theorem State.updCyc_netTx (f : CycleSt → CycleSt) : (s.updCyc f).netTx = s.netTx := rfl
@[simp] theorem State.updCyc_legacyTx (f : CycleSt → CycleSt) : (s.updCyc f).legacyTx = s.legacyTx := rfl
@[simp] theorem State.updCyc_plTx (f : CycleSt → CycleSt) : (s.updCyc f).plTx = s.plTx := rfl
@[simp] theorem State.updCyc_splits (f : CycleSt → CycleSt) : (s.updCyc f).splits = s.splits := rfl
@[simp] theorem State.updCyc_free (f : CycleSt → CycleSt) : (s.updCyc f).free = s.free := rfl

/-! ### updTime -/

@[simp] theorem State.updTime_pending (f : TimeSt → TimeSt) : (s.updTime f).pending = s.pending := rfl
@[simp] theorem State.updTime_id (f : TimeSt → TimeSt) : (s.updTime f).id = s.id := rfl
@[simp] theorem State.updTime_lanes (f : TimeSt → TimeSt) : (s.updTime f).lanes = s.lanes := rfl
@[simp] theorem State.updTime_cyc (f : TimeSt → TimeSt) : (s.updTime f).cyc = s.cyc := rfl
@[simp] theorem State.updTime_app (f : TimeSt → TimeSt) : (s.updTime f).app = s.app := rfl
@[simp] theorem State.updTime_trl (f : TimeSt → TimeSt) : (s.updTime f).trl = s.trl := rfl
@[simp] theorem State.updTime_image (f : TimeSt → TimeSt) : (s.updTime f).image = s.image := rfl
@[simp] theorem State.updTime_set (f : TimeSt → TimeSt) : (s.updTime f).set = s.set := rfl
@[simp] theorem State.updTime_cells (f : TimeSt → TimeSt) : (s.updTime f).cells = s.cells := rfl
@[simp] theorem State.updTime_banks (f : TimeSt → TimeSt) : (s.updTime f).banks = s.banks := rfl
@[simp] theorem State.updTime_frame (f : TimeSt → TimeSt) : (s.updTime f).frame = s.frame := rfl
@[simp] theorem State.updTime_conns (f : TimeSt → TimeSt) : (s.updTime f).conns = s.conns := rfl
@[simp] theorem State.updTime_nets (f : TimeSt → TimeSt) : (s.updTime f).nets = s.nets := rfl
@[simp] theorem State.updTime_pair (f : TimeSt → TimeSt) : (s.updTime f).pair = s.pair := rfl
@[simp] theorem State.updTime_flt (f : TimeSt → TimeSt) : (s.updTime f).flt = s.flt := rfl
@[simp] theorem State.updTime_mail (f : TimeSt → TimeSt) : (s.updTime f).mail = s.mail := rfl
@[simp] theorem State.updTime_stage (f : TimeSt → TimeSt) : (s.updTime f).stage = s.stage := rfl
@[simp] theorem State.updTime_bridge (f : TimeSt → TimeSt) : (s.updTime f).bridge = s.bridge := rfl
@[simp] theorem State.updTime_tunnels (f : TimeSt → TimeSt) : (s.updTime f).tunnels = s.tunnels := rfl
@[simp] theorem State.updTime_ports (f : TimeSt → TimeSt) : (s.updTime f).ports = s.ports := rfl
@[simp] theorem State.updTime_recs (f : TimeSt → TimeSt) : (s.updTime f).recs = s.recs := rfl
@[simp] theorem State.updTime_time (f : TimeSt → TimeSt) : (s.updTime f).time = f s.time := rfl
@[simp] theorem State.updTime_be (f : TimeSt → TimeSt) : (s.updTime f).be = s.be := rfl
@[simp] theorem State.updTime_upd (f : TimeSt → TimeSt) : (s.updTime f).upd = s.upd := rfl
@[simp] theorem State.updTime_pow (f : TimeSt → TimeSt) : (s.updTime f).pow = s.pow := rfl
@[simp] theorem State.updTime_netTx (f : TimeSt → TimeSt) : (s.updTime f).netTx = s.netTx := rfl
@[simp] theorem State.updTime_legacyTx (f : TimeSt → TimeSt) : (s.updTime f).legacyTx = s.legacyTx := rfl
@[simp] theorem State.updTime_plTx (f : TimeSt → TimeSt) : (s.updTime f).plTx = s.plTx := rfl
@[simp] theorem State.updTime_splits (f : TimeSt → TimeSt) : (s.updTime f).splits = s.splits := rfl
@[simp] theorem State.updTime_free (f : TimeSt → TimeSt) : (s.updTime f).free = s.free := rfl

/-! ### updMail -/

@[simp] theorem State.updMail_pending (f : MailSt → MailSt) : (s.updMail f).pending = s.pending := rfl
@[simp] theorem State.updMail_id (f : MailSt → MailSt) : (s.updMail f).id = s.id := rfl
@[simp] theorem State.updMail_lanes (f : MailSt → MailSt) : (s.updMail f).lanes = s.lanes := rfl
@[simp] theorem State.updMail_cyc (f : MailSt → MailSt) : (s.updMail f).cyc = s.cyc := rfl
@[simp] theorem State.updMail_app (f : MailSt → MailSt) : (s.updMail f).app = s.app := rfl
@[simp] theorem State.updMail_trl (f : MailSt → MailSt) : (s.updMail f).trl = s.trl := rfl
@[simp] theorem State.updMail_image (f : MailSt → MailSt) : (s.updMail f).image = s.image := rfl
@[simp] theorem State.updMail_set (f : MailSt → MailSt) : (s.updMail f).set = s.set := rfl
@[simp] theorem State.updMail_cells (f : MailSt → MailSt) : (s.updMail f).cells = s.cells := rfl
@[simp] theorem State.updMail_banks (f : MailSt → MailSt) : (s.updMail f).banks = s.banks := rfl
@[simp] theorem State.updMail_frame (f : MailSt → MailSt) : (s.updMail f).frame = s.frame := rfl
@[simp] theorem State.updMail_conns (f : MailSt → MailSt) : (s.updMail f).conns = s.conns := rfl
@[simp] theorem State.updMail_nets (f : MailSt → MailSt) : (s.updMail f).nets = s.nets := rfl
@[simp] theorem State.updMail_pair (f : MailSt → MailSt) : (s.updMail f).pair = s.pair := rfl
@[simp] theorem State.updMail_flt (f : MailSt → MailSt) : (s.updMail f).flt = s.flt := rfl
@[simp] theorem State.updMail_mail (f : MailSt → MailSt) : (s.updMail f).mail = f s.mail := rfl
@[simp] theorem State.updMail_stage (f : MailSt → MailSt) : (s.updMail f).stage = s.stage := rfl
@[simp] theorem State.updMail_bridge (f : MailSt → MailSt) : (s.updMail f).bridge = s.bridge := rfl
@[simp] theorem State.updMail_tunnels (f : MailSt → MailSt) : (s.updMail f).tunnels = s.tunnels := rfl
@[simp] theorem State.updMail_ports (f : MailSt → MailSt) : (s.updMail f).ports = s.ports := rfl
@[simp] theorem State.updMail_recs (f : MailSt → MailSt) : (s.updMail f).recs = s.recs := rfl
@[simp] theorem State.updMail_time (f : MailSt → MailSt) : (s.updMail f).time = s.time := rfl
@[simp] theorem State.updMail_be (f : MailSt → MailSt) : (s.updMail f).be = s.be := rfl
@[simp] theorem State.updMail_upd (f : MailSt → MailSt) : (s.updMail f).upd = s.upd := rfl
@[simp] theorem State.updMail_pow (f : MailSt → MailSt) : (s.updMail f).pow = s.pow := rfl
@[simp] theorem State.updMail_netTx (f : MailSt → MailSt) : (s.updMail f).netTx = s.netTx := rfl
@[simp] theorem State.updMail_legacyTx (f : MailSt → MailSt) : (s.updMail f).legacyTx = s.legacyTx := rfl
@[simp] theorem State.updMail_plTx (f : MailSt → MailSt) : (s.updMail f).plTx = s.plTx := rfl
@[simp] theorem State.updMail_splits (f : MailSt → MailSt) : (s.updMail f).splits = s.splits := rfl
@[simp] theorem State.updMail_free (f : MailSt → MailSt) : (s.updMail f).free = s.free := rfl

/-! ### updPair -/

@[simp] theorem State.updPair_pending (f : PairSt → PairSt) : (s.updPair f).pending = s.pending := rfl
@[simp] theorem State.updPair_id (f : PairSt → PairSt) : (s.updPair f).id = s.id := rfl
@[simp] theorem State.updPair_lanes (f : PairSt → PairSt) : (s.updPair f).lanes = s.lanes := rfl
@[simp] theorem State.updPair_cyc (f : PairSt → PairSt) : (s.updPair f).cyc = s.cyc := rfl
@[simp] theorem State.updPair_app (f : PairSt → PairSt) : (s.updPair f).app = s.app := rfl
@[simp] theorem State.updPair_trl (f : PairSt → PairSt) : (s.updPair f).trl = s.trl := rfl
@[simp] theorem State.updPair_image (f : PairSt → PairSt) : (s.updPair f).image = s.image := rfl
@[simp] theorem State.updPair_set (f : PairSt → PairSt) : (s.updPair f).set = s.set := rfl
@[simp] theorem State.updPair_cells (f : PairSt → PairSt) : (s.updPair f).cells = s.cells := rfl
@[simp] theorem State.updPair_banks (f : PairSt → PairSt) : (s.updPair f).banks = s.banks := rfl
@[simp] theorem State.updPair_frame (f : PairSt → PairSt) : (s.updPair f).frame = s.frame := rfl
@[simp] theorem State.updPair_conns (f : PairSt → PairSt) : (s.updPair f).conns = s.conns := rfl
@[simp] theorem State.updPair_nets (f : PairSt → PairSt) : (s.updPair f).nets = s.nets := rfl
@[simp] theorem State.updPair_pair (f : PairSt → PairSt) : (s.updPair f).pair = f s.pair := rfl
@[simp] theorem State.updPair_flt (f : PairSt → PairSt) : (s.updPair f).flt = s.flt := rfl
@[simp] theorem State.updPair_mail (f : PairSt → PairSt) : (s.updPair f).mail = s.mail := rfl
@[simp] theorem State.updPair_stage (f : PairSt → PairSt) : (s.updPair f).stage = s.stage := rfl
@[simp] theorem State.updPair_bridge (f : PairSt → PairSt) : (s.updPair f).bridge = s.bridge := rfl
@[simp] theorem State.updPair_tunnels (f : PairSt → PairSt) : (s.updPair f).tunnels = s.tunnels := rfl
@[simp] theorem State.updPair_ports (f : PairSt → PairSt) : (s.updPair f).ports = s.ports := rfl
@[simp] theorem State.updPair_recs (f : PairSt → PairSt) : (s.updPair f).recs = s.recs := rfl
@[simp] theorem State.updPair_time (f : PairSt → PairSt) : (s.updPair f).time = s.time := rfl
@[simp] theorem State.updPair_be (f : PairSt → PairSt) : (s.updPair f).be = s.be := rfl
@[simp] theorem State.updPair_upd (f : PairSt → PairSt) : (s.updPair f).upd = s.upd := rfl
@[simp] theorem State.updPair_pow (f : PairSt → PairSt) : (s.updPair f).pow = s.pow := rfl
@[simp] theorem State.updPair_netTx (f : PairSt → PairSt) : (s.updPair f).netTx = s.netTx := rfl
@[simp] theorem State.updPair_legacyTx (f : PairSt → PairSt) : (s.updPair f).legacyTx = s.legacyTx := rfl
@[simp] theorem State.updPair_plTx (f : PairSt → PairSt) : (s.updPair f).plTx = s.plTx := rfl
@[simp] theorem State.updPair_splits (f : PairSt → PairSt) : (s.updPair f).splits = s.splits := rfl
@[simp] theorem State.updPair_free (f : PairSt → PairSt) : (s.updPair f).free = s.free := rfl

/-! ### updRecs -/

@[simp] theorem State.updRecs_pending (f : RecSt → RecSt) : (s.updRecs f).pending = s.pending := rfl
@[simp] theorem State.updRecs_id (f : RecSt → RecSt) : (s.updRecs f).id = s.id := rfl
@[simp] theorem State.updRecs_lanes (f : RecSt → RecSt) : (s.updRecs f).lanes = s.lanes := rfl
@[simp] theorem State.updRecs_cyc (f : RecSt → RecSt) : (s.updRecs f).cyc = s.cyc := rfl
@[simp] theorem State.updRecs_app (f : RecSt → RecSt) : (s.updRecs f).app = s.app := rfl
@[simp] theorem State.updRecs_trl (f : RecSt → RecSt) : (s.updRecs f).trl = s.trl := rfl
@[simp] theorem State.updRecs_image (f : RecSt → RecSt) : (s.updRecs f).image = s.image := rfl
@[simp] theorem State.updRecs_set (f : RecSt → RecSt) : (s.updRecs f).set = s.set := rfl
@[simp] theorem State.updRecs_cells (f : RecSt → RecSt) : (s.updRecs f).cells = s.cells := rfl
@[simp] theorem State.updRecs_banks (f : RecSt → RecSt) : (s.updRecs f).banks = s.banks := rfl
@[simp] theorem State.updRecs_frame (f : RecSt → RecSt) : (s.updRecs f).frame = s.frame := rfl
@[simp] theorem State.updRecs_conns (f : RecSt → RecSt) : (s.updRecs f).conns = s.conns := rfl
@[simp] theorem State.updRecs_nets (f : RecSt → RecSt) : (s.updRecs f).nets = s.nets := rfl
@[simp] theorem State.updRecs_pair (f : RecSt → RecSt) : (s.updRecs f).pair = s.pair := rfl
@[simp] theorem State.updRecs_flt (f : RecSt → RecSt) : (s.updRecs f).flt = s.flt := rfl
@[simp] theorem State.updRecs_mail (f : RecSt → RecSt) : (s.updRecs f).mail = s.mail := rfl
@[simp] theorem State.updRecs_stage (f : RecSt → RecSt) : (s.updRecs f).stage = s.stage := rfl
@[simp] theorem State.updRecs_bridge (f : RecSt → RecSt) : (s.updRecs f).bridge = s.bridge := rfl
@[simp] theorem State.updRecs_tunnels (f : RecSt → RecSt) : (s.updRecs f).tunnels = s.tunnels := rfl
@[simp] theorem State.updRecs_ports (f : RecSt → RecSt) : (s.updRecs f).ports = s.ports := rfl
@[simp] theorem State.updRecs_recs (f : RecSt → RecSt) : (s.updRecs f).recs = f s.recs := rfl
@[simp] theorem State.updRecs_time (f : RecSt → RecSt) : (s.updRecs f).time = s.time := rfl
@[simp] theorem State.updRecs_be (f : RecSt → RecSt) : (s.updRecs f).be = s.be := rfl
@[simp] theorem State.updRecs_upd (f : RecSt → RecSt) : (s.updRecs f).upd = s.upd := rfl
@[simp] theorem State.updRecs_pow (f : RecSt → RecSt) : (s.updRecs f).pow = s.pow := rfl
@[simp] theorem State.updRecs_netTx (f : RecSt → RecSt) : (s.updRecs f).netTx = s.netTx := rfl
@[simp] theorem State.updRecs_legacyTx (f : RecSt → RecSt) : (s.updRecs f).legacyTx = s.legacyTx := rfl
@[simp] theorem State.updRecs_plTx (f : RecSt → RecSt) : (s.updRecs f).plTx = s.plTx := rfl
@[simp] theorem State.updRecs_splits (f : RecSt → RecSt) : (s.updRecs f).splits = s.splits := rfl
@[simp] theorem State.updRecs_free (f : RecSt → RecSt) : (s.updRecs f).free = s.free := rfl

/-! ### updUpd -/

@[simp] theorem State.updUpd_pending (f : UpdSt → UpdSt) : (s.updUpd f).pending = s.pending := rfl
@[simp] theorem State.updUpd_id (f : UpdSt → UpdSt) : (s.updUpd f).id = s.id := rfl
@[simp] theorem State.updUpd_lanes (f : UpdSt → UpdSt) : (s.updUpd f).lanes = s.lanes := rfl
@[simp] theorem State.updUpd_cyc (f : UpdSt → UpdSt) : (s.updUpd f).cyc = s.cyc := rfl
@[simp] theorem State.updUpd_app (f : UpdSt → UpdSt) : (s.updUpd f).app = s.app := rfl
@[simp] theorem State.updUpd_trl (f : UpdSt → UpdSt) : (s.updUpd f).trl = s.trl := rfl
@[simp] theorem State.updUpd_image (f : UpdSt → UpdSt) : (s.updUpd f).image = s.image := rfl
@[simp] theorem State.updUpd_set (f : UpdSt → UpdSt) : (s.updUpd f).set = s.set := rfl
@[simp] theorem State.updUpd_cells (f : UpdSt → UpdSt) : (s.updUpd f).cells = s.cells := rfl
@[simp] theorem State.updUpd_banks (f : UpdSt → UpdSt) : (s.updUpd f).banks = s.banks := rfl
@[simp] theorem State.updUpd_frame (f : UpdSt → UpdSt) : (s.updUpd f).frame = s.frame := rfl
@[simp] theorem State.updUpd_conns (f : UpdSt → UpdSt) : (s.updUpd f).conns = s.conns := rfl
@[simp] theorem State.updUpd_nets (f : UpdSt → UpdSt) : (s.updUpd f).nets = s.nets := rfl
@[simp] theorem State.updUpd_pair (f : UpdSt → UpdSt) : (s.updUpd f).pair = s.pair := rfl
@[simp] theorem State.updUpd_flt (f : UpdSt → UpdSt) : (s.updUpd f).flt = s.flt := rfl
@[simp] theorem State.updUpd_mail (f : UpdSt → UpdSt) : (s.updUpd f).mail = s.mail := rfl
@[simp] theorem State.updUpd_stage (f : UpdSt → UpdSt) : (s.updUpd f).stage = s.stage := rfl
@[simp] theorem State.updUpd_bridge (f : UpdSt → UpdSt) : (s.updUpd f).bridge = s.bridge := rfl
@[simp] theorem State.updUpd_tunnels (f : UpdSt → UpdSt) : (s.updUpd f).tunnels = s.tunnels := rfl
@[simp] theorem State.updUpd_ports (f : UpdSt → UpdSt) : (s.updUpd f).ports = s.ports := rfl
@[simp] theorem State.updUpd_recs (f : UpdSt → UpdSt) : (s.updUpd f).recs = s.recs := rfl
@[simp] theorem State.updUpd_time (f : UpdSt → UpdSt) : (s.updUpd f).time = s.time := rfl
@[simp] theorem State.updUpd_be (f : UpdSt → UpdSt) : (s.updUpd f).be = s.be := rfl
@[simp] theorem State.updUpd_upd (f : UpdSt → UpdSt) : (s.updUpd f).upd = f s.upd := rfl
@[simp] theorem State.updUpd_pow (f : UpdSt → UpdSt) : (s.updUpd f).pow = s.pow := rfl
@[simp] theorem State.updUpd_netTx (f : UpdSt → UpdSt) : (s.updUpd f).netTx = s.netTx := rfl
@[simp] theorem State.updUpd_legacyTx (f : UpdSt → UpdSt) : (s.updUpd f).legacyTx = s.legacyTx := rfl
@[simp] theorem State.updUpd_plTx (f : UpdSt → UpdSt) : (s.updUpd f).plTx = s.plTx := rfl
@[simp] theorem State.updUpd_splits (f : UpdSt → UpdSt) : (s.updUpd f).splits = s.splits := rfl
@[simp] theorem State.updUpd_free (f : UpdSt → UpdSt) : (s.updUpd f).free = s.free := rfl

/-! ### updAct -/

@[simp] theorem State.updAct_pending (f : ActSt → ActSt) : (s.updAct f).pending = s.pending := rfl
@[simp] theorem State.updAct_id (f : ActSt → ActSt) : (s.updAct f).id = s.id := rfl
@[simp] theorem State.updAct_lanes (f : ActSt → ActSt) : (s.updAct f).lanes = s.lanes := rfl
@[simp] theorem State.updAct_cyc (f : ActSt → ActSt) : (s.updAct f).cyc = s.cyc := rfl
@[simp] theorem State.updAct_app (f : ActSt → ActSt) : (s.updAct f).app = s.app := rfl
@[simp] theorem State.updAct_trl (f : ActSt → ActSt) : (s.updAct f).trl = s.trl := rfl
@[simp] theorem State.updAct_image (f : ActSt → ActSt) : (s.updAct f).image = s.image := rfl
@[simp] theorem State.updAct_set (f : ActSt → ActSt) : (s.updAct f).set = s.set := rfl
@[simp] theorem State.updAct_cells (f : ActSt → ActSt) : (s.updAct f).cells = s.cells := rfl
@[simp] theorem State.updAct_banks (f : ActSt → ActSt) : (s.updAct f).banks = s.banks := rfl
@[simp] theorem State.updAct_frame (f : ActSt → ActSt) : (s.updAct f).frame = s.frame := rfl
@[simp] theorem State.updAct_conns (f : ActSt → ActSt) : (s.updAct f).conns = s.conns := rfl
@[simp] theorem State.updAct_nets (f : ActSt → ActSt) : (s.updAct f).nets = s.nets := rfl
@[simp] theorem State.updAct_pair (f : ActSt → ActSt) : (s.updAct f).pair = s.pair := rfl
@[simp] theorem State.updAct_flt (f : ActSt → ActSt) : (s.updAct f).flt = s.flt := rfl
@[simp] theorem State.updAct_mail (f : ActSt → ActSt) : (s.updAct f).mail = s.mail := rfl
@[simp] theorem State.updAct_stage (f : ActSt → ActSt) : (s.updAct f).stage = s.stage := rfl
@[simp] theorem State.updAct_bridge (f : ActSt → ActSt) : (s.updAct f).bridge = s.bridge := rfl
@[simp] theorem State.updAct_tunnels (f : ActSt → ActSt) : (s.updAct f).tunnels = s.tunnels := rfl
@[simp] theorem State.updAct_ports (f : ActSt → ActSt) : (s.updAct f).ports = s.ports := rfl
@[simp] theorem State.updAct_recs (f : ActSt → ActSt) : (s.updAct f).recs = s.recs := rfl
@[simp] theorem State.updAct_time (f : ActSt → ActSt) : (s.updAct f).time = s.time := rfl
@[simp] theorem State.updAct_be (f : ActSt → ActSt) : (s.updAct f).be = s.be := rfl
@[simp] theorem State.updAct_pow (f : ActSt → ActSt) : (s.updAct f).pow = s.pow := rfl
@[simp] theorem State.updAct_netTx (f : ActSt → ActSt) : (s.updAct f).netTx = s.netTx := rfl
@[simp] theorem State.updAct_legacyTx (f : ActSt → ActSt) : (s.updAct f).legacyTx = s.legacyTx := rfl
@[simp] theorem State.updAct_plTx (f : ActSt → ActSt) : (s.updAct f).plTx = s.plTx := rfl
@[simp] theorem State.updAct_splits (f : ActSt → ActSt) : (s.updAct f).splits = s.splits := rfl
@[simp] theorem State.updAct_free (f : ActSt → ActSt) : (s.updAct f).free = s.free := rfl

/-! ### updTest -/

@[simp] theorem State.updTest_pending (f : TestSt → TestSt) : (s.updTest f).pending = s.pending := rfl
@[simp] theorem State.updTest_id (f : TestSt → TestSt) : (s.updTest f).id = s.id := rfl
@[simp] theorem State.updTest_lanes (f : TestSt → TestSt) : (s.updTest f).lanes = s.lanes := rfl
@[simp] theorem State.updTest_cyc (f : TestSt → TestSt) : (s.updTest f).cyc = s.cyc := rfl
@[simp] theorem State.updTest_app (f : TestSt → TestSt) : (s.updTest f).app = s.app := rfl
@[simp] theorem State.updTest_trl (f : TestSt → TestSt) : (s.updTest f).trl = s.trl := rfl
@[simp] theorem State.updTest_image (f : TestSt → TestSt) : (s.updTest f).image = s.image := rfl
@[simp] theorem State.updTest_set (f : TestSt → TestSt) : (s.updTest f).set = s.set := rfl
@[simp] theorem State.updTest_cells (f : TestSt → TestSt) : (s.updTest f).cells = s.cells := rfl
@[simp] theorem State.updTest_banks (f : TestSt → TestSt) : (s.updTest f).banks = s.banks := rfl
@[simp] theorem State.updTest_frame (f : TestSt → TestSt) : (s.updTest f).frame = s.frame := rfl
@[simp] theorem State.updTest_conns (f : TestSt → TestSt) : (s.updTest f).conns = s.conns := rfl
@[simp] theorem State.updTest_nets (f : TestSt → TestSt) : (s.updTest f).nets = s.nets := rfl
@[simp] theorem State.updTest_pair (f : TestSt → TestSt) : (s.updTest f).pair = s.pair := rfl
@[simp] theorem State.updTest_flt (f : TestSt → TestSt) : (s.updTest f).flt = s.flt := rfl
@[simp] theorem State.updTest_mail (f : TestSt → TestSt) : (s.updTest f).mail = s.mail := rfl
@[simp] theorem State.updTest_stage (f : TestSt → TestSt) : (s.updTest f).stage = s.stage := rfl
@[simp] theorem State.updTest_bridge (f : TestSt → TestSt) : (s.updTest f).bridge = s.bridge := rfl
@[simp] theorem State.updTest_tunnels (f : TestSt → TestSt) : (s.updTest f).tunnels = s.tunnels := rfl
@[simp] theorem State.updTest_ports (f : TestSt → TestSt) : (s.updTest f).ports = s.ports := rfl
@[simp] theorem State.updTest_recs (f : TestSt → TestSt) : (s.updTest f).recs = s.recs := rfl
@[simp] theorem State.updTest_time (f : TestSt → TestSt) : (s.updTest f).time = s.time := rfl
@[simp] theorem State.updTest_upd (f : TestSt → TestSt) : (s.updTest f).upd = s.upd := rfl
@[simp] theorem State.updTest_pow (f : TestSt → TestSt) : (s.updTest f).pow = s.pow := rfl
@[simp] theorem State.updTest_netTx (f : TestSt → TestSt) : (s.updTest f).netTx = s.netTx := rfl
@[simp] theorem State.updTest_legacyTx (f : TestSt → TestSt) : (s.updTest f).legacyTx = s.legacyTx := rfl
@[simp] theorem State.updTest_plTx (f : TestSt → TestSt) : (s.updTest f).plTx = s.plTx := rfl
@[simp] theorem State.updTest_splits (f : TestSt → TestSt) : (s.updTest f).splits = s.splits := rfl
@[simp] theorem State.updTest_free (f : TestSt → TestSt) : (s.updTest f).free = s.free := rfl

/-! ### updRels -/

@[simp] theorem State.updRels_pending (f : RelSt → RelSt) : (s.updRels f).pending = s.pending := rfl
@[simp] theorem State.updRels_id (f : RelSt → RelSt) : (s.updRels f).id = s.id := rfl
@[simp] theorem State.updRels_lanes (f : RelSt → RelSt) : (s.updRels f).lanes = s.lanes := rfl
@[simp] theorem State.updRels_cyc (f : RelSt → RelSt) : (s.updRels f).cyc = s.cyc := rfl
@[simp] theorem State.updRels_app (f : RelSt → RelSt) : (s.updRels f).app = s.app := rfl
@[simp] theorem State.updRels_trl (f : RelSt → RelSt) : (s.updRels f).trl = s.trl := rfl
@[simp] theorem State.updRels_image (f : RelSt → RelSt) : (s.updRels f).image = s.image := rfl
@[simp] theorem State.updRels_set (f : RelSt → RelSt) : (s.updRels f).set = s.set := rfl
@[simp] theorem State.updRels_cells (f : RelSt → RelSt) : (s.updRels f).cells = s.cells := rfl
@[simp] theorem State.updRels_banks (f : RelSt → RelSt) : (s.updRels f).banks = s.banks := rfl
@[simp] theorem State.updRels_frame (f : RelSt → RelSt) : (s.updRels f).frame = s.frame := rfl
@[simp] theorem State.updRels_conns (f : RelSt → RelSt) : (s.updRels f).conns = s.conns := rfl
@[simp] theorem State.updRels_nets (f : RelSt → RelSt) : (s.updRels f).nets = s.nets := rfl
@[simp] theorem State.updRels_pair (f : RelSt → RelSt) : (s.updRels f).pair = s.pair := rfl
@[simp] theorem State.updRels_mail (f : RelSt → RelSt) : (s.updRels f).mail = s.mail := rfl
@[simp] theorem State.updRels_stage (f : RelSt → RelSt) : (s.updRels f).stage = s.stage := rfl
@[simp] theorem State.updRels_bridge (f : RelSt → RelSt) : (s.updRels f).bridge = s.bridge := rfl
@[simp] theorem State.updRels_tunnels (f : RelSt → RelSt) : (s.updRels f).tunnels = s.tunnels := rfl
@[simp] theorem State.updRels_ports (f : RelSt → RelSt) : (s.updRels f).ports = s.ports := rfl
@[simp] theorem State.updRels_recs (f : RelSt → RelSt) : (s.updRels f).recs = s.recs := rfl
@[simp] theorem State.updRels_time (f : RelSt → RelSt) : (s.updRels f).time = s.time := rfl
@[simp] theorem State.updRels_be (f : RelSt → RelSt) : (s.updRels f).be = s.be := rfl
@[simp] theorem State.updRels_upd (f : RelSt → RelSt) : (s.updRels f).upd = s.upd := rfl
@[simp] theorem State.updRels_pow (f : RelSt → RelSt) : (s.updRels f).pow = s.pow := rfl
@[simp] theorem State.updRels_netTx (f : RelSt → RelSt) : (s.updRels f).netTx = s.netTx := rfl
@[simp] theorem State.updRels_legacyTx (f : RelSt → RelSt) : (s.updRels f).legacyTx = s.legacyTx := rfl
@[simp] theorem State.updRels_plTx (f : RelSt → RelSt) : (s.updRels f).plTx = s.plTx := rfl
@[simp] theorem State.updRels_splits (f : RelSt → RelSt) : (s.updRels f).splits = s.splits := rfl
@[simp] theorem State.updRels_free (f : RelSt → RelSt) : (s.updRels f).free = s.free := rfl

/-! ### updBridge -/

@[simp] theorem State.updBridge_pending (f : BridgeSt → BridgeSt) : (s.updBridge f).pending = s.pending := rfl
@[simp] theorem State.updBridge_id (f : BridgeSt → BridgeSt) : (s.updBridge f).id = s.id := rfl
@[simp] theorem State.updBridge_lanes (f : BridgeSt → BridgeSt) : (s.updBridge f).lanes = s.lanes := rfl
@[simp] theorem State.updBridge_cyc (f : BridgeSt → BridgeSt) : (s.updBridge f).cyc = s.cyc := rfl
@[simp] theorem State.updBridge_app (f : BridgeSt → BridgeSt) : (s.updBridge f).app = s.app := rfl
@[simp] theorem State.updBridge_trl (f : BridgeSt → BridgeSt) : (s.updBridge f).trl = s.trl := rfl
@[simp] theorem State.updBridge_image (f : BridgeSt → BridgeSt) : (s.updBridge f).image = s.image := rfl
@[simp] theorem State.updBridge_set (f : BridgeSt → BridgeSt) : (s.updBridge f).set = s.set := rfl
@[simp] theorem State.updBridge_cells (f : BridgeSt → BridgeSt) : (s.updBridge f).cells = s.cells := rfl
@[simp] theorem State.updBridge_banks (f : BridgeSt → BridgeSt) : (s.updBridge f).banks = s.banks := rfl
@[simp] theorem State.updBridge_frame (f : BridgeSt → BridgeSt) : (s.updBridge f).frame = s.frame := rfl
@[simp] theorem State.updBridge_conns (f : BridgeSt → BridgeSt) : (s.updBridge f).conns = s.conns := rfl
@[simp] theorem State.updBridge_nets (f : BridgeSt → BridgeSt) : (s.updBridge f).nets = s.nets := rfl
@[simp] theorem State.updBridge_pair (f : BridgeSt → BridgeSt) : (s.updBridge f).pair = s.pair := rfl
@[simp] theorem State.updBridge_flt (f : BridgeSt → BridgeSt) : (s.updBridge f).flt = s.flt := rfl
@[simp] theorem State.updBridge_mail (f : BridgeSt → BridgeSt) : (s.updBridge f).mail = s.mail := rfl
@[simp] theorem State.updBridge_stage (f : BridgeSt → BridgeSt) : (s.updBridge f).stage = s.stage := rfl
@[simp] theorem State.updBridge_bridge (f : BridgeSt → BridgeSt) : (s.updBridge f).bridge = f s.bridge := rfl
@[simp] theorem State.updBridge_tunnels (f : BridgeSt → BridgeSt) : (s.updBridge f).tunnels = s.tunnels := rfl
@[simp] theorem State.updBridge_ports (f : BridgeSt → BridgeSt) : (s.updBridge f).ports = s.ports := rfl
@[simp] theorem State.updBridge_recs (f : BridgeSt → BridgeSt) : (s.updBridge f).recs = s.recs := rfl
@[simp] theorem State.updBridge_time (f : BridgeSt → BridgeSt) : (s.updBridge f).time = s.time := rfl
@[simp] theorem State.updBridge_be (f : BridgeSt → BridgeSt) : (s.updBridge f).be = s.be := rfl
@[simp] theorem State.updBridge_upd (f : BridgeSt → BridgeSt) : (s.updBridge f).upd = s.upd := rfl
@[simp] theorem State.updBridge_pow (f : BridgeSt → BridgeSt) : (s.updBridge f).pow = s.pow := rfl
@[simp] theorem State.updBridge_netTx (f : BridgeSt → BridgeSt) : (s.updBridge f).netTx = s.netTx := rfl
@[simp] theorem State.updBridge_legacyTx (f : BridgeSt → BridgeSt) : (s.updBridge f).legacyTx = s.legacyTx := rfl
@[simp] theorem State.updBridge_plTx (f : BridgeSt → BridgeSt) : (s.updBridge f).plTx = s.plTx := rfl
@[simp] theorem State.updBridge_splits (f : BridgeSt → BridgeSt) : (s.updBridge f).splits = s.splits := rfl
@[simp] theorem State.updBridge_free (f : BridgeSt → BridgeSt) : (s.updBridge f).free = s.free := rfl

/-! ### Reads of other parts -/

@[simp] theorem State.updLane_cell (l : Lane) (f : LaneSt → LaneSt) (m : Nat) : (s.updLane l f).cell m = s.cell m := rfl
@[simp] theorem State.updLane_bank (l : Lane) (f : LaneSt → LaneSt) (m : Nat) : (s.updLane l f).bank m = s.bank m := rfl
@[simp] theorem State.updLane_net (l : Lane) (f : LaneSt → LaneSt) (m : Net) : (s.updLane l f).net m = s.net m := rfl
@[simp] theorem State.updLane_conn_opt (l : Lane) (f : LaneSt → LaneSt) (m : Nat) : (s.updLane l f).conn? m = s.conn? m := rfl
@[simp] theorem State.updLane_connCfg_opt (l : Lane) (f : LaneSt → LaneSt) (m : Nat) : (s.updLane l f).connCfg? m = s.connCfg? m := rfl
@[simp] theorem State.updLane_cellCfg (l : Lane) (f : LaneSt → LaneSt) (m : Nat) : (s.updLane l f).cellCfg m = s.cellCfg m := rfl
@[simp] theorem State.updLane_box (l : Lane) (f : LaneSt → LaneSt) (m : Nat) : (s.updLane l f).box m = s.box m := rfl
@[simp] theorem State.updLane_tunnel (l : Lane) (f : LaneSt → LaneSt) (m : Nat) : (s.updLane l f).tunnel m = s.tunnel m := rfl
@[simp] theorem State.updLane_elem_opt (l : Lane) (f : LaneSt → LaneSt) (m : Nat) : (s.updLane l f).elem? m = s.elem? m := rfl
@[simp] theorem State.updLane_cellRec (l : Lane) (f : LaneSt → LaneSt) (m : Nat) : (s.updLane l f).cellRec m = s.cellRec m := rfl
@[simp] theorem State.updLane_recv_opt (l : Lane) (f : LaneSt → LaneSt) (m : Nat) : (s.updLane l f).recv? m = s.recv? m := rfl

@[simp] theorem State.updLanes_cell (f : LaneSt → LaneSt) (m : Nat) : (s.updLanes f).cell m = s.cell m := rfl
@[simp] theorem State.updLanes_bank (f : LaneSt → LaneSt) (m : Nat) : (s.updLanes f).bank m = s.bank m := rfl
@[simp] theorem State.updLanes_net (f : LaneSt → LaneSt) (m : Net) : (s.updLanes f).net m = s.net m := rfl
@[simp] theorem State.updLanes_conn_opt (f : LaneSt → LaneSt) (m : Nat) : (s.updLanes f).conn? m = s.conn? m := rfl
@[simp] theorem State.updLanes_connCfg_opt (f : LaneSt → LaneSt) (m : Nat) : (s.updLanes f).connCfg? m = s.connCfg? m := rfl
@[simp] theorem State.updLanes_cellCfg (f : LaneSt → LaneSt) (m : Nat) : (s.updLanes f).cellCfg m = s.cellCfg m := rfl
@[simp] theorem State.updLanes_box (f : LaneSt → LaneSt) (m : Nat) : (s.updLanes f).box m = s.box m := rfl
@[simp] theorem State.updLanes_tunnel (f : LaneSt → LaneSt) (m : Nat) : (s.updLanes f).tunnel m = s.tunnel m := rfl
@[simp] theorem State.updLanes_elem_opt (f : LaneSt → LaneSt) (m : Nat) : (s.updLanes f).elem? m = s.elem? m := rfl
@[simp] theorem State.updLanes_cellRec (f : LaneSt → LaneSt) (m : Nat) : (s.updLanes f).cellRec m = s.cellRec m := rfl
@[simp] theorem State.updLanes_recv_opt (f : LaneSt → LaneSt) (m : Nat) : (s.updLanes f).recv? m = s.recv? m := rfl

@[simp] theorem State.updCell_lane (n : Nat) (f : CellSt → CellSt) (l' : Lane) : (s.updCell n f).lane l' = s.lane l' := rfl
@[simp] theorem State.updCell_bank (n : Nat) (f : CellSt → CellSt) (m : Nat) : (s.updCell n f).bank m = s.bank m := rfl
@[simp] theorem State.updCell_net (n : Nat) (f : CellSt → CellSt) (m : Net) : (s.updCell n f).net m = s.net m := rfl
@[simp] theorem State.updCell_conn_opt (n : Nat) (f : CellSt → CellSt) (m : Nat) : (s.updCell n f).conn? m = s.conn? m := rfl
@[simp] theorem State.updCell_connCfg_opt (n : Nat) (f : CellSt → CellSt) (m : Nat) : (s.updCell n f).connCfg? m = s.connCfg? m := rfl
@[simp] theorem State.updCell_cellCfg (n : Nat) (f : CellSt → CellSt) (m : Nat) : (s.updCell n f).cellCfg m = s.cellCfg m := rfl
@[simp] theorem State.updCell_box (n : Nat) (f : CellSt → CellSt) (m : Nat) : (s.updCell n f).box m = s.box m := rfl
@[simp] theorem State.updCell_tunnel (n : Nat) (f : CellSt → CellSt) (m : Nat) : (s.updCell n f).tunnel m = s.tunnel m := rfl
@[simp] theorem State.updCell_elem_opt (n : Nat) (f : CellSt → CellSt) (m : Nat) : (s.updCell n f).elem? m = s.elem? m := rfl
@[simp] theorem State.updCell_cellRec (n : Nat) (f : CellSt → CellSt) (m : Nat) : (s.updCell n f).cellRec m = s.cellRec m := rfl
@[simp] theorem State.updCell_recv_opt (n : Nat) (f : CellSt → CellSt) (m : Nat) : (s.updCell n f).recv? m = s.recv? m := rfl

@[simp] theorem State.updBank_lane (n : Nat) (f : BankSt → BankSt) (l' : Lane) : (s.updBank n f).lane l' = s.lane l' := rfl
@[simp] theorem State.updBank_cell (n : Nat) (f : BankSt → BankSt) (m : Nat) : (s.updBank n f).cell m = s.cell m := rfl
@[simp] theorem State.updBank_net (n : Nat) (f : BankSt → BankSt) (m : Net) : (s.updBank n f).net m = s.net m := rfl
@[simp] theorem State.updBank_conn_opt (n : Nat) (f : BankSt → BankSt) (m : Nat) : (s.updBank n f).conn? m = s.conn? m := rfl
@[simp] theorem State.updBank_connCfg_opt (n : Nat) (f : BankSt → BankSt) (m : Nat) : (s.updBank n f).connCfg? m = s.connCfg? m := rfl
@[simp] theorem State.updBank_cellCfg (n : Nat) (f : BankSt → BankSt) (m : Nat) : (s.updBank n f).cellCfg m = s.cellCfg m := rfl
@[simp] theorem State.updBank_box (n : Nat) (f : BankSt → BankSt) (m : Nat) : (s.updBank n f).box m = s.box m := rfl
@[simp] theorem State.updBank_tunnel (n : Nat) (f : BankSt → BankSt) (m : Nat) : (s.updBank n f).tunnel m = s.tunnel m := rfl
@[simp] theorem State.updBank_elem_opt (n : Nat) (f : BankSt → BankSt) (m : Nat) : (s.updBank n f).elem? m = s.elem? m := rfl
@[simp] theorem State.updBank_cellRec (n : Nat) (f : BankSt → BankSt) (m : Nat) : (s.updBank n f).cellRec m = s.cellRec m := rfl
@[simp] theorem State.updBank_recv_opt (n : Nat) (f : BankSt → BankSt) (m : Nat) : (s.updBank n f).recv? m = s.recv? m := rfl

@[simp] theorem State.updNet_lane (n : Net) (f : NetSt → NetSt) (l' : Lane) : (s.updNet n f).lane l' = s.lane l' := rfl
@[simp] theorem State.updNet_cell (n : Net) (f : NetSt → NetSt) (m : Nat) : (s.updNet n f).cell m = s.cell m := rfl
@[simp] theorem State.updNet_bank (n : Net) (f : NetSt → NetSt) (m : Nat) : (s.updNet n f).bank m = s.bank m := rfl
@[simp] theorem State.updNet_conn_opt (n : Net) (f : NetSt → NetSt) (m : Nat) : (s.updNet n f).conn? m = s.conn? m := rfl
@[simp] theorem State.updNet_connCfg_opt (n : Net) (f : NetSt → NetSt) (m : Nat) : (s.updNet n f).connCfg? m = s.connCfg? m := rfl
@[simp] theorem State.updNet_cellCfg (n : Net) (f : NetSt → NetSt) (m : Nat) : (s.updNet n f).cellCfg m = s.cellCfg m := rfl
@[simp] theorem State.updNet_box (n : Net) (f : NetSt → NetSt) (m : Nat) : (s.updNet n f).box m = s.box m := rfl
@[simp] theorem State.updNet_tunnel (n : Net) (f : NetSt → NetSt) (m : Nat) : (s.updNet n f).tunnel m = s.tunnel m := rfl
@[simp] theorem State.updNet_elem_opt (n : Net) (f : NetSt → NetSt) (m : Nat) : (s.updNet n f).elem? m = s.elem? m := rfl
@[simp] theorem State.updNet_cellRec (n : Net) (f : NetSt → NetSt) (m : Nat) : (s.updNet n f).cellRec m = s.cellRec m := rfl
@[simp] theorem State.updNet_recv_opt (n : Net) (f : NetSt → NetSt) (m : Nat) : (s.updNet n f).recv? m = s.recv? m := rfl

@[simp] theorem State.updConn_lane (n : Nat) (f : ConnSt → ConnSt) (l' : Lane) : (s.updConn n f).lane l' = s.lane l' := rfl
@[simp] theorem State.updConn_cell (n : Nat) (f : ConnSt → ConnSt) (m : Nat) : (s.updConn n f).cell m = s.cell m := rfl
@[simp] theorem State.updConn_bank (n : Nat) (f : ConnSt → ConnSt) (m : Nat) : (s.updConn n f).bank m = s.bank m := rfl
@[simp] theorem State.updConn_net (n : Nat) (f : ConnSt → ConnSt) (m : Net) : (s.updConn n f).net m = s.net m := rfl
@[simp] theorem State.updConn_connCfg_opt (n : Nat) (f : ConnSt → ConnSt) (m : Nat) : (s.updConn n f).connCfg? m = s.connCfg? m := rfl
@[simp] theorem State.updConn_cellCfg (n : Nat) (f : ConnSt → ConnSt) (m : Nat) : (s.updConn n f).cellCfg m = s.cellCfg m := rfl
@[simp] theorem State.updConn_box (n : Nat) (f : ConnSt → ConnSt) (m : Nat) : (s.updConn n f).box m = s.box m := rfl
@[simp] theorem State.updConn_tunnel (n : Nat) (f : ConnSt → ConnSt) (m : Nat) : (s.updConn n f).tunnel m = s.tunnel m := rfl
@[simp] theorem State.updConn_elem_opt (n : Nat) (f : ConnSt → ConnSt) (m : Nat) : (s.updConn n f).elem? m = s.elem? m := rfl
@[simp] theorem State.updConn_cellRec (n : Nat) (f : ConnSt → ConnSt) (m : Nat) : (s.updConn n f).cellRec m = s.cellRec m := rfl
@[simp] theorem State.updConn_recv_opt (n : Nat) (f : ConnSt → ConnSt) (m : Nat) : (s.updConn n f).recv? m = s.recv? m := rfl

@[simp] theorem State.updRecv_lane (n : Nat) (f : RecvRec → RecvRec) (l' : Lane) : (s.updRecv n f).lane l' = s.lane l' := rfl
@[simp] theorem State.updRecv_cell (n : Nat) (f : RecvRec → RecvRec) (m : Nat) : (s.updRecv n f).cell m = s.cell m := rfl
@[simp] theorem State.updRecv_bank (n : Nat) (f : RecvRec → RecvRec) (m : Nat) : (s.updRecv n f).bank m = s.bank m := rfl
@[simp] theorem State.updRecv_net (n : Nat) (f : RecvRec → RecvRec) (m : Net) : (s.updRecv n f).net m = s.net m := rfl
@[simp] theorem State.updRecv_conn_opt (n : Nat) (f : RecvRec → RecvRec) (m : Nat) : (s.updRecv n f).conn? m = s.conn? m := rfl
@[simp] theorem State.updRecv_connCfg_opt (n : Nat) (f : RecvRec → RecvRec) (m : Nat) : (s.updRecv n f).connCfg? m = s.connCfg? m := rfl
@[simp] theorem State.updRecv_cellCfg (n : Nat) (f : RecvRec → RecvRec) (m : Nat) : (s.updRecv n f).cellCfg m = s.cellCfg m := rfl
@[simp] theorem State.updRecv_box (n : Nat) (f : RecvRec → RecvRec) (m : Nat) : (s.updRecv n f).box m = s.box m := rfl
@[simp] theorem State.updRecv_tunnel (n : Nat) (f : RecvRec → RecvRec) (m : Nat) : (s.updRecv n f).tunnel m = s.tunnel m := rfl
@[simp] theorem State.updRecv_elem_opt (n : Nat) (f : RecvRec → RecvRec) (m : Nat) : (s.updRecv n f).elem? m = s.elem? m := rfl
@[simp] theorem State.updRecv_cellRec (n : Nat) (f : RecvRec → RecvRec) (m : Nat) : (s.updRecv n f).cellRec m = s.cellRec m := rfl

@[simp] theorem State.updElem_lane (n : Nat) (f : Elem → Elem) (l' : Lane) : (s.updElem n f).lane l' = s.lane l' := rfl
@[simp] theorem State.updElem_cell (n : Nat) (f : Elem → Elem) (m : Nat) : (s.updElem n f).cell m = s.cell m := rfl
@[simp] theorem State.updElem_bank (n : Nat) (f : Elem → Elem) (m : Nat) : (s.updElem n f).bank m = s.bank m := rfl
@[simp] theorem State.updElem_net (n : Nat) (f : Elem → Elem) (m : Net) : (s.updElem n f).net m = s.net m := rfl
@[simp] theorem State.updElem_conn_opt (n : Nat) (f : Elem → Elem) (m : Nat) : (s.updElem n f).conn? m = s.conn? m := rfl
@[simp] theorem State.updElem_connCfg_opt (n : Nat) (f : Elem → Elem) (m : Nat) : (s.updElem n f).connCfg? m = s.connCfg? m := rfl
@[simp] theorem State.updElem_cellCfg (n : Nat) (f : Elem → Elem) (m : Nat) : (s.updElem n f).cellCfg m = s.cellCfg m := rfl
@[simp] theorem State.updElem_box (n : Nat) (f : Elem → Elem) (m : Nat) : (s.updElem n f).box m = s.box m := rfl
@[simp] theorem State.updElem_tunnel (n : Nat) (f : Elem → Elem) (m : Nat) : (s.updElem n f).tunnel m = s.tunnel m := rfl
@[simp] theorem State.updElem_cellRec (n : Nat) (f : Elem → Elem) (m : Nat) : (s.updElem n f).cellRec m = s.cellRec m := rfl
@[simp] theorem State.updElem_recv_opt (n : Nat) (f : Elem → Elem) (m : Nat) : (s.updElem n f).recv? m = s.recv? m := rfl

@[simp] theorem State.updRoute_lane (n : Nat) (f : RouteCell → RouteCell) (l' : Lane) : (s.updRoute n f).lane l' = s.lane l' := rfl
@[simp] theorem State.updRoute_cell (n : Nat) (f : RouteCell → RouteCell) (m : Nat) : (s.updRoute n f).cell m = s.cell m := rfl
@[simp] theorem State.updRoute_bank (n : Nat) (f : RouteCell → RouteCell) (m : Nat) : (s.updRoute n f).bank m = s.bank m := rfl
@[simp] theorem State.updRoute_net (n : Nat) (f : RouteCell → RouteCell) (m : Net) : (s.updRoute n f).net m = s.net m := rfl
@[simp] theorem State.updRoute_conn_opt (n : Nat) (f : RouteCell → RouteCell) (m : Nat) : (s.updRoute n f).conn? m = s.conn? m := rfl
@[simp] theorem State.updRoute_connCfg_opt (n : Nat) (f : RouteCell → RouteCell) (m : Nat) : (s.updRoute n f).connCfg? m = s.connCfg? m := rfl
@[simp] theorem State.updRoute_cellCfg (n : Nat) (f : RouteCell → RouteCell) (m : Nat) : (s.updRoute n f).cellCfg m = s.cellCfg m := rfl
@[simp] theorem State.updRoute_box (n : Nat) (f : RouteCell → RouteCell) (m : Nat) : (s.updRoute n f).box m = s.box m := rfl
@[simp] theorem State.updRoute_tunnel (n : Nat) (f : RouteCell → RouteCell) (m : Nat) : (s.updRoute n f).tunnel m = s.tunnel m := rfl
@[simp] theorem State.updRoute_elem_opt (n : Nat) (f : RouteCell → RouteCell) (m : Nat) : (s.updRoute n f).elem? m = s.elem? m := rfl
@[simp] theorem State.updRoute_recv_opt (n : Nat) (f : RouteCell → RouteCell) (m : Nat) : (s.updRoute n f).recv? m = s.recv? m := rfl

@[simp] theorem State.updBox_lane (n : Nat) (f : Mbox → Mbox) (l' : Lane) : (s.updBox n f).lane l' = s.lane l' := rfl
@[simp] theorem State.updBox_cell (n : Nat) (f : Mbox → Mbox) (m : Nat) : (s.updBox n f).cell m = s.cell m := rfl
@[simp] theorem State.updBox_bank (n : Nat) (f : Mbox → Mbox) (m : Nat) : (s.updBox n f).bank m = s.bank m := rfl
@[simp] theorem State.updBox_net (n : Nat) (f : Mbox → Mbox) (m : Net) : (s.updBox n f).net m = s.net m := rfl
@[simp] theorem State.updBox_conn_opt (n : Nat) (f : Mbox → Mbox) (m : Nat) : (s.updBox n f).conn? m = s.conn? m := rfl
@[simp] theorem State.updBox_connCfg_opt (n : Nat) (f : Mbox → Mbox) (m : Nat) : (s.updBox n f).connCfg? m = s.connCfg? m := rfl
@[simp] theorem State.updBox_cellCfg (n : Nat) (f : Mbox → Mbox) (m : Nat) : (s.updBox n f).cellCfg m = s.cellCfg m := rfl
@[simp] theorem State.updBox_tunnel (n : Nat) (f : Mbox → Mbox) (m : Nat) : (s.updBox n f).tunnel m = s.tunnel m := rfl
@[simp] theorem State.updBox_elem_opt (n : Nat) (f : Mbox → Mbox) (m : Nat) : (s.updBox n f).elem? m = s.elem? m := rfl
@[simp] theorem State.updBox_cellRec (n : Nat) (f : Mbox → Mbox) (m : Nat) : (s.updBox n f).cellRec m = s.cellRec m := rfl
@[simp] theorem State.updBox_recv_opt (n : Nat) (f : Mbox → Mbox) (m : Nat) : (s.updBox n f).recv? m = s.recv? m := rfl

@[simp] theorem State.updTunnel_lane (n : Nat) (f : Tunnel → Tunnel) (l' : Lane) : (s.updTunnel n f).lane l' = s.lane l' := rfl
@[simp] theorem State.updTunnel_cell (n : Nat) (f : Tunnel → Tunnel) (m : Nat) : (s.updTunnel n f).cell m = s.cell m := rfl
@[simp] theorem State.updTunnel_bank (n : Nat) (f : Tunnel → Tunnel) (m : Nat) : (s.updTunnel n f).bank m = s.bank m := rfl
@[simp] theorem State.updTunnel_net (n : Nat) (f : Tunnel → Tunnel) (m : Net) : (s.updTunnel n f).net m = s.net m := rfl
@[simp] theorem State.updTunnel_conn_opt (n : Nat) (f : Tunnel → Tunnel) (m : Nat) : (s.updTunnel n f).conn? m = s.conn? m := rfl
@[simp] theorem State.updTunnel_connCfg_opt (n : Nat) (f : Tunnel → Tunnel) (m : Nat) : (s.updTunnel n f).connCfg? m = s.connCfg? m := rfl
@[simp] theorem State.updTunnel_cellCfg (n : Nat) (f : Tunnel → Tunnel) (m : Nat) : (s.updTunnel n f).cellCfg m = s.cellCfg m := rfl
@[simp] theorem State.updTunnel_box (n : Nat) (f : Tunnel → Tunnel) (m : Nat) : (s.updTunnel n f).box m = s.box m := rfl
@[simp] theorem State.updTunnel_elem_opt (n : Nat) (f : Tunnel → Tunnel) (m : Nat) : (s.updTunnel n f).elem? m = s.elem? m := rfl
@[simp] theorem State.updTunnel_cellRec (n : Nat) (f : Tunnel → Tunnel) (m : Nat) : (s.updTunnel n f).cellRec m = s.cellRec m := rfl
@[simp] theorem State.updTunnel_recv_opt (n : Nat) (f : Tunnel → Tunnel) (m : Nat) : (s.updTunnel n f).recv? m = s.recv? m := rfl

@[simp] theorem State.updPow_lane (f : PowerSt → PowerSt) (l' : Lane) : (s.updPow f).lane l' = s.lane l' := rfl
@[simp] theorem State.updPow_cell (f : PowerSt → PowerSt) (m : Nat) : (s.updPow f).cell m = s.cell m := rfl
@[simp] theorem State.updPow_bank (f : PowerSt → PowerSt) (m : Nat) : (s.updPow f).bank m = s.bank m := rfl
@[simp] theorem State.updPow_net (f : PowerSt → PowerSt) (m : Net) : (s.updPow f).net m = s.net m := rfl
@[simp] theorem State.updPow_conn_opt (f : PowerSt → PowerSt) (m : Nat) : (s.updPow f).conn? m = s.conn? m := rfl
@[simp] theorem State.updPow_connCfg_opt (f : PowerSt → PowerSt) (m : Nat) : (s.updPow f).connCfg? m = s.connCfg? m := rfl
@[simp] theorem State.updPow_cellCfg (f : PowerSt → PowerSt) (m : Nat) : (s.updPow f).cellCfg m = s.cellCfg m := rfl
@[simp] theorem State.updPow_box (f : PowerSt → PowerSt) (m : Nat) : (s.updPow f).box m = s.box m := rfl
@[simp] theorem State.updPow_tunnel (f : PowerSt → PowerSt) (m : Nat) : (s.updPow f).tunnel m = s.tunnel m := rfl
@[simp] theorem State.updPow_elem_opt (f : PowerSt → PowerSt) (m : Nat) : (s.updPow f).elem? m = s.elem? m := rfl
@[simp] theorem State.updPow_cellRec (f : PowerSt → PowerSt) (m : Nat) : (s.updPow f).cellRec m = s.cellRec m := rfl
@[simp] theorem State.updPow_recv_opt (f : PowerSt → PowerSt) (m : Nat) : (s.updPow f).recv? m = s.recv? m := rfl

@[simp] theorem State.updStage_lane (f : StageSt → StageSt) (l' : Lane) : (s.updStage f).lane l' = s.lane l' := rfl
@[simp] theorem State.updStage_cell (f : StageSt → StageSt) (m : Nat) : (s.updStage f).cell m = s.cell m := rfl
@[simp] theorem State.updStage_bank (f : StageSt → StageSt) (m : Nat) : (s.updStage f).bank m = s.bank m := rfl
@[simp] theorem State.updStage_net (f : StageSt → StageSt) (m : Net) : (s.updStage f).net m = s.net m := rfl
@[simp] theorem State.updStage_conn_opt (f : StageSt → StageSt) (m : Nat) : (s.updStage f).conn? m = s.conn? m := rfl
@[simp] theorem State.updStage_connCfg_opt (f : StageSt → StageSt) (m : Nat) : (s.updStage f).connCfg? m = s.connCfg? m := rfl
@[simp] theorem State.updStage_cellCfg (f : StageSt → StageSt) (m : Nat) : (s.updStage f).cellCfg m = s.cellCfg m := rfl
@[simp] theorem State.updStage_box (f : StageSt → StageSt) (m : Nat) : (s.updStage f).box m = s.box m := rfl
@[simp] theorem State.updStage_tunnel (f : StageSt → StageSt) (m : Nat) : (s.updStage f).tunnel m = s.tunnel m := rfl
@[simp] theorem State.updStage_elem_opt (f : StageSt → StageSt) (m : Nat) : (s.updStage f).elem? m = s.elem? m := rfl
@[simp] theorem State.updStage_cellRec (f : StageSt → StageSt) (m : Nat) : (s.updStage f).cellRec m = s.cellRec m := rfl
@[simp] theorem State.updStage_recv_opt (f : StageSt → StageSt) (m : Nat) : (s.updStage f).recv? m = s.recv? m := rfl

@[simp] theorem State.updCyc_lane (f : CycleSt → CycleSt) (l' : Lane) : (s.updCyc f).lane l' = s.lane l' := rfl
@[simp] theorem State.updCyc_cell (f : CycleSt → CycleSt) (m : Nat) : (s.updCyc f).cell m = s.cell m := rfl
@[simp] theorem State.updCyc_bank (f : CycleSt → CycleSt) (m : Nat) : (s.updCyc f).bank m = s.bank m := rfl
@[simp] theorem State.updCyc_net (f : CycleSt → CycleSt) (m : Net) : (s.updCyc f).net m = s.net m := rfl
@[simp] theorem State.updCyc_conn_opt (f : CycleSt → CycleSt) (m : Nat) : (s.updCyc f).conn? m = s.conn? m := rfl
@[simp] theorem State.updCyc_connCfg_opt (f : CycleSt → CycleSt) (m : Nat) : (s.updCyc f).connCfg? m = s.connCfg? m := rfl
@[simp] theorem State.updCyc_cellCfg (f : CycleSt → CycleSt) (m : Nat) : (s.updCyc f).cellCfg m = s.cellCfg m := rfl
@[simp] theorem State.updCyc_box (f : CycleSt → CycleSt) (m : Nat) : (s.updCyc f).box m = s.box m := rfl
@[simp] theorem State.updCyc_tunnel (f : CycleSt → CycleSt) (m : Nat) : (s.updCyc f).tunnel m = s.tunnel m := rfl
@[simp] theorem State.updCyc_elem_opt (f : CycleSt → CycleSt) (m : Nat) : (s.updCyc f).elem? m = s.elem? m := rfl
@[simp] theorem State.updCyc_cellRec (f : CycleSt → CycleSt) (m : Nat) : (s.updCyc f).cellRec m = s.cellRec m := rfl
@[simp] theorem State.updCyc_recv_opt (f : CycleSt → CycleSt) (m : Nat) : (s.updCyc f).recv? m = s.recv? m := rfl

@[simp] theorem State.updTime_lane (f : TimeSt → TimeSt) (l' : Lane) : (s.updTime f).lane l' = s.lane l' := rfl
@[simp] theorem State.updTime_cell (f : TimeSt → TimeSt) (m : Nat) : (s.updTime f).cell m = s.cell m := rfl
@[simp] theorem State.updTime_bank (f : TimeSt → TimeSt) (m : Nat) : (s.updTime f).bank m = s.bank m := rfl
@[simp] theorem State.updTime_net (f : TimeSt → TimeSt) (m : Net) : (s.updTime f).net m = s.net m := rfl
@[simp] theorem State.updTime_conn_opt (f : TimeSt → TimeSt) (m : Nat) : (s.updTime f).conn? m = s.conn? m := rfl
@[simp] theorem State.updTime_connCfg_opt (f : TimeSt → TimeSt) (m : Nat) : (s.updTime f).connCfg? m = s.connCfg? m := rfl
@[simp] theorem State.updTime_cellCfg (f : TimeSt → TimeSt) (m : Nat) : (s.updTime f).cellCfg m = s.cellCfg m := rfl
@[simp] theorem State.updTime_box (f : TimeSt → TimeSt) (m : Nat) : (s.updTime f).box m = s.box m := rfl
@[simp] theorem State.updTime_tunnel (f : TimeSt → TimeSt) (m : Nat) : (s.updTime f).tunnel m = s.tunnel m := rfl
@[simp] theorem State.updTime_elem_opt (f : TimeSt → TimeSt) (m : Nat) : (s.updTime f).elem? m = s.elem? m := rfl
@[simp] theorem State.updTime_cellRec (f : TimeSt → TimeSt) (m : Nat) : (s.updTime f).cellRec m = s.cellRec m := rfl
@[simp] theorem State.updTime_recv_opt (f : TimeSt → TimeSt) (m : Nat) : (s.updTime f).recv? m = s.recv? m := rfl

@[simp] theorem State.updMail_lane (f : MailSt → MailSt) (l' : Lane) : (s.updMail f).lane l' = s.lane l' := rfl
@[simp] theorem State.updMail_cell (f : MailSt → MailSt) (m : Nat) : (s.updMail f).cell m = s.cell m := rfl
@[simp] theorem State.updMail_bank (f : MailSt → MailSt) (m : Nat) : (s.updMail f).bank m = s.bank m := rfl
@[simp] theorem State.updMail_net (f : MailSt → MailSt) (m : Net) : (s.updMail f).net m = s.net m := rfl
@[simp] theorem State.updMail_conn_opt (f : MailSt → MailSt) (m : Nat) : (s.updMail f).conn? m = s.conn? m := rfl
@[simp] theorem State.updMail_connCfg_opt (f : MailSt → MailSt) (m : Nat) : (s.updMail f).connCfg? m = s.connCfg? m := rfl
@[simp] theorem State.updMail_cellCfg (f : MailSt → MailSt) (m : Nat) : (s.updMail f).cellCfg m = s.cellCfg m := rfl
@[simp] theorem State.updMail_tunnel (f : MailSt → MailSt) (m : Nat) : (s.updMail f).tunnel m = s.tunnel m := rfl
@[simp] theorem State.updMail_elem_opt (f : MailSt → MailSt) (m : Nat) : (s.updMail f).elem? m = s.elem? m := rfl
@[simp] theorem State.updMail_cellRec (f : MailSt → MailSt) (m : Nat) : (s.updMail f).cellRec m = s.cellRec m := rfl
@[simp] theorem State.updMail_recv_opt (f : MailSt → MailSt) (m : Nat) : (s.updMail f).recv? m = s.recv? m := rfl

@[simp] theorem State.updPair_lane (f : PairSt → PairSt) (l' : Lane) : (s.updPair f).lane l' = s.lane l' := rfl
@[simp] theorem State.updPair_cell (f : PairSt → PairSt) (m : Nat) : (s.updPair f).cell m = s.cell m := rfl
@[simp] theorem State.updPair_bank (f : PairSt → PairSt) (m : Nat) : (s.updPair f).bank m = s.bank m := rfl
@[simp] theorem State.updPair_net (f : PairSt → PairSt) (m : Net) : (s.updPair f).net m = s.net m := rfl
@[simp] theorem State.updPair_conn_opt (f : PairSt → PairSt) (m : Nat) : (s.updPair f).conn? m = s.conn? m := rfl
@[simp] theorem State.updPair_connCfg_opt (f : PairSt → PairSt) (m : Nat) : (s.updPair f).connCfg? m = s.connCfg? m := rfl
@[simp] theorem State.updPair_cellCfg (f : PairSt → PairSt) (m : Nat) : (s.updPair f).cellCfg m = s.cellCfg m := rfl
@[simp] theorem State.updPair_box (f : PairSt → PairSt) (m : Nat) : (s.updPair f).box m = s.box m := rfl
@[simp] theorem State.updPair_tunnel (f : PairSt → PairSt) (m : Nat) : (s.updPair f).tunnel m = s.tunnel m := rfl
@[simp] theorem State.updPair_elem_opt (f : PairSt → PairSt) (m : Nat) : (s.updPair f).elem? m = s.elem? m := rfl
@[simp] theorem State.updPair_cellRec (f : PairSt → PairSt) (m : Nat) : (s.updPair f).cellRec m = s.cellRec m := rfl
@[simp] theorem State.updPair_recv_opt (f : PairSt → PairSt) (m : Nat) : (s.updPair f).recv? m = s.recv? m := rfl

@[simp] theorem State.updRecs_lane (f : RecSt → RecSt) (l' : Lane) : (s.updRecs f).lane l' = s.lane l' := rfl
@[simp] theorem State.updRecs_cell (f : RecSt → RecSt) (m : Nat) : (s.updRecs f).cell m = s.cell m := rfl
@[simp] theorem State.updRecs_bank (f : RecSt → RecSt) (m : Nat) : (s.updRecs f).bank m = s.bank m := rfl
@[simp] theorem State.updRecs_net (f : RecSt → RecSt) (m : Net) : (s.updRecs f).net m = s.net m := rfl
@[simp] theorem State.updRecs_conn_opt (f : RecSt → RecSt) (m : Nat) : (s.updRecs f).conn? m = s.conn? m := rfl
@[simp] theorem State.updRecs_connCfg_opt (f : RecSt → RecSt) (m : Nat) : (s.updRecs f).connCfg? m = s.connCfg? m := rfl
@[simp] theorem State.updRecs_cellCfg (f : RecSt → RecSt) (m : Nat) : (s.updRecs f).cellCfg m = s.cellCfg m := rfl
@[simp] theorem State.updRecs_box (f : RecSt → RecSt) (m : Nat) : (s.updRecs f).box m = s.box m := rfl
@[simp] theorem State.updRecs_tunnel (f : RecSt → RecSt) (m : Nat) : (s.updRecs f).tunnel m = s.tunnel m := rfl
@[simp] theorem State.updRecs_elem_opt (f : RecSt → RecSt) (m : Nat) : (s.updRecs f).elem? m = s.elem? m := rfl
@[simp] theorem State.updRecs_cellRec (f : RecSt → RecSt) (m : Nat) : (s.updRecs f).cellRec m = s.cellRec m := rfl
@[simp] theorem State.updRecs_recv_opt (f : RecSt → RecSt) (m : Nat) : (s.updRecs f).recv? m = s.recv? m := rfl

@[simp] theorem State.updBridge_lane (f : BridgeSt → BridgeSt) (l' : Lane) : (s.updBridge f).lane l' = s.lane l' := rfl
@[simp] theorem State.updBridge_cell (f : BridgeSt → BridgeSt) (m : Nat) : (s.updBridge f).cell m = s.cell m := rfl
@[simp] theorem State.updBridge_bank (f : BridgeSt → BridgeSt) (m : Nat) : (s.updBridge f).bank m = s.bank m := rfl
@[simp] theorem State.updBridge_net (f : BridgeSt → BridgeSt) (m : Net) : (s.updBridge f).net m = s.net m := rfl
@[simp] theorem State.updBridge_conn_opt (f : BridgeSt → BridgeSt) (m : Nat) : (s.updBridge f).conn? m = s.conn? m := rfl
@[simp] theorem State.updBridge_connCfg_opt (f : BridgeSt → BridgeSt) (m : Nat) : (s.updBridge f).connCfg? m = s.connCfg? m := rfl
@[simp] theorem State.updBridge_cellCfg (f : BridgeSt → BridgeSt) (m : Nat) : (s.updBridge f).cellCfg m = s.cellCfg m := rfl
@[simp] theorem State.updBridge_box (f : BridgeSt → BridgeSt) (m : Nat) : (s.updBridge f).box m = s.box m := rfl
@[simp] theorem State.updBridge_tunnel (f : BridgeSt → BridgeSt) (m : Nat) : (s.updBridge f).tunnel m = s.tunnel m := rfl
@[simp] theorem State.updBridge_elem_opt (f : BridgeSt → BridgeSt) (m : Nat) : (s.updBridge f).elem? m = s.elem? m := rfl
@[simp] theorem State.updBridge_cellRec (f : BridgeSt → BridgeSt) (m : Nat) : (s.updBridge f).cellRec m = s.cellRec m := rfl
@[simp] theorem State.updBridge_recv_opt (f : BridgeSt → BridgeSt) (m : Nat) : (s.updBridge f).recv? m = s.recv? m := rfl

/-! ### Reads of the part updated -/

@[simp] theorem Trio.get_set {α : Type} (t : Trio α) (l m : Lane) (v : α) :
    (t.set l v).get m = if m = l then v else t.get m := by cases l <;> cases m <;> rfl

@[simp] theorem Trio.get_map {α β : Type} (f : α → β) (t : Trio α) (l : Lane) : (t.map f).get l = f (t.get l) := by
  cases l <;> rfl

@[simp] theorem Duo.at_put {α : Type} (d : Duo α) (m n : Net) (v : α) :
    (d.put n v).at m = if m = n then v else d.at m := by cases m <;> cases n <;> rfl

@[simp] theorem Duo.sel_upd {α : Type} (d : Duo α) (i j : Bool) (v : α) :
    (d.upd i v).sel j = if j = i then v else d.sel j := by cases i <;> cases j <;> rfl

@[simp] theorem modWhere_length {α : Type} (p : α → Bool) (f : α → α) (xs : List α) :
    (modWhere p f xs).length = xs.length := by simp [modWhere]

theorem modAt_at {α : Type} (f : α → α) (n m : Nat) (xs : List α) (d : α) :
    (modAt f n xs).getD m d = if m = n ∧ m < xs.length then f (xs.getD m d) else xs.getD m d := by
  induction xs generalizing n m with
  | nil => cases n <;> simp [modAt]
  | cons x xs ih =>
    cases n with
    | zero => cases m <;> simp [modAt]
    | succ n => cases m <;> simp_all [modAt]

theorem find?_modWhere {α : Type} (p : α → Bool) (f : α → α) (h : ∀ x, p x = true → p (f x) = true) (xs : List α) :
    (modWhere p f xs).find? p = (xs.find? p).map f := by
  induction xs with
  | nil => rfl
  | cons x xs ih =>
    by_cases hx : p x = true
    · simp [modWhere, hx, h x hx]
    · simp only [Bool.not_eq_true] at hx
      simpa [modWhere, hx] using ih

theorem State.lane_updLane (l m : Lane) (f : LaneSt → LaneSt) :
    (s.updLane l f).lane m = if m = l then f (s.lane l) else s.lane m := Trio.get_set _ _ _ _

@[simp] theorem State.lane_updLanes (l : Lane) (f : LaneSt → LaneSt) : (s.updLanes f).lane l = f (s.lane l) :=
  Trio.get_map _ _ _

theorem State.net_updNet (m n : Net) (f : NetSt → NetSt) :
    (s.updNet n f).net m = if m = n then f (s.net n) else s.net m := Duo.at_put _ _ _ _

theorem State.cell_updCell (n m : Nat) (f : CellSt → CellSt) :
    (s.updCell n f).cell m = if m = n ∧ m < s.cells.length then f (s.cell m) else s.cell m := modAt_at _ _ _ _ _

theorem State.bank_updBank (n m : Nat) (f : BankSt → BankSt) :
    (s.updBank n f).bank m = if m = n ∧ m < s.banks.length then f (s.bank m) else s.bank m := modAt_at _ _ _ _ _

theorem State.cellRec_updRoute (n m : Nat) (f : RouteCell → RouteCell) :
    (s.updRoute n f).cellRec m = if m = n ∧ m < s.app.cells.length then f (s.cellRec m) else s.cellRec m :=
  modAt_at _ _ _ _ _

theorem State.tunnel_updTunnel (n m : Nat) (f : Tunnel → Tunnel) :
    (s.updTunnel n f).tunnel m = if m = n ∧ m < s.tunnels.length then f (s.tunnel m) else s.tunnel m :=
  modAt_at _ _ _ _ _

theorem State.port_updPort (n m : Nat) (f : LegacyPort → LegacyPort) :
    (s.updPort n f).port m = if m = n ∧ m < s.ports.length then f (s.port m) else s.port m := modAt_at _ _ _ _ _

theorem State.elem_updElem (n : Nat) (f : Elem → Elem) (h : ∀ e, e.num = n → (f e).num = n) :
    (s.updElem n f).elem? n = (s.elem? n).map f :=
  find?_modWhere (fun e : Elem => e.num == n) f (by simpa using h) s.app.elems

theorem State.conn_updConn (n : Nat) (f : ConnSt → ConnSt) (h : ∀ c, c.num = n → (f c).num = n) :
    (s.updConn n f).conn? n = (s.conn? n).map f :=
  find?_modWhere (fun c : ConnSt => c.num == n) f (by simpa using h) s.conns

theorem State.recv_updRecv (n : Nat) (f : RecvRec → RecvRec) (h : ∀ c, c.conn = n → (f c).conn = n) :
    (s.updRecv n f).recv? n = (s.recv? n).map f :=
  find?_modWhere (fun c : RecvRec => c.conn == n) f (by simpa using h) s.app.recvs

end Sys2Proof.Machine
end

