-- ==== Sys2Proof/Laws/Stop.lean ====
section
/-! SUPPORT. SAFE and TERMINAL: every function of the state, and every command but a boot, stays in them. -/

set_option linter.unusedSimpArgs false
set_option linter.unusedVariables false

namespace Sys2Proof.Machine
@[simp] theorem State.stop_mk (pending id lanes cyc app trl image set cells banks frame conns nets pair flt mail stage bridge tunnels ports recs time be upd pow netTx legacyTx plTx splits free) :
    State.stop (State.mk pending id lanes cyc app trl image set cells banks frame conns nets pair flt mail stage bridge tunnels ports recs time be upd pow netTx legacyTx plTx splits free) ↔
    (pow.mod = .safe ∨ pow.mod = .terminal) := Iff.rfl
@[simp] theorem State.stop_eta (s : State) : (s.pow.mod = .safe ∨ s.pow.mod = .terminal) ↔ s.stop := Iff.rfl
@[simp] theorem State.stop_ite (c : Prop) [Decidable c] (s t : State) (hs : s.stop) (ht : t.stop) :
    State.stop (if c then s else t) := by split <;> assumption
theorem State.each_stop {α : Type} (s : State) (xs : List α) (f : State → α → State) (h : s.stop)
    (hf : ∀ s x, s.stop → State.stop (f s x)) : State.stop (s.each xs f) := by
  unfold State.each
  induction xs generalizing s with
  | nil => exact h
  | cons x xs ih => exact ih _ (hf _ _ h)
theorem State.when_stop (s : State) (p : Bool) (f : State → State) (h : s.stop)
    (hf : ∀ s, s.stop → State.stop (f s)) : State.stop (s.when p f) := by
  unfold State.when; split
  · exact hf _ h
  · exact h
theorem State.fed_stop (s : State) (f : State → State) (h : s.stop)
    (hf : ∀ s, s.stop → State.stop (f s)) : State.stop (s.fed f) := by
  unfold State.fed; split
  · exact hf _ h
  · exact h
theorem State.stop_congr (s t : State) (hc : t.pow = s.pow) (h : s.stop) : t.stop := by
  unfold State.stop at h ⊢; rw [hc]; exact h
@[simp] theorem State.cycling_stop (s : State) (h : s.stop) : s.cycling = false := by
  unfold State.stop at h; unfold State.cycling; rcases h with h | h <;> simp [h]
@[simp] theorem State.pairOn_stop (s : State) (h : s.stop) : s.pairOn = false := by
  unfold State.stop at h; unfold State.pairOn; rcases h with h | h <;> simp [h]
@[simp] theorem State.stopped_stop (s : State) (h : s.stop) : s.stopped = true := by
  unfold State.stop at h; unfold State.stopped; rcases h with h | h <;> simp [h]
@[simp] theorem State.booting_stop (s : State) (h : s.stop) : s.booting = false := by
  unfold State.stop at h; unfold State.booting; rcases h with h | h <;> simp [h]
theorem State.mod_stop (s : State) (h : s.stop) (m : ModState) (hm : m ≠ .terminal) (hs : m ≠ .safe) : (s.pow.mod == m) = false := by
  unfold State.stop at h; rcases h with h | h <;> rw [h] <;> cases m <;> simp_all
@[simp] theorem State.boot_stop (s : State) (h : s.stop) : (s.pow.mod == .boot) = false := s.mod_stop h _ (by decide) (by decide)
@[simp] theorem State.sync_stop (s : State) (h : s.stop) : (s.pow.mod == .sync) = false := s.mod_stop h _ (by decide) (by decide)
@[simp] theorem State.rejoin_stop (s : State) (h : s.stop) : (s.pow.mod == .rejoin) = false := s.mod_stop h _ (by decide) (by decide)
@[simp] theorem State.service_stop (s : State) (h : s.stop) : (s.pow.mod == .service) = false := s.mod_stop h _ (by decide) (by decide)
@[simp] theorem State.updLane_stop (s : State) (l : Lane) (f : LaneSt → LaneSt) (hO : State.stop s) :
    State.stop (State.updLane s l f) := by
  exact hO
@[simp] theorem State.updLanes_stop (s : State) (f : LaneSt → LaneSt) (hO : State.stop s) :
    State.stop (State.updLanes s f) := by
  exact hO
@[simp] theorem State.updCell_stop (s : State) (c : Nat) (f : CellSt → CellSt) (hO : State.stop s) :
    State.stop (State.updCell s c f) := by
  exact hO
@[simp] theorem State.updBank_stop (s : State) (b : Nat) (f : BankSt → BankSt) (hO : State.stop s) :
    State.stop (State.updBank s b f) := by
  exact hO
@[simp] theorem State.updNet_stop (s : State) (n : Net) (f : NetSt → NetSt) (hO : State.stop s) :
    State.stop (State.updNet s n f) := by
  exact hO
@[simp] theorem State.updConn_stop (s : State) (n : Nat) (f : ConnSt → ConnSt) (hO : State.stop s) :
    State.stop (State.updConn s n f) := by
  exact hO
@[simp] theorem State.updRecv_stop (s : State) (n : Nat) (f : RecvRec → RecvRec) (hO : State.stop s) :
    State.stop (State.updRecv s n f) := by
  exact hO
@[simp] theorem State.updElem_stop (s : State) (n : Nat) (f : Elem → Elem) (hO : State.stop s) :
    State.stop (State.updElem s n f) := by
  exact hO
@[simp] theorem State.updRoute_stop (s : State) (r : Nat) (f : RouteCell → RouteCell) (hO : State.stop s) :
    State.stop (State.updRoute s r f) := by
  exact hO
@[simp] theorem State.updBox_stop (s : State) (mb : Nat) (f : Mbox → Mbox) (hO : State.stop s) :
    State.stop (State.updBox s mb f) := by
  exact hO
@[simp] theorem State.updTunnel_stop (s : State) (t : Nat) (f : Tunnel → Tunnel) (hO : State.stop s) :
    State.stop (State.updTunnel s t f) := by
  exact hO
@[simp] theorem State.updPort_stop (s : State) (p : Nat) (f : LegacyPort → LegacyPort) (hO : State.stop s) :
    State.stop (State.updPort s p f) := by
  exact hO
@[simp] theorem State.putEff_stop (s : State) (c : Nat) (e : Bool) (hO : State.stop s) :
    State.stop (State.putEff s c e) := by
  simp (maxDischargeDepth := 60) [State.putEff, hO]
@[simp] theorem State.dropEffs_stop (s : State) (cs : List Nat) (h : s.stop) : State.stop (s.dropEffs cs) := by
  unfold State.dropEffs
  induction cs generalizing s with
  | nil => exact h
  | cons c cs ih => exact ih _ (State.putEff_stop _ _ _ h)
@[simp] theorem State.passToken_stop (s : State) (hO : State.stop s) :
    State.stop (State.passToken s) := by
  exact hO
@[simp] theorem State.settleToken_stop (s : State) (hO : State.stop s) :
    State.stop (State.settleToken s) := by
  simp (maxDischargeDepth := 60) [State.settleToken, hO]
@[simp] theorem State.spendToken_stop (s : State) (t : Token) (hO : State.stop s) :
    State.stop (State.spendToken s t) := by
  simp (maxDischargeDepth := 60) [State.spendToken, hO]
@[simp] theorem State.addHedge_stop (s : State) (h : Hedge) (hO : State.stop s) :
    State.stop (State.addHedge s h) := by
  simp (maxDischargeDepth := 60) [State.addHedge, hO]
@[simp] theorem State.dropHedges_stop (s : State) (p : Hedge → Bool) (hO : State.stop s) :
    State.stop (State.dropHedges s p) := by
  exact hO
@[simp] theorem State.updHedges_stop (s : State) (p : Hedge → Bool) (f : Hedge → Hedge) (hO : State.stop s) :
    State.stop (State.updHedges s p f) := by
  exact hO
@[simp] theorem State.plSend_stop (s : State) (m : PlMsg) (hO : State.stop s) :
    State.stop (State.plSend s m) := by
  simp (maxDischargeDepth := 60) [State.plSend, hO]
@[simp] theorem State.fresh_stop (s : State) (hO : State.stop s) :
    State.stop (State.fresh s).2 := by
  exact hO
@[simp] theorem freshBytes_stop (n : Nat) (s : State) (hO : s.stop) : State.stop (State.freshBytes n s).2 := by
  induction n generalizing s with
  | zero => exact hO
  | succ n ih => simp [State.freshBytes, ih, hO]
@[simp] theorem State.freshNat_stop (s : State) (n : Nat) (hO : State.stop s) :
    State.stop (State.freshNat s n).2 := by
  exact hO
@[simp] theorem State.freshCode_stop (s : State) (hO : State.stop s) :
    State.stop (State.freshCode s).2 := by
  exact hO
@[simp] theorem State.takeSeq_stop (s : State) (hO : State.stop s) :
    State.stop (State.takeSeq s).2 := by
  exact hO
@[simp] theorem State.updRecs_stop (s : State) (f : RecSt → RecSt) (hO : State.stop s) :
    State.stop (State.updRecs s f) := by
  exact hO
@[simp] theorem State.takeSeqs_stop (s : State) (n : Nat) (hO : State.stop s) :
    State.stop (State.takeSeqs s n).2 := by
  simp (maxDischargeDepth := 60) [State.takeSeqs, hO]
@[simp] theorem State.toRc_stop (s : State) (prio : Nat) (x : Rec) (hO : State.stop s) :
    State.stop (State.toRc s prio x) := by
  simp (maxDischargeDepth := 60) [State.toRc, hO]
@[simp] theorem State.logFault_stop (s : State) (x : FaultRec) (hO : State.stop s) :
    State.stop (State.logFault s x) := by
  exact hO
@[simp] theorem State.logCount_stop (s : State) (c : Coal) (seq : Nat) (hO : State.stop s) :
    State.stop (State.logCount s c seq) := by
  simp (maxDischargeDepth := 60) [State.logCount, hO]
@[simp] theorem State.alarmSeq_stop (s : State) (kind : Nat) (source : Nat) (seq : Nat) (hO : State.stop s) :
    State.stop (State.alarmSeq s kind source seq) := by
  simp (maxDischargeDepth := 60) [State.alarmSeq, hO]
@[simp] theorem State.closeCoal_stop (s : State) (c : Coal) (hO : State.stop s) :
    State.stop (State.closeCoal s c) := by
  simp (maxDischargeDepth := 60) [State.closeCoal, hO]
@[simp] theorem State.openCoal_stop (s : State) (kind : Nat) (source : Nat) (prio : Nat) (ot : Nat) (x : Rec) (body : Bytes) (hO : State.stop s) :
    State.stop (State.openCoal s kind source prio ot x body) := by
  simp (maxDischargeDepth := 60) [State.openCoal, hO]
@[simp] theorem State.recordAt_stop (s : State) (kind : Nat) (source : Nat) (seq : Nat) (ot : Nat) (flags : Nat) (cls : Nat) (body : Bytes) (hO : State.stop s) :
    State.stop (State.recordAt s kind source seq ot flags cls body) := by
  unfold State.recordAt; split <;> simp (maxDischargeDepth := 60) [hO]
@[simp] theorem State.record_stop (s : State) (kind : Nat) (source : Nat) (body : Bytes) (hO : State.stop s) :
    State.stop (State.record s kind source body).2 := by
  simp (maxDischargeDepth := 60) [State.record, hO]
@[simp] theorem State.refill_stop (s : State) (hO : State.stop s) :
    State.stop (State.refill s) := by
  simp (maxDischargeDepth := 60) [State.refill, hO]
@[simp] theorem State.archiveEnd_stop (s : State) (hO : State.stop s) :
    State.stop (State.archiveEnd s) := by
  simp (maxDischargeDepth := 60) [State.archiveEnd, hO]
@[simp] theorem State.drain_stop (s : State) (n : Nat) (hO : State.stop s) :
    State.stop (State.drain s n) := by
  simp (maxDischargeDepth := 60) [State.drain, hO]
@[simp] theorem State.archiveTrigger_stop (s : State) (cause : Nat) (hO : State.stop s) :
    State.stop (State.archiveTrigger s cause) := by
  simp (maxDischargeDepth := 60) [State.archiveTrigger, hO]
@[simp] theorem State.changeAt_stop (s : State) (seq : Nat) (kind : Nat) (cred : Nat) (session : Nat) (ep : Nat) (cmd : Nat) (cbody : Bytes) (hO : State.stop s) :
    State.stop (State.changeAt s seq kind cred session ep cmd cbody) := by
  simp (maxDischargeDepth := 60) [State.changeAt, hO]
@[simp] theorem State.change_stop (s : State) (kind : Nat) (cred : Nat) (session : Nat) (ep : Nat) (cmd : Nat) (cbody : Bytes) (hO : State.stop s) :
    State.stop (State.change s kind cred session ep cmd cbody) := by
  simp (maxDischargeDepth := 60) [State.change, hO]
@[simp] theorem State.ownChange_stop (s : State) (kind : Nat) (cbody : Bytes) (hO : State.stop s) :
    State.stop (State.ownChange s kind cbody) := by
  simp (maxDischargeDepth := 60) [State.ownChange, hO]
@[simp] theorem State.bootRecord_stop (s : State) (cause : Nat) (jump : Nat) (hO : State.stop s) :
    State.stop (State.bootRecord s cause jump) := by
  simp (maxDischargeDepth := 60) [State.bootRecord, hO]
@[simp] theorem State.lastResort_stop (s : State) (region : Nat) (f : Fsid) (seq : Nat) (hO : State.stop s) :
    State.stop (State.lastResort s region f seq) := by
  exact hO
@[simp] theorem State.ringPut_stop (s : State) (n : Notif) (hO : State.stop s) :
    State.stop (State.ringPut s n) := by
  exact hO
@[simp] theorem State.flushWaiting_stop (s : State) (hO : State.stop s) :
    State.stop (State.flushWaiting s) := by
  simp (maxDischargeDepth := 60) +contextual [State.flushWaiting, hO, State.each_stop, State.updCell_stop]
@[simp] theorem State.notify_stop (s : State) (n : Notif) (hO : State.stop s) :
    State.stop (State.notify s n) := by
  simp (maxDischargeDepth := 60) [State.notify, hO]
@[simp] theorem State.closeAlarm_stop (s : State) (w : AlarmWin) (hO : State.stop s) :
    State.stop (State.closeAlarm s w) := by
  simp (maxDischargeDepth := 60) [State.closeAlarm, hO]
@[simp] theorem State.openAlarm_stop (s : State) (f : Fsid) (seq : Nat) (body : Bytes) (hO : State.stop s) :
    State.stop (State.openAlarm s f seq body) := by
  simp (maxDischargeDepth := 60) [State.openAlarm, hO]
@[simp] theorem State.alarm_stop (s : State) (f : Fsid) (raised : Nat) (applied : Nat) (parent : Nat) (seq : Nat) (full : Bool) (hO : State.stop s) :
    State.stop (State.alarm s f raised applied parent seq full) := by
  unfold State.alarm; split <;> simp (maxDischargeDepth := 60) [hO]
@[simp] theorem State.writeCompl_stop (s : State) (c : Compl) (hO : State.stop s) :
    State.stop (State.writeCompl s c) := by
  simp (maxDischargeDepth := 60) [State.writeCompl, hO]
@[simp] theorem State.complete_stop (s : State) (r : CmdRef) (status : Nat) (result : Bytes) (hO : State.stop s) :
    State.stop (State.complete s r status result) := by
  simp (maxDischargeDepth := 60) [State.complete, hO]
@[simp] theorem State.completeLater_stop (s : State) (c : Compl) (hO : State.stop s) :
    State.stop (State.completeLater s c) := by
  exact hO
@[simp] theorem State.flushCompl_stop (s : State) (hO : State.stop s) :
    State.stop (State.flushCompl s) := by
  simp (maxDischargeDepth := 60) +contextual [State.flushCompl, hO, State.each_stop, State.updCell_stop]
@[simp] theorem State.recordState_stop (s : State) (subject : Nat) (index : Nat) (old : Nat) (new : Nat) (hO : State.stop s) :
    State.stop (State.recordState s subject index old new).2 := by
  simp (maxDischargeDepth := 60) [State.recordState, hO]
@[simp] theorem State.laneEvent_stop (s : State) (l : Lane) (old : Nat) (new : Nat) (latch : Bool) (f : Option Fsid) (hO : State.stop s) :
    State.stop (State.laneEvent s l old new latch f) := by
  simp (maxDischargeDepth := 60) [State.laneEvent, hO]
@[simp] theorem State.pairNotice_stop (s : State) (old : PairState) (hO : State.stop s) :
    State.stop (State.pairNotice s old) := by
  simp (maxDischargeDepth := 60) [State.pairNotice, hO]
@[simp] theorem State.setPair_stop (s : State) (p : PairState) (hO : State.stop s) :
    State.stop (State.setPair s p) := by
  simp (maxDischargeDepth := 60) [State.setPair, hO]
@[simp] theorem State.setMod_safe_stop (s : State) : State.stop (s.setMod .safe) := by
  unfold State.setMod; split
  · rename_i h; exact .inl (by simpa using h)
  · apply State.recordState_stop; exact .inl rfl
@[simp] theorem State.setMod_terminal_stop (s : State) : State.stop (s.setMod .terminal) := by
  unfold State.setMod; split
  · rename_i h; exact .inr (by simpa using h)
  · apply State.recordState_stop; exact .inr rfl
@[simp] theorem State.progress_stop (s : State) (r : Option CmdRef) (cmd : Nat) (step : Nat) (steps : Nat) (hO : State.stop s) :
    State.stop (State.progress s r cmd step steps) := by
  simp (maxDischargeDepth := 60) [State.progress, hO]
@[simp] theorem State.postErr_stop (s : State) (source : Nat) (window : Nat) (addr : Nat) (fstat : Nat) (ep : Nat) (hO : State.stop s) :
    State.stop (State.postErr s source window addr fstat ep) := by
  simp (maxDischargeDepth := 60) [State.postErr, hO]
@[simp] theorem State.refChange_stop (s : State) (r : CmdRef) (kind : Nat) (body : Bytes) (hO : State.stop s) :
    State.stop (State.refChange s r kind body) := by
  simp (maxDischargeDepth := 60) [State.refChange, hO]
@[simp] theorem State.updUpd_stop (s : State) (f : UpdSt → UpdSt) (hO : State.stop s) :
    State.stop (State.updUpd s f) := by
  exact hO
@[simp] theorem State.setSlot_stop (s : State) (kind : Nat) (b : Bool) (x : Slot) (hO : State.stop s) :
    State.stop (State.setSlot s kind b x) := by
  unfold State.setSlot; split <;> simp (maxDischargeDepth := 60) [hO]
@[simp] theorem State.updAct_stop (s : State) (f : ActSt → ActSt) (hO : State.stop s) :
    State.stop (State.updAct s f) := by
  exact hO
@[simp] theorem State.abortUpd_stop (s : State) (cause : Nat) (hO : State.stop s) :
    State.stop (State.abortUpd s cause) := by
  unfold State.abortUpd; dsimp only; (repeat' split) <;> simp (maxDischargeDepth := 60) +contextual [hO, State.each_stop, State.when_stop, State.updCell_stop]
@[simp] theorem State.emptyFrame_stop (s : State) (hO : State.stop s) :
    State.stop (State.emptyFrame s) := by
  exact hO
@[simp] theorem State.closeCursor_stop (s : State) (hO : State.stop s) :
    State.stop (State.closeCursor s) := by
  exact hO
@[simp] theorem State.endSession_stop (s : State) (id : Nat) (hO : State.stop s) :
    State.stop (State.endSession s id) := by
  unfold State.endSession; split <;> simp (maxDischargeDepth := 60) [hO]
@[simp] theorem State.dropProv_stop (s : State) (hO : State.stop s) :
    State.stop (State.dropProv s) := by
  unfold State.dropProv; split <;> simp (maxDischargeDepth := 60) [hO]
@[simp] theorem State.serviceDown_stop (s : State) (rc : Bool) (hO : State.stop s) :
    State.stop (State.serviceDown s rc) := by
  simp (maxDischargeDepth := 60) +contextual [State.serviceDown, hO, State.each_stop, State.updCell_stop]
@[simp] theorem State.serviceUp_stop (s : State) (hO : State.stop s) :
    State.stop (State.serviceUp s) := by
  simp (maxDischargeDepth := 60) +contextual [State.serviceUp, hO, State.each_stop, State.updCell_stop]
@[simp] theorem State.updBridge_stop (s : State) (f : BridgeSt → BridgeSt) (hO : State.stop s) :
    State.stop (State.updBridge s f) := by
  exact hO
@[simp] theorem State.postedFailed_stop (s : State) (x : Xfer) (fstat : Nat) (hO : State.stop s) :
    State.stop (State.postedFailed s x fstat) := by
  simp (maxDischargeDepth := 60) [State.postedFailed, hO]
@[simp] theorem State.endXfer_stop (s : State) (x : Xfer) (fstat : Nat) (data : Bytes) (hO : State.stop s) :
    State.stop (State.endXfer s x fstat data) := by
  unfold State.endXfer; split <;> simp (maxDischargeDepth := 60) [hO]
@[simp] theorem State.resetSb_stop (s : State) (hO : State.stop s) :
    State.stop (State.resetSb s) := by
  simp (maxDischargeDepth := 60) +contextual [State.resetSb, hO, State.each_stop, State.updCell_stop]
@[simp] theorem State.useSet_stop (s : State) (x : Option SlotSet) (hO : State.stop s) :
    State.stop (State.useSet s x) := by
  exact hO
@[simp] theorem State.switchFw_stop (s : State) (hO : State.stop s) :
    State.stop (State.switchFw s) := by
  unfold State.switchFw; dsimp only; (repeat' split) <;> simp_all
@[simp] theorem State.revertFw_stop (s : State) (hO : State.stop s) :
    State.stop (State.revertFw s) := by
  unfold State.revertFw; dsimp only; (repeat' split) <;> simp_all
@[simp] theorem State.endFallback_stop (s : State) (hO : State.stop s) :
    State.stop (State.endFallback s) := by
  unfold State.endFallback; (repeat' split) <;> simp (maxDischargeDepth := 60) [hO]
@[simp] theorem State.fallbackRec_stop (s : State) (a : ActSt) (item : Nat) (hO : State.stop s) :
    State.stop (State.fallbackRec s a item) := by
  simp (maxDischargeDepth := 60) [State.fallbackRec, hO]
@[simp] theorem State.kernelBack_stop (s : State) (a : ActSt) (hO : State.stop s) :
    State.stop (State.kernelBack s a) := by
  simp (maxDischargeDepth := 60) +contextual [State.kernelBack, hO, State.each_stop, State.updCell_stop]
@[simp] theorem State.kernelMapBack_stop (s : State) (a : ActSt) (hO : State.stop s) :
    State.stop (State.kernelMapBack s a) := by
  exact hO
@[simp] theorem State.failAct_stop (s : State) (item : Nat) (hO : State.stop s) :
    State.stop (State.failAct s item) := by
  unfold State.failAct; (repeat' split) <;> simp (maxDischargeDepth := 60) [hO]
@[simp] theorem State.actLane_stop (s : State) (l : Lane) (hO : State.stop s) :
    State.stop (State.actLane s l) := by
  unfold State.actLane; split <;> simp (maxDischargeDepth := 60) [hO]
@[simp] theorem State.actSafe_stop (s : State) (hO : State.stop s) :
    State.stop (State.actSafe s) := by
  unfold State.actSafe; split <;> simp (maxDischargeDepth := 60) [hO]
@[simp] theorem State.actService_stop (s : State) (hO : State.stop s) :
    State.stop (State.actService s) := by
  unfold State.actService; split <;> simp (maxDischargeDepth := 60) [hO]
@[simp] theorem State.recordEvent_stop (s : State) (f : Fsid) (raised : Nat) (applied : Nat) (conseq : Bool) (escal : Bool) (parent : Option Nat) (hO : State.stop s) :
    State.stop (State.recordEvent s f raised applied conseq escal parent).2 := by
  simp (maxDischargeDepth := 60) [State.recordEvent, hO]
@[simp] theorem State.noteFault_stop (s : State) (seq : Nat) (x : List Nat) (hO : State.stop s) :
    State.stop (State.noteFault s seq x) := by
  exact hO
@[simp] theorem State.startGrace_stop (s : State) (f : Fsid) (seq : Nat) (cls : Nat) (out : Option Lane) (hO : State.stop s) :
    State.stop (State.startGrace s f seq cls out) := by
  simp (maxDischargeDepth := 60) [State.startGrace, hO]
@[simp] theorem State.abandonWith_stop (s : State) (status : Nat) (cause : Nat) (result : Bytes) (hO : State.stop s) :
    State.stop (State.abandonWith s status cause result) := by
  unfold State.abandonWith; split <;> simp (maxDischargeDepth := 60) [hO]
@[simp] theorem State.abandonTest_stop (s : State) (status : Nat) (cause : Nat) (hO : State.stop s) :
    State.stop (State.abandonTest s status cause) := by
  simp (maxDischargeDepth := 60) [State.abandonTest, hO]
@[simp] theorem State.safeActions_stop (s : State) (hO : State.stop s) :
    State.stop (State.safeActions s) := by
  simp (maxDischargeDepth := 60) [State.safeActions, hO]
@[simp] theorem State.enterTerminal_stop (s : State) (hO : State.stop s) :
    State.stop (State.enterTerminal s) := by
  simp (maxDischargeDepth := 60) [State.enterTerminal, hO]
@[simp] theorem State.safeLimit_stop (s : State) (hO : State.stop s) :
    State.stop (State.safeLimit s) := by
  simp (maxDischargeDepth := 60) [State.safeLimit, hO]
@[simp] theorem State.enterSafe_stop (s : State) (seq : Nat) (hO : State.stop s) :
    State.stop (State.enterSafe s seq) := by
  simp (maxDischargeDepth := 60) [State.enterSafe, hO]
@[simp] theorem State.latchMark_stop (s : State) (l : Lane) (hO : State.stop s) :
    State.stop (State.latchMark s l) := by
  simp (maxDischargeDepth := 60) [State.latchMark, hO]
@[simp] theorem State.latchOut_stop (s : State) (l : Lane) (hO : State.stop s) :
    State.stop (State.latchOut s l) := by
  simp (maxDischargeDepth := 60) [State.latchOut, hO]
@[simp] theorem State.withdraw_stop (s : State) (l : Lane) (f : Fsid) (seq : Nat) (hold : LHold) (counted : Bool) (hO : State.stop s) :
    State.stop (State.withdraw s l f seq hold counted) := by
  simp (maxDischargeDepth := 60) [State.withdraw, hO]
@[simp] theorem State.afterWithdraw_stop (s : State) (l : Lane) (f : Fsid) (hO : State.stop s) :
    State.stop (State.afterWithdraw s l f) := by
  exact hO
@[simp] theorem State.countEvent_stop (s : State) (f : Fsid) (dflt : Nat) (hO : State.stop s) :
    State.stop (State.countEvent s f dflt).2.2 := by
  unfold State.countEvent; (repeat' split) <;> simp (maxDischargeDepth := 60) [hO]
@[simp] theorem State.serviceRestart_stop (s : State) (rc : Bool) (hO : State.stop s) :
    State.stop (State.serviceRestart s rc) := by
  simp (maxDischargeDepth := 60) [State.serviceRestart, hO]
@[simp] theorem State.openCut_stop (s : State) (b : Nat) (hO : State.stop s) :
    State.stop (State.openCut s b) := by
  simp (maxDischargeDepth := 60) [State.openCut, hO]
@[simp] theorem State.cutOf_stop (s : State) (blk : Nat) (hO : State.stop s) :
    State.stop (State.cutOf s blk) := by
  simp (maxDischargeDepth := 60) [State.cutOf, hO]
@[simp] theorem State.hedgeUnsettled_stop (s : State) (blk : Nat) (f : Fsid) (seq : Nat) (hO : State.stop s) :
    State.stop (State.hedgeUnsettled s blk f seq) := by
  simp (maxDischargeDepth := 60) [State.hedgeUnsettled, hO]
@[simp] theorem State.notSettled_stop (s : State) (blk : Nat) (parent : Option Nat) (hO : State.stop s) :
    State.stop (State.notSettled s blk parent) := by
  unfold State.notSettled; dsimp only; (repeat' split) <;> simp (maxDischargeDepth := 60) [hO]
@[simp] theorem State.clearBlock_stop (s : State) (blk : Nat) (hO : State.stop s) :
    State.stop (State.clearBlock s blk) := by
  simp (maxDischargeDepth := 60) [State.clearBlock, hO]
@[simp] theorem State.postedMasked_stop (s : State) (k seq : Nat) (hO : State.stop s) :
    State.stop (State.postedMasked s k seq) := by
  simp (maxDischargeDepth := 60) +contextual [State.postedMasked, hO, State.each_stop]
@[simp] theorem State.resetBlock_stop (s : State) (blk : Nat) (f : Fsid) (seq : Nat) (hO : State.stop s) :
    State.stop (State.resetBlock s blk f seq) := by
  unfold State.resetBlock; split <;> simp (maxDischargeDepth := 60) [hO]
@[simp] theorem State.hedgeCell_stop (s : State) (c : Nat) (f : Fsid) (seq : Nat) (hO : State.stop s) :
    State.stop (State.hedgeCell s c f seq) := by
  simp (maxDischargeDepth := 60) [State.hedgeCell, hO]
@[simp] theorem State.containCm_stop (s : State) (f : Fsid) (seq : Nat) (hO : State.stop s) :
    State.stop (State.containCm s f seq) := by
  simp (maxDischargeDepth := 60) [State.containCm, hO]
@[simp] theorem State.hedgeEngine_stop (s : State) (l : Lane) (f : Fsid) (seq : Nat) (hO : State.stop s) :
    State.stop (State.hedgeEngine s l f seq) := by
  simp (maxDischargeDepth := 60) [State.hedgeEngine, hO]
@[simp] theorem State.failResync_stop (s : State) (l : Lane) (parent : Option Nat) (hO : State.stop s) :
    State.stop (State.failResync s l parent) := by
  unfold State.failResync; dsimp only; (repeat' split) <;> simp (maxDischargeDepth := 60) +contextual [hO, State.each_stop, State.when_stop, State.updCell_stop]
@[simp] theorem State.reactLane_stop (s : State) (l : Lane) (f : Fsid) (cls : Nat) (seq : Nat) (hO : State.stop s) :
    State.stop (State.reactLane s l f cls seq) := by
  unfold State.reactLane; split <;> simp (maxDischargeDepth := 60) [hO]
@[simp] theorem State.react_stop (s : State) (f : Fsid) (cls : Nat) (seq : Nat) (named : Option Lane) (hO : State.stop s) :
    State.stop (State.react s f cls seq named) := by
  unfold State.react; (repeat' split) <;> simp (maxDischargeDepth := 60) [hO]
@[simp] theorem State.collectFull_stop (s : State) (f : Fsid) (dflt : Nat) (parent : Option Nat) (named : Option Lane) (via : Option Net) (hO : State.stop s) :
    State.stop (State.collectFull s f dflt parent named via).2 := by
  unfold State.collectFull; dsimp only; (repeat' split) <;> simp (maxDischargeDepth := 60) +contextual [hO, State.each_stop, State.when_stop, State.updCell_stop]
@[simp] theorem State.collect_stop (s : State) (f : Fsid) (hO : State.stop s) :
    State.stop (State.collect s f) := by
  simp (maxDischargeDepth := 60) [State.collect, hO]
@[simp] theorem State.collectNamed_stop (s : State) (f : Fsid) (x : List Nat) (hO : State.stop s) :
    State.stop (State.collectNamed s f x) := by
  simp (maxDischargeDepth := 60) [State.collectNamed, hO]
@[simp] theorem State.collectOpen_stop (s : State) (level : Nat) (region : Nat) (block : Nat) (cell : Nat) (k : Nat) (cls : Nat) (hO : State.stop s) :
    State.stop (State.collectOpen s level region block cell k cls) := by
  simp (maxDischargeDepth := 60) [State.collectOpen, hO]
@[simp] theorem State.stopModule_stop (s : State) (f : Fsid) (hO : State.stop s) :
    State.stop (State.stopModule s f) := by
  simp (maxDischargeDepth := 60) [State.stopModule, hO]
@[simp] theorem State.updCh_stop (s : State) (c : Nat) (l : Lane) (f : ChSt → ChSt) (hO : State.stop s) :
    State.stop (State.updCh s c l f) := by
  simp (maxDischargeDepth := 60) +contextual [State.updCh, hO, State.each_stop, State.updCell_stop]
@[simp] theorem State.pairTick_stop (s : State) (c : Nat) (l : Lane) (hO : State.stop s) :
    State.stop (State.pairTick s c l) := by
  simp (maxDischargeDepth := 60) [State.pairTick, hO]
@[simp] theorem State.pairTicks_stop (s : State) (c : Nat) (hO : State.stop s) :
    State.stop (State.pairTicks s c) := by
  simp (maxDischargeDepth := 60) [State.pairTicks, hO]
@[simp] theorem State.enterWarm_stop (s : State) (c : Nat) (hO : State.stop s) :
    State.stop (State.enterWarm s c) := by
  simp (maxDischargeDepth := 60) [State.enterWarm, hO]
@[simp] theorem State.warmAll_stop (s : State) (hO : State.stop s) :
    State.stop (State.warmAll s) := by
  simp (maxDischargeDepth := 60) +contextual [State.warmAll, hO, State.each_stop, State.updCell_stop]
@[simp] theorem State.latchCell_stop (s : State) (c : Nat) (hO : State.stop s) :
    State.stop (State.latchCell s c) := by
  simp (maxDischargeDepth := 60) +contextual [State.latchCell, hO, State.each_stop, State.updCell_stop]
@[simp] theorem State.latchAll_stop (s : State) (hO : State.stop s) :
    State.stop (State.latchAll s) := by
  simp (maxDischargeDepth := 60) +contextual [State.latchAll, hO, State.each_stop, State.updCell_stop]
@[simp] theorem State.setLatches_stop (s : State) (hO : State.stop s) :
    State.stop (State.setLatches s) := by
  simp (maxDischargeDepth := 60) +contextual [State.setLatches, hO, State.each_stop, State.updCell_stop]
@[simp] theorem State.countDis_stop (s : State) (c : Nat) (l : Lane) (hO : State.stop s) :
    State.stop (State.countDis s c l) := by
  simp (maxDischargeDepth := 60) [State.countDis, hO]
@[simp] theorem State.updRels_stop (s : State) (f : RelSt → RelSt) (hO : State.stop s) :
    State.stop (State.updRels s f) := by
  exact hO
@[simp] theorem State.raiseDis_stop (s : State) (c : Nat) (hO : State.stop s) :
    State.stop (State.raiseDis s c) := by
  simp (maxDischargeDepth := 60) [State.raiseDis, hO]
@[simp] theorem State.disagreements_stop (s : State) (hO : State.stop s) :
    State.stop (State.disagreements s) := by
  simp (maxDischargeDepth := 60) +contextual [State.disagreements, hO, State.each_stop, State.updCell_stop]
@[simp] theorem State.pulseFault_stop (s : State) (c : Nat) (det : Nat) (ls : List Lane) (hO : State.stop s) :
    State.stop (State.pulseFault s c det ls) := by
  simp (maxDischargeDepth := 60) +contextual [State.pulseFault, hO, State.each_stop, State.updCell_stop]
@[simp] theorem State.latchFlag_stop (s : State) (c : Nat) (det : Nat) (hO : State.stop s) :
    State.stop (State.latchFlag s c det) := by
  simp (maxDischargeDepth := 60) [State.latchFlag, hO]
@[simp] theorem State.latchFlags_stop (s : State) (hO : State.stop s) :
    State.stop (State.latchFlags s) := by
  simp (maxDischargeDepth := 60) +contextual [State.latchFlags, hO, State.each_stop, State.updCell_stop]
@[simp] theorem State.beginRels_stop (s : State) (hO : State.stop s) :
    State.stop (State.beginRels s) := by
  simp (maxDischargeDepth := 60) +contextual [State.beginRels, hO, State.each_stop, State.updCell_stop]
@[simp] theorem State.frameStart_stop (s : State) (hO : State.stop s) :
    State.stop (State.frameStart s) := by
  simp (maxDischargeDepth := 60) [State.frameStart, hO]
@[simp] theorem State.frameEnd_stop (s : State) (hO : State.stop s) :
    State.stop (State.frameEnd s) := by
  simp (maxDischargeDepth := 60) +contextual [State.frameEnd, hO, State.each_stop, State.updCell_stop]
@[simp] theorem State.pairsTick_stop (s : State) (hO : State.stop s) :
    State.stop (State.pairsTick s) := by
  simp (maxDischargeDepth := 60) +contextual [State.pairsTick, hO, State.each_stop, State.updCell_stop]
theorem execTestPulseStart_stop (cell : Nat) (on : Trio CellMask) (s : State) (hO : State.stop s) :
    ∀ t, (execTestPulseStart cell on s) = .next t → State.stop t := by
  rintro _ ⟨⟩; simp (maxDischargeDepth := 60) +contextual [hO, State.each_stop, State.fed_stop, State.updCell_stop]
theorem execTestPulseEnd_stop (cell : Nat) (dropped : Trio Bool) (s : State) (hO : State.stop s) :
    ∀ t, (execTestPulseEnd cell dropped s) = .next t → State.stop t := by
  rintro _ ⟨⟩; simp (maxDischargeDepth := 60) [hO]
theorem execPulseWindowEnd_stop (slot : Nat) (dropped : Trio CellMask) (recovered : Trio CellMask) (nextOn : Trio CellMask) (sxFell : Bool) (sxBack : Bool) (s : State) (hO : State.stop s) :
    ∀ t, (execPulseWindowEnd slot dropped recovered nextOn sxFell sxBack s) = .next t → State.stop t := by
  rintro _ ⟨⟩; simp (maxDischargeDepth := 60) +contextual [hO, State.each_stop, State.fed_stop, State.updCell_stop]
theorem execSxCurrentLimit_stop (cell : Nat) (s : State) (hO : State.stop s) :
    ∀ t, (execSxCurrentLimit cell s) = .next t → State.stop t := by
  rintro _ ⟨⟩; simp (maxDischargeDepth := 60) [hO]
theorem execInputFilterChange_stop (lane : Lane) (cell : Nat) (samples : List Bool) (s : State) (hO : State.stop s) :
    ∀ t, (execInputFilterChange lane cell samples s) = .next t → State.stop t := by
  rintro _ ⟨⟩; (repeat' split) <;> simp (maxDischargeDepth := 60) [hO]
theorem execChannelDisagreement_stop (lane : Lane) (cell : Nat) (s : State) (hO : State.stop s) :
    ∀ t, (execChannelDisagreement lane cell s) = .next t → State.stop t := by
  rintro _ ⟨⟩; simp (maxDischargeDepth := 60) [hO]
theorem execDiscrepancyFault_stop (lane : Lane) (cell : Nat) (s : State) (hO : State.stop s) :
    ∀ t, (execDiscrepancyFault lane cell s) = .next t → State.stop t := by
  rintro _ ⟨⟩; dsimp only; (repeat' split) <;> simp_all
theorem execBankSupplyTrip_stop (bank : Nat) (high : Bool) (s : State) (hO : State.stop s) :
    ∀ t, (execBankSupplyTrip bank high s) = .next t → State.stop t := by
  rintro _ ⟨⟩; simp (maxDischargeDepth := 60) +contextual [hO, State.each_stop, State.fed_stop, State.updCell_stop]
theorem execBankSupplyRecover_stop (bank : Nat) (s : State) (hO : State.stop s) :
    ∀ t, (execBankSupplyRecover bank s) = .next t → State.stop t := by
  rintro _ ⟨⟩; simp (maxDischargeDepth := 60) [hO]
@[simp] theorem State.liftFsv_stop (s : State) (hO : State.stop s) :
    State.stop (State.liftFsv s) := by
  simp (maxDischargeDepth := 60) +contextual [State.liftFsv, hO, State.each_stop, State.updCell_stop]
@[simp] theorem State.setEff_stop (s : State) (c : Nat) (hO : State.stop s) :
    State.stop (State.setEff s c) := by
  simp (maxDischargeDepth := 60) [State.setEff, hO]
@[simp] theorem State.setEffs_stop (s : State) (cs : List Nat) (hO : State.stop s) :
    State.stop (State.setEffs s cs) := by
  simp (maxDischargeDepth := 60) +contextual [State.setEffs, hO, State.each_stop, State.updCell_stop]
@[simp] theorem State.driveCell_stop (s : State) (m : CellMask) (c : Nat) (hO : State.stop s) :
    State.stop (State.driveCell s m c) := by
  simp (maxDischargeDepth := 60) +contextual [State.driveCell, hO, State.each_stop, State.updCell_stop]
@[simp] theorem State.driveStep_stop (s : State) (m : CellMask) (hO : State.stop s) :
    State.stop (State.driveStep s m) := by
  simp (maxDischargeDepth := 60) +contextual [State.driveStep, hO, State.each_stop, State.updCell_stop]
@[simp] theorem State.raiseNamed_stop (s : State) (c : Nat) (det : Nat) (x : List Nat) (hO : State.stop s) :
    State.stop (State.raiseNamed s c det x) := by
  simp (maxDischargeDepth := 60) [State.raiseNamed, hO]
@[simp] theorem State.raiseOut_stop (s : State) (c : Nat) (det : Nat) (hO : State.stop s) :
    State.stop (State.raiseOut s c det) := by
  simp (maxDischargeDepth := 60) +contextual [State.raiseOut, hO, State.each_stop, State.updCell_stop]
@[simp] theorem State.noteCounted_stop (s : State) (c : Nat) (hO : State.stop s) :
    State.stop (State.noteCounted s c) := by
  simp (maxDischargeDepth := 60) +contextual [State.noteCounted, hO, State.each_stop, State.updCell_stop]
@[simp] theorem State.roundEnd_stop (s : State) (hO : State.stop s) :
    State.stop (State.roundEnd s) := by
  simp (maxDischargeDepth := 60) +contextual [State.roundEnd, hO, State.each_stop, State.updCell_stop]
@[simp] theorem State.roundStart_stop (s : State) (hO : State.stop s) :
    State.stop (State.roundStart s) := by
  simp (maxDischargeDepth := 60) +contextual [State.roundStart, hO, State.each_stop, State.updCell_stop]
theorem execRoundMark_stop (lane : Lane) (s : State) (hO : State.stop s) :
    ∀ t, (execRoundMark lane s) = .next t → State.stop t := by
  rintro _ ⟨⟩
  split
  · exact hO
  · dsimp only
    split
    · exact State.roundStart_stop _ (by split <;> simp [hO])
    · simp [hO]
theorem execTestNotCompleted_stop (cell : Nat) (lane : Lane) (s : State) (hO : State.stop s) :
    ∀ t, (execTestNotCompleted cell lane s) = .next t → State.stop t := by
  rintro _ ⟨⟩; simp (maxDischargeDepth := 60) +contextual [hO, State.each_stop, State.fed_stop, State.updCell_stop]
theorem execTestPosition_stop (bank : Nat) (midOk : Bool) (s : State) (hO : State.stop s) :
    ∀ t, (execTestPosition bank midOk s) = .next t → State.stop t := by
  rintro _ ⟨⟩; simp (maxDischargeDepth := 60) +contextual [hO, State.each_stop, State.fed_stop, State.updCell_stop]
theorem execDarkStepEnd_stop (bank : Nat) (current : Paths Bool) (s : State) (hO : State.stop s) :
    ∀ t, (execDarkStepEnd bank current s) = .next t → State.stop t := by
  rintro _ ⟨⟩; dsimp only; (repeat' split) <;> simp (maxDischargeDepth := 60) +contextual [hO, State.each_stop, State.fed_stop, State.updCell_stop]
theorem execLightStepEnd_stop (bank : Nat) (mids : Paths Mid) (current : Paths Bool) (pxOn : Bool) (s : State) (hO : State.stop s) :
    ∀ t, (execLightStepEnd bank mids current pxOn s) = .next t → State.stop t := by
  rintro _ ⟨⟩; dsimp only; (repeat' split) <;> simp (maxDischargeDepth := 60) +contextual [hO, State.each_stop, State.fed_stop, State.updCell_stop]
theorem execMidpointStuck_stop (cell : Nat) (_path : Path) (_high : Bool) (s : State) (hO : State.stop s) :
    ∀ t, (execMidpointStuck cell _path _high s) = .next t → State.stop t := by
  rintro _ ⟨⟩; simp (maxDischargeDepth := 60) [hO]
theorem execPathCurrentWithdrawn_stop (cell : Nat) (path : Path) (s : State) (hO : State.stop s) :
    ∀ t, (execPathCurrentWithdrawn cell path s) = .next t → State.stop t := by
  rintro _ ⟨⟩; simp (maxDischargeDepth := 60) [hO]
@[simp] theorem State.updTest_stop (s : State) (f : TestSt → TestSt) (hO : State.stop s) :
    State.stop (State.updTest s f) := by
  exact hO
@[simp] theorem State.cutTest_stop (s : State) (cs : List Nat) (hO : State.stop s) :
    State.stop (State.cutTest s cs) := by
  simp (maxDischargeDepth := 60) [State.cutTest, hO]
@[simp] theorem State.cutBank_stop (s : State) (b : Nat) (hO : State.stop s) :
    State.stop (State.cutBank s b) := by
  simp (maxDischargeDepth := 60) [State.cutBank, hO]
@[simp] theorem State.readFault_stop (s : State) (c : Nat) (hO : State.stop s) :
    State.stop (State.readFault s c) := by
  simp (maxDischargeDepth := 60) [State.readFault, hO]
@[simp] theorem State.readOne_stop (s : State) (c : Nat) (l : Lane) (v : Bool) (hO : State.stop s) :
    State.stop (State.readOne s c l v) := by
  simp (maxDischargeDepth := 60) [State.readOne, hO]
theorem execReadbackFault_stop (lane : Lane) (cell : Nat) (samples : List Bool) (s : State) (hO : State.stop s) :
    ∀ t, (execReadbackFault lane cell samples s) = .next t → State.stop t := by
  rintro _ ⟨⟩; simp (maxDischargeDepth := 60) +contextual [hO, State.each_stop, State.fed_stop, State.updCell_stop]
theorem execExternalVoltage_stop (cell : Nat) (s : State) (hO : State.stop s) :
    ∀ t, (execExternalVoltage cell s) = .next t → State.stop t := by
  rintro _ ⟨⟩; (repeat' split) <;> simp (maxDischargeDepth := 60) [hO]
@[simp] theorem State.readTick_stop (s : State) (b : Nat) (hO : State.stop s) :
    State.stop (State.readTick s b) := by
  simp (maxDischargeDepth := 60) +contextual [State.readTick, hO, State.each_stop, State.updCell_stop]
@[simp] theorem State.cellTick_stop (s : State) (hO : State.stop s) :
    State.stop (State.cellTick s) := by
  simp (maxDischargeDepth := 60) +contextual [State.cellTick, hO, State.each_stop, State.updCell_stop]
@[simp] theorem State.slotTick_stop (s : State) (us : Nat) (hO : State.stop s) :
    State.stop (State.slotTick s us) := by
  simp (maxDischargeDepth := 60) [State.slotTick, hO]
@[simp] theorem State.nextSlot_stop (s : State) (us : Nat) (skew : Nat) (hO : State.stop s) :
    State.stop (State.nextSlot s us skew) := by
  simp (maxDischargeDepth := 60) +contextual [State.nextSlot, hO, State.each_stop, State.updCell_stop]
theorem execSlotMark_stop (lane : Lane) (stamp : SlotStamp) (s : State) (hO : State.stop s) :
    ∀ t, (execSlotMark lane stamp s) = .next t → State.stop t := by
  rintro _ ⟨⟩; simp (maxDischargeDepth := 60) [hO]
@[simp] theorem State.dropSteps_stop (s : State) (cs : List Nat) (hO : State.stop s) :
    State.stop (State.dropSteps s cs) := by
  simp (maxDischargeDepth := 60) +contextual [State.dropSteps, hO, State.each_stop, State.updCell_stop]
@[simp] theorem State.protCell_stop (s : State) (c : Nat) (det : Nat) (hO : State.stop s) :
    State.stop (State.protCell s c det) := by
  simp (maxDischargeDepth := 60) +contextual [State.protCell, hO, State.each_stop, State.updCell_stop]
theorem execOverloadTrip_stop (cell : Nat) (_cause : Overload) (s : State) (hO : State.stop s) :
    ∀ t, (execOverloadTrip cell _cause s) = .next t → State.stop t := by
  rintro _ ⟨⟩; simp (maxDischargeDepth := 60) [hO]
theorem execClampOvertemp_stop (cell : Nat) (s : State) (hO : State.stop s) :
    ∀ t, (execClampOvertemp cell s) = .next t → State.stop t := by
  rintro _ ⟨⟩; simp (maxDischargeDepth := 60) [hO]
theorem execBankOvercurrent_stop (bank : Nat) (s : State) (hO : State.stop s) :
    ∀ t, (execBankOvercurrent bank s) = .next t → State.stop t := by
  rintro _ ⟨⟩; simp (maxDischargeDepth := 60) [hO]
theorem execFeedbackMismatch_stop (lane : Lane) (cell : Nat) (s : State) (hO : State.stop s) :
    ∀ t, (execFeedbackMismatch lane cell s) = .next t → State.stop t := by
  rintro _ ⟨⟩; simp (maxDischargeDepth := 60) [hO]
@[simp] theorem State.warmEnds_stop (s : State) (hO : State.stop s) :
    State.stop (State.warmEnds s) := by
  simp (maxDischargeDepth := 60) +contextual [State.warmEnds, hO, State.each_stop, State.updCell_stop]
@[simp] theorem State.relDone_stop (s : State) (kind : Nat) (index : Nat) (ref : CmdRef) (st : Nat) (hO : State.stop s) :
    State.stop (State.relDone s kind index ref st) := by
  simp (maxDischargeDepth := 60) [State.relDone, hO]
@[simp] theorem State.finishRel_stop (s : State) (r : RelSt) (hO : State.stop s) :
    State.stop (State.finishRel s r) := by
  simp (maxDischargeDepth := 60) [State.finishRel, hO]
@[simp] theorem State.finishRels_stop (s : State) (hO : State.stop s) :
    State.stop (State.finishRels s) := by
  simp (maxDischargeDepth := 60) +contextual [State.finishRels, hO, State.each_stop, State.updCell_stop]
@[simp] theorem State.arrive_stop (s : State) (k : ConnCfg) (p : Bool) (x : TgCopy) (hO : State.stop s) :
    State.stop (State.arrive s k p x) := by
  exact hO
@[simp] theorem State.discard_stop (s : State) (g : Gvt) (hO : State.stop s) :
    State.stop (State.discard s g) := by
  unfold State.discard; split <;> simp (maxDischargeDepth := 60) [hO]
@[simp] theorem State.duplicate_stop (s : State) (hO : State.stop s) :
    State.stop (State.duplicate s) := by
  simp (maxDischargeDepth := 60) [State.duplicate, hO]
@[simp] theorem State.notOwn_stop (s : State) (f : Frame) (k : State) (hO : State.stop s) (h : State.stop k) :
    State.stop (State.notOwn s f k) := by
  unfold State.notOwn; (repeat' split) <;> simp [h, hO]
theorem execFrameReceived_stop (net : Net) (f : Frame) (us : Nat) (s : State) (hO : State.stop s) :
    ∀ t, (execFrameReceived net f us s) = .next t → State.stop t := by
  rintro _ ⟨⟩; dsimp only; split
  · exact hO
  · refine State.notOwn_stop _ _ _ hO ?_; (repeat' split) <;> simp (maxDischargeDepth := 60) [hO]
theorem execSkewExpiry_stop (conn : Nat) (peer2 : Bool) (s : State) (hO : State.stop s) :
    ∀ t, (execSkewExpiry conn peer2 s) = .next t → State.stop t := by
  rintro _ ⟨⟩; (repeat' split) <;> simp (maxDischargeDepth := 60) [hO]
theorem execOneNetworkSilent_stop (conn : Nat) (s : State) (hO : State.stop s) :
    ∀ t, (execOneNetworkSilent conn s) = .next t → State.stop t := by
  rintro _ ⟨⟩; (repeat' split) <;> simp (maxDischargeDepth := 60) [hO]
@[simp] theorem State.sendOn_stop (s : State) (n : Net) (f : Frame) (hO : State.stop s) :
    State.stop (State.sendOn s n f) := by
  simp (maxDischargeDepth := 60) [State.sendOn, hO]
@[simp] theorem State.sendBoth_stop (s : State) (udp : Option Nat) (g : Gvt) (hO : State.stop s) :
    State.stop (State.sendBoth s udp g) := by
  simp (maxDischargeDepth := 60) [State.sendBoth, hO]
@[simp] theorem State.freezeAll_stop (s : State) (hO : State.stop s) :
    State.stop (State.freezeAll s) := by
  exact hO
@[simp] theorem State.refuse_stop (s : State) (conn : Nat) (det : Nat) (via : Net) (f : ConnSt → ConnSt) (hO : State.stop s) :
    State.stop (State.refuse s conn det via f) := by
  simp (maxDischargeDepth := 60) [State.refuse, hO]
@[simp] theorem State.connTimeout_stop (s : State) (k : ConnCfg) (r : RecvRec) (hO : State.stop s) :
    State.stop (State.connTimeout s k r) := by
  unfold State.connTimeout; (repeat' split) <;> simp (maxDischargeDepth := 60) [hO]
@[simp] theorem State.connRelease_stop (s : State) (n : Nat) (hO : State.stop s) :
    State.stop (State.connRelease s n) := by
  unfold State.connRelease; dsimp only; (repeat' split) <;> simp (maxDischargeDepth := 60) +contextual [hO, State.each_stop, State.when_stop, State.updCell_stop]
theorem State.examine_stop (k : ConnCfg) (r : RecvRec) (x : State × List PCopy × List PCopy) (y : PCopy) (hO : State.stop x.1) :
    State.stop (State.examine k r x y).1 := by
  unfold State.examine; dsimp only; (repeat' split) <;> simp (maxDischargeDepth := 60) [hO]
theorem State.examine_fold_stop (k : ConnCfg) (r : RecvRec) (xs : List PCopy) (x : State × List PCopy × List PCopy)
    (hO : State.stop x.1) : State.stop (xs.foldl (State.examine k r) x).1 := by
  induction xs generalizing x with
  | nil => exact hO
  | cons y ys ih => exact ih _ (State.examine_stop _ _ _ _ hO)
@[simp] theorem State.snapCopies_stop (s : State) (k : ConnCfg) (r : RecvRec) (c : ConnSt) (hO : State.stop s) :
    State.stop (s.snapCopies k r c) := by
  have h := State.examine_fold_stop k r (newCopies s.cyc.ots c) (s, [], []) hO
  unfold State.snapCopies; dsimp only
  generalize ((newCopies s.cyc.ots c).foldl (State.examine k r) (s, [], [])) = x at h ⊢
  obtain ⟨s1, oks, twins⟩ := x
  dsimp only at h ⊢
  (repeat' split) <;> simp (maxDischargeDepth := 60) +contextual [h, State.each_stop]
@[simp] theorem State.connChanged_stop (s : State) (n : Nat) (hO : State.stop s) :
    State.stop (State.connChanged s n) := by
  simp (maxDischargeDepth := 60) [State.connChanged, hO]
@[simp] theorem State.snapConn_stop (s : State) (k : ConnCfg) (hO : State.stop s) :
    State.stop (State.snapConn s k) := by
  unfold State.snapConn; dsimp only; (repeat' split) <;> simp (maxDischargeDepth := 60) +contextual [hO, State.each_stop, State.when_stop, State.updCell_stop]
@[simp] theorem State.snapConns_stop (s : State) (hO : State.stop s) :
    State.stop (State.snapConns s) := by
  simp (maxDischargeDepth := 60) +contextual [State.snapConns, hO, State.each_stop, State.updCell_stop]
@[simp] theorem State.raiseReq_stop (s : State) (route : Nat) (elem : Nat) (set : Bool) (hO : State.stop s) :
    State.stop (State.raiseReq s route elem set) := by
  exact hO
@[simp] theorem State.raiseElem_stop (s : State) (num : Nat) (codes : List Nat) (hO : State.stop s) :
    State.stop (State.raiseElem s num codes) := by
  simp (maxDischargeDepth := 60) +contextual [State.raiseElem, hO, State.each_stop, State.updCell_stop]
@[simp] theorem State.axleDone_stop (s : State) (x : AxleStep) (ok : Bool) (code : Nat) (hO : State.stop s) :
    State.stop (State.axleDone s x ok code) := by
  unfold State.axleDone; split <;> simp (maxDischargeDepth := 60) [hO]
@[simp] theorem State.axleArmed_stop (s : State) (num : Nat) (x : AxleStep) (code : Nat) (hO : State.stop s) :
    State.stop (State.axleArmed s num x code) := by
  unfold State.axleArmed; split <;> simp (maxDischargeDepth := 60) [hO]
@[simp] theorem State.axleSteps_stop (s : State) (num : Nat) (v : InEnv) (xs : List AxleStep) (hO : State.stop s) :
    State.stop (State.axleSteps s num v xs) := by
  unfold State.axleSteps; refine State.each_stop _ _ _ hO fun s x h => ?_
  dsimp only; (repeat' split) <;> simp (maxDischargeDepth := 60) [h]
@[simp] theorem State.inElem_stop (s : State) (dt : Nat) (steps : Nat → List AxleStep) (num : Nat) (hO : State.stop s) :
    State.stop (State.inElem s dt steps num) := by
  unfold State.inElem; dsimp only; (repeat' split) <;> simp (maxDischargeDepth := 60) +contextual [hO, State.each_stop, State.when_stop, State.updCell_stop]
@[simp] theorem State.inputPass_stop (s : State) (dt : Nat) (steps : Nat → List AxleStep) (hO : State.stop s) :
    State.stop (State.inputPass s dt steps) := by
  simp (maxDischargeDepth := 60) +contextual [State.inputPass, hO, State.each_stop, State.updCell_stop]
@[simp] theorem State.outElem_stop (s : State) (num : Nat) (hO : State.stop s) :
    State.stop (State.outElem s num) := by
  unfold State.outElem; split <;> simp (maxDischargeDepth := 60) [hO]
@[simp] theorem State.outputPass_stop (s : State) (hO : State.stop s) :
    State.stop (State.outputPass s) := by
  simp (maxDischargeDepth := 60) +contextual [State.outputPass, hO, State.each_stop, State.updCell_stop]
@[simp] theorem State.elemEvent_stop (s : State) (num : Nat) (f : Elem → Elem) (hO : State.stop s) :
    State.stop (State.elemEvent s num f) := by
  unfold State.elemEvent; split <;> simp (maxDischargeDepth := 60) [hO]
theorem execMoveTimeLimit_stop (elem : Nat) (s : State) (hO : State.stop s) :
    ∀ t, (execMoveTimeLimit elem s) = .next t → State.stop t := by
  rintro _ ⟨⟩; simp (maxDischargeDepth := 60) [hO]
theorem execProvingTime_stop (elem : Nat) (s : State) (hO : State.stop s) :
    ∀ t, (execProvingTime elem s) = .next t → State.stop t := by
  rintro _ ⟨⟩; simp (maxDischargeDepth := 60) [hO]
theorem execClearingDelay_stop (elem : Nat) (s : State) (hO : State.stop s) :
    ∀ t, (execClearingDelay elem s) = .next t → State.stop t := by
  rintro _ ⟨⟩; dsimp only; (repeat' split) <;> simp_all
theorem execResetStepLimit_stop (elem : Nat) (s : State) (hO : State.stop s) :
    ∀ t, (execResetStepLimit elem s) = .next t → State.stop t := by
  rintro _ ⟨⟩; simp (maxDischargeDepth := 60) [hO]
theorem execCloseTimeLimit_stop (elem : Nat) (s : State) (hO : State.stop s) :
    ∀ t, (execCloseTimeLimit elem s) = .next t → State.stop t := by
  rintro _ ⟨⟩; simp (maxDischargeDepth := 60) [hO]
theorem execOpenDelay_stop (elem : Nat) (s : State) (hO : State.stop s) :
    ∀ t, (execOpenDelay elem s) = .next t → State.stop t := by
  rintro _ ⟨⟩; simp (maxDischargeDepth := 60) [hO]
theorem execDirectionExchangeLimit_stop (elem : Nat) (s : State) (hO : State.stop s) :
    ∀ t, (execDirectionExchangeLimit elem s) = .next t → State.stop t := by
  rintro _ ⟨⟩; dsimp only; (repeat' split) <;> simp_all
@[simp] theorem State.admission_stop (s : State) (hO : State.stop s) :
    State.stop (State.admission s) := by
  simp (maxDischargeDepth := 60) +contextual [State.admission, hO, State.each_stop, State.updCell_stop]
@[simp] theorem State.recount_stop (s : State) (t : RouteEntry) (old : RouteCell) (new : RouteCell) (hO : State.stop s) :
    State.stop (State.recount s t old new) := by
  simp (maxDischargeDepth := 60) [State.recount, hO]
@[simp] theorem State.ownerDone_stop (s : State) (owner : Nat) (c : RouteCell) (status : Nat) (hO : State.stop s) :
    State.stop (State.ownerDone s owner c status) := by
  unfold State.ownerDone; split <;> simp (maxDischargeDepth := 60) [hO]
@[simp] theorem State.raiseAuto_stop (s : State) (r : Nat) (origin : Nat) (hO : State.stop s) :
    State.stop (State.raiseAuto s r origin) := by
  exact hO
@[simp] theorem State.afterReleased_stop (s : State) (r : Nat) (t : RouteEntry) (old : RouteCell) (new : RouteCell) (check : Nat) (hO : State.stop s) :
    State.stop (State.afterReleased s r t old new check) := by
  unfold State.afterReleased; dsimp only; (repeat' split) <;> simp (maxDischargeDepth := 60) +contextual [hO, State.each_stop, State.when_stop, State.updCell_stop]
@[simp] theorem State.afterMove_stop (s : State) (r : Nat) (t : RouteEntry) (old : RouteCell) (new : RouteCell) (check : Nat) (hO : State.stop s) :
    State.stop (State.afterMove s r t old new check) := by
  unfold State.afterMove; (repeat' split) <;> simp (maxDischargeDepth := 60) [hO]
@[simp] theorem State.watchStep_stop (s : State) (dt : Nat) (hO : State.stop s) :
    State.stop (State.watchStep s dt) := by
  exact hO
@[simp] theorem State.quietCheck_stop (s : State) (r : Nat) (hO : State.stop s) :
    State.stop (State.quietCheck s r) := by
  simp (maxDischargeDepth := 60) [State.quietCheck, hO]
@[simp] theorem State.trigger_stop (s : State) (r : Nat) (t : RouteEntry) (hO : State.stop s) :
    State.stop (State.trigger s r t) := by
  simp (maxDischargeDepth := 60) [State.trigger, hO]
@[simp] theorem State.tickApproach_stop (s : State) (dt : Nat) (hO : State.stop s) :
    State.stop (State.tickApproach s dt) := by
  simp (maxDischargeDepth := 60) [State.tickApproach, hO]
@[simp] theorem State.tickRoutes_stop (s : State) (dt : Nat) (hO : State.stop s) :
    State.stop (State.tickRoutes s dt) := by
  exact hO
@[simp] theorem State.badRoutes_stop (s : State) (hO : State.stop s) :
    State.stop (State.badRoutes s) := by
  unfold State.badRoutes; split
  · exact State.each_stop _ _ _ hO fun s l h => by simp [h]
  · exact hO
@[simp] theorem State.passRoute_stop (s : State) (s0 : State) (evs : List (Nat × Eval)) (won : List Nat) (lost : List (Nat × Nat)) (r : Nat) (hO : State.stop s) :
    State.stop (State.passRoute s s0 evs won lost r) := by
  unfold State.passRoute; split <;> simp (maxDischargeDepth := 60) [hO]
@[simp] theorem State.countRequests_stop (s : State) (hO : State.stop s) :
    State.stop (State.countRequests s) := by
  exact hO
@[simp] theorem State.passRoutes_stop (s : State) (dt : Nat) (hO : State.stop s) :
    State.stop (State.passRoutes s dt) := by
  unfold State.passRoutes; dsimp only; exact State.each_stop _ _ _ hO fun s x h => State.passRoute_stop _ _ _ _ _ _ h
@[simp] theorem State.triggers_stop (s : State) (hO : State.stop s) :
    State.stop (State.triggers s) := by
  exact State.each_stop _ _ _ hO fun s x h => by split <;> simp [h]
@[simp] theorem State.quietChecks_stop (s : State) (hO : State.stop s) :
    State.stop (State.quietChecks s) := by
  exact State.each_stop _ _ _ hO fun s x h => State.quietCheck_stop _ _ h
@[simp] theorem State.writeElems_stop (s : State) (s0 : State) (hO : State.stop s) :
    State.stop (State.writeElems s s0) := by
  exact hO
@[simp] theorem State.confirmAll_stop (s : State) (hO : State.stop s) :
    State.stop (State.confirmAll s) := by
  exact hO
@[simp] theorem State.trellisPass_stop (s : State) (dt : Nat) (hO : State.stop s) :
    State.stop (State.trellisPass s dt) := by
  unfold State.trellisPass; dsimp only
  exact State.countRequests_stop _ (State.confirmAll_stop _ (State.writeElems_stop _ _ (State.quietChecks_stop _ (State.watchStep_stop _ _ (State.triggers_stop _ (State.passRoutes_stop _ _ (State.admission_stop _ (State.badRoutes_stop _ (State.tickRoutes_stop _ dt hO)))))))))
@[simp] theorem State.endReleased_stop (s : State) (hO : State.stop s) :
    State.stop (State.endReleased s) := by
  exact hO
@[simp] theorem State.takeCmdseq_stop (s : State) (hO : State.stop s) :
    State.stop (State.takeCmdseq s).2 := by
  exact hO
@[simp] theorem State.takeReqseq_stop (s : State) (hO : State.stop s) :
    State.stop (State.takeReqseq s).2 := by
  exact hO
@[simp] theorem State.countNotEntered_stop (s : State) (hO : State.stop s) :
    State.stop (State.countNotEntered s) := by
  exact hO
@[simp] theorem State.enter_stop (s : State) (r : Nat) (origin : Nat) (cmdseq : Nat) (ref : Option CmdRef) (hO : State.stop s) :
    State.stop (State.enter s r origin cmdseq ref) := by
  exact hO
@[simp] theorem State.doneOp_stop (s : State) (ref : CmdRef) (status : Nat) (cmdseq : Nat) (hO : State.stop s) :
    State.stop (State.doneOp s ref status cmdseq) := by
  exact hO
@[simp] theorem State.enterCancel_stop (s : State) (ref : CmdRef) (r : Nat) (q : Nat) (hO : State.stop s) :
    State.stop (State.enterCancel s ref r q) := by
  unfold State.enterCancel; split <;> simp (maxDischargeDepth := 60) [hO]
@[simp] theorem State.enterKey_stop (s : State) (ref : CmdRef) (n : Nat) (q : Nat) (hO : State.stop s) :
    State.stop (State.enterKey s ref n q) := by
  unfold State.enterKey; (repeat' split) <;> simp (maxDischargeDepth := 60) [hO]
@[simp] theorem State.enterOp_stop (s : State) (o : OpCmd) (hO : State.stop s) :
    State.stop (State.enterOp s o) := by
  unfold State.enterOp; dsimp only; (repeat' split) <;> simp (maxDischargeDepth := 60) +contextual [hO, State.each_stop, State.when_stop, State.updCell_stop]
@[simp] theorem State.enterElemReq_stop (s : State) (x : Nat × Nat × Bool) (hO : State.stop s) :
    State.stop (State.enterElemReq s x) := by
  unfold State.enterElemReq; (repeat' split) <;> simp (maxDischargeDepth := 60) [hO]
@[simp] theorem State.enterAuto_stop (s : State) (x : Nat × Nat) (hO : State.stop s) :
    State.stop (State.enterAuto s x) := by
  unfold State.enterAuto; split <;> simp (maxDischargeDepth := 60) [hO]
@[simp] theorem State.enterRequests_stop (s : State) (ops : List OpCmd) (hO : State.stop s) :
    State.stop (State.enterRequests s ops) := by
  simp (maxDischargeDepth := 60) +contextual [State.enterRequests, hO, State.each_stop, State.updCell_stop]
@[simp] theorem State.refuseOps_stop (s : State) (ops : List OpCmd) (hO : State.stop s) :
    State.stop (State.refuseOps s ops) := by
  simp (maxDischargeDepth := 60) +contextual [State.refuseOps, hO, State.each_stop, State.updCell_stop]
@[simp] theorem State.routeEvent_stop (s : State) (r : Nat) (states : List Nat) (due : RouteEntry → RouteCell → Bool) (hO : State.stop s) :
    State.stop (State.routeEvent s r states due) := by
  unfold State.routeEvent; split <;> simp (maxDischargeDepth := 60) [hO]
theorem execSettingTimeLimit_stop (route : Nat) (s : State) (hO : State.stop s) :
    ∀ t, (execSettingTimeLimit route s) = .next t → State.stop t := by
  rintro _ ⟨⟩; simp (maxDischargeDepth := 60) [hO]
theorem execRequestLifetime_stop (route : Nat) (s : State) (hO : State.stop s) :
    ∀ t, (execRequestLifetime route s) = .next t → State.stop t := by
  rintro _ ⟨⟩; simp (maxDischargeDepth := 60) [hO]
theorem execApproachReleaseTimer_stop (route : Nat) (s : State) (hO : State.stop s) :
    ∀ t, (execApproachReleaseTimer route s) = .next t → State.stop t := by
  rintro _ ⟨⟩; simp (maxDischargeDepth := 60) [hO]
theorem execOverlapReleaseTimer_stop (route : Nat) (s : State) (hO : State.stop s) :
    ∀ t, (execOverlapReleaseTimer route s) = .next t → State.stop t := by
  rintro _ ⟨⟩; simp (maxDischargeDepth := 60) [hO]
theorem execReleasingTimeout_stop (route : Nat) (s : State) (hO : State.stop s) :
    ∀ t, (execReleasingTimeout route s) = .next t → State.stop t := by
  rintro _ ⟨⟩; simp (maxDischargeDepth := 60) [hO]
@[simp] theorem State.storeTables_stop (s : State) (hO : State.stop s) :
    State.stop (State.storeTables s) := by
  exact hO
@[simp] theorem State.buildVecs_stop (s : State) (hO : State.stop s) :
    State.stop (State.buildVecs s) := by
  simp (maxDischargeDepth := 60) +contextual [State.buildVecs, hO, State.each_stop, State.updCell_stop]
@[simp] theorem State.tableCheck_stop (s : State) (hO : State.stop s) :
    State.stop (State.tableCheck s) := by
  exact hO
@[simp] theorem State.syncConns_stop (s : State) (hO : State.stop s) :
    State.stop (State.syncConns s) := by
  exact hO
@[simp] theorem State.resetConns_stop (s : State) (hO : State.stop s) :
    State.stop (State.resetConns s) := by
  exact hO
@[simp] theorem State.bindForces_stop (s : State) (hO : State.stop s) :
    State.stop (State.bindForces s) := by
  exact hO
@[simp] theorem State.applyForceMarks_stop (s : State) (hO : State.stop s) :
    State.stop (State.applyForceMarks s) := by
  exact hO
@[simp] theorem State.coldStart_stop (s : State) (hO : State.stop s) :
    State.stop (State.coldStart s) := by
  simp (maxDischargeDepth := 60) [State.coldStart, hO]
@[simp] theorem State.warmStart_stop (s : State) (passed : Nat) (hO : State.stop s) :
    State.stop (State.warmStart s passed) := by
  exact hO
@[simp] theorem State.startApp_stop (s : State) (hO : State.stop s) :
    State.stop (State.startApp s) := by
  simp (maxDischargeDepth := 60) [State.startApp, hO]
@[simp] theorem State.graftLanes_stop (s : State) (hO : State.stop s) :
    State.stop (State.graftLanes s) := by
  exact hO
@[simp] theorem State.graft_stop (s : State) (r : CmdRef) (new : Image) (hO : State.stop s) :
    State.stop (State.graft s r new) := by
  simp (maxDischargeDepth := 60) [State.graft, hO]
@[simp] theorem State.latchSummary_stop (s : State) (hO : State.stop s) :
    State.stop (State.latchSummary s) := by
  exact hO
@[simp] theorem State.seeRing_stop (s : State) (addr : Nat) (n : Nat) (hO : State.stop s) :
    State.stop (State.seeRing s addr n) := by
  simp (maxDischargeDepth := 60) [State.seeRing, hO]
@[simp] theorem State.testFsv_stop (s : State) (id target : Nat) (hO : State.stop s) :
    State.stop (State.testFsv s id target).2 := by
  unfold State.testFsv; split <;> simp [hO]
@[simp] theorem State.coverLane_stop (s : State) (l : Lane) (hO : State.stop s) :
    State.stop (State.coverLane s l) := by
  simp (maxDischargeDepth := 60) [State.coverLane, hO]
@[simp] theorem State.clocheStart_stop (s : State) (hO : State.stop s) :
    State.stop (State.clocheStart s) := by
  unfold State.clocheStart; dsimp only; (repeat' split) <;> simp (maxDischargeDepth := 60) +contextual [hO, State.each_stop, State.when_stop, State.updCell_stop]
@[simp] theorem State.testFailed_stop (s : State) (id : Nat) (target : Nat) (hO : State.stop s) :
    State.stop (State.testFailed s id target) := by
  unfold State.testFailed; dsimp only; (repeat' split) <;> simp (maxDischargeDepth := 60) +contextual [hO, State.each_stop, State.when_stop, State.updCell_stop]
@[simp] theorem State.testPassed_stop (s : State) (id : Nat) (target : Nat) (hO : State.stop s) :
    State.stop (State.testPassed s id target) := by
  unfold State.testPassed; dsimp only; (repeat' split) <;> simp (maxDischargeDepth := 60) +contextual [hO, State.each_stop, State.when_stop, State.updCell_stop]
@[simp] theorem State.uncoverLane_stop (s : State) (l : Lane) (took : Bool) (hO : State.stop s) :
    State.stop (State.uncoverLane s l took) := by
  exact hO
@[simp] theorem State.clocheEnd_stop (s : State) (hO : State.stop s) :
    State.stop (State.clocheEnd s) := by
  unfold State.clocheEnd; dsimp only; (repeat' split) <;> simp (maxDischargeDepth := 60) +contextual [hO, State.each_stop, State.when_stop, State.updCell_stop]
theorem execTestComplete_stop (codes : List Nat) (s : State) (hO : State.stop s) :
    ∀ t, (execTestComplete codes s) = .next t → State.stop t := by
  rintro _ ⟨⟩; (repeat' split) <;> simp (maxDischargeDepth := 60) [hO]
theorem execPreconditionCheck_stop (q : Quantities) (s : State) (hO : State.stop s) :
    ∀ t, (execPreconditionCheck q s) = .next t → State.stop t := by
  rintro _ ⟨⟩; dsimp only; (repeat' split) <;> simp_all
theorem execOscillatorMeasurement_stop (offset : Int) (s : State) (hO : State.stop s) :
    ∀ t, (execOscillatorMeasurement offset s) = .next t → State.stop t := by
  rintro _ ⟨⟩; simp (maxDischargeDepth := 60) [hO]
@[simp] theorem State.testAtApply_stop (s : State) (old : Settings) (img : Bool) (hO : State.stop s) :
    State.stop (State.testAtApply s old img) := by
  unfold State.testAtApply; split <;> simp (maxDischargeDepth := 60) [hO]
@[simp] theorem State.passesAtApply_stop (s : State) (old : Settings) (hO : State.stop s) :
    State.stop (State.passesAtApply s old) := by
  exact hO
@[simp] theorem State.breakCheck_stop (s : State) (hO : State.stop s) :
    State.stop (State.breakCheck s) := by
  unfold State.breakCheck; split <;> simp (maxDischargeDepth := 60) [hO]
@[simp] theorem State.cancelApply_stop (s : State) (hO : State.stop s) :
    State.stop (State.cancelApply s) := by
  unfold State.cancelApply; split <;> simp (maxDischargeDepth := 60) [hO]
@[simp] theorem State.retryApply_stop (s : State) (hO : State.stop s) :
    State.stop (State.retryApply s) := by
  unfold State.retryApply; split <;> simp (maxDischargeDepth := 60) [hO]
@[simp] theorem State.warmChanged_stop (s : State) (old : Settings) (hO : State.stop s) :
    State.stop (State.warmChanged s old) := by
  simp (maxDischargeDepth := 60) +contextual [State.warmChanged, hO, State.each_stop, State.updCell_stop]
@[simp] theorem State.markConns_stop (s : State) (old : Settings) (hO : State.stop s) :
    State.stop (State.markConns s old) := by
  simp (maxDischargeDepth := 60) +contextual [State.markConns, hO, State.each_stop, State.updCell_stop]
@[simp] theorem State.syncRecs_stop (s : State) (hO : State.stop s) :
    State.stop (State.syncRecs s) := by
  exact hO
@[simp] theorem State.ringModes_stop (s : State) (old : Settings) (hO : State.stop s) :
    State.stop (State.ringModes s old) := by
  simp (maxDischargeDepth := 60) +contextual [State.ringModes, hO, State.each_stop, State.updCell_stop]
@[simp] theorem State.putSettings_stop (s : State) (st : Settings) (hO : State.stop s) :
    State.stop (State.putSettings s st) := by
  simp (maxDischargeDepth := 60) [State.putSettings, hO]
@[simp] theorem State.forceChange_stop (s : State) (r : CmdRef) (old : ForceEntry) (new : ForceEntry) (hO : State.stop s) :
    State.stop (State.forceChange s r old new) := by
  simp (maxDischargeDepth := 60) [State.forceChange, hO]
@[simp] theorem State.putForces_stop (s : State) (r : CmdRef) (fs : List ForceEntry) (hO : State.stop s) :
    State.stop (State.putForces s r fs) := by
  simp (maxDischargeDepth := 60) +contextual [State.putForces, hO, State.each_stop, State.updCell_stop]
@[simp] theorem State.applyRecords_stop (s : State) (r : CmdRef) (hO : State.stop s) :
    State.stop (State.applyRecords s r) := by
  simp (maxDischargeDepth := 60) +contextual [State.applyRecords, hO, State.each_stop, State.updCell_stop]
@[simp] theorem State.makeApply_stop (s : State) (a : ApplySt) (new : Option Image) (hO : State.stop s) :
    State.stop (State.makeApply s a new) := by
  unfold State.makeApply; split <;> simp (maxDischargeDepth := 60) [hO]
@[simp] theorem State.graftFails_stop (s : State) (a : ApplySt) (item : Nat) (hO : State.stop s) :
    State.stop (State.graftFails s a item) := by
  simp (maxDischargeDepth := 60) [State.graftFails, hO]
@[simp] theorem State.ftgenFails_stop (s : State) (a : ApplySt) (hO : State.stop s) :
    State.stop (State.ftgenFails s a) := by
  simp (maxDischargeDepth := 60) [State.ftgenFails, hO]
@[simp] theorem State.doApply_stop (s : State) (a : ApplySt) (hO : State.stop s) :
    State.stop (State.doApply s a) := by
  unfold State.doApply; dsimp only; (repeat' split) <;> simp_all
@[simp] theorem State.applyStep_stop (s : State) (hO : State.stop s) :
    State.stop (State.applyStep s) := by
  unfold State.applyStep; split <;> simp (maxDischargeDepth := 60) [hO]
@[simp] theorem State.finishApply_stop (s : State) (hO : State.stop s) :
    State.stop (State.finishApply s) := by
  unfold State.finishApply; split <;> simp (maxDischargeDepth := 60) [hO]
@[simp] theorem State.bootSettings_stop (s : State) (hO : State.stop s) :
    State.stop (State.bootSettings s) := by
  unfold State.bootSettings; dsimp only; (repeat' split) <;> simp_all
@[simp] theorem State.forceDone_stop (s : State) (f : ForceCmd) (status : Nat) (code : Nat) (hO : State.stop s) :
    State.stop (State.forceDone s f status code) := by
  simp (maxDischargeDepth := 60) [State.forceDone, hO]
@[simp] theorem State.setForceNow_stop (s : State) (f : ForceCmd) (hO : State.stop s) :
    State.stop (State.setForceNow s f) := by
  unfold State.setForceNow; dsimp only; (repeat' split) <;> simp_all
@[simp] theorem State.clearForceNow_stop (s : State) (f : ForceCmd) (hO : State.stop s) :
    State.stop (State.clearForceNow s f) := by
  unfold State.clearForceNow; dsimp only; (repeat' split) <;> simp_all
@[simp] theorem State.forceNow_stop (s : State) (f : ForceCmd) (hO : State.stop s) :
    State.stop (State.forceNow s f) := by
  simp (maxDischargeDepth := 60) [State.forceNow, hO]
@[simp] theorem State.forceStep_stop (s : State) (hO : State.stop s) :
    State.stop (State.forceStep s) := by
  simp (maxDischargeDepth := 60) +contextual [State.forceStep, hO, State.each_stop, State.updCell_stop]
@[simp] theorem State.endCheck_stop (s : State) (r : CmdRef) (res : CheckRes) (lanes : List Lane) (passed : Lane → Bool) (hO : State.stop s) :
    State.stop (State.endCheck s r res lanes passed) := by
  simp (maxDischargeDepth := 60) [State.endCheck, hO]
theorem execStageCheckDone_stop (differs : Trio Bool) (s : State) (hO : State.stop s) :
    ∀ t, (execStageCheckDone differs s) = .next t → State.stop t := by
  rintro _ ⟨⟩; dsimp only; (repeat' split) <;> simp_all
@[simp] theorem State.maintStep_stop (s : State) (hO : State.stop s) :
    State.stop (State.maintStep s) := by
  unfold State.maintStep; split <;> simp (maxDischargeDepth := 60) [hO]
@[simp] theorem State.makeTransition_stop (s : State) (target : LcState) (r : CmdRef) (signer : Nat) (reason : Bytes) (hO : State.stop s) :
    State.stop (State.makeTransition s target r signer reason) := by
  simp (maxDischargeDepth := 60) [State.makeTransition, hO]
@[simp] theorem State.refuseTransition_stop (s : State) (target : Nat) (r : CmdRef) (signer : Nat) (status : Nat) (hO : State.stop s) :
    State.stop (State.refuseTransition s target r signer status) := by
  simp (maxDischargeDepth := 60) [State.refuseTransition, hO]
@[simp] theorem State.lcStep_stop (s : State) (hO : State.stop s) :
    State.stop (State.lcStep s) := by
  unfold State.lcStep; dsimp only; (repeat' split) <;> simp_all
@[simp] theorem State.lcErase_stop (s : State) (src : LcState) (target : LcState) (hO : State.stop s) :
    State.stop (State.lcErase s src target) := by
  unfold State.lcErase; split <;> simp (maxDischargeDepth := 60) [hO]
@[simp] theorem State.lcNow_stop (s : State) (target : LcState) (r : CmdRef) (signer : Nat) (reason : Bytes) (hO : State.stop s) :
    State.stop (State.lcNow s target r signer reason) := by
  simp (maxDischargeDepth := 60) [State.lcNow, hO]
@[simp] theorem State.latchTamperAt_stop (s : State) (wt : Nat) (hO : State.stop s) :
    State.stop (State.latchTamperAt s wt) := by
  simp (maxDischargeDepth := 60) [State.latchTamperAt, hO]
@[simp] theorem State.latchTamper_stop (s : State) (hO : State.stop s) :
    State.stop (State.latchTamper s) := by
  simp (maxDischargeDepth := 60) [State.latchTamper, hO]
@[simp] theorem State.unpoweredOpening_stop (s : State) (hO : State.stop s) :
    State.stop (State.unpoweredOpening s) := by
  simp (maxDischargeDepth := 60) [State.unpoweredOpening, hO]
theorem execTamperSwitchOpen_stop (s : State) (hO : State.stop s) :
    ∀ t, (execTamperSwitchOpen s) = .next t → State.stop t := by
  rintro _ ⟨⟩; simp (maxDischargeDepth := 60) [hO]
theorem execSealLoopCheck_stop (intact : Bool) (s : State) (hO : State.stop s) :
    ∀ t, (execSealLoopCheck intact s) = .next t → State.stop t := by
  rintro _ ⟨⟩; simp (maxDischargeDepth := 60) [hO]
theorem execUnpoweredEnclosureOpening_stop (s : State) (hO : State.stop s) :
    ∀ t, (execUnpoweredEnclosureOpening s) = .next t → State.stop t := by
  rintro _ ⟨⟩; simp (maxDischargeDepth := 60) [hO]
@[simp] theorem State.bootTamper_stop (s : State) (loopOk : Bool) (unfed : Bool) (downOt : Nat) (hO : State.stop s) :
    State.stop (State.bootTamper s loopOk unfed downOt) := by
  simp (maxDischargeDepth := 60) [State.bootTamper, hO]
theorem execUpdVerifyDone_stop (s : State) (hO : State.stop s) :
    ∀ t, (execUpdVerifyDone s) = .next t → State.stop t := by
  rintro _ ⟨⟩; (repeat' split) <;> simp (maxDischargeDepth := 60) [hO]
theorem execUpdateSessionTimeout_stop (s : State) (hO : State.stop s) :
    ∀ t, (execUpdateSessionTimeout s) = .next t → State.stop t := by
  rintro _ ⟨⟩; simp (maxDischargeDepth := 60) [hO]
@[simp] theorem State.actProgress_stop (s : State) (step : Nat) (hO : State.stop s) :
    State.stop (State.actProgress s step) := by
  unfold State.actProgress; split <;> simp (maxDischargeDepth := 60) [hO]
@[simp] theorem State.beginTurn_stop (s : State) (a : ActSt) (lane : Lane) (hO : State.stop s) :
    State.stop (State.beginTurn s a lane) := by
  simp (maxDischargeDepth := 60) [State.beginTurn, hO]
@[simp] theorem State.turnStart_stop (s : State) (hO : State.stop s) :
    State.stop (State.turnStart s) := by
  unfold State.turnStart; (repeat' split) <;> simp (maxDischargeDepth := 60) [hO]
theorem execLaneTurn_stop (lane : Lane) (s : State) (hO : State.stop s) :
    ∀ t, (execLaneTurn lane s) = .next t → State.stop t := by
  rintro _ ⟨⟩; (repeat' split) <;> simp (maxDischargeDepth := 60) [hO]
theorem execKernelLoadDone_stop (lane : Lane) (s : State) (hO : State.stop s) :
    ∀ t, (execKernelLoadDone lane s) = .next t → State.stop t := by
  rintro _ ⟨⟩; simp (maxDischargeDepth := 60) [hO]
@[simp] theorem State.turnEnds_stop (s : State) (l : Lane) (hO : State.stop s) :
    State.stop (State.turnEnds s l) := by
  unfold State.turnEnds; split <;> simp (maxDischargeDepth := 60) [hO]
@[simp] theorem State.switchLevel_stop (s : State) (hO : State.stop s) :
    State.stop (State.switchLevel s) := by
  unfold State.switchLevel; split <;> simp (maxDischargeDepth := 60) [hO]
@[simp] theorem State.switchStart_stop (s : State) (hO : State.stop s) :
    State.stop (State.switchStart s) := by
  simp (maxDischargeDepth := 60) [State.switchStart, hO]
theorem execLevelSwitch_stop (s : State) (hO : State.stop s) :
    ∀ t, (execLevelSwitch s) = .next t → State.stop t := by
  rintro _ ⟨⟩; simp (maxDischargeDepth := 60) [hO]
@[simp] theorem State.actStart_stop (s : State) (hO : State.stop s) :
    State.stop (State.actStart s) := by
  unfold State.actStart; split <;> simp (maxDischargeDepth := 60) [hO]
theorem execImageConfirmed_stop (s : State) (hO : State.stop s) :
    ∀ t, (execImageConfirmed s) = .next t → State.stop t := by
  rintro _ ⟨⟩; (repeat' split) <;> simp (maxDischargeDepth := 60) [hO]
theorem execPostActivationTimeout_stop (s : State) (hO : State.stop s) :
    ∀ t, (execPostActivationTimeout s) = .next t → State.stop t := by
  rintro _ ⟨⟩; (repeat' split) <;> simp (maxDischargeDepth := 60) [hO]
@[simp] theorem State.putSend_stop (s : State) (r : SendRec) (hO : State.stop s) :
    State.stop (State.putSend s r) := by
  exact hO
@[simp] theorem State.putFb_stop (s : State) (off : Nat) (b : Bytes) (hO : State.stop s) :
    State.stop (State.putFb s off b) := by
  exact hO
@[simp] theorem State.commitItem_stop (held : List CmdRef) (s : State) (x2 : MirrorItem) (hO : State.stop s) :
    State.stop (State.commitItem held s x2) := by
  unfold State.commitItem; split <;> simp (maxDischargeDepth := 60) [hO]
@[simp] theorem State.commitSet_stop (s : State) (is : List MirrorItem) (hO : State.stop s) : State.stop (s.commitSet is) := by
  unfold State.commitSet; dsimp only
  apply State.bindForces_stop
  exact State.each_stop _ _ _ hO fun s x h => State.commitItem_stop _ s x h
@[simp] theorem State.unconfirm_stop (s : State) (is : List MirrorItem) (hO : State.stop s) :
    State.stop (State.unconfirm s is) := by
  exact hO
@[simp] theorem State.sbAnswer_stop (s : State) (ini : Initiator) (win : Nat) (off : Nat) (op : Nat) (fstat : Nat) (retry : Bool) (data : Bytes) (hO : State.stop s) :
    State.stop (State.sbAnswer s ini win off op fstat retry data) := by
  exact hO
@[simp] theorem State.takeSbSeq_stop (s : State) (hO : State.stop s) :
    State.stop (State.takeSbSeq s).2 := by
  exact hO
@[simp] theorem State.sendBridge_stop (s : State) (dst : Nat) (seq : Nat) (payload : Bytes) (hO : State.stop s) :
    State.stop (State.sendBridge s dst seq payload) := by
  simp (maxDischargeDepth := 60) [State.sendBridge, hO]
@[simp] theorem State.sendXfer_stop (s : State) (x : Xfer) (hO : State.stop s) :
    State.stop (State.sendXfer s x) := by
  simp (maxDischargeDepth := 60) [State.sendXfer, hO]
@[simp] theorem State.pumpWindow_stop (s : State) (w : Nat) (hO : State.stop s) :
    State.stop (State.pumpWindow s w) := by
  unfold State.pumpWindow; dsimp only; (repeat' split) <;> simp_all
@[simp] theorem State.finishXfer_stop (s : State) (x : Xfer) (fstat : Nat) (data : Bytes) (hO : State.stop s) :
    State.stop (State.finishXfer s x fstat data) := by
  simp (maxDischargeDepth := 60) [State.finishXfer, hO]
@[simp] theorem State.spoil_stop (s : State) (win : Nat) (off : Nat) (len : Nat) (hO : State.stop s) :
    State.stop (State.spoil s win off len) := by
  exact hO
@[simp] theorem State.sbTake_stop (s : State) (ini : Initiator) (win : Nat) (off : Nat) (op : Nat) (len : Nat) (data : Bytes) (hO : State.stop s) :
    State.stop (State.sbTake s ini win off op len data) := by
  simp (maxDischargeDepth := 60) [State.sbTake, hO]
@[simp] theorem State.postedOff_stop (s : State) (win : Nat) (off : Nat) (data : Bytes) (hO : State.stop s) :
    State.stop (State.postedOff s win off data) := by
  simp (maxDischargeDepth := 60) [State.postedOff, hO]
@[simp] theorem State.sbIssueWrite_stop (s : State) (ini : Initiator) (win : Nat) (off : Nat) (op : Nat) (data : Bytes) (hO : State.stop s) :
    State.stop (State.sbIssueWrite s ini win off op data) := by
  unfold State.sbIssueWrite; split <;> simp (maxDischargeDepth := 60) [hO]
@[simp] theorem State.sbIssueRead_stop (s : State) (ini : Initiator) (win : Nat) (off : Nat) (len : Nat) (hO : State.stop s) :
    State.stop (State.sbIssueRead s ini win off len) := by
  unfold State.sbIssueRead; (repeat' split) <;> simp (maxDischargeDepth := 60) [hO]
theorem execSbWrite_stop (win : Nat) (off : Nat) (data : Bytes) (s : State) (hO : State.stop s) :
    ∀ t, (execSbWrite win off data s) = .next t → State.stop t := by
  rintro _ ⟨⟩; simp (maxDischargeDepth := 60) [hO]
theorem execSbRead_stop (win : Nat) (off : Nat) (len : Nat) (s : State) (hO : State.stop s) :
    ∀ t, (execSbRead win off len s) = .next t → State.stop t := by
  rintro _ ⟨⟩; simp (maxDischargeDepth := 60) [hO]
theorem execSbPostedWrite_stop (win : Nat) (off : Nat) (data : Bytes) (s : State) (hO : State.stop s) :
    ∀ t, (execSbPostedWrite win off data s) = .next t → State.stop t := by
  rintro _ ⟨⟩; simp (maxDischargeDepth := 60) [hO]
@[simp] theorem State.laneTransfer_stop (s : State) (t : LaneTransfer) (hO : State.stop s) :
    State.stop (State.laneTransfer s t) := by
  unfold State.laneTransfer; split <;> simp (maxDischargeDepth := 60) [hO]
@[simp] theorem State.laneTransfers_stop (s : State) (issued : Trio (List LaneTransfer)) (hO : State.stop s) :
    State.stop (State.laneTransfers s issued) := by
  simp (maxDischargeDepth := 60) +contextual [State.laneTransfers, hO, State.each_stop, State.updCell_stop]
@[simp] theorem State.freezeBridge_stop (s : State) (hO : State.stop s) :
    State.stop (State.freezeBridge s) := by
  exact hO
@[simp] theorem State.serve_stop (s : State) (bop : Nat) (addr : Nat) (len : Nat) (data : Bytes) (hO : State.stop s) :
    State.stop (State.serve s bop addr len data).2.2 := by
  unfold State.serve; dsimp only; (repeat' split) <;> simp_all
@[simp] theorem State.inbound_stop (s : State) (g : Gvt) (hO : State.stop s) :
    State.stop (State.inbound s g) := by
  unfold State.inbound; dsimp only; (repeat' split) <;> simp (maxDischargeDepth := 60) +contextual [hO, State.each_stop, State.when_stop, State.updCell_stop]
@[simp] theorem State.completion_stop (s : State) (g : Gvt) (hO : State.stop s) :
    State.stop (State.completion s g) := by
  unfold State.completion; split <;> simp (maxDischargeDepth := 60) [hO]
@[simp] theorem State.tvFail_stop (s : State) (hO : State.stop s) :
    State.stop (State.tvFail s) := by
  simp (maxDischargeDepth := 60) [State.tvFail, hO]
theorem execBridgeFrameReceived_stop (net : Net) (f : Frame) (s : State) (hO : State.stop s) :
    ∀ t, (execBridgeFrameReceived net f s) = .next t → State.stop t := by
  rintro _ ⟨⟩; dsimp only; split
  · exact hO
  · refine State.notOwn_stop _ _ _ hO ?_; (repeat' split) <;> simp (maxDischargeDepth := 60) [hO]
theorem execSbTransferTimeout_stop (seq : Nat) (s : State) (hO : State.stop s) :
    ∀ t, (execSbTransferTimeout seq s) = .next t → State.stop t := by
  rintro _ ⟨⟩; (repeat' split) <;> simp (maxDischargeDepth := 60) [hO]
theorem execSbBusyRetry_stop (seq : Nat) (s : State) (hO : State.stop s) :
    ∀ t, (execSbBusyRetry seq s) = .next t → State.stop t := by
  rintro _ ⟨⟩; (repeat' split) <;> simp (maxDischargeDepth := 60) [hO]
theorem execSbHeldResultExpiry_stop (vk : Bool) (win : Nat) (off : Nat) (len : Nat) (s : State) (hO : State.stop s) :
    ∀ t, (execSbHeldResultExpiry vk win off len s) = .next t → State.stop t := by
  rintro _ ⟨⟩; simp (maxDischargeDepth := 60) [hO]
@[simp] theorem State.updPair_stop (s : State) (f : PairSt → PairSt) (hO : State.stop s) :
    State.stop (State.updPair s f) := by
  exact hO
theorem execPstartReceived_stop (m : PStart) (us : Nat) (s : State) (hO : State.stop s) :
    ∀ t, (execPstartReceived m us s) = .next t → State.stop t := by
  rintro _ ⟨⟩; simp (maxDischargeDepth := 60) [hO]
theorem execMblockReceived_stop (m : MBlock) (s : State) (hO : State.stop s) :
    ∀ t, (execMblockReceived m s) = .next t → State.stop t := by
  rintro _ ⟨⟩; simp (maxDischargeDepth := 60) [hO]
theorem execMcloseReceived_stop (m : MClose) (s : State) (hO : State.stop s) :
    ∀ t, (execMcloseReceived m s) = .next t → State.stop t := by
  rintro _ ⟨⟩; simp (maxDischargeDepth := 60) [hO]
theorem execPreportReceived_stop (crcOk : Bool) (h : Health) (s : State) (hO : State.stop s) :
    ∀ t, (execPreportReceived crcOk h s) = .next t → State.stop t := by
  rintro _ ⟨⟩; simp (maxDischargeDepth := 60) [hO]
@[simp] theorem State.noteCmd_stop (s : State) (r : CmdRef) (hO : State.stop s) :
    State.stop (State.noteCmd s r) := by
  exact hO
theorem execCmdfwdReceived_stop (m : CmdFwdMsg) (s : State) (hO : State.stop s) :
    ∀ t, (execCmdfwdReceived m s) = .next t → State.stop t := by
  rintro _ ⟨⟩; simp (maxDischargeDepth := 60) [hO]
theorem execHeartbeatReceived_stop (net : Net) (f : Frame) (s : State) (hO : State.stop s) :
    ∀ t, (execHeartbeatReceived net f s) = .next t → State.stop t := by
  rintro _ ⟨⟩; dsimp only; split
  · exact hO
  · refine State.notOwn_stop _ _ _ hO ?_; (repeat' split) <;> simp (maxDischargeDepth := 60) [hO]
@[simp] theorem State.sendHeartbeat_stop (s : State) (hO : State.stop s) :
    State.stop (State.sendHeartbeat s) := by
  simp (maxDischargeDepth := 60) [State.sendHeartbeat, hO]
theorem execPlLinkLoss_stop (link2 : Bool) (s : State) (hO : State.stop s) :
    ∀ t, (execPlLinkLoss link2 s) = .next t → State.stop t := by
  rintro _ ⟨⟩; simp (maxDischargeDepth := 60) [hO]
theorem execPlLinkReturn_stop (link2 : Bool) (s : State) (hO : State.stop s) :
    ∀ t, (execPlLinkReturn link2 s) = .next t → State.stop t := by
  rintro _ ⟨⟩; simp (maxDischargeDepth := 60) [hO]
theorem execOpticInserted_stop (link2 : Bool) (kind : Optic) (s : State) (hO : State.stop s) :
    ∀ t, (execOpticInserted link2 kind s) = .next t → State.stop t := by
  rintro _ ⟨⟩; simp (maxDischargeDepth := 60) [hO]
@[simp] theorem State.pairCmdDone_stop (s : State) (r : CmdRef) (before : Nat) (after : Nat) (st : Nat) (hO : State.stop s) :
    State.stop (State.pairCmdDone s r before after st) := by
  simp (maxDischargeDepth := 60) [State.pairCmdDone, hO]
@[simp] theorem State.endHandover_stop (s : State) (after : Nat) (st : Nat) (hO : State.stop s) :
    State.stop (State.endHandover s after st) := by
  unfold State.endHandover; split <;> simp (maxDischargeDepth := 60) [hO]
@[simp] theorem State.handoverDone_stop (s : State) (hO : State.stop s) :
    State.stop (State.handoverDone s) := by
  simp (maxDischargeDepth := 60) [State.handoverDone, hO]
@[simp] theorem State.becomeFollow_stop (s : State) (instep : Nat) (hO : State.stop s) :
    State.stop (State.becomeFollow s instep) := by
  simp (maxDischargeDepth := 60) [State.becomeFollow, hO]
@[simp] theorem State.outOfStep_stop (s : State) (hO : State.stop s) :
    State.stop (State.outOfStep s) := by
  simp (maxDischargeDepth := 60) [State.outOfStep, hO]
@[simp] theorem State.relinquish_stop (s : State) (hO : State.stop s) :
    State.stop (State.relinquish s) := by
  simp (maxDischargeDepth := 60) [State.relinquish, hO]
theorem execPartnerSilent_stop (s : State) (hO : State.stop s) :
    ∀ t, (execPartnerSilent s) = .next t → State.stop t := by
  rintro _ ⟨⟩; simp (maxDischargeDepth := 60) [hO]
theorem execRevertHoldOff_stop (s : State) (hO : State.stop s) :
    ∀ t, (execRevertHoldOff s) = .next t → State.stop t := by
  rintro _ ⟨⟩; rw [if_neg (by simp [State.mayReturn, State.pairOn_stop s hO])]; exact hO
@[simp] theorem State.comeInStep_stop (s : State) (hO : State.stop s) :
    State.stop (State.comeInStep s) := by
  simp (maxDischargeDepth := 60) [State.comeInStep, hO]
theorem execInStep_stop (s : State) (hO : State.stop s) :
    ∀ t, (execInStep s) = .next t → State.stop t := by
  rintro _ ⟨⟩; simp (maxDischargeDepth := 60) [hO]
@[simp] theorem State.endConflict_stop (s : State) (hO : State.stop s) :
    State.stop (State.endConflict s) := by
  simp (maxDischargeDepth := 60) [State.endConflict, hO]
theorem execLeadClaimConflict_stop (s : State) (hO : State.stop s) :
    ∀ t, (execLeadClaimConflict s) = .next t → State.stop t := by
  rintro _ ⟨⟩; simp (maxDischargeDepth := 60) [hO]
@[simp] theorem State.joinRestart_stop (s : State) (hO : State.stop s) :
    State.stop (State.joinRestart s) := by
  simp (maxDischargeDepth := 60) [State.joinRestart, hO]
@[simp] theorem State.joinExpiry_stop (s : State) (hO : State.stop s) :
    State.stop (State.joinExpiry s) := by
  simp (maxDischargeDepth := 60) [State.joinExpiry, hO]
theorem execJoinWaitExpiry_stop (s : State) (hO : State.stop s) :
    ∀ t, (execJoinWaitExpiry s) = .next t → State.stop t := by
  rintro _ ⟨⟩; simp (maxDischargeDepth := 60) [hO]
theorem execPairApplyTimeout_stop (s : State) (hO : State.stop s) :
    ∀ t, (execPairApplyTimeout s) = .next t → State.stop t := by
  rintro _ ⟨⟩; simp (maxDischargeDepth := 60) [hO]
@[simp] theorem State.dropFar_stop (s : State) (hO : State.stop s) :
    State.stop (State.dropFar s) := by
  simp (maxDischargeDepth := 60) [State.dropFar, hO]
@[simp] theorem State.fallSilent_stop (s : State) (hO : State.stop s) :
    State.stop (State.fallSilent s) := by
  simp (maxDischargeDepth := 60) [State.fallSilent, hO]
@[simp] theorem State.pairCount_stop (s : State) (hO : State.stop s) :
    State.stop (State.pairCount s) := by
  unfold State.pairCount; split <;> simp (maxDischargeDepth := 60) [hO]
@[simp] theorem State.countSilence_stop (s : State) (hO : State.stop s) :
    State.stop (State.countSilence s) := by
  simp (maxDischargeDepth := 60) [State.countSilence, hO]
@[simp] theorem State.adoptEpoch_stop (s : State) (hO : State.stop s) :
    State.stop (State.adoptEpoch s) := by
  simp (maxDischargeDepth := 60) [State.adoptEpoch, hO]
@[simp] theorem State.claims_stop (s : State) (hO : State.stop s) :
    State.stop (State.claims s) := by
  simp (maxDischargeDepth := 60) [State.claims, hO]
@[simp] theorem State.compareOne_stop (s : State) (h : Health) (hO : State.stop s) :
    State.stop (State.compareOne s h) := by
  unfold State.compareOne; split <;> simp (maxDischargeDepth := 60) [hO]
@[simp] theorem State.compareReports_stop (s : State) (hO : State.stop s) :
    State.stop (State.compareReports s) := by
  simp (maxDischargeDepth := 60) +contextual [State.compareReports, hO, State.each_stop, State.updCell_stop]
@[simp] theorem State.keepOwn_stop (s : State) (is : List MirrorItem) (hO : State.stop s) :
    State.stop (State.keepOwn s is) := by
  simp (maxDischargeDepth := 60) [State.keepOwn, hO]
@[simp] theorem State.commitMirror_stop (s : State) (hO : State.stop s) :
    State.stop (State.commitMirror s) := by
  unfold State.commitMirror; dsimp only; (repeat' split) <;> simp (maxDischargeDepth := 60) +contextual [hO, State.each_stop, State.when_stop, State.updCell_stop]
@[simp] theorem State.phaseCheck_stop (s : State) (hO : State.stop s) :
    State.stop (State.phaseCheck s) := by
  simp (maxDischargeDepth := 60) [State.phaseCheck, hO]
@[simp] theorem State.phaseCorrect_stop (s : State) (hO : State.stop s) :
    State.stop (State.phaseCorrect s) := by
  exact hO
@[simp] theorem State.mirrorAbandon_stop (s : State) (hO : State.stop s) :
    State.stop (State.mirrorAbandon s) := by
  simp (maxDischargeDepth := 60) [State.mirrorAbandon, hO]
@[simp] theorem State.holdRestart_stop (s : State) (hO : State.stop s) :
    State.stop (State.holdRestart s) := by
  simp (maxDischargeDepth := 60) [State.holdRestart, hO]
@[simp] theorem State.pairStart_stop (s : State) (hO : State.stop s) :
    State.stop (State.pairStart s) := by
  simp (maxDischargeDepth := 60) [State.pairStart, hO]
@[simp] theorem State.pairClaim_stop (s : State) (hO : State.stop s) :
    State.stop (State.pairClaim s) := by
  simp (maxDischargeDepth := 60) [State.pairClaim, hO]
@[simp] theorem State.noteEntered_stop (s : State) (ops : List OpCmd) (hO : State.stop s) :
    State.stop (State.noteEntered s ops) := by
  simp (maxDischargeDepth := 60) [State.noteEntered, hO]
@[simp] theorem State.opsOf_stop (s : State) (hO : State.stop s) :
    State.stop (State.opsOf s).2 := by
  simp (maxDischargeDepth := 60) [State.opsOf, hO]
@[simp] theorem State.numberOp_stop (x : List OpCmd × State) (o : OpCmd) (hO : State.stop x.2) : State.stop (State.numberOp x o).2 := by
  unfold State.numberOp; split <;> simp [hO]
@[simp] theorem State.numberOps_stop (os : List OpCmd) (x : List OpCmd × State) (hO : State.stop x.2) :
    State.stop (os.foldl State.numberOp x).2 := by
  induction os generalizing x with
  | nil => exact hO
  | cons o os ih => exact ih _ (State.numberOp_stop _ _ hO)
@[simp] theorem State.takeOps_stop (s : State) (hO : State.stop s) :
    State.stop (State.takeOps s).2 := by
  unfold State.takeOps; dsimp only; split <;> simp [hO]
@[simp] theorem State.holdForces_stop (s : State) (hO : State.stop s) :
    State.stop (State.holdForces s) := by
  simp (maxDischargeDepth := 60) [State.holdForces, hO]
@[simp] theorem State.listForce_stop (s : State) (c : ForceCmd) (hO : State.stop s) :
    State.stop (State.listForce s c) := by
  simp (maxDischargeDepth := 60) [State.listForce, hO]
@[simp] theorem State.listApply_stop (s : State) (hO : State.stop s) :
    State.stop (State.listApply s) := by
  exact hO
@[simp] theorem State.takeLists_stop (s : State) (hO : State.stop s) :
    State.stop (State.takeLists s) := by
  unfold State.takeLists; dsimp only; (repeat' split) <;> simp (maxDischargeDepth := 60) +contextual [hO, State.each_stop, State.when_stop, State.updCell_stop]
@[simp] theorem State.sendPstart_stop (s : State) (ops : List OpCmd) (hO : State.stop s) :
    State.stop (State.sendPstart s ops) := by
  simp (maxDischargeDepth := 60) [State.sendPstart, hO]
@[simp] theorem State.formReport_stop (s : State) (hO : State.stop s) :
    State.stop (State.formReport s) := by
  exact hO
@[simp] theorem State.pairDone_stop (s : State) (hO : State.stop s) :
    State.stop (State.pairDone s) := by
  simp (maxDischargeDepth := 60) +contextual [State.pairDone, hO, State.each_stop, State.updCell_stop]
theorem execMcloseSend_stop (s : State) (hO : State.stop s) :
    ∀ t, (execMcloseSend s) = .next t → State.stop t := by
  rintro _ ⟨⟩; simp (maxDischargeDepth := 60) [hO]
@[simp] theorem State.sendTunnel_stop (s : State) (n : Nat) (seq : Nat) (data : Bytes) (hO : State.stop s) :
    State.stop (State.sendTunnel s n seq data) := by
  simp (maxDischargeDepth := 60) [State.sendTunnel, hO]
@[simp] theorem State.carry_stop (s : State) (n : Nat) (data : Bytes) (hO : State.stop s) :
    State.stop (State.carry s n data) := by
  simp (maxDischargeDepth := 60) [State.carry, hO]
@[simp] theorem State.carryOr_stop (s : State) (n : Nat) (data : Bytes) (hO : State.stop s) :
    State.stop (State.carryOr s n data) := by
  simp (maxDischargeDepth := 60) [State.carryOr, hO]
@[simp] theorem State.lineFrame_stop (s : State) (port : Nat) (data : Bytes) (bad : Bool) (hO : State.stop s) :
    State.stop (State.lineFrame s port data bad) := by
  unfold State.lineFrame; dsimp only; (repeat' split) <;> simp_all
theorem execLegacyFrameReceived_stop (port : Nat) (data : Bytes) (ending : LegacyEnd) (s : State) (hO : State.stop s) :
    ∀ t, (execLegacyFrameReceived port data ending s) = .next t → State.stop t := by
  rintro _ ⟨⟩; dsimp only; (repeat' split) <;> simp_all
@[simp] theorem State.tunnelData_stop (s : State) (n : Nat) (g : Gvt) (hO : State.stop s) :
    State.stop (State.tunnelData s n g) := by
  simp (maxDischargeDepth := 60) [State.tunnelData, hO]
theorem execTunnelFrameReceived_stop (net : Net) (f : Frame) (s : State) (hO : State.stop s) :
    ∀ t, (execTunnelFrameReceived net f s) = .next t → State.stop t := by
  rintro _ ⟨⟩; dsimp only; split
  · exact hO
  · refine State.notOwn_stop _ _ _ hO ?_; (repeat' split) <;> simp (maxDischargeDepth := 60) [hO]
theorem execLegacyTransmit_stop (tunnel : Nat) (s : State) (hO : State.stop s) :
    ∀ t, (execLegacyTransmit tunnel s) = .next t → State.stop t := by
  rintro _ ⟨⟩; dsimp only; (repeat' split) <;> simp_all
theorem execTunnelKeepalive_stop (tunnel : Nat) (s : State) (hO : State.stop s) :
    ∀ t, (execTunnelKeepalive tunnel s) = .next t → State.stop t := by
  rintro _ ⟨⟩; simp (maxDischargeDepth := 60) [hO]
theorem execTunnelDown_stop (tunnel : Nat) (s : State) (hO : State.stop s) :
    ∀ t, (execTunnelDown tunnel s) = .next t → State.stop t := by
  rintro _ ⟨⟩; simp (maxDischargeDepth := 60) [hO]
@[simp] theorem State.latchCurrent_stop (s : State) (c : Nat) (hO : State.stop s) :
    State.stop (State.latchCurrent s c) := by
  simp (maxDischargeDepth := 60) [State.latchCurrent, hO]
@[simp] theorem State.latchStatus_stop (s : State) (hO : State.stop s) :
    State.stop (State.latchStatus s) := by
  simp (maxDischargeDepth := 60) +contextual [State.latchStatus, hO, State.each_stop, State.updCell_stop]
@[simp] theorem State.updCyc_stop (s : State) (f : CycleSt → CycleSt) (hO : State.stop s) :
    State.stop (State.updCyc s f) := by
  exact hO
@[simp] theorem State.advanceSends_stop (s : State) (conns : List Nat) (hO : State.stop s) :
    State.stop (State.advanceSends s conns) := by
  exact hO
@[simp] theorem State.putForm_stop (s : State) (f : VoteForm) (hO : State.stop s) :
    State.stop (State.putForm s f) := by
  exact hO
@[simp] theorem State.holdForm_stop (s : State) (hO : State.stop s) :
    State.stop (State.holdForm s) := by
  exact hO
@[simp] theorem State.keepImage_stop (s : State) (f : VoteForm) (hO : State.stop s) :
    State.stop (State.keepImage s f) := by
  exact hO
@[simp] theorem State.tickCompare_stop (s : State) (t : Trio Nat) (hO : State.stop s) :
    State.stop (State.tickCompare s t) := by
  unfold State.tickCompare; dsimp only; (repeat' split) <;> simp (maxDischargeDepth := 60) +contextual [hO, State.each_stop, State.when_stop, State.updCell_stop]
@[simp] theorem State.otsCheck_stop (s : State) (t : Trio Nat) (hO : State.stop s) :
    State.stop (State.otsCheck s t) := by
  simp (maxDischargeDepth := 60) [State.otsCheck, hO]
@[simp] theorem State.eventEffects_stop (s : State) (hO : State.stop s) :
    State.stop (State.eventEffects s) := by
  simp (maxDischargeDepth := 60) +contextual [State.eventEffects, hO, State.each_stop, State.updCell_stop]
@[simp] theorem State.fbStores_stop (s : State) (env : StartEnv) (ls : List Lane) (hO : State.stop s) :
    State.stop (State.fbStores s env ls) := by
  simp (maxDischargeDepth := 60) +contextual [State.fbStores, hO, State.each_stop, State.updCell_stop]
@[simp] theorem State.exercise_stop (s : State) (env : StartEnv) (hO : State.stop s) :
    State.stop (State.exercise s env) := by
  simp (maxDischargeDepth := 60) +contextual [State.exercise, hO, State.each_stop, State.updCell_stop]
@[simp] theorem State.syncPass_stop (s : State) (hO : State.stop s) :
    State.stop (State.syncPass s) := by
  simp (maxDischargeDepth := 60) [State.syncPass, hO]
@[simp] theorem State.rejoinLane_stop (s : State) (l : Lane) (hO : State.stop s) :
    State.stop (State.rejoinLane s l) := by
  simp (maxDischargeDepth := 60) [State.rejoinLane, hO]
@[simp] theorem State.resyncEntry_stop (s : State) (hO : State.stop s) :
    State.stop (State.resyncEntry s) := by
  unfold State.resyncEntry; (repeat' split) <;> simp (maxDischargeDepth := 60) [hO]
@[simp] theorem State.stagedWork_stop (s : State) (hO : State.stop s) :
    State.stop (State.stagedWork s) := by
  simp (maxDischargeDepth := 60) [State.stagedWork, hO]
@[simp] theorem State.formCore_stop (s : State) (hO : State.stop s) :
    State.stop (State.formCore s) := by
  exact hO
@[simp] theorem State.fbStep_stop (s : State) (hO : State.stop s) :
    State.stop (State.fbStep s) := by
  simp (maxDischargeDepth := 60) [State.fbStep, hO]
@[simp] theorem State.runPasses_stop (s : State) (ops : List OpCmd) (dt : Nat) (hO : State.stop s) :
    State.stop (State.runPasses s ops dt) := by
  simp (maxDischargeDepth := 60) [State.runPasses, hO]
@[simp] theorem State.runCycle_stop (s : State) (ops : List OpCmd) (dt : Nat) (hO : State.stop s) :
    State.stop (State.runCycle s ops dt) := by
  simp (maxDischargeDepth := 60) [State.runCycle, hO]
@[simp] theorem State.readCommons_stop (s : State) (hO : State.stop s) :
    State.stop (State.readCommons s) := by
  simp (maxDischargeDepth := 60) +contextual [State.readCommons, hO, State.each_stop, State.updCell_stop]
@[simp] theorem State.compute_stop (s : State) (dt : Nat) (hO : State.stop s) :
    State.stop (State.compute s dt) := by
  unfold State.compute; dsimp only; (repeat' split) <;> simp (maxDischargeDepth := 60) +contextual [hO, State.each_stop, State.when_stop, State.updCell_stop]
@[simp] theorem State.takeTicks_stop (s : State) (t : Trio Nat) (hO : State.stop s) :
    State.stop (State.takeTicks s t) := by
  exact hO
@[simp] theorem State.beforeSnapshot_stop (s : State) (hO : State.stop s) :
    State.stop (State.beforeSnapshot s) := by
  simp (maxDischargeDepth := 60) +contextual [State.beforeSnapshot, hO, State.each_stop, State.updCell_stop]
@[simp] theorem State.cycleStart_stop (s : State) (env : StartEnv) (hO : State.stop s) :
    State.stop (State.cycleStart s env) := by
  simp (maxDischargeDepth := 60) [State.cycleStart, hO]
@[simp] theorem State.overrunCheck_stop (s : State) (hO : State.stop s) :
    State.stop (State.overrunCheck s) := by
  unfold State.overrunCheck; (repeat' split) <;> simp (maxDischargeDepth := 60) [hO]
theorem execOverrunLimit_stop (s : State) (hO : State.stop s) :
    ∀ t, (execOverrunLimit s) = .next t → State.stop t := by
  rintro _ ⟨⟩; simp (maxDischargeDepth := 60) [hO]
@[simp] theorem State.skipSlot_stop (s : State) (hO : State.stop s) :
    State.stop (State.skipSlot s) := by
  simp (maxDischargeDepth := 60) [State.skipSlot, hO]
@[simp] theorem State.withdrawLate_stop (s : State) (l : Lane) (hO : State.stop s) :
    State.stop (State.withdrawLate s l) := by
  simp (maxDischargeDepth := 60) [State.withdrawLate, hO]
@[simp] theorem State.doneMissing_stop (s : State) (env : StartEnv) (hO : State.stop s) :
    State.stop (State.doneMissing s env) := by
  simp (maxDischargeDepth := 60) +contextual [State.doneMissing, hO, State.each_stop, State.updCell_stop]
@[simp] theorem State.copyAbandon_stop (s : State) (hO : State.stop s) :
    State.stop (State.copyAbandon s) := by
  unfold State.copyAbandon; split <;> simp (maxDischargeDepth := 60) [hO]
@[simp] theorem State.dueTime_stop (s : State) (env : StartEnv) (hO : State.stop s) :
    State.stop (State.dueTime s env) := by
  simp (maxDischargeDepth := 60) [State.dueTime, hO]
@[simp] theorem State.enterSplit_stop (s : State) (l : Lane) (hO : State.stop s) :
    State.stop (State.enterSplit s l) := by
  simp (maxDischargeDepth := 60) [State.enterSplit, hO]
@[simp] theorem State.leaveSplit_stop (s : State) (old : State) (l : Lane) (hO : State.stop s) :
    State.stop (State.leaveSplit s old l) := by
  simp (maxDischargeDepth := 60) [State.leaveSplit, hO]
@[simp] theorem State.sendNonVital_stop (s : State) (hO : State.stop s) :
    State.stop (State.sendNonVital s) := by
  simp (maxDischargeDepth := 60) +contextual [State.sendNonVital, hO, State.each_stop, State.updCell_stop]
@[simp] theorem State.splitForm_stop (s : State) (ops : List OpCmd) (dt : Nat) (hO : State.stop s) :
    State.stop (State.splitForm s ops dt) := by
  unfold State.splitForm; split <;> simp (maxDischargeDepth := 60) [hO]
@[simp] theorem State.splitStart_stop (s : State) (env : StartEnv) (hO : State.stop s) :
    State.stop (State.splitStart s env).2 := by
  unfold State.splitStart; dsimp only
  exact State.snapConns_stop _ (State.readCommons_stop _ (State.takeOps_stop _ (State.freezeAll_stop _ (State.latchAll_stop _
    (State.beforeSnapshot_stop _ (State.updCyc_stop _ _ hO))))))
@[simp] theorem State.splitRun_stop (s : State) (env : StartEnv) (hO : State.stop s) :
    State.stop (State.splitRun s env) := by
  unfold State.splitRun; dsimp only
  exact State.latchStatus_stop _ (State.latchSummary_stop _ (State.finishApply_stop _ (State.flushCompl_stop _ (State.updCyc_stop _ _
    (State.splitForm_stop _ _ _ (State.splitStart_stop _ _ hO))))))
@[simp] theorem State.splitCycle_stop (s : State) (l : Lane) (env : StartEnv) (hO : State.stop s) :
    State.stop (State.splitCycle s l env) := by
  simp (maxDischargeDepth := 60) [State.splitCycle, hO]
theorem execDueMark_stop (lane : Lane) (env : StartEnv) (s : State) (hO : State.stop s) :
    ∀ t, (execDueMark lane env s) = .next t → State.stop t := by
  rintro _ ⟨⟩; simp (maxDischargeDepth := 60) [hO]
@[simp] theorem State.recordList_stop (s : State) (flags : Nat) (hO : State.stop s) :
    State.stop (State.recordList s flags) := by
  simp (maxDischargeDepth := 60) +contextual [State.recordList, hO, State.each_stop, State.updCell_stop]
@[simp] theorem State.recordSafe_stop (s : State) (hO : State.stop s) :
    State.stop (State.recordSafe s) := by
  simp (maxDischargeDepth := 60) [State.recordSafe, hO]
@[simp] theorem State.budget_stop (s : State) (l : Lane) (t : Nat) (hO : State.stop s) :
    State.stop (State.budget s l t) := by
  unfold State.budget
  refine State.stop_ite _ _ _ ?_ ?_
  · exact State.collect_stop _ _ (State.updCyc_stop _ _ (State.updLane_stop _ _ _ (State.updLane_stop _ _ _ hO)))
  · exact State.updLane_stop _ _ _ hO
@[simp] theorem State.postDone_stop (s : State) (comp : Trio Nat) (done : Trio Bool) (hO : State.stop s) :
    State.stop (State.postDone s comp done) := by
  simp (maxDischargeDepth := 60) +contextual [State.postDone, hO, State.each_stop, State.updCell_stop]
@[simp] theorem State.safetyLimit_stop (s : State) (hO : State.stop s) :
    State.stop (State.safetyLimit s) := by
  unfold State.safetyLimit; split <;> simp (maxDischargeDepth := 60) [hO]
theorem execSafetyCodeFailLimit_stop (s : State) (hO : State.stop s) :
    ∀ t, (execSafetyCodeFailLimit s) = .next t → State.stop t := by
  rintro _ ⟨⟩; simp (maxDischargeDepth := 60) [hO]
@[simp] theorem State.cycleEnd_stop (s : State) (hO : State.stop s) :
    State.stop (State.cycleEnd s) := by
  simp (maxDischargeDepth := 60) [State.cycleEnd, hO]
@[simp] theorem State.cycleDone_stop (s : State) (comp : Trio Nat) (done : Trio Bool) (hO : State.stop s) :
    State.stop (State.cycleDone s comp done) := by
  simp (maxDischargeDepth := 60) [State.cycleDone, hO]
@[simp] theorem State.shadow_stop (s : State) (forms : Trio FormIn) (f : VoteForm) (hO : State.stop s) :
    State.stop (State.shadow s forms f) := by
  unfold State.shadow; (repeat' split) <;> simp (maxDischargeDepth := 60) [hO]
@[simp] theorem State.minority_stop (s : State) (forms : Trio FormIn) (f : VoteForm) (l : Lane) (hO : State.stop s) :
    State.stop (State.minority s forms f l) := by
  unfold State.minority; split <;> simp (maxDischargeDepth := 60) [hO]
@[simp] theorem State.afterVote_stop (s : State) (f : VoteForm) (issued : Trio (List LaneTransfer)) (hO : State.stop s) :
    State.stop (State.afterVote s f issued) := by
  simp (maxDischargeDepth := 60) [State.afterVote, hO]
@[simp] theorem State.stampForms_stop (s : State) (forms : Trio FormIn) (hO : State.stop s) :
    State.stop (State.stampForms s forms) := by
  exact hO
theorem execExchangeClose_stop (forms : Trio FormIn) (issued : Trio (List LaneTransfer)) (comp : Trio Nat) (done : Trio Bool) (s : State) (hO : State.stop s) :
    ∀ t, (execExchangeClose forms issued comp done s) = .next t → State.stop t := by
  rintro _ ⟨⟩; simp (maxDischargeDepth := 60) [hO]
@[simp] theorem State.scFailed_stop (s : State) (conn : Nat) (names : List Lane) (hO : State.stop s) :
    State.stop (State.scFailed s conn names) := by
  simp (maxDischargeDepth := 60) +contextual [State.scFailed, hO, State.each_stop, State.updCell_stop]
@[simp] theorem State.release_stop (s : State) (k : ConnCfg) (g : Gvt) (hO : State.stop s) :
    State.stop (State.release s k g) := by
  simp (maxDischargeDepth := 60) +contextual [State.release, hO, State.each_stop, State.updCell_stop]
theorem execTelegramRelease_stop (conn : Nat) (sc1 : Option Nat) (sc2 : Option Nat) (comp : Trio Nat) (done : Trio Bool) (s : State) (hO : State.stop s) :
    ∀ t, (execTelegramRelease conn sc1 sc2 comp done s) = .next t → State.stop t := by
  rintro _ ⟨⟩; split; · exact hO
  rw [if_pos (by simp [State.cycling_stop s hO])]; exact hO
theorem execResyncCopy_stop (lane : Lane) (r : CopyResult) (s : State) (hO : State.stop s) :
    ∀ t, (execResyncCopy lane r s) = .next t → State.stop t := by
  rintro _ ⟨⟩; simp (maxDischargeDepth := 60) [hO]
theorem execResyncRetry_stop (lane : Lane) (s : State) (hO : State.stop s) :
    ∀ t, (execResyncRetry lane s) = .next t → State.stop t := by
  rintro _ ⟨⟩; simp (maxDischargeDepth := 60) [hO]
theorem execRejoin_stop (lane : Lane) (s : State) (hO : State.stop s) :
    ∀ t, (execRejoin lane s) = .next t → State.stop t := by
  rintro _ ⟨⟩; simp (maxDischargeDepth := 60) [hO]
@[simp] theorem State.mismatch_stop (s : State) (l : Lane) (hO : State.stop s) :
    State.stop (State.mismatch s l) := by
  simp (maxDischargeDepth := 60) [State.mismatch, hO]
theorem execComparatorMismatch_stop (x : Handshake) (s : State) (hO : State.stop s) :
    ∀ t, (execComparatorMismatch x s) = .next t → State.stop t := by
  rintro _ ⟨⟩; simp (maxDischargeDepth := 60) +contextual [hO, State.each_stop, State.fed_stop, State.updCell_stop]
theorem execArbitrationSelfTestDone_stop (lane : Lane) (core0 : Bool) (core1 : Bool) (cmp : Bool) (s : State) (hO : State.stop s) :
    ∀ t, (execArbitrationSelfTestDone lane core0 core1 cmp s) = .next t → State.stop t := by
  rintro _ ⟨⟩; (repeat' split) <;> simp (maxDischargeDepth := 60) [hO]
theorem execArbitrationSelfTestTimeout_stop (lane : Lane) (s : State) (hO : State.stop s) :
    ∀ t, (execArbitrationSelfTestTimeout lane s) = .next t → State.stop t := by
  rintro _ ⟨⟩; simp (maxDischargeDepth := 60) [hO]
@[simp] theorem State.reloadTables_stop (s : State) (l : Lane) (hO : State.stop s) :
    State.stop (State.reloadTables s l) := by
  exact hO
@[simp] theorem State.checkPassed_stop (s : State) (l : Lane) (hO : State.stop s) :
    State.stop (State.checkPassed s l) := by
  exact hO
theorem execRestartCheckDone_stop (lane : Lane) (cmpOk : Bool) (bankOk : Bool) (s : State) (hO : State.stop s) :
    ∀ t, (execRestartCheckDone lane cmpOk bankOk s) = .next t → State.stop t := by
  rintro _ ⟨⟩; simp (maxDischargeDepth := 60) [hO]
theorem execProgressTimeout_stop (lane : Lane) (s : State) (hO : State.stop s) :
    ∀ t, (execProgressTimeout lane s) = .next t → State.stop t := by
  rintro _ ⟨⟩; simp (maxDischargeDepth := 60) +contextual [hO, State.each_stop, State.fed_stop, State.updCell_stop]
theorem execLaneStall_stop (lane : Lane) (s : State) (hO : State.stop s) :
    ∀ t, (execLaneStall lane s) = .next t → State.stop t := by
  rintro _ ⟨⟩; simp (maxDischargeDepth := 60) +contextual [hO, State.each_stop, State.fed_stop, State.updCell_stop]
theorem execIllegalDualRailCode_stop (region : Nat) (block : Nat) (s : State) (hO : State.stop s) :
    ∀ t, (execIllegalDualRailCode region block s) = .next t → State.stop t := by
  rintro _ ⟨⟩; simp (maxDischargeDepth := 60) +contextual [hO, State.each_stop, State.fed_stop, State.updCell_stop]
theorem State.ofCore_stop (s : State) (l : Lane) (core : Bool) (f : State → State) (hO : State.stop s)
    (h : ∀ s, State.stop s → State.stop (f s)) : State.stop (State.ofCore s l core f) := by
  unfold State.ofCore; exact State.updLane_stop _ _ _ (h _ (State.updLane_stop _ _ _ hO))
theorem execCacheError_stop (lane : Lane) (kind : CacheEvent) (s : State) (hO : State.stop s) :
    ∀ t, (execCacheError lane kind s) = .next t → State.stop t := by
  rintro _ ⟨⟩; refine State.fed_stop _ _ hO fun s hO => State.ofCore_stop _ _ _ _ hO fun s hO => ?_; split <;> simp [hO]
theorem execMemoryScrubError_stop (lane : Lane) (found : ScrubEvent) (s : State) (hO : State.stop s) :
    ∀ t, (execMemoryScrubError lane found s) = .next t → State.stop t := by
  rintro _ ⟨⟩; refine State.fed_stop _ _ hO fun s hO => State.ofCore_stop _ _ _ _ hO fun s hO => ?_; split <;> simp [hO]
theorem execLaneSupplyLoss_stop (lane : Lane) (s : State) (hO : State.stop s) :
    ∀ t, (execLaneSupplyLoss lane s) = .next t → State.stop t := by
  rintro _ ⟨⟩; simp (maxDischargeDepth := 60) +contextual [hO, State.each_stop, State.fed_stop, State.updCell_stop]
theorem execLaneSupplyReturn_stop (lane : Lane) (s : State) (hO : State.stop s) :
    ∀ t, (execLaneSupplyReturn lane s) = .next t → State.stop t := by
  rintro _ ⟨⟩; simp (maxDischargeDepth := 60) +contextual [hO, State.each_stop, State.fed_stop, State.updCell_stop]
theorem execCommonsSupplyLoss_stop (s : State) (hO : State.stop s) :
    ∀ t, (execCommonsSupplyLoss s) = .next t → State.stop t := by
  rintro _ ⟨⟩; simp (maxDischargeDepth := 60) +contextual [hO, State.each_stop, State.fed_stop, State.updCell_stop]
theorem execServiceSupplyLoss_stop (s : State) (hO : State.stop s) :
    ∀ t, (execServiceSupplyLoss s) = .next t → State.stop t := by
  rintro _ ⟨⟩; simp (maxDischargeDepth := 60) +contextual [hO, State.each_stop, State.fed_stop, State.updCell_stop]
theorem execServiceRegionReturn_stop (s : State) (hO : State.stop s) :
    ∀ t, (execServiceRegionReturn s) = .next t → State.stop t := by
  rintro _ ⟨⟩; simp (maxDischargeDepth := 60) +contextual [hO, State.each_stop, State.fed_stop, State.updCell_stop]
theorem execTimebaseTrim_stop (offs : Trio (Option Int)) (s : State) (hO : State.stop s) :
    ∀ t, (execTimebaseTrim offs s) = .next t → State.stop t := by
  rintro _ ⟨⟩; simp (maxDischargeDepth := 60) +contextual [hO, State.each_stop, State.fed_stop, State.updCell_stop]
theorem execTokenOverrun_stop (s : State) (hO : State.stop s) :
    ∀ t, (execTokenOverrun s) = .next t → State.stop t := by
  rintro _ ⟨⟩; simp (maxDischargeDepth := 60) +contextual [hO, State.each_stop, State.fed_stop, State.updCell_stop]
theorem execTokenRegenerate_stop (s : State) (hO : State.stop s) :
    ∀ t, (execTokenRegenerate s) = .next t → State.stop t := by
  rintro _ ⟨⟩; simp (maxDischargeDepth := 60) +contextual [hO, State.each_stop, State.fed_stop, State.updCell_stop]
@[simp] theorem State.updTime_stop (s : State) (f : TimeSt → TimeSt) (hO : State.stop s) :
    State.stop (State.updTime s f) := by
  exact hO
theorem execOtCheckpoint_stop (s : State) (hO : State.stop s) :
    ∀ t, (execOtCheckpoint s) = .next t → State.stop t := by
  rintro _ ⟨⟩; simp (maxDischargeDepth := 60) +contextual [hO, State.each_stop, State.fed_stop, State.updCell_stop]
theorem execOtShadowWrite_stop (s : State) (hO : State.stop s) :
    ∀ t, (execOtShadowWrite s) = .next t → State.stop t := by
  rintro _ ⟨⟩; simp (maxDischargeDepth := 60) +contextual [hO, State.each_stop, State.fed_stop, State.updCell_stop]
theorem execArchiveWindowEnd_stop (s : State) (hO : State.stop s) :
    ∀ t, (execArchiveWindowEnd s) = .next t → State.stop t := by
  rintro _ ⟨⟩; simp (maxDischargeDepth := 60) [hO]
theorem execCoalescingWindowEnd_stop (kind : Nat) (source : Nat) (s : State) (hO : State.stop s) :
    ∀ t, (execCoalescingWindowEnd kind source s) = .next t → State.stop t := by
  rintro _ ⟨⟩; dsimp only; (repeat' split) <;> simp_all
theorem execDropRecord_stop (s : State) (hO : State.stop s) :
    ∀ t, (execDropRecord s) = .next t → State.stop t := by
  rintro _ ⟨⟩; simp (maxDischargeDepth := 60) [hO]
@[simp] theorem State.lastLine_stop (s : State) (seq : Nat) (f : Fsid) (log : Nat) (seg : Nat) (hO : State.stop s) :
    State.stop (State.lastLine s seq f log seg) := by
  exact hO
theorem execLogSegmentFailure_stop (log : Log) (segment : Nat) (s : State) (hO : State.stop s) :
    ∀ t, (execLogSegmentFailure log segment s) = .next t → State.stop t := by
  rintro _ ⟨⟩; simp (maxDischargeDepth := 60) +contextual [hO, State.each_stop, State.fed_stop, State.updCell_stop]
@[simp] theorem State.setWt_stop (s : State) (new : Nat) (source : Nat) (cred : Nat) (session : Nat) (ep : Nat) (cmd : Nat) (hO : State.stop s) :
    State.stop (State.setWt s new source cred session ep cmd) := by
  simp (maxDischargeDepth := 60) [State.setWt, hO]
theorem execPtpSync_stop (offsetUs : Int) (master : PtpMaster) (s : State) (hO : State.stop s) :
    ∀ t, (execPtpSync offsetUs master s) = .next t → State.stop t := by
  rintro _ ⟨⟩; simp (maxDischargeDepth := 60) +contextual [hO, State.each_stop, State.fed_stop, State.updCell_stop]
theorem execPtpUnlock_stop (s : State) (hO : State.stop s) :
    ∀ t, (execPtpUnlock s) = .next t → State.stop t := by
  rintro _ ⟨⟩; simp (maxDischargeDepth := 60) [hO]
theorem execEscalation_stop (fsid : Fsid) (s : State) (hO : State.stop s) :
    ∀ t, (execEscalation fsid s) = .next t → State.stop t := by
  rintro _ ⟨⟩; simp (maxDischargeDepth := 60) +contextual [hO, State.each_stop, State.fed_stop, State.updCell_stop]
theorem execEscalationWindowExpiry_stop (fsid : Fsid) (s : State) (hO : State.stop s) :
    ∀ t, (execEscalationWindowExpiry fsid s) = .next t → State.stop t := by
  rintro _ ⟨⟩; simp (maxDischargeDepth := 60) [hO]
theorem execLaneLatchOut_stop (lane : Lane) (s : State) (hO : State.stop s) :
    ∀ t, (execLaneLatchOut lane s) = .next t → State.stop t := by
  rintro _ ⟨⟩; simp (maxDischargeDepth := 60) [hO]
theorem execWithdrawalWindowExpiry_stop (lane : Lane) (s : State) (hO : State.stop s) :
    ∀ t, (execWithdrawalWindowExpiry lane s) = .next t → State.stop t := by
  rintro _ ⟨⟩; simp (maxDischargeDepth := 60) [hO]
theorem execSafeCountLimit_stop (s : State) (hO : State.stop s) :
    ∀ t, (execSafeCountLimit s) = .next t → State.stop t := by
  rintro _ ⟨⟩; simp (maxDischargeDepth := 60) [hO]
theorem execSafeCountWindowExpiry_stop (s : State) (hO : State.stop s) :
    ∀ t, (execSafeCountWindowExpiry s) = .next t → State.stop t := by
  rintro _ ⟨⟩; simp (maxDischargeDepth := 60) [hO]
theorem execEventAck_stop (lane : Lane) (seq : Nat) (s : State) (hO : State.stop s) :
    ∀ t, (execEventAck lane seq s) = .next t → State.stop t := by
  rintro _ ⟨⟩; simp (maxDischargeDepth := 60) [hO]
@[simp] theorem State.graceOut_stop (s : State) (parent : Nat) (l : Lane) (hO : State.stop s) :
    State.stop (State.graceOut s parent l) := by
  simp (maxDischargeDepth := 60) [State.graceOut, hO]
theorem execGraceExpiry_stop (seq : Nat) (s : State) (hO : State.stop s) :
    ∀ t, (execGraceExpiry seq s) = .next t → State.stop t := by
  rintro _ ⟨⟩; dsimp only; (repeat' split) <;> simp (maxDischargeDepth := 60) +contextual [hO, State.each_stop, State.fed_stop, State.updCell_stop]
theorem execSettleWindowEnd_stop (block : Nat) (pass : Bool) (s : State) (hO : State.stop s) :
    ∀ t, (execSettleWindowEnd block pass s) = .next t → State.stop t := by
  rintro _ ⟨⟩; (repeat' split) <;> simp (maxDischargeDepth := 60) [hO]
theorem execMfSelfCheck_stop (agree : Bool) (illegal : Bool) (conducting : Trio Bool) (s : State) (hO : State.stop s) :
    ∀ t, (execMfSelfCheck agree illegal conducting s) = .next t → State.stop t := by
  rintro _ ⟨⟩; simp (maxDischargeDepth := 60) +contextual [hO, State.each_stop, State.fed_stop, State.updCell_stop]
theorem execDuoLimit_stop (s : State) (hO : State.stop s) :
    ∀ t, (execDuoLimit s) = .next t → State.stop t := by
  rintro _ ⟨⟩; simp (maxDischargeDepth := 60) [hO]
theorem execHoldLimit_stop (lane : Lane) (s : State) (hO : State.stop s) :
    ∀ t, (execHoldLimit lane s) = .next t → State.stop t := by
  rintro _ ⟨⟩; simp (maxDischargeDepth := 60) [hO]
@[simp] theorem State.updPow_stop (s : State) (f : PowerSt → PowerSt) :
    State.stop (s.updPow f) ↔ (f s.pow).mod = .safe ∨ (f s.pow).mod = .terminal := Iff.rfl
@[simp] theorem State.endSpan_stop (s : State) (hO : State.stop s) :
    State.stop (State.endSpan s) := by
  simp (maxDischargeDepth := 60) +contextual [State.endSpan, hO, State.each_stop, State.updCell_stop]
@[simp] theorem State.archiveCold_stop (s : State) (hO : State.stop s) :
    State.stop (State.archiveCold s) := by
  simp (maxDischargeDepth := 60) [State.archiveCold, hO]
@[simp] theorem State.flush_stop (s : State) (hO : State.stop s) :
    State.stop (State.flush s) := by
  simp (maxDischargeDepth := 60) [State.flush, hO]
@[simp] theorem State.loadImage_stop (s : State) (hO : State.stop s) :
    State.stop (State.loadImage s) := by
  unfold State.loadImage; dsimp only; (repeat' split) <;> simp_all
@[simp] theorem State.bootImage_stop (s : State) (hO : State.stop s) :
    State.stop (State.bootImage s) := by
  simp (maxDischargeDepth := 60) [State.bootImage, hO]
@[simp] theorem State.readOptics_stop (s : State) (hO : State.stop s) :
    State.stop (State.readOptics s) := by
  simp (maxDischargeDepth := 60) +contextual [State.readOptics, hO, State.each_stop, State.updCell_stop]
@[simp] theorem State.bootChecks_stop (s : State) (env : BootEnv) (unfed : Bool) (downOt : Nat) (hO : State.stop s) :
    State.stop (State.bootChecks s env unfed downOt) := by
  simp (maxDischargeDepth := 60) [State.bootChecks, hO]
@[simp] theorem State.resetBlocks_stop (s : State) (power : Bool) (hO : State.stop s) :
    State.stop (State.resetBlocks s power) := by
  exact hO
@[simp] theorem State.powerTimes_stop (s : State) (kaFed : Bool) (offMs : Nat) (hO : State.stop s) :
    State.stop (State.powerTimes s kaFed offMs) := by
  exact hO
@[simp] theorem State.trySync_stop (s : State) (hO : State.stop s) :
    State.stop (State.trySync s) := by
  simp (maxDischargeDepth := 60) [State.trySync, hO]
@[simp] theorem State.bootFailed_stop (s : State) (l : Lane) (hO : State.stop s) :
    State.stop (State.bootFailed s l) := by
  simp (maxDischargeDepth := 60) [State.bootFailed, hO]
theorem execLaneBootSelfTestDone_stop (lane : Lane) (pass : Bool) (s : State) (hO : State.stop s) :
    ∀ t, (execLaneBootSelfTestDone lane pass s) = .next t → State.stop t := by
  rintro _ ⟨⟩; simp (maxDischargeDepth := 60) +contextual [hO, State.each_stop, State.fed_stop, State.updCell_stop]
theorem execBootSelfTestTimeout_stop (lane : Lane) (s : State) (hO : State.stop s) :
    ∀ t, (execBootSelfTestTimeout lane s) = .next t → State.stop t := by
  rintro _ ⟨⟩; simp (maxDischargeDepth := 60) +contextual [hO, State.each_stop, State.fed_stop, State.updCell_stop]
theorem execSyncTimeout_stop (s : State) (hO : State.stop s) :
    ∀ t, (execSyncTimeout s) = .next t → State.stop t := by
  rintro _ ⟨⟩; simp (maxDischargeDepth := 60) [hO]
theorem execBootTemperatureInRange_stop (s : State) (hO : State.stop s) :
    ∀ t, (execBootTemperatureInRange s) = .next t → State.stop t := by
  rintro _ ⟨⟩; simp (maxDischargeDepth := 60) [hO]
theorem execPowerFailWarning_stop (s : State) (hO : State.stop s) :
    ∀ t, (execPowerFailWarning s) = .next t → State.stop t := by
  rintro _ ⟨⟩; split
  · dsimp only; apply State.flush_stop; split
    · rename_i h; exact .inr (by simpa using h)
    · exact State.setMod_safe_stop _
  · exact hO
theorem execPowerReturn_stop (s : State) (hO : State.stop s) :
    ∀ t, (execPowerReturn s) = .next t → State.stop t := by
  rintro _ ⟨⟩; simp (maxDischargeDepth := 60) [hO]
theorem execInputLoss_stop (second : Bool) (s : State) (hO : State.stop s) :
    ∀ t, (execInputLoss second s) = .next t → State.stop t := by
  rintro _ ⟨⟩; simp (maxDischargeDepth := 60) +contextual [hO, State.each_stop, State.fed_stop, State.updCell_stop]
theorem execInputRestored_stop (second : Bool) (s : State) (hO : State.stop s) :
    ∀ t, (execInputRestored second s) = .next t → State.stop t := by
  rintro _ ⟨⟩; simp (maxDischargeDepth := 60) [hO]
theorem execAddressPlugPoll_stop (plug : Plug) (s : State) (hO : State.stop s) :
    ∀ t, (execAddressPlugPoll plug s) = .next t → State.stop t := by
  rintro _ ⟨⟩; simp (maxDischargeDepth := 60) +contextual [hO, State.each_stop, State.fed_stop, State.updCell_stop]
theorem execThermalWarning_stop (s : State) (hO : State.stop s) :
    ∀ t, (execThermalWarning s) = .next t → State.stop t := by
  rintro _ ⟨⟩; simp (maxDischargeDepth := 60) +contextual [hO, State.each_stop, State.fed_stop, State.updCell_stop]
theorem execThermalWarningCleared_stop (s : State) (hO : State.stop s) :
    ∀ t, (execThermalWarningCleared s) = .next t → State.stop t := by
  rintro _ ⟨⟩; simp (maxDischargeDepth := 60) [hO]
theorem execThermalTrip_stop (s : State) (hO : State.stop s) :
    ∀ t, (execThermalTrip s) = .next t → State.stop t := by
  rintro _ ⟨⟩; simp (maxDischargeDepth := 60) +contextual [hO, State.each_stop, State.fed_stop, State.updCell_stop]
@[simp] theorem State.discardRestart_stop (s : State) (kind : RestartKind) (hO : State.stop s) :
    State.stop (State.discardRestart s kind) := by
  simp (maxDischargeDepth := 60) [State.discardRestart, hO]
@[simp] theorem State.askRestart_stop (s : State) (kind : RestartKind) (hO : State.stop s) :
    State.stop (State.askRestart s kind) := by
  unfold State.askRestart; split
  · simp (maxDischargeDepth := 60) [hO]
  · exact hO
theorem execResetButtonRelease_stop (ms : Nat) (s : State) (hO : State.stop s) :
    ∀ t, (execResetButtonRelease ms s) = .next t → State.stop t := by
  rintro _ ⟨⟩; simp (maxDischargeDepth := 60) +contextual [hO, State.each_stop, State.fed_stop, State.updCell_stop]
theorem execResetButtonStuck_stop (s : State) (hO : State.stop s) :
    ∀ t, (execResetButtonStuck s) = .next t → State.stop t := by
  rintro _ ⟨⟩; simp (maxDischargeDepth := 60) +contextual [hO, State.each_stop, State.fed_stop, State.updCell_stop]
theorem execButtonContactDisagree_stop (s : State) (hO : State.stop s) :
    ∀ t, (execButtonContactDisagree s) = .next t → State.stop t := by
  rintro _ ⟨⟩; simp (maxDischargeDepth := 60) +contextual [hO, State.each_stop, State.fed_stop, State.updCell_stop]
theorem execButtonReenable_stop (s : State) (hO : State.stop s) :
    ∀ t, (execButtonReenable s) = .next t → State.stop t := by
  rintro _ ⟨⟩; simp (maxDischargeDepth := 60) [hO]
@[simp] theorem State.updMail_stop (s : State) (f : MailSt → MailSt) (hO : State.stop s) :
    State.stop (State.updMail s f) := by
  exact hO
@[simp] theorem State.freeBox_stop (s : State) (mb : Nat) (hO : State.stop s) :
    State.stop (State.freeBox s mb) := by
  simp (maxDischargeDepth := 60) [State.freeBox, hO]
theorem State.claim_stop (s : State) (ep : Nat) (mb : Nat) (key : Nat) (hO : State.stop s) :
    ∀ t, (State.claim s ep mb key) = some t → State.stop t := by
  intro t h2; unfold State.claim at h2; split at h2 <;> simp at h2
  subst h2; simp [hO]
theorem State.release0_stop (s : State) (ep : Nat) (mb : Nat) (hO : State.stop s) :
    ∀ t, (State.release0 s ep mb) = some t → State.stop t := by
  intro t h2; unfold State.release0 at h2; split at h2 <;> simp at h2
  subst h2; simp [hO]
theorem State.ring_stop (s : State) (ep : Nat) (mb : Nat) (tag : Nat) (hO : State.stop s) :
    ∀ t, (State.ring s ep mb tag) = some t → State.stop t := by
  intro t h2; unfold State.ring at h2; dsimp only at h2; (repeat' split at h2) <;> simp at h2 <;> subst h2 <;> simp (maxDischargeDepth := 60) [hO]
theorem State.ack_stop (s : State) (ep : Nat) (mb : Nat) (hO : State.stop s) :
    ∀ t, (State.ack s ep mb) = some t → State.stop t := by
  intro t h2; unfold State.ack at h2; dsimp only at h2; (repeat' split at h2) <;> simp at h2 <;> subst h2 <;> simp (maxDischargeDepth := 60) [hO]
theorem State.ctlWrite_stop (s : State) (ep : Nat) (mb : Nat) (off : Nat) (w : Nat) (hO : State.stop s) :
    ∀ t, (State.ctlWrite s ep mb off w) = some t → State.stop t := by
  intro t h; unfold State.ctlWrite at h; (repeat' split at h) <;> first
    | exact State.claim_stop _ _ _ _ hO _ h
    | exact State.release0_stop _ _ _ hO _ h
    | exact State.ring_stop _ _ _ _ hO _ h
    | exact State.ack_stop _ _ _ hO _ h
    | simp at h
@[simp] theorem State.winWrite_stop (s : State) (ep : Nat) (addr : Nat) (data : Bytes) (who : Option Nat) (hO : State.stop s) :
    State.stop (State.winWrite s ep addr data who).2 := by
  unfold State.winWrite; dsimp only; (repeat' split) <;> first
    | exact hO
    | exact State.ctlWrite_stop _ _ _ _ _ hO _ ‹_›
    | simp [hO]
@[simp] theorem State.refusedWrite_stop (s : State) (st : Nat) (addr : Nat) (ep : Nat) (hO : State.stop s) :
    State.stop (State.refusedWrite s st addr ep) := by
  simp (maxDischargeDepth := 60) [State.refusedWrite, hO]
theorem State.endpoint_stop (s : State) (h : NspHead) (hO : State.stop s) :
    ∀ t, (State.endpoint s h) = some t → State.stop t.2 := by
  intro t h2; unfold State.endpoint at h2; dsimp only at h2; (repeat' split at h2) <;> simp at h2 <;> subst h2 <;> simp (maxDischargeDepth := 60) [hO]
@[simp] theorem State.useXid_stop (s : State) (id : Option Nat) (xid : Nat) (hO : State.stop s) :
    State.stop (State.useXid s id xid) := by
  unfold State.useXid; split <;> simp (maxDischargeDepth := 60) [hO]
@[simp] theorem State.reply_stop (s : State) (r : Reply) (keep : Bool) (hO : State.stop s) :
    State.stop (State.reply s r keep) := by
  exact hO
@[simp] theorem State.nspRead_stop (s : State) (ep : Nat) (h : NspHead) (addr : Nat) (hO : State.stop s) :
    State.stop (State.nspRead s ep h addr) := by
  simp (maxDischargeDepth := 60) [State.nspRead, hO]
@[simp] theorem State.nspWrite_stop (s : State) (ep : Nat) (h : NspHead) (addr : Nat) (data : Bytes) (hO : State.stop s) :
    State.stop (State.nspWrite s ep h addr data) := by
  simp (maxDischargeDepth := 60) [State.nspWrite, hO]
@[simp] theorem State.nspFrame_stop (s : State) (h : NspHead) (addr : Nat) (data : Bytes) (hO : State.stop s) :
    State.stop (State.nspFrame s h addr data) := by
  unfold State.nspFrame; split
  · exact hO
  · have e := State.endpoint_stop _ _ hO _ ‹_›
    dsimp only at e ⊢; (repeat' split) <;> simp [e]
@[simp] theorem State.cspiAlert_stop (s : State) (hO : State.stop s) :
    State.stop (State.cspiAlert s).2 := by
  unfold State.cspiAlert; dsimp only; (repeat' split) <;> simp_all
@[simp] theorem State.cspiBegin_stop (s : State) (hO : State.stop s) :
    State.stop (State.cspiBegin s) := by
  simp (maxDischargeDepth := 60) [State.cspiBegin, hO]
@[simp] theorem State.cspiWrite_stop (s : State) (addr : Nat) (data : Bytes) (hO : State.stop s) :
    State.stop (State.cspiWrite s addr data) := by
  simp (maxDischargeDepth := 60) [State.cspiWrite, hO]
@[simp] theorem State.cspiRead_stop (s : State) (addr : Nat) (n : Nat) (hO : State.stop s) :
    State.stop (State.cspiRead s addr n) := by
  simp (maxDischargeDepth := 60) [State.cspiRead, hO]
@[simp] theorem State.access_stop (s : State) (acc : Access) (addr : Nat) (data : Bytes) (hO : State.stop s) :
    State.stop (State.access s acc addr data) := by
  unfold State.access; (repeat' split) <;> simp (maxDischargeDepth := 60) [hO]
theorem execMailboxAgeTimeout_stop (mb : Nat) (s : State) (hO : State.stop s) :
    ∀ t, (execMailboxAgeTimeout mb s) = .next t → State.stop t := by
  rintro _ ⟨⟩; simp (maxDischargeDepth := 60) [hO]
theorem execSessionIdleTimeout_stop (session : Nat) (s : State) (hO : State.stop s) :
    ∀ t, (execSessionIdleTimeout session s) = .next t → State.stop t := by
  rintro _ ⟨⟩; simp (maxDischargeDepth := 60) [hO]
theorem execAuthTimeout_stop (s : State) (hO : State.stop s) :
    ∀ t, (execAuthTimeout s) = .next t → State.stop t := by
  rintro _ ⟨⟩; simp (maxDischargeDepth := 60) [hO]
@[simp] theorem State.respond_stop (s : State) (mb : Nat) (status : Nat) (body : Bytes) (hO : State.stop s) :
    State.stop (State.respond s mb status body) := by
  exact hO
theorem query_stop (n : Nat) (r : List (Nat × Nat)) (f : State → Ctx → Ans) (s : State) (x : Ctx) (hO : s.stop) :
    State.stop ((query n r f).run s x).2 := hO
@[simp] theorem State.answerBad_stop (x0 : Nat) (x1 : State) (hO : State.stop x1) :
    State.stop (State.answerBad x0 x1) := by
  induction x0 generalizing x1 with
  | zero => exact hO
  | succ n ih => simp only [State.answerBad]; (repeat' split) <;> simp [ih, hO]
@[simp] theorem State.grantFirst_stop (s : State) (c : FabricClass) (hO : State.stop s) :
    State.stop (State.grantFirst s c) := by
  simp (maxDischargeDepth := 60) [State.grantFirst, hO]
@[simp] theorem State.settle_stop (s : State) (hO : State.stop s) :
    State.stop (State.settle s) := by
  simp (maxDischargeDepth := 60) [State.settle, hO]
@[simp] theorem State.hostWrite_stop (s : State) (acc : Access) (addr : Nat) (data : Bytes) (hO : State.stop s) :
    State.stop (State.hostWrite s acc addr data) := by
  simp (maxDischargeDepth := 60) [State.hostWrite, hO]
theorem execMailboxClaim_stop (acc : Access) (mb : Nat) (ownkey : Nat) (s : State) (hO : State.stop s) :
    ∀ t, (execMailboxClaim acc mb ownkey s) = .next t → State.stop t := by
  rintro _ ⟨⟩; simp (maxDischargeDepth := 60) [hO]
theorem execMailboxRelease_stop (acc : Access) (mb : Nat) (s : State) (hO : State.stop s) :
    ∀ t, (execMailboxRelease acc mb s) = .next t → State.stop t := by
  rintro _ ⟨⟩; simp (maxDischargeDepth := 60) [hO]
theorem execDoorbellRing_stop (acc : Access) (mb : Nat) (tag : Nat) (s : State) (hO : State.stop s) :
    ∀ t, (execDoorbellRing acc mb tag s) = .next t → State.stop t := by
  rintro _ ⟨⟩; simp (maxDischargeDepth := 60) [hO]
theorem execDoorbellAck_stop (acc : Access) (mb : Nat) (s : State) (hO : State.stop s) :
    ∀ t, (execDoorbellAck acc mb s) = .next t → State.stop t := by
  rintro _ ⟨⟩; simp (maxDischargeDepth := 60) [hO]
theorem execRegisterWrite_stop (acc : Access) (addr : Nat) (data : Bytes) (s : State) (hO : State.stop s) :
    ∀ t, (execRegisterWrite acc addr data s) = .next t → State.stop t := by
  rintro _ ⟨⟩; simp (maxDischargeDepth := 60) [hO]
@[simp] theorem State.retryBox_stop (s : State) (mb : Nat) (hO : State.stop s) :
    State.stop (State.retryBox s mb) := by
  simp (maxDischargeDepth := 60) [State.retryBox, hO]
theorem execCommandResponseTimeout_stop (mb : Nat) (s : State) (hO : State.stop s) :
    ∀ t, (execCommandResponseTimeout mb s) = .next t → State.stop t := by
  rintro _ ⟨⟩; simp (maxDischargeDepth := 60) [hO]
theorem execFabricGrantTimeout_stop (user : FabricUser) (s : State) (hO : State.stop s) :
    ∀ t, (execFabricGrantTimeout user s) = .next t → State.stop t := by
  rintro _ ⟨⟩; (repeat' split) <;> simp (maxDischargeDepth := 60) [hO]
theorem State.serveCmd_stop (s : State) (mb code : Nat) (c : Cmd) (hO : s.stop)
    (h : ∀ s x, State.stop s → State.stop (c.run s x).2) : State.stop (s.serveCmd mb code c) := by
  unfold State.serveCmd; dsimp only; (repeat' split) <;> simp (maxDischargeDepth := 60) [h, hO]
@[simp] theorem State.firmwareFault_stop (s : State) (f : Fsid) (hO : State.stop s) :
    State.stop (State.firmwareFault s f) := by
  unfold State.firmwareFault; dsimp only; (repeat' split) <;> simp (maxDischargeDepth := 60) +contextual [hO, State.each_stop, State.when_stop, State.updCell_stop]
theorem execFaultEventCollected_stop (fsid : Fsid) (s : State) (hO : State.stop s) :
    ∀ t, (execFaultEventCollected fsid s) = .next t → State.stop t := by
  rintro _ ⟨⟩; simp (maxDischargeDepth := 60) +contextual [hO, State.each_stop, State.fed_stop, State.updCell_stop]
@[simp] theorem okAns_stop (b : Bytes) (s : State) (hO : State.stop s) :
    State.stop (okAns b s).2 := by
  exact hO
@[simp] theorem noAns_stop (st : Nat) (s : State) (hO : State.stop s) :
    State.stop (noAns st s).2 := by
  exact hO
@[simp] theorem State.accepted_stop (s : State) (c : Ctx) (item : Nat) (hO : State.stop s) :
    State.stop (State.accepted s c item).2 := by
  exact hO
theorem logged_stop (f : State → Ctx → Ans × State) (h : ∀ s x, State.stop s → State.stop (f s x).2) (s : State) (c : Ctx)
    (hO : s.stop) : State.stop (logged f s c).2 := by
  unfold logged; split <;> simp [noAns, h, hO]
@[simp] theorem State.dropStep_stop (s : State) (c : Ctx) (hO : State.stop s) :
    State.stop (State.dropStep s c) := by
  exact hO
@[simp] theorem State.firstStep_stop (s : State) (c : Ctx) (off : Nat) (hO : State.stop s) :
    State.stop (State.firstStep s c off).2 := by
  exact hO
@[simp] theorem State.secondStep_stop (s : State) (c : Ctx) (off : Nat) (window : Bool) (hO : State.stop s) :
    State.stop (State.secondStep s c off window).2 := by
  exact hO
@[simp] theorem State.ctxChange_stop (s : State) (c : Ctx) (kind : Nat) (body : Bytes) (hO : State.stop s) :
    State.stop (State.ctxChange s c kind body) := by
  simp (maxDischargeDepth := 60) [State.ctxChange, hO]
@[simp] theorem State.newProv_stop (s : State) (ep : Nat) (cred : Nat) (hostkey : Bytes) (hO : State.stop s) :
    State.stop (State.newProv s ep cred hostkey).2 := by
  exact hO
@[simp] theorem runOpen_stop (s : State) (c : Ctx) (hO : State.stop s) :
    State.stop (runOpen s c).2 := by
  unfold runOpen; dsimp only; (repeat' split) <;> simp (maxDischargeDepth := 60) +contextual [hO, State.each_stop, State.when_stop, State.updCell_stop]
theorem execOpenSession_stop (mb : Nat) (s : State) (hO : s.stop) :
    ∀ t, execOpenSession mb s = .next t → State.stop t := by
  rintro _ ⟨⟩; exact State.serveCmd_stop _ _ _ _ hO (runOpen_stop)
@[simp] theorem runAuth_stop (s : State) (c : Ctx) (hO : State.stop s) :
    State.stop (runAuth s c).2 := by
  unfold runAuth; (repeat' split) <;> simp (maxDischargeDepth := 60) [hO]
theorem execAuth_stop (mb : Nat) (s : State) (hO : s.stop) :
    ∀ t, execAuth mb s = .next t → State.stop t := by
  rintro _ ⟨⟩; exact State.serveCmd_stop _ _ _ _ hO (runAuth_stop)
theorem execClose_stop (mb : Nat) (s : State) (hO : s.stop) :
    ∀ t, execClose mb s = .next t → State.stop t := by
  rintro _ ⟨⟩; exact State.serveCmd_stop _ _ _ _ hO (fun s x h => by dsimp only [cmdClose, opCmd, noAns, okAns]; (repeat' split) <;> simp [h])
theorem execSessionList_stop (mb : Nat) (s : State) (hO : s.stop) :
    ∀ t, execSessionList mb s = .next t → State.stop t := by
  rintro _ ⟨⟩; exact State.serveCmd_stop _ _ _ _ hO (query_stop _ _ _)
@[simp] theorem runCredAdd_stop (s : State) (c : Ctx) (hO : State.stop s) :
    State.stop (runCredAdd s c).2 := by
  unfold runCredAdd; dsimp only; (repeat' split) <;> simp_all
theorem execCredAdd_stop (mb : Nat) (s : State) (hO : s.stop) :
    ∀ t, execCredAdd mb s = .next t → State.stop t := by
  rintro _ ⟨⟩; exact State.serveCmd_stop _ _ _ _ hO (logged_stop _ runCredAdd_stop)
@[simp] theorem runCredRevoke_stop (s : State) (c : Ctx) (hO : State.stop s) :
    State.stop (runCredRevoke s c).2 := by
  unfold runCredRevoke; dsimp only; (repeat' split) <;> simp (maxDischargeDepth := 60) +contextual [hO, State.each_stop, State.when_stop, State.updCell_stop]
theorem execCredRevoke_stop (mb : Nat) (s : State) (hO : s.stop) :
    ∀ t, execCredRevoke mb s = .next t → State.stop t := by
  rintro _ ⟨⟩; exact State.serveCmd_stop _ _ _ _ hO (logged_stop _ runCredRevoke_stop)
theorem execCredList_stop (mb : Nat) (s : State) (hO : s.stop) :
    ∀ t, execCredList mb s = .next t → State.stop t := by
  rintro _ ⟨⟩; exact State.serveCmd_stop _ _ _ _ hO (query_stop _ _ _)
theorem execIdentity_stop (mb : Nat) (s : State) (hO : s.stop) :
    ∀ t, execIdentity mb s = .next t → State.stop t := by
  rintro _ ⟨⟩; exact State.serveCmd_stop _ _ _ _ hO (query_stop _ _ _)
theorem execCycleStatus_stop (mb : Nat) (s : State) (hO : s.stop) :
    ∀ t, execCycleStatus mb s = .next t → State.stop t := by
  rintro _ ⟨⟩; exact State.serveCmd_stop _ _ _ _ hO (query_stop _ _ _)
theorem execLaneStatus_stop (mb : Nat) (s : State) (hO : s.stop) :
    ∀ t, execLaneStatus mb s = .next t → State.stop t := by
  rintro _ ⟨⟩; exact State.serveCmd_stop _ _ _ _ hO (query_stop _ _ _)
theorem execInputStatus_stop (mb : Nat) (s : State) (hO : s.stop) :
    ∀ t, execInputStatus mb s = .next t → State.stop t := by
  rintro _ ⟨⟩; exact State.serveCmd_stop _ _ _ _ hO (query_stop _ _ _)
theorem execOutputStatus_stop (mb : Nat) (s : State) (hO : s.stop) :
    ∀ t, execOutputStatus mb s = .next t → State.stop t := by
  rintro _ ⟨⟩; exact State.serveCmd_stop _ _ _ _ hO (query_stop _ _ _)
theorem execConnStatus_stop (mb : Nat) (s : State) (hO : s.stop) :
    ∀ t, execConnStatus mb s = .next t → State.stop t := by
  rintro _ ⟨⟩; exact State.serveCmd_stop _ _ _ _ hO (query_stop _ _ _)
theorem execElementRead_stop (mb : Nat) (s : State) (hO : s.stop) :
    ∀ t, execElementRead mb s = .next t → State.stop t := by
  rintro _ ⟨⟩; exact State.serveCmd_stop _ _ _ _ hO (query_stop _ _ _)
theorem execRouteRead_stop (mb : Nat) (s : State) (hO : s.stop) :
    ∀ t, execRouteRead mb s = .next t → State.stop t := by
  rintro _ ⟨⟩; exact State.serveCmd_stop _ _ _ _ hO (query_stop _ _ _)
theorem execTrellisStatus_stop (mb : Nat) (s : State) (hO : s.stop) :
    ∀ t, execTrellisStatus mb s = .next t → State.stop t := by
  rintro _ ⟨⟩; exact State.serveCmd_stop _ _ _ _ hO (query_stop _ _ _)
theorem execRouteIdent_stop (mb : Nat) (s : State) (hO : s.stop) :
    ∀ t, execRouteIdent mb s = .next t → State.stop t := by
  rintro _ ⟨⟩; exact State.serveCmd_stop _ _ _ _ hO (query_stop _ _ _)
theorem execImageInfo_stop (mb : Nat) (s : State) (hO : s.stop) :
    ∀ t, execImageInfo mb s = .next t → State.stop t := by
  rintro _ ⟨⟩; exact State.serveCmd_stop _ _ _ _ hO (query_stop _ _ _)
theorem execPairStatus_stop (mb : Nat) (s : State) (hO : s.stop) :
    ∀ t, execPairStatus mb s = .next t → State.stop t := by
  rintro _ ⟨⟩; exact State.serveCmd_stop _ _ _ _ hO (query_stop _ _ _)
theorem execFaultStatus_stop (mb : Nat) (s : State) (hO : s.stop) :
    ∀ t, execFaultStatus mb s = .next t → State.stop t := by
  rintro _ ⟨⟩; exact State.serveCmd_stop _ _ _ _ hO (query_stop _ _ _)
theorem execEscBounds_stop (mb : Nat) (s : State) (hO : s.stop) :
    ∀ t, execEscBounds mb s = .next t → State.stop t := by
  rintro _ ⟨⟩; exact State.serveCmd_stop _ _ _ _ hO (query_stop _ _ _)
theorem execHedgeList_stop (mb : Nat) (s : State) (hO : s.stop) :
    ∀ t, execHedgeList mb s = .next t → State.stop t := by
  rintro _ ⟨⟩; exact State.serveCmd_stop _ _ _ _ hO (query_stop _ _ _)
theorem execTimeGet_stop (mb : Nat) (s : State) (hO : s.stop) :
    ∀ t, execTimeGet mb s = .next t → State.stop t := by
  rintro _ ⟨⟩; exact State.serveCmd_stop _ _ _ _ hO (query_stop _ _ _)
@[simp] theorem State.lcJudge_stop (s : State) (target : LcState) (r : CmdRef) (t : Bytes) (hO : State.stop s) :
    State.stop (State.lcJudge s target r t) := by
  unfold State.lcJudge; dsimp only; (repeat' split) <;> simp_all
@[simp] theorem runLcTransition_stop (s : State) (c : Ctx) (hO : State.stop s) :
    State.stop (runLcTransition s c).2 := by
  unfold runLcTransition; dsimp only; (repeat' split) <;> simp_all
theorem execLcTransition_stop (mb : Nat) (s : State) (hO : s.stop) :
    ∀ t, execLcTransition mb s = .next t → State.stop t := by
  rintro _ ⟨⟩; exact State.serveCmd_stop _ _ _ _ hO (logged_stop _ runLcTransition_stop)
@[simp] theorem runMode_stop (s : State) (c : Ctx) (hO : State.stop s) :
    State.stop (runMode s c).2 := by
  unfold runMode; dsimp only; (repeat' split) <;> simp_all
theorem execMode_stop (mb : Nat) (s : State) (hO : s.stop) :
    ∀ t, execMode mb s = .next t → State.stop t := by
  rintro _ ⟨⟩; exact State.serveCmd_stop _ _ _ _ hO (logged_stop _ runMode_stop)
@[simp] theorem runRestart_stop (s : State) (c : Ctx) (hO : State.stop s) :
    State.stop (runRestart s c).2 := by
  unfold runRestart; dsimp only; (repeat' split) <;> simp (maxDischargeDepth := 60) +contextual [hO, State.each_stop, State.when_stop, State.updCell_stop]
theorem execRestart_stop (mb : Nat) (s : State) (hO : s.stop) :
    ∀ t, execRestart mb s = .next t → State.stop t := by
  rintro _ ⟨⟩; exact State.serveCmd_stop _ _ _ _ hO (logged_stop _ runRestart_stop)
@[simp] theorem runMaint_stop (s : State) (c : Ctx) (hO : State.stop s) :
    State.stop (runMaint s c).2 := by
  unfold runMaint; dsimp only; (repeat' split) <;> simp_all
theorem execMaint_stop (mb : Nat) (s : State) (hO : s.stop) :
    ∀ t, execMaint mb s = .next t → State.stop t := by
  rintro _ ⟨⟩; exact State.serveCmd_stop _ _ _ _ hO (logged_stop _ runMaint_stop)
@[simp] theorem State.updStage_stop (s : State) (f : StageSt → StageSt) (hO : State.stop s) :
    State.stop (State.updStage s f) := by
  exact hO
theorem owned_stop (f : State → Ctx → Ans × State) (h : ∀ s x, State.stop s → State.stop (f s x).2) (s : State) (c : Ctx)
    (hO : s.stop) : State.stop (owned f s c).2 := by
  unfold owned; split <;> simp [noAns, h, hO]
@[simp] theorem runStageOpen_stop (s : State) (c : Ctx) (hO : State.stop s) :
    State.stop (runStageOpen s c).2 := by
  unfold runStageOpen; (repeat' split) <;> simp (maxDischargeDepth := 60) [hO]
theorem execStageOpen_stop (mb : Nat) (s : State) (hO : s.stop) :
    ∀ t, execStageOpen mb s = .next t → State.stop t := by
  rintro _ ⟨⟩; exact State.serveCmd_stop _ _ _ _ hO (logged_stop _ runStageOpen_stop)
theorem State.stageAll_stop (s : State) (x1 : List Bytes) (x2 : Nat) (hO : State.stop s) :
    ∀ t, (State.stageAll s x1 x2) = .ok t → State.stop t := by
  induction x1 generalizing s x2 with
  | nil => intro t h; simp [State.stageAll] at h; rw [← h]; exact hO
  | cons r rs ih =>
    intro t h; simp only [State.stageAll] at h; split at h
    · exact ih _ _ (by simp [hO]) _ h
    · simp at h
@[simp] theorem State.afterWrite_stop (s : State) (hO : State.stop s) :
    State.stop (State.afterWrite s) := by
  simp (maxDischargeDepth := 60) [State.afterWrite, hO]
@[simp] theorem State.writeEntries_stop (s : State) (role : Nat) (rs : List Bytes) (hO : State.stop s) :
    State.stop (State.writeEntries s role rs).2 := by
  unfold State.writeEntries; split; · exact hO
  split; · exact hO
  split
  · exact hO
  · simp [okAns, State.stageAll_stop _ _ _ hO _ ‹_›]
@[simp] theorem runStageWrite_stop (s : State) (c : Ctx) (hO : State.stop s) :
    State.stop (runStageWrite s c).2 := by
  unfold runStageWrite; dsimp only; (repeat' split) <;> simp_all
theorem execStageWrite_stop (mb : Nat) (s : State) (hO : s.stop) :
    ∀ t, execStageWrite mb s = .next t → State.stop t := by
  rintro _ ⟨⟩; exact State.serveCmd_stop _ _ _ _ hO (owned_stop _ runStageWrite_stop)
@[simp] theorem runStageRead_stop (s : State) (c : Ctx) (hO : State.stop s) :
    State.stop (runStageRead s c).2 := by
  unfold runStageRead; dsimp only; (repeat' split) <;> simp_all
theorem execStageRead_stop (mb : Nat) (s : State) (hO : s.stop) :
    ∀ t, execStageRead mb s = .next t → State.stop t := by
  rintro _ ⟨⟩; exact State.serveCmd_stop _ _ _ _ hO (owned_stop _ runStageRead_stop)
@[simp] theorem State.discardFrame_stop (s : State) (hO : State.stop s) :
    State.stop (State.discardFrame s) := by
  simp (maxDischargeDepth := 60) [State.discardFrame, hO]
@[simp] theorem runStageDiscard_stop (s : State) (c : Ctx) (hO : State.stop s) :
    State.stop (runStageDiscard s c).2 := by
  unfold runStageDiscard; split <;> simp (maxDischargeDepth := 60) [hO]
theorem execStageDiscard_stop (mb : Nat) (s : State) (hO : s.stop) :
    ∀ t, execStageDiscard mb s = .next t → State.stop t := by
  rintro _ ⟨⟩; exact State.serveCmd_stop _ _ _ _ hO (logged_stop _ (owned_stop _ runStageDiscard_stop))
@[simp] theorem runStageCheck_stop (s : State) (c : Ctx) (hO : State.stop s) :
    State.stop (runStageCheck s c).2 := by
  unfold runStageCheck; split <;> simp (maxDischargeDepth := 60) [hO]
theorem execStageCheck_stop (mb : Nat) (s : State) (hO : s.stop) :
    ∀ t, execStageCheck mb s = .next t → State.stop t := by
  rintro _ ⟨⟩; exact State.serveCmd_stop _ _ _ _ hO (logged_stop _ (owned_stop _ runStageCheck_stop))
@[simp] theorem State.acceptApply_stop (s : State) (r : CmdRef) (hO : State.stop s) :
    State.stop (State.acceptApply s r) := by
  simp (maxDischargeDepth := 60) [State.acceptApply, hO]
@[simp] theorem State.applyRec_stop (s : State) (c : Ctx) (st : Nat) (hO : State.stop s) :
    State.stop (State.applyRec s c st) := by
  simp (maxDischargeDepth := 60) [State.applyRec, hO]
@[simp] theorem takeApply_stop (s : State) (c : Ctx) (hO : State.stop s) :
    State.stop (takeApply s c).2 := by
  unfold takeApply; dsimp only; (repeat' split) <;> simp (maxDischargeDepth := 60) +contextual [hO, State.each_stop, State.when_stop, State.updCell_stop]
@[simp] theorem runStageApply_stop (s : State) (c : Ctx) (hO : State.stop s) :
    State.stop (runStageApply s c).2 := by
  unfold runStageApply; split
  · exact logged_stop _ (owned_stop _ fun s c h => takeApply_stop s c h) _ _ hO
  · simp [noAns, hO]
theorem execStageApply_stop (mb : Nat) (s : State) (hO : s.stop) :
    ∀ t, execStageApply mb s = .next t → State.stop t := by
  rintro _ ⟨⟩; exact State.serveCmd_stop _ _ _ _ hO (runStageApply_stop)
theorem execStageStatus_stop (mb : Nat) (s : State) (hO : s.stop) :
    ∀ t, execStageStatus mb s = .next t → State.stop t := by
  rintro _ ⟨⟩; exact State.serveCmd_stop _ _ _ _ hO (query_stop _ _ _)
@[simp] theorem State.writeKey_stop (s : State) (e : StgEntry) (hO : State.stop s) :
    State.stop (State.writeKey s e).2 := by
  unfold State.writeKey; (repeat' split) <;> simp (maxDischargeDepth := 60) [hO]
@[simp] theorem runConnKey_stop (s : State) (c : Ctx) (hO : State.stop s) :
    State.stop (runConnKey s c).2 := by
  unfold runConnKey; split <;> simp (maxDischargeDepth := 60) [hO]
theorem execConnKey_stop (mb : Nat) (s : State) (hO : s.stop) :
    ∀ t, execConnKey mb s = .next t → State.stop t := by
  rintro _ ⟨⟩; exact State.serveCmd_stop _ _ _ _ hO (owned_stop _ runConnKey_stop)
@[simp] theorem State.useToken_stop (s : State) (c : Ctx) (imgid : Nat) (hO : State.stop s) :
    State.stop (State.useToken s c imgid) := by
  unfold State.useToken; split <;> simp (maxDischargeDepth := 60) [hO]
@[simp] theorem State.acceptAct_stop (s : State) (c : Ctx) (kind : Nat) (old : Nat) (new : Nat) (hO : State.stop s) :
    State.stop (State.acceptAct s c kind old new) := by
  simp (maxDischargeDepth := 60) [State.acceptAct, hO]
@[simp] theorem State.endOther_stop (s : State) (kind : Nat) (hO : State.stop s) :
    State.stop (State.endOther s kind) := by
  simp (maxDischargeDepth := 60) [State.endOther, hO]
@[simp] theorem State.activateApp_stop (s : State) (c : Ctx) (ref : Option CmdRef) (hO : State.stop s) :
    State.stop (State.activateApp s c ref) := by
  simp (maxDischargeDepth := 60) [State.activateApp, hO]
@[simp] theorem runActivate_stop (s : State) (c : Ctx) (hO : State.stop s) :
    State.stop (runActivate s c).2 := by
  unfold runActivate; dsimp only; (repeat' split) <;> simp_all
theorem execActivate_stop (mb : Nat) (s : State) (hO : s.stop) :
    ∀ t, execActivate mb s = .next t → State.stop t := by
  rintro _ ⟨⟩; exact State.serveCmd_stop _ _ _ _ hO (logged_stop _ runActivate_stop)
@[simp] theorem runUpdOpen_stop (s : State) (c : Ctx) (hO : State.stop s) :
    State.stop (runUpdOpen s c).2 := by
  unfold runUpdOpen; dsimp only; (repeat' split) <;> simp (maxDischargeDepth := 60) +contextual [hO, State.each_stop, State.when_stop, State.updCell_stop]
theorem execUpdOpen_stop (mb : Nat) (s : State) (hO : s.stop) :
    ∀ t, execUpdOpen mb s = .next t → State.stop t := by
  rintro _ ⟨⟩; exact State.serveCmd_stop _ _ _ _ hO (logged_stop _ runUpdOpen_stop)
theorem withUpd_stop (f : UpdSess → State → Ctx → Ans × State)
    (h : ∀ u s x, State.stop s → State.stop (f u s x).2) (s : State) (c : Ctx) (hO : s.stop) :
    State.stop (withUpd f s c).2 := by
  unfold withUpd; dsimp only; (repeat' split) <;> simp [noAns, h, hO]
@[simp] theorem State.putSess_stop (s : State) (u : UpdSess) (hO : State.stop s) :
    State.stop (State.putSess s u) := by
  exact hO
@[simp] theorem takePart_stop (u : UpdSess) (s : State) (c : Ctx) (hO : State.stop s) :
    State.stop (takePart u s c).2 := by
  unfold takePart; dsimp only; (repeat' split) <;> simp (maxDischargeDepth := 60) +contextual [hO, State.each_stop, State.when_stop, State.updCell_stop]
theorem execUpdData_stop (mb : Nat) (s : State) (hO : s.stop) :
    ∀ t, execUpdData mb s = .next t → State.stop t := by
  rintro _ ⟨⟩; exact State.serveCmd_stop _ _ _ _ hO (withUpd_stop _ takePart_stop)
@[simp] theorem askVerify_stop (u : UpdSess) (s : State) (c : Ctx) (hO : State.stop s) :
    State.stop (askVerify u s c).2 := by
  unfold askVerify; dsimp only; (repeat' split) <;> simp_all
theorem execUpdVerify_stop (mb : Nat) (s : State) (hO : s.stop) :
    ∀ t, execUpdVerify mb s = .next t → State.stop t := by
  rintro _ ⟨⟩; exact State.serveCmd_stop _ _ _ _ hO (logged_stop _ (withUpd_stop _ askVerify_stop))
@[simp] theorem State.kernelDown_stop (s : State) (c : Ctx) (b : Bool) (e : Envelope) (hO : State.stop s) :
    State.stop (State.kernelDown s c b e) := by
  simp (maxDischargeDepth := 60) [State.kernelDown, hO]
@[simp] theorem State.kernelTurns_stop (s : State) (c : Ctx) (b : Bool) (e : Envelope) (hO : State.stop s) :
    State.stop (State.kernelTurns s c b e) := by
  simp (maxDischargeDepth := 60) [State.kernelTurns, hO]
@[simp] theorem runKernel_stop (s : State) (c : Ctx) (hO : State.stop s) :
    State.stop (runKernel s c).2 := by
  unfold runKernel; dsimp only; (repeat' split) <;> simp_all
@[simp] theorem runFirmware_stop (s : State) (c : Ctx) (hO : State.stop s) :
    State.stop (runFirmware s c).2 := by
  unfold runFirmware; split <;> simp (maxDischargeDepth := 60) [hO]
@[simp] theorem runAppImage_stop (s : State) (c : Ctx) (hO : State.stop s) :
    State.stop (runAppImage s c).2 := by
  unfold runAppImage; dsimp only; (repeat' split) <;> simp_all
@[simp] theorem askActivate_stop (u : UpdSess) (s : State) (c : Ctx) (hO : State.stop s) :
    State.stop (askActivate u s c).2 := by
  unfold askActivate; (repeat' split) <;> simp (maxDischargeDepth := 60) [hO]
theorem execUpdActivate_stop (mb : Nat) (s : State) (hO : s.stop) :
    ∀ t, execUpdActivate mb s = .next t → State.stop t := by
  rintro _ ⟨⟩; exact State.serveCmd_stop _ _ _ _ hO (logged_stop _ (withUpd_stop _ askActivate_stop))
theorem execUpdAbort_stop (mb : Nat) (s : State) (hO : s.stop) :
    ∀ t, execUpdAbort mb s = .next t → State.stop t := by
  rintro _ ⟨⟩; exact State.serveCmd_stop _ _ _ _ hO (logged_stop _ (withUpd_stop _ fun u s x h => by simp [okAns, h]))
theorem execUpdStatus_stop (mb : Nat) (s : State) (hO : s.stop) :
    ∀ t, execUpdStatus mb s = .next t → State.stop t := by
  rintro _ ⟨⟩; exact State.serveCmd_stop _ _ _ _ hO (query_stop _ _ _)
@[simp] theorem runRecOpen_stop (s : State) (c : Ctx) (hO : State.stop s) :
    State.stop (runRecOpen s c).2 := by
  unfold runRecOpen; split <;> simp (maxDischargeDepth := 60) [hO]
theorem execRecOpen_stop (mb : Nat) (s : State) (hO : s.stop) :
    ∀ t, execRecOpen mb s = .next t → State.stop t := by
  rintro _ ⟨⟩; exact State.serveCmd_stop _ _ _ _ hO (runRecOpen_stop)
@[simp] theorem State.nextBatch_stop (s : State) (k : Cursor) (maxBytes : Nat) (hO : State.stop s) :
    State.stop (State.nextBatch s k maxBytes).2 := by
  exact hO
@[simp] theorem runRecNext_stop (s : State) (c : Ctx) (hO : State.stop s) :
    State.stop (runRecNext s c).2 := by
  unfold runRecNext; dsimp only; (repeat' split) <;> simp_all
theorem execRecNext_stop (mb : Nat) (s : State) (hO : s.stop) :
    ∀ t, execRecNext mb s = .next t → State.stop t := by
  rintro _ ⟨⟩; exact State.serveCmd_stop _ _ _ _ hO (runRecNext_stop)
theorem execRecClose_stop (mb : Nat) (s : State) (hO : s.stop) :
    ∀ t, execRecClose mb s = .next t → State.stop t := by
  rintro _ ⟨⟩; exact State.serveCmd_stop _ _ _ _ hO (fun s x h => by dsimp only [cmdRecClose, opCmd, noAns, okAns]; (repeat' split) <;> simp [h])
theorem execRecCounters_stop (mb : Nat) (s : State) (hO : s.stop) :
    ∀ t, execRecCounters mb s = .next t → State.stop t := by
  rintro _ ⟨⟩; exact State.serveCmd_stop _ _ _ _ hO (query_stop _ _ _)
@[simp] theorem State.startTest_stop (s : State) (t : TestSt) (hO : State.stop s) :
    State.stop (State.startTest s t) := hO
@[simp] theorem runTestRun_stop (s : State) (c : Ctx) (hO : State.stop s) :
    State.stop (runTestRun s c).2 := by
  unfold runTestRun; dsimp only; (repeat' split) <;> simp_all (maxDischargeDepth := 60)
theorem execTestRun_stop (mb : Nat) (s : State) (hO : s.stop) :
    ∀ t, execTestRun mb s = .next t → State.stop t := by
  rintro _ ⟨⟩; exact State.serveCmd_stop _ _ _ _ hO (logged_stop _ runTestRun_stop)
theorem execTestList_stop (mb : Nat) (s : State) (hO : s.stop) :
    ∀ t, execTestList mb s = .next t → State.stop t := by
  rintro _ ⟨⟩; exact State.serveCmd_stop _ _ _ _ hO (query_stop _ _ _)
@[simp] theorem runTestAbort_stop (s : State) (c : Ctx) (hO : State.stop s) :
    State.stop (runTestAbort s c).2 := by
  unfold runTestAbort; split <;> simp (maxDischargeDepth := 60) [hO]
theorem execTestAbort_stop (mb : Nat) (s : State) (hO : s.stop) :
    ∀ t, execTestAbort mb s = .next t → State.stop t := by
  rintro _ ⟨⟩; exact State.serveCmd_stop _ _ _ _ hO (logged_stop _ runTestAbort_stop)
@[simp] theorem State.beginRelease_stop (s : State) (kind : Nat) (index : Nat) (r : CmdRef) (hO : State.stop s) :
    State.stop (State.beginRelease s kind index r) := by
  unfold State.beginRelease; dsimp only; (repeat' split) <;> simp (maxDischargeDepth := 60) +contextual [hO, State.each_stop, State.when_stop, State.updCell_stop]
@[simp] theorem runHedgeRelease_stop (s : State) (c : Ctx) (hO : State.stop s) :
    State.stop (runHedgeRelease s c).2 := by
  unfold runHedgeRelease; dsimp only; (repeat' split) <;> simp_all
theorem execHedgeRelease_stop (mb : Nat) (s : State) (hO : s.stop) :
    ∀ t, execHedgeRelease mb s = .next t → State.stop t := by
  rintro _ ⟨⟩; exact State.serveCmd_stop _ _ _ _ hO (logged_stop _ runHedgeRelease_stop)
@[simp] theorem State.queueOp_stop (s : State) (c : Ctx) (item : Nat) (k : OpKind) (hO : State.stop s) :
    State.stop (State.queueOp s c item k).2 := by
  simp (maxDischargeDepth := 60) [State.queueOp, hO]
theorem execRouteSet_stop (mb : Nat) (s : State) (hO : s.stop) :
    ∀ t, execRouteSet mb s = .next t → State.stop t := by
  rintro _ ⟨⟩; exact State.serveCmd_stop _ _ _ _ hO (fun s x h => by dsimp only [cmdRouteSet, opCmd, noAns, okAns]; (repeat' split) <;> simp [h])
theorem execRouteCancel_stop (mb : Nat) (s : State) (hO : s.stop) :
    ∀ t, execRouteCancel mb s = .next t → State.stop t := by
  rintro _ ⟨⟩; exact State.serveCmd_stop _ _ _ _ hO (fun s x h => by dsimp only [cmdRouteCancel, opCmd, noAns, okAns]; (repeat' split) <;> simp [h])
theorem execAutoSet_stop (mb : Nat) (s : State) (hO : s.stop) :
    ∀ t, execAutoSet mb s = .next t → State.stop t := by
  rintro _ ⟨⟩; exact State.serveCmd_stop _ _ _ _ hO (fun s x h => by dsimp only [cmdAutoSet, opCmd, noAns, okAns]; (repeat' split) <;> simp [h])
theorem execTrigArm_stop (mb : Nat) (s : State) (hO : s.stop) :
    ∀ t, execTrigArm mb s = .next t → State.stop t := by
  rintro _ ⟨⟩; exact State.serveCmd_stop _ _ _ _ hO (fun s x h => by dsimp only [cmdTrigArm, opCmd, noAns, okAns]; (repeat' split) <;> simp [h])
theorem execKeyRelease_stop (mb : Nat) (s : State) (hO : s.stop) :
    ∀ t, execKeyRelease mb s = .next t → State.stop t := by
  rintro _ ⟨⟩; exact State.serveCmd_stop _ _ _ _ hO (fun s x h => by dsimp only [cmdKeyRelease, opCmd, noAns, okAns]; (repeat' split) <;> simp [h])
@[simp] theorem State.secondOp_stop (s : State) (c : Ctx) (window : Bool) (k : OpKind) (hO : State.stop s) :
    State.stop (State.secondOp s c window k).2 := by
  unfold State.secondOp; dsimp only; (repeat' split) <;> simp_all
@[simp] theorem runEmergRelease_stop (s : State) (c : Ctx) (hO : State.stop s) :
    State.stop (runEmergRelease s c).2 := by
  unfold runEmergRelease; dsimp only; (repeat' split) <;> simp_all
theorem execEmergRelease_stop (mb : Nat) (s : State) (hO : s.stop) :
    ∀ t, execEmergRelease mb s = .next t → State.stop t := by
  rintro _ ⟨⟩; exact State.serveCmd_stop _ _ _ _ hO (runEmergRelease_stop)
@[simp] theorem runAxleReset_stop (s : State) (c : Ctx) (hO : State.stop s) :
    State.stop (runAxleReset s c).2 := by
  unfold runAxleReset; (repeat' split) <;> simp (maxDischargeDepth := 60) [hO]
theorem execAxleReset_stop (mb : Nat) (s : State) (hO : s.stop) :
    ∀ t, execAxleReset mb s = .next t → State.stop t := by
  rintro _ ⟨⟩; exact State.serveCmd_stop _ _ _ _ hO (runAxleReset_stop)
@[simp] theorem runTimeSet_stop (s : State) (c : Ctx) (hO : State.stop s) :
    State.stop (runTimeSet s c).2 := by
  unfold runTimeSet; dsimp only; (repeat' split) <;> simp (maxDischargeDepth := 60) +contextual [hO, State.each_stop, State.when_stop, State.updCell_stop]
theorem execTimeSet_stop (mb : Nat) (s : State) (hO : s.stop) :
    ∀ t, execTimeSet mb s = .next t → State.stop t := by
  rintro _ ⟨⟩; exact State.serveCmd_stop _ _ _ _ hO (logged_stop _ runTimeSet_stop)
@[simp] theorem runTimeSource_stop (s : State) (c : Ctx) (hO : State.stop s) :
    State.stop (runTimeSource s c).2 := by
  unfold runTimeSource; dsimp only; (repeat' split) <;> simp (maxDischargeDepth := 60) +contextual [hO, State.each_stop, State.when_stop, State.updCell_stop]
theorem execTimeSource_stop (mb : Nat) (s : State) (hO : s.stop) :
    ∀ t, execTimeSource mb s = .next t → State.stop t := by
  rintro _ ⟨⟩; exact State.serveCmd_stop _ _ _ _ hO (logged_stop _ runTimeSource_stop)
@[simp] theorem runHandover_stop (s : State) (c : Ctx) (hO : State.stop s) :
    State.stop (runHandover s c).2 := by
  unfold runHandover; split <;> simp (maxDischargeDepth := 60) [hO]
theorem execHandover_stop (mb : Nat) (s : State) (hO : s.stop) :
    ∀ t, execHandover mb s = .next t → State.stop t := by
  rintro _ ⟨⟩; exact State.serveCmd_stop _ _ _ _ hO (logged_stop _ runHandover_stop)
@[simp] theorem runColdAssume_stop (s : State) (c : Ctx) (hO : State.stop s) :
    State.stop (runColdAssume s c).2 := by
  unfold runColdAssume; dsimp only; (repeat' split) <;> simp (maxDischargeDepth := 60) +contextual [hO, State.each_stop, State.when_stop, State.updCell_stop]
theorem execColdAssume_stop (mb : Nat) (s : State) (hO : s.stop) :
    ∀ t, execColdAssume mb s = .next t → State.stop t := by
  rintro _ ⟨⟩; exact State.serveCmd_stop _ _ _ _ hO (logged_stop _ runColdAssume_stop)
theorem execSbStatus_stop (mb : Nat) (s : State) (hO : s.stop) :
    ∀ t, execSbStatus mb s = .next t → State.stop t := by
  rintro _ ⟨⟩; exact State.serveCmd_stop _ _ _ _ hO (query_stop _ _ _)
theorem execSbErrlog_stop (mb : Nat) (s : State) (hO : s.stop) :
    ∀ t, execSbErrlog mb s = .next t → State.stop t := by
  rintro _ ⟨⟩; exact State.serveCmd_stop _ _ _ _ hO (query_stop _ _ _)
theorem execSbErrclr_stop (mb : Nat) (s : State) (hO : s.stop) :
    ∀ t, execSbErrclr mb s = .next t → State.stop t := by
  rintro _ ⟨⟩; exact State.serveCmd_stop _ _ _ _ hO (fun s x h => by dsimp only [cmdSbErrclr, opCmd, noAns, okAns]; (repeat' split) <;> simp [h])
@[simp] theorem State.closeWindow_stop (s : State) (n : Nat) (hO : State.stop s) :
    State.stop (State.closeWindow s n) := by
  simp (maxDischargeDepth := 60) +contextual [State.closeWindow, hO, State.each_stop, State.updCell_stop]
@[simp] theorem runWindowSet_stop (s : State) (c : Ctx) (hO : State.stop s) :
    State.stop (runWindowSet s c).2 := by
  unfold runWindowSet; dsimp only; (repeat' split) <;> simp (maxDischargeDepth := 60) +contextual [hO, State.each_stop, State.when_stop, State.updCell_stop]
theorem execWindowSet_stop (mb : Nat) (s : State) (hO : s.stop) :
    ∀ t, execWindowSet mb s = .next t → State.stop t := by
  rintro _ ⟨⟩; exact State.serveCmd_stop _ _ _ _ hO (logged_stop _ runWindowSet_stop)
@[simp] theorem runTunnelSet_stop (s : State) (c : Ctx) (hO : State.stop s) :
    State.stop (runTunnelSet s c).2 := by
  unfold runTunnelSet; dsimp only; (repeat' split) <;> simp (maxDischargeDepth := 60) +contextual [hO, State.each_stop, State.when_stop, State.updCell_stop]
theorem execTunnelSet_stop (mb : Nat) (s : State) (hO : s.stop) :
    ∀ t, execTunnelSet mb s = .next t → State.stop t := by
  rintro _ ⟨⟩; exact State.serveCmd_stop _ _ _ _ hO (logged_stop _ runTunnelSet_stop)
theorem execTunnelStatus_stop (mb : Nat) (s : State) (hO : s.stop) :
    ∀ t, execTunnelStatus mb s = .next t → State.stop t := by
  rintro _ ⟨⟩; exact State.serveCmd_stop _ _ _ _ hO (query_stop _ _ _)
@[simp] theorem State.queueForce_stop (s : State) (c : Ctx) (f : ForceCmd) (hO : State.stop s) :
    State.stop (State.queueForce s c f).2 := by
  simp (maxDischargeDepth := 60) [State.queueForce, hO]
@[simp] theorem runForceSet_stop (s : State) (c : Ctx) (hO : State.stop s) :
    State.stop (runForceSet s c).2 := by
  unfold runForceSet; dsimp only; (repeat' split) <;> simp_all
theorem execForceSet_stop (mb : Nat) (s : State) (hO : s.stop) :
    ∀ t, execForceSet mb s = .next t → State.stop t := by
  rintro _ ⟨⟩; exact State.serveCmd_stop _ _ _ _ hO (runForceSet_stop)
@[simp] theorem runForceClear_stop (s : State) (c : Ctx) (hO : State.stop s) :
    State.stop (runForceClear s c).2 := by
  unfold runForceClear; dsimp only; (repeat' split) <;> simp_all
theorem execForceClear_stop (mb : Nat) (s : State) (hO : s.stop) :
    ∀ t, execForceClear mb s = .next t → State.stop t := by
  rintro _ ⟨⟩; exact State.serveCmd_stop _ _ _ _ hO (logged_stop _ runForceClear_stop)
theorem execForceList_stop (mb : Nat) (s : State) (hO : s.stop) :
    ∀ t, execForceList mb s = .next t → State.stop t := by
  rintro _ ⟨⟩; exact State.serveCmd_stop _ _ _ _ hO (query_stop _ _ _)
theorem execSwitchForwarding_stop (net : Net) (port2 : Bool) (f : Frame) (s : State) (hO : State.stop s) :
    ∀ t, (execSwitchForwarding net port2 f s) = .next t → State.stop t := by
  rintro _ ⟨⟩; simp (maxDischargeDepth := 60) [hO]
theorem execLearnedAddressAgeing_stop (net : Net) (mac : Nat) (s : State) (hO : State.stop s) :
    ∀ t, (execLearnedAddressAgeing net mac s) = .next t → State.stop t := by
  rintro _ ⟨⟩; simp (maxDischargeDepth := 60) [hO]
theorem execEthernetLinkChange_stop (net : Net) (port2 : Bool) (up : Bool) (s : State) (hO : State.stop s) :
    ∀ t, (execEthernetLinkChange net port2 up s) = .next t → State.stop t := by
  rintro _ ⟨⟩; simp (maxDischargeDepth := 60) [hO]
@[simp] theorem State.ringSend_stop (s : State) (n : Net) (kind : Nat) (hO : State.stop s) :
    State.stop (State.ringSend s n kind) := by
  exact hO
theorem execRingtestSend_stop (net : Net) (s : State) (hO : State.stop s) :
    ∀ t, (execRingtestSend net s) = .next t → State.stop t := by
  rintro _ ⟨⟩; simp (maxDischargeDepth := 60) [hO]
theorem execRingtestReceived_stop (net : Net) (port2 : Bool) (f : Frame) (s : State) (hO : State.stop s) :
    ∀ t, (execRingtestReceived net port2 f s) = .next t → State.stop t := by
  rintro _ ⟨⟩; simp (maxDischargeDepth := 60) [hO]
theorem execRingBreak_stop (net : Net) (s : State) (hO : State.stop s) :
    ∀ t, (execRingBreak net s) = .next t → State.stop t := by
  rintro _ ⟨⟩; simp (maxDischargeDepth := 60) [hO]
theorem execRingClose_stop (net : Net) (s : State) (hO : State.stop s) :
    ∀ t, (execRingClose net s) = .next t → State.stop t := by
  rintro _ ⟨⟩; simp (maxDischargeDepth := 60) [hO]
@[simp] theorem State.clearOut_stop (s : State) (hO : State.stop s) :
    State.stop (State.clearOut s) := by
  exact hO
@[simp] theorem State.tickCells_stop (s : State) (hO : State.stop s) :
    State.stop (State.tickCells s) := by
  simp (maxDischargeDepth := 60) +contextual [State.tickCells, hO, State.each_stop, State.updCell_stop]
@[simp] theorem State.tickCycle_stop (s : State) (hO : State.stop s) :
    State.stop (State.tickCycle s) := by
  exact hO
@[simp] theorem State.tickRecs_stop (s : State) (hO : State.stop s) :
    State.stop (State.tickRecs s) := by
  simp (maxDischargeDepth := 60) [State.tickRecs, hO]
@[simp] theorem State.restartFw_stop (s : State) (hO : State.stop s) :
    State.stop (State.restartFw s) := by
  simp (maxDischargeDepth := 60) [State.restartFw, hO]
@[simp] theorem tick_stop (s : State) (hO : State.stop s) :
    State.stop (tick s) := by
  simp (maxDischargeDepth := 60) [tick, hO]
@[simp] theorem State.withFetchWord_stop (s : State) (nbits : Nat) (w : Nat) (hO : State.stop s) :
    State.stop (State.withFetchWord s nbits w) := by
  exact hO
end Sys2Proof.Machine
end

