-- ==== Sys2Proof/Laws/Term.lean ====
section
/-! SUPPORT. TERMINAL: every function of the state, and every command but a power-up, stays in it. -/

set_option linter.unusedSimpArgs false
set_option linter.unusedVariables false

namespace Sys2Proof.Machine
@[simp] theorem State.term_mk (pending id lanes cyc app trl image set cells banks frame conns nets pair flt mail stage bridge tunnels ports recs time be upd pow netTx legacyTx plTx splits free) :
    State.term (State.mk pending id lanes cyc app trl image set cells banks frame conns nets pair flt mail stage bridge tunnels ports recs time be upd pow netTx legacyTx plTx splits free) ↔
    (pow.mod = .terminal) := Iff.rfl
@[simp] theorem State.term_eta (s : State) : (s.pow.mod = .terminal) ↔ s.term := Iff.rfl
@[simp] theorem State.term_ite (c : Prop) [Decidable c] (s t : State) (hs : s.term) (ht : t.term) :
    State.term (if c then s else t) := by split <;> assumption
theorem State.each_term {α : Type} (s : State) (xs : List α) (f : State → α → State) (h : s.term)
    (hf : ∀ s x, s.term → State.term (f s x)) : State.term (s.each xs f) := by
  unfold State.each
  induction xs generalizing s with
  | nil => exact h
  | cons x xs ih => exact ih _ (hf _ _ h)
theorem State.when_term (s : State) (p : Bool) (f : State → State) (h : s.term)
    (hf : ∀ s, s.term → State.term (f s)) : State.term (s.when p f) := by
  unfold State.when; split
  · exact hf _ h
  · exact h
theorem State.fed_term (s : State) (f : State → State) (h : s.term)
    (hf : ∀ s, s.term → State.term (f s)) : State.term (s.fed f) := by
  unfold State.fed; split
  · exact hf _ h
  · exact h
theorem State.term_congr (s t : State) (hc : t.pow = s.pow) (h : s.term) : t.term := by
  unfold State.term at h ⊢; rw [hc]; exact h
@[simp] theorem State.cycling_term (s : State) (h : s.term) : s.cycling = false := by
  unfold State.term at h; unfold State.cycling; simp [h]
@[simp] theorem State.pairOn_term (s : State) (h : s.term) : s.pairOn = false := by
  unfold State.term at h; unfold State.pairOn; simp [h]
@[simp] theorem State.stopped_term (s : State) (h : s.term) : s.stopped = true := by
  unfold State.term at h; unfold State.stopped; simp [h]
@[simp] theorem State.booting_term (s : State) (h : s.term) : s.booting = false := by
  unfold State.term at h; unfold State.booting; simp [h]
theorem State.mod_term (s : State) (h : s.term) (m : ModState) (hm : m ≠ .terminal) (hs : m ≠ .safe) : (s.pow.mod == m) = false := by
  unfold State.term at h; rw [h]; cases m <;> simp_all
@[simp] theorem State.boot_term (s : State) (h : s.term) : (s.pow.mod == .boot) = false := s.mod_term h _ (by decide) (by decide)
@[simp] theorem State.sync_term (s : State) (h : s.term) : (s.pow.mod == .sync) = false := s.mod_term h _ (by decide) (by decide)
@[simp] theorem State.rejoin_term (s : State) (h : s.term) : (s.pow.mod == .rejoin) = false := s.mod_term h _ (by decide) (by decide)
@[simp] theorem State.service_term (s : State) (h : s.term) : (s.pow.mod == .service) = false := s.mod_term h _ (by decide) (by decide)
@[simp] theorem State.updLane_term (s : State) (l : Lane) (f : LaneSt → LaneSt) (hO : State.term s) :
    State.term (State.updLane s l f) := by
  exact hO
@[simp] theorem State.updLanes_term (s : State) (f : LaneSt → LaneSt) (hO : State.term s) :
    State.term (State.updLanes s f) := by
  exact hO
@[simp] theorem State.updCell_term (s : State) (c : Nat) (f : CellSt → CellSt) (hO : State.term s) :
    State.term (State.updCell s c f) := by
  exact hO
@[simp] theorem State.updBank_term (s : State) (b : Nat) (f : BankSt → BankSt) (hO : State.term s) :
    State.term (State.updBank s b f) := by
  exact hO
@[simp] theorem State.updNet_term (s : State) (n : Net) (f : NetSt → NetSt) (hO : State.term s) :
    State.term (State.updNet s n f) := by
  exact hO
@[simp] theorem State.updConn_term (s : State) (n : Nat) (f : ConnSt → ConnSt) (hO : State.term s) :
    State.term (State.updConn s n f) := by
  exact hO
@[simp] theorem State.updRecv_term (s : State) (n : Nat) (f : RecvRec → RecvRec) (hO : State.term s) :
    State.term (State.updRecv s n f) := by
  exact hO
@[simp] theorem State.updElem_term (s : State) (n : Nat) (f : Elem → Elem) (hO : State.term s) :
    State.term (State.updElem s n f) := by
  exact hO
@[simp] theorem State.updRoute_term (s : State) (r : Nat) (f : RouteCell → RouteCell) (hO : State.term s) :
    State.term (State.updRoute s r f) := by
  exact hO
@[simp] theorem State.updBox_term (s : State) (mb : Nat) (f : Mbox → Mbox) (hO : State.term s) :
    State.term (State.updBox s mb f) := by
  exact hO
@[simp] theorem State.updTunnel_term (s : State) (t : Nat) (f : Tunnel → Tunnel) (hO : State.term s) :
    State.term (State.updTunnel s t f) := by
  exact hO
@[simp] theorem State.updPort_term (s : State) (p : Nat) (f : LegacyPort → LegacyPort) (hO : State.term s) :
    State.term (State.updPort s p f) := by
  exact hO
@[simp] theorem State.putEff_term (s : State) (c : Nat) (e : Bool) (hO : State.term s) :
    State.term (State.putEff s c e) := by
  simp (maxDischargeDepth := 60) [State.putEff, hO]
@[simp] theorem State.dropEffs_term (s : State) (cs : List Nat) (h : s.term) : State.term (s.dropEffs cs) := by
  unfold State.dropEffs
  induction cs generalizing s with
  | nil => exact h
  | cons c cs ih => exact ih _ (State.putEff_term _ _ _ h)
@[simp] theorem State.passToken_term (s : State) (hO : State.term s) :
    State.term (State.passToken s) := by
  exact hO
@[simp] theorem State.settleToken_term (s : State) (hO : State.term s) :
    State.term (State.settleToken s) := by
  simp (maxDischargeDepth := 60) [State.settleToken, hO]
@[simp] theorem State.spendToken_term (s : State) (t : Token) (hO : State.term s) :
    State.term (State.spendToken s t) := by
  simp (maxDischargeDepth := 60) [State.spendToken, hO]
@[simp] theorem State.addHedge_term (s : State) (h : Hedge) (hO : State.term s) :
    State.term (State.addHedge s h) := by
  simp (maxDischargeDepth := 60) [State.addHedge, hO]
@[simp] theorem State.dropHedges_term (s : State) (p : Hedge → Bool) (hO : State.term s) :
    State.term (State.dropHedges s p) := by
  exact hO
@[simp] theorem State.updHedges_term (s : State) (p : Hedge → Bool) (f : Hedge → Hedge) (hO : State.term s) :
    State.term (State.updHedges s p f) := by
  exact hO
@[simp] theorem State.plSend_term (s : State) (m : PlMsg) (hO : State.term s) :
    State.term (State.plSend s m) := by
  simp (maxDischargeDepth := 60) [State.plSend, hO]
@[simp] theorem State.fresh_term (s : State) (hO : State.term s) :
    State.term (State.fresh s).2 := by
  exact hO
@[simp] theorem freshBytes_term (n : Nat) (s : State) (hO : s.term) : State.term (State.freshBytes n s).2 := by
  induction n generalizing s with
  | zero => exact hO
  | succ n ih => simp [State.freshBytes, ih, hO]
@[simp] theorem State.freshNat_term (s : State) (n : Nat) (hO : State.term s) :
    State.term (State.freshNat s n).2 := by
  exact hO
@[simp] theorem State.freshCode_term (s : State) (hO : State.term s) :
    State.term (State.freshCode s).2 := by
  exact hO
@[simp] theorem State.takeSeq_term (s : State) (hO : State.term s) :
    State.term (State.takeSeq s).2 := by
  exact hO
@[simp] theorem State.updRecs_term (s : State) (f : RecSt → RecSt) (hO : State.term s) :
    State.term (State.updRecs s f) := by
  exact hO
@[simp] theorem State.takeSeqs_term (s : State) (n : Nat) (hO : State.term s) :
    State.term (State.takeSeqs s n).2 := by
  simp (maxDischargeDepth := 60) [State.takeSeqs, hO]
@[simp] theorem State.toRc_term (s : State) (prio : Nat) (x : Rec) (hO : State.term s) :
    State.term (State.toRc s prio x) := by
  simp (maxDischargeDepth := 60) [State.toRc, hO]
@[simp] theorem State.logFault_term (s : State) (x : FaultRec) (hO : State.term s) :
    State.term (State.logFault s x) := by
  exact hO
@[simp] theorem State.logCount_term (s : State) (c : Coal) (seq : Nat) (hO : State.term s) :
    State.term (State.logCount s c seq) := by
  simp (maxDischargeDepth := 60) [State.logCount, hO]
@[simp] theorem State.alarmSeq_term (s : State) (kind : Nat) (source : Nat) (seq : Nat) (hO : State.term s) :
    State.term (State.alarmSeq s kind source seq) := by
  simp (maxDischargeDepth := 60) [State.alarmSeq, hO]
@[simp] theorem State.closeCoal_term (s : State) (c : Coal) (hO : State.term s) :
    State.term (State.closeCoal s c) := by
  simp (maxDischargeDepth := 60) [State.closeCoal, hO]
@[simp] theorem State.openCoal_term (s : State) (kind : Nat) (source : Nat) (prio : Nat) (ot : Nat) (x : Rec) (body : Bytes) (hO : State.term s) :
    State.term (State.openCoal s kind source prio ot x body) := by
  simp (maxDischargeDepth := 60) [State.openCoal, hO]
@[simp] theorem State.recordAt_term (s : State) (kind : Nat) (source : Nat) (seq : Nat) (ot : Nat) (flags : Nat) (cls : Nat) (body : Bytes) (hO : State.term s) :
    State.term (State.recordAt s kind source seq ot flags cls body) := by
  unfold State.recordAt; split <;> simp (maxDischargeDepth := 60) [hO]
@[simp] theorem State.record_term (s : State) (kind : Nat) (source : Nat) (body : Bytes) (hO : State.term s) :
    State.term (State.record s kind source body).2 := by
  simp (maxDischargeDepth := 60) [State.record, hO]
@[simp] theorem State.refill_term (s : State) (hO : State.term s) :
    State.term (State.refill s) := by
  simp (maxDischargeDepth := 60) [State.refill, hO]
@[simp] theorem State.archiveEnd_term (s : State) (hO : State.term s) :
    State.term (State.archiveEnd s) := by
  simp (maxDischargeDepth := 60) [State.archiveEnd, hO]
@[simp] theorem State.drain_term (s : State) (n : Nat) (hO : State.term s) :
    State.term (State.drain s n) := by
  simp (maxDischargeDepth := 60) [State.drain, hO]
@[simp] theorem State.archiveTrigger_term (s : State) (cause : Nat) (hO : State.term s) :
    State.term (State.archiveTrigger s cause) := by
  simp (maxDischargeDepth := 60) [State.archiveTrigger, hO]
@[simp] theorem State.changeAt_term (s : State) (seq : Nat) (kind : Nat) (cred : Nat) (session : Nat) (ep : Nat) (cmd : Nat) (cbody : Bytes) (hO : State.term s) :
    State.term (State.changeAt s seq kind cred session ep cmd cbody) := by
  simp (maxDischargeDepth := 60) [State.changeAt, hO]
@[simp] theorem State.change_term (s : State) (kind : Nat) (cred : Nat) (session : Nat) (ep : Nat) (cmd : Nat) (cbody : Bytes) (hO : State.term s) :
    State.term (State.change s kind cred session ep cmd cbody) := by
  simp (maxDischargeDepth := 60) [State.change, hO]
@[simp] theorem State.ownChange_term (s : State) (kind : Nat) (cbody : Bytes) (hO : State.term s) :
    State.term (State.ownChange s kind cbody) := by
  simp (maxDischargeDepth := 60) [State.ownChange, hO]
@[simp] theorem State.bootRecord_term (s : State) (cause : Nat) (jump : Nat) (hO : State.term s) :
    State.term (State.bootRecord s cause jump) := by
  simp (maxDischargeDepth := 60) [State.bootRecord, hO]
@[simp] theorem State.lastResort_term (s : State) (region : Nat) (f : Fsid) (seq : Nat) (hO : State.term s) :
    State.term (State.lastResort s region f seq) := by
  exact hO
@[simp] theorem State.ringPut_term (s : State) (n : Notif) (hO : State.term s) :
    State.term (State.ringPut s n) := by
  exact hO
@[simp] theorem State.flushWaiting_term (s : State) (hO : State.term s) :
    State.term (State.flushWaiting s) := by
  simp (maxDischargeDepth := 60) +contextual [State.flushWaiting, hO, State.each_term, State.updCell_term]
@[simp] theorem State.notify_term (s : State) (n : Notif) (hO : State.term s) :
    State.term (State.notify s n) := by
  simp (maxDischargeDepth := 60) [State.notify, hO]
@[simp] theorem State.closeAlarm_term (s : State) (w : AlarmWin) (hO : State.term s) :
    State.term (State.closeAlarm s w) := by
  simp (maxDischargeDepth := 60) [State.closeAlarm, hO]
@[simp] theorem State.openAlarm_term (s : State) (f : Fsid) (seq : Nat) (body : Bytes) (hO : State.term s) :
    State.term (State.openAlarm s f seq body) := by
  simp (maxDischargeDepth := 60) [State.openAlarm, hO]
@[simp] theorem State.alarm_term (s : State) (f : Fsid) (raised : Nat) (applied : Nat) (parent : Nat) (seq : Nat) (full : Bool) (hO : State.term s) :
    State.term (State.alarm s f raised applied parent seq full) := by
  unfold State.alarm; split <;> simp (maxDischargeDepth := 60) [hO]
@[simp] theorem State.writeCompl_term (s : State) (c : Compl) (hO : State.term s) :
    State.term (State.writeCompl s c) := by
  simp (maxDischargeDepth := 60) [State.writeCompl, hO]
@[simp] theorem State.complete_term (s : State) (r : CmdRef) (status : Nat) (result : Bytes) (hO : State.term s) :
    State.term (State.complete s r status result) := by
  simp (maxDischargeDepth := 60) [State.complete, hO]
@[simp] theorem State.completeLater_term (s : State) (c : Compl) (hO : State.term s) :
    State.term (State.completeLater s c) := by
  exact hO
@[simp] theorem State.flushCompl_term (s : State) (hO : State.term s) :
    State.term (State.flushCompl s) := by
  simp (maxDischargeDepth := 60) +contextual [State.flushCompl, hO, State.each_term, State.updCell_term]
@[simp] theorem State.recordState_term (s : State) (subject : Nat) (index : Nat) (old : Nat) (new : Nat) (hO : State.term s) :
    State.term (State.recordState s subject index old new).2 := by
  simp (maxDischargeDepth := 60) [State.recordState, hO]
@[simp] theorem State.laneEvent_term (s : State) (l : Lane) (old : Nat) (new : Nat) (latch : Bool) (f : Option Fsid) (hO : State.term s) :
    State.term (State.laneEvent s l old new latch f) := by
  simp (maxDischargeDepth := 60) [State.laneEvent, hO]
@[simp] theorem State.pairNotice_term (s : State) (old : PairState) (hO : State.term s) :
    State.term (State.pairNotice s old) := by
  simp (maxDischargeDepth := 60) [State.pairNotice, hO]
@[simp] theorem State.setPair_term (s : State) (p : PairState) (hO : State.term s) :
    State.term (State.setPair s p) := by
  simp (maxDischargeDepth := 60) [State.setPair, hO]
@[simp] theorem State.setMod_terminal_term (s : State) : State.term (s.setMod .terminal) := by
  unfold State.setMod; split
  · rename_i h; exact (by simpa using h : s.pow.mod = .terminal)
  · apply State.recordState_term; exact (rfl : _ = _)
@[simp] theorem State.progress_term (s : State) (r : Option CmdRef) (cmd : Nat) (step : Nat) (steps : Nat) (hO : State.term s) :
    State.term (State.progress s r cmd step steps) := by
  simp (maxDischargeDepth := 60) [State.progress, hO]
@[simp] theorem State.postErr_term (s : State) (source : Nat) (window : Nat) (addr : Nat) (fstat : Nat) (ep : Nat) (hO : State.term s) :
    State.term (State.postErr s source window addr fstat ep) := by
  simp (maxDischargeDepth := 60) [State.postErr, hO]
@[simp] theorem State.refChange_term (s : State) (r : CmdRef) (kind : Nat) (body : Bytes) (hO : State.term s) :
    State.term (State.refChange s r kind body) := by
  simp (maxDischargeDepth := 60) [State.refChange, hO]
@[simp] theorem State.updUpd_term (s : State) (f : UpdSt → UpdSt) (hO : State.term s) :
    State.term (State.updUpd s f) := by
  exact hO
@[simp] theorem State.setSlot_term (s : State) (kind : Nat) (b : Bool) (x : Slot) (hO : State.term s) :
    State.term (State.setSlot s kind b x) := by
  unfold State.setSlot; split <;> simp (maxDischargeDepth := 60) [hO]
@[simp] theorem State.updAct_term (s : State) (f : ActSt → ActSt) (hO : State.term s) :
    State.term (State.updAct s f) := by
  exact hO
@[simp] theorem State.abortUpd_term (s : State) (cause : Nat) (hO : State.term s) :
    State.term (State.abortUpd s cause) := by
  unfold State.abortUpd; dsimp only; (repeat' split) <;> simp (maxDischargeDepth := 60) +contextual [hO, State.each_term, State.when_term, State.updCell_term]
@[simp] theorem State.emptyFrame_term (s : State) (hO : State.term s) :
    State.term (State.emptyFrame s) := by
  exact hO
@[simp] theorem State.closeCursor_term (s : State) (hO : State.term s) :
    State.term (State.closeCursor s) := by
  exact hO
@[simp] theorem State.endSession_term (s : State) (id : Nat) (hO : State.term s) :
    State.term (State.endSession s id) := by
  unfold State.endSession; split <;> simp (maxDischargeDepth := 60) [hO]
@[simp] theorem State.dropProv_term (s : State) (hO : State.term s) :
    State.term (State.dropProv s) := by
  unfold State.dropProv; split <;> simp (maxDischargeDepth := 60) [hO]
@[simp] theorem State.serviceDown_term (s : State) (rc : Bool) (hO : State.term s) :
    State.term (State.serviceDown s rc) := by
  simp (maxDischargeDepth := 60) +contextual [State.serviceDown, hO, State.each_term, State.updCell_term]
@[simp] theorem State.serviceUp_term (s : State) (hO : State.term s) :
    State.term (State.serviceUp s) := by
  simp (maxDischargeDepth := 60) +contextual [State.serviceUp, hO, State.each_term, State.updCell_term]
@[simp] theorem State.updBridge_term (s : State) (f : BridgeSt → BridgeSt) (hO : State.term s) :
    State.term (State.updBridge s f) := by
  exact hO
@[simp] theorem State.postedFailed_term (s : State) (x : Xfer) (fstat : Nat) (hO : State.term s) :
    State.term (State.postedFailed s x fstat) := by
  simp (maxDischargeDepth := 60) [State.postedFailed, hO]
@[simp] theorem State.endXfer_term (s : State) (x : Xfer) (fstat : Nat) (data : Bytes) (hO : State.term s) :
    State.term (State.endXfer s x fstat data) := by
  unfold State.endXfer; split <;> simp (maxDischargeDepth := 60) [hO]
@[simp] theorem State.resetSb_term (s : State) (hO : State.term s) :
    State.term (State.resetSb s) := by
  simp (maxDischargeDepth := 60) +contextual [State.resetSb, hO, State.each_term, State.updCell_term]
@[simp] theorem State.useSet_term (s : State) (x : Option SlotSet) (hO : State.term s) :
    State.term (State.useSet s x) := by
  exact hO
@[simp] theorem State.switchFw_term (s : State) (hO : State.term s) :
    State.term (State.switchFw s) := by
  unfold State.switchFw; dsimp only; (repeat' split) <;> simp_all
@[simp] theorem State.revertFw_term (s : State) (hO : State.term s) :
    State.term (State.revertFw s) := by
  unfold State.revertFw; dsimp only; (repeat' split) <;> simp_all
@[simp] theorem State.endFallback_term (s : State) (hO : State.term s) :
    State.term (State.endFallback s) := by
  unfold State.endFallback; (repeat' split) <;> simp (maxDischargeDepth := 60) [hO]
@[simp] theorem State.fallbackRec_term (s : State) (a : ActSt) (item : Nat) (hO : State.term s) :
    State.term (State.fallbackRec s a item) := by
  simp (maxDischargeDepth := 60) [State.fallbackRec, hO]
@[simp] theorem State.kernelBack_term (s : State) (a : ActSt) (hO : State.term s) :
    State.term (State.kernelBack s a) := by
  simp (maxDischargeDepth := 60) +contextual [State.kernelBack, hO, State.each_term, State.updCell_term]
@[simp] theorem State.kernelMapBack_term (s : State) (a : ActSt) (hO : State.term s) :
    State.term (State.kernelMapBack s a) := by
  exact hO
@[simp] theorem State.failAct_term (s : State) (item : Nat) (hO : State.term s) :
    State.term (State.failAct s item) := by
  unfold State.failAct; (repeat' split) <;> simp (maxDischargeDepth := 60) [hO]
@[simp] theorem State.actLane_term (s : State) (l : Lane) (hO : State.term s) :
    State.term (State.actLane s l) := by
  unfold State.actLane; split <;> simp (maxDischargeDepth := 60) [hO]
@[simp] theorem State.actSafe_term (s : State) (hO : State.term s) :
    State.term (State.actSafe s) := by
  unfold State.actSafe; split <;> simp (maxDischargeDepth := 60) [hO]
@[simp] theorem State.actService_term (s : State) (hO : State.term s) :
    State.term (State.actService s) := by
  unfold State.actService; split <;> simp (maxDischargeDepth := 60) [hO]
@[simp] theorem State.recordEvent_term (s : State) (f : Fsid) (raised : Nat) (applied : Nat) (conseq : Bool) (escal : Bool) (parent : Option Nat) (hO : State.term s) :
    State.term (State.recordEvent s f raised applied conseq escal parent).2 := by
  simp (maxDischargeDepth := 60) [State.recordEvent, hO]
@[simp] theorem State.noteFault_term (s : State) (seq : Nat) (x : List Nat) (hO : State.term s) :
    State.term (State.noteFault s seq x) := by
  exact hO
@[simp] theorem State.startGrace_term (s : State) (f : Fsid) (seq : Nat) (cls : Nat) (out : Option Lane) (hO : State.term s) :
    State.term (State.startGrace s f seq cls out) := by
  simp (maxDischargeDepth := 60) [State.startGrace, hO]
@[simp] theorem State.abandonWith_term (s : State) (status : Nat) (cause : Nat) (result : Bytes) (hO : State.term s) :
    State.term (State.abandonWith s status cause result) := by
  unfold State.abandonWith; split <;> simp (maxDischargeDepth := 60) [hO]
@[simp] theorem State.abandonTest_term (s : State) (status : Nat) (cause : Nat) (hO : State.term s) :
    State.term (State.abandonTest s status cause) := by
  simp (maxDischargeDepth := 60) [State.abandonTest, hO]
@[simp] theorem State.safeActions_term (s : State) (hO : State.term s) :
    State.term (State.safeActions s) := by
  simp (maxDischargeDepth := 60) [State.safeActions, hO]
@[simp] theorem State.enterTerminal_term (s : State) (hO : State.term s) :
    State.term (State.enterTerminal s) := by
  simp (maxDischargeDepth := 60) [State.enterTerminal, hO]
@[simp] theorem State.safeLimit_term (s : State) (hO : State.term s) :
    State.term (State.safeLimit s) := by
  simp (maxDischargeDepth := 60) [State.safeLimit, hO]
@[simp] theorem State.enterSafe_term (s : State) (seq : Nat) (hO : State.term s) :
    State.term (State.enterSafe s seq) := by
  simp (maxDischargeDepth := 60) [State.enterSafe, hO]
@[simp] theorem State.latchMark_term (s : State) (l : Lane) (hO : State.term s) :
    State.term (State.latchMark s l) := by
  simp (maxDischargeDepth := 60) [State.latchMark, hO]
@[simp] theorem State.latchOut_term (s : State) (l : Lane) (hO : State.term s) :
    State.term (State.latchOut s l) := by
  simp (maxDischargeDepth := 60) [State.latchOut, hO]
@[simp] theorem State.withdraw_term (s : State) (l : Lane) (f : Fsid) (seq : Nat) (hold : LHold) (counted : Bool) (hO : State.term s) :
    State.term (State.withdraw s l f seq hold counted) := by
  simp (maxDischargeDepth := 60) [State.withdraw, hO]
@[simp] theorem State.afterWithdraw_term (s : State) (l : Lane) (f : Fsid) (hO : State.term s) :
    State.term (State.afterWithdraw s l f) := by
  exact hO
@[simp] theorem State.countEvent_term (s : State) (f : Fsid) (dflt : Nat) (hO : State.term s) :
    State.term (State.countEvent s f dflt).2.2 := by
  unfold State.countEvent; (repeat' split) <;> simp (maxDischargeDepth := 60) [hO]
@[simp] theorem State.serviceRestart_term (s : State) (rc : Bool) (hO : State.term s) :
    State.term (State.serviceRestart s rc) := by
  simp (maxDischargeDepth := 60) [State.serviceRestart, hO]
@[simp] theorem State.openCut_term (s : State) (b : Nat) (hO : State.term s) :
    State.term (State.openCut s b) := by
  simp (maxDischargeDepth := 60) [State.openCut, hO]
@[simp] theorem State.cutOf_term (s : State) (blk : Nat) (hO : State.term s) :
    State.term (State.cutOf s blk) := by
  simp (maxDischargeDepth := 60) [State.cutOf, hO]
@[simp] theorem State.hedgeUnsettled_term (s : State) (blk : Nat) (f : Fsid) (seq : Nat) (hO : State.term s) :
    State.term (State.hedgeUnsettled s blk f seq) := by
  simp (maxDischargeDepth := 60) [State.hedgeUnsettled, hO]
@[simp] theorem State.notSettled_term (s : State) (blk : Nat) (parent : Option Nat) (hO : State.term s) :
    State.term (State.notSettled s blk parent) := by
  unfold State.notSettled; dsimp only; (repeat' split) <;> simp (maxDischargeDepth := 60) [hO]
@[simp] theorem State.clearBlock_term (s : State) (blk : Nat) (hO : State.term s) :
    State.term (State.clearBlock s blk) := by
  simp (maxDischargeDepth := 60) [State.clearBlock, hO]
@[simp] theorem State.postedMasked_term (s : State) (k seq : Nat) (hO : State.term s) :
    State.term (State.postedMasked s k seq) := by
  simp (maxDischargeDepth := 60) +contextual [State.postedMasked, hO, State.each_term]
@[simp] theorem State.resetBlock_term (s : State) (blk : Nat) (f : Fsid) (seq : Nat) (hO : State.term s) :
    State.term (State.resetBlock s blk f seq) := by
  unfold State.resetBlock; split <;> simp (maxDischargeDepth := 60) [hO]
@[simp] theorem State.hedgeCell_term (s : State) (c : Nat) (f : Fsid) (seq : Nat) (hO : State.term s) :
    State.term (State.hedgeCell s c f seq) := by
  simp (maxDischargeDepth := 60) [State.hedgeCell, hO]
@[simp] theorem State.containCm_term (s : State) (f : Fsid) (seq : Nat) (hO : State.term s) :
    State.term (State.containCm s f seq) := by
  simp (maxDischargeDepth := 60) [State.containCm, hO]
@[simp] theorem State.hedgeEngine_term (s : State) (l : Lane) (f : Fsid) (seq : Nat) (hO : State.term s) :
    State.term (State.hedgeEngine s l f seq) := by
  simp (maxDischargeDepth := 60) [State.hedgeEngine, hO]
@[simp] theorem State.failResync_term (s : State) (l : Lane) (parent : Option Nat) (hO : State.term s) :
    State.term (State.failResync s l parent) := by
  unfold State.failResync; dsimp only; (repeat' split) <;> simp (maxDischargeDepth := 60) +contextual [hO, State.each_term, State.when_term, State.updCell_term]
@[simp] theorem State.reactLane_term (s : State) (l : Lane) (f : Fsid) (cls : Nat) (seq : Nat) (hO : State.term s) :
    State.term (State.reactLane s l f cls seq) := by
  unfold State.reactLane; split <;> simp (maxDischargeDepth := 60) [hO]
@[simp] theorem State.react_term (s : State) (f : Fsid) (cls : Nat) (seq : Nat) (named : Option Lane) (hO : State.term s) :
    State.term (State.react s f cls seq named) := by
  unfold State.react; (repeat' split) <;> simp (maxDischargeDepth := 60) [hO]
@[simp] theorem State.collectFull_term (s : State) (f : Fsid) (dflt : Nat) (parent : Option Nat) (named : Option Lane) (via : Option Net) (hO : State.term s) :
    State.term (State.collectFull s f dflt parent named via).2 := by
  unfold State.collectFull; dsimp only; (repeat' split) <;> simp (maxDischargeDepth := 60) +contextual [hO, State.each_term, State.when_term, State.updCell_term]
@[simp] theorem State.collect_term (s : State) (f : Fsid) (hO : State.term s) :
    State.term (State.collect s f) := by
  simp (maxDischargeDepth := 60) [State.collect, hO]
@[simp] theorem State.collectNamed_term (s : State) (f : Fsid) (x : List Nat) (hO : State.term s) :
    State.term (State.collectNamed s f x) := by
  simp (maxDischargeDepth := 60) [State.collectNamed, hO]
@[simp] theorem State.collectOpen_term (s : State) (level : Nat) (region : Nat) (block : Nat) (cell : Nat) (k : Nat) (cls : Nat) (hO : State.term s) :
    State.term (State.collectOpen s level region block cell k cls) := by
  simp (maxDischargeDepth := 60) [State.collectOpen, hO]
@[simp] theorem State.stopModule_term (s : State) (f : Fsid) (hO : State.term s) :
    State.term (State.stopModule s f) := by
  simp (maxDischargeDepth := 60) [State.stopModule, hO]
@[simp] theorem State.updCh_term (s : State) (c : Nat) (l : Lane) (f : ChSt → ChSt) (hO : State.term s) :
    State.term (State.updCh s c l f) := by
  simp (maxDischargeDepth := 60) +contextual [State.updCh, hO, State.each_term, State.updCell_term]
@[simp] theorem State.pairTick_term (s : State) (c : Nat) (l : Lane) (hO : State.term s) :
    State.term (State.pairTick s c l) := by
  simp (maxDischargeDepth := 60) [State.pairTick, hO]
@[simp] theorem State.pairTicks_term (s : State) (c : Nat) (hO : State.term s) :
    State.term (State.pairTicks s c) := by
  simp (maxDischargeDepth := 60) [State.pairTicks, hO]
@[simp] theorem State.enterWarm_term (s : State) (c : Nat) (hO : State.term s) :
    State.term (State.enterWarm s c) := by
  simp (maxDischargeDepth := 60) [State.enterWarm, hO]
@[simp] theorem State.warmAll_term (s : State) (hO : State.term s) :
    State.term (State.warmAll s) := by
  simp (maxDischargeDepth := 60) +contextual [State.warmAll, hO, State.each_term, State.updCell_term]
@[simp] theorem State.latchCell_term (s : State) (c : Nat) (hO : State.term s) :
    State.term (State.latchCell s c) := by
  simp (maxDischargeDepth := 60) +contextual [State.latchCell, hO, State.each_term, State.updCell_term]
@[simp] theorem State.latchAll_term (s : State) (hO : State.term s) :
    State.term (State.latchAll s) := by
  simp (maxDischargeDepth := 60) +contextual [State.latchAll, hO, State.each_term, State.updCell_term]
@[simp] theorem State.setLatches_term (s : State) (hO : State.term s) :
    State.term (State.setLatches s) := by
  simp (maxDischargeDepth := 60) +contextual [State.setLatches, hO, State.each_term, State.updCell_term]
@[simp] theorem State.countDis_term (s : State) (c : Nat) (l : Lane) (hO : State.term s) :
    State.term (State.countDis s c l) := by
  simp (maxDischargeDepth := 60) [State.countDis, hO]
@[simp] theorem State.updRels_term (s : State) (f : RelSt → RelSt) (hO : State.term s) :
    State.term (State.updRels s f) := by
  exact hO
@[simp] theorem State.raiseDis_term (s : State) (c : Nat) (hO : State.term s) :
    State.term (State.raiseDis s c) := by
  simp (maxDischargeDepth := 60) [State.raiseDis, hO]
@[simp] theorem State.disagreements_term (s : State) (hO : State.term s) :
    State.term (State.disagreements s) := by
  simp (maxDischargeDepth := 60) +contextual [State.disagreements, hO, State.each_term, State.updCell_term]
@[simp] theorem State.pulseFault_term (s : State) (c : Nat) (det : Nat) (ls : List Lane) (hO : State.term s) :
    State.term (State.pulseFault s c det ls) := by
  simp (maxDischargeDepth := 60) +contextual [State.pulseFault, hO, State.each_term, State.updCell_term]
@[simp] theorem State.latchFlag_term (s : State) (c : Nat) (det : Nat) (hO : State.term s) :
    State.term (State.latchFlag s c det) := by
  simp (maxDischargeDepth := 60) [State.latchFlag, hO]
@[simp] theorem State.latchFlags_term (s : State) (hO : State.term s) :
    State.term (State.latchFlags s) := by
  simp (maxDischargeDepth := 60) +contextual [State.latchFlags, hO, State.each_term, State.updCell_term]
@[simp] theorem State.beginRels_term (s : State) (hO : State.term s) :
    State.term (State.beginRels s) := by
  simp (maxDischargeDepth := 60) +contextual [State.beginRels, hO, State.each_term, State.updCell_term]
@[simp] theorem State.frameStart_term (s : State) (hO : State.term s) :
    State.term (State.frameStart s) := by
  simp (maxDischargeDepth := 60) [State.frameStart, hO]
@[simp] theorem State.frameEnd_term (s : State) (hO : State.term s) :
    State.term (State.frameEnd s) := by
  simp (maxDischargeDepth := 60) +contextual [State.frameEnd, hO, State.each_term, State.updCell_term]
@[simp] theorem State.pairsTick_term (s : State) (hO : State.term s) :
    State.term (State.pairsTick s) := by
  simp (maxDischargeDepth := 60) +contextual [State.pairsTick, hO, State.each_term, State.updCell_term]
theorem execTestPulseStart_term (cell : Nat) (on : Trio CellMask) (s : State) (hO : State.term s) :
    ∀ t, (execTestPulseStart cell on s) = .next t → State.term t := by
  rintro _ ⟨⟩; simp (maxDischargeDepth := 60) +contextual [hO, State.each_term, State.fed_term, State.updCell_term]
theorem execTestPulseEnd_term (cell : Nat) (dropped : Trio Bool) (s : State) (hO : State.term s) :
    ∀ t, (execTestPulseEnd cell dropped s) = .next t → State.term t := by
  rintro _ ⟨⟩; simp (maxDischargeDepth := 60) [hO]
theorem execPulseWindowEnd_term (slot : Nat) (dropped : Trio CellMask) (recovered : Trio CellMask) (nextOn : Trio CellMask) (sxFell : Bool) (sxBack : Bool) (s : State) (hO : State.term s) :
    ∀ t, (execPulseWindowEnd slot dropped recovered nextOn sxFell sxBack s) = .next t → State.term t := by
  rintro _ ⟨⟩; simp (maxDischargeDepth := 60) +contextual [hO, State.each_term, State.fed_term, State.updCell_term]
theorem execSxCurrentLimit_term (cell : Nat) (s : State) (hO : State.term s) :
    ∀ t, (execSxCurrentLimit cell s) = .next t → State.term t := by
  rintro _ ⟨⟩; simp (maxDischargeDepth := 60) [hO]
theorem execInputFilterChange_term (lane : Lane) (cell : Nat) (samples : List Bool) (s : State) (hO : State.term s) :
    ∀ t, (execInputFilterChange lane cell samples s) = .next t → State.term t := by
  rintro _ ⟨⟩; (repeat' split) <;> simp (maxDischargeDepth := 60) [hO]
theorem execChannelDisagreement_term (lane : Lane) (cell : Nat) (s : State) (hO : State.term s) :
    ∀ t, (execChannelDisagreement lane cell s) = .next t → State.term t := by
  rintro _ ⟨⟩; simp (maxDischargeDepth := 60) [hO]
theorem execDiscrepancyFault_term (lane : Lane) (cell : Nat) (s : State) (hO : State.term s) :
    ∀ t, (execDiscrepancyFault lane cell s) = .next t → State.term t := by
  rintro _ ⟨⟩; dsimp only; (repeat' split) <;> simp_all
theorem execBankSupplyTrip_term (bank : Nat) (high : Bool) (s : State) (hO : State.term s) :
    ∀ t, (execBankSupplyTrip bank high s) = .next t → State.term t := by
  rintro _ ⟨⟩; simp (maxDischargeDepth := 60) +contextual [hO, State.each_term, State.fed_term, State.updCell_term]
theorem execBankSupplyRecover_term (bank : Nat) (s : State) (hO : State.term s) :
    ∀ t, (execBankSupplyRecover bank s) = .next t → State.term t := by
  rintro _ ⟨⟩; simp (maxDischargeDepth := 60) [hO]
@[simp] theorem State.liftFsv_term (s : State) (hO : State.term s) :
    State.term (State.liftFsv s) := by
  simp (maxDischargeDepth := 60) +contextual [State.liftFsv, hO, State.each_term, State.updCell_term]
@[simp] theorem State.setEff_term (s : State) (c : Nat) (hO : State.term s) :
    State.term (State.setEff s c) := by
  simp (maxDischargeDepth := 60) [State.setEff, hO]
@[simp] theorem State.setEffs_term (s : State) (cs : List Nat) (hO : State.term s) :
    State.term (State.setEffs s cs) := by
  simp (maxDischargeDepth := 60) +contextual [State.setEffs, hO, State.each_term, State.updCell_term]
@[simp] theorem State.driveCell_term (s : State) (m : CellMask) (c : Nat) (hO : State.term s) :
    State.term (State.driveCell s m c) := by
  simp (maxDischargeDepth := 60) +contextual [State.driveCell, hO, State.each_term, State.updCell_term]
@[simp] theorem State.driveStep_term (s : State) (m : CellMask) (hO : State.term s) :
    State.term (State.driveStep s m) := by
  simp (maxDischargeDepth := 60) +contextual [State.driveStep, hO, State.each_term, State.updCell_term]
@[simp] theorem State.raiseNamed_term (s : State) (c : Nat) (det : Nat) (x : List Nat) (hO : State.term s) :
    State.term (State.raiseNamed s c det x) := by
  simp (maxDischargeDepth := 60) [State.raiseNamed, hO]
@[simp] theorem State.raiseOut_term (s : State) (c : Nat) (det : Nat) (hO : State.term s) :
    State.term (State.raiseOut s c det) := by
  simp (maxDischargeDepth := 60) +contextual [State.raiseOut, hO, State.each_term, State.updCell_term]
@[simp] theorem State.noteCounted_term (s : State) (c : Nat) (hO : State.term s) :
    State.term (State.noteCounted s c) := by
  simp (maxDischargeDepth := 60) +contextual [State.noteCounted, hO, State.each_term, State.updCell_term]
@[simp] theorem State.roundEnd_term (s : State) (hO : State.term s) :
    State.term (State.roundEnd s) := by
  simp (maxDischargeDepth := 60) +contextual [State.roundEnd, hO, State.each_term, State.updCell_term]
@[simp] theorem State.roundStart_term (s : State) (hO : State.term s) :
    State.term (State.roundStart s) := by
  simp (maxDischargeDepth := 60) +contextual [State.roundStart, hO, State.each_term, State.updCell_term]
theorem execRoundMark_term (lane : Lane) (s : State) (hO : State.term s) :
    ∀ t, (execRoundMark lane s) = .next t → State.term t := by
  rintro _ ⟨⟩
  split
  · exact hO
  · dsimp only
    split
    · exact State.roundStart_term _ (by split <;> simp [hO])
    · simp [hO]
theorem execTestNotCompleted_term (cell : Nat) (lane : Lane) (s : State) (hO : State.term s) :
    ∀ t, (execTestNotCompleted cell lane s) = .next t → State.term t := by
  rintro _ ⟨⟩; simp (maxDischargeDepth := 60) +contextual [hO, State.each_term, State.fed_term, State.updCell_term]
theorem execTestPosition_term (bank : Nat) (midOk : Bool) (s : State) (hO : State.term s) :
    ∀ t, (execTestPosition bank midOk s) = .next t → State.term t := by
  rintro _ ⟨⟩; simp (maxDischargeDepth := 60) +contextual [hO, State.each_term, State.fed_term, State.updCell_term]
theorem execDarkStepEnd_term (bank : Nat) (current : Paths Bool) (s : State) (hO : State.term s) :
    ∀ t, (execDarkStepEnd bank current s) = .next t → State.term t := by
  rintro _ ⟨⟩; dsimp only; (repeat' split) <;> simp (maxDischargeDepth := 60) +contextual [hO, State.each_term, State.fed_term, State.updCell_term]
theorem execLightStepEnd_term (bank : Nat) (mids : Paths Mid) (current : Paths Bool) (pxOn : Bool) (s : State) (hO : State.term s) :
    ∀ t, (execLightStepEnd bank mids current pxOn s) = .next t → State.term t := by
  rintro _ ⟨⟩; dsimp only; (repeat' split) <;> simp (maxDischargeDepth := 60) +contextual [hO, State.each_term, State.fed_term, State.updCell_term]
theorem execMidpointStuck_term (cell : Nat) (_path : Path) (_high : Bool) (s : State) (hO : State.term s) :
    ∀ t, (execMidpointStuck cell _path _high s) = .next t → State.term t := by
  rintro _ ⟨⟩; simp (maxDischargeDepth := 60) [hO]
theorem execPathCurrentWithdrawn_term (cell : Nat) (path : Path) (s : State) (hO : State.term s) :
    ∀ t, (execPathCurrentWithdrawn cell path s) = .next t → State.term t := by
  rintro _ ⟨⟩; simp (maxDischargeDepth := 60) [hO]
@[simp] theorem State.updTest_term (s : State) (f : TestSt → TestSt) (hO : State.term s) :
    State.term (State.updTest s f) := by
  exact hO
@[simp] theorem State.cutTest_term (s : State) (cs : List Nat) (hO : State.term s) :
    State.term (State.cutTest s cs) := by
  simp (maxDischargeDepth := 60) [State.cutTest, hO]
@[simp] theorem State.cutBank_term (s : State) (b : Nat) (hO : State.term s) :
    State.term (State.cutBank s b) := by
  simp (maxDischargeDepth := 60) [State.cutBank, hO]
@[simp] theorem State.readFault_term (s : State) (c : Nat) (hO : State.term s) :
    State.term (State.readFault s c) := by
  simp (maxDischargeDepth := 60) [State.readFault, hO]
@[simp] theorem State.readOne_term (s : State) (c : Nat) (l : Lane) (v : Bool) (hO : State.term s) :
    State.term (State.readOne s c l v) := by
  simp (maxDischargeDepth := 60) [State.readOne, hO]
theorem execReadbackFault_term (lane : Lane) (cell : Nat) (samples : List Bool) (s : State) (hO : State.term s) :
    ∀ t, (execReadbackFault lane cell samples s) = .next t → State.term t := by
  rintro _ ⟨⟩; simp (maxDischargeDepth := 60) +contextual [hO, State.each_term, State.fed_term, State.updCell_term]
theorem execExternalVoltage_term (cell : Nat) (s : State) (hO : State.term s) :
    ∀ t, (execExternalVoltage cell s) = .next t → State.term t := by
  rintro _ ⟨⟩; (repeat' split) <;> simp (maxDischargeDepth := 60) [hO]
@[simp] theorem State.readTick_term (s : State) (b : Nat) (hO : State.term s) :
    State.term (State.readTick s b) := by
  simp (maxDischargeDepth := 60) +contextual [State.readTick, hO, State.each_term, State.updCell_term]
@[simp] theorem State.cellTick_term (s : State) (hO : State.term s) :
    State.term (State.cellTick s) := by
  simp (maxDischargeDepth := 60) +contextual [State.cellTick, hO, State.each_term, State.updCell_term]
@[simp] theorem State.slotTick_term (s : State) (us : Nat) (hO : State.term s) :
    State.term (State.slotTick s us) := by
  simp (maxDischargeDepth := 60) [State.slotTick, hO]
@[simp] theorem State.nextSlot_term (s : State) (us : Nat) (skew : Nat) (hO : State.term s) :
    State.term (State.nextSlot s us skew) := by
  simp (maxDischargeDepth := 60) +contextual [State.nextSlot, hO, State.each_term, State.updCell_term]
theorem execSlotMark_term (lane : Lane) (stamp : SlotStamp) (s : State) (hO : State.term s) :
    ∀ t, (execSlotMark lane stamp s) = .next t → State.term t := by
  rintro _ ⟨⟩; simp (maxDischargeDepth := 60) [hO]
@[simp] theorem State.dropSteps_term (s : State) (cs : List Nat) (hO : State.term s) :
    State.term (State.dropSteps s cs) := by
  simp (maxDischargeDepth := 60) +contextual [State.dropSteps, hO, State.each_term, State.updCell_term]
@[simp] theorem State.protCell_term (s : State) (c : Nat) (det : Nat) (hO : State.term s) :
    State.term (State.protCell s c det) := by
  simp (maxDischargeDepth := 60) +contextual [State.protCell, hO, State.each_term, State.updCell_term]
theorem execOverloadTrip_term (cell : Nat) (_cause : Overload) (s : State) (hO : State.term s) :
    ∀ t, (execOverloadTrip cell _cause s) = .next t → State.term t := by
  rintro _ ⟨⟩; simp (maxDischargeDepth := 60) [hO]
theorem execClampOvertemp_term (cell : Nat) (s : State) (hO : State.term s) :
    ∀ t, (execClampOvertemp cell s) = .next t → State.term t := by
  rintro _ ⟨⟩; simp (maxDischargeDepth := 60) [hO]
theorem execBankOvercurrent_term (bank : Nat) (s : State) (hO : State.term s) :
    ∀ t, (execBankOvercurrent bank s) = .next t → State.term t := by
  rintro _ ⟨⟩; simp (maxDischargeDepth := 60) [hO]
theorem execFeedbackMismatch_term (lane : Lane) (cell : Nat) (s : State) (hO : State.term s) :
    ∀ t, (execFeedbackMismatch lane cell s) = .next t → State.term t := by
  rintro _ ⟨⟩; simp (maxDischargeDepth := 60) [hO]
@[simp] theorem State.warmEnds_term (s : State) (hO : State.term s) :
    State.term (State.warmEnds s) := by
  simp (maxDischargeDepth := 60) +contextual [State.warmEnds, hO, State.each_term, State.updCell_term]
@[simp] theorem State.relDone_term (s : State) (kind : Nat) (index : Nat) (ref : CmdRef) (st : Nat) (hO : State.term s) :
    State.term (State.relDone s kind index ref st) := by
  simp (maxDischargeDepth := 60) [State.relDone, hO]
@[simp] theorem State.finishRel_term (s : State) (r : RelSt) (hO : State.term s) :
    State.term (State.finishRel s r) := by
  simp (maxDischargeDepth := 60) [State.finishRel, hO]
@[simp] theorem State.finishRels_term (s : State) (hO : State.term s) :
    State.term (State.finishRels s) := by
  simp (maxDischargeDepth := 60) +contextual [State.finishRels, hO, State.each_term, State.updCell_term]
@[simp] theorem State.arrive_term (s : State) (k : ConnCfg) (p : Bool) (x : TgCopy) (hO : State.term s) :
    State.term (State.arrive s k p x) := by
  exact hO
@[simp] theorem State.discard_term (s : State) (g : Gvt) (hO : State.term s) :
    State.term (State.discard s g) := by
  unfold State.discard; split <;> simp (maxDischargeDepth := 60) [hO]
@[simp] theorem State.duplicate_term (s : State) (hO : State.term s) :
    State.term (State.duplicate s) := by
  simp (maxDischargeDepth := 60) [State.duplicate, hO]
@[simp] theorem State.notOwn_term (s : State) (f : Frame) (k : State) (hO : State.term s) (h : State.term k) :
    State.term (State.notOwn s f k) := by
  unfold State.notOwn; (repeat' split) <;> simp [h, hO]
theorem execFrameReceived_term (net : Net) (f : Frame) (us : Nat) (s : State) (hO : State.term s) :
    ∀ t, (execFrameReceived net f us s) = .next t → State.term t := by
  rintro _ ⟨⟩; dsimp only; split
  · exact hO
  · refine State.notOwn_term _ _ _ hO ?_; (repeat' split) <;> simp (maxDischargeDepth := 60) [hO]
theorem execSkewExpiry_term (conn : Nat) (peer2 : Bool) (s : State) (hO : State.term s) :
    ∀ t, (execSkewExpiry conn peer2 s) = .next t → State.term t := by
  rintro _ ⟨⟩; (repeat' split) <;> simp (maxDischargeDepth := 60) [hO]
theorem execOneNetworkSilent_term (conn : Nat) (s : State) (hO : State.term s) :
    ∀ t, (execOneNetworkSilent conn s) = .next t → State.term t := by
  rintro _ ⟨⟩; (repeat' split) <;> simp (maxDischargeDepth := 60) [hO]
@[simp] theorem State.sendOn_term (s : State) (n : Net) (f : Frame) (hO : State.term s) :
    State.term (State.sendOn s n f) := by
  simp (maxDischargeDepth := 60) [State.sendOn, hO]
@[simp] theorem State.sendBoth_term (s : State) (udp : Option Nat) (g : Gvt) (hO : State.term s) :
    State.term (State.sendBoth s udp g) := by
  simp (maxDischargeDepth := 60) [State.sendBoth, hO]
@[simp] theorem State.freezeAll_term (s : State) (hO : State.term s) :
    State.term (State.freezeAll s) := by
  exact hO
@[simp] theorem State.refuse_term (s : State) (conn : Nat) (det : Nat) (via : Net) (f : ConnSt → ConnSt) (hO : State.term s) :
    State.term (State.refuse s conn det via f) := by
  simp (maxDischargeDepth := 60) [State.refuse, hO]
@[simp] theorem State.connTimeout_term (s : State) (k : ConnCfg) (r : RecvRec) (hO : State.term s) :
    State.term (State.connTimeout s k r) := by
  unfold State.connTimeout; (repeat' split) <;> simp (maxDischargeDepth := 60) [hO]
@[simp] theorem State.connRelease_term (s : State) (n : Nat) (hO : State.term s) :
    State.term (State.connRelease s n) := by
  unfold State.connRelease; dsimp only; (repeat' split) <;> simp (maxDischargeDepth := 60) +contextual [hO, State.each_term, State.when_term, State.updCell_term]
theorem State.examine_term (k : ConnCfg) (r : RecvRec) (x : State × List PCopy × List PCopy) (y : PCopy) (hO : State.term x.1) :
    State.term (State.examine k r x y).1 := by
  unfold State.examine; dsimp only; (repeat' split) <;> simp (maxDischargeDepth := 60) [hO]
theorem State.examine_fold_term (k : ConnCfg) (r : RecvRec) (xs : List PCopy) (x : State × List PCopy × List PCopy)
    (hO : State.term x.1) : State.term (xs.foldl (State.examine k r) x).1 := by
  induction xs generalizing x with
  | nil => exact hO
  | cons y ys ih => exact ih _ (State.examine_term _ _ _ _ hO)
@[simp] theorem State.snapCopies_term (s : State) (k : ConnCfg) (r : RecvRec) (c : ConnSt) (hO : State.term s) :
    State.term (s.snapCopies k r c) := by
  have h := State.examine_fold_term k r (newCopies s.cyc.ots c) (s, [], []) hO
  unfold State.snapCopies; dsimp only
  generalize ((newCopies s.cyc.ots c).foldl (State.examine k r) (s, [], [])) = x at h ⊢
  obtain ⟨s1, oks, twins⟩ := x
  dsimp only at h ⊢
  (repeat' split) <;> simp (maxDischargeDepth := 60) +contextual [h, State.each_term]
@[simp] theorem State.connChanged_term (s : State) (n : Nat) (hO : State.term s) :
    State.term (State.connChanged s n) := by
  simp (maxDischargeDepth := 60) [State.connChanged, hO]
@[simp] theorem State.snapConn_term (s : State) (k : ConnCfg) (hO : State.term s) :
    State.term (State.snapConn s k) := by
  unfold State.snapConn; dsimp only; (repeat' split) <;> simp (maxDischargeDepth := 60) +contextual [hO, State.each_term, State.when_term, State.updCell_term]
@[simp] theorem State.snapConns_term (s : State) (hO : State.term s) :
    State.term (State.snapConns s) := by
  simp (maxDischargeDepth := 60) +contextual [State.snapConns, hO, State.each_term, State.updCell_term]
@[simp] theorem State.raiseReq_term (s : State) (route : Nat) (elem : Nat) (set : Bool) (hO : State.term s) :
    State.term (State.raiseReq s route elem set) := by
  exact hO
@[simp] theorem State.raiseElem_term (s : State) (num : Nat) (codes : List Nat) (hO : State.term s) :
    State.term (State.raiseElem s num codes) := by
  simp (maxDischargeDepth := 60) +contextual [State.raiseElem, hO, State.each_term, State.updCell_term]
@[simp] theorem State.axleDone_term (s : State) (x : AxleStep) (ok : Bool) (code : Nat) (hO : State.term s) :
    State.term (State.axleDone s x ok code) := by
  unfold State.axleDone; split <;> simp (maxDischargeDepth := 60) [hO]
@[simp] theorem State.axleArmed_term (s : State) (num : Nat) (x : AxleStep) (code : Nat) (hO : State.term s) :
    State.term (State.axleArmed s num x code) := by
  unfold State.axleArmed; split <;> simp (maxDischargeDepth := 60) [hO]
@[simp] theorem State.axleSteps_term (s : State) (num : Nat) (v : InEnv) (xs : List AxleStep) (hO : State.term s) :
    State.term (State.axleSteps s num v xs) := by
  unfold State.axleSteps; refine State.each_term _ _ _ hO fun s x h => ?_
  dsimp only; (repeat' split) <;> simp (maxDischargeDepth := 60) [h]
@[simp] theorem State.inElem_term (s : State) (dt : Nat) (steps : Nat → List AxleStep) (num : Nat) (hO : State.term s) :
    State.term (State.inElem s dt steps num) := by
  unfold State.inElem; dsimp only; (repeat' split) <;> simp (maxDischargeDepth := 60) +contextual [hO, State.each_term, State.when_term, State.updCell_term]
@[simp] theorem State.inputPass_term (s : State) (dt : Nat) (steps : Nat → List AxleStep) (hO : State.term s) :
    State.term (State.inputPass s dt steps) := by
  simp (maxDischargeDepth := 60) +contextual [State.inputPass, hO, State.each_term, State.updCell_term]
@[simp] theorem State.outElem_term (s : State) (num : Nat) (hO : State.term s) :
    State.term (State.outElem s num) := by
  unfold State.outElem; split <;> simp (maxDischargeDepth := 60) [hO]
@[simp] theorem State.outputPass_term (s : State) (hO : State.term s) :
    State.term (State.outputPass s) := by
  simp (maxDischargeDepth := 60) +contextual [State.outputPass, hO, State.each_term, State.updCell_term]
@[simp] theorem State.elemEvent_term (s : State) (num : Nat) (f : Elem → Elem) (hO : State.term s) :
    State.term (State.elemEvent s num f) := by
  unfold State.elemEvent; split <;> simp (maxDischargeDepth := 60) [hO]
theorem execMoveTimeLimit_term (elem : Nat) (s : State) (hO : State.term s) :
    ∀ t, (execMoveTimeLimit elem s) = .next t → State.term t := by
  rintro _ ⟨⟩; simp (maxDischargeDepth := 60) [hO]
theorem execProvingTime_term (elem : Nat) (s : State) (hO : State.term s) :
    ∀ t, (execProvingTime elem s) = .next t → State.term t := by
  rintro _ ⟨⟩; simp (maxDischargeDepth := 60) [hO]
theorem execClearingDelay_term (elem : Nat) (s : State) (hO : State.term s) :
    ∀ t, (execClearingDelay elem s) = .next t → State.term t := by
  rintro _ ⟨⟩; dsimp only; (repeat' split) <;> simp_all
theorem execResetStepLimit_term (elem : Nat) (s : State) (hO : State.term s) :
    ∀ t, (execResetStepLimit elem s) = .next t → State.term t := by
  rintro _ ⟨⟩; simp (maxDischargeDepth := 60) [hO]
theorem execCloseTimeLimit_term (elem : Nat) (s : State) (hO : State.term s) :
    ∀ t, (execCloseTimeLimit elem s) = .next t → State.term t := by
  rintro _ ⟨⟩; simp (maxDischargeDepth := 60) [hO]
theorem execOpenDelay_term (elem : Nat) (s : State) (hO : State.term s) :
    ∀ t, (execOpenDelay elem s) = .next t → State.term t := by
  rintro _ ⟨⟩; simp (maxDischargeDepth := 60) [hO]
theorem execDirectionExchangeLimit_term (elem : Nat) (s : State) (hO : State.term s) :
    ∀ t, (execDirectionExchangeLimit elem s) = .next t → State.term t := by
  rintro _ ⟨⟩; dsimp only; (repeat' split) <;> simp_all
@[simp] theorem State.admission_term (s : State) (hO : State.term s) :
    State.term (State.admission s) := by
  simp (maxDischargeDepth := 60) +contextual [State.admission, hO, State.each_term, State.updCell_term]
@[simp] theorem State.recount_term (s : State) (t : RouteEntry) (old : RouteCell) (new : RouteCell) (hO : State.term s) :
    State.term (State.recount s t old new) := by
  simp (maxDischargeDepth := 60) [State.recount, hO]
@[simp] theorem State.ownerDone_term (s : State) (owner : Nat) (c : RouteCell) (status : Nat) (hO : State.term s) :
    State.term (State.ownerDone s owner c status) := by
  unfold State.ownerDone; split <;> simp (maxDischargeDepth := 60) [hO]
@[simp] theorem State.raiseAuto_term (s : State) (r : Nat) (origin : Nat) (hO : State.term s) :
    State.term (State.raiseAuto s r origin) := by
  exact hO
@[simp] theorem State.afterReleased_term (s : State) (r : Nat) (t : RouteEntry) (old : RouteCell) (new : RouteCell) (check : Nat) (hO : State.term s) :
    State.term (State.afterReleased s r t old new check) := by
  unfold State.afterReleased; dsimp only; (repeat' split) <;> simp (maxDischargeDepth := 60) +contextual [hO, State.each_term, State.when_term, State.updCell_term]
@[simp] theorem State.afterMove_term (s : State) (r : Nat) (t : RouteEntry) (old : RouteCell) (new : RouteCell) (check : Nat) (hO : State.term s) :
    State.term (State.afterMove s r t old new check) := by
  unfold State.afterMove; (repeat' split) <;> simp (maxDischargeDepth := 60) [hO]
@[simp] theorem State.watchStep_term (s : State) (dt : Nat) (hO : State.term s) :
    State.term (State.watchStep s dt) := by
  exact hO
@[simp] theorem State.quietCheck_term (s : State) (r : Nat) (hO : State.term s) :
    State.term (State.quietCheck s r) := by
  simp (maxDischargeDepth := 60) [State.quietCheck, hO]
@[simp] theorem State.trigger_term (s : State) (r : Nat) (t : RouteEntry) (hO : State.term s) :
    State.term (State.trigger s r t) := by
  simp (maxDischargeDepth := 60) [State.trigger, hO]
@[simp] theorem State.tickApproach_term (s : State) (dt : Nat) (hO : State.term s) :
    State.term (State.tickApproach s dt) := by
  simp (maxDischargeDepth := 60) [State.tickApproach, hO]
@[simp] theorem State.tickRoutes_term (s : State) (dt : Nat) (hO : State.term s) :
    State.term (State.tickRoutes s dt) := by
  exact hO
@[simp] theorem State.badRoutes_term (s : State) (hO : State.term s) :
    State.term (State.badRoutes s) := by
  unfold State.badRoutes; split
  · exact State.each_term _ _ _ hO fun s l h => by simp [h]
  · exact hO
@[simp] theorem State.passRoute_term (s : State) (s0 : State) (evs : List (Nat × Eval)) (won : List Nat) (lost : List (Nat × Nat)) (r : Nat) (hO : State.term s) :
    State.term (State.passRoute s s0 evs won lost r) := by
  unfold State.passRoute; split <;> simp (maxDischargeDepth := 60) [hO]
@[simp] theorem State.countRequests_term (s : State) (hO : State.term s) :
    State.term (State.countRequests s) := by
  exact hO
@[simp] theorem State.passRoutes_term (s : State) (dt : Nat) (hO : State.term s) :
    State.term (State.passRoutes s dt) := by
  unfold State.passRoutes; dsimp only; exact State.each_term _ _ _ hO fun s x h => State.passRoute_term _ _ _ _ _ _ h
@[simp] theorem State.triggers_term (s : State) (hO : State.term s) :
    State.term (State.triggers s) := by
  exact State.each_term _ _ _ hO fun s x h => by split <;> simp [h]
@[simp] theorem State.quietChecks_term (s : State) (hO : State.term s) :
    State.term (State.quietChecks s) := by
  exact State.each_term _ _ _ hO fun s x h => State.quietCheck_term _ _ h
@[simp] theorem State.writeElems_term (s : State) (s0 : State) (hO : State.term s) :
    State.term (State.writeElems s s0) := by
  exact hO
@[simp] theorem State.confirmAll_term (s : State) (hO : State.term s) :
    State.term (State.confirmAll s) := by
  exact hO
@[simp] theorem State.trellisPass_term (s : State) (dt : Nat) (hO : State.term s) :
    State.term (State.trellisPass s dt) := by
  unfold State.trellisPass; dsimp only
  exact State.countRequests_term _ (State.confirmAll_term _ (State.writeElems_term _ _ (State.quietChecks_term _ (State.watchStep_term _ _ (State.triggers_term _ (State.passRoutes_term _ _ (State.admission_term _ (State.badRoutes_term _ (State.tickRoutes_term _ dt hO)))))))))
@[simp] theorem State.endReleased_term (s : State) (hO : State.term s) :
    State.term (State.endReleased s) := by
  exact hO
@[simp] theorem State.takeCmdseq_term (s : State) (hO : State.term s) :
    State.term (State.takeCmdseq s).2 := by
  exact hO
@[simp] theorem State.takeReqseq_term (s : State) (hO : State.term s) :
    State.term (State.takeReqseq s).2 := by
  exact hO
@[simp] theorem State.countNotEntered_term (s : State) (hO : State.term s) :
    State.term (State.countNotEntered s) := by
  exact hO
@[simp] theorem State.enter_term (s : State) (r : Nat) (origin : Nat) (cmdseq : Nat) (ref : Option CmdRef) (hO : State.term s) :
    State.term (State.enter s r origin cmdseq ref) := by
  exact hO
@[simp] theorem State.doneOp_term (s : State) (ref : CmdRef) (status : Nat) (cmdseq : Nat) (hO : State.term s) :
    State.term (State.doneOp s ref status cmdseq) := by
  exact hO
@[simp] theorem State.enterCancel_term (s : State) (ref : CmdRef) (r : Nat) (q : Nat) (hO : State.term s) :
    State.term (State.enterCancel s ref r q) := by
  unfold State.enterCancel; split <;> simp (maxDischargeDepth := 60) [hO]
@[simp] theorem State.enterKey_term (s : State) (ref : CmdRef) (n : Nat) (q : Nat) (hO : State.term s) :
    State.term (State.enterKey s ref n q) := by
  unfold State.enterKey; (repeat' split) <;> simp (maxDischargeDepth := 60) [hO]
@[simp] theorem State.enterOp_term (s : State) (o : OpCmd) (hO : State.term s) :
    State.term (State.enterOp s o) := by
  unfold State.enterOp; dsimp only; (repeat' split) <;> simp (maxDischargeDepth := 60) +contextual [hO, State.each_term, State.when_term, State.updCell_term]
@[simp] theorem State.enterElemReq_term (s : State) (x : Nat × Nat × Bool) (hO : State.term s) :
    State.term (State.enterElemReq s x) := by
  unfold State.enterElemReq; (repeat' split) <;> simp (maxDischargeDepth := 60) [hO]
@[simp] theorem State.enterAuto_term (s : State) (x : Nat × Nat) (hO : State.term s) :
    State.term (State.enterAuto s x) := by
  unfold State.enterAuto; split <;> simp (maxDischargeDepth := 60) [hO]
@[simp] theorem State.enterRequests_term (s : State) (ops : List OpCmd) (hO : State.term s) :
    State.term (State.enterRequests s ops) := by
  simp (maxDischargeDepth := 60) +contextual [State.enterRequests, hO, State.each_term, State.updCell_term]
@[simp] theorem State.refuseOps_term (s : State) (ops : List OpCmd) (hO : State.term s) :
    State.term (State.refuseOps s ops) := by
  simp (maxDischargeDepth := 60) +contextual [State.refuseOps, hO, State.each_term, State.updCell_term]
@[simp] theorem State.routeEvent_term (s : State) (r : Nat) (states : List Nat) (due : RouteEntry → RouteCell → Bool) (hO : State.term s) :
    State.term (State.routeEvent s r states due) := by
  unfold State.routeEvent; split <;> simp (maxDischargeDepth := 60) [hO]
theorem execSettingTimeLimit_term (route : Nat) (s : State) (hO : State.term s) :
    ∀ t, (execSettingTimeLimit route s) = .next t → State.term t := by
  rintro _ ⟨⟩; simp (maxDischargeDepth := 60) [hO]
theorem execRequestLifetime_term (route : Nat) (s : State) (hO : State.term s) :
    ∀ t, (execRequestLifetime route s) = .next t → State.term t := by
  rintro _ ⟨⟩; simp (maxDischargeDepth := 60) [hO]
theorem execApproachReleaseTimer_term (route : Nat) (s : State) (hO : State.term s) :
    ∀ t, (execApproachReleaseTimer route s) = .next t → State.term t := by
  rintro _ ⟨⟩; simp (maxDischargeDepth := 60) [hO]
theorem execOverlapReleaseTimer_term (route : Nat) (s : State) (hO : State.term s) :
    ∀ t, (execOverlapReleaseTimer route s) = .next t → State.term t := by
  rintro _ ⟨⟩; simp (maxDischargeDepth := 60) [hO]
theorem execReleasingTimeout_term (route : Nat) (s : State) (hO : State.term s) :
    ∀ t, (execReleasingTimeout route s) = .next t → State.term t := by
  rintro _ ⟨⟩; simp (maxDischargeDepth := 60) [hO]
@[simp] theorem State.storeTables_term (s : State) (hO : State.term s) :
    State.term (State.storeTables s) := by
  exact hO
@[simp] theorem State.buildVecs_term (s : State) (hO : State.term s) :
    State.term (State.buildVecs s) := by
  simp (maxDischargeDepth := 60) +contextual [State.buildVecs, hO, State.each_term, State.updCell_term]
@[simp] theorem State.tableCheck_term (s : State) (hO : State.term s) :
    State.term (State.tableCheck s) := by
  exact hO
@[simp] theorem State.syncConns_term (s : State) (hO : State.term s) :
    State.term (State.syncConns s) := by
  exact hO
@[simp] theorem State.resetConns_term (s : State) (hO : State.term s) :
    State.term (State.resetConns s) := by
  exact hO
@[simp] theorem State.bindForces_term (s : State) (hO : State.term s) :
    State.term (State.bindForces s) := by
  exact hO
@[simp] theorem State.applyForceMarks_term (s : State) (hO : State.term s) :
    State.term (State.applyForceMarks s) := by
  exact hO
@[simp] theorem State.coldStart_term (s : State) (hO : State.term s) :
    State.term (State.coldStart s) := by
  simp (maxDischargeDepth := 60) [State.coldStart, hO]
@[simp] theorem State.warmStart_term (s : State) (passed : Nat) (hO : State.term s) :
    State.term (State.warmStart s passed) := by
  exact hO
@[simp] theorem State.startApp_term (s : State) (hO : State.term s) :
    State.term (State.startApp s) := by
  simp (maxDischargeDepth := 60) [State.startApp, hO]
@[simp] theorem State.graftLanes_term (s : State) (hO : State.term s) :
    State.term (State.graftLanes s) := by
  exact hO
@[simp] theorem State.graft_term (s : State) (r : CmdRef) (new : Image) (hO : State.term s) :
    State.term (State.graft s r new) := by
  simp (maxDischargeDepth := 60) [State.graft, hO]
@[simp] theorem State.latchSummary_term (s : State) (hO : State.term s) :
    State.term (State.latchSummary s) := by
  exact hO
@[simp] theorem State.seeRing_term (s : State) (addr : Nat) (n : Nat) (hO : State.term s) :
    State.term (State.seeRing s addr n) := by
  simp (maxDischargeDepth := 60) [State.seeRing, hO]
@[simp] theorem State.testFsv_term (s : State) (id target : Nat) (hO : State.term s) :
    State.term (State.testFsv s id target).2 := by
  unfold State.testFsv; split <;> simp [hO]
@[simp] theorem State.coverLane_term (s : State) (l : Lane) (hO : State.term s) :
    State.term (State.coverLane s l) := by
  simp (maxDischargeDepth := 60) [State.coverLane, hO]
@[simp] theorem State.clocheStart_term (s : State) (hO : State.term s) :
    State.term (State.clocheStart s) := by
  unfold State.clocheStart; dsimp only; (repeat' split) <;> simp (maxDischargeDepth := 60) +contextual [hO, State.each_term, State.when_term, State.updCell_term]
@[simp] theorem State.testFailed_term (s : State) (id : Nat) (target : Nat) (hO : State.term s) :
    State.term (State.testFailed s id target) := by
  unfold State.testFailed; dsimp only; (repeat' split) <;> simp (maxDischargeDepth := 60) +contextual [hO, State.each_term, State.when_term, State.updCell_term]
@[simp] theorem State.testPassed_term (s : State) (id : Nat) (target : Nat) (hO : State.term s) :
    State.term (State.testPassed s id target) := by
  unfold State.testPassed; dsimp only; (repeat' split) <;> simp (maxDischargeDepth := 60) +contextual [hO, State.each_term, State.when_term, State.updCell_term]
@[simp] theorem State.uncoverLane_term (s : State) (l : Lane) (took : Bool) (hO : State.term s) :
    State.term (State.uncoverLane s l took) := by
  exact hO
@[simp] theorem State.clocheEnd_term (s : State) (hO : State.term s) :
    State.term (State.clocheEnd s) := by
  unfold State.clocheEnd; dsimp only; (repeat' split) <;> simp (maxDischargeDepth := 60) +contextual [hO, State.each_term, State.when_term, State.updCell_term]
theorem execTestComplete_term (codes : List Nat) (s : State) (hO : State.term s) :
    ∀ t, (execTestComplete codes s) = .next t → State.term t := by
  rintro _ ⟨⟩; (repeat' split) <;> simp (maxDischargeDepth := 60) [hO]
theorem execPreconditionCheck_term (q : Quantities) (s : State) (hO : State.term s) :
    ∀ t, (execPreconditionCheck q s) = .next t → State.term t := by
  rintro _ ⟨⟩; dsimp only; (repeat' split) <;> simp_all
theorem execOscillatorMeasurement_term (offset : Int) (s : State) (hO : State.term s) :
    ∀ t, (execOscillatorMeasurement offset s) = .next t → State.term t := by
  rintro _ ⟨⟩; simp (maxDischargeDepth := 60) [hO]
@[simp] theorem State.testAtApply_term (s : State) (old : Settings) (img : Bool) (hO : State.term s) :
    State.term (State.testAtApply s old img) := by
  unfold State.testAtApply; split <;> simp (maxDischargeDepth := 60) [hO]
@[simp] theorem State.passesAtApply_term (s : State) (old : Settings) (hO : State.term s) :
    State.term (State.passesAtApply s old) := by
  exact hO
@[simp] theorem State.breakCheck_term (s : State) (hO : State.term s) :
    State.term (State.breakCheck s) := by
  unfold State.breakCheck; split <;> simp (maxDischargeDepth := 60) [hO]
@[simp] theorem State.cancelApply_term (s : State) (hO : State.term s) :
    State.term (State.cancelApply s) := by
  unfold State.cancelApply; split <;> simp (maxDischargeDepth := 60) [hO]
@[simp] theorem State.retryApply_term (s : State) (hO : State.term s) :
    State.term (State.retryApply s) := by
  unfold State.retryApply; split <;> simp (maxDischargeDepth := 60) [hO]
@[simp] theorem State.warmChanged_term (s : State) (old : Settings) (hO : State.term s) :
    State.term (State.warmChanged s old) := by
  simp (maxDischargeDepth := 60) +contextual [State.warmChanged, hO, State.each_term, State.updCell_term]
@[simp] theorem State.markConns_term (s : State) (old : Settings) (hO : State.term s) :
    State.term (State.markConns s old) := by
  simp (maxDischargeDepth := 60) +contextual [State.markConns, hO, State.each_term, State.updCell_term]
@[simp] theorem State.syncRecs_term (s : State) (hO : State.term s) :
    State.term (State.syncRecs s) := by
  exact hO
@[simp] theorem State.ringModes_term (s : State) (old : Settings) (hO : State.term s) :
    State.term (State.ringModes s old) := by
  simp (maxDischargeDepth := 60) +contextual [State.ringModes, hO, State.each_term, State.updCell_term]
@[simp] theorem State.putSettings_term (s : State) (st : Settings) (hO : State.term s) :
    State.term (State.putSettings s st) := by
  simp (maxDischargeDepth := 60) [State.putSettings, hO]
@[simp] theorem State.forceChange_term (s : State) (r : CmdRef) (old : ForceEntry) (new : ForceEntry) (hO : State.term s) :
    State.term (State.forceChange s r old new) := by
  simp (maxDischargeDepth := 60) [State.forceChange, hO]
@[simp] theorem State.putForces_term (s : State) (r : CmdRef) (fs : List ForceEntry) (hO : State.term s) :
    State.term (State.putForces s r fs) := by
  simp (maxDischargeDepth := 60) +contextual [State.putForces, hO, State.each_term, State.updCell_term]
@[simp] theorem State.applyRecords_term (s : State) (r : CmdRef) (hO : State.term s) :
    State.term (State.applyRecords s r) := by
  simp (maxDischargeDepth := 60) +contextual [State.applyRecords, hO, State.each_term, State.updCell_term]
@[simp] theorem State.makeApply_term (s : State) (a : ApplySt) (new : Option Image) (hO : State.term s) :
    State.term (State.makeApply s a new) := by
  unfold State.makeApply; split <;> simp (maxDischargeDepth := 60) [hO]
@[simp] theorem State.graftFails_term (s : State) (a : ApplySt) (item : Nat) (hO : State.term s) :
    State.term (State.graftFails s a item) := by
  simp (maxDischargeDepth := 60) [State.graftFails, hO]
@[simp] theorem State.ftgenFails_term (s : State) (a : ApplySt) (hO : State.term s) :
    State.term (State.ftgenFails s a) := by
  simp (maxDischargeDepth := 60) [State.ftgenFails, hO]
@[simp] theorem State.doApply_term (s : State) (a : ApplySt) (hO : State.term s) :
    State.term (State.doApply s a) := by
  unfold State.doApply; dsimp only; (repeat' split) <;> simp_all
@[simp] theorem State.applyStep_term (s : State) (hO : State.term s) :
    State.term (State.applyStep s) := by
  unfold State.applyStep; split <;> simp (maxDischargeDepth := 60) [hO]
@[simp] theorem State.finishApply_term (s : State) (hO : State.term s) :
    State.term (State.finishApply s) := by
  unfold State.finishApply; split <;> simp (maxDischargeDepth := 60) [hO]
@[simp] theorem State.bootSettings_term (s : State) (hO : State.term s) :
    State.term (State.bootSettings s) := by
  unfold State.bootSettings; dsimp only; (repeat' split) <;> simp_all
@[simp] theorem State.forceDone_term (s : State) (f : ForceCmd) (status : Nat) (code : Nat) (hO : State.term s) :
    State.term (State.forceDone s f status code) := by
  simp (maxDischargeDepth := 60) [State.forceDone, hO]
@[simp] theorem State.setForceNow_term (s : State) (f : ForceCmd) (hO : State.term s) :
    State.term (State.setForceNow s f) := by
  unfold State.setForceNow; dsimp only; (repeat' split) <;> simp_all
@[simp] theorem State.clearForceNow_term (s : State) (f : ForceCmd) (hO : State.term s) :
    State.term (State.clearForceNow s f) := by
  unfold State.clearForceNow; dsimp only; (repeat' split) <;> simp_all
@[simp] theorem State.forceNow_term (s : State) (f : ForceCmd) (hO : State.term s) :
    State.term (State.forceNow s f) := by
  simp (maxDischargeDepth := 60) [State.forceNow, hO]
@[simp] theorem State.forceStep_term (s : State) (hO : State.term s) :
    State.term (State.forceStep s) := by
  simp (maxDischargeDepth := 60) +contextual [State.forceStep, hO, State.each_term, State.updCell_term]
@[simp] theorem State.endCheck_term (s : State) (r : CmdRef) (res : CheckRes) (lanes : List Lane) (passed : Lane → Bool) (hO : State.term s) :
    State.term (State.endCheck s r res lanes passed) := by
  simp (maxDischargeDepth := 60) [State.endCheck, hO]
theorem execStageCheckDone_term (differs : Trio Bool) (s : State) (hO : State.term s) :
    ∀ t, (execStageCheckDone differs s) = .next t → State.term t := by
  rintro _ ⟨⟩; dsimp only; (repeat' split) <;> simp_all
@[simp] theorem State.maintStep_term (s : State) (hO : State.term s) :
    State.term (State.maintStep s) := by
  unfold State.maintStep; split <;> simp (maxDischargeDepth := 60) [hO]
@[simp] theorem State.makeTransition_term (s : State) (target : LcState) (r : CmdRef) (signer : Nat) (reason : Bytes) (hO : State.term s) :
    State.term (State.makeTransition s target r signer reason) := by
  simp (maxDischargeDepth := 60) [State.makeTransition, hO]
@[simp] theorem State.refuseTransition_term (s : State) (target : Nat) (r : CmdRef) (signer : Nat) (status : Nat) (hO : State.term s) :
    State.term (State.refuseTransition s target r signer status) := by
  simp (maxDischargeDepth := 60) [State.refuseTransition, hO]
@[simp] theorem State.lcStep_term (s : State) (hO : State.term s) :
    State.term (State.lcStep s) := by
  unfold State.lcStep; dsimp only; (repeat' split) <;> simp_all
@[simp] theorem State.lcErase_term (s : State) (src : LcState) (target : LcState) (hO : State.term s) :
    State.term (State.lcErase s src target) := by
  unfold State.lcErase; split <;> simp (maxDischargeDepth := 60) [hO]
@[simp] theorem State.lcNow_term (s : State) (target : LcState) (r : CmdRef) (signer : Nat) (reason : Bytes) (hO : State.term s) :
    State.term (State.lcNow s target r signer reason) := by
  simp (maxDischargeDepth := 60) [State.lcNow, hO]
@[simp] theorem State.latchTamperAt_term (s : State) (wt : Nat) (hO : State.term s) :
    State.term (State.latchTamperAt s wt) := by
  simp (maxDischargeDepth := 60) [State.latchTamperAt, hO]
@[simp] theorem State.latchTamper_term (s : State) (hO : State.term s) :
    State.term (State.latchTamper s) := by
  simp (maxDischargeDepth := 60) [State.latchTamper, hO]
@[simp] theorem State.unpoweredOpening_term (s : State) (hO : State.term s) :
    State.term (State.unpoweredOpening s) := by
  simp (maxDischargeDepth := 60) [State.unpoweredOpening, hO]
theorem execTamperSwitchOpen_term (s : State) (hO : State.term s) :
    ∀ t, (execTamperSwitchOpen s) = .next t → State.term t := by
  rintro _ ⟨⟩; simp (maxDischargeDepth := 60) [hO]
theorem execSealLoopCheck_term (intact : Bool) (s : State) (hO : State.term s) :
    ∀ t, (execSealLoopCheck intact s) = .next t → State.term t := by
  rintro _ ⟨⟩; simp (maxDischargeDepth := 60) [hO]
theorem execUnpoweredEnclosureOpening_term (s : State) (hO : State.term s) :
    ∀ t, (execUnpoweredEnclosureOpening s) = .next t → State.term t := by
  rintro _ ⟨⟩; simp (maxDischargeDepth := 60) [hO]
@[simp] theorem State.bootTamper_term (s : State) (loopOk : Bool) (unfed : Bool) (downOt : Nat) (hO : State.term s) :
    State.term (State.bootTamper s loopOk unfed downOt) := by
  simp (maxDischargeDepth := 60) [State.bootTamper, hO]
theorem execUpdVerifyDone_term (s : State) (hO : State.term s) :
    ∀ t, (execUpdVerifyDone s) = .next t → State.term t := by
  rintro _ ⟨⟩; (repeat' split) <;> simp (maxDischargeDepth := 60) [hO]
theorem execUpdateSessionTimeout_term (s : State) (hO : State.term s) :
    ∀ t, (execUpdateSessionTimeout s) = .next t → State.term t := by
  rintro _ ⟨⟩; simp (maxDischargeDepth := 60) [hO]
@[simp] theorem State.actProgress_term (s : State) (step : Nat) (hO : State.term s) :
    State.term (State.actProgress s step) := by
  unfold State.actProgress; split <;> simp (maxDischargeDepth := 60) [hO]
@[simp] theorem State.beginTurn_term (s : State) (a : ActSt) (lane : Lane) (hO : State.term s) :
    State.term (State.beginTurn s a lane) := by
  simp (maxDischargeDepth := 60) [State.beginTurn, hO]
@[simp] theorem State.turnStart_term (s : State) (hO : State.term s) :
    State.term (State.turnStart s) := by
  unfold State.turnStart; (repeat' split) <;> simp (maxDischargeDepth := 60) [hO]
theorem execLaneTurn_term (lane : Lane) (s : State) (hO : State.term s) :
    ∀ t, (execLaneTurn lane s) = .next t → State.term t := by
  rintro _ ⟨⟩; (repeat' split) <;> simp (maxDischargeDepth := 60) [hO]
theorem execKernelLoadDone_term (lane : Lane) (s : State) (hO : State.term s) :
    ∀ t, (execKernelLoadDone lane s) = .next t → State.term t := by
  rintro _ ⟨⟩; simp (maxDischargeDepth := 60) [hO]
@[simp] theorem State.turnEnds_term (s : State) (l : Lane) (hO : State.term s) :
    State.term (State.turnEnds s l) := by
  unfold State.turnEnds; split <;> simp (maxDischargeDepth := 60) [hO]
@[simp] theorem State.switchLevel_term (s : State) (hO : State.term s) :
    State.term (State.switchLevel s) := by
  unfold State.switchLevel; split <;> simp (maxDischargeDepth := 60) [hO]
@[simp] theorem State.switchStart_term (s : State) (hO : State.term s) :
    State.term (State.switchStart s) := by
  simp (maxDischargeDepth := 60) [State.switchStart, hO]
theorem execLevelSwitch_term (s : State) (hO : State.term s) :
    ∀ t, (execLevelSwitch s) = .next t → State.term t := by
  rintro _ ⟨⟩; simp (maxDischargeDepth := 60) [hO]
@[simp] theorem State.actStart_term (s : State) (hO : State.term s) :
    State.term (State.actStart s) := by
  unfold State.actStart; split <;> simp (maxDischargeDepth := 60) [hO]
theorem execImageConfirmed_term (s : State) (hO : State.term s) :
    ∀ t, (execImageConfirmed s) = .next t → State.term t := by
  rintro _ ⟨⟩; (repeat' split) <;> simp (maxDischargeDepth := 60) [hO]
theorem execPostActivationTimeout_term (s : State) (hO : State.term s) :
    ∀ t, (execPostActivationTimeout s) = .next t → State.term t := by
  rintro _ ⟨⟩; (repeat' split) <;> simp (maxDischargeDepth := 60) [hO]
@[simp] theorem State.putSend_term (s : State) (r : SendRec) (hO : State.term s) :
    State.term (State.putSend s r) := by
  exact hO
@[simp] theorem State.putFb_term (s : State) (off : Nat) (b : Bytes) (hO : State.term s) :
    State.term (State.putFb s off b) := by
  exact hO
@[simp] theorem State.commitItem_term (held : List CmdRef) (s : State) (x2 : MirrorItem) (hO : State.term s) :
    State.term (State.commitItem held s x2) := by
  unfold State.commitItem; split <;> simp (maxDischargeDepth := 60) [hO]
@[simp] theorem State.commitSet_term (s : State) (is : List MirrorItem) (hO : State.term s) : State.term (s.commitSet is) := by
  unfold State.commitSet; dsimp only
  apply State.bindForces_term
  exact State.each_term _ _ _ hO fun s x h => State.commitItem_term _ s x h
@[simp] theorem State.unconfirm_term (s : State) (is : List MirrorItem) (hO : State.term s) :
    State.term (State.unconfirm s is) := by
  exact hO
@[simp] theorem State.sbAnswer_term (s : State) (ini : Initiator) (win : Nat) (off : Nat) (op : Nat) (fstat : Nat) (retry : Bool) (data : Bytes) (hO : State.term s) :
    State.term (State.sbAnswer s ini win off op fstat retry data) := by
  exact hO
@[simp] theorem State.takeSbSeq_term (s : State) (hO : State.term s) :
    State.term (State.takeSbSeq s).2 := by
  exact hO
@[simp] theorem State.sendBridge_term (s : State) (dst : Nat) (seq : Nat) (payload : Bytes) (hO : State.term s) :
    State.term (State.sendBridge s dst seq payload) := by
  simp (maxDischargeDepth := 60) [State.sendBridge, hO]
@[simp] theorem State.sendXfer_term (s : State) (x : Xfer) (hO : State.term s) :
    State.term (State.sendXfer s x) := by
  simp (maxDischargeDepth := 60) [State.sendXfer, hO]
@[simp] theorem State.pumpWindow_term (s : State) (w : Nat) (hO : State.term s) :
    State.term (State.pumpWindow s w) := by
  unfold State.pumpWindow; dsimp only; (repeat' split) <;> simp_all
@[simp] theorem State.finishXfer_term (s : State) (x : Xfer) (fstat : Nat) (data : Bytes) (hO : State.term s) :
    State.term (State.finishXfer s x fstat data) := by
  simp (maxDischargeDepth := 60) [State.finishXfer, hO]
@[simp] theorem State.spoil_term (s : State) (win : Nat) (off : Nat) (len : Nat) (hO : State.term s) :
    State.term (State.spoil s win off len) := by
  exact hO
@[simp] theorem State.sbTake_term (s : State) (ini : Initiator) (win : Nat) (off : Nat) (op : Nat) (len : Nat) (data : Bytes) (hO : State.term s) :
    State.term (State.sbTake s ini win off op len data) := by
  simp (maxDischargeDepth := 60) [State.sbTake, hO]
@[simp] theorem State.postedOff_term (s : State) (win : Nat) (off : Nat) (data : Bytes) (hO : State.term s) :
    State.term (State.postedOff s win off data) := by
  simp (maxDischargeDepth := 60) [State.postedOff, hO]
@[simp] theorem State.sbIssueWrite_term (s : State) (ini : Initiator) (win : Nat) (off : Nat) (op : Nat) (data : Bytes) (hO : State.term s) :
    State.term (State.sbIssueWrite s ini win off op data) := by
  unfold State.sbIssueWrite; split <;> simp (maxDischargeDepth := 60) [hO]
@[simp] theorem State.sbIssueRead_term (s : State) (ini : Initiator) (win : Nat) (off : Nat) (len : Nat) (hO : State.term s) :
    State.term (State.sbIssueRead s ini win off len) := by
  unfold State.sbIssueRead; (repeat' split) <;> simp (maxDischargeDepth := 60) [hO]
theorem execSbWrite_term (win : Nat) (off : Nat) (data : Bytes) (s : State) (hO : State.term s) :
    ∀ t, (execSbWrite win off data s) = .next t → State.term t := by
  rintro _ ⟨⟩; simp (maxDischargeDepth := 60) [hO]
theorem execSbRead_term (win : Nat) (off : Nat) (len : Nat) (s : State) (hO : State.term s) :
    ∀ t, (execSbRead win off len s) = .next t → State.term t := by
  rintro _ ⟨⟩; simp (maxDischargeDepth := 60) [hO]
theorem execSbPostedWrite_term (win : Nat) (off : Nat) (data : Bytes) (s : State) (hO : State.term s) :
    ∀ t, (execSbPostedWrite win off data s) = .next t → State.term t := by
  rintro _ ⟨⟩; simp (maxDischargeDepth := 60) [hO]
@[simp] theorem State.laneTransfer_term (s : State) (t : LaneTransfer) (hO : State.term s) :
    State.term (State.laneTransfer s t) := by
  unfold State.laneTransfer; split <;> simp (maxDischargeDepth := 60) [hO]
@[simp] theorem State.laneTransfers_term (s : State) (issued : Trio (List LaneTransfer)) (hO : State.term s) :
    State.term (State.laneTransfers s issued) := by
  simp (maxDischargeDepth := 60) +contextual [State.laneTransfers, hO, State.each_term, State.updCell_term]
@[simp] theorem State.freezeBridge_term (s : State) (hO : State.term s) :
    State.term (State.freezeBridge s) := by
  exact hO
@[simp] theorem State.serve_term (s : State) (bop : Nat) (addr : Nat) (len : Nat) (data : Bytes) (hO : State.term s) :
    State.term (State.serve s bop addr len data).2.2 := by
  unfold State.serve; dsimp only; (repeat' split) <;> simp_all
@[simp] theorem State.inbound_term (s : State) (g : Gvt) (hO : State.term s) :
    State.term (State.inbound s g) := by
  unfold State.inbound; dsimp only; (repeat' split) <;> simp (maxDischargeDepth := 60) +contextual [hO, State.each_term, State.when_term, State.updCell_term]
@[simp] theorem State.completion_term (s : State) (g : Gvt) (hO : State.term s) :
    State.term (State.completion s g) := by
  unfold State.completion; split <;> simp (maxDischargeDepth := 60) [hO]
@[simp] theorem State.tvFail_term (s : State) (hO : State.term s) :
    State.term (State.tvFail s) := by
  simp (maxDischargeDepth := 60) [State.tvFail, hO]
theorem execBridgeFrameReceived_term (net : Net) (f : Frame) (s : State) (hO : State.term s) :
    ∀ t, (execBridgeFrameReceived net f s) = .next t → State.term t := by
  rintro _ ⟨⟩; dsimp only; split
  · exact hO
  · refine State.notOwn_term _ _ _ hO ?_; (repeat' split) <;> simp (maxDischargeDepth := 60) [hO]
theorem execSbTransferTimeout_term (seq : Nat) (s : State) (hO : State.term s) :
    ∀ t, (execSbTransferTimeout seq s) = .next t → State.term t := by
  rintro _ ⟨⟩; (repeat' split) <;> simp (maxDischargeDepth := 60) [hO]
theorem execSbBusyRetry_term (seq : Nat) (s : State) (hO : State.term s) :
    ∀ t, (execSbBusyRetry seq s) = .next t → State.term t := by
  rintro _ ⟨⟩; (repeat' split) <;> simp (maxDischargeDepth := 60) [hO]
theorem execSbHeldResultExpiry_term (vk : Bool) (win : Nat) (off : Nat) (len : Nat) (s : State) (hO : State.term s) :
    ∀ t, (execSbHeldResultExpiry vk win off len s) = .next t → State.term t := by
  rintro _ ⟨⟩; simp (maxDischargeDepth := 60) [hO]
@[simp] theorem State.updPair_term (s : State) (f : PairSt → PairSt) (hO : State.term s) :
    State.term (State.updPair s f) := by
  exact hO
theorem execPstartReceived_term (m : PStart) (us : Nat) (s : State) (hO : State.term s) :
    ∀ t, (execPstartReceived m us s) = .next t → State.term t := by
  rintro _ ⟨⟩; simp (maxDischargeDepth := 60) [hO]
theorem execMblockReceived_term (m : MBlock) (s : State) (hO : State.term s) :
    ∀ t, (execMblockReceived m s) = .next t → State.term t := by
  rintro _ ⟨⟩; simp (maxDischargeDepth := 60) [hO]
theorem execMcloseReceived_term (m : MClose) (s : State) (hO : State.term s) :
    ∀ t, (execMcloseReceived m s) = .next t → State.term t := by
  rintro _ ⟨⟩; simp (maxDischargeDepth := 60) [hO]
theorem execPreportReceived_term (crcOk : Bool) (h : Health) (s : State) (hO : State.term s) :
    ∀ t, (execPreportReceived crcOk h s) = .next t → State.term t := by
  rintro _ ⟨⟩; simp (maxDischargeDepth := 60) [hO]
@[simp] theorem State.noteCmd_term (s : State) (r : CmdRef) (hO : State.term s) :
    State.term (State.noteCmd s r) := by
  exact hO
theorem execCmdfwdReceived_term (m : CmdFwdMsg) (s : State) (hO : State.term s) :
    ∀ t, (execCmdfwdReceived m s) = .next t → State.term t := by
  rintro _ ⟨⟩; simp (maxDischargeDepth := 60) [hO]
theorem execHeartbeatReceived_term (net : Net) (f : Frame) (s : State) (hO : State.term s) :
    ∀ t, (execHeartbeatReceived net f s) = .next t → State.term t := by
  rintro _ ⟨⟩; dsimp only; split
  · exact hO
  · refine State.notOwn_term _ _ _ hO ?_; (repeat' split) <;> simp (maxDischargeDepth := 60) [hO]
@[simp] theorem State.sendHeartbeat_term (s : State) (hO : State.term s) :
    State.term (State.sendHeartbeat s) := by
  simp (maxDischargeDepth := 60) [State.sendHeartbeat, hO]
theorem execPlLinkLoss_term (link2 : Bool) (s : State) (hO : State.term s) :
    ∀ t, (execPlLinkLoss link2 s) = .next t → State.term t := by
  rintro _ ⟨⟩; simp (maxDischargeDepth := 60) [hO]
theorem execPlLinkReturn_term (link2 : Bool) (s : State) (hO : State.term s) :
    ∀ t, (execPlLinkReturn link2 s) = .next t → State.term t := by
  rintro _ ⟨⟩; simp (maxDischargeDepth := 60) [hO]
theorem execOpticInserted_term (link2 : Bool) (kind : Optic) (s : State) (hO : State.term s) :
    ∀ t, (execOpticInserted link2 kind s) = .next t → State.term t := by
  rintro _ ⟨⟩; simp (maxDischargeDepth := 60) [hO]
@[simp] theorem State.pairCmdDone_term (s : State) (r : CmdRef) (before : Nat) (after : Nat) (st : Nat) (hO : State.term s) :
    State.term (State.pairCmdDone s r before after st) := by
  simp (maxDischargeDepth := 60) [State.pairCmdDone, hO]
@[simp] theorem State.endHandover_term (s : State) (after : Nat) (st : Nat) (hO : State.term s) :
    State.term (State.endHandover s after st) := by
  unfold State.endHandover; split <;> simp (maxDischargeDepth := 60) [hO]
@[simp] theorem State.handoverDone_term (s : State) (hO : State.term s) :
    State.term (State.handoverDone s) := by
  simp (maxDischargeDepth := 60) [State.handoverDone, hO]
@[simp] theorem State.becomeFollow_term (s : State) (instep : Nat) (hO : State.term s) :
    State.term (State.becomeFollow s instep) := by
  simp (maxDischargeDepth := 60) [State.becomeFollow, hO]
@[simp] theorem State.outOfStep_term (s : State) (hO : State.term s) :
    State.term (State.outOfStep s) := by
  simp (maxDischargeDepth := 60) [State.outOfStep, hO]
@[simp] theorem State.relinquish_term (s : State) (hO : State.term s) :
    State.term (State.relinquish s) := by
  simp (maxDischargeDepth := 60) [State.relinquish, hO]
theorem execPartnerSilent_term (s : State) (hO : State.term s) :
    ∀ t, (execPartnerSilent s) = .next t → State.term t := by
  rintro _ ⟨⟩; simp (maxDischargeDepth := 60) [hO]
theorem execRevertHoldOff_term (s : State) (hO : State.term s) :
    ∀ t, (execRevertHoldOff s) = .next t → State.term t := by
  rintro _ ⟨⟩; rw [if_neg (by simp [State.mayReturn, State.pairOn_term s hO])]; exact hO
@[simp] theorem State.comeInStep_term (s : State) (hO : State.term s) :
    State.term (State.comeInStep s) := by
  simp (maxDischargeDepth := 60) [State.comeInStep, hO]
theorem execInStep_term (s : State) (hO : State.term s) :
    ∀ t, (execInStep s) = .next t → State.term t := by
  rintro _ ⟨⟩; simp (maxDischargeDepth := 60) [hO]
@[simp] theorem State.endConflict_term (s : State) (hO : State.term s) :
    State.term (State.endConflict s) := by
  simp (maxDischargeDepth := 60) [State.endConflict, hO]
theorem execLeadClaimConflict_term (s : State) (hO : State.term s) :
    ∀ t, (execLeadClaimConflict s) = .next t → State.term t := by
  rintro _ ⟨⟩; simp (maxDischargeDepth := 60) [hO]
@[simp] theorem State.joinRestart_term (s : State) (hO : State.term s) :
    State.term (State.joinRestart s) := by
  simp (maxDischargeDepth := 60) [State.joinRestart, hO]
@[simp] theorem State.joinExpiry_term (s : State) (hO : State.term s) :
    State.term (State.joinExpiry s) := by
  simp (maxDischargeDepth := 60) [State.joinExpiry, hO]
theorem execJoinWaitExpiry_term (s : State) (hO : State.term s) :
    ∀ t, (execJoinWaitExpiry s) = .next t → State.term t := by
  rintro _ ⟨⟩; simp (maxDischargeDepth := 60) [hO]
theorem execPairApplyTimeout_term (s : State) (hO : State.term s) :
    ∀ t, (execPairApplyTimeout s) = .next t → State.term t := by
  rintro _ ⟨⟩; simp (maxDischargeDepth := 60) [hO]
@[simp] theorem State.dropFar_term (s : State) (hO : State.term s) :
    State.term (State.dropFar s) := by
  simp (maxDischargeDepth := 60) [State.dropFar, hO]
@[simp] theorem State.fallSilent_term (s : State) (hO : State.term s) :
    State.term (State.fallSilent s) := by
  simp (maxDischargeDepth := 60) [State.fallSilent, hO]
@[simp] theorem State.pairCount_term (s : State) (hO : State.term s) :
    State.term (State.pairCount s) := by
  unfold State.pairCount; split <;> simp (maxDischargeDepth := 60) [hO]
@[simp] theorem State.countSilence_term (s : State) (hO : State.term s) :
    State.term (State.countSilence s) := by
  simp (maxDischargeDepth := 60) [State.countSilence, hO]
@[simp] theorem State.adoptEpoch_term (s : State) (hO : State.term s) :
    State.term (State.adoptEpoch s) := by
  simp (maxDischargeDepth := 60) [State.adoptEpoch, hO]
@[simp] theorem State.claims_term (s : State) (hO : State.term s) :
    State.term (State.claims s) := by
  simp (maxDischargeDepth := 60) [State.claims, hO]
@[simp] theorem State.compareOne_term (s : State) (h : Health) (hO : State.term s) :
    State.term (State.compareOne s h) := by
  unfold State.compareOne; split <;> simp (maxDischargeDepth := 60) [hO]
@[simp] theorem State.compareReports_term (s : State) (hO : State.term s) :
    State.term (State.compareReports s) := by
  simp (maxDischargeDepth := 60) +contextual [State.compareReports, hO, State.each_term, State.updCell_term]
@[simp] theorem State.keepOwn_term (s : State) (is : List MirrorItem) (hO : State.term s) :
    State.term (State.keepOwn s is) := by
  simp (maxDischargeDepth := 60) [State.keepOwn, hO]
@[simp] theorem State.commitMirror_term (s : State) (hO : State.term s) :
    State.term (State.commitMirror s) := by
  unfold State.commitMirror; dsimp only; (repeat' split) <;> simp (maxDischargeDepth := 60) +contextual [hO, State.each_term, State.when_term, State.updCell_term]
@[simp] theorem State.phaseCheck_term (s : State) (hO : State.term s) :
    State.term (State.phaseCheck s) := by
  simp (maxDischargeDepth := 60) [State.phaseCheck, hO]
@[simp] theorem State.phaseCorrect_term (s : State) (hO : State.term s) :
    State.term (State.phaseCorrect s) := by
  exact hO
@[simp] theorem State.mirrorAbandon_term (s : State) (hO : State.term s) :
    State.term (State.mirrorAbandon s) := by
  simp (maxDischargeDepth := 60) [State.mirrorAbandon, hO]
@[simp] theorem State.holdRestart_term (s : State) (hO : State.term s) :
    State.term (State.holdRestart s) := by
  simp (maxDischargeDepth := 60) [State.holdRestart, hO]
@[simp] theorem State.pairStart_term (s : State) (hO : State.term s) :
    State.term (State.pairStart s) := by
  simp (maxDischargeDepth := 60) [State.pairStart, hO]
@[simp] theorem State.pairClaim_term (s : State) (hO : State.term s) :
    State.term (State.pairClaim s) := by
  simp (maxDischargeDepth := 60) [State.pairClaim, hO]
@[simp] theorem State.noteEntered_term (s : State) (ops : List OpCmd) (hO : State.term s) :
    State.term (State.noteEntered s ops) := by
  simp (maxDischargeDepth := 60) [State.noteEntered, hO]
@[simp] theorem State.opsOf_term (s : State) (hO : State.term s) :
    State.term (State.opsOf s).2 := by
  simp (maxDischargeDepth := 60) [State.opsOf, hO]
@[simp] theorem State.numberOp_term (x : List OpCmd × State) (o : OpCmd) (hO : State.term x.2) : State.term (State.numberOp x o).2 := by
  unfold State.numberOp; split <;> simp [hO]
@[simp] theorem State.numberOps_term (os : List OpCmd) (x : List OpCmd × State) (hO : State.term x.2) :
    State.term (os.foldl State.numberOp x).2 := by
  induction os generalizing x with
  | nil => exact hO
  | cons o os ih => exact ih _ (State.numberOp_term _ _ hO)
@[simp] theorem State.takeOps_term (s : State) (hO : State.term s) :
    State.term (State.takeOps s).2 := by
  unfold State.takeOps; dsimp only; split <;> simp [hO]
@[simp] theorem State.holdForces_term (s : State) (hO : State.term s) :
    State.term (State.holdForces s) := by
  simp (maxDischargeDepth := 60) [State.holdForces, hO]
@[simp] theorem State.listForce_term (s : State) (c : ForceCmd) (hO : State.term s) :
    State.term (State.listForce s c) := by
  simp (maxDischargeDepth := 60) [State.listForce, hO]
@[simp] theorem State.listApply_term (s : State) (hO : State.term s) :
    State.term (State.listApply s) := by
  exact hO
@[simp] theorem State.takeLists_term (s : State) (hO : State.term s) :
    State.term (State.takeLists s) := by
  unfold State.takeLists; dsimp only; (repeat' split) <;> simp (maxDischargeDepth := 60) +contextual [hO, State.each_term, State.when_term, State.updCell_term]
@[simp] theorem State.sendPstart_term (s : State) (ops : List OpCmd) (hO : State.term s) :
    State.term (State.sendPstart s ops) := by
  simp (maxDischargeDepth := 60) [State.sendPstart, hO]
@[simp] theorem State.formReport_term (s : State) (hO : State.term s) :
    State.term (State.formReport s) := by
  exact hO
@[simp] theorem State.pairDone_term (s : State) (hO : State.term s) :
    State.term (State.pairDone s) := by
  simp (maxDischargeDepth := 60) +contextual [State.pairDone, hO, State.each_term, State.updCell_term]
theorem execMcloseSend_term (s : State) (hO : State.term s) :
    ∀ t, (execMcloseSend s) = .next t → State.term t := by
  rintro _ ⟨⟩; simp (maxDischargeDepth := 60) [hO]
@[simp] theorem State.sendTunnel_term (s : State) (n : Nat) (seq : Nat) (data : Bytes) (hO : State.term s) :
    State.term (State.sendTunnel s n seq data) := by
  simp (maxDischargeDepth := 60) [State.sendTunnel, hO]
@[simp] theorem State.carry_term (s : State) (n : Nat) (data : Bytes) (hO : State.term s) :
    State.term (State.carry s n data) := by
  simp (maxDischargeDepth := 60) [State.carry, hO]
@[simp] theorem State.carryOr_term (s : State) (n : Nat) (data : Bytes) (hO : State.term s) :
    State.term (State.carryOr s n data) := by
  simp (maxDischargeDepth := 60) [State.carryOr, hO]
@[simp] theorem State.lineFrame_term (s : State) (port : Nat) (data : Bytes) (bad : Bool) (hO : State.term s) :
    State.term (State.lineFrame s port data bad) := by
  unfold State.lineFrame; dsimp only; (repeat' split) <;> simp_all
theorem execLegacyFrameReceived_term (port : Nat) (data : Bytes) (ending : LegacyEnd) (s : State) (hO : State.term s) :
    ∀ t, (execLegacyFrameReceived port data ending s) = .next t → State.term t := by
  rintro _ ⟨⟩; dsimp only; (repeat' split) <;> simp_all
@[simp] theorem State.tunnelData_term (s : State) (n : Nat) (g : Gvt) (hO : State.term s) :
    State.term (State.tunnelData s n g) := by
  simp (maxDischargeDepth := 60) [State.tunnelData, hO]
theorem execTunnelFrameReceived_term (net : Net) (f : Frame) (s : State) (hO : State.term s) :
    ∀ t, (execTunnelFrameReceived net f s) = .next t → State.term t := by
  rintro _ ⟨⟩; dsimp only; split
  · exact hO
  · refine State.notOwn_term _ _ _ hO ?_; (repeat' split) <;> simp (maxDischargeDepth := 60) [hO]
theorem execLegacyTransmit_term (tunnel : Nat) (s : State) (hO : State.term s) :
    ∀ t, (execLegacyTransmit tunnel s) = .next t → State.term t := by
  rintro _ ⟨⟩; dsimp only; (repeat' split) <;> simp_all
theorem execTunnelKeepalive_term (tunnel : Nat) (s : State) (hO : State.term s) :
    ∀ t, (execTunnelKeepalive tunnel s) = .next t → State.term t := by
  rintro _ ⟨⟩; simp (maxDischargeDepth := 60) [hO]
theorem execTunnelDown_term (tunnel : Nat) (s : State) (hO : State.term s) :
    ∀ t, (execTunnelDown tunnel s) = .next t → State.term t := by
  rintro _ ⟨⟩; simp (maxDischargeDepth := 60) [hO]
@[simp] theorem State.latchCurrent_term (s : State) (c : Nat) (hO : State.term s) :
    State.term (State.latchCurrent s c) := by
  simp (maxDischargeDepth := 60) [State.latchCurrent, hO]
@[simp] theorem State.latchStatus_term (s : State) (hO : State.term s) :
    State.term (State.latchStatus s) := by
  simp (maxDischargeDepth := 60) +contextual [State.latchStatus, hO, State.each_term, State.updCell_term]
@[simp] theorem State.updCyc_term (s : State) (f : CycleSt → CycleSt) (hO : State.term s) :
    State.term (State.updCyc s f) := by
  exact hO
@[simp] theorem State.advanceSends_term (s : State) (conns : List Nat) (hO : State.term s) :
    State.term (State.advanceSends s conns) := by
  exact hO
@[simp] theorem State.putForm_term (s : State) (f : VoteForm) (hO : State.term s) :
    State.term (State.putForm s f) := by
  exact hO
@[simp] theorem State.holdForm_term (s : State) (hO : State.term s) :
    State.term (State.holdForm s) := by
  exact hO
@[simp] theorem State.keepImage_term (s : State) (f : VoteForm) (hO : State.term s) :
    State.term (State.keepImage s f) := by
  exact hO
@[simp] theorem State.tickCompare_term (s : State) (t : Trio Nat) (hO : State.term s) :
    State.term (State.tickCompare s t) := by
  unfold State.tickCompare; dsimp only; (repeat' split) <;> simp (maxDischargeDepth := 60) +contextual [hO, State.each_term, State.when_term, State.updCell_term]
@[simp] theorem State.otsCheck_term (s : State) (t : Trio Nat) (hO : State.term s) :
    State.term (State.otsCheck s t) := by
  simp (maxDischargeDepth := 60) [State.otsCheck, hO]
@[simp] theorem State.eventEffects_term (s : State) (hO : State.term s) :
    State.term (State.eventEffects s) := by
  simp (maxDischargeDepth := 60) +contextual [State.eventEffects, hO, State.each_term, State.updCell_term]
@[simp] theorem State.fbStores_term (s : State) (env : StartEnv) (ls : List Lane) (hO : State.term s) :
    State.term (State.fbStores s env ls) := by
  simp (maxDischargeDepth := 60) +contextual [State.fbStores, hO, State.each_term, State.updCell_term]
@[simp] theorem State.exercise_term (s : State) (env : StartEnv) (hO : State.term s) :
    State.term (State.exercise s env) := by
  simp (maxDischargeDepth := 60) +contextual [State.exercise, hO, State.each_term, State.updCell_term]
@[simp] theorem State.syncPass_term (s : State) (hO : State.term s) :
    State.term (State.syncPass s) := by
  simp (maxDischargeDepth := 60) [State.syncPass, hO]
@[simp] theorem State.rejoinLane_term (s : State) (l : Lane) (hO : State.term s) :
    State.term (State.rejoinLane s l) := by
  simp (maxDischargeDepth := 60) [State.rejoinLane, hO]
@[simp] theorem State.resyncEntry_term (s : State) (hO : State.term s) :
    State.term (State.resyncEntry s) := by
  unfold State.resyncEntry; (repeat' split) <;> simp (maxDischargeDepth := 60) [hO]
@[simp] theorem State.stagedWork_term (s : State) (hO : State.term s) :
    State.term (State.stagedWork s) := by
  simp (maxDischargeDepth := 60) [State.stagedWork, hO]
@[simp] theorem State.formCore_term (s : State) (hO : State.term s) :
    State.term (State.formCore s) := by
  exact hO
@[simp] theorem State.fbStep_term (s : State) (hO : State.term s) :
    State.term (State.fbStep s) := by
  simp (maxDischargeDepth := 60) [State.fbStep, hO]
@[simp] theorem State.runPasses_term (s : State) (ops : List OpCmd) (dt : Nat) (hO : State.term s) :
    State.term (State.runPasses s ops dt) := by
  simp (maxDischargeDepth := 60) [State.runPasses, hO]
@[simp] theorem State.runCycle_term (s : State) (ops : List OpCmd) (dt : Nat) (hO : State.term s) :
    State.term (State.runCycle s ops dt) := by
  simp (maxDischargeDepth := 60) [State.runCycle, hO]
@[simp] theorem State.readCommons_term (s : State) (hO : State.term s) :
    State.term (State.readCommons s) := by
  simp (maxDischargeDepth := 60) +contextual [State.readCommons, hO, State.each_term, State.updCell_term]
@[simp] theorem State.compute_term (s : State) (dt : Nat) (hO : State.term s) :
    State.term (State.compute s dt) := by
  unfold State.compute; dsimp only; (repeat' split) <;> simp (maxDischargeDepth := 60) +contextual [hO, State.each_term, State.when_term, State.updCell_term]
@[simp] theorem State.takeTicks_term (s : State) (t : Trio Nat) (hO : State.term s) :
    State.term (State.takeTicks s t) := by
  exact hO
@[simp] theorem State.beforeSnapshot_term (s : State) (hO : State.term s) :
    State.term (State.beforeSnapshot s) := by
  simp (maxDischargeDepth := 60) +contextual [State.beforeSnapshot, hO, State.each_term, State.updCell_term]
@[simp] theorem State.cycleStart_term (s : State) (env : StartEnv) (hO : State.term s) :
    State.term (State.cycleStart s env) := by
  simp (maxDischargeDepth := 60) [State.cycleStart, hO]
@[simp] theorem State.overrunCheck_term (s : State) (hO : State.term s) :
    State.term (State.overrunCheck s) := by
  unfold State.overrunCheck; (repeat' split) <;> simp (maxDischargeDepth := 60) [hO]
theorem execOverrunLimit_term (s : State) (hO : State.term s) :
    ∀ t, (execOverrunLimit s) = .next t → State.term t := by
  rintro _ ⟨⟩; simp (maxDischargeDepth := 60) [hO]
@[simp] theorem State.skipSlot_term (s : State) (hO : State.term s) :
    State.term (State.skipSlot s) := by
  simp (maxDischargeDepth := 60) [State.skipSlot, hO]
@[simp] theorem State.withdrawLate_term (s : State) (l : Lane) (hO : State.term s) :
    State.term (State.withdrawLate s l) := by
  simp (maxDischargeDepth := 60) [State.withdrawLate, hO]
@[simp] theorem State.doneMissing_term (s : State) (env : StartEnv) (hO : State.term s) :
    State.term (State.doneMissing s env) := by
  simp (maxDischargeDepth := 60) +contextual [State.doneMissing, hO, State.each_term, State.updCell_term]
@[simp] theorem State.copyAbandon_term (s : State) (hO : State.term s) :
    State.term (State.copyAbandon s) := by
  unfold State.copyAbandon; split <;> simp (maxDischargeDepth := 60) [hO]
@[simp] theorem State.dueTime_term (s : State) (env : StartEnv) (hO : State.term s) :
    State.term (State.dueTime s env) := by
  simp (maxDischargeDepth := 60) [State.dueTime, hO]
@[simp] theorem State.enterSplit_term (s : State) (l : Lane) (hO : State.term s) :
    State.term (State.enterSplit s l) := by
  simp (maxDischargeDepth := 60) [State.enterSplit, hO]
@[simp] theorem State.leaveSplit_term (s : State) (old : State) (l : Lane) (hO : State.term s) :
    State.term (State.leaveSplit s old l) := by
  simp (maxDischargeDepth := 60) [State.leaveSplit, hO]
@[simp] theorem State.sendNonVital_term (s : State) (hO : State.term s) :
    State.term (State.sendNonVital s) := by
  simp (maxDischargeDepth := 60) +contextual [State.sendNonVital, hO, State.each_term, State.updCell_term]
@[simp] theorem State.splitForm_term (s : State) (ops : List OpCmd) (dt : Nat) (hO : State.term s) :
    State.term (State.splitForm s ops dt) := by
  unfold State.splitForm; split <;> simp (maxDischargeDepth := 60) [hO]
@[simp] theorem State.splitStart_term (s : State) (env : StartEnv) (hO : State.term s) :
    State.term (State.splitStart s env).2 := by
  unfold State.splitStart; dsimp only
  exact State.snapConns_term _ (State.readCommons_term _ (State.takeOps_term _ (State.freezeAll_term _ (State.latchAll_term _
    (State.beforeSnapshot_term _ (State.updCyc_term _ _ hO))))))
@[simp] theorem State.splitRun_term (s : State) (env : StartEnv) (hO : State.term s) :
    State.term (State.splitRun s env) := by
  unfold State.splitRun; dsimp only
  exact State.latchStatus_term _ (State.latchSummary_term _ (State.finishApply_term _ (State.flushCompl_term _ (State.updCyc_term _ _
    (State.splitForm_term _ _ _ (State.splitStart_term _ _ hO))))))
@[simp] theorem State.splitCycle_term (s : State) (l : Lane) (env : StartEnv) (hO : State.term s) :
    State.term (State.splitCycle s l env) := by
  simp (maxDischargeDepth := 60) [State.splitCycle, hO]
theorem execDueMark_term (lane : Lane) (env : StartEnv) (s : State) (hO : State.term s) :
    ∀ t, (execDueMark lane env s) = .next t → State.term t := by
  rintro _ ⟨⟩; simp (maxDischargeDepth := 60) [hO]
@[simp] theorem State.recordList_term (s : State) (flags : Nat) (hO : State.term s) :
    State.term (State.recordList s flags) := by
  simp (maxDischargeDepth := 60) +contextual [State.recordList, hO, State.each_term, State.updCell_term]
@[simp] theorem State.recordSafe_term (s : State) (hO : State.term s) :
    State.term (State.recordSafe s) := by
  simp (maxDischargeDepth := 60) [State.recordSafe, hO]
@[simp] theorem State.budget_term (s : State) (l : Lane) (t : Nat) (hO : State.term s) :
    State.term (State.budget s l t) := by
  unfold State.budget
  refine State.term_ite _ _ _ ?_ ?_
  · exact State.collect_term _ _ (State.updCyc_term _ _ (State.updLane_term _ _ _ (State.updLane_term _ _ _ hO)))
  · exact State.updLane_term _ _ _ hO
@[simp] theorem State.postDone_term (s : State) (comp : Trio Nat) (done : Trio Bool) (hO : State.term s) :
    State.term (State.postDone s comp done) := by
  simp (maxDischargeDepth := 60) +contextual [State.postDone, hO, State.each_term, State.updCell_term]
@[simp] theorem State.safetyLimit_term (s : State) (hO : State.term s) :
    State.term (State.safetyLimit s) := by
  unfold State.safetyLimit; split <;> simp (maxDischargeDepth := 60) [hO]
theorem execSafetyCodeFailLimit_term (s : State) (hO : State.term s) :
    ∀ t, (execSafetyCodeFailLimit s) = .next t → State.term t := by
  rintro _ ⟨⟩; simp (maxDischargeDepth := 60) [hO]
@[simp] theorem State.cycleEnd_term (s : State) (hO : State.term s) :
    State.term (State.cycleEnd s) := by
  simp (maxDischargeDepth := 60) [State.cycleEnd, hO]
@[simp] theorem State.cycleDone_term (s : State) (comp : Trio Nat) (done : Trio Bool) (hO : State.term s) :
    State.term (State.cycleDone s comp done) := by
  simp (maxDischargeDepth := 60) [State.cycleDone, hO]
@[simp] theorem State.shadow_term (s : State) (forms : Trio FormIn) (f : VoteForm) (hO : State.term s) :
    State.term (State.shadow s forms f) := by
  unfold State.shadow; (repeat' split) <;> simp (maxDischargeDepth := 60) [hO]
@[simp] theorem State.minority_term (s : State) (forms : Trio FormIn) (f : VoteForm) (l : Lane) (hO : State.term s) :
    State.term (State.minority s forms f l) := by
  unfold State.minority; split <;> simp (maxDischargeDepth := 60) [hO]
@[simp] theorem State.afterVote_term (s : State) (f : VoteForm) (issued : Trio (List LaneTransfer)) (hO : State.term s) :
    State.term (State.afterVote s f issued) := by
  simp (maxDischargeDepth := 60) [State.afterVote, hO]
@[simp] theorem State.stampForms_term (s : State) (forms : Trio FormIn) (hO : State.term s) :
    State.term (State.stampForms s forms) := by
  exact hO
theorem execExchangeClose_term (forms : Trio FormIn) (issued : Trio (List LaneTransfer)) (comp : Trio Nat) (done : Trio Bool) (s : State) (hO : State.term s) :
    ∀ t, (execExchangeClose forms issued comp done s) = .next t → State.term t := by
  rintro _ ⟨⟩; simp (maxDischargeDepth := 60) [hO]
@[simp] theorem State.scFailed_term (s : State) (conn : Nat) (names : List Lane) (hO : State.term s) :
    State.term (State.scFailed s conn names) := by
  simp (maxDischargeDepth := 60) +contextual [State.scFailed, hO, State.each_term, State.updCell_term]
@[simp] theorem State.release_term (s : State) (k : ConnCfg) (g : Gvt) (hO : State.term s) :
    State.term (State.release s k g) := by
  simp (maxDischargeDepth := 60) +contextual [State.release, hO, State.each_term, State.updCell_term]
theorem execTelegramRelease_term (conn : Nat) (sc1 : Option Nat) (sc2 : Option Nat) (comp : Trio Nat) (done : Trio Bool) (s : State) (hO : State.term s) :
    ∀ t, (execTelegramRelease conn sc1 sc2 comp done s) = .next t → State.term t := by
  rintro _ ⟨⟩; split; · exact hO
  rw [if_pos (by simp [State.cycling_term s hO])]; exact hO
theorem execResyncCopy_term (lane : Lane) (r : CopyResult) (s : State) (hO : State.term s) :
    ∀ t, (execResyncCopy lane r s) = .next t → State.term t := by
  rintro _ ⟨⟩; simp (maxDischargeDepth := 60) [hO]
theorem execResyncRetry_term (lane : Lane) (s : State) (hO : State.term s) :
    ∀ t, (execResyncRetry lane s) = .next t → State.term t := by
  rintro _ ⟨⟩; simp (maxDischargeDepth := 60) [hO]
theorem execRejoin_term (lane : Lane) (s : State) (hO : State.term s) :
    ∀ t, (execRejoin lane s) = .next t → State.term t := by
  rintro _ ⟨⟩; simp (maxDischargeDepth := 60) [hO]
@[simp] theorem State.mismatch_term (s : State) (l : Lane) (hO : State.term s) :
    State.term (State.mismatch s l) := by
  simp (maxDischargeDepth := 60) [State.mismatch, hO]
theorem execComparatorMismatch_term (x : Handshake) (s : State) (hO : State.term s) :
    ∀ t, (execComparatorMismatch x s) = .next t → State.term t := by
  rintro _ ⟨⟩; simp (maxDischargeDepth := 60) +contextual [hO, State.each_term, State.fed_term, State.updCell_term]
theorem execArbitrationSelfTestDone_term (lane : Lane) (core0 : Bool) (core1 : Bool) (cmp : Bool) (s : State) (hO : State.term s) :
    ∀ t, (execArbitrationSelfTestDone lane core0 core1 cmp s) = .next t → State.term t := by
  rintro _ ⟨⟩; (repeat' split) <;> simp (maxDischargeDepth := 60) [hO]
theorem execArbitrationSelfTestTimeout_term (lane : Lane) (s : State) (hO : State.term s) :
    ∀ t, (execArbitrationSelfTestTimeout lane s) = .next t → State.term t := by
  rintro _ ⟨⟩; simp (maxDischargeDepth := 60) [hO]
@[simp] theorem State.reloadTables_term (s : State) (l : Lane) (hO : State.term s) :
    State.term (State.reloadTables s l) := by
  exact hO
@[simp] theorem State.checkPassed_term (s : State) (l : Lane) (hO : State.term s) :
    State.term (State.checkPassed s l) := by
  exact hO
theorem execRestartCheckDone_term (lane : Lane) (cmpOk : Bool) (bankOk : Bool) (s : State) (hO : State.term s) :
    ∀ t, (execRestartCheckDone lane cmpOk bankOk s) = .next t → State.term t := by
  rintro _ ⟨⟩; simp (maxDischargeDepth := 60) [hO]
theorem execProgressTimeout_term (lane : Lane) (s : State) (hO : State.term s) :
    ∀ t, (execProgressTimeout lane s) = .next t → State.term t := by
  rintro _ ⟨⟩; simp (maxDischargeDepth := 60) +contextual [hO, State.each_term, State.fed_term, State.updCell_term]
theorem execLaneStall_term (lane : Lane) (s : State) (hO : State.term s) :
    ∀ t, (execLaneStall lane s) = .next t → State.term t := by
  rintro _ ⟨⟩; simp (maxDischargeDepth := 60) +contextual [hO, State.each_term, State.fed_term, State.updCell_term]
theorem execIllegalDualRailCode_term (region : Nat) (block : Nat) (s : State) (hO : State.term s) :
    ∀ t, (execIllegalDualRailCode region block s) = .next t → State.term t := by
  rintro _ ⟨⟩; simp (maxDischargeDepth := 60) +contextual [hO, State.each_term, State.fed_term, State.updCell_term]
theorem State.ofCore_term (s : State) (l : Lane) (core : Bool) (f : State → State) (hO : State.term s)
    (h : ∀ s, State.term s → State.term (f s)) : State.term (State.ofCore s l core f) := by
  unfold State.ofCore; exact State.updLane_term _ _ _ (h _ (State.updLane_term _ _ _ hO))
theorem execCacheError_term (lane : Lane) (kind : CacheEvent) (s : State) (hO : State.term s) :
    ∀ t, (execCacheError lane kind s) = .next t → State.term t := by
  rintro _ ⟨⟩; refine State.fed_term _ _ hO fun s hO => State.ofCore_term _ _ _ _ hO fun s hO => ?_; split <;> simp [hO]
theorem execMemoryScrubError_term (lane : Lane) (found : ScrubEvent) (s : State) (hO : State.term s) :
    ∀ t, (execMemoryScrubError lane found s) = .next t → State.term t := by
  rintro _ ⟨⟩; refine State.fed_term _ _ hO fun s hO => State.ofCore_term _ _ _ _ hO fun s hO => ?_; split <;> simp [hO]
theorem execLaneSupplyLoss_term (lane : Lane) (s : State) (hO : State.term s) :
    ∀ t, (execLaneSupplyLoss lane s) = .next t → State.term t := by
  rintro _ ⟨⟩; simp (maxDischargeDepth := 60) +contextual [hO, State.each_term, State.fed_term, State.updCell_term]
theorem execLaneSupplyReturn_term (lane : Lane) (s : State) (hO : State.term s) :
    ∀ t, (execLaneSupplyReturn lane s) = .next t → State.term t := by
  rintro _ ⟨⟩; simp (maxDischargeDepth := 60) +contextual [hO, State.each_term, State.fed_term, State.updCell_term]
theorem execCommonsSupplyLoss_term (s : State) (hO : State.term s) :
    ∀ t, (execCommonsSupplyLoss s) = .next t → State.term t := by
  rintro _ ⟨⟩; simp (maxDischargeDepth := 60) +contextual [hO, State.each_term, State.fed_term, State.updCell_term]
theorem execServiceSupplyLoss_term (s : State) (hO : State.term s) :
    ∀ t, (execServiceSupplyLoss s) = .next t → State.term t := by
  rintro _ ⟨⟩; simp (maxDischargeDepth := 60) +contextual [hO, State.each_term, State.fed_term, State.updCell_term]
theorem execServiceRegionReturn_term (s : State) (hO : State.term s) :
    ∀ t, (execServiceRegionReturn s) = .next t → State.term t := by
  rintro _ ⟨⟩; simp (maxDischargeDepth := 60) +contextual [hO, State.each_term, State.fed_term, State.updCell_term]
theorem execTimebaseTrim_term (offs : Trio (Option Int)) (s : State) (hO : State.term s) :
    ∀ t, (execTimebaseTrim offs s) = .next t → State.term t := by
  rintro _ ⟨⟩; simp (maxDischargeDepth := 60) +contextual [hO, State.each_term, State.fed_term, State.updCell_term]
theorem execTokenOverrun_term (s : State) (hO : State.term s) :
    ∀ t, (execTokenOverrun s) = .next t → State.term t := by
  rintro _ ⟨⟩; simp (maxDischargeDepth := 60) +contextual [hO, State.each_term, State.fed_term, State.updCell_term]
theorem execTokenRegenerate_term (s : State) (hO : State.term s) :
    ∀ t, (execTokenRegenerate s) = .next t → State.term t := by
  rintro _ ⟨⟩; simp (maxDischargeDepth := 60) +contextual [hO, State.each_term, State.fed_term, State.updCell_term]
@[simp] theorem State.updTime_term (s : State) (f : TimeSt → TimeSt) (hO : State.term s) :
    State.term (State.updTime s f) := by
  exact hO
theorem execOtCheckpoint_term (s : State) (hO : State.term s) :
    ∀ t, (execOtCheckpoint s) = .next t → State.term t := by
  rintro _ ⟨⟩; simp (maxDischargeDepth := 60) +contextual [hO, State.each_term, State.fed_term, State.updCell_term]
theorem execOtShadowWrite_term (s : State) (hO : State.term s) :
    ∀ t, (execOtShadowWrite s) = .next t → State.term t := by
  rintro _ ⟨⟩; simp (maxDischargeDepth := 60) +contextual [hO, State.each_term, State.fed_term, State.updCell_term]
theorem execArchiveWindowEnd_term (s : State) (hO : State.term s) :
    ∀ t, (execArchiveWindowEnd s) = .next t → State.term t := by
  rintro _ ⟨⟩; simp (maxDischargeDepth := 60) [hO]
theorem execCoalescingWindowEnd_term (kind : Nat) (source : Nat) (s : State) (hO : State.term s) :
    ∀ t, (execCoalescingWindowEnd kind source s) = .next t → State.term t := by
  rintro _ ⟨⟩; dsimp only; (repeat' split) <;> simp_all
theorem execDropRecord_term (s : State) (hO : State.term s) :
    ∀ t, (execDropRecord s) = .next t → State.term t := by
  rintro _ ⟨⟩; simp (maxDischargeDepth := 60) [hO]
@[simp] theorem State.lastLine_term (s : State) (seq : Nat) (f : Fsid) (log : Nat) (seg : Nat) (hO : State.term s) :
    State.term (State.lastLine s seq f log seg) := by
  exact hO
theorem execLogSegmentFailure_term (log : Log) (segment : Nat) (s : State) (hO : State.term s) :
    ∀ t, (execLogSegmentFailure log segment s) = .next t → State.term t := by
  rintro _ ⟨⟩; simp (maxDischargeDepth := 60) +contextual [hO, State.each_term, State.fed_term, State.updCell_term]
@[simp] theorem State.setWt_term (s : State) (new : Nat) (source : Nat) (cred : Nat) (session : Nat) (ep : Nat) (cmd : Nat) (hO : State.term s) :
    State.term (State.setWt s new source cred session ep cmd) := by
  simp (maxDischargeDepth := 60) [State.setWt, hO]
theorem execPtpSync_term (offsetUs : Int) (master : PtpMaster) (s : State) (hO : State.term s) :
    ∀ t, (execPtpSync offsetUs master s) = .next t → State.term t := by
  rintro _ ⟨⟩; simp (maxDischargeDepth := 60) +contextual [hO, State.each_term, State.fed_term, State.updCell_term]
theorem execPtpUnlock_term (s : State) (hO : State.term s) :
    ∀ t, (execPtpUnlock s) = .next t → State.term t := by
  rintro _ ⟨⟩; simp (maxDischargeDepth := 60) [hO]
theorem execEscalation_term (fsid : Fsid) (s : State) (hO : State.term s) :
    ∀ t, (execEscalation fsid s) = .next t → State.term t := by
  rintro _ ⟨⟩; simp (maxDischargeDepth := 60) +contextual [hO, State.each_term, State.fed_term, State.updCell_term]
theorem execEscalationWindowExpiry_term (fsid : Fsid) (s : State) (hO : State.term s) :
    ∀ t, (execEscalationWindowExpiry fsid s) = .next t → State.term t := by
  rintro _ ⟨⟩; simp (maxDischargeDepth := 60) [hO]
theorem execLaneLatchOut_term (lane : Lane) (s : State) (hO : State.term s) :
    ∀ t, (execLaneLatchOut lane s) = .next t → State.term t := by
  rintro _ ⟨⟩; simp (maxDischargeDepth := 60) [hO]
theorem execWithdrawalWindowExpiry_term (lane : Lane) (s : State) (hO : State.term s) :
    ∀ t, (execWithdrawalWindowExpiry lane s) = .next t → State.term t := by
  rintro _ ⟨⟩; simp (maxDischargeDepth := 60) [hO]
theorem execSafeCountLimit_term (s : State) (hO : State.term s) :
    ∀ t, (execSafeCountLimit s) = .next t → State.term t := by
  rintro _ ⟨⟩; simp (maxDischargeDepth := 60) [hO]
theorem execSafeCountWindowExpiry_term (s : State) (hO : State.term s) :
    ∀ t, (execSafeCountWindowExpiry s) = .next t → State.term t := by
  rintro _ ⟨⟩; simp (maxDischargeDepth := 60) [hO]
theorem execEventAck_term (lane : Lane) (seq : Nat) (s : State) (hO : State.term s) :
    ∀ t, (execEventAck lane seq s) = .next t → State.term t := by
  rintro _ ⟨⟩; simp (maxDischargeDepth := 60) [hO]
@[simp] theorem State.graceOut_term (s : State) (parent : Nat) (l : Lane) (hO : State.term s) :
    State.term (State.graceOut s parent l) := by
  simp (maxDischargeDepth := 60) [State.graceOut, hO]
theorem execGraceExpiry_term (seq : Nat) (s : State) (hO : State.term s) :
    ∀ t, (execGraceExpiry seq s) = .next t → State.term t := by
  rintro _ ⟨⟩; dsimp only; (repeat' split) <;> simp (maxDischargeDepth := 60) +contextual [hO, State.each_term, State.fed_term, State.updCell_term]
theorem execSettleWindowEnd_term (block : Nat) (pass : Bool) (s : State) (hO : State.term s) :
    ∀ t, (execSettleWindowEnd block pass s) = .next t → State.term t := by
  rintro _ ⟨⟩; (repeat' split) <;> simp (maxDischargeDepth := 60) [hO]
theorem execMfSelfCheck_term (agree : Bool) (illegal : Bool) (conducting : Trio Bool) (s : State) (hO : State.term s) :
    ∀ t, (execMfSelfCheck agree illegal conducting s) = .next t → State.term t := by
  rintro _ ⟨⟩; simp (maxDischargeDepth := 60) +contextual [hO, State.each_term, State.fed_term, State.updCell_term]
theorem execDuoLimit_term (s : State) (hO : State.term s) :
    ∀ t, (execDuoLimit s) = .next t → State.term t := by
  rintro _ ⟨⟩; simp (maxDischargeDepth := 60) [hO]
theorem execHoldLimit_term (lane : Lane) (s : State) (hO : State.term s) :
    ∀ t, (execHoldLimit lane s) = .next t → State.term t := by
  rintro _ ⟨⟩; simp (maxDischargeDepth := 60) [hO]
@[simp] theorem State.updPow_term (s : State) (f : PowerSt → PowerSt) :
    State.term (s.updPow f) ↔ (f s.pow).mod = .terminal := Iff.rfl
@[simp] theorem State.endSpan_term (s : State) (hO : State.term s) :
    State.term (State.endSpan s) := by
  simp (maxDischargeDepth := 60) +contextual [State.endSpan, hO, State.each_term, State.updCell_term]
@[simp] theorem State.archiveCold_term (s : State) (hO : State.term s) :
    State.term (State.archiveCold s) := by
  simp (maxDischargeDepth := 60) [State.archiveCold, hO]
@[simp] theorem State.flush_term (s : State) (hO : State.term s) :
    State.term (State.flush s) := by
  simp (maxDischargeDepth := 60) [State.flush, hO]
@[simp] theorem State.loadImage_term (s : State) (hO : State.term s) :
    State.term (State.loadImage s) := by
  unfold State.loadImage; dsimp only; (repeat' split) <;> simp_all
@[simp] theorem State.bootImage_term (s : State) (hO : State.term s) :
    State.term (State.bootImage s) := by
  simp (maxDischargeDepth := 60) [State.bootImage, hO]
@[simp] theorem State.readOptics_term (s : State) (hO : State.term s) :
    State.term (State.readOptics s) := by
  simp (maxDischargeDepth := 60) +contextual [State.readOptics, hO, State.each_term, State.updCell_term]
@[simp] theorem State.bootChecks_term (s : State) (env : BootEnv) (unfed : Bool) (downOt : Nat) (hO : State.term s) :
    State.term (State.bootChecks s env unfed downOt) := by
  simp (maxDischargeDepth := 60) [State.bootChecks, hO]
@[simp] theorem State.resetBlocks_term (s : State) (power : Bool) (hO : State.term s) :
    State.term (State.resetBlocks s power) := by
  exact hO
@[simp] theorem State.powerTimes_term (s : State) (kaFed : Bool) (offMs : Nat) (hO : State.term s) :
    State.term (State.powerTimes s kaFed offMs) := by
  exact hO
theorem execBootRestart_term (kind : RestartKind) (env : BootEnv) (s : State) (hO : State.term s) :
    ∀ t, (execBootRestart kind env s) = .next t → State.term t := by
  have h : s.pow.mod = .terminal := hO
  rintro _ ⟨⟩; rw [if_neg (by simp [h])]; exact hO
@[simp] theorem State.trySync_term (s : State) (hO : State.term s) :
    State.term (State.trySync s) := by
  simp (maxDischargeDepth := 60) [State.trySync, hO]
@[simp] theorem State.bootFailed_term (s : State) (l : Lane) (hO : State.term s) :
    State.term (State.bootFailed s l) := by
  simp (maxDischargeDepth := 60) [State.bootFailed, hO]
theorem execLaneBootSelfTestDone_term (lane : Lane) (pass : Bool) (s : State) (hO : State.term s) :
    ∀ t, (execLaneBootSelfTestDone lane pass s) = .next t → State.term t := by
  rintro _ ⟨⟩; simp (maxDischargeDepth := 60) +contextual [hO, State.each_term, State.fed_term, State.updCell_term]
theorem execBootSelfTestTimeout_term (lane : Lane) (s : State) (hO : State.term s) :
    ∀ t, (execBootSelfTestTimeout lane s) = .next t → State.term t := by
  rintro _ ⟨⟩; simp (maxDischargeDepth := 60) +contextual [hO, State.each_term, State.fed_term, State.updCell_term]
theorem execSyncTimeout_term (s : State) (hO : State.term s) :
    ∀ t, (execSyncTimeout s) = .next t → State.term t := by
  rintro _ ⟨⟩; simp (maxDischargeDepth := 60) [hO]
theorem execBootTemperatureInRange_term (s : State) (hO : State.term s) :
    ∀ t, (execBootTemperatureInRange s) = .next t → State.term t := by
  rintro _ ⟨⟩; simp (maxDischargeDepth := 60) [hO]
theorem execPowerFailWarning_term (s : State) (hO : State.term s) :
    ∀ t, (execPowerFailWarning s) = .next t → State.term t := by
  rintro _ ⟨⟩; split
  · have h : State.term (s.updPow fun p => { p with pfail := true }).safeActions := by
      apply State.safeActions_term
      exact hO
    dsimp only
    rw [if_pos (by rw [show (s.updPow fun p => { p with pfail := true }).safeActions.pow.mod = .terminal from h]; rfl)]
    exact State.flush_term _ h
  · exact hO
theorem execPowerReturn_term (s : State) (hO : State.term s) :
    ∀ t, (execPowerReturn s) = .next t → State.term t := by
  rintro _ ⟨⟩; simp (maxDischargeDepth := 60) [hO]
theorem execInputLoss_term (second : Bool) (s : State) (hO : State.term s) :
    ∀ t, (execInputLoss second s) = .next t → State.term t := by
  rintro _ ⟨⟩; simp (maxDischargeDepth := 60) +contextual [hO, State.each_term, State.fed_term, State.updCell_term]
theorem execInputRestored_term (second : Bool) (s : State) (hO : State.term s) :
    ∀ t, (execInputRestored second s) = .next t → State.term t := by
  rintro _ ⟨⟩; simp (maxDischargeDepth := 60) [hO]
theorem execAddressPlugPoll_term (plug : Plug) (s : State) (hO : State.term s) :
    ∀ t, (execAddressPlugPoll plug s) = .next t → State.term t := by
  rintro _ ⟨⟩; simp (maxDischargeDepth := 60) +contextual [hO, State.each_term, State.fed_term, State.updCell_term]
theorem execThermalWarning_term (s : State) (hO : State.term s) :
    ∀ t, (execThermalWarning s) = .next t → State.term t := by
  rintro _ ⟨⟩; simp (maxDischargeDepth := 60) +contextual [hO, State.each_term, State.fed_term, State.updCell_term]
theorem execThermalWarningCleared_term (s : State) (hO : State.term s) :
    ∀ t, (execThermalWarningCleared s) = .next t → State.term t := by
  rintro _ ⟨⟩; simp (maxDischargeDepth := 60) [hO]
theorem execThermalTrip_term (s : State) (hO : State.term s) :
    ∀ t, (execThermalTrip s) = .next t → State.term t := by
  rintro _ ⟨⟩; simp (maxDischargeDepth := 60) +contextual [hO, State.each_term, State.fed_term, State.updCell_term]
@[simp] theorem State.discardRestart_term (s : State) (kind : RestartKind) (hO : State.term s) :
    State.term (State.discardRestart s kind) := by
  simp (maxDischargeDepth := 60) [State.discardRestart, hO]
@[simp] theorem State.askRestart_term (s : State) (kind : RestartKind) (hO : State.term s) :
    State.term (State.askRestart s kind) := by
  unfold State.askRestart; split
  · simp (maxDischargeDepth := 60) [hO]
  · exact hO
theorem execResetButtonRelease_term (ms : Nat) (s : State) (hO : State.term s) :
    ∀ t, (execResetButtonRelease ms s) = .next t → State.term t := by
  rintro _ ⟨⟩; simp (maxDischargeDepth := 60) +contextual [hO, State.each_term, State.fed_term, State.updCell_term]
theorem execResetButtonStuck_term (s : State) (hO : State.term s) :
    ∀ t, (execResetButtonStuck s) = .next t → State.term t := by
  rintro _ ⟨⟩; simp (maxDischargeDepth := 60) +contextual [hO, State.each_term, State.fed_term, State.updCell_term]
theorem execButtonContactDisagree_term (s : State) (hO : State.term s) :
    ∀ t, (execButtonContactDisagree s) = .next t → State.term t := by
  rintro _ ⟨⟩; simp (maxDischargeDepth := 60) +contextual [hO, State.each_term, State.fed_term, State.updCell_term]
theorem execButtonReenable_term (s : State) (hO : State.term s) :
    ∀ t, (execButtonReenable s) = .next t → State.term t := by
  rintro _ ⟨⟩; simp (maxDischargeDepth := 60) [hO]
@[simp] theorem State.updMail_term (s : State) (f : MailSt → MailSt) (hO : State.term s) :
    State.term (State.updMail s f) := by
  exact hO
@[simp] theorem State.freeBox_term (s : State) (mb : Nat) (hO : State.term s) :
    State.term (State.freeBox s mb) := by
  simp (maxDischargeDepth := 60) [State.freeBox, hO]
theorem State.claim_term (s : State) (ep : Nat) (mb : Nat) (key : Nat) (hO : State.term s) :
    ∀ t, (State.claim s ep mb key) = some t → State.term t := by
  intro t h2; unfold State.claim at h2; split at h2 <;> simp at h2
  subst h2; simp [hO]
theorem State.release0_term (s : State) (ep : Nat) (mb : Nat) (hO : State.term s) :
    ∀ t, (State.release0 s ep mb) = some t → State.term t := by
  intro t h2; unfold State.release0 at h2; split at h2 <;> simp at h2
  subst h2; simp [hO]
theorem State.ring_term (s : State) (ep : Nat) (mb : Nat) (tag : Nat) (hO : State.term s) :
    ∀ t, (State.ring s ep mb tag) = some t → State.term t := by
  intro t h2; unfold State.ring at h2; dsimp only at h2; (repeat' split at h2) <;> simp at h2 <;> subst h2 <;> simp (maxDischargeDepth := 60) [hO]
theorem State.ack_term (s : State) (ep : Nat) (mb : Nat) (hO : State.term s) :
    ∀ t, (State.ack s ep mb) = some t → State.term t := by
  intro t h2; unfold State.ack at h2; dsimp only at h2; (repeat' split at h2) <;> simp at h2 <;> subst h2 <;> simp (maxDischargeDepth := 60) [hO]
theorem State.ctlWrite_term (s : State) (ep : Nat) (mb : Nat) (off : Nat) (w : Nat) (hO : State.term s) :
    ∀ t, (State.ctlWrite s ep mb off w) = some t → State.term t := by
  intro t h; unfold State.ctlWrite at h; (repeat' split at h) <;> first
    | exact State.claim_term _ _ _ _ hO _ h
    | exact State.release0_term _ _ _ hO _ h
    | exact State.ring_term _ _ _ _ hO _ h
    | exact State.ack_term _ _ _ hO _ h
    | simp at h
@[simp] theorem State.winWrite_term (s : State) (ep : Nat) (addr : Nat) (data : Bytes) (who : Option Nat) (hO : State.term s) :
    State.term (State.winWrite s ep addr data who).2 := by
  unfold State.winWrite; dsimp only; (repeat' split) <;> first
    | exact hO
    | exact State.ctlWrite_term _ _ _ _ _ hO _ ‹_›
    | simp [hO]
@[simp] theorem State.refusedWrite_term (s : State) (st : Nat) (addr : Nat) (ep : Nat) (hO : State.term s) :
    State.term (State.refusedWrite s st addr ep) := by
  simp (maxDischargeDepth := 60) [State.refusedWrite, hO]
theorem State.endpoint_term (s : State) (h : NspHead) (hO : State.term s) :
    ∀ t, (State.endpoint s h) = some t → State.term t.2 := by
  intro t h2; unfold State.endpoint at h2; dsimp only at h2; (repeat' split at h2) <;> simp at h2 <;> subst h2 <;> simp (maxDischargeDepth := 60) [hO]
@[simp] theorem State.useXid_term (s : State) (id : Option Nat) (xid : Nat) (hO : State.term s) :
    State.term (State.useXid s id xid) := by
  unfold State.useXid; split <;> simp (maxDischargeDepth := 60) [hO]
@[simp] theorem State.reply_term (s : State) (r : Reply) (keep : Bool) (hO : State.term s) :
    State.term (State.reply s r keep) := by
  exact hO
@[simp] theorem State.nspRead_term (s : State) (ep : Nat) (h : NspHead) (addr : Nat) (hO : State.term s) :
    State.term (State.nspRead s ep h addr) := by
  simp (maxDischargeDepth := 60) [State.nspRead, hO]
@[simp] theorem State.nspWrite_term (s : State) (ep : Nat) (h : NspHead) (addr : Nat) (data : Bytes) (hO : State.term s) :
    State.term (State.nspWrite s ep h addr data) := by
  simp (maxDischargeDepth := 60) [State.nspWrite, hO]
@[simp] theorem State.nspFrame_term (s : State) (h : NspHead) (addr : Nat) (data : Bytes) (hO : State.term s) :
    State.term (State.nspFrame s h addr data) := by
  unfold State.nspFrame; split
  · exact hO
  · have e := State.endpoint_term _ _ hO _ ‹_›
    dsimp only at e ⊢; (repeat' split) <;> simp [e]
@[simp] theorem State.cspiAlert_term (s : State) (hO : State.term s) :
    State.term (State.cspiAlert s).2 := by
  unfold State.cspiAlert; dsimp only; (repeat' split) <;> simp_all
@[simp] theorem State.cspiBegin_term (s : State) (hO : State.term s) :
    State.term (State.cspiBegin s) := by
  simp (maxDischargeDepth := 60) [State.cspiBegin, hO]
@[simp] theorem State.cspiWrite_term (s : State) (addr : Nat) (data : Bytes) (hO : State.term s) :
    State.term (State.cspiWrite s addr data) := by
  simp (maxDischargeDepth := 60) [State.cspiWrite, hO]
@[simp] theorem State.cspiRead_term (s : State) (addr : Nat) (n : Nat) (hO : State.term s) :
    State.term (State.cspiRead s addr n) := by
  simp (maxDischargeDepth := 60) [State.cspiRead, hO]
@[simp] theorem State.access_term (s : State) (acc : Access) (addr : Nat) (data : Bytes) (hO : State.term s) :
    State.term (State.access s acc addr data) := by
  unfold State.access; (repeat' split) <;> simp (maxDischargeDepth := 60) [hO]
theorem execMailboxAgeTimeout_term (mb : Nat) (s : State) (hO : State.term s) :
    ∀ t, (execMailboxAgeTimeout mb s) = .next t → State.term t := by
  rintro _ ⟨⟩; simp (maxDischargeDepth := 60) [hO]
theorem execSessionIdleTimeout_term (session : Nat) (s : State) (hO : State.term s) :
    ∀ t, (execSessionIdleTimeout session s) = .next t → State.term t := by
  rintro _ ⟨⟩; simp (maxDischargeDepth := 60) [hO]
theorem execAuthTimeout_term (s : State) (hO : State.term s) :
    ∀ t, (execAuthTimeout s) = .next t → State.term t := by
  rintro _ ⟨⟩; simp (maxDischargeDepth := 60) [hO]
@[simp] theorem State.respond_term (s : State) (mb : Nat) (status : Nat) (body : Bytes) (hO : State.term s) :
    State.term (State.respond s mb status body) := by
  exact hO
theorem query_term (n : Nat) (r : List (Nat × Nat)) (f : State → Ctx → Ans) (s : State) (x : Ctx) (hO : s.term) :
    State.term ((query n r f).run s x).2 := hO
@[simp] theorem State.answerBad_term (x0 : Nat) (x1 : State) (hO : State.term x1) :
    State.term (State.answerBad x0 x1) := by
  induction x0 generalizing x1 with
  | zero => exact hO
  | succ n ih => simp only [State.answerBad]; (repeat' split) <;> simp [ih, hO]
@[simp] theorem State.grantFirst_term (s : State) (c : FabricClass) (hO : State.term s) :
    State.term (State.grantFirst s c) := by
  simp (maxDischargeDepth := 60) [State.grantFirst, hO]
@[simp] theorem State.settle_term (s : State) (hO : State.term s) :
    State.term (State.settle s) := by
  simp (maxDischargeDepth := 60) [State.settle, hO]
@[simp] theorem State.hostWrite_term (s : State) (acc : Access) (addr : Nat) (data : Bytes) (hO : State.term s) :
    State.term (State.hostWrite s acc addr data) := by
  simp (maxDischargeDepth := 60) [State.hostWrite, hO]
theorem execMailboxClaim_term (acc : Access) (mb : Nat) (ownkey : Nat) (s : State) (hO : State.term s) :
    ∀ t, (execMailboxClaim acc mb ownkey s) = .next t → State.term t := by
  rintro _ ⟨⟩; simp (maxDischargeDepth := 60) [hO]
theorem execMailboxRelease_term (acc : Access) (mb : Nat) (s : State) (hO : State.term s) :
    ∀ t, (execMailboxRelease acc mb s) = .next t → State.term t := by
  rintro _ ⟨⟩; simp (maxDischargeDepth := 60) [hO]
theorem execDoorbellRing_term (acc : Access) (mb : Nat) (tag : Nat) (s : State) (hO : State.term s) :
    ∀ t, (execDoorbellRing acc mb tag s) = .next t → State.term t := by
  rintro _ ⟨⟩; simp (maxDischargeDepth := 60) [hO]
theorem execDoorbellAck_term (acc : Access) (mb : Nat) (s : State) (hO : State.term s) :
    ∀ t, (execDoorbellAck acc mb s) = .next t → State.term t := by
  rintro _ ⟨⟩; simp (maxDischargeDepth := 60) [hO]
theorem execRegisterWrite_term (acc : Access) (addr : Nat) (data : Bytes) (s : State) (hO : State.term s) :
    ∀ t, (execRegisterWrite acc addr data s) = .next t → State.term t := by
  rintro _ ⟨⟩; simp (maxDischargeDepth := 60) [hO]
@[simp] theorem State.retryBox_term (s : State) (mb : Nat) (hO : State.term s) :
    State.term (State.retryBox s mb) := by
  simp (maxDischargeDepth := 60) [State.retryBox, hO]
theorem execCommandResponseTimeout_term (mb : Nat) (s : State) (hO : State.term s) :
    ∀ t, (execCommandResponseTimeout mb s) = .next t → State.term t := by
  rintro _ ⟨⟩; simp (maxDischargeDepth := 60) [hO]
theorem execFabricGrantTimeout_term (user : FabricUser) (s : State) (hO : State.term s) :
    ∀ t, (execFabricGrantTimeout user s) = .next t → State.term t := by
  rintro _ ⟨⟩; (repeat' split) <;> simp (maxDischargeDepth := 60) [hO]
theorem State.serveCmd_term (s : State) (mb code : Nat) (c : Cmd) (hO : s.term)
    (h : ∀ s x, State.term s → State.term (c.run s x).2) : State.term (s.serveCmd mb code c) := by
  unfold State.serveCmd; dsimp only; (repeat' split) <;> simp (maxDischargeDepth := 60) [h, hO]
@[simp] theorem State.firmwareFault_term (s : State) (f : Fsid) (hO : State.term s) :
    State.term (State.firmwareFault s f) := by
  unfold State.firmwareFault; dsimp only; (repeat' split) <;> simp (maxDischargeDepth := 60) +contextual [hO, State.each_term, State.when_term, State.updCell_term]
theorem execFaultEventCollected_term (fsid : Fsid) (s : State) (hO : State.term s) :
    ∀ t, (execFaultEventCollected fsid s) = .next t → State.term t := by
  rintro _ ⟨⟩; simp (maxDischargeDepth := 60) +contextual [hO, State.each_term, State.fed_term, State.updCell_term]
@[simp] theorem okAns_term (b : Bytes) (s : State) (hO : State.term s) :
    State.term (okAns b s).2 := by
  exact hO
@[simp] theorem noAns_term (st : Nat) (s : State) (hO : State.term s) :
    State.term (noAns st s).2 := by
  exact hO
@[simp] theorem State.accepted_term (s : State) (c : Ctx) (item : Nat) (hO : State.term s) :
    State.term (State.accepted s c item).2 := by
  exact hO
theorem logged_term (f : State → Ctx → Ans × State) (h : ∀ s x, State.term s → State.term (f s x).2) (s : State) (c : Ctx)
    (hO : s.term) : State.term (logged f s c).2 := by
  unfold logged; split <;> simp [noAns, h, hO]
@[simp] theorem State.dropStep_term (s : State) (c : Ctx) (hO : State.term s) :
    State.term (State.dropStep s c) := by
  exact hO
@[simp] theorem State.firstStep_term (s : State) (c : Ctx) (off : Nat) (hO : State.term s) :
    State.term (State.firstStep s c off).2 := by
  exact hO
@[simp] theorem State.secondStep_term (s : State) (c : Ctx) (off : Nat) (window : Bool) (hO : State.term s) :
    State.term (State.secondStep s c off window).2 := by
  exact hO
@[simp] theorem State.ctxChange_term (s : State) (c : Ctx) (kind : Nat) (body : Bytes) (hO : State.term s) :
    State.term (State.ctxChange s c kind body) := by
  simp (maxDischargeDepth := 60) [State.ctxChange, hO]
@[simp] theorem State.newProv_term (s : State) (ep : Nat) (cred : Nat) (hostkey : Bytes) (hO : State.term s) :
    State.term (State.newProv s ep cred hostkey).2 := by
  exact hO
@[simp] theorem runOpen_term (s : State) (c : Ctx) (hO : State.term s) :
    State.term (runOpen s c).2 := by
  unfold runOpen; dsimp only; (repeat' split) <;> simp (maxDischargeDepth := 60) +contextual [hO, State.each_term, State.when_term, State.updCell_term]
theorem execOpenSession_term (mb : Nat) (s : State) (hO : s.term) :
    ∀ t, execOpenSession mb s = .next t → State.term t := by
  rintro _ ⟨⟩; exact State.serveCmd_term _ _ _ _ hO (runOpen_term)
@[simp] theorem runAuth_term (s : State) (c : Ctx) (hO : State.term s) :
    State.term (runAuth s c).2 := by
  unfold runAuth; (repeat' split) <;> simp (maxDischargeDepth := 60) [hO]
theorem execAuth_term (mb : Nat) (s : State) (hO : s.term) :
    ∀ t, execAuth mb s = .next t → State.term t := by
  rintro _ ⟨⟩; exact State.serveCmd_term _ _ _ _ hO (runAuth_term)
theorem execClose_term (mb : Nat) (s : State) (hO : s.term) :
    ∀ t, execClose mb s = .next t → State.term t := by
  rintro _ ⟨⟩; exact State.serveCmd_term _ _ _ _ hO (fun s x h => by dsimp only [cmdClose, opCmd, noAns, okAns]; (repeat' split) <;> simp [h])
theorem execSessionList_term (mb : Nat) (s : State) (hO : s.term) :
    ∀ t, execSessionList mb s = .next t → State.term t := by
  rintro _ ⟨⟩; exact State.serveCmd_term _ _ _ _ hO (query_term _ _ _)
@[simp] theorem runCredAdd_term (s : State) (c : Ctx) (hO : State.term s) :
    State.term (runCredAdd s c).2 := by
  unfold runCredAdd; dsimp only; (repeat' split) <;> simp_all
theorem execCredAdd_term (mb : Nat) (s : State) (hO : s.term) :
    ∀ t, execCredAdd mb s = .next t → State.term t := by
  rintro _ ⟨⟩; exact State.serveCmd_term _ _ _ _ hO (logged_term _ runCredAdd_term)
@[simp] theorem runCredRevoke_term (s : State) (c : Ctx) (hO : State.term s) :
    State.term (runCredRevoke s c).2 := by
  unfold runCredRevoke; dsimp only; (repeat' split) <;> simp (maxDischargeDepth := 60) +contextual [hO, State.each_term, State.when_term, State.updCell_term]
theorem execCredRevoke_term (mb : Nat) (s : State) (hO : s.term) :
    ∀ t, execCredRevoke mb s = .next t → State.term t := by
  rintro _ ⟨⟩; exact State.serveCmd_term _ _ _ _ hO (logged_term _ runCredRevoke_term)
theorem execCredList_term (mb : Nat) (s : State) (hO : s.term) :
    ∀ t, execCredList mb s = .next t → State.term t := by
  rintro _ ⟨⟩; exact State.serveCmd_term _ _ _ _ hO (query_term _ _ _)
theorem execIdentity_term (mb : Nat) (s : State) (hO : s.term) :
    ∀ t, execIdentity mb s = .next t → State.term t := by
  rintro _ ⟨⟩; exact State.serveCmd_term _ _ _ _ hO (query_term _ _ _)
theorem execCycleStatus_term (mb : Nat) (s : State) (hO : s.term) :
    ∀ t, execCycleStatus mb s = .next t → State.term t := by
  rintro _ ⟨⟩; exact State.serveCmd_term _ _ _ _ hO (query_term _ _ _)
theorem execLaneStatus_term (mb : Nat) (s : State) (hO : s.term) :
    ∀ t, execLaneStatus mb s = .next t → State.term t := by
  rintro _ ⟨⟩; exact State.serveCmd_term _ _ _ _ hO (query_term _ _ _)
theorem execInputStatus_term (mb : Nat) (s : State) (hO : s.term) :
    ∀ t, execInputStatus mb s = .next t → State.term t := by
  rintro _ ⟨⟩; exact State.serveCmd_term _ _ _ _ hO (query_term _ _ _)
theorem execOutputStatus_term (mb : Nat) (s : State) (hO : s.term) :
    ∀ t, execOutputStatus mb s = .next t → State.term t := by
  rintro _ ⟨⟩; exact State.serveCmd_term _ _ _ _ hO (query_term _ _ _)
theorem execConnStatus_term (mb : Nat) (s : State) (hO : s.term) :
    ∀ t, execConnStatus mb s = .next t → State.term t := by
  rintro _ ⟨⟩; exact State.serveCmd_term _ _ _ _ hO (query_term _ _ _)
theorem execElementRead_term (mb : Nat) (s : State) (hO : s.term) :
    ∀ t, execElementRead mb s = .next t → State.term t := by
  rintro _ ⟨⟩; exact State.serveCmd_term _ _ _ _ hO (query_term _ _ _)
theorem execRouteRead_term (mb : Nat) (s : State) (hO : s.term) :
    ∀ t, execRouteRead mb s = .next t → State.term t := by
  rintro _ ⟨⟩; exact State.serveCmd_term _ _ _ _ hO (query_term _ _ _)
theorem execTrellisStatus_term (mb : Nat) (s : State) (hO : s.term) :
    ∀ t, execTrellisStatus mb s = .next t → State.term t := by
  rintro _ ⟨⟩; exact State.serveCmd_term _ _ _ _ hO (query_term _ _ _)
theorem execRouteIdent_term (mb : Nat) (s : State) (hO : s.term) :
    ∀ t, execRouteIdent mb s = .next t → State.term t := by
  rintro _ ⟨⟩; exact State.serveCmd_term _ _ _ _ hO (query_term _ _ _)
theorem execImageInfo_term (mb : Nat) (s : State) (hO : s.term) :
    ∀ t, execImageInfo mb s = .next t → State.term t := by
  rintro _ ⟨⟩; exact State.serveCmd_term _ _ _ _ hO (query_term _ _ _)
theorem execPairStatus_term (mb : Nat) (s : State) (hO : s.term) :
    ∀ t, execPairStatus mb s = .next t → State.term t := by
  rintro _ ⟨⟩; exact State.serveCmd_term _ _ _ _ hO (query_term _ _ _)
theorem execFaultStatus_term (mb : Nat) (s : State) (hO : s.term) :
    ∀ t, execFaultStatus mb s = .next t → State.term t := by
  rintro _ ⟨⟩; exact State.serveCmd_term _ _ _ _ hO (query_term _ _ _)
theorem execEscBounds_term (mb : Nat) (s : State) (hO : s.term) :
    ∀ t, execEscBounds mb s = .next t → State.term t := by
  rintro _ ⟨⟩; exact State.serveCmd_term _ _ _ _ hO (query_term _ _ _)
theorem execHedgeList_term (mb : Nat) (s : State) (hO : s.term) :
    ∀ t, execHedgeList mb s = .next t → State.term t := by
  rintro _ ⟨⟩; exact State.serveCmd_term _ _ _ _ hO (query_term _ _ _)
theorem execTimeGet_term (mb : Nat) (s : State) (hO : s.term) :
    ∀ t, execTimeGet mb s = .next t → State.term t := by
  rintro _ ⟨⟩; exact State.serveCmd_term _ _ _ _ hO (query_term _ _ _)
@[simp] theorem State.lcJudge_term (s : State) (target : LcState) (r : CmdRef) (t : Bytes) (hO : State.term s) :
    State.term (State.lcJudge s target r t) := by
  unfold State.lcJudge; dsimp only; (repeat' split) <;> simp_all
@[simp] theorem runLcTransition_term (s : State) (c : Ctx) (hO : State.term s) :
    State.term (runLcTransition s c).2 := by
  unfold runLcTransition; dsimp only; (repeat' split) <;> simp_all
theorem execLcTransition_term (mb : Nat) (s : State) (hO : s.term) :
    ∀ t, execLcTransition mb s = .next t → State.term t := by
  rintro _ ⟨⟩; exact State.serveCmd_term _ _ _ _ hO (logged_term _ runLcTransition_term)
@[simp] theorem runMode_term (s : State) (c : Ctx) (hO : State.term s) :
    State.term (runMode s c).2 := by
  unfold runMode; dsimp only; (repeat' split) <;> simp_all
theorem execMode_term (mb : Nat) (s : State) (hO : s.term) :
    ∀ t, execMode mb s = .next t → State.term t := by
  rintro _ ⟨⟩; exact State.serveCmd_term _ _ _ _ hO (logged_term _ runMode_term)
@[simp] theorem runRestart_term (s : State) (c : Ctx) (hO : State.term s) :
    State.term (runRestart s c).2 := by
  unfold runRestart; dsimp only; (repeat' split) <;> simp (maxDischargeDepth := 60) +contextual [hO, State.each_term, State.when_term, State.updCell_term]
theorem execRestart_term (mb : Nat) (s : State) (hO : s.term) :
    ∀ t, execRestart mb s = .next t → State.term t := by
  rintro _ ⟨⟩; exact State.serveCmd_term _ _ _ _ hO (logged_term _ runRestart_term)
@[simp] theorem runMaint_term (s : State) (c : Ctx) (hO : State.term s) :
    State.term (runMaint s c).2 := by
  unfold runMaint; dsimp only; (repeat' split) <;> simp_all
theorem execMaint_term (mb : Nat) (s : State) (hO : s.term) :
    ∀ t, execMaint mb s = .next t → State.term t := by
  rintro _ ⟨⟩; exact State.serveCmd_term _ _ _ _ hO (logged_term _ runMaint_term)
@[simp] theorem State.updStage_term (s : State) (f : StageSt → StageSt) (hO : State.term s) :
    State.term (State.updStage s f) := by
  exact hO
theorem owned_term (f : State → Ctx → Ans × State) (h : ∀ s x, State.term s → State.term (f s x).2) (s : State) (c : Ctx)
    (hO : s.term) : State.term (owned f s c).2 := by
  unfold owned; split <;> simp [noAns, h, hO]
@[simp] theorem runStageOpen_term (s : State) (c : Ctx) (hO : State.term s) :
    State.term (runStageOpen s c).2 := by
  unfold runStageOpen; (repeat' split) <;> simp (maxDischargeDepth := 60) [hO]
theorem execStageOpen_term (mb : Nat) (s : State) (hO : s.term) :
    ∀ t, execStageOpen mb s = .next t → State.term t := by
  rintro _ ⟨⟩; exact State.serveCmd_term _ _ _ _ hO (logged_term _ runStageOpen_term)
theorem State.stageAll_term (s : State) (x1 : List Bytes) (x2 : Nat) (hO : State.term s) :
    ∀ t, (State.stageAll s x1 x2) = .ok t → State.term t := by
  induction x1 generalizing s x2 with
  | nil => intro t h; simp [State.stageAll] at h; rw [← h]; exact hO
  | cons r rs ih =>
    intro t h; simp only [State.stageAll] at h; split at h
    · exact ih _ _ (by simp [hO]) _ h
    · simp at h
@[simp] theorem State.afterWrite_term (s : State) (hO : State.term s) :
    State.term (State.afterWrite s) := by
  simp (maxDischargeDepth := 60) [State.afterWrite, hO]
@[simp] theorem State.writeEntries_term (s : State) (role : Nat) (rs : List Bytes) (hO : State.term s) :
    State.term (State.writeEntries s role rs).2 := by
  unfold State.writeEntries; split; · exact hO
  split; · exact hO
  split
  · exact hO
  · simp [okAns, State.stageAll_term _ _ _ hO _ ‹_›]
@[simp] theorem runStageWrite_term (s : State) (c : Ctx) (hO : State.term s) :
    State.term (runStageWrite s c).2 := by
  unfold runStageWrite; dsimp only; (repeat' split) <;> simp_all
theorem execStageWrite_term (mb : Nat) (s : State) (hO : s.term) :
    ∀ t, execStageWrite mb s = .next t → State.term t := by
  rintro _ ⟨⟩; exact State.serveCmd_term _ _ _ _ hO (owned_term _ runStageWrite_term)
@[simp] theorem runStageRead_term (s : State) (c : Ctx) (hO : State.term s) :
    State.term (runStageRead s c).2 := by
  unfold runStageRead; dsimp only; (repeat' split) <;> simp_all
theorem execStageRead_term (mb : Nat) (s : State) (hO : s.term) :
    ∀ t, execStageRead mb s = .next t → State.term t := by
  rintro _ ⟨⟩; exact State.serveCmd_term _ _ _ _ hO (owned_term _ runStageRead_term)
@[simp] theorem State.discardFrame_term (s : State) (hO : State.term s) :
    State.term (State.discardFrame s) := by
  simp (maxDischargeDepth := 60) [State.discardFrame, hO]
@[simp] theorem runStageDiscard_term (s : State) (c : Ctx) (hO : State.term s) :
    State.term (runStageDiscard s c).2 := by
  unfold runStageDiscard; split <;> simp (maxDischargeDepth := 60) [hO]
theorem execStageDiscard_term (mb : Nat) (s : State) (hO : s.term) :
    ∀ t, execStageDiscard mb s = .next t → State.term t := by
  rintro _ ⟨⟩; exact State.serveCmd_term _ _ _ _ hO (logged_term _ (owned_term _ runStageDiscard_term))
@[simp] theorem runStageCheck_term (s : State) (c : Ctx) (hO : State.term s) :
    State.term (runStageCheck s c).2 := by
  unfold runStageCheck; split <;> simp (maxDischargeDepth := 60) [hO]
theorem execStageCheck_term (mb : Nat) (s : State) (hO : s.term) :
    ∀ t, execStageCheck mb s = .next t → State.term t := by
  rintro _ ⟨⟩; exact State.serveCmd_term _ _ _ _ hO (logged_term _ (owned_term _ runStageCheck_term))
@[simp] theorem State.acceptApply_term (s : State) (r : CmdRef) (hO : State.term s) :
    State.term (State.acceptApply s r) := by
  simp (maxDischargeDepth := 60) [State.acceptApply, hO]
@[simp] theorem State.applyRec_term (s : State) (c : Ctx) (st : Nat) (hO : State.term s) :
    State.term (State.applyRec s c st) := by
  simp (maxDischargeDepth := 60) [State.applyRec, hO]
@[simp] theorem takeApply_term (s : State) (c : Ctx) (hO : State.term s) :
    State.term (takeApply s c).2 := by
  unfold takeApply; dsimp only; (repeat' split) <;> simp (maxDischargeDepth := 60) +contextual [hO, State.each_term, State.when_term, State.updCell_term]
@[simp] theorem runStageApply_term (s : State) (c : Ctx) (hO : State.term s) :
    State.term (runStageApply s c).2 := by
  unfold runStageApply; split
  · exact logged_term _ (owned_term _ fun s c h => takeApply_term s c h) _ _ hO
  · simp [noAns, hO]
theorem execStageApply_term (mb : Nat) (s : State) (hO : s.term) :
    ∀ t, execStageApply mb s = .next t → State.term t := by
  rintro _ ⟨⟩; exact State.serveCmd_term _ _ _ _ hO (runStageApply_term)
theorem execStageStatus_term (mb : Nat) (s : State) (hO : s.term) :
    ∀ t, execStageStatus mb s = .next t → State.term t := by
  rintro _ ⟨⟩; exact State.serveCmd_term _ _ _ _ hO (query_term _ _ _)
@[simp] theorem State.writeKey_term (s : State) (e : StgEntry) (hO : State.term s) :
    State.term (State.writeKey s e).2 := by
  unfold State.writeKey; (repeat' split) <;> simp (maxDischargeDepth := 60) [hO]
@[simp] theorem runConnKey_term (s : State) (c : Ctx) (hO : State.term s) :
    State.term (runConnKey s c).2 := by
  unfold runConnKey; split <;> simp (maxDischargeDepth := 60) [hO]
theorem execConnKey_term (mb : Nat) (s : State) (hO : s.term) :
    ∀ t, execConnKey mb s = .next t → State.term t := by
  rintro _ ⟨⟩; exact State.serveCmd_term _ _ _ _ hO (owned_term _ runConnKey_term)
@[simp] theorem State.useToken_term (s : State) (c : Ctx) (imgid : Nat) (hO : State.term s) :
    State.term (State.useToken s c imgid) := by
  unfold State.useToken; split <;> simp (maxDischargeDepth := 60) [hO]
@[simp] theorem State.acceptAct_term (s : State) (c : Ctx) (kind : Nat) (old : Nat) (new : Nat) (hO : State.term s) :
    State.term (State.acceptAct s c kind old new) := by
  simp (maxDischargeDepth := 60) [State.acceptAct, hO]
@[simp] theorem State.endOther_term (s : State) (kind : Nat) (hO : State.term s) :
    State.term (State.endOther s kind) := by
  simp (maxDischargeDepth := 60) [State.endOther, hO]
@[simp] theorem State.activateApp_term (s : State) (c : Ctx) (ref : Option CmdRef) (hO : State.term s) :
    State.term (State.activateApp s c ref) := by
  simp (maxDischargeDepth := 60) [State.activateApp, hO]
@[simp] theorem runActivate_term (s : State) (c : Ctx) (hO : State.term s) :
    State.term (runActivate s c).2 := by
  unfold runActivate; dsimp only; (repeat' split) <;> simp_all
theorem execActivate_term (mb : Nat) (s : State) (hO : s.term) :
    ∀ t, execActivate mb s = .next t → State.term t := by
  rintro _ ⟨⟩; exact State.serveCmd_term _ _ _ _ hO (logged_term _ runActivate_term)
@[simp] theorem runUpdOpen_term (s : State) (c : Ctx) (hO : State.term s) :
    State.term (runUpdOpen s c).2 := by
  unfold runUpdOpen; dsimp only; (repeat' split) <;> simp (maxDischargeDepth := 60) +contextual [hO, State.each_term, State.when_term, State.updCell_term]
theorem execUpdOpen_term (mb : Nat) (s : State) (hO : s.term) :
    ∀ t, execUpdOpen mb s = .next t → State.term t := by
  rintro _ ⟨⟩; exact State.serveCmd_term _ _ _ _ hO (logged_term _ runUpdOpen_term)
theorem withUpd_term (f : UpdSess → State → Ctx → Ans × State)
    (h : ∀ u s x, State.term s → State.term (f u s x).2) (s : State) (c : Ctx) (hO : s.term) :
    State.term (withUpd f s c).2 := by
  unfold withUpd; dsimp only; (repeat' split) <;> simp [noAns, h, hO]
@[simp] theorem State.putSess_term (s : State) (u : UpdSess) (hO : State.term s) :
    State.term (State.putSess s u) := by
  exact hO
@[simp] theorem takePart_term (u : UpdSess) (s : State) (c : Ctx) (hO : State.term s) :
    State.term (takePart u s c).2 := by
  unfold takePart; dsimp only; (repeat' split) <;> simp (maxDischargeDepth := 60) +contextual [hO, State.each_term, State.when_term, State.updCell_term]
theorem execUpdData_term (mb : Nat) (s : State) (hO : s.term) :
    ∀ t, execUpdData mb s = .next t → State.term t := by
  rintro _ ⟨⟩; exact State.serveCmd_term _ _ _ _ hO (withUpd_term _ takePart_term)
@[simp] theorem askVerify_term (u : UpdSess) (s : State) (c : Ctx) (hO : State.term s) :
    State.term (askVerify u s c).2 := by
  unfold askVerify; dsimp only; (repeat' split) <;> simp_all
theorem execUpdVerify_term (mb : Nat) (s : State) (hO : s.term) :
    ∀ t, execUpdVerify mb s = .next t → State.term t := by
  rintro _ ⟨⟩; exact State.serveCmd_term _ _ _ _ hO (logged_term _ (withUpd_term _ askVerify_term))
@[simp] theorem State.kernelDown_term (s : State) (c : Ctx) (b : Bool) (e : Envelope) (hO : State.term s) :
    State.term (State.kernelDown s c b e) := by
  simp (maxDischargeDepth := 60) [State.kernelDown, hO]
@[simp] theorem State.kernelTurns_term (s : State) (c : Ctx) (b : Bool) (e : Envelope) (hO : State.term s) :
    State.term (State.kernelTurns s c b e) := by
  simp (maxDischargeDepth := 60) [State.kernelTurns, hO]
@[simp] theorem runKernel_term (s : State) (c : Ctx) (hO : State.term s) :
    State.term (runKernel s c).2 := by
  unfold runKernel; dsimp only; (repeat' split) <;> simp_all
@[simp] theorem runFirmware_term (s : State) (c : Ctx) (hO : State.term s) :
    State.term (runFirmware s c).2 := by
  unfold runFirmware; split <;> simp (maxDischargeDepth := 60) [hO]
@[simp] theorem runAppImage_term (s : State) (c : Ctx) (hO : State.term s) :
    State.term (runAppImage s c).2 := by
  unfold runAppImage; dsimp only; (repeat' split) <;> simp_all
@[simp] theorem askActivate_term (u : UpdSess) (s : State) (c : Ctx) (hO : State.term s) :
    State.term (askActivate u s c).2 := by
  unfold askActivate; (repeat' split) <;> simp (maxDischargeDepth := 60) [hO]
theorem execUpdActivate_term (mb : Nat) (s : State) (hO : s.term) :
    ∀ t, execUpdActivate mb s = .next t → State.term t := by
  rintro _ ⟨⟩; exact State.serveCmd_term _ _ _ _ hO (logged_term _ (withUpd_term _ askActivate_term))
theorem execUpdAbort_term (mb : Nat) (s : State) (hO : s.term) :
    ∀ t, execUpdAbort mb s = .next t → State.term t := by
  rintro _ ⟨⟩; exact State.serveCmd_term _ _ _ _ hO (logged_term _ (withUpd_term _ fun u s x h => by simp [okAns, h]))
theorem execUpdStatus_term (mb : Nat) (s : State) (hO : s.term) :
    ∀ t, execUpdStatus mb s = .next t → State.term t := by
  rintro _ ⟨⟩; exact State.serveCmd_term _ _ _ _ hO (query_term _ _ _)
@[simp] theorem runRecOpen_term (s : State) (c : Ctx) (hO : State.term s) :
    State.term (runRecOpen s c).2 := by
  unfold runRecOpen; split <;> simp (maxDischargeDepth := 60) [hO]
theorem execRecOpen_term (mb : Nat) (s : State) (hO : s.term) :
    ∀ t, execRecOpen mb s = .next t → State.term t := by
  rintro _ ⟨⟩; exact State.serveCmd_term _ _ _ _ hO (runRecOpen_term)
@[simp] theorem State.nextBatch_term (s : State) (k : Cursor) (maxBytes : Nat) (hO : State.term s) :
    State.term (State.nextBatch s k maxBytes).2 := by
  exact hO
@[simp] theorem runRecNext_term (s : State) (c : Ctx) (hO : State.term s) :
    State.term (runRecNext s c).2 := by
  unfold runRecNext; dsimp only; (repeat' split) <;> simp_all
theorem execRecNext_term (mb : Nat) (s : State) (hO : s.term) :
    ∀ t, execRecNext mb s = .next t → State.term t := by
  rintro _ ⟨⟩; exact State.serveCmd_term _ _ _ _ hO (runRecNext_term)
theorem execRecClose_term (mb : Nat) (s : State) (hO : s.term) :
    ∀ t, execRecClose mb s = .next t → State.term t := by
  rintro _ ⟨⟩; exact State.serveCmd_term _ _ _ _ hO (fun s x h => by dsimp only [cmdRecClose, opCmd, noAns, okAns]; (repeat' split) <;> simp [h])
theorem execRecCounters_term (mb : Nat) (s : State) (hO : s.term) :
    ∀ t, execRecCounters mb s = .next t → State.term t := by
  rintro _ ⟨⟩; exact State.serveCmd_term _ _ _ _ hO (query_term _ _ _)
@[simp] theorem State.startTest_term (s : State) (t : TestSt) (hO : State.term s) :
    State.term (State.startTest s t) := hO
@[simp] theorem runTestRun_term (s : State) (c : Ctx) (hO : State.term s) :
    State.term (runTestRun s c).2 := by
  unfold runTestRun; dsimp only; (repeat' split) <;> simp_all (maxDischargeDepth := 60)
theorem execTestRun_term (mb : Nat) (s : State) (hO : s.term) :
    ∀ t, execTestRun mb s = .next t → State.term t := by
  rintro _ ⟨⟩; exact State.serveCmd_term _ _ _ _ hO (logged_term _ runTestRun_term)
theorem execTestList_term (mb : Nat) (s : State) (hO : s.term) :
    ∀ t, execTestList mb s = .next t → State.term t := by
  rintro _ ⟨⟩; exact State.serveCmd_term _ _ _ _ hO (query_term _ _ _)
@[simp] theorem runTestAbort_term (s : State) (c : Ctx) (hO : State.term s) :
    State.term (runTestAbort s c).2 := by
  unfold runTestAbort; split <;> simp (maxDischargeDepth := 60) [hO]
theorem execTestAbort_term (mb : Nat) (s : State) (hO : s.term) :
    ∀ t, execTestAbort mb s = .next t → State.term t := by
  rintro _ ⟨⟩; exact State.serveCmd_term _ _ _ _ hO (logged_term _ runTestAbort_term)
@[simp] theorem State.beginRelease_term (s : State) (kind : Nat) (index : Nat) (r : CmdRef) (hO : State.term s) :
    State.term (State.beginRelease s kind index r) := by
  unfold State.beginRelease; dsimp only; (repeat' split) <;> simp (maxDischargeDepth := 60) +contextual [hO, State.each_term, State.when_term, State.updCell_term]
@[simp] theorem runHedgeRelease_term (s : State) (c : Ctx) (hO : State.term s) :
    State.term (runHedgeRelease s c).2 := by
  unfold runHedgeRelease; dsimp only; (repeat' split) <;> simp_all
theorem execHedgeRelease_term (mb : Nat) (s : State) (hO : s.term) :
    ∀ t, execHedgeRelease mb s = .next t → State.term t := by
  rintro _ ⟨⟩; exact State.serveCmd_term _ _ _ _ hO (logged_term _ runHedgeRelease_term)
@[simp] theorem State.queueOp_term (s : State) (c : Ctx) (item : Nat) (k : OpKind) (hO : State.term s) :
    State.term (State.queueOp s c item k).2 := by
  simp (maxDischargeDepth := 60) [State.queueOp, hO]
theorem execRouteSet_term (mb : Nat) (s : State) (hO : s.term) :
    ∀ t, execRouteSet mb s = .next t → State.term t := by
  rintro _ ⟨⟩; exact State.serveCmd_term _ _ _ _ hO (fun s x h => by dsimp only [cmdRouteSet, opCmd, noAns, okAns]; (repeat' split) <;> simp [h])
theorem execRouteCancel_term (mb : Nat) (s : State) (hO : s.term) :
    ∀ t, execRouteCancel mb s = .next t → State.term t := by
  rintro _ ⟨⟩; exact State.serveCmd_term _ _ _ _ hO (fun s x h => by dsimp only [cmdRouteCancel, opCmd, noAns, okAns]; (repeat' split) <;> simp [h])
theorem execAutoSet_term (mb : Nat) (s : State) (hO : s.term) :
    ∀ t, execAutoSet mb s = .next t → State.term t := by
  rintro _ ⟨⟩; exact State.serveCmd_term _ _ _ _ hO (fun s x h => by dsimp only [cmdAutoSet, opCmd, noAns, okAns]; (repeat' split) <;> simp [h])
theorem execTrigArm_term (mb : Nat) (s : State) (hO : s.term) :
    ∀ t, execTrigArm mb s = .next t → State.term t := by
  rintro _ ⟨⟩; exact State.serveCmd_term _ _ _ _ hO (fun s x h => by dsimp only [cmdTrigArm, opCmd, noAns, okAns]; (repeat' split) <;> simp [h])
theorem execKeyRelease_term (mb : Nat) (s : State) (hO : s.term) :
    ∀ t, execKeyRelease mb s = .next t → State.term t := by
  rintro _ ⟨⟩; exact State.serveCmd_term _ _ _ _ hO (fun s x h => by dsimp only [cmdKeyRelease, opCmd, noAns, okAns]; (repeat' split) <;> simp [h])
@[simp] theorem State.secondOp_term (s : State) (c : Ctx) (window : Bool) (k : OpKind) (hO : State.term s) :
    State.term (State.secondOp s c window k).2 := by
  unfold State.secondOp; dsimp only; (repeat' split) <;> simp_all
@[simp] theorem runEmergRelease_term (s : State) (c : Ctx) (hO : State.term s) :
    State.term (runEmergRelease s c).2 := by
  unfold runEmergRelease; dsimp only; (repeat' split) <;> simp_all
theorem execEmergRelease_term (mb : Nat) (s : State) (hO : s.term) :
    ∀ t, execEmergRelease mb s = .next t → State.term t := by
  rintro _ ⟨⟩; exact State.serveCmd_term _ _ _ _ hO (runEmergRelease_term)
@[simp] theorem runAxleReset_term (s : State) (c : Ctx) (hO : State.term s) :
    State.term (runAxleReset s c).2 := by
  unfold runAxleReset; (repeat' split) <;> simp (maxDischargeDepth := 60) [hO]
theorem execAxleReset_term (mb : Nat) (s : State) (hO : s.term) :
    ∀ t, execAxleReset mb s = .next t → State.term t := by
  rintro _ ⟨⟩; exact State.serveCmd_term _ _ _ _ hO (runAxleReset_term)
@[simp] theorem runTimeSet_term (s : State) (c : Ctx) (hO : State.term s) :
    State.term (runTimeSet s c).2 := by
  unfold runTimeSet; dsimp only; (repeat' split) <;> simp (maxDischargeDepth := 60) +contextual [hO, State.each_term, State.when_term, State.updCell_term]
theorem execTimeSet_term (mb : Nat) (s : State) (hO : s.term) :
    ∀ t, execTimeSet mb s = .next t → State.term t := by
  rintro _ ⟨⟩; exact State.serveCmd_term _ _ _ _ hO (logged_term _ runTimeSet_term)
@[simp] theorem runTimeSource_term (s : State) (c : Ctx) (hO : State.term s) :
    State.term (runTimeSource s c).2 := by
  unfold runTimeSource; dsimp only; (repeat' split) <;> simp (maxDischargeDepth := 60) +contextual [hO, State.each_term, State.when_term, State.updCell_term]
theorem execTimeSource_term (mb : Nat) (s : State) (hO : s.term) :
    ∀ t, execTimeSource mb s = .next t → State.term t := by
  rintro _ ⟨⟩; exact State.serveCmd_term _ _ _ _ hO (logged_term _ runTimeSource_term)
@[simp] theorem runHandover_term (s : State) (c : Ctx) (hO : State.term s) :
    State.term (runHandover s c).2 := by
  unfold runHandover; split <;> simp (maxDischargeDepth := 60) [hO]
theorem execHandover_term (mb : Nat) (s : State) (hO : s.term) :
    ∀ t, execHandover mb s = .next t → State.term t := by
  rintro _ ⟨⟩; exact State.serveCmd_term _ _ _ _ hO (logged_term _ runHandover_term)
@[simp] theorem runColdAssume_term (s : State) (c : Ctx) (hO : State.term s) :
    State.term (runColdAssume s c).2 := by
  unfold runColdAssume; dsimp only; (repeat' split) <;> simp (maxDischargeDepth := 60) +contextual [hO, State.each_term, State.when_term, State.updCell_term]
theorem execColdAssume_term (mb : Nat) (s : State) (hO : s.term) :
    ∀ t, execColdAssume mb s = .next t → State.term t := by
  rintro _ ⟨⟩; exact State.serveCmd_term _ _ _ _ hO (logged_term _ runColdAssume_term)
theorem execSbStatus_term (mb : Nat) (s : State) (hO : s.term) :
    ∀ t, execSbStatus mb s = .next t → State.term t := by
  rintro _ ⟨⟩; exact State.serveCmd_term _ _ _ _ hO (query_term _ _ _)
theorem execSbErrlog_term (mb : Nat) (s : State) (hO : s.term) :
    ∀ t, execSbErrlog mb s = .next t → State.term t := by
  rintro _ ⟨⟩; exact State.serveCmd_term _ _ _ _ hO (query_term _ _ _)
theorem execSbErrclr_term (mb : Nat) (s : State) (hO : s.term) :
    ∀ t, execSbErrclr mb s = .next t → State.term t := by
  rintro _ ⟨⟩; exact State.serveCmd_term _ _ _ _ hO (fun s x h => by dsimp only [cmdSbErrclr, opCmd, noAns, okAns]; (repeat' split) <;> simp [h])
@[simp] theorem State.closeWindow_term (s : State) (n : Nat) (hO : State.term s) :
    State.term (State.closeWindow s n) := by
  simp (maxDischargeDepth := 60) +contextual [State.closeWindow, hO, State.each_term, State.updCell_term]
@[simp] theorem runWindowSet_term (s : State) (c : Ctx) (hO : State.term s) :
    State.term (runWindowSet s c).2 := by
  unfold runWindowSet; dsimp only; (repeat' split) <;> simp (maxDischargeDepth := 60) +contextual [hO, State.each_term, State.when_term, State.updCell_term]
theorem execWindowSet_term (mb : Nat) (s : State) (hO : s.term) :
    ∀ t, execWindowSet mb s = .next t → State.term t := by
  rintro _ ⟨⟩; exact State.serveCmd_term _ _ _ _ hO (logged_term _ runWindowSet_term)
@[simp] theorem runTunnelSet_term (s : State) (c : Ctx) (hO : State.term s) :
    State.term (runTunnelSet s c).2 := by
  unfold runTunnelSet; dsimp only; (repeat' split) <;> simp (maxDischargeDepth := 60) +contextual [hO, State.each_term, State.when_term, State.updCell_term]
theorem execTunnelSet_term (mb : Nat) (s : State) (hO : s.term) :
    ∀ t, execTunnelSet mb s = .next t → State.term t := by
  rintro _ ⟨⟩; exact State.serveCmd_term _ _ _ _ hO (logged_term _ runTunnelSet_term)
theorem execTunnelStatus_term (mb : Nat) (s : State) (hO : s.term) :
    ∀ t, execTunnelStatus mb s = .next t → State.term t := by
  rintro _ ⟨⟩; exact State.serveCmd_term _ _ _ _ hO (query_term _ _ _)
@[simp] theorem State.queueForce_term (s : State) (c : Ctx) (f : ForceCmd) (hO : State.term s) :
    State.term (State.queueForce s c f).2 := by
  simp (maxDischargeDepth := 60) [State.queueForce, hO]
@[simp] theorem runForceSet_term (s : State) (c : Ctx) (hO : State.term s) :
    State.term (runForceSet s c).2 := by
  unfold runForceSet; dsimp only; (repeat' split) <;> simp_all
theorem execForceSet_term (mb : Nat) (s : State) (hO : s.term) :
    ∀ t, execForceSet mb s = .next t → State.term t := by
  rintro _ ⟨⟩; exact State.serveCmd_term _ _ _ _ hO (runForceSet_term)
@[simp] theorem runForceClear_term (s : State) (c : Ctx) (hO : State.term s) :
    State.term (runForceClear s c).2 := by
  unfold runForceClear; dsimp only; (repeat' split) <;> simp_all
theorem execForceClear_term (mb : Nat) (s : State) (hO : s.term) :
    ∀ t, execForceClear mb s = .next t → State.term t := by
  rintro _ ⟨⟩; exact State.serveCmd_term _ _ _ _ hO (logged_term _ runForceClear_term)
theorem execForceList_term (mb : Nat) (s : State) (hO : s.term) :
    ∀ t, execForceList mb s = .next t → State.term t := by
  rintro _ ⟨⟩; exact State.serveCmd_term _ _ _ _ hO (query_term _ _ _)
theorem execSwitchForwarding_term (net : Net) (port2 : Bool) (f : Frame) (s : State) (hO : State.term s) :
    ∀ t, (execSwitchForwarding net port2 f s) = .next t → State.term t := by
  rintro _ ⟨⟩; simp (maxDischargeDepth := 60) [hO]
theorem execLearnedAddressAgeing_term (net : Net) (mac : Nat) (s : State) (hO : State.term s) :
    ∀ t, (execLearnedAddressAgeing net mac s) = .next t → State.term t := by
  rintro _ ⟨⟩; simp (maxDischargeDepth := 60) [hO]
theorem execEthernetLinkChange_term (net : Net) (port2 : Bool) (up : Bool) (s : State) (hO : State.term s) :
    ∀ t, (execEthernetLinkChange net port2 up s) = .next t → State.term t := by
  rintro _ ⟨⟩; simp (maxDischargeDepth := 60) [hO]
@[simp] theorem State.ringSend_term (s : State) (n : Net) (kind : Nat) (hO : State.term s) :
    State.term (State.ringSend s n kind) := by
  exact hO
theorem execRingtestSend_term (net : Net) (s : State) (hO : State.term s) :
    ∀ t, (execRingtestSend net s) = .next t → State.term t := by
  rintro _ ⟨⟩; simp (maxDischargeDepth := 60) [hO]
theorem execRingtestReceived_term (net : Net) (port2 : Bool) (f : Frame) (s : State) (hO : State.term s) :
    ∀ t, (execRingtestReceived net port2 f s) = .next t → State.term t := by
  rintro _ ⟨⟩; simp (maxDischargeDepth := 60) [hO]
theorem execRingBreak_term (net : Net) (s : State) (hO : State.term s) :
    ∀ t, (execRingBreak net s) = .next t → State.term t := by
  rintro _ ⟨⟩; simp (maxDischargeDepth := 60) [hO]
theorem execRingClose_term (net : Net) (s : State) (hO : State.term s) :
    ∀ t, (execRingClose net s) = .next t → State.term t := by
  rintro _ ⟨⟩; simp (maxDischargeDepth := 60) [hO]
@[simp] theorem State.clearOut_term (s : State) (hO : State.term s) :
    State.term (State.clearOut s) := by
  exact hO
@[simp] theorem State.tickCells_term (s : State) (hO : State.term s) :
    State.term (State.tickCells s) := by
  simp (maxDischargeDepth := 60) +contextual [State.tickCells, hO, State.each_term, State.updCell_term]
@[simp] theorem State.tickCycle_term (s : State) (hO : State.term s) :
    State.term (State.tickCycle s) := by
  exact hO
@[simp] theorem State.tickRecs_term (s : State) (hO : State.term s) :
    State.term (State.tickRecs s) := by
  simp (maxDischargeDepth := 60) [State.tickRecs, hO]
@[simp] theorem State.restartFw_term (s : State) (hO : State.term s) :
    State.term (State.restartFw s) := by
  simp (maxDischargeDepth := 60) [State.restartFw, hO]
@[simp] theorem tick_term (s : State) (hO : State.term s) :
    State.term (tick s) := by
  simp (maxDischargeDepth := 60) [tick, hO]
@[simp] theorem State.withFetchWord_term (s : State) (nbits : Nat) (w : Nat) (hO : State.term s) :
    State.term (State.withFetchWord s nbits w) := by
  exact hO
end Sys2Proof.Machine
end

