-- ==== Sys2Proof/WellFormed.lean ====
section
/-! DEFINITION. Which commands are well formed: every operand inside the range that the manual gives the thing it
names (a mailbox, a cell, a bank, a field of a frame). A command's meaning is total, and does not rest on these checks. -/

namespace Sys2Proof

/-! ### Widths of fields -/

/-- Does a number fit a field of w bits? -/
def fits (w n : Nat) : Bool := n < 2 ^ w

/-- The five fields of a fault source ID (01 R18). -/
def Fsid.wf (f : Fsid) : Bool :=
  fits 3 f.level && fits 3 f.region && fits 6 f.block && fits 12 f.cell && fits 8 f.det

/-- The fields of a GVT (08 R231); LEN may be wrong, and the receiver then refuses the copy. -/
def Gvt.wf (g : Gvt) : Bool :=
  fits 4 g.ver && fits 4 g.typ && fits 8 g.conn && fits 16 g.epoch && fits 16 g.alive && fits 32 g.seq &&
  fits 48 g.stampMs && fits 16 g.stampUs && fits 32 g.serial && fits 16 g.len && g.payload.length ≤ 1500 &&
  (g.macv.isEmpty || g.macv.length == 8) && fits 32 g.sc1 && fits 32 g.sc2

/-- The IPv4 and UDP fields of a frame (08 R230). -/
def UdpHead.wf (h : UdpHead) : Bool :=
  fits 32 h.srcIp && fits 32 h.dstIp && fits 8 h.ttl && fits 16 h.sport && fits 16 h.dport && fits 16 h.csum

/-- A frame: 12 bits of VLAN, 3 of priority, 48 of each address (08 R230). -/
def Frame.wf (f : Frame) : Bool :=
  fits 12 f.vid && fits 3 f.prio && fits 48 f.srcMac && fits 48 f.dstMac && f.gvt.wf &&
  (match f.carriage with
    | .raw t => fits 16 t
    | .udp h => h.wf
    | .other t d => fits 16 t && d.length ≤ 1500)

/-- An NSP header (12 R338) with an origin; a tag is 16 bytes where FLAGS [0] says there is one. -/
def NspHead.wf (h : NspHead) : Bool :=
  fits 32 h.ip && fits 16 h.port && fits 32 h.dst && fits 16 h.dport && fits 16 h.magic && fits 8 h.ver && fits 8 h.op && fits 32 h.xid &&
  fits 16 h.dlen && fits 8 h.nstat && fits 32 h.nsess && h.tag.length ≤ 16

def Access.wf : Access → Bool
  | .cspi => true
  | .cspiRead n => 1 ≤ n && n ≤ 4096
  | .nsp h => h.wf

/-- Does an access carry data to write? -/
def Access.writes : Access → Bool
  | .cspi => true
  | .cspiRead _ => false
  | .nsp h => h.op != 1

/-- A vote form (05 R150): a directory of at most 255 items, payloads of at most 1,024 bytes; 24 reserved bytes at 0x028. -/
def VoteForm.wf (f : VoteForm) : Bool :=
  fits 8 f.mode && fits 8 f.bank && fits 8 f.flags && f.nconn ≤ 255 && fits 64 f.cyc && fits 64 f.img &&
  fits 64 f.digest && fits 192 f.resv && fits 16 f.resvHead && fits 16 f.driveHigh && fits 32 f.resvDir &&
  f.conns.length ≤ 255 &&
  f.conns.all (fun c => c.conn ≤ 255 && c.payload.length ≤ 1024 && fits 16 c.dirHigh && c.pad.length ≤ 7)

/-- The trailer's fields (05 R153): the view is three lane state codes, DIGPART0 to DIGPART7 are of 64 bits. -/
def Trailer.wf (t : Trailer) : Bool :=
  fits 32 t.ticks && fits 32 t.comp && Lane.all.all (fun l => t.view.get l ≤ 3) && t.digparts.length == 8 &&
  t.digparts.all (fits 64)

def FormIn.wf : FormIn → Bool
  | .missing => true
  | .own _ _ => true
  | .sent _ f t _ _ => f.wf && t.wf

/-- The length of a span-bridge transfer: 4 to 256 bytes, a multiple of 4 (13 R366, BLEN). -/
def spanLen (n : Nat) : Bool := 4 ≤ n && n ≤ 256 && n % 4 == 0

/-- A transfer of a lane in one of 64 windows (13 R363, R374). -/
def LaneTransfer.wf (t : LaneTransfer) : Bool :=
  t.win < 64 && fits 32 t.off &&
  (match t.op with
    | .read n => spanLen n
    | .write d => spanLen d.length)

/-- The µs of a start lie within its ms of OT; a lane's comparator reports slices 0 to 15 of each of 17 tokens (05 R144). -/
def StartEnv.wf (e : StartEnv) : Bool :=
  e.us < 1000 && Lane.all.all fun l => (e.cmp.get l).all fun ts => ts.length == 17 && ts.all fun xs => xs.all (· < 16)

def cellNo (n : Nat) : Bool := n < Config.nCells
def bankNo (n : Nat) : Bool := n < 6
def mboxNo (n : Nat) : Bool := n < 16
def connNo (n : Nat) : Bool := 1 ≤ n && n ≤ Config.nConns
def elemNo (n : Nat) : Bool := n < Config.maxElems
def routeNo (n : Nat) : Bool := n < Config.maxRoutes
def winNo (n : Nat) : Bool := n < 64
def tunnelNo (n : Nat) : Bool := n < 16

/-- A span-bridge transfer: a window, an offset of 32 bits, a length (13 R363, R366). -/
def spanWf (win off len : Nat) : Bool := winNo win && fits 32 off && spanLen len

/-- The health report (09 R268). -/
def Health.wf (h : Health) : Bool :=
  fits 8 h.pstate && fits 16 h.epoch && fits 64 h.pcyc && fits 64 h.msdig && fits 64 h.outdig && fits 64 h.imgid

def OpKind.wf : OpKind → Bool
  | .routeSet r => routeNo r
  | .routeCancel r => routeNo r
  | .autoSet r _ => routeNo r
  | .trigArm r => routeNo r
  | .keyRelease e => elemNo e
  | .emergRelease r => routeNo r
  | .axleArm e => elemNo e
  | .axleReset e => elemNo e

def CmdFwd.wf : CmdFwd → Bool
  | .op c => c.kind.wf
  | .force c => fits 8 c.fkind
  | .apply n => fits 32 n
  | .levelReady => true

/-- PSTART (09 R265). -/
def PStart.wf (m : PStart) : Bool := fits 64 m.pcyc && m.ops.all fun c => c.kind.wf

/-- One mirror set block is numbered in 16 bits (09 R265). -/
def MBlock.wf (m : MBlock) : Bool := fits 64 m.pcyc && fits 16 m.index

def MClose.wf (m : MClose) : Bool := fits 64 m.pcyc && fits 16 m.blocks && fits 64 m.msdig

/-- One FSV for each bank (15 R412). -/
def Quantities.wf (q : Quantities) : Bool := q.fsv.length ≤ 6

/-- Filter samples, as many as the cell's TFILT asks for (06 R182); at most 256. -/
def samplesWf (xs : List Bool) : Bool := !xs.isEmpty && xs.length ≤ 256

/-! ### Commands -/

/-- Is a command well formed? (log 2, DESIGN CHOICE). -/
def Instr.wf : Instr → Bool
  | .openSession mb => mboxNo mb
  | .auth mb => mboxNo mb
  | .close mb => mboxNo mb
  | .sessionList mb => mboxNo mb
  | .credAdd mb => mboxNo mb
  | .credRevoke mb => mboxNo mb
  | .credList mb => mboxNo mb
  | .identity mb => mboxNo mb
  | .cycleStatus mb => mboxNo mb
  | .laneStatus mb => mboxNo mb
  | .inputStatus mb => mboxNo mb
  | .outputStatus mb => mboxNo mb
  | .connStatus mb => mboxNo mb
  | .elementRead mb => mboxNo mb
  | .routeRead mb => mboxNo mb
  | .trellisStatus mb => mboxNo mb
  | .routeIdent mb => mboxNo mb
  | .lcTransition mb => mboxNo mb
  | .mode mb => mboxNo mb
  | .restart mb => mboxNo mb
  | .maint mb => mboxNo mb
  | .stageOpen mb => mboxNo mb
  | .stageWrite mb => mboxNo mb
  | .stageRead mb => mboxNo mb
  | .stageDiscard mb => mboxNo mb
  | .stageCheck mb => mboxNo mb
  | .stageApply mb => mboxNo mb
  | .stageStatus mb => mboxNo mb
  | .connKey mb => mboxNo mb
  | .imageInfo mb => mboxNo mb
  | .activate mb => mboxNo mb
  | .updOpen mb => mboxNo mb
  | .updData mb => mboxNo mb
  | .updVerify mb => mboxNo mb
  | .updActivate mb => mboxNo mb
  | .updAbort mb => mboxNo mb
  | .updStatus mb => mboxNo mb
  | .recOpen mb => mboxNo mb
  | .recNext mb => mboxNo mb
  | .recClose mb => mboxNo mb
  | .recCounters mb => mboxNo mb
  | .testRun mb => mboxNo mb
  | .testList mb => mboxNo mb
  | .testAbort mb => mboxNo mb
  | .hedgeRelease mb => mboxNo mb
  | .faultStatus mb => mboxNo mb
  | .escBounds mb => mboxNo mb
  | .hedgeList mb => mboxNo mb
  | .routeSet mb => mboxNo mb
  | .routeCancel mb => mboxNo mb
  | .autoSet mb => mboxNo mb
  | .trigArm mb => mboxNo mb
  | .keyRelease mb => mboxNo mb
  | .emergRelease mb => mboxNo mb
  | .axleReset mb => mboxNo mb
  | .timeGet mb => mboxNo mb
  | .timeSet mb => mboxNo mb
  | .timeSource mb => mboxNo mb
  | .pairStatus mb => mboxNo mb
  | .handover mb => mboxNo mb
  | .coldAssume mb => mboxNo mb
  | .sbStatus mb => mboxNo mb
  | .sbErrlog mb => mboxNo mb
  | .sbErrclr mb => mboxNo mb
  | .windowSet mb => mboxNo mb
  | .tunnelSet mb => mboxNo mb
  | .tunnelStatus mb => mboxNo mb
  | .forceSet mb => mboxNo mb
  | .forceClear mb => mboxNo mb
  | .forceList mb => mboxNo mb
  | .mailboxClaim acc mb key => acc.wf && acc.writes && mboxNo mb && fits 16 key
  | .mailboxRelease acc mb => acc.wf && mboxNo mb
  | .doorbellRing acc mb tag => acc.wf && acc.writes && mboxNo mb && fits 16 tag
  | .doorbellAck acc mb => acc.wf && acc.writes && mboxNo mb
  | .registerWrite acc addr data =>
    acc.wf && fits 32 addr && (if acc.writes then 1 ≤ data.length && data.length ≤ 4096 else data.isEmpty)
  | .commandResponseTimeout mb => mboxNo mb
  | .mailboxAgeTimeout mb => mboxNo mb
  | .sessionIdleTimeout n => fits 32 n
  | .authTimeout => true
  | .dueMark _ env => env.wf
  | .overrunLimit => true
  | .exchangeClose fs issued _ _ =>
    Lane.all.all fun l => (fs.get l).wf && (issued.get l).all fun t => t.wf
  | .telegramRelease conn a b _ _ => connNo conn && a.all (fits 32) && b.all (fits 32)
  | .safetyCodeFailLimit => true
  | .mcloseSend => true
  | .resyncCopy _ _ => true
  | .resyncRetry _ => true
  | .rejoin _ => true
  | .comparatorMismatch _ => true
  | .arbitrationSelfTestDone _ _ _ _ => true
  | .arbitrationSelfTestTimeout _ => true
  | .restartCheckDone _ _ _ => true
  | .progressTimeout _ => true
  | .laneStall _ => true
  | .illegalDualRailCode region block => region ≤ 4 && fits 6 block
  | .cacheError _ _ => true
  | .memoryScrubError _ _ => true
  | .laneSupplyLoss _ => true
  | .laneSupplyReturn _ => true
  | .commonsSupplyLoss => true
  | .serviceSupplyLoss => true
  | .serviceRegionReturn => true
  | .timebaseTrim _ => true
  | .tokenOverrun => true
  | .tokenRegenerate => true
  | .fabricGrantTimeout u => match u with
    | .service mb => mboxNo mb
    | .selfTest => true
  | .faultEventCollected f => f.wf
  | .escalation f => f.wf
  | .escalationWindowExpiry f => f.wf
  | .laneLatchOut _ => true
  | .safeCountLimit => true
  | .eventAck _ seq => fits 64 seq
  | .graceExpiry seq => fits 64 seq
  | .settleWindowEnd block _ => fits 6 block
  | .mfSelfCheck _ _ _ => true
  | .duoLimit => true
  | .holdLimit _ => true
  | .moveTimeLimit e => elemNo e
  | .provingTime e => elemNo e
  | .clearingDelay e => elemNo e
  | .resetStepLimit e => elemNo e
  | .closeTimeLimit e => elemNo e
  | .openDelay e => elemNo e
  | .directionExchangeLimit e => elemNo e
  | .settingTimeLimit r => routeNo r
  | .requestLifetime r => routeNo r
  | .approachReleaseTimer r => routeNo r
  | .overlapReleaseTimer r => routeNo r
  | .releasingTimeout r => routeNo r
  | .slotMark _ _ => true
  | .testPulseStart c _ => cellNo c
  | .testPulseEnd c _ => cellNo c
  | .pulseWindowEnd slot _ _ _ _ _ => cellNo slot
  | .sxCurrentLimit c => cellNo c
  | .inputFilterChange _ c xs => cellNo c && samplesWf xs
  | .channelDisagreement _ c => cellNo c
  | .discrepancyFault _ c => cellNo c
  | .bankSupplyTrip b _ => bankNo b
  | .bankSupplyRecover b => bankNo b
  | .roundMark _ => true
  | .testNotCompleted c _ => cellNo c
  | .testPosition b _ => bankNo b
  | .darkStepEnd b _ => bankNo b
  | .lightStepEnd b _ _ _ => bankNo b
  | .midpointStuck c _ _ => cellNo c
  | .pathCurrentWithdrawn c _ => cellNo c
  | .readbackFault _ c xs => cellNo c && xs.length == 3
  | .externalVoltage c => cellNo c
  | .overloadTrip c _ => cellNo c
  | .clampOvertemp c => cellNo c
  | .bankOvercurrent b => bankNo b
  | .feedbackMismatch _ c => cellNo c
  | .frameReceived _ f us => f.wf && us < 1000
  | .skewExpiry conn _ => connNo conn
  | .oneNetworkSilent conn => connNo conn
  | .ringtestSend _ => true
  | .ringtestReceived _ _ f => f.wf
  | .ringBreak _ => true
  | .ringClose _ => true
  | .pstartReceived m us => m.wf && us < 1000
  | .mblockReceived m => m.wf
  | .mcloseReceived m => m.wf
  | .preportReceived _ h => h.wf
  | .cmdfwdReceived m => m.cmd.wf
  | .heartbeatReceived _ f => f.wf
  | .plLinkLoss _ => true
  | .opticInserted _ _ => true
  | .partnerSilent => true
  | .inStep => true
  | .leadClaimConflict => true
  | .joinWaitExpiry => true
  | .revertHoldOff => true
  | .pairApplyTimeout => true
  | .sbWrite w off d => spanWf w off d.length
  | .sbRead w off n => spanWf w off n
  | .sbPostedWrite w off d => spanWf w off d.length
  | .bridgeFrameReceived _ f => f.wf
  | .sbTransferTimeout n => fits 32 n
  | .sbBusyRetry n => fits 32 n
  | .sbHeldResultExpiry _ w off n => spanWf w off n
  | .legacyFrameReceived port _ _ => port < 4
  | .tunnelFrameReceived _ f => f.wf
  | .legacyTransmit t => tunnelNo t
  | .tunnelKeepalive t => tunnelNo t
  | .tunnelDown t => tunnelNo t
  | .otCheckpoint => true
  | .otShadowWrite => true
  | .archiveWindowEnd => true
  | .coalescingWindowEnd kind source => fits 8 kind && fits 32 source
  | .dropRecord => true
  | .logSegmentFailure _ seg => seg < 256
  | .ptpSync _ m => fits 48 m.ms
  | .ptpUnlock => true
  | .stageCheckDone _ => true
  | .updVerifyDone => true
  | .updateSessionTimeout => true
  | .laneTurn _ => true
  | .kernelLoadDone _ => true
  | .levelSwitch => true
  | .imageConfirmed => true
  | .testComplete codes => codes.all (fits 8)
  | .preconditionCheck q => q.wf
  | .oscillatorMeasurement _ => true
  | .tamperSwitchOpen => true
  | .sealLoopCheck _ => true
  | .powerFailWarning => true
  | .powerReturn => true
  | .powerUp _ _ _ => true
  | .bootRestart _ _ => true
  | .laneBootSelfTestDone _ _ => true
  | .syncTimeout => true
  | .inputLoss _ => true
  | .inputRestored _ => true
  | .addressPlugPoll _ => true
  | .thermalWarning => true
  | .thermalTrip => true
  | .resetButtonRelease _ => true
  | .resetButtonStuck => true
  | .buttonContactDisagree => true
  | .buttonReenable => true
  | .unpoweredEnclosureOpening => true
  | .bootSelfTestTimeout _ => true
  | .postActivationTimeout => true
  | .thermalWarningCleared => true
  | .bootTemperatureInRange => true
  | .withdrawalWindowExpiry _ => true
  | .safeCountWindowExpiry => true
  | .plLinkReturn _ => true
  | .ethernetLinkChange _ _ _ => true
  | .switchForwarding _ _ f => f.wf
  | .learnedAddressAgeing _ mac => fits 48 mac

end Sys2Proof
end

