-- ==== Sys2Proof/Tests/Slice0.lean ====
section
/-! SUPPORT. Small tests: an ill-formed term for each check of WellFormed, values the spec works out, and for every
statement with hypotheses states and operands that meet them (the names begin with `wit`). -/

set_option maxRecDepth 20000

namespace Sys2Proof.Tests

open Sys2Proof.Machine

/-- A module in service, in COMMISSIONING, that runs nothing. -/
def on : State :=
  { State.reset with
    id := { State.reset.id with lc := .commissioning }
    pow := { State.reset.pow with on := true, sv := true, mod := .service } }

/-- The mailbox that takes a command's group. -/
def mbOf (code : Nat) : Nat := if code / 256 = 1 then 0 else if code / 256 = 7 then 15 else 1

/-- A request posted through CSPI in session 1 (credential 9, Maintainer role), the oldest one. -/
def req (code flags : Nat) (body : Bytes) (s : State) : State :=
  { s with mail := { s.mail with
      boxes := modAt (fun b => { b with
        st := .posted
        req := le 2 code ++ le 2 7 ++ le 4 body.length ++ le 4 1 ++ le 2 flags ++ zeros 2 ++ body }) (mbOf code) s.mail.boxes
      order := [mbOf code]
      sessions := [⟨1, 9, 4, 0, [], 0, none⟩] } }

/-- What the command sees of that request. -/
def cx (code flags : Nat) (body : Bytes) : Ctx := ⟨⟨1, 9, 7, code, true⟩, mbOf code, 0, 4, flags == 1, body, true⟩

/-- That request is admitted. -/
def Adm (code : Nat) (c : Cmd) (body : Bytes) (s : State) : Prop :=
  Admitted (req code 0 body s) (mbOf code) code c (cx code 0 body)

/-- The same, as a second step. -/
def Adm2 (code : Nat) (c : Cmd) (body : Bytes) (s : State) : Prop :=
  Admitted (req code 1 body s) (mbOf code) code c (cx code 1 body)

/-- A cold frame that session 1 owns. -/
def staged (s : State) : State := { s with stage := { s.stage with owner := 1, st := .opened } }

/-! ### Requests admitted -/

theorem wit_status :
    Adm 0x0104 cmdSessionList [] on ∧ Adm 0x0201 cmdIdentity [] on ∧ Adm 0x0202 cmdCycleStatus [] on ∧
    Adm 0x0203 cmdLaneStatus [] on ∧ Adm 0x0209 cmdTrellisStatus [] on ∧ Adm 0x0501 cmdImageInfo [] on ∧
    Adm 0x0902 cmdFaultStatus [] on ∧ Adm 0x0904 cmdHedgeList [] on ∧ Adm 0x0B01 cmdTimeGet [] on ∧
    Adm 0x0C01 cmdPairStatus [] on :=
  ⟨⟨rfl, rfl, rfl, rfl, _, rfl, rfl⟩, ⟨rfl, rfl, rfl, rfl, _, rfl, rfl⟩, ⟨rfl, rfl, rfl, rfl, _, rfl, rfl⟩, ⟨rfl, rfl, rfl, rfl, _, rfl, rfl⟩, ⟨rfl, rfl, rfl, rfl, _, rfl, rfl⟩, ⟨rfl, rfl, rfl, rfl, _, rfl, rfl⟩, ⟨rfl, rfl, rfl, rfl, _, rfl, rfl⟩, ⟨rfl, rfl, rfl, rfl, _, rfl, rfl⟩, ⟨rfl, rfl, rfl, rfl, _, rfl, rfl⟩, ⟨rfl, rfl, rfl, rfl, _, rfl, rfl⟩⟩

theorem wit_group_status :
    Adm 0x0407 cmdStageStatus [] on ∧ Adm 0x0606 cmdUpdStatus [] on ∧ Adm 0x0704 cmdRecCounters [] on ∧
    Adm 0x0D01 cmdSbStatus [] on ∧ Adm 0x0D02 cmdSbErrlog [] on ∧ Adm 0x0D06 cmdTunnelStatus [] on :=
  ⟨⟨rfl, rfl, rfl, rfl, _, rfl, rfl⟩, ⟨rfl, rfl, rfl, rfl, _, rfl, rfl⟩, ⟨rfl, rfl, rfl, rfl, _, rfl, rfl⟩, ⟨rfl, rfl, rfl, rfl, _, rfl, rfl⟩, ⟨rfl, rfl, rfl, rfl, _, rfl, rfl⟩, ⟨rfl, rfl, rfl, rfl, _, rfl, rfl⟩⟩

/-- All of the items, one beyond them, and none. -/
theorem wit_windows :
    (Adm 0x0204 cmdInputStatus [0, 48, 0, 0] on ∧ Adm 0x0204 cmdInputStatus [1, 48, 0, 0] on ∧
      Adm 0x0204 cmdInputStatus [0, 0, 0, 0] on) ∧
    Adm 0x0205 cmdOutputStatus [0, 48, 0, 0] on ∧
    (Adm 0x0206 cmdConnStatus [255, 1, 0, 0] on ∧ Adm 0x0206 cmdConnStatus [255, 2, 0, 0] on ∧
      Adm 0x0206 cmdConnStatus [1, 86, 0, 0] on) ∧
    (Adm 0x0207 cmdElementRead (le 2 4095 ++ le 2 1) on ∧ Adm 0x0207 cmdElementRead (le 2 4095 ++ le 2 2) on ∧
      Adm 0x0207 cmdElementRead (le 2 0 ++ le 2 64) on) ∧
    (Adm 0x0208 cmdRouteRead (le 2 2047 ++ le 2 1) on ∧ Adm 0x0208 cmdRouteRead (le 2 2047 ++ le 2 2) on ∧
      Adm 0x0208 cmdRouteRead (le 2 0 ++ le 2 64) on) ∧
    (Adm 0x020A cmdRouteIdent (le 2 0 ++ le 2 1) on ∧ Adm 0x020A cmdRouteIdent (le 2 0 ++ le 2 0) on) ∧
    Adm 0x0903 cmdEscBounds (le 2 0 ++ le 2 0) on ∧ Adm 0x0903 cmdEscBounds (le 2 9999 ++ le 2 0) on ∧
    Adm 0x0E03 cmdForceList (le 2 0 ++ le 2 0) on ∧ Adm 0x0E03 cmdForceList (le 2 1 ++ le 2 0) on ∧
    Adm 0x0107 cmdCredList [0, 0, 0, 0] on ∧ Adm 0x0802 cmdTestList [7, 0, 0, 0] on ∧
    Adm 0x0403 cmdStageRead (le 2 0 ++ le 2 101) (staged on) ∧ (staged on).stage.owner = 1 :=
  ⟨⟨⟨rfl, rfl, rfl, rfl, _, rfl, rfl⟩, ⟨rfl, rfl, rfl, rfl, _, rfl, rfl⟩, ⟨rfl, rfl, rfl, rfl, _, rfl, rfl⟩⟩, ⟨rfl, rfl, rfl, rfl, _, rfl, rfl⟩, ⟨⟨rfl, rfl, rfl, rfl, _, rfl, rfl⟩, ⟨rfl, rfl, rfl, rfl, _, rfl, rfl⟩, ⟨rfl, rfl, rfl, rfl, _, rfl, rfl⟩⟩, ⟨⟨rfl, rfl, rfl, rfl, _, rfl, rfl⟩, ⟨rfl, rfl, rfl, rfl, _, rfl, rfl⟩, ⟨rfl, rfl, rfl, rfl, _, rfl, rfl⟩⟩, ⟨⟨rfl, rfl, rfl, rfl, _, rfl, rfl⟩, ⟨rfl, rfl, rfl, rfl, _, rfl, rfl⟩, ⟨rfl, rfl, rfl, rfl, _, rfl, rfl⟩⟩, ⟨⟨rfl, rfl, rfl, rfl, _, rfl, rfl⟩, ⟨rfl, rfl, rfl, rfl, _, rfl, rfl⟩⟩, ⟨rfl, rfl, rfl, rfl, _, rfl, rfl⟩, ⟨rfl, rfl, rfl, rfl, _, rfl, rfl⟩, ⟨rfl, rfl, rfl, rfl, _, rfl, rfl⟩, ⟨rfl, rfl, rfl, rfl, _, rfl, rfl⟩, ⟨rfl, rfl, rfl, rfl, _, rfl, rfl⟩, ⟨rfl, rfl, rfl, rfl, _, rfl, rfl⟩, ⟨rfl, rfl, rfl, rfl, _, rfl, rfl⟩, rfl⟩
/-- OPEN and AUTH carry no open session. -/
def cx0 (code cred : Nat) (body : Bytes) : Ctx := ⟨⟨1, cred, 7, code, true⟩, 0, 0, 0, false, body, true⟩

/-- Credentials 8 (Maintainer) and 9 (Factory), and a provisional session of credential 8. -/
def withCreds (s : State) : State :=
  { s with
    id := { s.id with creds := [⟨8, 4, zeros 97⟩, ⟨9, 5, zeros 97⟩] }
    mail := { s.mail with prov := some ⟨1, 8, 0, zeros 32, zeros 97, zeros 97, 0, 0, none⟩ } }

theorem wit_session :
    (Admitted (req 0x0101 0 (le 4 8 ++ zeros 104) (withCreds on)) 0 0x0101 cmdOpen (cx0 0x0101 0 (le 4 8 ++ zeros 104)) ∧
      (withCreds on).cred? 8 = some ⟨8, 4, zeros 97⟩ ∧ on.id.lc.session 4 = true) ∧
    Admitted (req 0x0102 0 (zeros 96) (withCreds on)) 0 0x0102 cmdAuth (cx0 0x0102 8 (zeros 96)) ∧
    Adm 0x0103 cmdClose [] on ∧
    (Adm 0x0105 cmdCredAdd (le 4 7 ++ [4] ++ zeros 103) (withCreds on) ∧ (withCreds on).cred? 7 = none ∧
      (withCreds on).changeOut = false) ∧
    Adm 0x0106 cmdCredRevoke (le 4 8) (withCreds on) :=
  ⟨⟨⟨rfl, rfl, rfl, rfl, _, rfl, rfl⟩, rfl, rfl⟩, ⟨rfl, rfl, rfl, rfl, _, rfl, rfl⟩, ⟨rfl, rfl, rfl, rfl, _, rfl, rfl⟩, ⟨⟨rfl, rfl, rfl, rfl, _, rfl, rfl⟩, rfl, rfl⟩, ⟨rfl, rfl, rfl, rfl, _, rfl, rfl⟩⟩

/-- A Factory credential in COMMISSIONING. -/
theorem wit_role :
    Admitted (req 0x0101 0 (le 4 9 ++ zeros 104) (withCreds on)) 0 0x0101 cmdOpen (cx0 0x0101 0 (le 4 9 ++ zeros 104)) ∧
    (withCreds on).cred? 9 = some ⟨9, 5, zeros 97⟩ ∧ on.id.lc = .commissioning :=
  ⟨⟨rfl, rfl, rfl, rfl, _, rfl, rfl⟩, rfl, rfl⟩

theorem wit_life :
    Adm 0x0301 cmdLcTransition ([3, 0] ++ le 2 0) on ∧ LcState.ofCode 3 = some .service ∧
    Adm 0x0302 cmdMode [2, 0, 0, 0] on ∧ Adm 0x0303 cmdRestart [1, 0, 0, 0] on ∧
    Adm 0x0304 cmdMaint [1, 0, 0, 0] { on with id := { on.id with lc := .service } } :=
  ⟨⟨rfl, rfl, rfl, rfl, _, rfl, rfl⟩, rfl, ⟨rfl, rfl, rfl, rfl, _, rfl, rfl⟩, ⟨rfl, rfl, rfl, rfl, _, rfl, rfl⟩, ⟨rfl, rfl, rfl, rfl, _, rfl, rfl⟩⟩

/-- One entry of class 0x0A (GRACE), with a value in range and with one out of range. -/
def grace (v : Byte) : Bytes := [0x0A, 0, 0, 0, 0, 0, 1, 0, v] ++ zeros 31

/-- The set of the session is checked. -/
def checkedSet (s : State) : State := { staged s with stage := { (staged s).stage with st := .checked } }

theorem wit_stage :
    (Adm 0x0401 cmdStageOpen [] on ∧ on.stage.owner = 0) ∧ (Adm 0x0401 cmdStageOpen [] (staged on) ∧ (staged on).stage.owner = 1) ∧
    (Adm 0x0402 cmdStageWrite ([1, 0, 0, 0] ++ grace 20) (staged on) ∧
      (∃ d, ((req 0x0402 0 ([1, 0, 0, 0] ++ grace 20) (staged on)).taken 1).stageAll [grace 20] 0 = .ok d)) ∧
    (Adm 0x0402 cmdStageWrite ([1, 0, 0, 0] ++ grace 21) (staged on) ∧
      (((req 0x0402 0 ([1, 0, 0, 0] ++ grace 21) (staged on)).taken 1).stageAll [grace 21] 0 = .error 0)) ∧
    Adm 0x0404 cmdStageDiscard [] (staged on) ∧ Adm 0x0405 cmdStageCheck [] (staged on) ∧
    (Adm 0x0406 cmdStageApply (le 4 0) (checkedSet on) ∧ (checkedSet on).applyStatus 0 = 0) ∧
    (Adm 0x0408 cmdConnKey ([1, 0, 0, 0] ++ zeros 16) (staged on) ∧
      (req 0x0408 0 ([1, 0, 0, 0] ++ zeros 16) (staged on)).takesEntry ⟨0x06, 2, 0, zeros 16⟩ = true) ∧
    (Adm 0x0408 cmdConnKey ([0, 1, 0, 0] ++ zeros 16) (staged on) ∧
      (req 0x0408 0 ([0, 1, 0, 0] ++ zeros 16) (staged on)).takesEntry ⟨0x06, 1, 0, zeros 16⟩ = false) :=
  ⟨⟨⟨rfl, rfl, rfl, rfl, _, rfl, rfl⟩, rfl⟩, ⟨⟨rfl, rfl, rfl, rfl, _, rfl, rfl⟩, rfl⟩, ⟨⟨rfl, rfl, rfl, rfl, _, rfl, rfl⟩, _, rfl⟩, ⟨⟨rfl, rfl, rfl, rfl, _, rfl, rfl⟩, rfl⟩, ⟨rfl, rfl, rfl, rfl, _, rfl, rfl⟩, ⟨rfl, rfl, rfl, rfl, _, rfl, rfl⟩, ⟨⟨rfl, rfl, rfl, rfl, _, rfl, rfl⟩, rfl⟩, ⟨⟨rfl, rfl, rfl, rfl, _, rfl, rfl⟩, rfl⟩, ⟨rfl, rfl, rfl, rfl, _, rfl, rfl⟩, rfl⟩

/-- An update session of session 1 for one block of four bytes. -/
def updating (kind : Nat) (checked : List Nat) (s : State) : State :=
  { s with upd := { s.upd with sess := some { updSessNew 5 kind 4 1 [] with checked := checked } } }

/-- The idle slot of a kind holds something verified, of level l. -/
def verified (kind level : Nat) (s : State) : State :=
  s.setSlot kind (!s.runSlot kind) { Slot.init with valid := true, env := { Envelope.init with level := level } }

theorem wit_update :
    Adm 0x0502 cmdActivate (le 8 1) on ∧
    (Adm 0x0601 cmdUpdOpen ([2, 0, 0, 0] ++ le 4 4) on ∧ on.updOpenStatus (cx 0x0601 0 ([2, 0, 0, 0] ++ le 4 4)) = 0) ∧
    (Adm 0x0602 cmdUpdData (le 4 5 ++ le 4 0 ++ le 4 0 ++ le 2 4 ++ le 2 0 ++ le 4 0 ++ [1, 2, 3, 4]) (updating 2 [] on) ∧
      joinPart (updSessNew 5 2 4 1 []) 0 0 [1, 2, 3, 4] = some [1, 2, 3, 4]) ∧
    (Adm 0x0602 cmdUpdData (le 4 5 ++ le 4 0 ++ le 4 0 ++ le 2 4 ++ le 2 1 ++ le 4 (crc32c [1, 2, 3, 4]) ++ [1, 2, 3, 4])
        (updating 2 [] on) ∧ blockLen 4 1 0 = 4) ∧
    Adm 0x0603 cmdUpdVerify (le 4 5) (updating 2 [0] on) ∧
    Adm 0x0604 cmdUpdActivate (le 4 5) (verified 0 0 (updating 0 [0] on)) ∧
    (Adm 0x0604 cmdUpdActivate (le 4 5) (verified 1 1 (updating 1 [0] on)) ∧ on.id.lc.tests = true ∧ on.tcTooShort = false) ∧
    Adm 0x0604 cmdUpdActivate (le 4 5) (verified 1 0 (updating 1 [0] { on with upd := { on.upd with lm := 1 } })) ∧
    Adm 0x0604 cmdUpdActivate (le 4 5) (verified 2 0 (updating 2 [0] on)) ∧
    Adm 0x0605 cmdUpdAbort (le 4 5) (updating 2 [] on) :=
  ⟨⟨rfl, rfl, rfl, rfl, _, rfl, rfl⟩, ⟨⟨rfl, rfl, rfl, rfl, _, rfl, rfl⟩, rfl⟩, ⟨⟨rfl, rfl, rfl, rfl, _, rfl, rfl⟩, rfl⟩, ⟨⟨rfl, rfl, rfl, rfl, _, rfl, rfl⟩, rfl⟩, ⟨rfl, rfl, rfl, rfl, _, rfl, rfl⟩, ⟨rfl, rfl, rfl, rfl, _, rfl, rfl⟩, ⟨⟨rfl, rfl, rfl, rfl, _, rfl, rfl⟩, rfl, rfl⟩, ⟨rfl, rfl, rfl, rfl, _, rfl, rfl⟩, ⟨rfl, rfl, rfl, rfl, _, rfl, rfl⟩, ⟨rfl, rfl, rfl, rfl, _, rfl, rfl⟩⟩

/-- Input cell 3 with a latched hedge. -/
def hedged3 (test : List (Nat × Nat)) (s : State) : State :=
  let s := { s with set := { s.set with cells := s.set.cells.set 3 { CellCfg.init with cmode := 1 } } }
  (s.updCell 3 fun x => { x with needTest := test }).addHedge
    { kind := .cell, index := 3, latched := true, fsid := fCell 3 0x01, pending := false, lifting := false, seq := 1 }

/-- Supplies and reference within the bounds of a self-test. -/
def inBounds (s : State) : State :=
  { s with be := { s.be with q := ⟨.all 850, 1000, 1000, List.replicate 6 24000⟩, osc := some 5000 } }

theorem wit_records :
    Adm 0x0701 cmdRecOpen ([0, 0, 0, 0] ++ le 8 0) on ∧
    (Adm 0x0702 cmdRecNext (le 4 65536) { on with recs := { on.recs with cursor := some ⟨.fault, 1, 0, 0, 0⟩ } } ∧ recSize .fault ≤ 65536) ∧
    Adm 0x0703 cmdRecClose [] on ∧
    (Adm 0x0801 cmdTestRun (le 2 7 ++ le 2 0) (inBounds on) ∧ (inBounds on).badQty (inBounds on).be.q 7 0 = none) ∧
    Adm 0x0803 cmdTestAbort (le 2 1 ++ le 2 3) { on with be := { on.be with test := some (testNew 1 3 ⟨1, 9, 6, 0x0801, true⟩ 0) } } ∧
    (Adm 0x0901 cmdHedgeRelease ([1, 0] ++ le 2 3) (hedged3 [(1, 3)] on) ∧ (hedged3 [(1, 3)] on).releasable 1 3 = true ∧
      (hedged3 [(1, 3)] on).needsTest 1 3 = true) ∧
    (Adm 0x0901 cmdHedgeRelease ([1, 0] ++ le 2 3) (hedged3 [] on) ∧ (hedged3 [] on).releasable 1 3 = true ∧
      (hedged3 [] on).needsTest 1 3 = false) :=
  ⟨⟨rfl, rfl, rfl, rfl, _, rfl, rfl⟩, ⟨⟨rfl, rfl, rfl, rfl, _, rfl, rfl⟩, by decide⟩, ⟨rfl, rfl, rfl, rfl, _, rfl, rfl⟩, ⟨⟨rfl, rfl, rfl, rfl, _, rfl, rfl⟩, rfl⟩, ⟨rfl, rfl, rfl, rfl, _, rfl, rfl⟩, ⟨⟨rfl, rfl, rfl, rfl, _, rfl, rfl⟩, rfl, rfl⟩, ⟨rfl, rfl, rfl, rfl, _, rfl, rfl⟩, rfl, rfl⟩
theorem wit_ops :
    Adm 0x0A01 cmdRouteSet (le 2 2047 ++ le 2 0) on ∧ Adm 0x0A02 cmdRouteCancel (le 2 0 ++ le 2 0) on ∧
    Adm 0x0A03 cmdAutoSet (le 2 0 ++ [1, 0]) on ∧ Adm 0x0A04 cmdTrigArm (le 2 0 ++ le 2 0) on ∧
    Adm 0x0A05 cmdKeyRelease (le 2 4095 ++ le 2 0) on ∧ on.trl.ops.length = 0 :=
  ⟨⟨rfl, rfl, rfl, rfl, _, rfl, rfl⟩, ⟨rfl, rfl, rfl, rfl, _, rfl, rfl⟩, ⟨rfl, rfl, rfl, rfl, _, rfl, rfl⟩, ⟨rfl, rfl, rfl, rfl, _, rfl, rfl⟩, ⟨rfl, rfl, rfl, rfl, _, rfl, rfl⟩, rfl⟩

/-- A first step of session 1 and command `cmd`, given at OT 0 with code 3; the OT is `ot`. -/
def stepped (cmd ot : Nat) (body : Bytes) (s : State) : State :=
  { s with
    mail := { s.mail with steps := [⟨1, cmd, body, 3, 0⟩] }
    time := { s.time with ot := ot } }

/-- A member of a pair, in a pair state; its partner's report shows it in step. -/
def member (p : PairState) (s : State) : State :=
  { s with
    image := { s.image with role := 1 }
    set := { s.set with pair := { s.set.pair with prole := 1 } }
    pair := { s.pair with st := p, plup := .both true, seenNow := true, partner := some { Health.init with flags := 4 } } }

/-- One force of kind 1 on route identity 5. -/
def forcedRoute (s : State) : State := { s with stage := { s.stage with forces := [⟨1, 0, 0, 5, 9, 0⟩] } }

/-- First steps; second steps at both ends of the 2 s to 30 s, and without a first step. -/
theorem wit_two_step :
    Adm 0x0A06 cmdEmergRelease (zeros 8) on ∧
    Adm2 0x0A06 cmdEmergRelease ([0, 0, 0, 0, 3, 0, 0, 0]) (stepped 0x0A06 2000 [0, 0, 0, 0, 0, 0] on) ∧
    Adm2 0x0A06 cmdEmergRelease ([0, 0, 0, 0, 3, 0, 0, 0]) (stepped 0x0A06 30000 [0, 0, 0, 0, 0, 0] on) ∧
    Repeats (cx 0x0A06 1 [0, 0, 0, 0, 3, 0, 0, 0]) 4 ⟨1, 0x0A06, [0, 0, 0, 0, 0, 0], 3, 0⟩ ∧
    Adm2 0x0A06 cmdEmergRelease ([0, 0, 0, 0, 3, 0, 0, 0]) on ∧
    Adm 0x0A07 cmdAxleReset (zeros 8) on ∧
    Adm2 0x0A07 cmdAxleReset ([0, 0, 0, 0, 3, 0, 0, 0]) (stepped 0x0A07 0 [0, 0, 0, 0, 0, 0] on) ∧
    Repeats (cx 0x0A07 1 [0, 0, 0, 0, 3, 0, 0, 0]) 4 ⟨1, 0x0A07, [0, 0, 0, 0, 0, 0], 3, 0⟩ ∧
    Adm2 0x0A07 cmdAxleReset ([0, 0, 0, 0, 3, 0, 0, 0]) on ∧
    Adm 0x0C03 cmdColdAssume (zeros 4) (member .joining on) ∧
    Adm2 0x0C03 cmdColdAssume [3, 0, 0, 0] (stepped 0x0C03 2000 [0, 0] (member .joining on)) ∧
    Repeats (cx 0x0C03 1 [3, 0, 0, 0]) 0 ⟨1, 0x0C03, [0, 0], 3, 0⟩ ∧
    Adm2 0x0C03 cmdColdAssume [3, 0, 0, 0] (member .joining on) ∧
    Adm 0x0E02 cmdForceClear ([1, 0, 0, 0] ++ le 4 5 ++ zeros 4) (forcedRoute on) ∧
    Adm2 0x0E02 cmdForceClear ([1, 0, 0, 0] ++ le 4 5 ++ [3, 0, 0, 0])
      (stepped 0x0E02 30000 ([1, 0, 0, 0] ++ le 4 5 ++ [0, 0]) (forcedRoute on)) ∧
    Repeats (cx 0x0E02 1 ([1, 0, 0, 0] ++ le 4 5 ++ [3, 0, 0, 0])) 8 ⟨1, 0x0E02, [1, 0, 0, 0] ++ le 4 5 ++ [0, 0], 3, 0⟩ ∧
    Adm2 0x0E02 cmdForceClear ([1, 0, 0, 0] ++ le 4 5 ++ [3, 0, 0, 0]) (forcedRoute on) ∧ (forcedRoute on).forceStands 1 5 = true :=
  ⟨⟨rfl, rfl, rfl, rfl, _, rfl, rfl⟩, ⟨rfl, rfl, rfl, rfl, _, rfl, rfl⟩, ⟨rfl, rfl, rfl, rfl, _, rfl, rfl⟩, ⟨rfl, rfl, rfl, rfl⟩, ⟨rfl, rfl, rfl, rfl, _, rfl, rfl⟩, ⟨rfl, rfl, rfl, rfl, _, rfl, rfl⟩, ⟨rfl, rfl, rfl, rfl, _, rfl, rfl⟩, ⟨rfl, rfl, rfl, rfl⟩, ⟨rfl, rfl, rfl, rfl, _, rfl, rfl⟩, ⟨rfl, rfl, rfl, rfl, _, rfl, rfl⟩, ⟨rfl, rfl, rfl, rfl, _, rfl, rfl⟩, ⟨rfl, rfl, rfl, rfl⟩, ⟨rfl, rfl, rfl, rfl, _, rfl, rfl⟩, ⟨rfl, rfl, rfl, rfl, _, rfl, rfl⟩, ⟨rfl, rfl, rfl, rfl, _, rfl, rfl⟩, ⟨rfl, rfl, rfl, rfl⟩, ⟨rfl, rfl, rfl, rfl, _, rfl, rfl⟩, rfl⟩

/-- A window descriptor: enabled with flags f, far module 1. -/
def windowBody (f : Byte) : Bytes := [2, 0, 0, 0, f, 0] ++ le 2 1 ++ le 4 0x10000 ++ le 2 200 ++ zeros 6

/-- Window 2 enabled. -/
def window2 (s : State) : State := s.updBridge fun b => { b with windows := b.windows.set 2 (readWindow (s.window 2) (windowBody 1)) }

theorem wit_time_pair_bridge :
    Adm 0x0B02 cmdTimeSet (le 8 (2 ^ 48 - 1)) on ∧ Adm 0x0B03 cmdTimeSource [0, 0, 0, 0] on ∧ Adm 0x0B03 cmdTimeSource [1, 0, 0, 0] on ∧
    (Adm 0x0C02 cmdHandover [] (member .lead on) ∧ (member .lead on).partnerInStep = true ∧ (member .lead on).partnerSilent = false) ∧
    Adm 0x0D03 cmdSbErrclr [] on ∧
    (Adm 0x0D04 cmdWindowSet (windowBody 1) on ∧ on.windowOk (readWindow (on.window 2) (windowBody 1)) = true) ∧
    (Adm 0x0D04 cmdWindowSet (windowBody 0) (window2 on) ∧ (window2 on).windowOk (readWindow ((window2 on).window 2) (windowBody 0)) = true ∧
      wEnable ((window2 on).window 2) = true) ∧
    (Adm 0x0D05 cmdTunnelSet ([15, 0, 0, 0, 1, 0] ++ le 2 1 ++ [0, 4, 0xFF, 0xFF] ++ le 4 9600 ++ [8, 0, 0, 0]) on ∧
      on.tunnelOk 15 (readTunnel (on.tunnel 15) ([15, 0, 0, 0, 1, 0] ++ le 2 1 ++ [0, 4, 0xFF, 0xFF] ++ le 4 9600 ++ [8, 0, 0, 0])) = true) ∧
    Adm 0x0E01 cmdForceSet ([4, 0, 0, 0] ++ le 4 5) on :=
  ⟨⟨rfl, rfl, rfl, rfl, _, rfl, rfl⟩, ⟨rfl, rfl, rfl, rfl, _, rfl, rfl⟩, ⟨rfl, rfl, rfl, rfl, _, rfl, rfl⟩, ⟨⟨rfl, rfl, rfl, rfl, _, rfl, rfl⟩, rfl, rfl⟩, ⟨rfl, rfl, rfl, rfl, _, rfl, rfl⟩, ⟨⟨rfl, rfl, rfl, rfl, _, rfl, rfl⟩, rfl⟩, ⟨⟨rfl, rfl, rfl, rfl, _, rfl, rfl⟩, rfl, rfl⟩, ⟨⟨rfl, rfl, rfl, rfl, _, rfl, rfl⟩, rfl⟩, ⟨rfl, rfl, rfl, rfl, _, rfl, rfl⟩⟩

theorem wit_hold :
    Adm 0x0302 cmdMode [0, 0, 0, 0] (member .followIn on) ∧ (member .followIn on).partnerSeen = true ∧
    (member .followIn on).partnerInStep = true ∧ cmdRow? 0x0302 ≠ none ∧ resvOk [2, 0, 0, 0] cmdMode.resv = true ∧
    (req 0x0302 0 [2, 0, 0, 0] (member .followIn on)).reqSession
      (reqOf ((req 0x0302 0 [2, 0, 0, 0] (member .followIn on)).box 1)) 0 = some (9, 4) :=
  ⟨⟨rfl, rfl, rfl, rfl, _, rfl, rfl⟩, rfl, rfl, by decide, rfl, rfl⟩

/-- Requests that fail one check: a reserved field, a length, a session, a role, the life cycle; and TERMINAL. -/
theorem wit_checks :
    (let s := req 0x0302 2 [0, 0, 0, 0] on
     s.nextBox = some 1 ∧ (s.box 1).st = .posted ∧ takesGroup 1 0x0302 = true ∧ 2 ≤ (reqOf (s.box 1)).flags) ∧
    (let s := req 0x0302 0 [0, 0, 0] on; cmdMode.lenOk (reqOf (s.box 1)).body (reqOf (s.box 1)).len = false) ∧
    (let s := { req 0x0302 0 [0, 0, 0, 0] on with mail := { (req 0x0302 0 [0, 0, 0, 0] on).mail with sessions := [] } }
     s.reqSession (reqOf (s.box 1)) 0 = none) ∧
    (on.groupAdmitted 0x0302 = true ∧ { on with id := { on.id with lc := .retired } }.groupAdmitted 0x0302 = false) ∧
    { on with pow := { on.pow with mod := .terminal } }.groupAdmitted 0x0303 = false :=
  ⟨⟨rfl, rfl, rfl, by decide⟩, rfl, rfl, ⟨rfl, rfl⟩, rfl⟩

/-- A mailbox in a state, owned by endpoint 0, in a module without requests. -/
def boxed (mb : Nat) (f : Mbox → Mbox) (s : State) : State :=
  { s with mail := { s.mail with boxes := modAt f mb s.mail.boxes, sessions := [⟨1, 9, 5, 0, [], 600000, none⟩] } }

/-- Endpoint 1 at address 7. -/
def served (s : State) : State := { s with mail := { s.mail with eps := [⟨1, .svc, 7, 8, 0, []⟩] } }

/-- A header of a write of n bytes from it. -/
def head (n : Nat) : NspHead := ⟨.svc, 7, 8, 0x0A300000, 48811, 0x534E, 1, 2, 5, n, 0, 0, 0, []⟩

theorem wit_writes :
    (∃ wrap, Carried on .cspi (ctlAddr 15) (le 2 1 ++ le 2 0xFFFF) 0 none on.cspiBegin wrap ∧ (on.box 0).st = .free) ∧
    (∃ wrap, Carried (served on) (.nsp (head 4)) (ctlAddr 0) (le 2 1 ++ le 2 0) 1 none (served on) wrap) ∧
    ((boxed 1 (fun b => { b with st := .owned, req := [0, 0, 7, 0] }) on).box 1).st = .owned ∧
    rd ((boxed 1 (fun b => { b with st := .owned, req := [0, 0, 7, 0] }) on).box 1).req 2 2 = 7 ∧
    ((boxed 0 (fun b => { b with st := .done, openOk := true }) on).box 0).openOk = true ∧
    ((boxed 0 (fun b => { b with st := .done }) on).box 0).openOk = false :=
  ⟨⟨_, ⟨rfl, .inl ⟨rfl, rfl, rfl, rfl, rfl⟩⟩, rfl⟩,
   ⟨_, rfl, .inr ⟨head 4, ⟨1, .svc, 7, 8, 0, []⟩, rfl, rfl, rfl, rfl, rfl, by decide, rfl, .inl ⟨rfl, rfl, rfl, rfl⟩, rfl⟩⟩, rfl, rfl, rfl, rfl⟩

theorem wit_timeouts :
    (let s := { req 0x0302 0 [0, 0, 0, 0] on with time := { on.time with ot := 100 } }
     s.serving = true ∧ (s.box 1).st = .posted ∧ (s.box 1).rung + 100 ≤ s.time.ot) ∧
    60000 ≤ ((boxed 1 (fun b => { b with st := .owned, age := 60000 }) on).box 1).age ∧
    (∃ x ∈ (boxed 1 id on).mail.sessions, 600000 ≤ x.idle) ∧ (boxed 1 id on).mail.sessions.any (·.id == 1) = true ∧
    ((withCreds on).mail.prov.map fun p => { p with age := 10000 }).isSome = true :=
  ⟨⟨rfl, rfl, by decide⟩, by decide, ⟨_, List.mem_cons_self, by decide⟩, rfl, rfl⟩

/-- A session that owns a cold frame, a read cursor, a first step and an update session. -/
theorem wit_session_end :
    let s := staged (updating 2 [] { on with
      mail := { on.mail with sessions := [⟨1, 9, 5, 0, [], 0, none⟩], steps := [⟨1, 0x0A06, [], 3, 0⟩] }
      recs := { on.recs with cursor := some ⟨.fault, 1, 0, 0, 0⟩ } })
    s.mail.sessions.any (·.id == 1) = true ∧ s.stage.owner = 1 ∧ s.stage.apply = none ∧ s.stage.applying = none :=
  ⟨rfl, rfl, rfl, rfl⟩

/-- The oldest request is in mailbox 1: another mailbox's command, and another command's, does nothing. -/
theorem wit_oldest :
    let s := req 0x0302 0 [0, 0, 0, 0] on
    s.nextBox = some 1 ∧ s.knownReq 1 = true ∧ (reqOf (s.box 1)).cmd ≠ 0x0303 ∧ on.nextBox = none ∧ State.reset.serving = false :=
  ⟨rfl, rfl, by decide, rfl, rfl⟩
/-! ### Events of the cycle, the lanes and the regions -/

/-- The three lanes ACTIVE. -/
def voting (s : State) : State := s.updLanes fun x => { x with st := .active, ring := true }

/-- One lane changed. -/
def laneA (f : LaneSt → LaneSt) (s : State) : State := s.updLane .a f

/-- A start's operands: each lane has counted n ticks. -/
def env (n : Nat) : StartEnv := ⟨0, .all n, .all none, false, .all false⟩

/-- In split mode, with lane A alone. -/
def split (s : State) : State :=
  laneA (fun x => { x with st := .split }) { s with pow := { s.pow with split := true } }

/-- A cycle in the exchange, its application running. -/
def exchanging (p : Phase) (s : State) : State := { voting s with cyc := { s.cyc with phase := p } }

/-- A telegram of a kind on connection 1. -/
def telegram (typ : Nat) : OutTg := ⟨1, { gvtZero with typ := typ, conn := 1 }⟩

/-- A cycle that emits it. -/
def emitting (typ : Nat) (s : State) : State :=
  { voting s with cyc := { s.cyc with phase := .emit, tosend := [telegram typ] } }

theorem wit_cycle :
    (on.pow.on = true ∧ on.cycling = true) ∧
    (({ voting on with cyc := { on.cyc with started := true } }).tcCounted .a (env (on.set.tc * 10000)) = true ∧ (voting on).isActive .a = true ∧ ((voting on).lane .a).ring = true) ∧
    ((split on).tcCounted .a (env 0) = true ∧ ((split on).lane .a).st = .split) ∧
    (voting on).cyc.phase = .idle ∧
    (let s := exchanging .exchange on
     voteHub s.actives (s.viewOf (.all .missing)) = none ∧ voteHub s.actives (s.viewOf (.all (.own 0 []))) = some ([], s.cyc.form) ∧ s.cyc.phase ≠ .idle ∧ s.cyc.phase ≠ .emit) ∧
    ((emitting 1 on).cyc.tosend = [telegram 1] ∧ (emitting 1 on).cyc.phase = .emit ∧
      (emitting 1 on).rolesNow ≠ none) ∧
    (on.rolesNow = none ∧ (emitting 3 on).cyc.tosend = [telegram 3]) ∧
    (let s := { member .lead on with pair := { (member .lead on).pair with closing := true } }
     s.pair.closing = true ∧ s.pair.st = .lead) ∧
    (let s := laneA (fun x => { x with st := .resync, rsync := 1 }) on
     (s.lane .a).st = .resync ∧ (s.lane .a).rsync = 1 ∧ s.cyc.phase = .idle ∧ s.allDone = true) ∧
    ((laneA (fun x => { x with retryAt := some 0 }) on).lane .a).retryAt = some 0 ∧
    ((laneA (fun x => { x with rsync := 4 }) on).lane .a).rsync = 4 :=
  ⟨⟨rfl, rfl⟩, ⟨by decide, rfl, rfl⟩, ⟨rfl, rfl⟩, rfl, ⟨rfl, rfl, by decide, by decide⟩, ⟨rfl, rfl, by decide⟩, ⟨rfl, rfl⟩, ⟨rfl, rfl⟩, ⟨rfl, rfl, rfl, rfl⟩, rfl, rfl⟩

theorem wit_lanes :
    on.cmUp = true ∧ on.pow.split = false ∧ (split on).pow.split = true ∧
    (let x := (laneA (fun x => { x with arb := true }) on).lane .a; x.arb = true ∧ x.st = .withdrawn) ∧
    (let x := (laneA (fun x => { x with rcheck := true }) on).lane .a
     x.st = .withdrawn ∧ x.rcheck = true ∧ x.arb = false ∧ x.turn = false ∧ x.latched = false ∧ x.supply = true) ∧
    3 ≤ ((laneA (fun x => { x with wds := [0, 0, 0] }) on).wdsNow .a).length :=
  ⟨rfl, rfl, rfl, ⟨rfl, rfl⟩, ⟨rfl, rfl, rfl, rfl, rfl, rfl⟩, by decide⟩

theorem wit_regions :
    (on.lane .a).supply = true ∧ ((laneA (fun x => { x with supply := false }) on).lane .a).supply = false ∧
    on.pow.service = true ∧ ({ on with pow := { on.pow with sv := false } }).pow.sv = false ∧ on.cyc.tcxolost = false ∧
    (Lane.all.filter fun l => tcxoOff ((Trio.all (0 : Int)).get l)).length = 0 ∧
    (Lane.all.filter fun l => tcxoOff ((Trio.all (100000 : Int)).get l)).length = 3 ∧
    blockIn 0 0x01 = true ∧ blockIn 3 0x1D = true :=
  ⟨rfl, rfl, rfl, rfl, rfl, rfl, rfl, rfl, rfl⟩

theorem wit_faults :
    numbered (fCell 47 0x01) = true ∧ (numbered ⟨1, 3, 0x19, 0, 0xEE⟩ = false ∧ located ⟨1, 3, 0x19, 0, 0xEE⟩ = true) ∧
    (∃ f, numbered f = true ∧ State.reachesN { on with set := { on.set with esc := [⟨0, f.level, f.block, f.det, 1, 3, 1, 1000⟩] } } f 1 = true) ∧
    ({ on with pow := { on.pow with mod := .safe } }).pow.mod = .safe ∧
    (let s := { on with flt := { on.flt with grace := [⟨7, fMf 0x02, 0, [.a]⟩], shadows := [⟨0x19, 0, fMf 0x02, 7⟩] } }
     s.flt.grace.find? (fun g => g.seq == 7 && g.due ≤ s.time.ot) = some ⟨7, fMf 0x02, 0, [.a]⟩ ∧
     s.flt.shadows.find? (fun x => x.block == 0x19 && x.due ≤ s.time.ot) = some ⟨0x19, 0, fMf 0x02, 7⟩) ∧
    (let s := laneA (fun x => { x with st := .withdrawn }) (voting { on with
      set := { on.set with duolim := 1 }, cyc := { on.cyc with duoelap := 3600000 } })
     s.nActive = 2 ∧ s.set.duolim * 3600000 ≤ s.cyc.duoelap) ∧
    (let s := voting { on with cyc := { on.cyc with mode := .hold }, time := { on.time with ot := on.set.holdlim * 10 } }
     s.isActive .a = true ∧ s.cyc.mode = .hold ∧ s.cyc.holdstart + s.set.holdlim * 10 ≤ s.time.ot) :=
  ⟨rfl, ⟨rfl, rfl⟩, ⟨fCell 0 0x01, rfl, rfl⟩, rfl, ⟨rfl, rfl⟩, ⟨rfl, by decide⟩, rfl, rfl, by decide⟩
/-! ### Elements, routes, inputs and outputs -/

/-- Element 3, its sources valid in two cycles running. -/
def elemOf (b : Body) : Elem :=
  { num := 3, instid := 5, hedged := false, undertest := false, forceblk := false, lockcnt := 0, claimcnt := 0,
    curin := 0x0F, previn := 0, outcmd := 0x0F, fltheld := 0, fltcode := 0, body := b,
    work := { validPrev := true, noEdge := false, edges := true, tolAspect := 0, tolInd := false, lastPos := 0, seenZero := false,
              sweepFell := false, swept := true, dirBarred := false, clearPrev := 0, holdPrev := false, withdrawn := false,
              ref := none } }

def withElem (b : Body) : State := { on with app := { on.app with elems := [elemOf b] } }

theorem wit_elements (b : Body) : (withElem b).elem? 3 = some (elemOf b) := rfl

/-- Each clause's body at the boundary of its time: 5 units of 10 ms, and 51 ms where expiry is permissive. -/
theorem wit_element_timers :
    (expR 50 5 = true ∧ expR 49 5 = false ∧ expP 51 5 = true ∧ expP 50 5 = false) ∧
    (let b : PointBody := ⟨1, 2, 1, false, false, 5, 2, 50⟩; b.movest = 1 ∧ expR b.moveelap b.movepre = true ∧ b.posdet ≠ b.poscmd) ∧
    (let b : SignalBody := ⟨2, 0, 0, 0, 5, 50⟩
     expR b.provelap b.provpre = true ∧ held 0x0020 (elemOf (.signal b)) = false ∧ b.aspshown ≠ b.aspreq) ∧
    (let e := elemOf (.tcsec ⟨1, 5, 51⟩); e.work.validPrev = true ∧ e.curin.getLsbD 0 = true) ∧
    (let e := elemOf (.acsec ⟨3, 1, 5, 50, 0, 5, 51⟩)
     e.curin.getLsbD 0 = true ∧ e.curin.getLsbD 1 = true ∧ e.work.swept = true) ∧
    (let e := { elemOf (.lxing ⟨1, 5, 50, 5, 51⟩) with curin := 0x03 }
     ¬ (e.curin.getLsbD 0 = true ∧ e.curin.getLsbD 1 = true ∧ e.curin.getLsbD 2 = true)) ∧
    (let e := elemOf (.lxing ⟨1, 5, 50, 5, 51⟩)
     e.lockcnt = 0 ∧ e.claimcnt = 0 ∧ e.curin.getLsbD 2 = true ∧ e.fltcode = 0) ∧
    (elemOf (.blockif ⟨0, 1, 0, 5, 0, 50⟩)).outcmd.getLsbD 3 = true := by
  refine ⟨⟨rfl, rfl, rfl, rfl⟩, ⟨rfl, rfl, by decide⟩, ⟨rfl, rfl, by decide⟩, ⟨rfl, rfl⟩, ⟨rfl, rfl, rfl⟩, by decide,
    ⟨rfl, rfl, rfl, rfl⟩, rfl⟩

/-- A route of a shunting class without a signal, its times 5 units. -/
def routeOf : RouteEntry :=
  { cls := 1, auto := false, trig := false, almode := 0, area := false, ind := false, prio := 0, entrysig := 0xFFFF,
    nextsig := 0xFFFF, ovl := 0, altovl := 0xFFFF, setpre := 5, alpre := 5, reqpre := 5, appr := [], trigsec := 0xFFFF,
    owner := 0xFFFF, req := [], flank := [], groups := [], conflicts := [], rid := 5, rchk := 0 }

/-- Route 0 with its record, and overlap 0. -/
def withRoute (c : RouteCell) : State :=
  { on with
    image := { on.image with routes := [routeOf], overlaps := [⟨5, []⟩] }
    app := { on.app with cells := [c] } }

theorem wit_routes :
    (∀ c, (withRoute c).entry? 0 = some routeOf ∧ (withRoute c).cellRec 0 = c) ∧
    (expR { routeInit with rstate := 3, stelap := 50 }.stelap routeOf.setpre = true) ∧ routeOf.reqpre ≠ 0 ∧
    (let c := { routeInit with rstate := 7, flags := { routeInit.flags with cancel := true }, alelap := 51 }
     alExpired routeOf c = true ∧ (withRoute c).entryDanger routeOf = true) ∧
    (let c := { routeInit with rstate := 8, ovlused := 0, olelap := 51 }
     routeOf.groups.length ≤ c.reldone ∧ c.ovlused ≠ 0xFFFF ∧ (withRoute c).image.overlaps[c.ovlused]? = some ⟨5, []⟩ ∧
     expP c.olelap 5 = true) ∧
    (let s := { on with flt := { on.flt with watch := [⟨0, 1, 600000, false⟩] } }
     ∃ w ∈ s.flt.watch, w.route = 0 ∧ 600000 ≤ w.ms ∧ w.raised = false) :=
  ⟨fun _ => ⟨rfl, rfl⟩, rfl, by decide, ⟨rfl, rfl⟩, ⟨by decide, by decide, rfl, rfl⟩,
    ⟨_, List.mem_singleton.2 rfl, rfl, by decide, rfl⟩⟩

/-- Cell 4 of bank 0: an input cell of a pair (mode 1), or an output cell with feedback (mode 2). -/
def inCell (mode : Nat) (f : CellSt → CellSt) (s : State) : State :=
  { s with
    set := { s.set with cells := s.set.cells.set 4 { CellCfg.init with cmode := mode, flags := 3 } }
    cells := modAt f 4 (s.cells.map fun x => { x with warm := false }) }

/-- The frame's slot 5, its pulse open or not. -/
def slot5 (p : Option Nat) (s : State) : State := { s with frame := { s.frame with running := true, slot := 5, pulse := p } }

theorem wit_inputs :
    (let s := voting on; s.pow.on = true ∧ s.markers.contains .b = true ∧ (s.lane .b).slotmark = false ∧ s.frame.running = false) ∧
    (let s := slot5 none (voting on); s.frame.running = true ∧ slotUs s.frame.tframe * 10 ≤ 12500) ∧
    (let s := slot5 none on; s.frame.running = true ∧ s.frame.slot = 5 ∧ (s.cell 4).under = false ∧ s.frame.pulse = none) ∧
    (slot5 (some 5) on).frame.pulse = some 5 ∧
    cUsed ((inCell 1 id on).cellCfg 4) = true ∧
    (let s := inCell 1 (fun x => { x with ch := x.ch.set .b { ChSt.init with dis := 3 } }) (voting on)
     s.isActive .b = true ∧ 3 ≤ ((s.cell 4).ch.get .b).dis ∧ s.hedgedAny .cell 4 = false) ∧
    (let s := inCell 1 (fun x => { x with ch := x.ch.set .b { ChSt.init with run := some 0, filt := true } }) { on with time := { on.time with ot := 200 } }
     ((s.cell 4).ch.get .b).run = some 0 ∧ cPair (s.cellCfg 4) = true ∧ ((s.cell 4).ch.get .b).latch = false ∧
     s.pairSuspended 4 = false ∧ (s.pairAB 4 .b).1 ≠ (s.pairAB 4 .b).2 ∧ (s.cellCfg 4).td * 10 ≤ s.time.ot - 0) ∧
    ({ on with banks := modAt (fun b => { b with fsvOut := true }) 5 on.banks }.bank 5).fsvOut = true :=
  ⟨⟨rfl, rfl, rfl, rfl⟩, ⟨rfl, by decide⟩, ⟨rfl, rfl, rfl, rfl⟩, rfl, rfl, ⟨rfl, by decide, rfl⟩,
    ⟨rfl, rfl, rfl, rfl, by decide, by decide⟩, rfl⟩

/-- Bank 0 changed. -/
def bank0 (f : BankSt → BankSt) (s : State) : State := { s with banks := modAt f 0 s.banks }

theorem wit_rounds :
    (let s := voting on; s.isActive .a = true ∧ (s.lane .a).roundmark = false) ∧
    3 ≤ ((inCell 2 (fun x => { x with missed := .all 3 }) on).cell 4).missed.get .a ∧
    (let s := { on with frame := { on.frame with rounds := true } }
     s.frame.rounds = true ∧ (s.bank 5).pos < 50 ∧ (s.bank 5).step = none ∧ s.cycling = true) ∧
    (bank0 (fun b => { b with step := some ⟨4, .a, true⟩ }) on).bank 0 = { BankSt.init with step := some ⟨4, .a, true⟩ } ∧
    (bank0 (fun b => { b with step := some ⟨4, .a, false⟩ }) on).bank 0 = { BankSt.init with step := some ⟨4, .a, false⟩ } :=
  ⟨⟨rfl, rfl⟩, by decide, ⟨rfl, by decide, rfl, rfl⟩, rfl, rfl⟩

theorem wit_output_faults :
    let s := inCell 2 (fun x => x) on
    (cOut (s.cellCfg 4) = true ∧ (s.cell 4).eff = false ∧ (s.cell 4).under = false ∧ s.stepping 4 = false ∧
      (s.bank (bankOf 4)).prot = false ∧ s.flt.safelatch = false ∧ (s.bank (bankOf 4)).fsvOut = false ∧
      s.isActive (pathLanes .ab).1 = false ∧ ((s.cell 4).ch.get .c).settle ≤ s.time.ot) ∧
    ((inCell 2 (fun x => { x with eff := true }) on).cell 4).eff = true ∧
    (let s := bank0 (fun b => { b with cutoff := some (0, [4, 6]), prot := true }) { s with time := { s.time with ot := 10 } }
     (s.bank (bankOf 4)).cutoff = some (0, [4, 6]) ∧ [4, 6].contains 4 = true ∧ 0 + 10 ≤ s.time.ot ∧ (s.bank (bankOf 4)).prot = true) ∧
    (let s := inCell 2 (fun x => { x with voted := true, eff := true }) (voting on)
     s.fbDiffers 4 .a = true ∧ (s.cell 4).under = false ∧ s.markers.contains .a = true ∧ s.fbEnd 4 .a ≤ s.time.ot) :=
  ⟨⟨rfl, rfl, rfl, rfl, rfl, rfl, rfl, rfl, by decide⟩, rfl, ⟨rfl, rfl, by decide, rfl⟩, rfl, rfl, rfl, by decide⟩
/-! ### Frames, rings, pairs, the bridge and the tunnels -/

/-- A GVT for this module from module 5, and its frame. -/
def gvtOf (typ conn : Nat) (payload : Bytes) : Gvt :=
  withCrc { gvtZero with typ := typ, src := 5, conn := conn, seq := 1, len := payload.length, payload := payload }
def frame (g : Gvt) : Frame := ⟨true, true, .raw 0x88B5, 1, 7, 5, 0, g⟩

theorem crc_gvtOf (typ conn : Nat) (payload : Bytes) : crcOkGvt (gvtOf typ conn payload) = true := by
  unfold crcOkGvt gvtOf withCrc; simp; rfl

/-- Connection 1 in from module 5, VALID, heard from both networks long ago. -/
def conn1 (f : ConnSt → ConnSt) (ot : Nat) (s : State) : State :=
  { s with
    set := { s.set with conns := [⟨1, 2, 0, 5, 0xFFFF, 1, 0, 0, 8, 4, 10, 0, 100, 0⟩] }
    conns := [f (connInit 1 false 0)]
    app := { s.app with recvs := [{ recvInit 1 false with cstate := 2 }] }
    time := { s.time with ot := ot } }

theorem wit_telegrams :
    (on.cmUp = true ∧ on.netUp .a = true ∧ on.tgReset = false ∧ (frame gvtZero).gvt.src.toNat = on.id.modaddr ∧
      (frame (gvtOf 1 1 (zeros 8))).gvt.src.toNat ≠ on.id.modaddr ∧ on.frameOk .a (frame (gvtOf 1 1 (zeros 8))) = true) ∧
    (∃ k, (conn1 id 0 on).identify (gvtOf 1 1 (zeros 8)) = some (k, false)) ∧
    on.frameOk .a { frame (gvtOf 1 1 (zeros 8)) with fcsOk := false } = false ∧
    (let s := conn1 (fun c => { c with held := ⟨some ⟨gvtZero, 0, .a⟩, none⟩ }) 1 on
     (s.conn? 1).any (fun c => c.held.sel false == some ⟨gvtZero, 0, .a⟩) = true ∧ (s.connCfg? 1).any (fun k => k.skew == 10) = true ∧
     0 + 10 * 100 < (s.time.ot + 1) * 1000) ∧
    (let s := conn1 (fun c => { c with lastnet := ⟨0, 1⟩ }) 1000 on
     s.time.ot - 0 ≥ 1000 ∧ s.time.ot - 1 < 1000 ∧ (s.recv? 1).any (fun r => r.cstate == 2) = true ∧
     (s.conn? 1).any (fun c => c.lastnet.at .a == 0 && c.lastnet.at .b == 1 && c.silent.fst == false) = true) :=
  ⟨⟨rfl, rfl, rfl, rfl, by decide, rfl⟩, ⟨_, rfl⟩, rfl, ⟨rfl, rfl, by decide⟩, by decide, by decide, rfl, rfl⟩

/-- Network A in a ring mode, in a state. -/
def ring (mode : Nat) (f : NetSt → NetSt) (ot : Nat) (s : State) : State :=
  { s.updNet .a f with
    set := { s.set with nets := ⟨{ NetCfg.init with ringmode := mode }, NetCfg.init⟩ }
    time := { s.time with ot := ot } }

theorem wit_rings :
    ((ring 2 id 0 on).cmUp = true ∧ (ring 2 id 0 on).manager .a = true ∧ (ring 2 id 0 on).netUp .a = true) ∧
    (((ring 2 (fun x => { x with link := .both true }) 0 on).net .a).link.sel true = true ∧
      crcOkGvt (frame (gvtOf 0xE 0 [1])).gvt = true ∧ (frame (gvtOf 0xE 0 [1])).gvt.typ = 0xE) ∧
    ((ring 1 id 0 on).manager .a = false ∧ ((ring 1 id 0 on).set.nets.at .a).ringmode = 1) ∧
    (let s := ring 2 (fun x => { x with blocked := true, ringlast := some 0 }) 6 on
     (s.net .a).blocked = true ∧ (s.net .a).ringlast = some 0 ∧ 0 + 6 ≤ s.time.ot) ∧
    (let s := ring 2 (fun x => { x with ringsince := some 0, ringlast := some 95 }) 100 on
     (s.net .a).blocked = false ∧ (s.net .a).ringsince = some 0 ∧ 0 + 100 ≤ s.time.ot ∧ (s.net .a).ringlast = some 95 ∧
     s.time.ot < 95 + 6) ∧ (frame (gvtOf 1 1 [])).gvt.typ ≠ 0xE :=
  ⟨⟨rfl, rfl, rfl⟩, ⟨rfl, crc_gvtOf _ _ _, rfl⟩, ⟨rfl, rfl⟩, ⟨rfl, rfl, by decide⟩,
    ⟨rfl, rfl, by decide, rfl, by decide⟩, by decide⟩

/-- A member whose partner is as it says. -/
def partnered (p : PairState) (f : PairSt → PairSt) (s : State) : State := (member p s).updPair f

theorem wit_pairs :
    ((member .lead on).pairOn = true ∧ (member .lead on).plWorks = true ∧ (member .lead on).trl.ops.length < 256) ∧
    (let s := partnered .lead (fun p => { p with pacer := true }) on; s.pair.pacer = true ∧ s.pair.st = .lead) ∧
    ¬ ((member .followIn on).pair.pacer = true ∧ (member .followIn on).pair.st = .lead) ∧ (member .followIn on).pair.st ≠ .lead ∧
    (member .lead on).handedOn .a (frame (gvtOf 2 0 (zeros 64))) = true ∧ (member .lead on).pair.plup.sel true = true ∧
    (partnered .lead (fun p => { p with optic := .both (some .sr) }) on).pair.optic.sel true = some .sr ∧
    (let s := partnered .followIn (fun p => { p with silence := 3 }) on; s.partnerSilent = true ∧ s.mayTake = true) ∧
    (let s := partnered .joining (fun p => { p with instep := 3 }) on; 3 ≤ s.pair.instep ∧ s.pair.st = .joining) ∧
    3 ≤ (partnered .lead (fun p => { p with both := 3 }) on).pair.both ∧
    (let s := partnered .joining (fun p => { p with sawJoining := true, joinOt := some 0 }) { on with time := { on.time with ot := 10000 } }
     s.pair.sawLead = false ∧ s.pair.joinOt = some 0 ∧ s.set.pair.joinwait * 1000 ≤ s.time.ot - 0) ∧
    (partnered .followIn (fun p => { p with partner := some { Health.init with flags := 4, pstate := 4 }, since := some 0 })
      (voting { on with time := { on.time with ot := 60000 } })).mayReturn = true ∧
    (let s := partnered .followIn (fun p => { p with applyOt := some 0 }) { on with
       stage := { on.stage with apply := some ⟨⟨1, 9, 7, 0x0406, true⟩, 2, false⟩ }
       time := { on.time with ot := 5000 } }
     s.pairBound = true ∧ s.pair.applyOt = some 0 ∧ 5000 ≤ s.time.ot - 0) ∧
    (member .lead on).pair.epoch < 2 ^ 16 ∧
    (let f := frame (gvtOf 2 0 (zeros 64))
     on.netUp .a = true ∧ on.tgReset = false ∧ f.fcsOk = true ∧ f.gvt.src.toNat ≠ on.id.modaddr ∧ f.gvt.serial = on.id.serial) ∧
    (let f := frame { gvtOf 2 0 (zeros 64) with src := 0, serial := 7 }
     f.fcsOk = true ∧ f.gvt.src.toNat = on.id.modaddr ∧ f.gvt.serial ≠ on.id.serial) :=
  ⟨⟨rfl, rfl, by decide⟩, ⟨rfl, rfl⟩, by decide, by decide, rfl, rfl, rfl, ⟨rfl, rfl⟩, ⟨by decide, rfl⟩, by decide,
    ⟨rfl, rfl, by decide⟩, rfl, ⟨rfl, rfl, by decide⟩, by decide, ⟨rfl, rfl, rfl, by decide, rfl⟩, ⟨rfl, rfl, by decide⟩⟩

/-- A transfer of window 2 in an outbound slot, as a request and after BUSY. -/
def xfer (sent busy : Option Nat) : Xfer := ⟨7, 2, .sp, 0, 1, 2, 0, 1, 4, [], 0, sent, busy, false⟩

theorem wit_transfers :
    (on.pow.sv = true ∧ (window2 on).sbRefusal .sp 2 0 1 4 = none ∧ (∃ st, on.sbRefusal .sp 2 0 1 4 = some st) ∧
      (window2 on).bridge.held = [] ∧ (window2 on).fetching = [] ∧ (window2 on).bridge.out.length < 32) ∧
    (let s := (window2 on).updBridge fun b => { b with held := [⟨.sp, 2, 0, 4, 0, zeros 4, 0⟩] }
     s.bridge.held.find? (sameRead .sp 2 0 4) = some ⟨.sp, 2, 0, 4, 0, zeros 4, 0⟩ ∧ s.sbRefusal .sp 2 0 1 4 = none ∧
     0 + 50 ≤ ({ s with time := { s.time with ot := 50 } }).time.ot) ∧
    (let s := { (window2 on).updBridge (fun b => { b with out := [xfer (some 0) none] }) with time := { on.time with ot := 200 } }
     s.bridge.out.find? (·.seq == 7) = some (xfer (some 0) none) ∧ 0 + (s.window 2).wtout ≤ s.time.ot) ∧
    (let s := { (window2 on).updBridge (fun b => { b with out := [xfer (some 0) (some 0)] }) with time := { on.time with ot := 1 } }
     s.bridge.out.find? (·.seq == 7) = some (xfer (some 0) (some 0)) ∧ 0 + 1 ≤ s.time.ot) :=
  ⟨⟨rfl, rfl, ⟨_, rfl⟩, rfl, rfl, by decide⟩, ⟨rfl, rfl, by decide⟩, ⟨rfl, by decide⟩, rfl, by decide⟩

/-- A bridge payload: operation, length and address, and data. -/
def bframe (bop addr : Nat) (data : Bytes) (len : Nat) : Frame :=
  frame (gvtOf 8 0 ([BitVec.ofNat 8 bop, 0] ++ (le 2 len).reverse ++ (le 4 addr).reverse ++ data))

theorem wit_bridge_frames (bop addr len : Nat) (data : Bytes) :
    crcOkGvt (bframe bop addr data len).gvt = true ∧ (bframe bop addr data len).gvt.typ = 8 :=
  ⟨crc_gvtOf _ _ _, rfl⟩

/-- A write and a read of the last word of the bench, a completion; all slots used; a request repeated; a bad CRC. -/
theorem wit_bridge :
    (let f := bframe 3 0x10FFFC [1, 2, 3, 4] 4
     on.handedOn .a f = true ∧ on.blockOut 0x1E = false ∧ on.sbOut = false ∧ ofLe (slice f.gvt.payload 0 1) = 3 ∧
     ofLe (slice f.gvt.payload 2 2).reverse = 4 ∧ ofLe (slice f.gvt.payload 4 4).reverse = 0x10FFFC ∧
     (f.gvt.payload.drop 8).take 4 = [1, 2, 3, 4] ∧ on.inSlot f.gvt.src.toNat = some 0 ∧ on.bridge.kept = []) ∧
    (ofLe (slice (bframe 1 0x100000 [] 256).gvt.payload 0 1) = 1 ∧ ofLe (slice (bframe 0x81 0 [] 4).gvt.payload 0 1) = 0x81) ∧
    (on.updBridge fun b => { b with inslots := List.replicate 16 (some 1) }).inSlot 5 = none ∧
    (on.updBridge fun b => { b with kept := [⟨5, 1, gvtZero⟩] }).bridge.kept.find? (fun k => k.src == 5 && k.seq == 1) =
      some ⟨5, 1, gvtZero⟩ ∧
    on.handedOn .a { bframe 1 0 [] 4 with gvt := { (bframe 1 0 [] 4).gvt with sc2 := 1 } } = true ∧
    crcOkGvt { (bframe 1 0 [] 4).gvt with sc2 := 1 } = false ∧
    ({ on with flt := { on.flt with hedges := [⟨.block, 0x1A, false, fBlk 0x1A 1, false, false, 1⟩] } }).sbOut = true ∧
    on.benchOk :=
  ⟨⟨rfl, rfl, rfl, rfl, rfl, rfl, rfl, rfl, rfl⟩, ⟨rfl, rfl⟩, rfl, rfl, rfl, by unfold crcOkGvt; simp, rfl, rfl, fun _ h => nomatch h⟩

/-- Tunnel 15 enabled on port 0 for module 5. -/
def tunnel15 (f : Tunnel → Tunnel) (s : State) : State :=
  s.updTunnel 15 fun t => f { t with flags := 1, fmod := 5, ftun := 1 }

theorem wit_tunnels :
    ((∃ t, (tunnel15 id on).portTunnels 0 = [(15, t)]) ∧ (tunnel15 id on).tunnelsRun = true) ∧
    (let f := frame (gvtOf 9 16 [1])
     (tunnel15 id on).handedOn .a f = true ∧ f.gvt.typ = 9 ∧ crcOkGvt f.gvt = true ∧ f.gvt.conn = 16 ∧
     tEnable ((tunnel15 id on).tunnel 15) = true ∧ ((tunnel15 id on).tunnel 15).fmod = f.gvt.src.toNat) ∧
    ((tunnel15 (fun t => { t with queue := [[1]] }) on).tunnel 15).queue = [[1]] ∧
    (let s := { tunnel15 (fun t => { t with up := true, heard := some 0 }) on with time := { on.time with ot := 3000 } }
     (s.tunnel 15).sentOt + 1000 ≤ s.time.ot ∧ (s.tunnel 15).up = true ∧ (s.tunnel 15).heard = some 0 ∧ 0 + 3000 ≤ s.time.ot) :=
  ⟨⟨⟨_, rfl⟩, rfl⟩, ⟨rfl, rfl, crc_gvtOf _ _ _, rfl, rfl, rfl⟩, rfl, by decide, rfl, rfl, by decide⟩

/-- The conditions on a frame's sender: its own address with another serial number, which is a duplicate; and not. -/
theorem wit_senders :
    (let f := frame { gvtOf 2 0 (zeros 64) with src := 0, serial := 7 }
     on.tgTakes .a f = true ∧ f.fcsOk = true ∧ f.gvt.src.toNat = on.id.modaddr ∧ f.gvt.serial ≠ on.id.serial) ∧
    (member .lead on).handedOn .a (frame (gvtOf 2 0 (zeros 64))) = true ∧
    (frame (gvtOf 2 0 (zeros 64))).gvt.src.toNat ≠ (member .lead on).id.modaddr ∧
    (let f := bframe 3 0 [1, 2, 3, 4] 4
     let g := { f with gvt := { f.gvt with src := 0, serial := 7 } }
     on.handedOn .a g = true ∧ g.gvt.typ = 8 ∧ on.blockOut 0x1E = false ∧ g.gvt.src.toNat = on.id.modaddr ∧
     g.gvt.serial ≠ on.id.serial ∧ f.gvt.src.toNat ≠ on.id.modaddr) ∧
    (let f := frame { gvtOf 9 16 [1] with src := 0, serial := 7 }
     on.tgTakes .a f = true ∧ f.gvt.typ = 9 ∧ f.fcsOk = true ∧ f.gvt.src.toNat = on.id.modaddr ∧ f.gvt.serial ≠ on.id.serial) ∧
    (frame (gvtOf 9 16 [1])).gvt.src.toNat ≠ (tunnel15 id on).id.modaddr ∧ (tunnel15 id on).blockOut 0x1E = false ∧
    (let s := ring 2 (fun x => { x with link := .both true }) 0 on
     let f := frame (gvtOf 0xE 0 [1])
     f.fcsOk = true ∧ f.lengthOk = true ∧ s.carriageOk .a f = true ∧ reservedOk f.gvt = true ∧
     f.gvt.src.toNat ≠ s.id.modaddr ∧ s.manager .a = true) ∧
    (let s := ring 2 (fun x => { x with ringsent := some 3 }) 5 on
     s.manager .a = true ∧ s.netUp .a = true ∧ (s.net .a).ringsent = some 3 ∧ 3 + 2 ≤ s.time.ot) ∧
    (let s := conn1 (fun c => { c with lastnet := ⟨1, 0⟩ }) 1000 on
     s.time.ot - 0 ≥ 1000 ∧ s.time.ot - 1 < 1000 ∧ (s.recv? 1).any (fun r => r.cstate == 2) = true ∧
     (s.conn? 1).any (fun c => c.lastnet.at .b == 0 && c.lastnet.at .a == 1 && c.silent.snd == false) = true) :=
  ⟨⟨rfl, rfl, rfl, by decide⟩, rfl, by decide, ⟨rfl, rfl, rfl, rfl, by decide, by decide⟩, ⟨rfl, rfl, rfl, rfl, by decide⟩,
    by decide, rfl, ⟨rfl, rfl, rfl, rfl, by decide, rfl⟩, ⟨rfl, rfl, rfl, by decide⟩, by decide, by decide, rfl, rfl⟩

/-- A first copy and a second one over the pair link. -/
theorem wit_pair_copies (r : CmdRef) :
    ((member .followIn on).pair.tookStart = none ∧ (member .followIn on).pair.tookCmd r = false ∧
      (member .followIn on).pair.st ≠ .lead) ∧
    (partnered .followIn (fun p => { p with tookStart := some 9 }) on).pair.tookStart = some 9 ∧
    (partnered .followIn (fun p => { p with fwd := [⟨1, 9, 7, 0x0A01, true⟩] }) on).pair.tookCmd ⟨1, 9, 7, 0x0A01, true⟩ = true ∧
    (partnered .lead (fun p => { p with closing := true }) on).pair.closing = true :=
  ⟨⟨rfl, rfl, by decide⟩, rfl, rfl, rfl⟩
/-! ### Records, images, tests, power -/

theorem wit_records_events :
    (let s := { on with recs := { on.recs with archUntil := some 5, drops := (1, 0, 0, 0), coals := [⟨3, 4, [], 0, 0, 1, 1, 1⟩] }
                        time := { on.time with ot := 1000 } }
     s.recs.archUntil = some 5 ∧ 5 ≤ s.time.ot ∧ s.recs.drops ≠ (0, 0, 0, 0) ∧ s.time.ot % 1000 = 0 ∧
     (s.recs.coals.find? fun c => c.kind == 3 && c.source == 4) = some ⟨3, 4, [], 0, 0, 1, 1, 1⟩ ∧ 0 + 1000 ≤ s.time.ot) ∧
    (logShape on.recs .fault = (8, 1024, [], 0) ∧ ([] : List Nat).contains 7 = false) ∧
    ({ on with time := { on.time with source := 1 } }).time.source = 1 ∧
    (let s := { on with time := { on.time with lock := true, synced := some 0, ot := 10000 } }
     s.time.lock = true ∧ s.time.synced = some 0 ∧ 0 + 10000 ≤ s.time.ot) :=
  ⟨⟨rfl, by decide, by decide, rfl, rfl, by decide⟩, ⟨rfl, rfl⟩, rfl, rfl, rfl, by decide⟩

/-- A stage-check of session 1 in progress. -/
def checkingSet (s : State) : State := { s with stage := { s.stage with checking := some ⟨1, 9, 7, 0x0405, true⟩ } }

/-- An activation of a kind, of slot B, 100 cycles old. -/
def act (kind : Nat) : ActSt := ⟨kind, true, none, [], [], none, none, false, 100, false, 0, false, false, 10000⟩
def activating (a : ActSt) (s : State) : State :=
  { s with upd := { s.upd with act := some a, kern := ⟨Slot.init, { Slot.init with env := { Envelope.init with level := 1 } }⟩ } }

theorem wit_images :
    ((checkingSet (voting on)).stage.checking = some ⟨1, 9, 7, 0x0405, true⟩ ∧
      ((checkingSet (voting on)).actives.filter fun l => (Trio.all false).get l) = [] ∧ (checkingSet (voting on)).nActive = 3 ∧
      ((checkingSet (voting on)).actives.filter fun l => (⟨false, true, false⟩ : Trio Bool).get l) = [.b] ∧
      2 ≤ ((checkingSet (voting on)).actives.filter fun l => (Trio.all true).get l).length ∧
      (let s := laneA (fun x => { x with st := .withdrawn }) (checkingSet (voting on))
       (s.actives.filter fun l => (⟨false, true, false⟩ : Trio Bool).get l).length = 1 ∧ s.nActive ≠ 3)) ∧
    (let s := updating 2 [0] { on with upd := { on.upd with verify := some ⟨1, 9, 7, 0x0603, true⟩ } }
     s.upd.verify.isSome = true ∧ s.upd.sess.isSome = true) ∧
    (({ updSessNew 5 2 4 1 [] with idle := 600000 } : UpdSess).idle ≥ 600000) ∧
    (let a := { act 1 with todo := [.a, .b, .c] }
     let s := activating a (voting on); s.upd.act = some a ∧ s.turnDue a .a = true ∧ s.cyc.phase ≠ .emit) ∧
    (let x := (laneA (fun x => { x with turn := true }) on).lane .a; x.turn = true ∧ x.st = .withdrawn) ∧
    (let s := activating (act 1) (voting on)
     s.switchReady = true ∧ s.nActive = 3 ∧ s.quietStart = true ∧ s.pow.mod = .service ∧ s.cyc.phase ≠ .emit ∧
     s.switchBound = false) ∧
    (let s := activating (act 1) (voting (member .followIn on))
     s.switchReady = true ∧ s.nActive = 3 ∧ s.quietStart = true ∧ s.switchBound = true ∧ s.pair.pacer = false) ∧
    ((activating (act 0) on).actPassed (act 0) = true ∧ (activating (act 2) on).actPassed (act 2) = true) ∧
    (let s := { activating { act 0 with switched := true } on with pow := { on.pow with sv := false } }
     s.upd.act = some { act 0 with switched := true } ∧ s.pow.sv = false) ∧
    (let s := { activating (act 2) on with pow := { on.pow with mod := .safe } }
     s.upd.act = some (act 2) ∧ (act 2).kind = 2 ∧ s.pow.mod ≠ .service ∧ 10000 ≤ (act 2).age) := by
  refine ⟨⟨rfl, rfl, rfl, rfl, by decide, rfl, by decide⟩, ⟨rfl, rfl⟩, by decide, ⟨rfl, rfl, by decide⟩, ⟨rfl, rfl⟩,
    ⟨rfl, rfl, rfl, rfl, by decide, rfl⟩, ⟨rfl, rfl, rfl, rfl, rfl⟩, ⟨rfl, rfl⟩, ⟨rfl, rfl⟩, rfl, rfl, by decide, by decide⟩

/-- A test in hand. -/
def testing (t : TestSt) (s : State) : State := { s with be := { s.be with test := some t } }
def test3 : TestSt := ⟨3, 5, ⟨1, 9, 7, 0x0801, true⟩, true, none, false, false, 0, false⟩

theorem wit_tests :
    ((testing test3 on).be.test = some test3 ∧ test3.running = true ∧ test3.abandoned = false ∧ test3.ended = none) ∧
    on.be.test = none ∧ (∃ p, (testing test3 on).badQty on.be.q 3 5 = some p) ∧
    (let q : Quantities := ⟨.all 850, 1000, 1000, List.replicate 6 24000⟩
     ({ testing test3 on with be := { (testing test3 on).be with osc := some 0 } }).badQty q 3 5 = none) ∧
    on.be.loop = true ∧ State.reset.pow.on = false :=
  ⟨⟨rfl, rfl, rfl, rfl⟩, rfl, ⟨_, rfl⟩, rfl, rfl, rfl⟩

/-- A lane that waits for its boot self-test, in a module state. -/
def bootLane (m : ModState) (s : State) : State :=
  laneA (fun x => { x with hold := .checking }) { s with pow := { s.pow with mod := m } }

theorem wit_power :
    State.reset.pow.on = false ∧
    (let s := { on with pow := { on.pow with restart := some .warm } }
     s.cmUp = true ∧ s.pow.pfail = false ∧ s.pow.restart = some .warm ∧ s.pow.mod ≠ .terminal) ∧
    (let s := { on with pow := { on.pow with pfail := true } }; s.pow.on = true ∧ s.pow.pfail = true) ∧
    (let s := bootLane .boot on; let x := s.lane .a
     x.hold = .checking ∧ x.rcheck = false ∧ x.arb = false ∧ x.turn = false ∧ x.passed = false ∧ x.supply = true ∧
     x.st = .withdrawn ∧ s.stopped = false ∧ s.id.lc.cycle = true ∧ s.pow.holdPlug = false ∧ s.pow.holdTemp = false ∧
     s.pow.holdDup = false ∧ s.pow.holdImage = false) ∧
    (bootLane .sync on).pow.mod = .sync ∧
    (let s := { bootLane .boot on with pow := { (bootLane .boot on).pow with holdTemp := true } }
     s.pow.mod = .boot ∧ s.pow.holdTemp = true) ∧
    (on.cmUp = true ∧ on.pow.mod ≠ .terminal ∧ on.pow.btnStuck = false ∧ on.pow.btnBad = false ∧ on.cells.length = 48) :=
  ⟨rfl, ⟨rfl, rfl, rfl, by decide⟩, ⟨rfl, rfl⟩, ⟨rfl, rfl, rfl, rfl, rfl, rfl, rfl, rfl, rfl, rfl, rfl, rfl, rfl⟩, rfl,
    ⟨rfl, rfl⟩, rfl, by decide, rfl, rfl, rfl⟩
/-! ### Requests admitted but refused, and both steps of each two-step command -/

/-- The change log out of service. -/
def noLog (s : State) : State := { s with recs := { s.recs with segC := List.range 32 } }

/-- The queue of orders full. -/
def fullOps (s : State) : State :=
  { s with trl := { s.trl with ops := List.replicate 256 ⟨⟨1, 9, 6, 0x0A01, true⟩, .routeSet 0, 0⟩ } }

/-- A token of credential 8 that takes `on` to QUARANTINE. -/
def quarToken : Bytes := [1, 5, 2, 0] ++ le 4 on.id.serial ++ le 4 on.id.lccnt ++ le 4 8 ++ zeros 128

theorem wit_list_refusals :
    Adm 0x0205 cmdOutputStatus [1, 48, 0, 0] on ∧ Adm 0x0205 cmdOutputStatus [48, 0, 0, 0] on ∧
    Adm 0x0206 cmdConnStatus [0, 1, 0, 0] on ∧ Adm 0x0802 cmdTestList [8, 0, 0, 0] on ∧
    (Adm 0x0403 cmdStageRead (le 2 0 ++ le 2 1) on ∧ on.stage.owner = 0) ∧
    (Adm 0x0403 cmdStageRead (le 2 0 ++ le 2 1) { on with stage := { on.stage with owner := 2 } } ∧
      (cx 0x0403 0 (le 2 0 ++ le 2 1)).ref.session = 1) ∧
    Adm 0x0403 cmdStageRead (le 2 0 ++ le 2 0) (staged on) ∧ Adm 0x0403 cmdStageRead (le 2 0 ++ le 2 102) (staged on) :=
  ⟨⟨rfl, rfl, rfl, rfl, _, rfl, rfl⟩, ⟨rfl, rfl, rfl, rfl, _, rfl, rfl⟩, ⟨rfl, rfl, rfl, rfl, _, rfl, rfl⟩,
    ⟨rfl, rfl, rfl, rfl, _, rfl, rfl⟩, ⟨⟨rfl, rfl, rfl, rfl, _, rfl, rfl⟩, rfl⟩, ⟨⟨rfl, rfl, rfl, rfl, _, rfl, rfl⟩, rfl⟩,
    ⟨rfl, rfl, rfl, rfl, _, rfl, rfl⟩, ⟨rfl, rfl, rfl, rfl, _, rfl, rfl⟩⟩

theorem wit_life_refusals :
    (noLog on).changeOut = true ∧ on.changeOut = false ∧
    Adm 0x0301 cmdLcTransition ([3, 0] ++ le 2 0) (noLog on) ∧
    (Adm 0x0301 cmdLcTransition ([0xEE, 0] ++ le 2 0) on ∧ LcState.ofCode 0xEE = none) ∧
    (Adm 0x0301 cmdLcTransition ([3, 0] ++ le 2 1025 ++ zeros 1025) on ∧
      Adm 0x0301 cmdLcTransition ([3, 0] ++ le 2 1024 ++ zeros 1024) on) ∧
    Adm 0x0301 cmdLcTransition ([3, 0] ++ le 2 0)
      { on with id := { on.id with lcReq := some (.service, ⟨1, 9, 6, 0x0301, true⟩, 8, zeros 16) } } ∧
    Adm 0x0302 cmdMode [3, 0, 0, 0] on ∧
    Adm 0x0302 cmdMode [2, 0, 0, 0] { on with cyc := { on.cyc with modereq := some (.run, ⟨1, 9, 6, 0x0302, true⟩) } } ∧
    Adm 0x0303 cmdRestart [2, 0, 0, 0] on ∧
    Adm 0x0303 cmdRestart [1, 0, 0, 0] { on with pow := { on.pow with restart := some .warm } } ∧
    Adm 0x0304 cmdMaint [2, 0, 0, 0] { on with id := { on.id with lc := .service } } :=
  ⟨rfl, rfl, ⟨rfl, rfl, rfl, rfl, _, rfl, rfl⟩, ⟨⟨rfl, rfl, rfl, rfl, _, rfl, rfl⟩, rfl⟩,
    ⟨⟨rfl, rfl, rfl, rfl, _, rfl, rfl⟩, ⟨rfl, rfl, rfl, rfl, _, rfl, rfl⟩⟩, ⟨rfl, rfl, rfl, rfl, _, rfl, rfl⟩,
    ⟨rfl, rfl, rfl, rfl, _, rfl, rfl⟩, ⟨rfl, rfl, rfl, rfl, _, rfl, rfl⟩, ⟨rfl, rfl, rfl, rfl, _, rfl, rfl⟩,
    ⟨rfl, rfl, rfl, rfl, _, rfl, rfl⟩, ⟨rfl, rfl, rfl, rfl, _, rfl, rfl⟩⟩

/-- A good token, given that the signature is one (a free function of Config decides). -/
theorem wit_transition (h : Config.ecdsaOk (zeros 97) (Config.sha384 (quarToken.take 0x30)) (quarToken.drop 0x30) = true) :
    Adm 0x0301 cmdLcTransition ([5, 0] ++ le 2 144 ++ quarToken) (withCreds on) ∧ LcState.ofCode 5 = some .quarantine ∧
    (withCreds on).cred? (rd quarToken 0x0C 4) = some ⟨8, 4, zeros 97⟩ ∧
    (withCreds on).lcTokenOk 5 quarToken = true ∧ (withCreds on).transition .quarantine = some (4, true) ∧
    lcWaits (withCreds on).id.lc .quarantine = false ∧ lcWaits (withCreds on).id.lc .service = true ∧
    Config.ecdsaOk (zeros 97) (Config.sha384 (quarToken.take 0x30)) (quarToken.drop 0x30) = true :=
  ⟨⟨rfl, rfl, rfl, rfl, _, rfl, rfl⟩, rfl, rfl, rfl, rfl, rfl, rfl, h⟩

theorem fullOps_length (s : State) : (fullOps s).trl.ops.length = 256 := List.length_replicate ..

theorem wit_two_step_refusals :
    Adm 0x0A06 cmdEmergRelease [0, 0, 0, 0, 3, 0, 0, 0] on ∧
    (Adm2 0x0A06 cmdEmergRelease [0, 0, 0, 0, 3, 0, 0, 0] (fullOps on) ∧ 256 ≤ (fullOps on).trl.ops.length) ∧
    Adm 0x0A07 cmdAxleReset [0, 0, 0, 0, 3, 0, 0, 0] on ∧ Adm 0x0A07 cmdAxleReset (zeros 8) (fullOps on) ∧
    Adm 0x0C03 cmdColdAssume [3, 0, 0, 0] (member .joining on) ∧ Adm 0x0C03 cmdColdAssume (zeros 4) (noLog (member .joining on)) ∧
    Adm2 0x0C03 cmdColdAssume [3, 0, 0, 0]
      ((member .joining on).updPair fun p => { p with assume := some ⟨1, 9, 6, 0x0C03, true⟩ }) ∧
    Adm 0x0E02 cmdForceClear ([0, 0, 0, 0] ++ zeros 8) on ∧ Adm 0x0E02 cmdForceClear ([5, 0, 0, 0] ++ zeros 8) on ∧
    Adm 0x0E02 cmdForceClear ([1, 0, 0, 0] ++ le 4 5 ++ [3, 0, 0, 0]) (forcedRoute on) ∧
    (Adm 0x0E02 cmdForceClear ([1, 0, 0, 0] ++ le 4 5 ++ zeros 4) on ∧ on.forceStands 1 5 = false) ∧
    Adm2 0x0E02 cmdForceClear ([1, 0, 0, 0] ++ le 4 5 ++ [3, 0, 0, 0])
      (stepped 0x0E02 2000 ([1, 0, 0, 0] ++ le 4 5 ++ [0, 0]) on) := by
  refine ⟨⟨rfl, rfl, rfl, rfl, _, rfl, rfl⟩, ⟨⟨rfl, rfl, rfl, rfl, _, rfl, rfl⟩, Nat.le_of_eq (fullOps_length on).symm⟩,
    ⟨rfl, rfl, rfl, rfl, _, rfl, rfl⟩, ⟨rfl, rfl, rfl, rfl, _, rfl, rfl⟩, ⟨rfl, rfl, rfl, rfl, _, rfl, rfl⟩,
    ⟨rfl, rfl, rfl, rfl, _, rfl, rfl⟩, ⟨rfl, rfl, rfl, rfl, _, rfl, rfl⟩, ⟨rfl, rfl, rfl, rfl, _, rfl, rfl⟩,
    ⟨rfl, rfl, rfl, rfl, _, rfl, rfl⟩, ⟨rfl, rfl, rfl, rfl, _, rfl, rfl⟩, ⟨⟨rfl, rfl, rfl, rfl, _, rfl, rfl⟩, rfl⟩,
    ⟨rfl, rfl, rfl, rfl, _, rfl, rfl⟩⟩

/-- 08 R238: a key is not taken by STAGE_WRITE. -/
theorem test_key_entry :
    ((req 0x0402 0 [] (staged on)).takesEntry ⟨0x06, 2, 0, zeros 16⟩ = true) ∧
    ((staged on).stageAll [[0x06, 0, 2, 0, 0, 0, 16, 0] ++ zeros 32] 0).isOk = false := ⟨rfl, rfl⟩

/-! ### Reads of the window, turns, the clock's master, lines and rounds -/

/-- A header of a read of n bytes from endpoint 1. -/
def rhead (n : Nat) : NspHead := { head n with op := 1 }

theorem wit_reads :
    (on.pow.on = true ∧ on.blockOut 0x21 = false) ∧
    (let s := served on
     s.serving = true ∧ s.pathOpen (rhead 4) = true ∧
     s.mail.eps.find? (fun e => e.path == (rhead 4).path && e.ip == (rhead 4).ip && e.port == (rhead 4).port) =
       some ⟨1, .svc, 7, 8, 0, []⟩ ∧ nspOk (rhead 4) 0x4FFFC [] = true ∧ 0x4FFFC + (rhead 4).dlen ≤ 0x50000 ∧
     nspOk (rhead 8) 0x4FFFC [] = true ∧ 0x50000 < 0x4FFFC + (rhead 8).dlen) ∧
    (∃ b, ((boxed 1 (fun b => { b with st := .done }) on).csalrt = true) ∧ b = (boxed 1 id on).csalrt ∧ b = false) :=
  ⟨⟨rfl, rfl⟩, ⟨rfl, rfl, rfl, rfl, by decide, rfl, by decide⟩, _, rfl, rfl, rfl⟩

/-- A read above the window is an error on NSP; on CSPI it reads zeros (12 R343). -/
theorem test_reads :
    (match exec (.registerWrite (.nsp (rhead 8)) 0x4FFFC []) (served on) with
     | .next t => t.mail.replies.map (fun r => (r.op, r.nstat, r.data)) | _ => []) = [(0x81, 1, [])] ∧
    (match exec (.registerWrite (.cspiRead 2) 0x4FFFF []) on with | .next t => t.mail.cspiOut | _ => []) = [0, 0] := ⟨rfl, rfl⟩

/-- A tag that is not later than the session's last. -/
theorem wit_tags :
    ((boxed 1 id on).tagSess 0 1 = some ([], none)) ∧ serialAfter 32 5 4 = true ∧ serialAfter 32 4 5 = false := ⟨rfl, rfl, rfl⟩

/-- A second step of a command of one step. -/
theorem wit_one_step :
    let s := req 0x0302 1 [0, 0, 0, 0] on
    (reqOf (s.box 1)).flags = 1 ∧ (cmdRow? 0x0302).any (fun k => !k.two) = true ∧ s.groupAdmitted 0x0302 = true ∧
    cmdMode.admission s (cx 0x0302 1 [0, 0, 0, 0]) = true := ⟨rfl, rfl, rfl, rfl⟩

/-- A request in a session of the Factory role, left over in COMMISSIONING; a lower role than a command takes. -/
theorem wit_role_checks :
    on.id.lc.session 5 = false ∧ (cmdRow? 0x0401).any (fun k => 3 ≤ k.role) = true ∧ on.partnerInStep = false ∧
    (member .followIn on).paired = true := ⟨rfl, rfl, rfl, rfl⟩

/-- A lane's turn, and the level switch, asked for and due. -/
theorem wit_asked :
    (let a := { act 1 with todo := [.a, .b, .c] }
     (activating a (voting on)).upd.act = some a ∧ a.kind = 1 ∧ a.todo.head? = some .a ∧ a.turn = none) ∧
    (let a := { act 1 with todo := [.a, .b, .c], asked := some .a }
     let s := activating a (voting on)
     s.upd.act = some a ∧ a.asked = some .a ∧ s.turnDue a .a = true) ∧
    (let a := { act 1 with askedLevel := true }
     let s := activating a (voting on)
     s.upd.act = some a ∧ a.askedLevel = true ∧ s.switchReady = true ∧ s.nActive = 3 ∧ s.quietStart = true ∧
     s.pow.mod = .service ∧ s.switchBound = false) ∧
    (let a := { act 1 with askedLevel := true }
     let s := activating a (voting (member .followIn on))
     s.upd.act = some a ∧ s.switchReady = true ∧ s.quietStart = true ∧ s.switchBound = true ∧ s.pair.pacer = false) :=
  ⟨⟨rfl, rfl, rfl, rfl⟩, ⟨rfl, rfl, rfl⟩, ⟨rfl, rfl, rfl, rfl, rfl, rfl, rfl⟩, rfl, rfl, rfl, rfl, rfl⟩

/-- The chosen master of IEEE 1588: none yet, a better one, a worse one, and a worse one 10 s after the last. -/
theorem wit_masters :
    let t (ot : Nat) : TimeSt := { on.time with master := some (1, 5), synced := some 0, ot := ot }
    let m (rank : Nat) : PtpMaster := ⟨.svc, 2, rank, 0⟩
    on.ptpOpen .svc = true ∧ on.time.takesMaster (m 9) = true ∧ (t 1).takesMaster (m 4) = true ∧
    (t 9999).takesMaster (m 5) = false ∧ (t 10000).takesMaster (m 5) = true := ⟨rfl, rfl, rfl, rfl, rfl⟩

/-- A two-wire line that has been idle for its turnaround time; tunnels that do not run; a repeated echo. -/
theorem wit_lines :
    (let s := { tunnel15 (fun t => { t with flags := 3, queue := [[1]] }) on with time := { on.time with ot := 1000 } }
     (s.tunnel 15).queue = [[1]] ∧ s.tunnelsRun = true ∧ tEnable (s.tunnel 15) = true ∧ (s.port 0).busy = none) ∧
    (let s := { tunnel15 id on with pow := { on.pow with mod := .boot } }; s.tunnelsRun = false) ∧
    (on.updPort 0 (LegacyPort.sent 0 true [1])).ports.length = on.ports.length ∧
    ((on.updPort 0 (LegacyPort.sent 0 true [1])).port 0).echo = some [1] := ⟨⟨rfl, rfl, rfl, rfl⟩, rfl, rfl, rfl⟩

/-- A first close and report of a cycle over the pair link; an older block; an apply of the partner's that is another. -/
theorem wit_pair_first :
    (member .followIn on).pair.tookClose = none ∧ (member .followIn on).pair.tookReport = none ∧
    serialAfter 64 2 1 = true ∧ (member .followIn on).pair.farApply ≠ some (member .followIn on).stgId := ⟨rfl, rfl, rfl, by decide⟩

/-- The third differing sample of a pilot is the fault; an equal one ends the run (07 R210). -/
theorem test_read_run :
    let r (vs : List Bool) : ChSt := vs.foldl (fun c v => ChSt.readPx true v c) ChSt.init
    (r [false, false]).diff = 2 ∧ (r [false, false, false]).diff = 3 ∧ (r [false, true, false]).diff = 1 := ⟨rfl, rfl, rfl⟩

theorem wit_round_times :
    (let s := { voting on with time := { on.time with ot := 1000 } }; s.roundCounted .a = true) ∧
    (let s := { on with frame := { on.frame with rounds := true, roundAt := 0 }, banks := modAt (fun b => { b with pos := 49 }) 0 on.banks, time := { on.time with ot := 980 } }
     s.frame.roundAt + 20 * (s.bank 0).pos ≤ s.time.ot ∧ (s.bank 0).pos < 50) ∧ on.railCut 0 = false := ⟨rfl, by decide, rfl⟩
/-! ### The block as a whole, votes and escalation -/

theorem wit_block :
    State.reset.pending = [] ∧ (on.pow.on = true ∧ on.pow.commons = true ∧ on.pending = []) ∧ reachesApp .thermalTrip = false ∧
    State.reset.cells.length = 48 ∧ State.reset.benchOk ∧ step State.reset = .next State.reset ∧
    (∃ t, exec .buttonReenable { on with pow := { on.pow with mod := .safe } } = .next t ∧ t.pow.mod = .safe) ∧
    (∃ t, exec .buttonReenable { on with pow := { on.pow with mod := .terminal } } = .next t ∧ t.pow.mod = .terminal) :=
  ⟨rfl, ⟨rfl, rfl, rfl⟩, rfl, rfl, ⟨rfl, fun _ h => nomatch h⟩, rfl, ⟨_, rfl, rfl⟩, ⟨_, rfl, rfl⟩⟩

theorem wit_offOk : State.reset.offOk := by
  refine ⟨rfl, fun x h _ => ?_⟩
  rw [List.eq_of_mem_replicate h]; rfl

/-- A vote form with a digest and a drive word. -/
def formOf (digest : Nat) (drive : CellMask) : VoteForm := { VoteForm.empty with digest := digest, drive := drive }

/-- One lane odd; three that differ; each two lanes odd; two forms that agree, and that do not. -/
theorem wit_votes :
    (OddOne (formOf 2 0) (formOf 1 0) (formOf 1 0) 1 ∧ ∀ i ∈ itemsOf [(.a, formOf 1 0), (.b, formOf 1 0), (.c, formOf 2 0)],
      itemOf (formOf 1 0) i = itemOf (formOf 1 0) i) ∧
    (let is := itemsOf [(.a, formOf 0 0), (.b, formOf 1 0), (.c, formOf 2 0)]
     1 ∈ is ∧ itemOf (formOf 0 0) 1 ≠ itemOf (formOf 1 0) 1 ∧ itemOf (formOf 1 0) 1 ≠ itemOf (formOf 2 0) 1 ∧
       itemOf (formOf 0 0) 1 ≠ itemOf (formOf 2 0) 1) ∧
    (OddOne (formOf 1 0) (formOf 0 1) (formOf 0 0) 1 ∧ OddOne (formOf 0 1) (formOf 1 0) (formOf 0 0) 2) ∧
    (∀ i ∈ itemsOf [(.a, formOf 1 0), (.b, formOf 1 0)], itemOf (formOf 1 0) i = itemOf (formOf 1 0) i) ∧
    (∃ i ∈ itemsOf [(.a, formOf 1 0), (.b, formOf 2 0)], itemOf (formOf 1 0) i ≠ itemOf (formOf 2 0) i) := by
  refine ⟨⟨by unfold OddOne; decide, fun _ _ => rfl⟩, by decide, ⟨by unfold OddOne; decide, by unfold OddOne; decide⟩,
    fun _ _ => rfl, 1, by decide, by decide⟩

/-- A source that is counted, below its N and at it; and one that is not. -/
def counting (n : Nat) (past : List EscSt) : State :=
  { on with
    set := { on.set with esc := [⟨0, 1, 3, 1, 1, 3, n, 1000⟩] }
    flt := { on.flt with esc := past } }

theorem wit_escalation :
    let f : Fsid := ⟨1, 0, 3, 0, 1⟩
    detSettings (counting 2 []) f 1 = (1, 3, 2, 1000) ∧ ((counting 2 []).flt.esc.find? (·.fsid == f)) = none ∧
    ((counting 2 [⟨f, [0], 0, 1⟩]).flt.esc.find? (·.fsid == f)) = some ⟨f, [0], 0, 1⟩ ∧
    (counting 2 [⟨f, [0], 0, 1⟩]).presentClass f 1 = 1 ∧ detSettings (counting 0 []) f 1 = (1, 3, 0, 1000) :=
  ⟨rfl, rfl, rfl, rfl, rfl⟩

/-- A fault source of the widths of 01 R18. -/
theorem wit_fsid : (⟨7, 7, 63, 4095, 255⟩ : Fsid).wf = true ∧ (⟨0, 3, 0x12, 19, 4⟩ : Fsid).wf = true := ⟨rfl, rfl⟩

/-! ### Ill-formed commands: one for each check -/

theorem test_wf_numbers :
    (Instr.openSession 16).wf = false ∧ (Instr.openSession 15).wf = true ∧ (Instr.sxCurrentLimit 48).wf = false ∧
    (Instr.bankSupplyRecover 6).wf = false ∧ (Instr.skewExpiry 0 false).wf = false ∧
    (Instr.skewExpiry (Config.nConns + 1) false).wf = false ∧ (Instr.moveTimeLimit Config.maxElems).wf = false ∧
    (Instr.requestLifetime Config.maxRoutes).wf = false ∧ (Instr.tunnelDown 16).wf = false ∧
    (Instr.learnedAddressAgeing .a (2 ^ 48)).wf = false ∧ (Instr.ptpSync 0 ⟨.svc, 0, 0, 2 ^ 48⟩).wf = false ∧
    (Instr.sessionIdleTimeout (2 ^ 32)).wf = false ∧ (Instr.logSegmentFailure .fault 256).wf = false ∧
    (Instr.legacyFrameReceived 4 [] .good).wf = false ∧ (Instr.fabricGrantTimeout (.service 16)).wf = false ∧
    (Instr.eventAck .a (2 ^ 64)).wf = false ∧ (Instr.graceExpiry (2 ^ 64)).wf = false ∧
    (Instr.settleWindowEnd 64 true).wf = false ∧ (Instr.illegalDualRailCode 5 0).wf = false ∧
    (Instr.illegalDualRailCode 0 64).wf = false ∧ (Instr.coalescingWindowEnd 256 0).wf = false := by
  refine ⟨?_, ?_, ?_, ?_, ?_, ?_, ?_, ?_, ?_, ?_, ?_, ?_, ?_, ?_, ?_, ?_, ?_, ?_, ?_, ?_, ?_⟩ <;> decide

theorem test_wf_spans :
    (Instr.sbRead 64 0 4).wf = false ∧ (Instr.sbRead 0 0 0).wf = false ∧ (Instr.sbRead 0 0 260).wf = false ∧
    (Instr.sbRead 0 0 6).wf = false ∧ (Instr.sbRead 63 0 256).wf = true ∧ (Instr.sbWrite 0 (2 ^ 32) [0, 0, 0, 0]).wf = false ∧
    (Instr.sbPostedWrite 0 0 []).wf = false ∧ (Instr.sbHeldResultExpiry true 64 0 4).wf = false := by
  refine ⟨?_, ?_, ?_, ?_, ?_, ?_, ?_, ?_⟩ <;> decide

theorem test_wf_register :
    (Instr.registerWrite .cspi 0 []).wf = false ∧ (Instr.registerWrite .cspi (2 ^ 32) [0]).wf = false ∧
    (Instr.mailboxClaim (.nsp { head 4 with port := 2 ^ 16 }) 0 0).wf = false ∧ (Instr.mailboxClaim .cspi 0 (2 ^ 16)).wf = false ∧
    (Instr.doorbellRing .cspi 0 (2 ^ 16)).wf = false ∧ (Instr.mailboxRelease (.nsp { head 4 with tag := zeros 17 }) 0).wf = false := by
  refine ⟨?_, ?_, ?_, ?_, ?_, ?_⟩ <;> decide

theorem test_wf_faults :
    (Instr.faultEventCollected ⟨8, 0, 0, 0, 0⟩).wf = false ∧ (Instr.escalation ⟨0, 8, 0, 0, 0⟩).wf = false ∧
    (Instr.escalation ⟨0, 0, 64, 0, 0⟩).wf = false ∧ (Instr.escalation ⟨0, 0, 0, 4096, 0⟩).wf = false ∧
    (Instr.escalationWindowExpiry ⟨0, 0, 0, 0, 256⟩).wf = false := by
  refine ⟨?_, ?_, ?_, ?_, ?_⟩ <;> decide

theorem test_wf_frames :
    (Instr.frameReceived .a (frame gvtZero) 1000).wf = false ∧ (Instr.frameReceived .a (frame gvtZero) 999).wf = true ∧
    (Instr.heartbeatReceived .a { frame gvtZero with vid := 4096 }).wf = false ∧
    (Instr.bridgeFrameReceived .a (frame { gvtZero with typ := 16 })).wf = false ∧
    (Instr.tunnelFrameReceived .a (frame { gvtZero with macv := [0] })).wf = false ∧
    (Instr.ringtestReceived .a false { frame gvtZero with carriage := .raw (2 ^ 16) }).wf = false ∧
    (Instr.switchForwarding .a false { frame gvtZero with carriage := .udp ⟨2 ^ 32, 0, true, 64, 0, 0, 0⟩ }).wf = false := by
  refine ⟨?_, ?_, ?_, ?_, ?_, ?_, ?_⟩ <;> decide

theorem test_wf_cycle :
    (Instr.dueMark .a { env 0 with us := 1000 }).wf = false ∧
    (FormIn.sent 0 { VoteForm.empty with nconn := 256 } ⟨0, 0, .all 0, List.replicate 8 0⟩ false []).wf = false ∧
    (FormIn.sent 0 VoteForm.empty ⟨0, 0, .all 0, List.replicate 7 0⟩ false []).wf = false ∧
    (⟨64, 0, .read 4⟩ : LaneTransfer).wf = false ∧ (⟨0, 0, .write [0]⟩ : LaneTransfer).wf = false ∧
    (Instr.telegramRelease 0 none none (.all 0) (.all true)).wf = false ∧ (Instr.inputFilterChange .a 0 []).wf = false ∧
    (Instr.readbackFault .a 0 [true]).wf = false ∧ (Instr.testComplete [256]).wf = false ∧
    (Instr.preconditionCheck { Quantities.init with fsv := [0, 0, 0, 0, 0, 0, 0] }).wf = false := by
  refine ⟨?_, ?_, ?_, ?_, ?_, ?_, ?_, ?_, ?_, ?_⟩ <;> decide

theorem test_wf_pair :
    (Instr.pstartReceived ⟨2 ^ 64, 0, [], [], [], none, false, true⟩ 0).wf = false ∧
    (Instr.pstartReceived ⟨0, 0, [], [⟨⟨1, 9, 7, 0x0A01, true⟩, .routeSet Config.maxRoutes, 0⟩], [], none, false, true⟩ 0).wf = false ∧
    (Instr.mblockReceived ⟨0, 2 ^ 16, true, []⟩).wf = false ∧ (Instr.mcloseReceived ⟨0, 2 ^ 16, 0, true⟩).wf = false ∧
    (Instr.preportReceived true { Health.init with pstate := 256 }).wf = false ∧
    (Instr.cmdfwdReceived ⟨true, .apply (2 ^ 32)⟩).wf = false ∧
    (Instr.cmdfwdReceived ⟨true, .op ⟨⟨1, 9, 7, 0x0A05, true⟩, .keyRelease Config.maxElems, 0⟩⟩).wf = false ∧
    (Instr.cmdfwdReceived ⟨true, .force ⟨⟨1, 9, 7, 0x0E01, true⟩, true, 256, 0, 0⟩⟩).wf = false := by
  refine ⟨?_, ?_, ?_, ?_, ?_, ?_, ?_, ?_⟩ <;> decide

/-! ### Values the spec works out -/

/-- 01 R18: the two worked fault source words. -/
theorem test_fword : fword ⟨0, 3, 0x12, 19, 4⟩ = 0x0D201304 ∧ fword ⟨1, 1, 0x01, 0, 1⟩ = 0x24100001 := ⟨rfl, rfl⟩

/-- 02, the worked timer: CLRPRE 300 expires permissively at 3,010 ms; 03, the worked overlap: OLREL 4,500 at 45,136 ms. -/
theorem test_expiry : expP 3010 300 = true ∧ expP 3009 300 = false ∧ expP 45136 4500 = true ∧ expP 45135 4500 = false ∧
    expR 3000 300 = true ∧ expR 2999 300 = false := by decide

/-- 13 R365: a byte of the bench written is read back, and writing 0 removes its cell. -/
theorem test_bench : Memory.read 3 (Memory.write 3 7 []) = 7 ∧ Memory.read 4 (Memory.write 3 7 []) = 0 ∧
    Memory.write 3 0 (Memory.write 3 7 []) = [] := by decide

/-- 03 R88: the successor of 0xFFFFFFFF comes after it. -/
theorem test_serial : serialAfter 32 1 0xFFFFFFFF = true ∧ serialAfter 32 0xFFFFFFFF 1 = false := by decide

/-- The CRC-32C check value of the digits 1 to 9 (the code of 08 R232 and 16 R434). -/
theorem test_crc32c : crc32c [0x31, 0x32, 0x33, 0x34, 0x35, 0x36, 0x37, 0x38, 0x39] = 0xE3069283 := by decide

/-- 03, the worked vector: elements 0 to 7 in the three lanes. -/
theorem test_lane_forms : okA 0xA1#8 0xBE 0xDF 0x96 0x4D = 0xF7 ∧ nokB 0x5E#8 0x41 0x20 0x69 0xB2 = 0x08 ∧
    dualWord 8 0xA1 = 0x66A9 ∧ dualWord 8 0xBE = 0x6556 ∧ dualWord 8 0xDF = 0x5955 ∧ dualWord 8 0xF7 = 0x5595 := by decide


end Sys2Proof.Tests
end

section
/-! The rules of the route engine stated word for word: serial order and NEXTSEQ (03 R88), and the watch over a route that
stands in RELEASING (03 R101). -/

namespace Sys2Proof.Machine

/-! ### Serial order and NEXTSEQ (R88) -/

/-- `serialAfter` reduces what it subtracts modulo 2^32; under the bound on a that is a itself, as R88 writes it. -/
theorem serialAfter_32_iff {a : Nat} (b : Nat) (ha : a < 2 ^ 32) :
    serialAfter 32 b a = true ↔ 1 ≤ (b + 2 ^ 32 - a) % 2 ^ 32 ∧ (b + 2 ^ 32 - a) % 2 ^ 32 ≤ 2 ^ 31 - 1 := by
  simp only [serialAfter, Nat.mod_eq_of_lt ha, Bool.and_eq_true, decide_eq_true_eq]
  omega

/-- A cold start puts the Trellis record at its Reset values: the connections and the forces, formed anew after it, leave
it alone. -/
theorem State.coldStart_trellis (s : State) : s.coldStart.app.trellis = TrellisRec.init := rfl

theorem State.takeReqseq_fst (s : State) : s.takeReqseq.1 = s.app.trellis.nextseq := rfl

theorem State.takeReqseq_nextseq (s : State) :
    s.takeReqseq.2.app.trellis.nextseq =
      if (s.app.trellis.nextseq + 1) % 2 ^ 32 = 0 then 1 else (s.app.trellis.nextseq + 1) % 2 ^ 32 := by
  simp only [State.takeReqseq, wrapInc, beq_iff_eq]

/-- Settles O55: serial order is a distance modulo 2^32, NEXTSEQ is 1 at cold start, and its successor skips 0. -/
theorem serialOrder : Obligations.SerialOrder := by
  unfold Obligations.SerialOrder
  refine ⟨fun a b ha _ => serialAfter_32_iff b ha, fun s => ?_, fun s => ⟨s.takeReqseq_fst, s.takeReqseq_nextseq⟩⟩
  rw [s.coldStart_trellis]
  rfl

/-! ### The watch over a route in RELEASING (R101) -/

/-- A watch over route r has run for 600 s, and its event is not raised yet. -/
def State.quietDue (s : State) (r : Nat) : Prop :=
  ∃ w ∈ s.flt.watch, w.route = r ∧ 600000 ≤ w.ms ∧ w.raised = false

/-- The state with the event of route r marked as raised. -/
def State.quietMarked (s : State) (r : Nat) : State :=
  { s with flt := { s.flt with
      watch := s.flt.watch.map fun w => if w.route = r then { w with raised := true } else w } }

theorem State.quietDue_iff_any (s : State) (r : Nat) :
    s.quietDue r ↔ (s.flt.watch.any fun w => w.route == r && 600000 ≤ w.ms && !w.raised) = true := by
  simp [State.quietDue, and_assoc]

/-- The check marks the watch and collects one F1 event of the route. -/
theorem State.quietCheck_due {s : State} {r : Nat} (h : s.quietDue r) :
    s.quietCheck r = ((s.quietMarked r).collectFull ⟨0, s.lowLane.num, 0x03, r, 0x01⟩ 1 none none none).2 := by
  have hmark : (modWhere (·.route == r) (fun w : RelWatch => { w with raised := true }) s.flt.watch) =
      (s.quietMarked r).flt.watch := by simp [modWhere, State.quietMarked]
  rw [State.quietCheck, if_pos ((s.quietDue_iff_any r).1 h), hmark]
  rfl

/-- The check does nothing while no event is due. -/
theorem State.quietCheck_not_due {s : State} {r : Nat} (h : ¬ s.quietDue r) : s.quietCheck r = s :=
  if_neg fun c => h ((s.quietDue_iff_any r).2 c)

theorem State.not_quietDue_of_lt {s : State} {r : Nat} (h : ∀ w ∈ s.flt.watch, w.route = r → w.ms < 600000) :
    ¬ s.quietDue r := by
  rintro ⟨w, hw, hr, hms, -⟩
  exact absurd (h w hw hr) (Nat.not_lt.2 hms)

/-- A marked event is not due again. -/
theorem State.not_quietDue_quietMarked (s : State) (r : Nat) : ¬ (s.quietMarked r).quietDue r := by
  rintro ⟨w, hw, hr, -, hraised⟩
  obtain ⟨v, -, rfl⟩ := List.mem_map.1 hw
  split at hr <;> simp_all

theorem State.quietDue_congr {s t : State} (h : s.appl = t.appl) (r : Nat) : s.quietDue r ↔ t.quietDue r := by
  simp only [State.appl, Prod.mk.injEq] at h
  obtain ⟨-, -, -, hwatch⟩ := h
  rw [State.quietDue, State.quietDue, hwatch]

theorem State.cellRec_congr {s t : State} (h : s.appl = t.appl) (r : Nat) : s.cellRec r = t.cellRec r := by
  simp only [State.appl, Prod.mk.injEq] at h
  obtain ⟨-, happ, -, -⟩ := h
  rw [State.cellRec, State.cellRec, happ]

theorem exec_releasingTimeout (r : Nat) (s : State) : exec (.releasingTimeout r) s = .next (s.quietCheck r) := rfl

/-- An event of any source, collected after the mark, leaves the route without an event due. -/
theorem State.not_quietDue_collectFull (s : State) (r : Nat) (f : Fsid) (dflt : Nat) :
    ¬ (State.collectFull (s.quietMarked r) f dflt none none none).2.quietDue r := by
  rw [State.quietDue_congr (State.collectFull_appl ..)]
  exact s.not_quietDue_quietMarked r

theorem watchNext_releasing_some {c : RouteCell} (dt r : Nat) (w : RelWatch) (h : c.rstate = 8) :
    watchNext dt r c (some w) =
      some (if w.groups = c.reldone then { w with ms := elapse w.ms dt } else ⟨r, c.reldone, 0, false⟩) := by
  by_cases hg : w.groups = c.reldone <;> simp [watchNext, h, hg]

theorem watchNext_releasing_none {c : RouteCell} (dt r : Nat) (h : c.rstate = 8) :
    watchNext dt r c none = some ⟨r, c.reldone, 0, false⟩ := by simp [watchNext, h]

theorem watchNext_not_releasing {c : RouteCell} (dt r : Nat) (w : Option RelWatch) (h : c.rstate ≠ 8) :
    watchNext dt r c w = none := by simp [watchNext, h]

/-- Settles O56: the event is raised once, because its mark outlives the collection, which leaves the running application
(the watches and the route cell records) alone. -/
theorem releasingQuiet : Obligations.ReleasingQuiet := by
  unfold Obligations.ReleasingQuiet
  refine ⟨fun s r _ hrel => ⟨fun hdue => ⟨s.quietMarked r, rfl, ?_, ?_, ?_⟩, fun hlt => ?_⟩,
    fun dt r _ w h => watchNext_releasing_some dt r w h, fun dt r _ h => watchNext_releasing_none dt r h,
    fun dt r _ w h => watchNext_not_releasing dt r w h⟩
  · rw [exec_releasingTimeout, State.quietCheck_due hdue]
  · rw [State.cellRec_congr (State.collectFull_appl ..)]
    exact hrel
  · rw [exec_releasingTimeout, State.quietCheck_not_due (s.not_quietDue_collectFull r _ _)]
  · rw [exec_releasingTimeout, State.quietCheck_not_due (State.not_quietDue_of_lt hlt)]

end Sys2Proof.Machine
end

section
/-! The LANESTATE word of SUMMARY (05 R173), and the facts about packed words and laid-out blocks that it rests on. -/

namespace Sys2Proof.Machine

/-! ### Bits and fields of packed words -/

theorem b2n_eq_toNat (b : Bool) : b2n b = b.toNat := by cases b <;> rfl

theorem b2n_lt_two (b : Bool) : b2n b < 2 := b2n_eq_toNat b ▸ b.toNat_lt

theorem b2n_inj {a b : Bool} : b2n a = b2n b ↔ a = b := by revert a b; decide

/-- Bit i of a word is a flag exactly when the word's arithmetic finds the flag's number there. -/
theorem testBit_eq_iff_b2n (w i : Nat) (b : Bool) : w.testBit i = b ↔ w / 2 ^ i % 2 = b2n b := by
  rw [← Nat.toNat_testBit, ← b2n_eq_toNat, b2n_inj]

/-! ### Fields of a block laid out with `le` -/

@[simp] theorem length_le_bytes (n v : Nat) : (le n v).length = n := by
  induction n generalizing v with
  | zero => rfl
  | succ n ih => rw [le, List.length_cons, ih]

/-- The slice at the place of a field, between the fields before it and those after, is that field. -/
theorem slice_append_append {pre field : Bytes} {off n : Nat} (post : Bytes) (hoff : pre.length = off)
    (hn : field.length = n) : slice (pre ++ (field ++ post)) off n = field := by
  subst hoff hn
  rw [slice, padTo, List.drop_left, List.append_assoc, List.take_left]

/-! ### LANESTATE (R173) -/

theorem LaneState.code_lt_four (x : LaneState) : x.code < 4 := by cases x <;> decide

theorem State.laneWord_eq (s : State) :
    s.laneWord = (s.lane .a).st.code + 4 * (s.lane .b).st.code + 16 * (s.lane .c).st.code +
      64 * b2n (s.lane .a).latched + 128 * b2n (s.lane .b).latched + 256 * b2n (s.lane .c).latched +
      512 * b2n (s.nActive == 2) := rfl

/-- A word packed as LANESTATE is, from codes of two bits and flags, gives each back at its own place, and holds nothing
above bit 9. -/
theorem laneWord_fields {w a b c : Nat} {la lb lc duo : Bool} (ha : a < 4) (hb : b < 4) (hc : c < 4)
    (hw : w = a + 4 * b + 16 * c + 64 * b2n la + 128 * b2n lb + 256 * b2n lc + 512 * b2n duo) :
    w % 4 = a ∧ w / 4 % 4 = b ∧ w / 16 % 4 = c ∧
    w.testBit 6 = la ∧ w.testBit 7 = lb ∧ w.testBit 8 = lc ∧ w.testBit 9 = duo ∧ w / 2 ^ 10 = 0 := by
  have hla := b2n_lt_two la
  have hlb := b2n_lt_two lb
  have hlc := b2n_lt_two lc
  have hduo := b2n_lt_two duo
  simp only [testBit_eq_iff_b2n]
  refine ⟨?_, ?_, ?_, ?_, ?_, ?_, ?_, ?_⟩ <;> omega

/-- SUMMARY shows LANESTATE at 0x04. -/
theorem State.slice_summaryLive_laneWord (s : State) : slice s.summaryLive 4 4 = le 4 s.laneWord := by
  simp only [State.summaryLive, List.append_assoc]
  exact slice_append_append _ (length_le_bytes ..) (length_le_bytes ..)

/-- Settles O58: the codes and the flags are each smaller than the place LANESTATE gives them, so none reaches another's. -/
theorem laneStateWord : Obligations.LaneStateWord := by
  unfold Obligations.LaneStateWord
  rintro s w rfl
  obtain ⟨hA, hB, hC, hlatA, hlatB, hlatC, hduo, hrest⟩ := laneWord_fields (LaneState.code_lt_four _)
    (LaneState.code_lt_four _) (LaneState.code_lt_four _) s.laneWord_eq
  refine ⟨hA, hB, hC, hlatA, hlatB, hlatC, ?_, hrest, s.slice_summaryLive_laneWord⟩
  rw [hduo, beq_iff_eq]

end Sys2Proof.Machine
end

section
/-! The PAIRSTATE word of SUMMARY (09 R264), read back by the facts about packed words and laid-out blocks above. -/

namespace Sys2Proof.Machine

theorem PairState.code_lt_eight (x : PairState) : x.code < 8 := by cases x <;> decide

theorem State.pairWord_eq (s : State) :
    s.pairWord = s.pair.st.code + 8 * b2n (s.set.pair.prole == 1) + 16 * b2n s.partnerSeen +
      32 * b2n s.partnerInStep + 64 * b2n s.pair.plup.fst + 128 * b2n s.pair.plup.snd + 256 * b2n s.pair.pacer +
      65536 * (s.pair.epoch % 65536) := rfl

/-- A word packed as PAIRSTATE is, from a code of three bits, flags and an epoch of 16 bits, gives each back at its own
place, and holds 0 in its reserved bits. -/
theorem pairWord_fields {w code epoch : Nat} {home seen inStep pl1 pl2 pacer : Bool} (hcode : code < 8)
    (hepoch : epoch < 2 ^ 16)
    (hw : w = code + 8 * b2n home + 16 * b2n seen + 32 * b2n inStep + 64 * b2n pl1 + 128 * b2n pl2 +
      256 * b2n pacer + 65536 * (epoch % 65536)) :
    w % 8 = code ∧ w.testBit 3 = home ∧ w.testBit 4 = seen ∧ w.testBit 5 = inStep ∧ w.testBit 6 = pl1 ∧
    w.testBit 7 = pl2 ∧ w.testBit 8 = pacer ∧ w / 2 ^ 9 % 2 ^ 7 = 0 ∧ w / 2 ^ 16 = epoch := by
  have hhome := b2n_lt_two home
  have hseen := b2n_lt_two seen
  have hinStep := b2n_lt_two inStep
  have hpl1 := b2n_lt_two pl1
  have hpl2 := b2n_lt_two pl2
  have hpacer := b2n_lt_two pacer
  simp only [testBit_eq_iff_b2n]
  refine ⟨?_, ?_, ?_, ?_, ?_, ?_, ?_, ?_, ?_⟩ <;> omega

/-- SUMMARY shows PAIRSTATE at 0x08, behind the module state word and LANESTATE. -/
theorem State.slice_summaryLive_pairWord (s : State) : slice s.summaryLive 8 4 = le 4 s.pairWord := by
  simp only [State.summaryLive, List.append_assoc]
  rw [← List.append_assoc]
  exact slice_append_append _ (by simp) (length_le_bytes ..)

/-- Settles O59: the code, the flags and the epoch are each smaller than the place PAIRSTATE gives them, so none reaches
another's. -/
theorem pairStateWord : Obligations.PairStateWord := by
  unfold Obligations.PairStateWord
  rintro s w rfl hepoch
  obtain ⟨hcode, hhome, hseen, hinStep, hpl1, hpl2, hpacer, hreserved, hep⟩ :=
    pairWord_fields (PairState.code_lt_eight _) hepoch s.pairWord_eq
  refine ⟨hcode, ?_, hseen, hinStep, hpl1, hpl2, hpacer, hreserved, hep, s.slice_summaryLive_pairWord⟩
  rw [hhome, beq_iff_eq]

end Sys2Proof.Machine
end

section
/-! The result field of a self-test's completion (15 R411): the numbers read back from a laid-out block, the end of a running
test, and the entries of TEST_LIST. -/

namespace Sys2Proof.Machine

/-! ### Numbers read back from a block laid out with `le` -/

theorem ofLe_le (n v : Nat) : ofLe (le n v) = v % 256 ^ n := by
  induction n generalizing v with
  | zero => simp [le, ofLe, Nat.mod_one]
  | succ n ih => rw [le, ofLe, ih, BitVec.toNat_ofNat, Nat.pow_succ' (m := 256), Nat.mod_mul]

theorem zeros_eq_le (n : Nat) : zeros n = le n 0 := by
  induction n with
  | zero => rfl
  | succ n ih => rw [le, Nat.zero_div, ← ih]; rfl

theorem rd_le_append {n v : Nat} (post : Bytes) (hv : v < 256 ^ n) : rd (le n v ++ post) 0 n = v := by
  have hslice : slice (le n v ++ post) 0 n = le n v := slice_append_append (pre := []) post rfl (length_le_bytes n v)
  rw [rd, hslice, ofLe_le, Nat.mod_eq_of_lt hv]

/-- A number read beyond the first field of a block is read from what follows that field. -/
theorem rd_le_append_of_le {k off : Nat} (v n : Nat) (post : Bytes) (hk : k ≤ off) :
    rd (le k v ++ post) off n = rd post (off - k) n := by
  rw [rd, rd, slice, slice, List.drop_append, length_le_bytes, List.drop_eq_nil_of_le (by simpa using hk),
    List.nil_append]

/-! ### The result field -/

/-- The fields of the result field, its reserved bytes as numbers of their own. -/
theorem testResult_eq (sig exp : Nat) (pass : Bool) (bad : Nat) :
    testResult sig exp pass bad =
      le 4 sig ++ (le 4 exp ++ (le 1 (b2n (!pass)) ++ (le 1 0 ++ (le 2 bad ++ (le 4 0 ++ []))))) := by
  simp only [testResult, zeros_eq_le, List.append_assoc, List.append_nil]

theorem length_testResult (sig exp : Nat) (pass : Bool) (bad : Nat) : (testResult sig exp pass bad).length = 16 := by
  simp [testResult_eq]

theorem testResult_fields {sig exp bad : Nat} (pass : Bool) (hsig : sig < 2 ^ 32) (hexp : exp < 2 ^ 32)
    (hbad : bad < 2 ^ 16) :
    rd (testResult sig exp pass bad) 0 4 = sig ∧ rd (testResult sig exp pass bad) 4 4 = exp ∧
    rd (testResult sig exp pass bad) 8 1 = b2n (!pass) ∧ rd (testResult sig exp pass bad) 9 1 = 0 ∧
    rd (testResult sig exp pass bad) 10 2 = bad ∧ rd (testResult sig exp pass bad) 12 4 = 0 := by
  have hpass := b2n_lt_two (!pass)
  rw [testResult_eq]
  refine ⟨?_, ?_, ?_, ?_, ?_, ?_⟩ <;>
    simp (disch := omega) only [rd_le_append_of_le, Nat.reduceSub, rd_le_append]

theorem b2n_not (b : Bool) : b2n (!b) = if b then 0 else 1 := by cases b <;> rfl

/-! ### The end of a running test -/

/-- The state after the last measurement of test t, with only its completion still to be written: the outcome is kept with
the test, the record of passes follows it, and its change-log record stands. -/
def State.testEnded (s : State) (t : TestSt) (pass : Bool) (sig bad : Nat) : State :=
  State.refChange
    { s.updTest (fun t => { t with ended := some (pass, sig, bad) }) with
      id := { s.id with passes := notePass pass t.id t.target s.id.passes } }
    t.ref 0x21 (le 2 t.id ++ le 2 t.target ++ testResult sig (s.expected t.id) pass bad)

theorem exec_testComplete_running {s : State} {t : TestSt} {sig bad : Nat} {pass : Bool} (codes : List Nat)
    (htest : s.be.test = some t) (hrun : t.running = true) (habandoned : t.abandoned = false) (hended : t.ended = none)
    (hsig : sig = crc32c ((testCodes t codes).map (BitVec.ofNat 8))) (hpass : pass = (sig == s.expected t.id))
    (hbad : bad = ((testCodes t codes).findIdx? (· != 0)).getD 0xFFFF) :
    exec (.testComplete codes) s =
      .next ((s.testEnded t pass sig bad).complete t.ref 0 (testResult sig (s.expected t.id) pass bad)) := by
  subst hsig hpass hbad
  change execTestComplete codes s = _
  simp only [execTestComplete, htest, hrun, habandoned, hended]
  rfl

/-! ### TEST_LIST -/

theorem State.testBytes_congr {s u : State} (h : s.image = u.image) (id : Nat) : s.testBytes id = u.testBytes id := by
  simp only [State.testBytes, State.expected, h]

/-- An entry of TEST_LIST names its test, and shows the stored expected value behind the target kind. -/
theorem State.testBytes_fields (s : State) {id : Nat} (hid : id < 2 ^ 16) :
    (s.testBytes id).length = 8 ∧ rd (s.testBytes id) 0 2 = id ∧ slice (s.testBytes id) 4 4 = le 4 (s.expected id) := by
  refine ⟨by simp [State.testBytes, zeros_eq_le], ?_, ?_⟩
  · rw [State.testBytes, List.append_assoc, List.append_assoc, rd_le_append _ (by simpa using hid)]
  · rw [State.testBytes, ← List.append_nil (le 4 _)]
    exact slice_append_append [] (by simp [zeros_eq_le]) (length_le_bytes ..)

/-- The entries of TEST_LIST from test `first` + 1 to the last, test 8. -/
def State.testEntries (s : State) (first : Nat) : List Bytes :=
  ((List.range 8).drop first).map fun i => s.testBytes (i + 1)

theorem State.length_testEntries (s : State) (first : Nat) : (s.testEntries first).length = 8 - first := by
  simp [State.testEntries]

theorem State.testEntries_getElem? (s : State) {first k : Nat} (hk : k < 8 - first) :
    (s.testEntries first)[k]? = some (s.testBytes (first + k + 1)) := by
  rw [State.testEntries, List.getElem?_map, List.getElem?_drop, List.getElem?_range (by omega), Option.map_some]

theorem State.flatten_testEntries_taken (s : State) (mb first : Nat) :
    ((s.taken mb).testEntries first).flatten = (s.testEntries first).flatten := by
  simp only [State.testEntries, State.testBytes_congr (s.taken_image mb)]

theorem reads_testList {s : State} {mb : Nat} {x : Ctx} (h : Admitted s mb 0x0802 cmdTestList x)
    (hfirst : rd x.body 0 2 < 8) : Reads (.testList mb) s mb 0 (s.testEntries (rd x.body 0 2)).flatten := by
  refine h.reads rfl ?_
  rw [← s.flatten_testEntries_taken mb]
  simp only [cmdTestList, query, if_neg (Nat.not_le.2 hfirst)]
  rfl

/-- Settles O60: each field is smaller than its place in the result field, the completion of a running test is written with
that field, and each entry of TEST_LIST shows the expected value of its test. -/
theorem testResultLayout : Obligations.TestResultLayout := by
  unfold Obligations.TestResultLayout
  refine ⟨?layout, ?completion, ?list⟩
  case layout =>
    rintro sig exp bad pass _ rfl hsig hexp hbad
    rw [← b2n_not]
    exact ⟨length_testResult .., testResult_fields pass hsig hexp hbad⟩
  case completion =>
    intro s codes t htest hrun habandoned hended
    exact ⟨_, testCodes t codes, _, _, rfl, rfl, rfl,
      exec_testComplete_running codes htest hrun habandoned hended rfl rfl rfl⟩
  case list =>
    intro s mb x hadm hfirst
    refine ⟨s.testEntries (rd x.body 0 2), reads_testList hadm hfirst, s.length_testEntries _, fun k hk => ?_⟩
    exact ⟨_, s.testEntries_getElem? hk, s.testBytes_fields (by omega)⟩

end Sys2Proof.Machine
end

section
/-! What every command, and every step, keeps: each command's own law, gathered over the table of commands. A step is a
command from the front of the queue or a tick, so an invariant of both is an invariant of every step. -/

namespace Sys2Proof.Machine

/-- What a step can be: a tick on an empty queue, or the command at the queue's front on the state with the rest. -/
theorem step_cases {s t : State} (h : step s = .next t) :
    (s.pending = [] ∧ t = tick s) ∨
    ∃ c rest, s.pending = c :: rest ∧ exec c { s with pending := rest } = .next t := by
  unfold step at h
  split at h
  case h_1 hq => exact .inl ⟨hq, by cases h; rfl⟩
  case h_2 c rest hq => exact .inr ⟨c, rest, hq, h⟩

/-- An invariant that a tick and every command keep, and that does not speak of the queue, is kept by every step. -/
theorem step_keeps {P : State → Prop} (htick : ∀ s, P s → P (tick s))
    (hexec : ∀ c s, P s → ∀ t, exec c s = .next t → P t) (hqueue : ∀ s rest, P s → P { s with pending := rest })
    {s t : State} (hs : P s) (h : step s = .next t) : P t := by
  obtain ⟨-, rfl⟩ | ⟨c, rest, -, h⟩ := step_cases h
  · exact htick s hs
  · exact hexec c _ (hqueue s rest hs) t h

/-! ### Cells in warm-up and under the safe-state latch (07 R223, 10 R302) -/

theorem exec_offOk (i : Instr) (s : State) (hs : s.offOk) : ∀ t, exec i s = .next t → t.offOk :=
  match i with
  | .openSession mb => execOpenSession_offOk mb s hs | .auth mb => execAuth_offOk mb s hs
  | .close mb => execClose_offOk mb s hs | .sessionList mb => execSessionList_offOk mb s hs
  | .credAdd mb => execCredAdd_offOk mb s hs | .credRevoke mb => execCredRevoke_offOk mb s hs
  | .credList mb => execCredList_offOk mb s hs | .identity mb => execIdentity_offOk mb s hs
  | .cycleStatus mb => execCycleStatus_offOk mb s hs | .laneStatus mb => execLaneStatus_offOk mb s hs
  | .inputStatus mb => execInputStatus_offOk mb s hs | .outputStatus mb => execOutputStatus_offOk mb s hs
  | .connStatus mb => execConnStatus_offOk mb s hs | .elementRead mb => execElementRead_offOk mb s hs
  | .routeRead mb => execRouteRead_offOk mb s hs | .trellisStatus mb => execTrellisStatus_offOk mb s hs
  | .routeIdent mb => execRouteIdent_offOk mb s hs | .lcTransition mb => execLcTransition_offOk mb s hs
  | .mode mb => execMode_offOk mb s hs | .restart mb => execRestart_offOk mb s hs | .maint mb => execMaint_offOk mb s hs
  | .stageOpen mb => execStageOpen_offOk mb s hs | .stageWrite mb => execStageWrite_offOk mb s hs
  | .stageRead mb => execStageRead_offOk mb s hs | .stageDiscard mb => execStageDiscard_offOk mb s hs
  | .stageCheck mb => execStageCheck_offOk mb s hs | .stageApply mb => execStageApply_offOk mb s hs
  | .stageStatus mb => execStageStatus_offOk mb s hs | .connKey mb => execConnKey_offOk mb s hs
  | .imageInfo mb => execImageInfo_offOk mb s hs | .activate mb => execActivate_offOk mb s hs
  | .updOpen mb => execUpdOpen_offOk mb s hs | .updData mb => execUpdData_offOk mb s hs
  | .updVerify mb => execUpdVerify_offOk mb s hs | .updActivate mb => execUpdActivate_offOk mb s hs
  | .updAbort mb => execUpdAbort_offOk mb s hs | .updStatus mb => execUpdStatus_offOk mb s hs
  | .recOpen mb => execRecOpen_offOk mb s hs | .recNext mb => execRecNext_offOk mb s hs
  | .recClose mb => execRecClose_offOk mb s hs | .recCounters mb => execRecCounters_offOk mb s hs
  | .testRun mb => execTestRun_offOk mb s hs | .testList mb => execTestList_offOk mb s hs
  | .testAbort mb => execTestAbort_offOk mb s hs | .hedgeRelease mb => execHedgeRelease_offOk mb s hs
  | .faultStatus mb => execFaultStatus_offOk mb s hs | .escBounds mb => execEscBounds_offOk mb s hs
  | .hedgeList mb => execHedgeList_offOk mb s hs | .routeSet mb => execRouteSet_offOk mb s hs
  | .routeCancel mb => execRouteCancel_offOk mb s hs | .autoSet mb => execAutoSet_offOk mb s hs
  | .trigArm mb => execTrigArm_offOk mb s hs | .keyRelease mb => execKeyRelease_offOk mb s hs
  | .emergRelease mb => execEmergRelease_offOk mb s hs | .axleReset mb => execAxleReset_offOk mb s hs
  | .timeGet mb => execTimeGet_offOk mb s hs | .timeSet mb => execTimeSet_offOk mb s hs
  | .timeSource mb => execTimeSource_offOk mb s hs | .pairStatus mb => execPairStatus_offOk mb s hs
  | .handover mb => execHandover_offOk mb s hs | .coldAssume mb => execColdAssume_offOk mb s hs
  | .sbStatus mb => execSbStatus_offOk mb s hs | .sbErrlog mb => execSbErrlog_offOk mb s hs
  | .sbErrclr mb => execSbErrclr_offOk mb s hs | .windowSet mb => execWindowSet_offOk mb s hs
  | .tunnelSet mb => execTunnelSet_offOk mb s hs | .tunnelStatus mb => execTunnelStatus_offOk mb s hs
  | .forceSet mb => execForceSet_offOk mb s hs | .forceClear mb => execForceClear_offOk mb s hs
  | .forceList mb => execForceList_offOk mb s hs
  | .mailboxClaim acc mb ownkey => execMailboxClaim_offOk acc mb ownkey s hs
  | .mailboxRelease acc mb => execMailboxRelease_offOk acc mb s hs
  | .doorbellRing acc mb tag => execDoorbellRing_offOk acc mb tag s hs
  | .doorbellAck acc mb => execDoorbellAck_offOk acc mb s hs
  | .registerWrite acc addr data => execRegisterWrite_offOk acc addr data s hs
  | .commandResponseTimeout mb => execCommandResponseTimeout_offOk mb s hs
  | .mailboxAgeTimeout mb => execMailboxAgeTimeout_offOk mb s hs
  | .sessionIdleTimeout session => execSessionIdleTimeout_offOk session s hs
  | .authTimeout => execAuthTimeout_offOk s hs | .dueMark lane env => execDueMark_offOk lane env s hs
  | .overrunLimit => execOverrunLimit_offOk s hs
  | .exchangeClose forms issued comp done => execExchangeClose_offOk forms issued comp done s hs
  | .telegramRelease conn sc1 sc2 comp done => execTelegramRelease_offOk conn sc1 sc2 comp done s hs
  | .safetyCodeFailLimit => execSafetyCodeFailLimit_offOk s hs | .mcloseSend => execMcloseSend_offOk s hs
  | .resyncCopy lane r => execResyncCopy_offOk lane r s hs | .resyncRetry lane => execResyncRetry_offOk lane s hs
  | .rejoin lane => execRejoin_offOk lane s hs | .comparatorMismatch x => execComparatorMismatch_offOk x s hs
  | .arbitrationSelfTestDone lane core0 core1 cmp => execArbitrationSelfTestDone_offOk lane core0 core1 cmp s hs
  | .arbitrationSelfTestTimeout lane => execArbitrationSelfTestTimeout_offOk lane s hs
  | .restartCheckDone lane cmpOk bankOk => execRestartCheckDone_offOk lane cmpOk bankOk s hs
  | .progressTimeout lane => execProgressTimeout_offOk lane s hs | .laneStall lane => execLaneStall_offOk lane s hs
  | .illegalDualRailCode region block => execIllegalDualRailCode_offOk region block s hs
  | .cacheError lane kind => execCacheError_offOk lane kind s hs
  | .memoryScrubError lane found => execMemoryScrubError_offOk lane found s hs
  | .laneSupplyLoss lane => execLaneSupplyLoss_offOk lane s hs
  | .laneSupplyReturn lane => execLaneSupplyReturn_offOk lane s hs
  | .commonsSupplyLoss => execCommonsSupplyLoss_offOk s hs | .serviceSupplyLoss => execServiceSupplyLoss_offOk s hs
  | .serviceRegionReturn => execServiceRegionReturn_offOk s hs | .timebaseTrim offs => execTimebaseTrim_offOk offs s hs
  | .tokenOverrun => execTokenOverrun_offOk s hs | .tokenRegenerate => execTokenRegenerate_offOk s hs
  | .fabricGrantTimeout user => execFabricGrantTimeout_offOk user s hs
  | .faultEventCollected fsid => execFaultEventCollected_offOk fsid s hs
  | .escalation fsid => execEscalation_offOk fsid s hs
  | .escalationWindowExpiry fsid => execEscalationWindowExpiry_offOk fsid s hs
  | .laneLatchOut lane => execLaneLatchOut_offOk lane s hs | .safeCountLimit => execSafeCountLimit_offOk s hs
  | .eventAck lane seq => execEventAck_offOk lane seq s hs | .graceExpiry seq => execGraceExpiry_offOk seq s hs
  | .settleWindowEnd block pass => execSettleWindowEnd_offOk block pass s hs
  | .mfSelfCheck agree illegal conducting => execMfSelfCheck_offOk agree illegal conducting s hs
  | .duoLimit => execDuoLimit_offOk s hs | .holdLimit lane => execHoldLimit_offOk lane s hs
  | .moveTimeLimit elem => execMoveTimeLimit_offOk elem s hs | .provingTime elem => execProvingTime_offOk elem s hs
  | .clearingDelay elem => execClearingDelay_offOk elem s hs
  | .resetStepLimit elem => execResetStepLimit_offOk elem s hs
  | .closeTimeLimit elem => execCloseTimeLimit_offOk elem s hs | .openDelay elem => execOpenDelay_offOk elem s hs
  | .directionExchangeLimit elem => execDirectionExchangeLimit_offOk elem s hs
  | .settingTimeLimit route => execSettingTimeLimit_offOk route s hs
  | .requestLifetime route => execRequestLifetime_offOk route s hs
  | .approachReleaseTimer route => execApproachReleaseTimer_offOk route s hs
  | .overlapReleaseTimer route => execOverlapReleaseTimer_offOk route s hs
  | .releasingTimeout route => execReleasingTimeout_offOk route s hs
  | .slotMark lane stamp => execSlotMark_offOk lane stamp s hs
  | .testPulseStart cell on => execTestPulseStart_offOk cell on s hs
  | .testPulseEnd cell dropped => execTestPulseEnd_offOk cell dropped s hs
  | .pulseWindowEnd slot dropped recovered nextOn sxFell sxBack => execPulseWindowEnd_offOk slot dropped recovered nextOn sxFell sxBack s hs
  | .sxCurrentLimit cell => execSxCurrentLimit_offOk cell s hs
  | .inputFilterChange lane cell samples => execInputFilterChange_offOk lane cell samples s hs
  | .channelDisagreement lane cell => execChannelDisagreement_offOk lane cell s hs
  | .discrepancyFault lane cell => execDiscrepancyFault_offOk lane cell s hs
  | .bankSupplyTrip bank high => execBankSupplyTrip_offOk bank high s hs
  | .bankSupplyRecover bank => execBankSupplyRecover_offOk bank s hs | .roundMark lane => execRoundMark_offOk lane s hs
  | .testNotCompleted cell lane => execTestNotCompleted_offOk cell lane s hs
  | .testPosition bank midOk => execTestPosition_offOk bank midOk s hs
  | .darkStepEnd bank current => execDarkStepEnd_offOk bank current s hs
  | .lightStepEnd bank mids current pxOn => execLightStepEnd_offOk bank mids current pxOn s hs
  | .midpointStuck cell path high => execMidpointStuck_offOk cell path high s hs
  | .pathCurrentWithdrawn cell path => execPathCurrentWithdrawn_offOk cell path s hs
  | .readbackFault lane cell samples => execReadbackFault_offOk lane cell samples s hs
  | .externalVoltage cell => execExternalVoltage_offOk cell s hs
  | .overloadTrip cell cause => execOverloadTrip_offOk cell cause s hs
  | .clampOvertemp cell => execClampOvertemp_offOk cell s hs
  | .bankOvercurrent bank => execBankOvercurrent_offOk bank s hs
  | .feedbackMismatch lane cell => execFeedbackMismatch_offOk lane cell s hs
  | .frameReceived net f us => execFrameReceived_offOk net f us s hs
  | .skewExpiry conn peer2 => execSkewExpiry_offOk conn peer2 s hs
  | .oneNetworkSilent conn => execOneNetworkSilent_offOk conn s hs
  | .ringtestSend net => execRingtestSend_offOk net s hs
  | .ringtestReceived net port2 f => execRingtestReceived_offOk net port2 f s hs
  | .ringBreak net => execRingBreak_offOk net s hs | .ringClose net => execRingClose_offOk net s hs
  | .pstartReceived m us => execPstartReceived_offOk m us s hs | .mblockReceived m => execMblockReceived_offOk m s hs
  | .mcloseReceived m => execMcloseReceived_offOk m s hs
  | .preportReceived crcOk h => execPreportReceived_offOk crcOk h s hs
  | .cmdfwdReceived m => execCmdfwdReceived_offOk m s hs
  | .heartbeatReceived net f => execHeartbeatReceived_offOk net f s hs
  | .plLinkLoss link2 => execPlLinkLoss_offOk link2 s hs
  | .opticInserted link2 kind => execOpticInserted_offOk link2 kind s hs
  | .partnerSilent => execPartnerSilent_offOk s hs | .inStep => execInStep_offOk s hs
  | .leadClaimConflict => execLeadClaimConflict_offOk s hs | .joinWaitExpiry => execJoinWaitExpiry_offOk s hs
  | .revertHoldOff => execRevertHoldOff_offOk s hs | .pairApplyTimeout => execPairApplyTimeout_offOk s hs
  | .sbWrite win off data => execSbWrite_offOk win off data s hs
  | .sbRead win off len => execSbRead_offOk win off len s hs
  | .sbPostedWrite win off data => execSbPostedWrite_offOk win off data s hs
  | .bridgeFrameReceived net f => execBridgeFrameReceived_offOk net f s hs
  | .sbTransferTimeout seq => execSbTransferTimeout_offOk seq s hs | .sbBusyRetry seq => execSbBusyRetry_offOk seq s hs
  | .sbHeldResultExpiry vk win off len => execSbHeldResultExpiry_offOk vk win off len s hs
  | .legacyFrameReceived port data ending => execLegacyFrameReceived_offOk port data ending s hs
  | .tunnelFrameReceived net f => execTunnelFrameReceived_offOk net f s hs
  | .legacyTransmit tunnel => execLegacyTransmit_offOk tunnel s hs
  | .tunnelKeepalive tunnel => execTunnelKeepalive_offOk tunnel s hs
  | .tunnelDown tunnel => execTunnelDown_offOk tunnel s hs | .otCheckpoint => execOtCheckpoint_offOk s hs
  | .otShadowWrite => execOtShadowWrite_offOk s hs | .archiveWindowEnd => execArchiveWindowEnd_offOk s hs
  | .coalescingWindowEnd kind source => execCoalescingWindowEnd_offOk kind source s hs
  | .dropRecord => execDropRecord_offOk s hs
  | .logSegmentFailure log segment => execLogSegmentFailure_offOk log segment s hs
  | .ptpSync offsetUs master => execPtpSync_offOk offsetUs master s hs | .ptpUnlock => execPtpUnlock_offOk s hs
  | .stageCheckDone differs => execStageCheckDone_offOk differs s hs | .updVerifyDone => execUpdVerifyDone_offOk s hs
  | .updateSessionTimeout => execUpdateSessionTimeout_offOk s hs | .laneTurn lane => execLaneTurn_offOk lane s hs
  | .kernelLoadDone lane => execKernelLoadDone_offOk lane s hs | .levelSwitch => execLevelSwitch_offOk s hs
  | .imageConfirmed => execImageConfirmed_offOk s hs | .testComplete codes => execTestComplete_offOk codes s hs
  | .preconditionCheck q => execPreconditionCheck_offOk q s hs
  | .oscillatorMeasurement offset => execOscillatorMeasurement_offOk offset s hs
  | .tamperSwitchOpen => execTamperSwitchOpen_offOk s hs | .sealLoopCheck intact => execSealLoopCheck_offOk intact s hs
  | .powerFailWarning => execPowerFailWarning_offOk s hs | .powerReturn => execPowerReturn_offOk s hs
  | .powerUp env kaFed offMs => execPowerUp_offOk env kaFed offMs s hs
  | .bootRestart kind env => execBootRestart_offOk kind env s hs
  | .laneBootSelfTestDone lane pass => execLaneBootSelfTestDone_offOk lane pass s hs
  | .syncTimeout => execSyncTimeout_offOk s hs | .inputLoss second => execInputLoss_offOk second s hs
  | .inputRestored second => execInputRestored_offOk second s hs
  | .addressPlugPoll plug => execAddressPlugPoll_offOk plug s hs | .thermalWarning => execThermalWarning_offOk s hs
  | .thermalTrip => execThermalTrip_offOk s hs | .resetButtonRelease ms => execResetButtonRelease_offOk ms s hs
  | .resetButtonStuck => execResetButtonStuck_offOk s hs
  | .buttonContactDisagree => execButtonContactDisagree_offOk s hs | .buttonReenable => execButtonReenable_offOk s hs
  | .unpoweredEnclosureOpening => execUnpoweredEnclosureOpening_offOk s hs
  | .bootSelfTestTimeout lane => execBootSelfTestTimeout_offOk lane s hs
  | .postActivationTimeout => execPostActivationTimeout_offOk s hs
  | .thermalWarningCleared => execThermalWarningCleared_offOk s hs
  | .bootTemperatureInRange => execBootTemperatureInRange_offOk s hs
  | .withdrawalWindowExpiry lane => execWithdrawalWindowExpiry_offOk lane s hs
  | .safeCountWindowExpiry => execSafeCountWindowExpiry_offOk s hs
  | .plLinkReturn link2 => execPlLinkReturn_offOk link2 s hs
  | .ethernetLinkChange net port2 up => execEthernetLinkChange_offOk net port2 up s hs
  | .switchForwarding net port2 f => execSwitchForwarding_offOk net port2 f s hs
  | .learnedAddressAgeing net mac => execLearnedAddressAgeing_offOk net mac s hs

/-- Settles O40: every command and the tick keep the cells off that the rules take away. -/
theorem offKept : Obligations.OffKept := by
  unfold Obligations.OffKept
  exact fun _ _ hs h => step_keeps tick_offOk exec_offOk (fun _ _ hs => hs) hs h

/-! ### The potting bench (13 R365) -/

/-- Does a command write the potting bench: a bridge transfer from outside, a life-cycle transition, a boot? -/
def writesBench : Instr → Bool
  | .bridgeFrameReceived _ _ | .lcTransition _ | .powerUp _ _ _ | .bootRestart _ _ => true
  | _ => false

theorem exec_bench (i : Instr) (s : State) (hi : writesBench i = false) : ∀ t, exec i s = .next t → t.bench = s.bench :=
  match i, hi with
  | .openSession mb, _ => execOpenSession_bench mb s | .auth mb, _ => execAuth_bench mb s
  | .close mb, _ => execClose_bench mb s | .sessionList mb, _ => execSessionList_bench mb s
  | .credAdd mb, _ => execCredAdd_bench mb s | .credRevoke mb, _ => execCredRevoke_bench mb s
  | .credList mb, _ => execCredList_bench mb s | .identity mb, _ => execIdentity_bench mb s
  | .cycleStatus mb, _ => execCycleStatus_bench mb s | .laneStatus mb, _ => execLaneStatus_bench mb s
  | .inputStatus mb, _ => execInputStatus_bench mb s | .outputStatus mb, _ => execOutputStatus_bench mb s
  | .connStatus mb, _ => execConnStatus_bench mb s | .elementRead mb, _ => execElementRead_bench mb s
  | .routeRead mb, _ => execRouteRead_bench mb s | .trellisStatus mb, _ => execTrellisStatus_bench mb s
  | .routeIdent mb, _ => execRouteIdent_bench mb s | .mode mb, _ => execMode_bench mb s
  | .restart mb, _ => execRestart_bench mb s | .maint mb, _ => execMaint_bench mb s
  | .stageOpen mb, _ => execStageOpen_bench mb s | .stageWrite mb, _ => execStageWrite_bench mb s
  | .stageRead mb, _ => execStageRead_bench mb s | .stageDiscard mb, _ => execStageDiscard_bench mb s
  | .stageCheck mb, _ => execStageCheck_bench mb s | .stageApply mb, _ => execStageApply_bench mb s
  | .stageStatus mb, _ => execStageStatus_bench mb s | .connKey mb, _ => execConnKey_bench mb s
  | .imageInfo mb, _ => execImageInfo_bench mb s | .activate mb, _ => execActivate_bench mb s
  | .updOpen mb, _ => execUpdOpen_bench mb s | .updData mb, _ => execUpdData_bench mb s
  | .updVerify mb, _ => execUpdVerify_bench mb s | .updActivate mb, _ => execUpdActivate_bench mb s
  | .updAbort mb, _ => execUpdAbort_bench mb s | .updStatus mb, _ => execUpdStatus_bench mb s
  | .recOpen mb, _ => execRecOpen_bench mb s | .recNext mb, _ => execRecNext_bench mb s
  | .recClose mb, _ => execRecClose_bench mb s | .recCounters mb, _ => execRecCounters_bench mb s
  | .testRun mb, _ => execTestRun_bench mb s | .testList mb, _ => execTestList_bench mb s
  | .testAbort mb, _ => execTestAbort_bench mb s | .hedgeRelease mb, _ => execHedgeRelease_bench mb s
  | .faultStatus mb, _ => execFaultStatus_bench mb s | .escBounds mb, _ => execEscBounds_bench mb s
  | .hedgeList mb, _ => execHedgeList_bench mb s | .routeSet mb, _ => execRouteSet_bench mb s
  | .routeCancel mb, _ => execRouteCancel_bench mb s | .autoSet mb, _ => execAutoSet_bench mb s
  | .trigArm mb, _ => execTrigArm_bench mb s | .keyRelease mb, _ => execKeyRelease_bench mb s
  | .emergRelease mb, _ => execEmergRelease_bench mb s | .axleReset mb, _ => execAxleReset_bench mb s
  | .timeGet mb, _ => execTimeGet_bench mb s | .timeSet mb, _ => execTimeSet_bench mb s
  | .timeSource mb, _ => execTimeSource_bench mb s | .pairStatus mb, _ => execPairStatus_bench mb s
  | .handover mb, _ => execHandover_bench mb s | .coldAssume mb, _ => execColdAssume_bench mb s
  | .sbStatus mb, _ => execSbStatus_bench mb s | .sbErrlog mb, _ => execSbErrlog_bench mb s
  | .sbErrclr mb, _ => execSbErrclr_bench mb s | .windowSet mb, _ => execWindowSet_bench mb s
  | .tunnelSet mb, _ => execTunnelSet_bench mb s | .tunnelStatus mb, _ => execTunnelStatus_bench mb s
  | .forceSet mb, _ => execForceSet_bench mb s | .forceClear mb, _ => execForceClear_bench mb s
  | .forceList mb, _ => execForceList_bench mb s
  | .mailboxClaim acc mb ownkey, _ => execMailboxClaim_bench acc mb ownkey s
  | .mailboxRelease acc mb, _ => execMailboxRelease_bench acc mb s
  | .doorbellRing acc mb tag, _ => execDoorbellRing_bench acc mb tag s
  | .doorbellAck acc mb, _ => execDoorbellAck_bench acc mb s
  | .registerWrite acc addr data, _ => execRegisterWrite_bench acc addr data s
  | .commandResponseTimeout mb, _ => execCommandResponseTimeout_bench mb s
  | .mailboxAgeTimeout mb, _ => execMailboxAgeTimeout_bench mb s
  | .sessionIdleTimeout session, _ => execSessionIdleTimeout_bench session s
  | .authTimeout, _ => execAuthTimeout_bench s | .dueMark lane env, _ => execDueMark_bench lane env s
  | .overrunLimit, _ => execOverrunLimit_bench s
  | .exchangeClose forms issued comp done, _ => execExchangeClose_bench forms issued comp done s
  | .telegramRelease conn sc1 sc2 comp done, _ => execTelegramRelease_bench conn sc1 sc2 comp done s
  | .safetyCodeFailLimit, _ => execSafetyCodeFailLimit_bench s | .mcloseSend, _ => execMcloseSend_bench s
  | .resyncCopy lane r, _ => execResyncCopy_bench lane r s | .resyncRetry lane, _ => execResyncRetry_bench lane s
  | .rejoin lane, _ => execRejoin_bench lane s | .comparatorMismatch x, _ => execComparatorMismatch_bench x s
  | .arbitrationSelfTestDone lane core0 core1 cmp, _ => execArbitrationSelfTestDone_bench lane core0 core1 cmp s
  | .arbitrationSelfTestTimeout lane, _ => execArbitrationSelfTestTimeout_bench lane s
  | .restartCheckDone lane cmpOk bankOk, _ => execRestartCheckDone_bench lane cmpOk bankOk s
  | .progressTimeout lane, _ => execProgressTimeout_bench lane s | .laneStall lane, _ => execLaneStall_bench lane s
  | .illegalDualRailCode region block, _ => execIllegalDualRailCode_bench region block s
  | .cacheError lane kind, _ => execCacheError_bench lane kind s
  | .memoryScrubError lane found, _ => execMemoryScrubError_bench lane found s
  | .laneSupplyLoss lane, _ => execLaneSupplyLoss_bench lane s
  | .laneSupplyReturn lane, _ => execLaneSupplyReturn_bench lane s
  | .commonsSupplyLoss, _ => execCommonsSupplyLoss_bench s | .serviceSupplyLoss, _ => execServiceSupplyLoss_bench s
  | .serviceRegionReturn, _ => execServiceRegionReturn_bench s | .timebaseTrim offs, _ => execTimebaseTrim_bench offs s
  | .tokenOverrun, _ => execTokenOverrun_bench s | .tokenRegenerate, _ => execTokenRegenerate_bench s
  | .fabricGrantTimeout user, _ => execFabricGrantTimeout_bench user s
  | .faultEventCollected fsid, _ => execFaultEventCollected_bench fsid s
  | .escalation fsid, _ => execEscalation_bench fsid s
  | .escalationWindowExpiry fsid, _ => execEscalationWindowExpiry_bench fsid s
  | .laneLatchOut lane, _ => execLaneLatchOut_bench lane s | .safeCountLimit, _ => execSafeCountLimit_bench s
  | .eventAck lane seq, _ => execEventAck_bench lane seq s | .graceExpiry seq, _ => execGraceExpiry_bench seq s
  | .settleWindowEnd block pass, _ => execSettleWindowEnd_bench block pass s
  | .mfSelfCheck agree illegal conducting, _ => execMfSelfCheck_bench agree illegal conducting s
  | .duoLimit, _ => execDuoLimit_bench s | .holdLimit lane, _ => execHoldLimit_bench lane s
  | .moveTimeLimit elem, _ => execMoveTimeLimit_bench elem s | .provingTime elem, _ => execProvingTime_bench elem s
  | .clearingDelay elem, _ => execClearingDelay_bench elem s
  | .resetStepLimit elem, _ => execResetStepLimit_bench elem s
  | .closeTimeLimit elem, _ => execCloseTimeLimit_bench elem s | .openDelay elem, _ => execOpenDelay_bench elem s
  | .directionExchangeLimit elem, _ => execDirectionExchangeLimit_bench elem s
  | .settingTimeLimit route, _ => execSettingTimeLimit_bench route s
  | .requestLifetime route, _ => execRequestLifetime_bench route s
  | .approachReleaseTimer route, _ => execApproachReleaseTimer_bench route s
  | .overlapReleaseTimer route, _ => execOverlapReleaseTimer_bench route s
  | .releasingTimeout route, _ => execReleasingTimeout_bench route s
  | .slotMark lane stamp, _ => execSlotMark_bench lane stamp s
  | .testPulseStart cell on, _ => execTestPulseStart_bench cell on s
  | .testPulseEnd cell dropped, _ => execTestPulseEnd_bench cell dropped s
  | .pulseWindowEnd slot dropped recovered nextOn sxFell sxBack, _ => execPulseWindowEnd_bench slot dropped recovered nextOn sxFell sxBack s
  | .sxCurrentLimit cell, _ => execSxCurrentLimit_bench cell s
  | .inputFilterChange lane cell samples, _ => execInputFilterChange_bench lane cell samples s
  | .channelDisagreement lane cell, _ => execChannelDisagreement_bench lane cell s
  | .discrepancyFault lane cell, _ => execDiscrepancyFault_bench lane cell s
  | .bankSupplyTrip bank high, _ => execBankSupplyTrip_bench bank high s
  | .bankSupplyRecover bank, _ => execBankSupplyRecover_bench bank s | .roundMark lane, _ => execRoundMark_bench lane s
  | .testNotCompleted cell lane, _ => execTestNotCompleted_bench cell lane s
  | .testPosition bank midOk, _ => execTestPosition_bench bank midOk s
  | .darkStepEnd bank current, _ => execDarkStepEnd_bench bank current s
  | .lightStepEnd bank mids current pxOn, _ => execLightStepEnd_bench bank mids current pxOn s
  | .midpointStuck cell path high, _ => execMidpointStuck_bench cell path high s
  | .pathCurrentWithdrawn cell path, _ => execPathCurrentWithdrawn_bench cell path s
  | .readbackFault lane cell samples, _ => execReadbackFault_bench lane cell samples s
  | .externalVoltage cell, _ => execExternalVoltage_bench cell s
  | .overloadTrip cell cause, _ => execOverloadTrip_bench cell cause s
  | .clampOvertemp cell, _ => execClampOvertemp_bench cell s
  | .bankOvercurrent bank, _ => execBankOvercurrent_bench bank s
  | .feedbackMismatch lane cell, _ => execFeedbackMismatch_bench lane cell s
  | .frameReceived net f us, _ => execFrameReceived_bench net f us s
  | .skewExpiry conn peer2, _ => execSkewExpiry_bench conn peer2 s
  | .oneNetworkSilent conn, _ => execOneNetworkSilent_bench conn s
  | .ringtestSend net, _ => execRingtestSend_bench net s
  | .ringtestReceived net port2 f, _ => execRingtestReceived_bench net port2 f s
  | .ringBreak net, _ => execRingBreak_bench net s | .ringClose net, _ => execRingClose_bench net s
  | .pstartReceived m us, _ => execPstartReceived_bench m us s | .mblockReceived m, _ => execMblockReceived_bench m s
  | .mcloseReceived m, _ => execMcloseReceived_bench m s
  | .preportReceived crcOk h, _ => execPreportReceived_bench crcOk h s
  | .cmdfwdReceived m, _ => execCmdfwdReceived_bench m s
  | .heartbeatReceived net f, _ => execHeartbeatReceived_bench net f s
  | .plLinkLoss link2, _ => execPlLinkLoss_bench link2 s
  | .opticInserted link2 kind, _ => execOpticInserted_bench link2 kind s
  | .partnerSilent, _ => execPartnerSilent_bench s | .inStep, _ => execInStep_bench s
  | .leadClaimConflict, _ => execLeadClaimConflict_bench s | .joinWaitExpiry, _ => execJoinWaitExpiry_bench s
  | .revertHoldOff, _ => execRevertHoldOff_bench s | .pairApplyTimeout, _ => execPairApplyTimeout_bench s
  | .sbWrite win off data, _ => execSbWrite_bench win off data s
  | .sbRead win off len, _ => execSbRead_bench win off len s
  | .sbPostedWrite win off data, _ => execSbPostedWrite_bench win off data s
  | .sbTransferTimeout seq, _ => execSbTransferTimeout_bench seq s | .sbBusyRetry seq, _ => execSbBusyRetry_bench seq s
  | .sbHeldResultExpiry vk win off len, _ => execSbHeldResultExpiry_bench vk win off len s
  | .legacyFrameReceived port data ending, _ => execLegacyFrameReceived_bench port data ending s
  | .tunnelFrameReceived net f, _ => execTunnelFrameReceived_bench net f s
  | .legacyTransmit tunnel, _ => execLegacyTransmit_bench tunnel s
  | .tunnelKeepalive tunnel, _ => execTunnelKeepalive_bench tunnel s
  | .tunnelDown tunnel, _ => execTunnelDown_bench tunnel s | .otCheckpoint, _ => execOtCheckpoint_bench s
  | .otShadowWrite, _ => execOtShadowWrite_bench s | .archiveWindowEnd, _ => execArchiveWindowEnd_bench s
  | .coalescingWindowEnd kind source, _ => execCoalescingWindowEnd_bench kind source s
  | .dropRecord, _ => execDropRecord_bench s
  | .logSegmentFailure log segment, _ => execLogSegmentFailure_bench log segment s
  | .ptpSync offsetUs master, _ => execPtpSync_bench offsetUs master s | .ptpUnlock, _ => execPtpUnlock_bench s
  | .stageCheckDone differs, _ => execStageCheckDone_bench differs s | .updVerifyDone, _ => execUpdVerifyDone_bench s
  | .updateSessionTimeout, _ => execUpdateSessionTimeout_bench s | .laneTurn lane, _ => execLaneTurn_bench lane s
  | .kernelLoadDone lane, _ => execKernelLoadDone_bench lane s | .levelSwitch, _ => execLevelSwitch_bench s
  | .imageConfirmed, _ => execImageConfirmed_bench s | .testComplete codes, _ => execTestComplete_bench codes s
  | .preconditionCheck q, _ => execPreconditionCheck_bench q s
  | .oscillatorMeasurement offset, _ => execOscillatorMeasurement_bench offset s
  | .tamperSwitchOpen, _ => execTamperSwitchOpen_bench s | .sealLoopCheck intact, _ => execSealLoopCheck_bench intact s
  | .powerFailWarning, _ => execPowerFailWarning_bench s | .powerReturn, _ => execPowerReturn_bench s
  | .laneBootSelfTestDone lane pass, _ => execLaneBootSelfTestDone_bench lane pass s
  | .syncTimeout, _ => execSyncTimeout_bench s | .inputLoss second, _ => execInputLoss_bench second s
  | .inputRestored second, _ => execInputRestored_bench second s
  | .addressPlugPoll plug, _ => execAddressPlugPoll_bench plug s | .thermalWarning, _ => execThermalWarning_bench s
  | .thermalTrip, _ => execThermalTrip_bench s | .resetButtonRelease ms, _ => execResetButtonRelease_bench ms s
  | .resetButtonStuck, _ => execResetButtonStuck_bench s
  | .buttonContactDisagree, _ => execButtonContactDisagree_bench s | .buttonReenable, _ => execButtonReenable_bench s
  | .unpoweredEnclosureOpening, _ => execUnpoweredEnclosureOpening_bench s
  | .bootSelfTestTimeout lane, _ => execBootSelfTestTimeout_bench lane s
  | .postActivationTimeout, _ => execPostActivationTimeout_bench s
  | .thermalWarningCleared, _ => execThermalWarningCleared_bench s
  | .bootTemperatureInRange, _ => execBootTemperatureInRange_bench s
  | .withdrawalWindowExpiry lane, _ => execWithdrawalWindowExpiry_bench lane s
  | .safeCountWindowExpiry, _ => execSafeCountWindowExpiry_bench s
  | .plLinkReturn link2, _ => execPlLinkReturn_bench link2 s
  | .ethernetLinkChange net port2 up, _ => execEthernetLinkChange_bench net port2 up s
  | .switchForwarding net port2 f, _ => execSwitchForwarding_bench net port2 f s
  | .learnedAddressAgeing net mac, _ => execLearnedAddressAgeing_bench net mac s

theorem exec_benchOk (i : Instr) (s : State) (hs : s.benchOk) : ∀ t, exec i s = .next t → t.benchOk := by
  cases hi : writesBench i
  case false =>
    intro t h
    rw [State.benchOk, exec_bench i s hi t h]
    exact hs
  case true =>
    match i, hi with
    | .bridgeFrameReceived net f, _ => exact execBridgeFrameReceived_bench net f s hs
    | .lcTransition mb, _ => exact execLcTransition_bench mb s hs
    | .powerUp env kaFed offMs, _ => exact execPowerUp_bench env kaFed offMs s hs
    | .bootRestart kind env, _ => exact execBootRestart_bench kind env s hs

theorem tick_benchOk (s : State) (hs : s.benchOk) : (tick s).benchOk := by
  rw [State.benchOk, tick_bench]
  exact hs

/-- Settles O41: the commands that write the bench keep it canonical and within its bytes, the others keep it as it is. -/
theorem benchKept : Obligations.BenchKept := by
  unfold Obligations.BenchKept
  exact fun _ _ hs h => step_keeps tick_benchOk exec_benchOk (fun _ _ hs => hs) hs h

theorem writesBench_eq_false {c : Instr} (hbridge : ∀ net f, c ≠ .bridgeFrameReceived net f)
    (hlc : ∀ mb, c ≠ .lcTransition mb) (hpower : ∀ env kaFed offMs, c ≠ .powerUp env kaFed offMs)
    (hboot : ∀ kind env, c ≠ .bootRestart kind env) : writesBench c = false := by
  unfold writesBench
  split
  · exact absurd rfl (hbridge _ _)
  · exact absurd rfl (hlc _)
  · exact absurd rfl (hpower _ _ _)
  · exact absurd rfl (hboot _ _)
  · rfl

/-- Settles O45: the commands named are the only ones that write the bench. -/
theorem benchUntouched : Obligations.BenchUntouched := by
  unfold Obligations.BenchUntouched
  exact fun s t c h hbridge hlc hpower hboot => exec_bench c s (writesBench_eq_false hbridge hlc hpower hboot) t h

/-! ### The queue, the operating time and the identity (14 R383, R384, 12 R343) -/

theorem exec_fixed (i : Instr) (s : State) (hi : ∀ env kaFed offMs, i ≠ .powerUp env kaFed offMs) :
    ∀ t, exec i s = .next t → t.fixed = s.fixed :=
  match i, hi with
  | .powerUp env kaFed offMs, hi => absurd rfl (hi env kaFed offMs)
  | .openSession mb, _ => execOpenSession_fixed mb s | .auth mb, _ => execAuth_fixed mb s
  | .close mb, _ => execClose_fixed mb s | .sessionList mb, _ => execSessionList_fixed mb s
  | .credAdd mb, _ => execCredAdd_fixed mb s | .credRevoke mb, _ => execCredRevoke_fixed mb s
  | .credList mb, _ => execCredList_fixed mb s | .identity mb, _ => execIdentity_fixed mb s
  | .cycleStatus mb, _ => execCycleStatus_fixed mb s | .laneStatus mb, _ => execLaneStatus_fixed mb s
  | .inputStatus mb, _ => execInputStatus_fixed mb s | .outputStatus mb, _ => execOutputStatus_fixed mb s
  | .connStatus mb, _ => execConnStatus_fixed mb s | .elementRead mb, _ => execElementRead_fixed mb s
  | .routeRead mb, _ => execRouteRead_fixed mb s | .trellisStatus mb, _ => execTrellisStatus_fixed mb s
  | .routeIdent mb, _ => execRouteIdent_fixed mb s | .lcTransition mb, _ => execLcTransition_fixed mb s
  | .mode mb, _ => execMode_fixed mb s | .restart mb, _ => execRestart_fixed mb s | .maint mb, _ => execMaint_fixed mb s
  | .stageOpen mb, _ => execStageOpen_fixed mb s | .stageWrite mb, _ => execStageWrite_fixed mb s
  | .stageRead mb, _ => execStageRead_fixed mb s | .stageDiscard mb, _ => execStageDiscard_fixed mb s
  | .stageCheck mb, _ => execStageCheck_fixed mb s | .stageApply mb, _ => execStageApply_fixed mb s
  | .stageStatus mb, _ => execStageStatus_fixed mb s | .connKey mb, _ => execConnKey_fixed mb s
  | .imageInfo mb, _ => execImageInfo_fixed mb s | .activate mb, _ => execActivate_fixed mb s
  | .updOpen mb, _ => execUpdOpen_fixed mb s | .updData mb, _ => execUpdData_fixed mb s
  | .updVerify mb, _ => execUpdVerify_fixed mb s | .updActivate mb, _ => execUpdActivate_fixed mb s
  | .updAbort mb, _ => execUpdAbort_fixed mb s | .updStatus mb, _ => execUpdStatus_fixed mb s
  | .recOpen mb, _ => execRecOpen_fixed mb s | .recNext mb, _ => execRecNext_fixed mb s
  | .recClose mb, _ => execRecClose_fixed mb s | .recCounters mb, _ => execRecCounters_fixed mb s
  | .testRun mb, _ => execTestRun_fixed mb s | .testList mb, _ => execTestList_fixed mb s
  | .testAbort mb, _ => execTestAbort_fixed mb s | .hedgeRelease mb, _ => execHedgeRelease_fixed mb s
  | .faultStatus mb, _ => execFaultStatus_fixed mb s | .escBounds mb, _ => execEscBounds_fixed mb s
  | .hedgeList mb, _ => execHedgeList_fixed mb s | .routeSet mb, _ => execRouteSet_fixed mb s
  | .routeCancel mb, _ => execRouteCancel_fixed mb s | .autoSet mb, _ => execAutoSet_fixed mb s
  | .trigArm mb, _ => execTrigArm_fixed mb s | .keyRelease mb, _ => execKeyRelease_fixed mb s
  | .emergRelease mb, _ => execEmergRelease_fixed mb s | .axleReset mb, _ => execAxleReset_fixed mb s
  | .timeGet mb, _ => execTimeGet_fixed mb s | .timeSet mb, _ => execTimeSet_fixed mb s
  | .timeSource mb, _ => execTimeSource_fixed mb s | .pairStatus mb, _ => execPairStatus_fixed mb s
  | .handover mb, _ => execHandover_fixed mb s | .coldAssume mb, _ => execColdAssume_fixed mb s
  | .sbStatus mb, _ => execSbStatus_fixed mb s | .sbErrlog mb, _ => execSbErrlog_fixed mb s
  | .sbErrclr mb, _ => execSbErrclr_fixed mb s | .windowSet mb, _ => execWindowSet_fixed mb s
  | .tunnelSet mb, _ => execTunnelSet_fixed mb s | .tunnelStatus mb, _ => execTunnelStatus_fixed mb s
  | .forceSet mb, _ => execForceSet_fixed mb s | .forceClear mb, _ => execForceClear_fixed mb s
  | .forceList mb, _ => execForceList_fixed mb s
  | .mailboxClaim acc mb ownkey, _ => execMailboxClaim_fixed acc mb ownkey s
  | .mailboxRelease acc mb, _ => execMailboxRelease_fixed acc mb s
  | .doorbellRing acc mb tag, _ => execDoorbellRing_fixed acc mb tag s
  | .doorbellAck acc mb, _ => execDoorbellAck_fixed acc mb s
  | .registerWrite acc addr data, _ => execRegisterWrite_fixed acc addr data s
  | .commandResponseTimeout mb, _ => execCommandResponseTimeout_fixed mb s
  | .mailboxAgeTimeout mb, _ => execMailboxAgeTimeout_fixed mb s
  | .sessionIdleTimeout session, _ => execSessionIdleTimeout_fixed session s
  | .authTimeout, _ => execAuthTimeout_fixed s | .dueMark lane env, _ => execDueMark_fixed lane env s
  | .overrunLimit, _ => execOverrunLimit_fixed s
  | .exchangeClose forms issued comp done, _ => execExchangeClose_fixed forms issued comp done s
  | .telegramRelease conn sc1 sc2 comp done, _ => execTelegramRelease_fixed conn sc1 sc2 comp done s
  | .safetyCodeFailLimit, _ => execSafetyCodeFailLimit_fixed s | .mcloseSend, _ => execMcloseSend_fixed s
  | .resyncCopy lane r, _ => execResyncCopy_fixed lane r s | .resyncRetry lane, _ => execResyncRetry_fixed lane s
  | .rejoin lane, _ => execRejoin_fixed lane s | .comparatorMismatch x, _ => execComparatorMismatch_fixed x s
  | .arbitrationSelfTestDone lane core0 core1 cmp, _ => execArbitrationSelfTestDone_fixed lane core0 core1 cmp s
  | .arbitrationSelfTestTimeout lane, _ => execArbitrationSelfTestTimeout_fixed lane s
  | .restartCheckDone lane cmpOk bankOk, _ => execRestartCheckDone_fixed lane cmpOk bankOk s
  | .progressTimeout lane, _ => execProgressTimeout_fixed lane s | .laneStall lane, _ => execLaneStall_fixed lane s
  | .illegalDualRailCode region block, _ => execIllegalDualRailCode_fixed region block s
  | .cacheError lane kind, _ => execCacheError_fixed lane kind s
  | .memoryScrubError lane found, _ => execMemoryScrubError_fixed lane found s
  | .laneSupplyLoss lane, _ => execLaneSupplyLoss_fixed lane s
  | .laneSupplyReturn lane, _ => execLaneSupplyReturn_fixed lane s
  | .commonsSupplyLoss, _ => execCommonsSupplyLoss_fixed s | .serviceSupplyLoss, _ => execServiceSupplyLoss_fixed s
  | .serviceRegionReturn, _ => execServiceRegionReturn_fixed s | .timebaseTrim offs, _ => execTimebaseTrim_fixed offs s
  | .tokenOverrun, _ => execTokenOverrun_fixed s | .tokenRegenerate, _ => execTokenRegenerate_fixed s
  | .fabricGrantTimeout user, _ => execFabricGrantTimeout_fixed user s
  | .faultEventCollected fsid, _ => execFaultEventCollected_fixed fsid s
  | .escalation fsid, _ => execEscalation_fixed fsid s
  | .escalationWindowExpiry fsid, _ => execEscalationWindowExpiry_fixed fsid s
  | .laneLatchOut lane, _ => execLaneLatchOut_fixed lane s | .safeCountLimit, _ => execSafeCountLimit_fixed s
  | .eventAck lane seq, _ => execEventAck_fixed lane seq s | .graceExpiry seq, _ => execGraceExpiry_fixed seq s
  | .settleWindowEnd block pass, _ => execSettleWindowEnd_fixed block pass s
  | .mfSelfCheck agree illegal conducting, _ => execMfSelfCheck_fixed agree illegal conducting s
  | .duoLimit, _ => execDuoLimit_fixed s | .holdLimit lane, _ => execHoldLimit_fixed lane s
  | .moveTimeLimit elem, _ => execMoveTimeLimit_fixed elem s | .provingTime elem, _ => execProvingTime_fixed elem s
  | .clearingDelay elem, _ => execClearingDelay_fixed elem s
  | .resetStepLimit elem, _ => execResetStepLimit_fixed elem s
  | .closeTimeLimit elem, _ => execCloseTimeLimit_fixed elem s | .openDelay elem, _ => execOpenDelay_fixed elem s
  | .directionExchangeLimit elem, _ => execDirectionExchangeLimit_fixed elem s
  | .settingTimeLimit route, _ => execSettingTimeLimit_fixed route s
  | .requestLifetime route, _ => execRequestLifetime_fixed route s
  | .approachReleaseTimer route, _ => execApproachReleaseTimer_fixed route s
  | .overlapReleaseTimer route, _ => execOverlapReleaseTimer_fixed route s
  | .releasingTimeout route, _ => execReleasingTimeout_fixed route s
  | .slotMark lane stamp, _ => execSlotMark_fixed lane stamp s
  | .testPulseStart cell on, _ => execTestPulseStart_fixed cell on s
  | .testPulseEnd cell dropped, _ => execTestPulseEnd_fixed cell dropped s
  | .pulseWindowEnd slot dropped recovered nextOn sxFell sxBack, _ => execPulseWindowEnd_fixed slot dropped recovered nextOn sxFell sxBack s
  | .sxCurrentLimit cell, _ => execSxCurrentLimit_fixed cell s
  | .inputFilterChange lane cell samples, _ => execInputFilterChange_fixed lane cell samples s
  | .channelDisagreement lane cell, _ => execChannelDisagreement_fixed lane cell s
  | .discrepancyFault lane cell, _ => execDiscrepancyFault_fixed lane cell s
  | .bankSupplyTrip bank high, _ => execBankSupplyTrip_fixed bank high s
  | .bankSupplyRecover bank, _ => execBankSupplyRecover_fixed bank s | .roundMark lane, _ => execRoundMark_fixed lane s
  | .testNotCompleted cell lane, _ => execTestNotCompleted_fixed cell lane s
  | .testPosition bank midOk, _ => execTestPosition_fixed bank midOk s
  | .darkStepEnd bank current, _ => execDarkStepEnd_fixed bank current s
  | .lightStepEnd bank mids current pxOn, _ => execLightStepEnd_fixed bank mids current pxOn s
  | .midpointStuck cell path high, _ => execMidpointStuck_fixed cell path high s
  | .pathCurrentWithdrawn cell path, _ => execPathCurrentWithdrawn_fixed cell path s
  | .readbackFault lane cell samples, _ => execReadbackFault_fixed lane cell samples s
  | .externalVoltage cell, _ => execExternalVoltage_fixed cell s
  | .overloadTrip cell cause, _ => execOverloadTrip_fixed cell cause s
  | .clampOvertemp cell, _ => execClampOvertemp_fixed cell s
  | .bankOvercurrent bank, _ => execBankOvercurrent_fixed bank s
  | .feedbackMismatch lane cell, _ => execFeedbackMismatch_fixed lane cell s
  | .frameReceived net f us, _ => execFrameReceived_fixed net f us s
  | .skewExpiry conn peer2, _ => execSkewExpiry_fixed conn peer2 s
  | .oneNetworkSilent conn, _ => execOneNetworkSilent_fixed conn s
  | .ringtestSend net, _ => execRingtestSend_fixed net s
  | .ringtestReceived net port2 f, _ => execRingtestReceived_fixed net port2 f s
  | .ringBreak net, _ => execRingBreak_fixed net s | .ringClose net, _ => execRingClose_fixed net s
  | .pstartReceived m us, _ => execPstartReceived_fixed m us s | .mblockReceived m, _ => execMblockReceived_fixed m s
  | .mcloseReceived m, _ => execMcloseReceived_fixed m s
  | .preportReceived crcOk h, _ => execPreportReceived_fixed crcOk h s
  | .cmdfwdReceived m, _ => execCmdfwdReceived_fixed m s
  | .heartbeatReceived net f, _ => execHeartbeatReceived_fixed net f s
  | .plLinkLoss link2, _ => execPlLinkLoss_fixed link2 s
  | .opticInserted link2 kind, _ => execOpticInserted_fixed link2 kind s
  | .partnerSilent, _ => execPartnerSilent_fixed s | .inStep, _ => execInStep_fixed s
  | .leadClaimConflict, _ => execLeadClaimConflict_fixed s | .joinWaitExpiry, _ => execJoinWaitExpiry_fixed s
  | .revertHoldOff, _ => execRevertHoldOff_fixed s | .pairApplyTimeout, _ => execPairApplyTimeout_fixed s
  | .sbWrite win off data, _ => execSbWrite_fixed win off data s
  | .sbRead win off len, _ => execSbRead_fixed win off len s
  | .sbPostedWrite win off data, _ => execSbPostedWrite_fixed win off data s
  | .bridgeFrameReceived net f, _ => execBridgeFrameReceived_fixed net f s
  | .sbTransferTimeout seq, _ => execSbTransferTimeout_fixed seq s | .sbBusyRetry seq, _ => execSbBusyRetry_fixed seq s
  | .sbHeldResultExpiry vk win off len, _ => execSbHeldResultExpiry_fixed vk win off len s
  | .legacyFrameReceived port data ending, _ => execLegacyFrameReceived_fixed port data ending s
  | .tunnelFrameReceived net f, _ => execTunnelFrameReceived_fixed net f s
  | .legacyTransmit tunnel, _ => execLegacyTransmit_fixed tunnel s
  | .tunnelKeepalive tunnel, _ => execTunnelKeepalive_fixed tunnel s
  | .tunnelDown tunnel, _ => execTunnelDown_fixed tunnel s | .otCheckpoint, _ => execOtCheckpoint_fixed s
  | .otShadowWrite, _ => execOtShadowWrite_fixed s | .archiveWindowEnd, _ => execArchiveWindowEnd_fixed s
  | .coalescingWindowEnd kind source, _ => execCoalescingWindowEnd_fixed kind source s
  | .dropRecord, _ => execDropRecord_fixed s
  | .logSegmentFailure log segment, _ => execLogSegmentFailure_fixed log segment s
  | .ptpSync offsetUs master, _ => execPtpSync_fixed offsetUs master s | .ptpUnlock, _ => execPtpUnlock_fixed s
  | .stageCheckDone differs, _ => execStageCheckDone_fixed differs s | .updVerifyDone, _ => execUpdVerifyDone_fixed s
  | .updateSessionTimeout, _ => execUpdateSessionTimeout_fixed s | .laneTurn lane, _ => execLaneTurn_fixed lane s
  | .kernelLoadDone lane, _ => execKernelLoadDone_fixed lane s | .levelSwitch, _ => execLevelSwitch_fixed s
  | .imageConfirmed, _ => execImageConfirmed_fixed s | .testComplete codes, _ => execTestComplete_fixed codes s
  | .preconditionCheck q, _ => execPreconditionCheck_fixed q s
  | .oscillatorMeasurement offset, _ => execOscillatorMeasurement_fixed offset s
  | .tamperSwitchOpen, _ => execTamperSwitchOpen_fixed s | .sealLoopCheck intact, _ => execSealLoopCheck_fixed intact s
  | .powerFailWarning, _ => execPowerFailWarning_fixed s | .powerReturn, _ => execPowerReturn_fixed s
  | .bootRestart kind env, _ => execBootRestart_fixed kind env s
  | .laneBootSelfTestDone lane pass, _ => execLaneBootSelfTestDone_fixed lane pass s
  | .syncTimeout, _ => execSyncTimeout_fixed s | .inputLoss second, _ => execInputLoss_fixed second s
  | .inputRestored second, _ => execInputRestored_fixed second s
  | .addressPlugPoll plug, _ => execAddressPlugPoll_fixed plug s | .thermalWarning, _ => execThermalWarning_fixed s
  | .thermalTrip, _ => execThermalTrip_fixed s | .resetButtonRelease ms, _ => execResetButtonRelease_fixed ms s
  | .resetButtonStuck, _ => execResetButtonStuck_fixed s
  | .buttonContactDisagree, _ => execButtonContactDisagree_fixed s | .buttonReenable, _ => execButtonReenable_fixed s
  | .unpoweredEnclosureOpening, _ => execUnpoweredEnclosureOpening_fixed s
  | .bootSelfTestTimeout lane, _ => execBootSelfTestTimeout_fixed lane s
  | .postActivationTimeout, _ => execPostActivationTimeout_fixed s
  | .thermalWarningCleared, _ => execThermalWarningCleared_fixed s
  | .bootTemperatureInRange, _ => execBootTemperatureInRange_fixed s
  | .withdrawalWindowExpiry lane, _ => execWithdrawalWindowExpiry_fixed lane s
  | .safeCountWindowExpiry, _ => execSafeCountWindowExpiry_fixed s
  | .plLinkReturn link2, _ => execPlLinkReturn_fixed link2 s
  | .ethernetLinkChange net port2 up, _ => execEthernetLinkChange_fixed net port2 up s
  | .switchForwarding net port2 f, _ => execSwitchForwarding_fixed net port2 f s
  | .learnedAddressAgeing net mac, _ => execLearnedAddressAgeing_fixed net mac s

/-- What no step changes but by taking a command from the queue: the queue's rest and the identity that manufacture sets. -/
def State.made (s : State) : List Instr × Bytes × Nat × Nat × Duo (Duo Nat) :=
  (s.pending, s.id.partno, s.id.serial, s.id.hwrev, s.id.macs)

theorem State.made_of_fixed {s t : State} (h : t.fixed = s.fixed) : t.made = s.made := by
  simp only [State.fixed, Prod.mk.injEq] at h
  obtain ⟨hpending, -, hpartno, hserial, hhwrev, hmacs⟩ := h
  simp only [State.made, hpending, hpartno, hserial, hhwrev, hmacs]

theorem State.time_ot_of_fixed {s t : State} (h : t.fixed = s.fixed) : t.time.ot = s.time.ot :=
  congrArg (·.2.1) h

theorem State.powerTimes_made (s : State) (kaFed : Bool) (offMs : Nat) : (s.powerTimes kaFed offMs).made = s.made := rfl

theorem execPowerUp_made (env : BootEnv) (kaFed : Bool) (offMs : Nat) (s : State) :
    ∀ t, execPowerUp env kaFed offMs s = .next t → t.made = s.made := by
  rintro _ ⟨⟩
  split
  · rfl
  · rw [State.made_of_fixed (State.bootBegin_fixed ..)]
    exact s.powerTimes_made kaFed offMs

theorem exec_made (i : Instr) (s t : State) (h : exec i s = .next t) : t.made = s.made := by
  by_cases hi : ∀ env kaFed offMs, i ≠ .powerUp env kaFed offMs
  · exact State.made_of_fixed (exec_fixed i s hi t h)
  · simp only [Classical.not_forall, Classical.not_not] at hi
    obtain ⟨env, kaFed, offMs, rfl⟩ := hi
    exact execPowerUp_made env kaFed offMs s t h

/-- The clocks of a ms: time, the lanes' timebases, and the ages of mailboxes, sessions and updates. -/
def State.clocked (s : State) : State :=
  { s with time := s.time.tick, lanes := s.lanes.map LaneSt.tick, mail := s.mail.tick, upd := s.upd.tick }

theorem tick_powered {s : State} (hon : s.pow.on = true) (hcommons : s.pow.commons = true) :
    tick s = s.clearOut.clocked.tickCycle.tickCells.tickRecs.restartFw := by
  simp only [tick, hon, Bool.not_true, Bool.false_eq_true, if_false]
  rw [if_neg (by simp [State.clearOut, hcommons])]
  rfl

theorem tick_unpowered {s : State} (hon : s.pow.on = false) : tick s = s := by
  simp only [tick, hon, Bool.not_false, if_true]

theorem tick_no_commons {s : State} (hon : s.pow.on = true) (hcommons : s.pow.commons = false) : tick s = s.clearOut := by
  simp only [tick, hon, Bool.not_true, Bool.false_eq_true, if_false]
  rw [if_pos (by simp [State.clearOut, hcommons])]

theorem State.clearOut_made (s : State) : s.clearOut.made = s.made := rfl

theorem State.clocked_made (s : State) : s.clocked.made = s.made := by simp only [State.made, State.clocked]

theorem tick_fixed_of_powered {s : State} (hon : s.pow.on = true) (hcommons : s.pow.commons = true) :
    (tick s).fixed = s.clearOut.clocked.fixed := by
  rw [tick_powered hon hcommons, State.restartFw_fixed, State.tickRecs_fixed, State.tickCells_fixed,
    State.tickCycle_fixed]

theorem tick_made (s : State) : (tick s).made = s.made := by
  cases hon : s.pow.on
  case false => rw [tick_unpowered hon]
  case true =>
    cases hcommons : s.pow.commons
    case false => rw [tick_no_commons hon hcommons, s.clearOut_made]
    case true => rw [State.made_of_fixed (tick_fixed_of_powered hon hcommons), State.clocked_made, s.clearOut_made]

/-- Settles O42: a tick and every command keep the queue they run on and the identity, and every command but POWER_UP the
operating time. -/
theorem identityKept : Obligations.IdentityKept := by
  unfold Obligations.IdentityKept
  intro s t h
  have hmade : t.made = State.made { s with pending := s.pending.tail } := by
    obtain ⟨hq, rfl⟩ | ⟨c, rest, hq, h⟩ := step_cases h
    · rw [tick_made, hq]
      simp only [State.made, hq, List.tail_nil]
    · rw [exec_made c _ t h, hq, List.tail_cons]
  simp only [State.made, Prod.mk.injEq] at hmade
  obtain ⟨hpending, hpartno, hserial, hhwrev, hmacs⟩ := hmade
  refine ⟨hpending, hpartno, hserial, hhwrev, hmacs, fun c rest hq hc => ?_⟩
  obtain ⟨hnil, -⟩ | ⟨d, rest', hq', h⟩ := step_cases h
  · rw [hnil] at hq
    cases hq
  · rw [hq'] at hq
    cases hq
    exact State.time_ot_of_fixed (s := { s with pending := rest }) (exec_fixed c _ hc t h)

/-! ### Credentials, rollback floors and the tamper latch (12 R356, 15 R428, 16 R432) -/

/-- Does a command change the credentials, the rollback floors or the tamper latch? -/
def changesGuard : Instr → Bool
  | .credAdd _ | .credRevoke _ | .lcTransition _ | .imageConfirmed | .tamperSwitchOpen | .sealLoopCheck _
  | .unpoweredEnclosureOpening => true
  | _ => false

theorem exec_guard (i : Instr) (s : State) (hi : changesGuard i = false) : ∀ t, exec i s = .next t → t.guard = s.guard :=
  match i, hi with
  | .openSession mb, _ => execOpenSession_guard mb s | .auth mb, _ => execAuth_guard mb s
  | .close mb, _ => execClose_guard mb s | .sessionList mb, _ => execSessionList_guard mb s
  | .credList mb, _ => execCredList_guard mb s | .identity mb, _ => execIdentity_guard mb s
  | .cycleStatus mb, _ => execCycleStatus_guard mb s | .laneStatus mb, _ => execLaneStatus_guard mb s
  | .inputStatus mb, _ => execInputStatus_guard mb s | .outputStatus mb, _ => execOutputStatus_guard mb s
  | .connStatus mb, _ => execConnStatus_guard mb s | .elementRead mb, _ => execElementRead_guard mb s
  | .routeRead mb, _ => execRouteRead_guard mb s | .trellisStatus mb, _ => execTrellisStatus_guard mb s
  | .routeIdent mb, _ => execRouteIdent_guard mb s | .mode mb, _ => execMode_guard mb s
  | .restart mb, _ => execRestart_guard mb s | .maint mb, _ => execMaint_guard mb s
  | .stageOpen mb, _ => execStageOpen_guard mb s | .stageWrite mb, _ => execStageWrite_guard mb s
  | .stageRead mb, _ => execStageRead_guard mb s | .stageDiscard mb, _ => execStageDiscard_guard mb s
  | .stageCheck mb, _ => execStageCheck_guard mb s | .stageApply mb, _ => execStageApply_guard mb s
  | .stageStatus mb, _ => execStageStatus_guard mb s | .connKey mb, _ => execConnKey_guard mb s
  | .imageInfo mb, _ => execImageInfo_guard mb s | .activate mb, _ => execActivate_guard mb s
  | .updOpen mb, _ => execUpdOpen_guard mb s | .updData mb, _ => execUpdData_guard mb s
  | .updVerify mb, _ => execUpdVerify_guard mb s | .updActivate mb, _ => execUpdActivate_guard mb s
  | .updAbort mb, _ => execUpdAbort_guard mb s | .updStatus mb, _ => execUpdStatus_guard mb s
  | .recOpen mb, _ => execRecOpen_guard mb s | .recNext mb, _ => execRecNext_guard mb s
  | .recClose mb, _ => execRecClose_guard mb s | .recCounters mb, _ => execRecCounters_guard mb s
  | .testRun mb, _ => execTestRun_guard mb s | .testList mb, _ => execTestList_guard mb s
  | .testAbort mb, _ => execTestAbort_guard mb s | .hedgeRelease mb, _ => execHedgeRelease_guard mb s
  | .faultStatus mb, _ => execFaultStatus_guard mb s | .escBounds mb, _ => execEscBounds_guard mb s
  | .hedgeList mb, _ => execHedgeList_guard mb s | .routeSet mb, _ => execRouteSet_guard mb s
  | .routeCancel mb, _ => execRouteCancel_guard mb s | .autoSet mb, _ => execAutoSet_guard mb s
  | .trigArm mb, _ => execTrigArm_guard mb s | .keyRelease mb, _ => execKeyRelease_guard mb s
  | .emergRelease mb, _ => execEmergRelease_guard mb s | .axleReset mb, _ => execAxleReset_guard mb s
  | .timeGet mb, _ => execTimeGet_guard mb s | .timeSet mb, _ => execTimeSet_guard mb s
  | .timeSource mb, _ => execTimeSource_guard mb s | .pairStatus mb, _ => execPairStatus_guard mb s
  | .handover mb, _ => execHandover_guard mb s | .coldAssume mb, _ => execColdAssume_guard mb s
  | .sbStatus mb, _ => execSbStatus_guard mb s | .sbErrlog mb, _ => execSbErrlog_guard mb s
  | .sbErrclr mb, _ => execSbErrclr_guard mb s | .windowSet mb, _ => execWindowSet_guard mb s
  | .tunnelSet mb, _ => execTunnelSet_guard mb s | .tunnelStatus mb, _ => execTunnelStatus_guard mb s
  | .forceSet mb, _ => execForceSet_guard mb s | .forceClear mb, _ => execForceClear_guard mb s
  | .forceList mb, _ => execForceList_guard mb s
  | .mailboxClaim acc mb ownkey, _ => execMailboxClaim_guard acc mb ownkey s
  | .mailboxRelease acc mb, _ => execMailboxRelease_guard acc mb s
  | .doorbellRing acc mb tag, _ => execDoorbellRing_guard acc mb tag s
  | .doorbellAck acc mb, _ => execDoorbellAck_guard acc mb s
  | .registerWrite acc addr data, _ => execRegisterWrite_guard acc addr data s
  | .commandResponseTimeout mb, _ => execCommandResponseTimeout_guard mb s
  | .mailboxAgeTimeout mb, _ => execMailboxAgeTimeout_guard mb s
  | .sessionIdleTimeout session, _ => execSessionIdleTimeout_guard session s
  | .authTimeout, _ => execAuthTimeout_guard s | .dueMark lane env, _ => execDueMark_guard lane env s
  | .overrunLimit, _ => execOverrunLimit_guard s
  | .exchangeClose forms issued comp done, _ => execExchangeClose_guard forms issued comp done s
  | .telegramRelease conn sc1 sc2 comp done, _ => execTelegramRelease_guard conn sc1 sc2 comp done s
  | .safetyCodeFailLimit, _ => execSafetyCodeFailLimit_guard s | .mcloseSend, _ => execMcloseSend_guard s
  | .resyncCopy lane r, _ => execResyncCopy_guard lane r s | .resyncRetry lane, _ => execResyncRetry_guard lane s
  | .rejoin lane, _ => execRejoin_guard lane s | .comparatorMismatch x, _ => execComparatorMismatch_guard x s
  | .arbitrationSelfTestDone lane core0 core1 cmp, _ => execArbitrationSelfTestDone_guard lane core0 core1 cmp s
  | .arbitrationSelfTestTimeout lane, _ => execArbitrationSelfTestTimeout_guard lane s
  | .restartCheckDone lane cmpOk bankOk, _ => execRestartCheckDone_guard lane cmpOk bankOk s
  | .progressTimeout lane, _ => execProgressTimeout_guard lane s | .laneStall lane, _ => execLaneStall_guard lane s
  | .illegalDualRailCode region block, _ => execIllegalDualRailCode_guard region block s
  | .cacheError lane kind, _ => execCacheError_guard lane kind s
  | .memoryScrubError lane found, _ => execMemoryScrubError_guard lane found s
  | .laneSupplyLoss lane, _ => execLaneSupplyLoss_guard lane s
  | .laneSupplyReturn lane, _ => execLaneSupplyReturn_guard lane s
  | .commonsSupplyLoss, _ => execCommonsSupplyLoss_guard s | .serviceSupplyLoss, _ => execServiceSupplyLoss_guard s
  | .serviceRegionReturn, _ => execServiceRegionReturn_guard s | .timebaseTrim offs, _ => execTimebaseTrim_guard offs s
  | .tokenOverrun, _ => execTokenOverrun_guard s | .tokenRegenerate, _ => execTokenRegenerate_guard s
  | .fabricGrantTimeout user, _ => execFabricGrantTimeout_guard user s
  | .faultEventCollected fsid, _ => execFaultEventCollected_guard fsid s
  | .escalation fsid, _ => execEscalation_guard fsid s
  | .escalationWindowExpiry fsid, _ => execEscalationWindowExpiry_guard fsid s
  | .laneLatchOut lane, _ => execLaneLatchOut_guard lane s | .safeCountLimit, _ => execSafeCountLimit_guard s
  | .eventAck lane seq, _ => execEventAck_guard lane seq s | .graceExpiry seq, _ => execGraceExpiry_guard seq s
  | .settleWindowEnd block pass, _ => execSettleWindowEnd_guard block pass s
  | .mfSelfCheck agree illegal conducting, _ => execMfSelfCheck_guard agree illegal conducting s
  | .duoLimit, _ => execDuoLimit_guard s | .holdLimit lane, _ => execHoldLimit_guard lane s
  | .moveTimeLimit elem, _ => execMoveTimeLimit_guard elem s | .provingTime elem, _ => execProvingTime_guard elem s
  | .clearingDelay elem, _ => execClearingDelay_guard elem s
  | .resetStepLimit elem, _ => execResetStepLimit_guard elem s
  | .closeTimeLimit elem, _ => execCloseTimeLimit_guard elem s | .openDelay elem, _ => execOpenDelay_guard elem s
  | .directionExchangeLimit elem, _ => execDirectionExchangeLimit_guard elem s
  | .settingTimeLimit route, _ => execSettingTimeLimit_guard route s
  | .requestLifetime route, _ => execRequestLifetime_guard route s
  | .approachReleaseTimer route, _ => execApproachReleaseTimer_guard route s
  | .overlapReleaseTimer route, _ => execOverlapReleaseTimer_guard route s
  | .releasingTimeout route, _ => execReleasingTimeout_guard route s
  | .slotMark lane stamp, _ => execSlotMark_guard lane stamp s
  | .testPulseStart cell on, _ => execTestPulseStart_guard cell on s
  | .testPulseEnd cell dropped, _ => execTestPulseEnd_guard cell dropped s
  | .pulseWindowEnd slot dropped recovered nextOn sxFell sxBack, _ => execPulseWindowEnd_guard slot dropped recovered nextOn sxFell sxBack s
  | .sxCurrentLimit cell, _ => execSxCurrentLimit_guard cell s
  | .inputFilterChange lane cell samples, _ => execInputFilterChange_guard lane cell samples s
  | .channelDisagreement lane cell, _ => execChannelDisagreement_guard lane cell s
  | .discrepancyFault lane cell, _ => execDiscrepancyFault_guard lane cell s
  | .bankSupplyTrip bank high, _ => execBankSupplyTrip_guard bank high s
  | .bankSupplyRecover bank, _ => execBankSupplyRecover_guard bank s | .roundMark lane, _ => execRoundMark_guard lane s
  | .testNotCompleted cell lane, _ => execTestNotCompleted_guard cell lane s
  | .testPosition bank midOk, _ => execTestPosition_guard bank midOk s
  | .darkStepEnd bank current, _ => execDarkStepEnd_guard bank current s
  | .lightStepEnd bank mids current pxOn, _ => execLightStepEnd_guard bank mids current pxOn s
  | .midpointStuck cell path high, _ => execMidpointStuck_guard cell path high s
  | .pathCurrentWithdrawn cell path, _ => execPathCurrentWithdrawn_guard cell path s
  | .readbackFault lane cell samples, _ => execReadbackFault_guard lane cell samples s
  | .externalVoltage cell, _ => execExternalVoltage_guard cell s
  | .overloadTrip cell cause, _ => execOverloadTrip_guard cell cause s
  | .clampOvertemp cell, _ => execClampOvertemp_guard cell s
  | .bankOvercurrent bank, _ => execBankOvercurrent_guard bank s
  | .feedbackMismatch lane cell, _ => execFeedbackMismatch_guard lane cell s
  | .frameReceived net f us, _ => execFrameReceived_guard net f us s
  | .skewExpiry conn peer2, _ => execSkewExpiry_guard conn peer2 s
  | .oneNetworkSilent conn, _ => execOneNetworkSilent_guard conn s
  | .ringtestSend net, _ => execRingtestSend_guard net s
  | .ringtestReceived net port2 f, _ => execRingtestReceived_guard net port2 f s
  | .ringBreak net, _ => execRingBreak_guard net s | .ringClose net, _ => execRingClose_guard net s
  | .pstartReceived m us, _ => execPstartReceived_guard m us s | .mblockReceived m, _ => execMblockReceived_guard m s
  | .mcloseReceived m, _ => execMcloseReceived_guard m s
  | .preportReceived crcOk h, _ => execPreportReceived_guard crcOk h s
  | .cmdfwdReceived m, _ => execCmdfwdReceived_guard m s
  | .heartbeatReceived net f, _ => execHeartbeatReceived_guard net f s
  | .plLinkLoss link2, _ => execPlLinkLoss_guard link2 s
  | .opticInserted link2 kind, _ => execOpticInserted_guard link2 kind s
  | .partnerSilent, _ => execPartnerSilent_guard s | .inStep, _ => execInStep_guard s
  | .leadClaimConflict, _ => execLeadClaimConflict_guard s | .joinWaitExpiry, _ => execJoinWaitExpiry_guard s
  | .revertHoldOff, _ => execRevertHoldOff_guard s | .pairApplyTimeout, _ => execPairApplyTimeout_guard s
  | .sbWrite win off data, _ => execSbWrite_guard win off data s
  | .sbRead win off len, _ => execSbRead_guard win off len s
  | .sbPostedWrite win off data, _ => execSbPostedWrite_guard win off data s
  | .bridgeFrameReceived net f, _ => execBridgeFrameReceived_guard net f s
  | .sbTransferTimeout seq, _ => execSbTransferTimeout_guard seq s | .sbBusyRetry seq, _ => execSbBusyRetry_guard seq s
  | .sbHeldResultExpiry vk win off len, _ => execSbHeldResultExpiry_guard vk win off len s
  | .legacyFrameReceived port data ending, _ => execLegacyFrameReceived_guard port data ending s
  | .tunnelFrameReceived net f, _ => execTunnelFrameReceived_guard net f s
  | .legacyTransmit tunnel, _ => execLegacyTransmit_guard tunnel s
  | .tunnelKeepalive tunnel, _ => execTunnelKeepalive_guard tunnel s
  | .tunnelDown tunnel, _ => execTunnelDown_guard tunnel s | .otCheckpoint, _ => execOtCheckpoint_guard s
  | .otShadowWrite, _ => execOtShadowWrite_guard s | .archiveWindowEnd, _ => execArchiveWindowEnd_guard s
  | .coalescingWindowEnd kind source, _ => execCoalescingWindowEnd_guard kind source s
  | .dropRecord, _ => execDropRecord_guard s
  | .logSegmentFailure log segment, _ => execLogSegmentFailure_guard log segment s
  | .ptpSync offsetUs master, _ => execPtpSync_guard offsetUs master s | .ptpUnlock, _ => execPtpUnlock_guard s
  | .stageCheckDone differs, _ => execStageCheckDone_guard differs s | .updVerifyDone, _ => execUpdVerifyDone_guard s
  | .updateSessionTimeout, _ => execUpdateSessionTimeout_guard s | .laneTurn lane, _ => execLaneTurn_guard lane s
  | .kernelLoadDone lane, _ => execKernelLoadDone_guard lane s | .levelSwitch, _ => execLevelSwitch_guard s
  | .testComplete codes, _ => execTestComplete_guard codes s
  | .preconditionCheck q, _ => execPreconditionCheck_guard q s
  | .oscillatorMeasurement offset, _ => execOscillatorMeasurement_guard offset s
  | .powerFailWarning, _ => execPowerFailWarning_guard s | .powerReturn, _ => execPowerReturn_guard s
  | .powerUp env kaFed offMs, _ => execPowerUp_guard env kaFed offMs s
  | .bootRestart kind env, _ => execBootRestart_guard kind env s
  | .laneBootSelfTestDone lane pass, _ => execLaneBootSelfTestDone_guard lane pass s
  | .syncTimeout, _ => execSyncTimeout_guard s | .inputLoss second, _ => execInputLoss_guard second s
  | .inputRestored second, _ => execInputRestored_guard second s
  | .addressPlugPoll plug, _ => execAddressPlugPoll_guard plug s | .thermalWarning, _ => execThermalWarning_guard s
  | .thermalTrip, _ => execThermalTrip_guard s | .resetButtonRelease ms, _ => execResetButtonRelease_guard ms s
  | .resetButtonStuck, _ => execResetButtonStuck_guard s
  | .buttonContactDisagree, _ => execButtonContactDisagree_guard s | .buttonReenable, _ => execButtonReenable_guard s
  | .bootSelfTestTimeout lane, _ => execBootSelfTestTimeout_guard lane s
  | .postActivationTimeout, _ => execPostActivationTimeout_guard s
  | .thermalWarningCleared, _ => execThermalWarningCleared_guard s
  | .bootTemperatureInRange, _ => execBootTemperatureInRange_guard s
  | .withdrawalWindowExpiry lane, _ => execWithdrawalWindowExpiry_guard lane s
  | .safeCountWindowExpiry, _ => execSafeCountWindowExpiry_guard s
  | .plLinkReturn link2, _ => execPlLinkReturn_guard link2 s
  | .ethernetLinkChange net port2 up, _ => execEthernetLinkChange_guard net port2 up s
  | .switchForwarding net port2 f, _ => execSwitchForwarding_guard net port2 f s
  | .learnedAddressAgeing net mac, _ => execLearnedAddressAgeing_guard net mac s

theorem changesGuard_eq_false {c : Instr} (hmail : ∀ mb, c ≠ .credAdd mb ∧ c ≠ .credRevoke mb ∧ c ≠ .lcTransition mb)
    (himage : c ≠ .imageConfirmed) (hswitch : c ≠ .tamperSwitchOpen) (hseal : ∀ b, c ≠ .sealLoopCheck b)
    (hopening : c ≠ .unpoweredEnclosureOpening) : changesGuard c = false := by
  unfold changesGuard
  split
  · exact absurd rfl (hmail _).1
  · exact absurd rfl (hmail _).2.1
  · exact absurd rfl (hmail _).2.2
  · exact absurd rfl himage
  · exact absurd rfl hswitch
  · exact absurd rfl (hseal _)
  · exact absurd rfl hopening
  · rfl

/-- Settles O43: every command but those named keeps the credentials, the floors and the tamper latch. -/
theorem guardKept : Obligations.GuardKept := by
  unfold Obligations.GuardKept
  exact fun s t c h hmail himage hswitch hseal hopening =>
    exec_guard c s (changesGuard_eq_false hmail himage hswitch hseal hopening) t h

/-! ### The running application (01 R2, 04 R128, 11 R311) -/

theorem exec_appl (i : Instr) (s : State) (hi : reachesApp i = false) : ∀ t, exec i s = .next t → t.appl = s.appl :=
  match i, hi with
  | .openSession mb, _ => execOpenSession_appl mb s | .auth mb, _ => execAuth_appl mb s
  | .close mb, _ => execClose_appl mb s | .sessionList mb, _ => execSessionList_appl mb s
  | .credAdd mb, _ => execCredAdd_appl mb s | .credRevoke mb, _ => execCredRevoke_appl mb s
  | .credList mb, _ => execCredList_appl mb s | .identity mb, _ => execIdentity_appl mb s
  | .cycleStatus mb, _ => execCycleStatus_appl mb s | .laneStatus mb, _ => execLaneStatus_appl mb s
  | .inputStatus mb, _ => execInputStatus_appl mb s | .outputStatus mb, _ => execOutputStatus_appl mb s
  | .connStatus mb, _ => execConnStatus_appl mb s | .elementRead mb, _ => execElementRead_appl mb s
  | .routeRead mb, _ => execRouteRead_appl mb s | .trellisStatus mb, _ => execTrellisStatus_appl mb s
  | .routeIdent mb, _ => execRouteIdent_appl mb s | .lcTransition mb, _ => execLcTransition_appl mb s
  | .mode mb, _ => execMode_appl mb s | .restart mb, _ => execRestart_appl mb s | .maint mb, _ => execMaint_appl mb s
  | .stageOpen mb, _ => execStageOpen_appl mb s | .stageWrite mb, _ => execStageWrite_appl mb s
  | .stageRead mb, _ => execStageRead_appl mb s | .stageDiscard mb, _ => execStageDiscard_appl mb s
  | .stageCheck mb, _ => execStageCheck_appl mb s | .stageApply mb, _ => execStageApply_appl mb s
  | .stageStatus mb, _ => execStageStatus_appl mb s | .connKey mb, _ => execConnKey_appl mb s
  | .imageInfo mb, _ => execImageInfo_appl mb s | .activate mb, _ => execActivate_appl mb s
  | .updOpen mb, _ => execUpdOpen_appl mb s | .updData mb, _ => execUpdData_appl mb s
  | .updVerify mb, _ => execUpdVerify_appl mb s | .updActivate mb, _ => execUpdActivate_appl mb s
  | .updAbort mb, _ => execUpdAbort_appl mb s | .updStatus mb, _ => execUpdStatus_appl mb s
  | .recOpen mb, _ => execRecOpen_appl mb s | .recNext mb, _ => execRecNext_appl mb s
  | .recClose mb, _ => execRecClose_appl mb s | .recCounters mb, _ => execRecCounters_appl mb s
  | .testRun mb, _ => execTestRun_appl mb s | .testList mb, _ => execTestList_appl mb s
  | .testAbort mb, _ => execTestAbort_appl mb s | .hedgeRelease mb, _ => execHedgeRelease_appl mb s
  | .faultStatus mb, _ => execFaultStatus_appl mb s | .escBounds mb, _ => execEscBounds_appl mb s
  | .hedgeList mb, _ => execHedgeList_appl mb s | .timeGet mb, _ => execTimeGet_appl mb s
  | .timeSet mb, _ => execTimeSet_appl mb s | .timeSource mb, _ => execTimeSource_appl mb s
  | .pairStatus mb, _ => execPairStatus_appl mb s | .handover mb, _ => execHandover_appl mb s
  | .coldAssume mb, _ => execColdAssume_appl mb s | .sbStatus mb, _ => execSbStatus_appl mb s
  | .sbErrlog mb, _ => execSbErrlog_appl mb s | .sbErrclr mb, _ => execSbErrclr_appl mb s
  | .windowSet mb, _ => execWindowSet_appl mb s | .tunnelSet mb, _ => execTunnelSet_appl mb s
  | .tunnelStatus mb, _ => execTunnelStatus_appl mb s | .forceSet mb, _ => execForceSet_appl mb s
  | .forceClear mb, _ => execForceClear_appl mb s | .forceList mb, _ => execForceList_appl mb s
  | .mailboxClaim acc mb ownkey, _ => execMailboxClaim_appl acc mb ownkey s
  | .mailboxRelease acc mb, _ => execMailboxRelease_appl acc mb s
  | .doorbellRing acc mb tag, _ => execDoorbellRing_appl acc mb tag s
  | .doorbellAck acc mb, _ => execDoorbellAck_appl acc mb s
  | .registerWrite acc addr data, _ => execRegisterWrite_appl acc addr data s
  | .commandResponseTimeout mb, _ => execCommandResponseTimeout_appl mb s
  | .mailboxAgeTimeout mb, _ => execMailboxAgeTimeout_appl mb s
  | .sessionIdleTimeout session, _ => execSessionIdleTimeout_appl session s | .authTimeout, _ => execAuthTimeout_appl s
  | .overrunLimit, _ => execOverrunLimit_appl s
  | .telegramRelease conn sc1 sc2 comp done, _ => execTelegramRelease_appl conn sc1 sc2 comp done s
  | .safetyCodeFailLimit, _ => execSafetyCodeFailLimit_appl s | .mcloseSend, _ => execMcloseSend_appl s
  | .resyncCopy lane r, _ => execResyncCopy_appl lane r s | .resyncRetry lane, _ => execResyncRetry_appl lane s
  | .rejoin lane, _ => execRejoin_appl lane s | .comparatorMismatch x, _ => execComparatorMismatch_appl x s
  | .arbitrationSelfTestDone lane core0 core1 cmp, _ => execArbitrationSelfTestDone_appl lane core0 core1 cmp s
  | .arbitrationSelfTestTimeout lane, _ => execArbitrationSelfTestTimeout_appl lane s
  | .restartCheckDone lane cmpOk bankOk, _ => execRestartCheckDone_appl lane cmpOk bankOk s
  | .progressTimeout lane, _ => execProgressTimeout_appl lane s | .laneStall lane, _ => execLaneStall_appl lane s
  | .illegalDualRailCode region block, _ => execIllegalDualRailCode_appl region block s
  | .cacheError lane kind, _ => execCacheError_appl lane kind s
  | .memoryScrubError lane found, _ => execMemoryScrubError_appl lane found s
  | .laneSupplyLoss lane, _ => execLaneSupplyLoss_appl lane s
  | .laneSupplyReturn lane, _ => execLaneSupplyReturn_appl lane s
  | .commonsSupplyLoss, _ => execCommonsSupplyLoss_appl s | .serviceSupplyLoss, _ => execServiceSupplyLoss_appl s
  | .serviceRegionReturn, _ => execServiceRegionReturn_appl s | .timebaseTrim offs, _ => execTimebaseTrim_appl offs s
  | .tokenOverrun, _ => execTokenOverrun_appl s | .tokenRegenerate, _ => execTokenRegenerate_appl s
  | .fabricGrantTimeout user, _ => execFabricGrantTimeout_appl user s
  | .faultEventCollected fsid, _ => execFaultEventCollected_appl fsid s
  | .escalation fsid, _ => execEscalation_appl fsid s
  | .escalationWindowExpiry fsid, _ => execEscalationWindowExpiry_appl fsid s
  | .laneLatchOut lane, _ => execLaneLatchOut_appl lane s | .safeCountLimit, _ => execSafeCountLimit_appl s
  | .eventAck lane seq, _ => execEventAck_appl lane seq s | .graceExpiry seq, _ => execGraceExpiry_appl seq s
  | .settleWindowEnd block pass, _ => execSettleWindowEnd_appl block pass s
  | .mfSelfCheck agree illegal conducting, _ => execMfSelfCheck_appl agree illegal conducting s
  | .duoLimit, _ => execDuoLimit_appl s | .holdLimit lane, _ => execHoldLimit_appl lane s
  | .slotMark lane stamp, _ => execSlotMark_appl lane stamp s
  | .testPulseStart cell on, _ => execTestPulseStart_appl cell on s
  | .testPulseEnd cell dropped, _ => execTestPulseEnd_appl cell dropped s
  | .pulseWindowEnd slot dropped recovered nextOn sxFell sxBack, _ => execPulseWindowEnd_appl slot dropped recovered nextOn sxFell sxBack s
  | .sxCurrentLimit cell, _ => execSxCurrentLimit_appl cell s
  | .inputFilterChange lane cell samples, _ => execInputFilterChange_appl lane cell samples s
  | .channelDisagreement lane cell, _ => execChannelDisagreement_appl lane cell s
  | .discrepancyFault lane cell, _ => execDiscrepancyFault_appl lane cell s
  | .bankSupplyTrip bank high, _ => execBankSupplyTrip_appl bank high s
  | .bankSupplyRecover bank, _ => execBankSupplyRecover_appl bank s | .roundMark lane, _ => execRoundMark_appl lane s
  | .testNotCompleted cell lane, _ => execTestNotCompleted_appl cell lane s
  | .testPosition bank midOk, _ => execTestPosition_appl bank midOk s
  | .darkStepEnd bank current, _ => execDarkStepEnd_appl bank current s
  | .lightStepEnd bank mids current pxOn, _ => execLightStepEnd_appl bank mids current pxOn s
  | .midpointStuck cell path high, _ => execMidpointStuck_appl cell path high s
  | .pathCurrentWithdrawn cell path, _ => execPathCurrentWithdrawn_appl cell path s
  | .readbackFault lane cell samples, _ => execReadbackFault_appl lane cell samples s
  | .externalVoltage cell, _ => execExternalVoltage_appl cell s
  | .overloadTrip cell cause, _ => execOverloadTrip_appl cell cause s
  | .clampOvertemp cell, _ => execClampOvertemp_appl cell s
  | .bankOvercurrent bank, _ => execBankOvercurrent_appl bank s
  | .feedbackMismatch lane cell, _ => execFeedbackMismatch_appl lane cell s
  | .frameReceived net f us, _ => execFrameReceived_appl net f us s
  | .skewExpiry conn peer2, _ => execSkewExpiry_appl conn peer2 s
  | .oneNetworkSilent conn, _ => execOneNetworkSilent_appl conn s | .ringtestSend net, _ => execRingtestSend_appl net s
  | .ringtestReceived net port2 f, _ => execRingtestReceived_appl net port2 f s
  | .ringBreak net, _ => execRingBreak_appl net s | .ringClose net, _ => execRingClose_appl net s
  | .pstartReceived m us, _ => execPstartReceived_appl m us s | .mblockReceived m, _ => execMblockReceived_appl m s
  | .mcloseReceived m, _ => execMcloseReceived_appl m s
  | .preportReceived crcOk h, _ => execPreportReceived_appl crcOk h s
  | .heartbeatReceived net f, _ => execHeartbeatReceived_appl net f s
  | .plLinkLoss link2, _ => execPlLinkLoss_appl link2 s
  | .opticInserted link2 kind, _ => execOpticInserted_appl link2 kind s | .partnerSilent, _ => execPartnerSilent_appl s
  | .inStep, _ => execInStep_appl s | .leadClaimConflict, _ => execLeadClaimConflict_appl s
  | .revertHoldOff, _ => execRevertHoldOff_appl s | .pairApplyTimeout, _ => execPairApplyTimeout_appl s
  | .sbWrite win off data, _ => execSbWrite_appl win off data s
  | .sbRead win off len, _ => execSbRead_appl win off len s
  | .sbPostedWrite win off data, _ => execSbPostedWrite_appl win off data s
  | .bridgeFrameReceived net f, _ => execBridgeFrameReceived_appl net f s
  | .sbTransferTimeout seq, _ => execSbTransferTimeout_appl seq s | .sbBusyRetry seq, _ => execSbBusyRetry_appl seq s
  | .sbHeldResultExpiry vk win off len, _ => execSbHeldResultExpiry_appl vk win off len s
  | .legacyFrameReceived port data ending, _ => execLegacyFrameReceived_appl port data ending s
  | .tunnelFrameReceived net f, _ => execTunnelFrameReceived_appl net f s
  | .legacyTransmit tunnel, _ => execLegacyTransmit_appl tunnel s
  | .tunnelKeepalive tunnel, _ => execTunnelKeepalive_appl tunnel s
  | .tunnelDown tunnel, _ => execTunnelDown_appl tunnel s | .otCheckpoint, _ => execOtCheckpoint_appl s
  | .otShadowWrite, _ => execOtShadowWrite_appl s | .archiveWindowEnd, _ => execArchiveWindowEnd_appl s
  | .coalescingWindowEnd kind source, _ => execCoalescingWindowEnd_appl kind source s
  | .dropRecord, _ => execDropRecord_appl s
  | .logSegmentFailure log segment, _ => execLogSegmentFailure_appl log segment s
  | .ptpSync offsetUs master, _ => execPtpSync_appl offsetUs master s | .ptpUnlock, _ => execPtpUnlock_appl s
  | .stageCheckDone differs, _ => execStageCheckDone_appl differs s | .updVerifyDone, _ => execUpdVerifyDone_appl s
  | .updateSessionTimeout, _ => execUpdateSessionTimeout_appl s | .laneTurn lane, _ => execLaneTurn_appl lane s
  | .kernelLoadDone lane, _ => execKernelLoadDone_appl lane s | .levelSwitch, _ => execLevelSwitch_appl s
  | .imageConfirmed, _ => execImageConfirmed_appl s | .testComplete codes, _ => execTestComplete_appl codes s
  | .preconditionCheck q, _ => execPreconditionCheck_appl q s
  | .oscillatorMeasurement offset, _ => execOscillatorMeasurement_appl offset s
  | .tamperSwitchOpen, _ => execTamperSwitchOpen_appl s | .sealLoopCheck intact, _ => execSealLoopCheck_appl intact s
  | .powerFailWarning, _ => execPowerFailWarning_appl s | .powerReturn, _ => execPowerReturn_appl s
  | .syncTimeout, _ => execSyncTimeout_appl s | .inputLoss second, _ => execInputLoss_appl second s
  | .inputRestored second, _ => execInputRestored_appl second s
  | .addressPlugPoll plug, _ => execAddressPlugPoll_appl plug s | .thermalWarning, _ => execThermalWarning_appl s
  | .thermalTrip, _ => execThermalTrip_appl s | .resetButtonRelease ms, _ => execResetButtonRelease_appl ms s
  | .resetButtonStuck, _ => execResetButtonStuck_appl s | .buttonContactDisagree, _ => execButtonContactDisagree_appl s
  | .buttonReenable, _ => execButtonReenable_appl s
  | .unpoweredEnclosureOpening, _ => execUnpoweredEnclosureOpening_appl s
  | .bootSelfTestTimeout lane, _ => execBootSelfTestTimeout_appl lane s
  | .postActivationTimeout, _ => execPostActivationTimeout_appl s
  | .thermalWarningCleared, _ => execThermalWarningCleared_appl s
  | .withdrawalWindowExpiry lane, _ => execWithdrawalWindowExpiry_appl lane s
  | .safeCountWindowExpiry, _ => execSafeCountWindowExpiry_appl s
  | .plLinkReturn link2, _ => execPlLinkReturn_appl link2 s
  | .ethernetLinkChange net port2 up, _ => execEthernetLinkChange_appl net port2 up s
  | .switchForwarding net port2 f, _ => execSwitchForwarding_appl net port2 f s
  | .learnedAddressAgeing net mac, _ => execLearnedAddressAgeing_appl net mac s

/-- Settles O44: every command that does not reach the running application leaves it alone. -/
theorem applicationKept : Obligations.ApplicationKept := by
  unfold Obligations.ApplicationKept
  exact fun s t c h hc => exec_appl c s hc t h

/-! ### SAFE and TERMINAL (10 R303, R305) -/

theorem exec_stop (i : Instr) (s : State) (hs : s.stop) (hpower : ∀ env kaFed offMs, i ≠ .powerUp env kaFed offMs)
    (hboot : ∀ kind env, i ≠ .bootRestart kind env) : ∀ t, exec i s = .next t → t.stop :=
  match i, hpower, hboot with
  | .powerUp env kaFed offMs, hpower, _ => absurd rfl (hpower env kaFed offMs)
  | .bootRestart kind env, _, hboot => absurd rfl (hboot kind env)
  | .openSession mb, _, _ => execOpenSession_stop mb s hs | .auth mb, _, _ => execAuth_stop mb s hs
  | .close mb, _, _ => execClose_stop mb s hs | .sessionList mb, _, _ => execSessionList_stop mb s hs
  | .credAdd mb, _, _ => execCredAdd_stop mb s hs | .credRevoke mb, _, _ => execCredRevoke_stop mb s hs
  | .credList mb, _, _ => execCredList_stop mb s hs | .identity mb, _, _ => execIdentity_stop mb s hs
  | .cycleStatus mb, _, _ => execCycleStatus_stop mb s hs | .laneStatus mb, _, _ => execLaneStatus_stop mb s hs
  | .inputStatus mb, _, _ => execInputStatus_stop mb s hs | .outputStatus mb, _, _ => execOutputStatus_stop mb s hs
  | .connStatus mb, _, _ => execConnStatus_stop mb s hs | .elementRead mb, _, _ => execElementRead_stop mb s hs
  | .routeRead mb, _, _ => execRouteRead_stop mb s hs | .trellisStatus mb, _, _ => execTrellisStatus_stop mb s hs
  | .routeIdent mb, _, _ => execRouteIdent_stop mb s hs | .lcTransition mb, _, _ => execLcTransition_stop mb s hs
  | .mode mb, _, _ => execMode_stop mb s hs | .restart mb, _, _ => execRestart_stop mb s hs
  | .maint mb, _, _ => execMaint_stop mb s hs | .stageOpen mb, _, _ => execStageOpen_stop mb s hs
  | .stageWrite mb, _, _ => execStageWrite_stop mb s hs | .stageRead mb, _, _ => execStageRead_stop mb s hs
  | .stageDiscard mb, _, _ => execStageDiscard_stop mb s hs | .stageCheck mb, _, _ => execStageCheck_stop mb s hs
  | .stageApply mb, _, _ => execStageApply_stop mb s hs | .stageStatus mb, _, _ => execStageStatus_stop mb s hs
  | .connKey mb, _, _ => execConnKey_stop mb s hs | .imageInfo mb, _, _ => execImageInfo_stop mb s hs
  | .activate mb, _, _ => execActivate_stop mb s hs | .updOpen mb, _, _ => execUpdOpen_stop mb s hs
  | .updData mb, _, _ => execUpdData_stop mb s hs | .updVerify mb, _, _ => execUpdVerify_stop mb s hs
  | .updActivate mb, _, _ => execUpdActivate_stop mb s hs | .updAbort mb, _, _ => execUpdAbort_stop mb s hs
  | .updStatus mb, _, _ => execUpdStatus_stop mb s hs | .recOpen mb, _, _ => execRecOpen_stop mb s hs
  | .recNext mb, _, _ => execRecNext_stop mb s hs | .recClose mb, _, _ => execRecClose_stop mb s hs
  | .recCounters mb, _, _ => execRecCounters_stop mb s hs | .testRun mb, _, _ => execTestRun_stop mb s hs
  | .testList mb, _, _ => execTestList_stop mb s hs | .testAbort mb, _, _ => execTestAbort_stop mb s hs
  | .hedgeRelease mb, _, _ => execHedgeRelease_stop mb s hs | .faultStatus mb, _, _ => execFaultStatus_stop mb s hs
  | .escBounds mb, _, _ => execEscBounds_stop mb s hs | .hedgeList mb, _, _ => execHedgeList_stop mb s hs
  | .routeSet mb, _, _ => execRouteSet_stop mb s hs | .routeCancel mb, _, _ => execRouteCancel_stop mb s hs
  | .autoSet mb, _, _ => execAutoSet_stop mb s hs | .trigArm mb, _, _ => execTrigArm_stop mb s hs
  | .keyRelease mb, _, _ => execKeyRelease_stop mb s hs | .emergRelease mb, _, _ => execEmergRelease_stop mb s hs
  | .axleReset mb, _, _ => execAxleReset_stop mb s hs | .timeGet mb, _, _ => execTimeGet_stop mb s hs
  | .timeSet mb, _, _ => execTimeSet_stop mb s hs | .timeSource mb, _, _ => execTimeSource_stop mb s hs
  | .pairStatus mb, _, _ => execPairStatus_stop mb s hs | .handover mb, _, _ => execHandover_stop mb s hs
  | .coldAssume mb, _, _ => execColdAssume_stop mb s hs | .sbStatus mb, _, _ => execSbStatus_stop mb s hs
  | .sbErrlog mb, _, _ => execSbErrlog_stop mb s hs | .sbErrclr mb, _, _ => execSbErrclr_stop mb s hs
  | .windowSet mb, _, _ => execWindowSet_stop mb s hs | .tunnelSet mb, _, _ => execTunnelSet_stop mb s hs
  | .tunnelStatus mb, _, _ => execTunnelStatus_stop mb s hs | .forceSet mb, _, _ => execForceSet_stop mb s hs
  | .forceClear mb, _, _ => execForceClear_stop mb s hs | .forceList mb, _, _ => execForceList_stop mb s hs
  | .mailboxClaim acc mb ownkey, _, _ => execMailboxClaim_stop acc mb ownkey s hs
  | .mailboxRelease acc mb, _, _ => execMailboxRelease_stop acc mb s hs
  | .doorbellRing acc mb tag, _, _ => execDoorbellRing_stop acc mb tag s hs
  | .doorbellAck acc mb, _, _ => execDoorbellAck_stop acc mb s hs
  | .registerWrite acc addr data, _, _ => execRegisterWrite_stop acc addr data s hs
  | .commandResponseTimeout mb, _, _ => execCommandResponseTimeout_stop mb s hs
  | .mailboxAgeTimeout mb, _, _ => execMailboxAgeTimeout_stop mb s hs
  | .sessionIdleTimeout session, _, _ => execSessionIdleTimeout_stop session s hs
  | .authTimeout, _, _ => execAuthTimeout_stop s hs | .dueMark lane env, _, _ => execDueMark_stop lane env s hs
  | .overrunLimit, _, _ => execOverrunLimit_stop s hs
  | .exchangeClose forms issued comp done, _, _ => execExchangeClose_stop forms issued comp done s hs
  | .telegramRelease conn sc1 sc2 comp done, _, _ => execTelegramRelease_stop conn sc1 sc2 comp done s hs
  | .safetyCodeFailLimit, _, _ => execSafetyCodeFailLimit_stop s hs | .mcloseSend, _, _ => execMcloseSend_stop s hs
  | .resyncCopy lane r, _, _ => execResyncCopy_stop lane r s hs
  | .resyncRetry lane, _, _ => execResyncRetry_stop lane s hs | .rejoin lane, _, _ => execRejoin_stop lane s hs
  | .comparatorMismatch x, _, _ => execComparatorMismatch_stop x s hs
  | .arbitrationSelfTestDone lane core0 core1 cmp, _, _ => execArbitrationSelfTestDone_stop lane core0 core1 cmp s hs
  | .arbitrationSelfTestTimeout lane, _, _ => execArbitrationSelfTestTimeout_stop lane s hs
  | .restartCheckDone lane cmpOk bankOk, _, _ => execRestartCheckDone_stop lane cmpOk bankOk s hs
  | .progressTimeout lane, _, _ => execProgressTimeout_stop lane s hs
  | .laneStall lane, _, _ => execLaneStall_stop lane s hs
  | .illegalDualRailCode region block, _, _ => execIllegalDualRailCode_stop region block s hs
  | .cacheError lane kind, _, _ => execCacheError_stop lane kind s hs
  | .memoryScrubError lane found, _, _ => execMemoryScrubError_stop lane found s hs
  | .laneSupplyLoss lane, _, _ => execLaneSupplyLoss_stop lane s hs
  | .laneSupplyReturn lane, _, _ => execLaneSupplyReturn_stop lane s hs
  | .commonsSupplyLoss, _, _ => execCommonsSupplyLoss_stop s hs
  | .serviceSupplyLoss, _, _ => execServiceSupplyLoss_stop s hs
  | .serviceRegionReturn, _, _ => execServiceRegionReturn_stop s hs
  | .timebaseTrim offs, _, _ => execTimebaseTrim_stop offs s hs | .tokenOverrun, _, _ => execTokenOverrun_stop s hs
  | .tokenRegenerate, _, _ => execTokenRegenerate_stop s hs
  | .fabricGrantTimeout user, _, _ => execFabricGrantTimeout_stop user s hs
  | .faultEventCollected fsid, _, _ => execFaultEventCollected_stop fsid s hs
  | .escalation fsid, _, _ => execEscalation_stop fsid s hs
  | .escalationWindowExpiry fsid, _, _ => execEscalationWindowExpiry_stop fsid s hs
  | .laneLatchOut lane, _, _ => execLaneLatchOut_stop lane s hs | .safeCountLimit, _, _ => execSafeCountLimit_stop s hs
  | .eventAck lane seq, _, _ => execEventAck_stop lane seq s hs
  | .graceExpiry seq, _, _ => execGraceExpiry_stop seq s hs
  | .settleWindowEnd block pass, _, _ => execSettleWindowEnd_stop block pass s hs
  | .mfSelfCheck agree illegal conducting, _, _ => execMfSelfCheck_stop agree illegal conducting s hs
  | .duoLimit, _, _ => execDuoLimit_stop s hs | .holdLimit lane, _, _ => execHoldLimit_stop lane s hs
  | .moveTimeLimit elem, _, _ => execMoveTimeLimit_stop elem s hs
  | .provingTime elem, _, _ => execProvingTime_stop elem s hs
  | .clearingDelay elem, _, _ => execClearingDelay_stop elem s hs
  | .resetStepLimit elem, _, _ => execResetStepLimit_stop elem s hs
  | .closeTimeLimit elem, _, _ => execCloseTimeLimit_stop elem s hs
  | .openDelay elem, _, _ => execOpenDelay_stop elem s hs
  | .directionExchangeLimit elem, _, _ => execDirectionExchangeLimit_stop elem s hs
  | .settingTimeLimit route, _, _ => execSettingTimeLimit_stop route s hs
  | .requestLifetime route, _, _ => execRequestLifetime_stop route s hs
  | .approachReleaseTimer route, _, _ => execApproachReleaseTimer_stop route s hs
  | .overlapReleaseTimer route, _, _ => execOverlapReleaseTimer_stop route s hs
  | .releasingTimeout route, _, _ => execReleasingTimeout_stop route s hs
  | .slotMark lane stamp, _, _ => execSlotMark_stop lane stamp s hs
  | .testPulseStart cell on, _, _ => execTestPulseStart_stop cell on s hs
  | .testPulseEnd cell dropped, _, _ => execTestPulseEnd_stop cell dropped s hs
  | .pulseWindowEnd slot dropped recovered nextOn sxFell sxBack, _, _ => execPulseWindowEnd_stop slot dropped recovered nextOn sxFell sxBack s hs
  | .sxCurrentLimit cell, _, _ => execSxCurrentLimit_stop cell s hs
  | .inputFilterChange lane cell samples, _, _ => execInputFilterChange_stop lane cell samples s hs
  | .channelDisagreement lane cell, _, _ => execChannelDisagreement_stop lane cell s hs
  | .discrepancyFault lane cell, _, _ => execDiscrepancyFault_stop lane cell s hs
  | .bankSupplyTrip bank high, _, _ => execBankSupplyTrip_stop bank high s hs
  | .bankSupplyRecover bank, _, _ => execBankSupplyRecover_stop bank s hs
  | .roundMark lane, _, _ => execRoundMark_stop lane s hs
  | .testNotCompleted cell lane, _, _ => execTestNotCompleted_stop cell lane s hs
  | .testPosition bank midOk, _, _ => execTestPosition_stop bank midOk s hs
  | .darkStepEnd bank current, _, _ => execDarkStepEnd_stop bank current s hs
  | .lightStepEnd bank mids current pxOn, _, _ => execLightStepEnd_stop bank mids current pxOn s hs
  | .midpointStuck cell path high, _, _ => execMidpointStuck_stop cell path high s hs
  | .pathCurrentWithdrawn cell path, _, _ => execPathCurrentWithdrawn_stop cell path s hs
  | .readbackFault lane cell samples, _, _ => execReadbackFault_stop lane cell samples s hs
  | .externalVoltage cell, _, _ => execExternalVoltage_stop cell s hs
  | .overloadTrip cell cause, _, _ => execOverloadTrip_stop cell cause s hs
  | .clampOvertemp cell, _, _ => execClampOvertemp_stop cell s hs
  | .bankOvercurrent bank, _, _ => execBankOvercurrent_stop bank s hs
  | .feedbackMismatch lane cell, _, _ => execFeedbackMismatch_stop lane cell s hs
  | .frameReceived net f us, _, _ => execFrameReceived_stop net f us s hs
  | .skewExpiry conn peer2, _, _ => execSkewExpiry_stop conn peer2 s hs
  | .oneNetworkSilent conn, _, _ => execOneNetworkSilent_stop conn s hs
  | .ringtestSend net, _, _ => execRingtestSend_stop net s hs
  | .ringtestReceived net port2 f, _, _ => execRingtestReceived_stop net port2 f s hs
  | .ringBreak net, _, _ => execRingBreak_stop net s hs | .ringClose net, _, _ => execRingClose_stop net s hs
  | .pstartReceived m us, _, _ => execPstartReceived_stop m us s hs
  | .mblockReceived m, _, _ => execMblockReceived_stop m s hs
  | .mcloseReceived m, _, _ => execMcloseReceived_stop m s hs
  | .preportReceived crcOk h, _, _ => execPreportReceived_stop crcOk h s hs
  | .cmdfwdReceived m, _, _ => execCmdfwdReceived_stop m s hs
  | .heartbeatReceived net f, _, _ => execHeartbeatReceived_stop net f s hs
  | .plLinkLoss link2, _, _ => execPlLinkLoss_stop link2 s hs
  | .opticInserted link2 kind, _, _ => execOpticInserted_stop link2 kind s hs
  | .partnerSilent, _, _ => execPartnerSilent_stop s hs | .inStep, _, _ => execInStep_stop s hs
  | .leadClaimConflict, _, _ => execLeadClaimConflict_stop s hs | .joinWaitExpiry, _, _ => execJoinWaitExpiry_stop s hs
  | .revertHoldOff, _, _ => execRevertHoldOff_stop s hs | .pairApplyTimeout, _, _ => execPairApplyTimeout_stop s hs
  | .sbWrite win off data, _, _ => execSbWrite_stop win off data s hs
  | .sbRead win off len, _, _ => execSbRead_stop win off len s hs
  | .sbPostedWrite win off data, _, _ => execSbPostedWrite_stop win off data s hs
  | .bridgeFrameReceived net f, _, _ => execBridgeFrameReceived_stop net f s hs
  | .sbTransferTimeout seq, _, _ => execSbTransferTimeout_stop seq s hs
  | .sbBusyRetry seq, _, _ => execSbBusyRetry_stop seq s hs
  | .sbHeldResultExpiry vk win off len, _, _ => execSbHeldResultExpiry_stop vk win off len s hs
  | .legacyFrameReceived port data ending, _, _ => execLegacyFrameReceived_stop port data ending s hs
  | .tunnelFrameReceived net f, _, _ => execTunnelFrameReceived_stop net f s hs
  | .legacyTransmit tunnel, _, _ => execLegacyTransmit_stop tunnel s hs
  | .tunnelKeepalive tunnel, _, _ => execTunnelKeepalive_stop tunnel s hs
  | .tunnelDown tunnel, _, _ => execTunnelDown_stop tunnel s hs | .otCheckpoint, _, _ => execOtCheckpoint_stop s hs
  | .otShadowWrite, _, _ => execOtShadowWrite_stop s hs | .archiveWindowEnd, _, _ => execArchiveWindowEnd_stop s hs
  | .coalescingWindowEnd kind source, _, _ => execCoalescingWindowEnd_stop kind source s hs
  | .dropRecord, _, _ => execDropRecord_stop s hs
  | .logSegmentFailure log segment, _, _ => execLogSegmentFailure_stop log segment s hs
  | .ptpSync offsetUs master, _, _ => execPtpSync_stop offsetUs master s hs
  | .ptpUnlock, _, _ => execPtpUnlock_stop s hs | .stageCheckDone differs, _, _ => execStageCheckDone_stop differs s hs
  | .updVerifyDone, _, _ => execUpdVerifyDone_stop s hs
  | .updateSessionTimeout, _, _ => execUpdateSessionTimeout_stop s hs
  | .laneTurn lane, _, _ => execLaneTurn_stop lane s hs
  | .kernelLoadDone lane, _, _ => execKernelLoadDone_stop lane s hs | .levelSwitch, _, _ => execLevelSwitch_stop s hs
  | .imageConfirmed, _, _ => execImageConfirmed_stop s hs
  | .testComplete codes, _, _ => execTestComplete_stop codes s hs
  | .preconditionCheck q, _, _ => execPreconditionCheck_stop q s hs
  | .oscillatorMeasurement offset, _, _ => execOscillatorMeasurement_stop offset s hs
  | .tamperSwitchOpen, _, _ => execTamperSwitchOpen_stop s hs
  | .sealLoopCheck intact, _, _ => execSealLoopCheck_stop intact s hs
  | .powerFailWarning, _, _ => execPowerFailWarning_stop s hs | .powerReturn, _, _ => execPowerReturn_stop s hs
  | .laneBootSelfTestDone lane pass, _, _ => execLaneBootSelfTestDone_stop lane pass s hs
  | .syncTimeout, _, _ => execSyncTimeout_stop s hs | .inputLoss second, _, _ => execInputLoss_stop second s hs
  | .inputRestored second, _, _ => execInputRestored_stop second s hs
  | .addressPlugPoll plug, _, _ => execAddressPlugPoll_stop plug s hs
  | .thermalWarning, _, _ => execThermalWarning_stop s hs | .thermalTrip, _, _ => execThermalTrip_stop s hs
  | .resetButtonRelease ms, _, _ => execResetButtonRelease_stop ms s hs
  | .resetButtonStuck, _, _ => execResetButtonStuck_stop s hs
  | .buttonContactDisagree, _, _ => execButtonContactDisagree_stop s hs
  | .buttonReenable, _, _ => execButtonReenable_stop s hs
  | .unpoweredEnclosureOpening, _, _ => execUnpoweredEnclosureOpening_stop s hs
  | .bootSelfTestTimeout lane, _, _ => execBootSelfTestTimeout_stop lane s hs
  | .postActivationTimeout, _, _ => execPostActivationTimeout_stop s hs
  | .thermalWarningCleared, _, _ => execThermalWarningCleared_stop s hs
  | .bootTemperatureInRange, _, _ => execBootTemperatureInRange_stop s hs
  | .withdrawalWindowExpiry lane, _, _ => execWithdrawalWindowExpiry_stop lane s hs
  | .safeCountWindowExpiry, _, _ => execSafeCountWindowExpiry_stop s hs
  | .plLinkReturn link2, _, _ => execPlLinkReturn_stop link2 s hs
  | .ethernetLinkChange net port2 up, _, _ => execEthernetLinkChange_stop net port2 up s hs
  | .switchForwarding net port2 f, _, _ => execSwitchForwarding_stop net port2 f s hs
  | .learnedAddressAgeing net mac, _, _ => execLearnedAddressAgeing_stop net mac s hs

theorem exec_term (i : Instr) (s : State) (hs : s.term) (hpower : ∀ env kaFed offMs, i ≠ .powerUp env kaFed offMs) :
    ∀ t, exec i s = .next t → t.term :=
  match i, hpower with
  | .powerUp env kaFed offMs, hpower => absurd rfl (hpower env kaFed offMs)
  | .openSession mb, _ => execOpenSession_term mb s hs | .auth mb, _ => execAuth_term mb s hs
  | .close mb, _ => execClose_term mb s hs | .sessionList mb, _ => execSessionList_term mb s hs
  | .credAdd mb, _ => execCredAdd_term mb s hs | .credRevoke mb, _ => execCredRevoke_term mb s hs
  | .credList mb, _ => execCredList_term mb s hs | .identity mb, _ => execIdentity_term mb s hs
  | .cycleStatus mb, _ => execCycleStatus_term mb s hs | .laneStatus mb, _ => execLaneStatus_term mb s hs
  | .inputStatus mb, _ => execInputStatus_term mb s hs | .outputStatus mb, _ => execOutputStatus_term mb s hs
  | .connStatus mb, _ => execConnStatus_term mb s hs | .elementRead mb, _ => execElementRead_term mb s hs
  | .routeRead mb, _ => execRouteRead_term mb s hs | .trellisStatus mb, _ => execTrellisStatus_term mb s hs
  | .routeIdent mb, _ => execRouteIdent_term mb s hs | .lcTransition mb, _ => execLcTransition_term mb s hs
  | .mode mb, _ => execMode_term mb s hs | .restart mb, _ => execRestart_term mb s hs
  | .maint mb, _ => execMaint_term mb s hs | .stageOpen mb, _ => execStageOpen_term mb s hs
  | .stageWrite mb, _ => execStageWrite_term mb s hs | .stageRead mb, _ => execStageRead_term mb s hs
  | .stageDiscard mb, _ => execStageDiscard_term mb s hs | .stageCheck mb, _ => execStageCheck_term mb s hs
  | .stageApply mb, _ => execStageApply_term mb s hs | .stageStatus mb, _ => execStageStatus_term mb s hs
  | .connKey mb, _ => execConnKey_term mb s hs | .imageInfo mb, _ => execImageInfo_term mb s hs
  | .activate mb, _ => execActivate_term mb s hs | .updOpen mb, _ => execUpdOpen_term mb s hs
  | .updData mb, _ => execUpdData_term mb s hs | .updVerify mb, _ => execUpdVerify_term mb s hs
  | .updActivate mb, _ => execUpdActivate_term mb s hs | .updAbort mb, _ => execUpdAbort_term mb s hs
  | .updStatus mb, _ => execUpdStatus_term mb s hs | .recOpen mb, _ => execRecOpen_term mb s hs
  | .recNext mb, _ => execRecNext_term mb s hs | .recClose mb, _ => execRecClose_term mb s hs
  | .recCounters mb, _ => execRecCounters_term mb s hs | .testRun mb, _ => execTestRun_term mb s hs
  | .testList mb, _ => execTestList_term mb s hs | .testAbort mb, _ => execTestAbort_term mb s hs
  | .hedgeRelease mb, _ => execHedgeRelease_term mb s hs | .faultStatus mb, _ => execFaultStatus_term mb s hs
  | .escBounds mb, _ => execEscBounds_term mb s hs | .hedgeList mb, _ => execHedgeList_term mb s hs
  | .routeSet mb, _ => execRouteSet_term mb s hs | .routeCancel mb, _ => execRouteCancel_term mb s hs
  | .autoSet mb, _ => execAutoSet_term mb s hs | .trigArm mb, _ => execTrigArm_term mb s hs
  | .keyRelease mb, _ => execKeyRelease_term mb s hs | .emergRelease mb, _ => execEmergRelease_term mb s hs
  | .axleReset mb, _ => execAxleReset_term mb s hs | .timeGet mb, _ => execTimeGet_term mb s hs
  | .timeSet mb, _ => execTimeSet_term mb s hs | .timeSource mb, _ => execTimeSource_term mb s hs
  | .pairStatus mb, _ => execPairStatus_term mb s hs | .handover mb, _ => execHandover_term mb s hs
  | .coldAssume mb, _ => execColdAssume_term mb s hs | .sbStatus mb, _ => execSbStatus_term mb s hs
  | .sbErrlog mb, _ => execSbErrlog_term mb s hs | .sbErrclr mb, _ => execSbErrclr_term mb s hs
  | .windowSet mb, _ => execWindowSet_term mb s hs | .tunnelSet mb, _ => execTunnelSet_term mb s hs
  | .tunnelStatus mb, _ => execTunnelStatus_term mb s hs | .forceSet mb, _ => execForceSet_term mb s hs
  | .forceClear mb, _ => execForceClear_term mb s hs | .forceList mb, _ => execForceList_term mb s hs
  | .mailboxClaim acc mb ownkey, _ => execMailboxClaim_term acc mb ownkey s hs
  | .mailboxRelease acc mb, _ => execMailboxRelease_term acc mb s hs
  | .doorbellRing acc mb tag, _ => execDoorbellRing_term acc mb tag s hs
  | .doorbellAck acc mb, _ => execDoorbellAck_term acc mb s hs
  | .registerWrite acc addr data, _ => execRegisterWrite_term acc addr data s hs
  | .commandResponseTimeout mb, _ => execCommandResponseTimeout_term mb s hs
  | .mailboxAgeTimeout mb, _ => execMailboxAgeTimeout_term mb s hs
  | .sessionIdleTimeout session, _ => execSessionIdleTimeout_term session s hs
  | .authTimeout, _ => execAuthTimeout_term s hs | .dueMark lane env, _ => execDueMark_term lane env s hs
  | .overrunLimit, _ => execOverrunLimit_term s hs
  | .exchangeClose forms issued comp done, _ => execExchangeClose_term forms issued comp done s hs
  | .telegramRelease conn sc1 sc2 comp done, _ => execTelegramRelease_term conn sc1 sc2 comp done s hs
  | .safetyCodeFailLimit, _ => execSafetyCodeFailLimit_term s hs | .mcloseSend, _ => execMcloseSend_term s hs
  | .resyncCopy lane r, _ => execResyncCopy_term lane r s hs | .resyncRetry lane, _ => execResyncRetry_term lane s hs
  | .rejoin lane, _ => execRejoin_term lane s hs | .comparatorMismatch x, _ => execComparatorMismatch_term x s hs
  | .arbitrationSelfTestDone lane core0 core1 cmp, _ => execArbitrationSelfTestDone_term lane core0 core1 cmp s hs
  | .arbitrationSelfTestTimeout lane, _ => execArbitrationSelfTestTimeout_term lane s hs
  | .restartCheckDone lane cmpOk bankOk, _ => execRestartCheckDone_term lane cmpOk bankOk s hs
  | .progressTimeout lane, _ => execProgressTimeout_term lane s hs | .laneStall lane, _ => execLaneStall_term lane s hs
  | .illegalDualRailCode region block, _ => execIllegalDualRailCode_term region block s hs
  | .cacheError lane kind, _ => execCacheError_term lane kind s hs
  | .memoryScrubError lane found, _ => execMemoryScrubError_term lane found s hs
  | .laneSupplyLoss lane, _ => execLaneSupplyLoss_term lane s hs
  | .laneSupplyReturn lane, _ => execLaneSupplyReturn_term lane s hs
  | .commonsSupplyLoss, _ => execCommonsSupplyLoss_term s hs | .serviceSupplyLoss, _ => execServiceSupplyLoss_term s hs
  | .serviceRegionReturn, _ => execServiceRegionReturn_term s hs
  | .timebaseTrim offs, _ => execTimebaseTrim_term offs s hs | .tokenOverrun, _ => execTokenOverrun_term s hs
  | .tokenRegenerate, _ => execTokenRegenerate_term s hs
  | .fabricGrantTimeout user, _ => execFabricGrantTimeout_term user s hs
  | .faultEventCollected fsid, _ => execFaultEventCollected_term fsid s hs
  | .escalation fsid, _ => execEscalation_term fsid s hs
  | .escalationWindowExpiry fsid, _ => execEscalationWindowExpiry_term fsid s hs
  | .laneLatchOut lane, _ => execLaneLatchOut_term lane s hs | .safeCountLimit, _ => execSafeCountLimit_term s hs
  | .eventAck lane seq, _ => execEventAck_term lane seq s hs | .graceExpiry seq, _ => execGraceExpiry_term seq s hs
  | .settleWindowEnd block pass, _ => execSettleWindowEnd_term block pass s hs
  | .mfSelfCheck agree illegal conducting, _ => execMfSelfCheck_term agree illegal conducting s hs
  | .duoLimit, _ => execDuoLimit_term s hs | .holdLimit lane, _ => execHoldLimit_term lane s hs
  | .moveTimeLimit elem, _ => execMoveTimeLimit_term elem s hs | .provingTime elem, _ => execProvingTime_term elem s hs
  | .clearingDelay elem, _ => execClearingDelay_term elem s hs
  | .resetStepLimit elem, _ => execResetStepLimit_term elem s hs
  | .closeTimeLimit elem, _ => execCloseTimeLimit_term elem s hs | .openDelay elem, _ => execOpenDelay_term elem s hs
  | .directionExchangeLimit elem, _ => execDirectionExchangeLimit_term elem s hs
  | .settingTimeLimit route, _ => execSettingTimeLimit_term route s hs
  | .requestLifetime route, _ => execRequestLifetime_term route s hs
  | .approachReleaseTimer route, _ => execApproachReleaseTimer_term route s hs
  | .overlapReleaseTimer route, _ => execOverlapReleaseTimer_term route s hs
  | .releasingTimeout route, _ => execReleasingTimeout_term route s hs
  | .slotMark lane stamp, _ => execSlotMark_term lane stamp s hs
  | .testPulseStart cell on, _ => execTestPulseStart_term cell on s hs
  | .testPulseEnd cell dropped, _ => execTestPulseEnd_term cell dropped s hs
  | .pulseWindowEnd slot dropped recovered nextOn sxFell sxBack, _ => execPulseWindowEnd_term slot dropped recovered nextOn sxFell sxBack s hs
  | .sxCurrentLimit cell, _ => execSxCurrentLimit_term cell s hs
  | .inputFilterChange lane cell samples, _ => execInputFilterChange_term lane cell samples s hs
  | .channelDisagreement lane cell, _ => execChannelDisagreement_term lane cell s hs
  | .discrepancyFault lane cell, _ => execDiscrepancyFault_term lane cell s hs
  | .bankSupplyTrip bank high, _ => execBankSupplyTrip_term bank high s hs
  | .bankSupplyRecover bank, _ => execBankSupplyRecover_term bank s hs
  | .roundMark lane, _ => execRoundMark_term lane s hs
  | .testNotCompleted cell lane, _ => execTestNotCompleted_term cell lane s hs
  | .testPosition bank midOk, _ => execTestPosition_term bank midOk s hs
  | .darkStepEnd bank current, _ => execDarkStepEnd_term bank current s hs
  | .lightStepEnd bank mids current pxOn, _ => execLightStepEnd_term bank mids current pxOn s hs
  | .midpointStuck cell path high, _ => execMidpointStuck_term cell path high s hs
  | .pathCurrentWithdrawn cell path, _ => execPathCurrentWithdrawn_term cell path s hs
  | .readbackFault lane cell samples, _ => execReadbackFault_term lane cell samples s hs
  | .externalVoltage cell, _ => execExternalVoltage_term cell s hs
  | .overloadTrip cell cause, _ => execOverloadTrip_term cell cause s hs
  | .clampOvertemp cell, _ => execClampOvertemp_term cell s hs
  | .bankOvercurrent bank, _ => execBankOvercurrent_term bank s hs
  | .feedbackMismatch lane cell, _ => execFeedbackMismatch_term lane cell s hs
  | .frameReceived net f us, _ => execFrameReceived_term net f us s hs
  | .skewExpiry conn peer2, _ => execSkewExpiry_term conn peer2 s hs
  | .oneNetworkSilent conn, _ => execOneNetworkSilent_term conn s hs
  | .ringtestSend net, _ => execRingtestSend_term net s hs
  | .ringtestReceived net port2 f, _ => execRingtestReceived_term net port2 f s hs
  | .ringBreak net, _ => execRingBreak_term net s hs | .ringClose net, _ => execRingClose_term net s hs
  | .pstartReceived m us, _ => execPstartReceived_term m us s hs
  | .mblockReceived m, _ => execMblockReceived_term m s hs | .mcloseReceived m, _ => execMcloseReceived_term m s hs
  | .preportReceived crcOk h, _ => execPreportReceived_term crcOk h s hs
  | .cmdfwdReceived m, _ => execCmdfwdReceived_term m s hs
  | .heartbeatReceived net f, _ => execHeartbeatReceived_term net f s hs
  | .plLinkLoss link2, _ => execPlLinkLoss_term link2 s hs
  | .opticInserted link2 kind, _ => execOpticInserted_term link2 kind s hs
  | .partnerSilent, _ => execPartnerSilent_term s hs | .inStep, _ => execInStep_term s hs
  | .leadClaimConflict, _ => execLeadClaimConflict_term s hs | .joinWaitExpiry, _ => execJoinWaitExpiry_term s hs
  | .revertHoldOff, _ => execRevertHoldOff_term s hs | .pairApplyTimeout, _ => execPairApplyTimeout_term s hs
  | .sbWrite win off data, _ => execSbWrite_term win off data s hs
  | .sbRead win off len, _ => execSbRead_term win off len s hs
  | .sbPostedWrite win off data, _ => execSbPostedWrite_term win off data s hs
  | .bridgeFrameReceived net f, _ => execBridgeFrameReceived_term net f s hs
  | .sbTransferTimeout seq, _ => execSbTransferTimeout_term seq s hs
  | .sbBusyRetry seq, _ => execSbBusyRetry_term seq s hs
  | .sbHeldResultExpiry vk win off len, _ => execSbHeldResultExpiry_term vk win off len s hs
  | .legacyFrameReceived port data ending, _ => execLegacyFrameReceived_term port data ending s hs
  | .tunnelFrameReceived net f, _ => execTunnelFrameReceived_term net f s hs
  | .legacyTransmit tunnel, _ => execLegacyTransmit_term tunnel s hs
  | .tunnelKeepalive tunnel, _ => execTunnelKeepalive_term tunnel s hs
  | .tunnelDown tunnel, _ => execTunnelDown_term tunnel s hs | .otCheckpoint, _ => execOtCheckpoint_term s hs
  | .otShadowWrite, _ => execOtShadowWrite_term s hs | .archiveWindowEnd, _ => execArchiveWindowEnd_term s hs
  | .coalescingWindowEnd kind source, _ => execCoalescingWindowEnd_term kind source s hs
  | .dropRecord, _ => execDropRecord_term s hs
  | .logSegmentFailure log segment, _ => execLogSegmentFailure_term log segment s hs
  | .ptpSync offsetUs master, _ => execPtpSync_term offsetUs master s hs | .ptpUnlock, _ => execPtpUnlock_term s hs
  | .stageCheckDone differs, _ => execStageCheckDone_term differs s hs
  | .updVerifyDone, _ => execUpdVerifyDone_term s hs | .updateSessionTimeout, _ => execUpdateSessionTimeout_term s hs
  | .laneTurn lane, _ => execLaneTurn_term lane s hs | .kernelLoadDone lane, _ => execKernelLoadDone_term lane s hs
  | .levelSwitch, _ => execLevelSwitch_term s hs | .imageConfirmed, _ => execImageConfirmed_term s hs
  | .testComplete codes, _ => execTestComplete_term codes s hs
  | .preconditionCheck q, _ => execPreconditionCheck_term q s hs
  | .oscillatorMeasurement offset, _ => execOscillatorMeasurement_term offset s hs
  | .tamperSwitchOpen, _ => execTamperSwitchOpen_term s hs
  | .sealLoopCheck intact, _ => execSealLoopCheck_term intact s hs
  | .powerFailWarning, _ => execPowerFailWarning_term s hs | .powerReturn, _ => execPowerReturn_term s hs
  | .bootRestart kind env, _ => execBootRestart_term kind env s hs
  | .laneBootSelfTestDone lane pass, _ => execLaneBootSelfTestDone_term lane pass s hs
  | .syncTimeout, _ => execSyncTimeout_term s hs | .inputLoss second, _ => execInputLoss_term second s hs
  | .inputRestored second, _ => execInputRestored_term second s hs
  | .addressPlugPoll plug, _ => execAddressPlugPoll_term plug s hs | .thermalWarning, _ => execThermalWarning_term s hs
  | .thermalTrip, _ => execThermalTrip_term s hs | .resetButtonRelease ms, _ => execResetButtonRelease_term ms s hs
  | .resetButtonStuck, _ => execResetButtonStuck_term s hs
  | .buttonContactDisagree, _ => execButtonContactDisagree_term s hs
  | .buttonReenable, _ => execButtonReenable_term s hs
  | .unpoweredEnclosureOpening, _ => execUnpoweredEnclosureOpening_term s hs
  | .bootSelfTestTimeout lane, _ => execBootSelfTestTimeout_term lane s hs
  | .postActivationTimeout, _ => execPostActivationTimeout_term s hs
  | .thermalWarningCleared, _ => execThermalWarningCleared_term s hs
  | .bootTemperatureInRange, _ => execBootTemperatureInRange_term s hs
  | .withdrawalWindowExpiry lane, _ => execWithdrawalWindowExpiry_term lane s hs
  | .safeCountWindowExpiry, _ => execSafeCountWindowExpiry_term s hs
  | .plLinkReturn link2, _ => execPlLinkReturn_term link2 s hs
  | .ethernetLinkChange net port2 up, _ => execEthernetLinkChange_term net port2 up s hs
  | .switchForwarding net port2 f, _ => execSwitchForwarding_term net port2 f s hs
  | .learnedAddressAgeing net mac, _ => execLearnedAddressAgeing_term net mac s hs

/-- Settles O46: every command but the two boots stays in SAFE or TERMINAL, every command but POWER_UP in TERMINAL. -/
theorem stoppedLeftOnlyByBoot : Obligations.StoppedLeftOnlyByBoot := by
  unfold Obligations.StoppedLeftOnlyByBoot
  exact fun s t c h hpower =>
    ⟨fun hsafe hboot => exec_stop c s (.inl hsafe) hpower hboot t h, fun hterm => exec_term c s hterm hpower t h⟩

end Sys2Proof.Machine
end


section
/-! How a mailbox request is taken (12 R349, R351): what its commands do to the oldest request, to another one and to one
that fails a check. -/

namespace Sys2Proof.Machine

/-! ### The commands of the mailboxes serve a request -/

theorem forall_mailRows {P : (Nat → Instr) × Nat × Cmd → Prop} (h1 : ∀ row ∈ mailRows1, P row)
    (h2 : ∀ row ∈ mailRows2, P row) (h3 : ∀ row ∈ mailRows3, P row) (h4 : ∀ row ∈ mailRows4, P row) :
    ∀ row ∈ mailRows, P row := by
  simp only [mailRows, List.forall_mem_append]
  exact ⟨⟨⟨h1, h2⟩, h3⟩, h4⟩

/-- Each row of the mailboxes' commands is carried out by serving a request of its CMD. -/
theorem exec_mailRow : ∀ row ∈ mailRows, ∀ (s : State) (mb : Nat),
    exec (row.1 mb) s = .next (s.serveCmd mb row.2.1 row.2.2) := by
  refine forall_mailRows ?_ ?_ ?_ ?_ <;>
    · simp only [mailRows1, mailRows2, mailRows3, mailRows4, List.forall_mem_cons, List.not_mem_nil, false_implies,
        implies_true, and_true]
      and_intros <;> exact fun _ _ => rfl

/-! ### Requests that are not served -/

theorem State.serveCmd_not_serving {s : State} {mb code : Nat} {c : Cmd} (h : s.serving = false) :
    s.serveCmd mb code c = s := by
  simp only [State.serveCmd, h, Bool.not_false, if_true]

theorem State.serveCmd_not_next {s : State} {mb code : Nat} {c : Cmd} (hsame : s.answerBad 16 = s)
    (h : s.nextBox ≠ some mb ∨ (reqOf (s.box mb)).cmd ≠ code) : s.serveCmd mb code c = s := by
  simp only [State.serveCmd, hsame]
  split
  · rfl
  · rw [if_pos]
    simp only [Bool.or_eq_true, bne_iff_ne]
    exact h.imp_left .inl

theorem State.answerBad_none (n : Nat) {s : State} (h : s.nextBox = none) : s.answerBad n = s := by
  cases n with
  | zero => rfl
  | succ n => simp only [State.answerBad, h]

/-- Settles O53: serving skips a request that is not the oldest, or not the command's; an empty queue has none. -/
theorem oldestRequestOnly : Obligations.OldestRequestOnly := by
  unfold Obligations.OldestRequestOnly
  intro row hrow s mb
  rw [exec_mailRow row hrow]
  refine ⟨fun h => by rw [State.serveCmd_not_serving h], fun m hm hknown hne => ?_, fun h => ?_⟩
  · rw [State.serveCmd_not_next (State.answerBad_known 16 s m hm hknown)]
    rw [hm]
    exact hne.imp_left fun h e => h (Option.some.inj e)
  · rw [State.serveCmd_not_next (State.answerBad_none 16 h)]
    rw [h]
    exact .inl nofun

/-! ### Requests that a check refuses -/

/-- The oldest posted request, in mailbox mb, names a command of its mailbox. -/
structure State.Taking (s : State) (mb code : Nat) (k : CmdRow) : Prop where
  serving : s.serving = true
  next    : s.nextBox = some mb
  posted  : (s.box mb).st = .posted
  cmd     : (reqOf (s.box mb)).cmd = code
  row     : cmdRow? code = some k
  group   : takesGroup mb (reqOf (s.box mb)).cmd = true

theorem State.Taking.known {s : State} {mb code : Nat} {k : CmdRow} (h : s.Taking mb code k) : s.knownReq mb = true := by
  have hgroup := h.group
  rw [h.cmd] at hgroup
  simp only [State.knownReq, h.cmd, h.row, hgroup, Option.isSome_some, Bool.and_self]

/-- A request that fails a check has its status as its answer, and nothing is done. -/
theorem State.Taking.answers_error {s : State} {mb code st : Nat} {k : CmdRow} {c : Cmd} {i : Instr}
    (h : s.Taking mb code k) (he : exec i s = .next (s.serveCmd mb code c))
    (hcheck : s.checkReq mb k c (reqOf (s.box mb)) = .error st) :
    Answers i s mb st [] (s.grantFirst .service) := by
  have hsame := State.answerBad_known 16 s mb h.next h.known
  rw [Answers, he]
  simp only [State.serveCmd, h.serving, hsame, h.next, h.posted, h.cmd, h.row, hcheck]
  simp

section checks
variable {s : State} {mb : Nat} {k : CmdRow} {c : Cmd} {q : Req}

theorem State.checkReq_badCommand (h : 2 ≤ q.flags ∨ q.resv ≠ 0 ∨ resvOk q.body c.resv = false ∨ c.bits q.body = false ∨
    s.tagOpen q.session q.tag = true) : s.checkReq mb k c q = .error 0x8001 := by
  rw [State.checkReq, if_pos]
  simp only [Bool.or_eq_true, Bool.not_eq_true', decide_eq_true_eq, bne_iff_ne, or_assoc]
  exact .inr h

/-- A request of its mailbox that names the command as R350 asks. -/
structure State.Formed (s : State) (mb : Nat) (c : Cmd) (q : Req) : Prop where
  group : takesGroup mb q.cmd = true
  flags : q.flags < 2
  resv  : q.resv = 0
  body  : resvOk q.body c.resv = true
  bits  : c.bits q.body = true
  tag   : s.tagOpen q.session q.tag = false

theorem State.checkReq_formed (h : s.Formed mb c q) : s.checkReq mb k c q =
    if 4080 < q.len || !c.lenOk q.body q.len then .error 0x8002
    else match s.reqSession q (s.box mb).ep with
    | none => .error 0x8003
    | some (cred, role) =>
      let ctx : Ctx :=
        { ref := ⟨q.session, cred, q.tag, q.cmd, true⟩, mb := mb, ep := (s.box mb).ep, role := role, two := q.flags == 1
          body := q.body, tagged := (s.box mb).tagged q.session }
      if role < max k.role (c.least s q.body) then .error 0x8011
      else if !s.groupAdmitted q.cmd || (role == 5 && !s.id.lc.session 5) || !c.admission s ctx then .error 0x8010
      else if q.flags == 1 && !k.two then .error 0x8004
      else .ok ctx := by
  rw [State.checkReq]
  refine (if_neg ?_).trans rfl
  simp only [h.group, h.resv, h.body, h.bits, h.tag]
  simpa using h.flags

theorem State.checkReq_badLength (h : s.Formed mb c q) (hlen : 4080 < q.len ∨ c.lenOk q.body q.len = false) :
    s.checkReq mb k c q = .error 0x8002 := by
  rw [State.checkReq_formed h, if_pos (by simpa using hlen)]

theorem State.checkReq_badSession (h : s.Formed mb c q) (hlen : q.len ≤ 4080) (hok : c.lenOk q.body q.len = true)
    (hsess : s.reqSession q (s.box mb).ep = none) : s.checkReq mb k c q = .error 0x8003 := by
  rw [State.checkReq_formed h, if_neg (by simp [hok, hlen]), hsess]

/-- The context of a request that names a session of this credential and role. -/
def State.ctxOf (s : State) (mb : Nat) (q : Req) (cred role : Nat) : Ctx :=
  { ref := ⟨q.session, cred, q.tag, q.cmd, true⟩, mb := mb, ep := (s.box mb).ep, role := role, two := q.flags == 1
    body := q.body, tagged := (s.box mb).tagged q.session }

theorem State.checkReq_session {cred role : Nat} (h : s.Formed mb c q) (hlen : q.len ≤ 4080)
    (hok : c.lenOk q.body q.len = true) (hsess : s.reqSession q (s.box mb).ep = some (cred, role)) :
    s.checkReq mb k c q =
      if role < max k.role (c.least s q.body) then .error 0x8011
      else if !s.groupAdmitted q.cmd || (role == 5 && !s.id.lc.session 5) || !c.admission s (s.ctxOf mb q cred role) then
        .error 0x8010
      else if q.flags == 1 && !k.two then .error 0x8004
      else .ok (s.ctxOf mb q cred role) := by
  rw [State.checkReq_formed h, if_neg (by simp [hok, hlen]), hsess]
  rfl

end checks

/-- In TERMINAL the commands pass that 10 R305 names. -/
theorem State.groupAdmitted_terminal {s : State} {code : Nat} (h : s.pow.mod = .terminal)
    (hcode : code ∉ [0x0101, 0x0102, 0x0103, 0x0104, 0x0C01]) (h2 : code / 256 ≠ 2) (h7 : code / 256 ≠ 7) :
    s.groupAdmitted code = false := by
  have hrange : (decide (0x0101 ≤ code) && decide (code ≤ 0x0104)) = false := by
    simp only [List.mem_cons, List.not_mem_nil, not_or] at hcode
    simp only [Bool.and_eq_false_iff, decide_eq_false_iff_not]
    omega
  simp only [State.groupAdmitted, h, hrange]
  simp_all

theorem lt_max_of_or {a b c : Nat} (h : a < b ∨ a < c) : a < max b c := by omega

/-- Settles O52: the checks stand in the order of the answers, so the first that fails is the answer. -/
theorem requestChecks : Obligations.RequestChecks := by
  unfold Obligations.RequestChecks
  rintro row hrow s mb q k hserving hnext hposted rfl hcmd hk hgroup g rfl
  have htaking : s.Taking mb row.2.1 k := ⟨hserving, hnext, hposted, hcmd, hk, hgroup⟩
  have he := exec_mailRow row hrow s mb
  refine ⟨fun h => htaking.answers_error he (State.checkReq_badCommand h), fun hflags hresv hbody hbits htag => ?_,
    State.groupAdmitted_terminal⟩
  have hformed : s.Formed mb row.2.2 (reqOf (s.box mb)) := ⟨hgroup, hflags, hresv, hbody, hbits, htag⟩
  refine ⟨fun h => htaking.answers_error he (State.checkReq_badLength hformed h), fun hlen hok => ⟨fun hsess =>
    htaking.answers_error he (State.checkReq_badSession hformed hlen hok hsess), ?_⟩⟩
  rintro cred role x hsess rfl
  have hcheck := State.checkReq_session (k := k) hformed hlen hok hsess
  refine ⟨fun hrole => htaking.answers_error he ?_, fun hkrole hleast => ⟨fun hadmit => htaking.answers_error he ?_,
    fun hadmitted hfactory hadmission hflag htwo => htaking.answers_error he ?_⟩⟩
  · rw [hcheck, if_pos (lt_max_of_or hrole)]
  all_goals rw [hcheck, if_neg (Nat.not_lt.2 (Nat.max_le.2 ⟨hkrole, hleast⟩))]
  · rw [if_pos]
    simp only [Bool.or_eq_true, Bool.not_eq_true', Bool.and_eq_true, beq_iff_eq, or_assoc]
    exact hadmit
  · rw [if_neg, if_pos (by simp [hflag, htwo])]
    simp only [Bool.or_eq_true, Bool.not_eq_true', Bool.and_eq_true, beq_iff_eq, not_or, not_and, Bool.not_eq_false]
    exact ⟨⟨hadmitted, hfactory⟩, hadmission⟩

/-- Settles O54: HOLD with the partner in step is not admitted, and every check before the admission passes. -/
theorem holdRefusedInPair : Obligations.HoldRefusedInPair := by
  unfold Obligations.HoldRefusedInPair
  rintro s mb q k cred role hserving hnext hposted rfl hcmd hk hgroup hflags hresv hbody htag hlen hsess hrole hhold hbits
    hleast hpaired hstep
  have htaking : s.Taking mb 0x0302 k := ⟨hserving, hnext, hposted, hcmd, hk, hgroup⟩
  have hformed : s.Formed mb cmdMode (reqOf (s.box mb)) := ⟨hgroup, hflags, hresv, hbody, hbits, htag⟩
  have hrefused : cmdMode.admission s (s.ctxOf mb (reqOf (s.box mb)) cred role) = false := by
    simp [cmdMode, admitMode, State.ctxOf, hhold, hpaired, hstep]
  refine htaking.answers_error rfl ?_
  rw [State.checkReq_session hformed (by omega) (by simp [cmdMode, fixed, hlen]) hsess,
    if_neg (Nat.not_lt.2 (Nat.max_le.2 ⟨hrole, hleast⟩)), if_pos (by simp [hrefused])]

/-! ### Admitted requests -/

/-- An admitted request whose command's effect and answer are known. -/
theorem Admitted.answersBy {s s' : State} {mb code st : Nat} {c : Cmd} {x : Ctx} {i : Instr} {body : Bytes}
    (h : Admitted s mb code c x) (he : exec i s = .next (s.serveCmd mb code c))
    (hr : c.run (s.taken mb) x = ((st, body), s')) : Answers i s mb st body s' := by
  rw [Answers, he, h.answers hr]

/-! ### The Factory role (R353) -/

theorem LcState.session_factory_iff (lc : LcState) :
    lc.session 5 = true ↔ lc = .blank ∨ lc = .provisioned ∨ lc = .bench := by
  cases lc <;> decide

theorem runOpen_factory_refused {s : State} {x : Ctx} {k : Cred} (hk : s.cred? (rd x.body 0 4) = some k)
    (hrefused : s.id.lc.session k.role = false) : runOpen s x = noAns 0x8010 s := by
  simp only [runOpen, hk, hrefused, Bool.not_false, if_true]

theorem State.taken_cred (s : State) (mb id : Nat) : (s.taken mb).cred? id = s.cred? id := by
  simp only [State.cred?, State.taken_id]

/-- No command's admission reads the role. -/
theorem admission_role : ∀ row ∈ mailRows, ∀ (s : State) (x : Ctx) (r : Nat),
    row.2.2.admission s { x with role := r } = row.2.2.admission s x := by
  refine forall_mailRows ?_ ?_ ?_ ?_ <;>
    · simp only [mailRows1, mailRows2, mailRows3, mailRows4, List.forall_mem_cons, List.not_mem_nil, false_implies,
        implies_true, and_true]
      and_intros <;> exact fun _ _ _ => rfl

/-- Settles O57: only three states take the Factory role, OPEN asks for it, and no admission depends on the role. -/
theorem roleRule : Obligations.RoleRule := by
  unfold Obligations.RoleRule
  refine ⟨LcState.session_factory_iff, fun s mb x k h hk hrole hblank hprov hbench => h.answersBy rfl ?_,
    fun row hrow s x r _ h => by rw [admission_role row hrow, h]⟩
  have hrefused : s.id.lc.session 5 = false := by
    rw [← Bool.not_eq_true, LcState.session_factory_iff]
    simp [hblank, hprov, hbench]
  exact runOpen_factory_refused (by rw [State.taken_cred, hk]) (by rw [State.taken_id, hrole, hrefused])

end Sys2Proof.Machine
end


section
/-! The vote of a cycle (05 R155, R156) and counting escalation (10 R296). -/

namespace Sys2Proof.Machine

/-! ### The vote -/

theorem eraseDups_eq_singleton {α : Type} [BEq α] [LawfulBEq α] {l : α} {xs : List α} (hne : xs ≠ [])
    (h : ∀ x ∈ xs, x = l) : xs.eraseDups = [l] := by
  cases xs with
  | nil => exact absurd rfl hne
  | cons x xs =>
    obtain ⟨rfl, hxs⟩ := List.forall_mem_cons.1 h
    have hnil : (xs.filter fun y => !y == x) = [] := List.filter_eq_nil_iff.2 fun y hy => by simp [hxs y hy]
    rw [List.eraseDups_cons, hnil, List.eraseDups_nil]

/-- The lanes that the votes of the items put in the minority. -/
def minority (n : Nat) (fs : List (Lane × VoteForm)) : List Lane :=
  (((itemsOf fs).map (voteItem n fs)).filterMap fun r => match r with | .ok x => x | .error _ => none).eraseDups

/-- The lanes that a vote leaves out: those in the minority, and those without a form. -/
def leftOut (act : List Lane) (fs : List (Lane × VoteForm)) : List Lane :=
  (minority act.length fs ++ act.filter fun l => !(fs.any fun x => x.1 == l)).eraseDups

theorem voteAll_of_error {act : List Lane} {fs : List (Lane × VoteForm)} {i : Nat} (hi : i ∈ itemsOf fs)
    (h : voteItem act.length fs i = .error ()) : voteAll act fs = none := by
  rw [voteAll]
  refine if_pos (List.any_eq_true.2 ⟨_, List.mem_map_of_mem hi, ?_⟩)
  rw [h]

/-- Where no item leads to safe state, the vote takes the first form that it does not leave out, if it leaves out one lane
at most. -/
theorem voteAll_of_ok {act : List Lane} {fs : List (Lane × VoteForm)}
    (h : ∀ i ∈ itemsOf fs, ∃ o, voteItem act.length fs i = .ok o) :
    voteAll act fs = match leftOut act fs, fs.find? fun x => !(leftOut act fs).contains x.1 with
      | [], some x => some ([], x.2)
      | [l], some x => some ([l], x.2)
      | _, _ => none := by
  rw [voteAll]
  refine if_neg ?_
  simp only [List.any_map, List.any_eq_true, not_exists, not_and]
  intro i hi
  obtain ⟨o, ho⟩ := h i hi
  simp [ho]

theorem minority_eq_nil {n : Nat} {fs : List (Lane × VoteForm)} (h : ∀ i ∈ itemsOf fs, voteItem n fs i = .ok none) :
    minority n fs = [] := by
  have hnil : ((itemsOf fs).map (voteItem n fs)).filterMap (fun r => match r with | .ok x => x | .error _ => none) =
      ([] : List Lane) := by
    simp only [List.filterMap_map, List.filterMap_eq_nil_iff, Function.comp_apply]
    exact fun i hi => by rw [h i hi]
  rw [minority, hnil, List.eraseDups_nil]

theorem minority_eq_singleton {n : Nat} {fs : List (Lane × VoteForm)} {l : Lane}
    (h : ∀ i ∈ itemsOf fs, voteItem n fs i = .ok none ∨ voteItem n fs i = .ok (some l))
    (hodd : ∃ i ∈ itemsOf fs, voteItem n fs i = .ok (some l)) : minority n fs = [l] := by
  refine eraseDups_eq_singleton (fun hnil => ?_) fun m hm => ?_
  · obtain ⟨i, hi, ho⟩ := hodd
    simp only [List.filterMap_map, List.filterMap_eq_nil_iff, Function.comp_apply] at hnil
    simpa [ho] using hnil i hi
  · obtain ⟨r, hr, hm⟩ := List.mem_filterMap.1 hm
    obtain ⟨i, hi, rfl⟩ := List.mem_map.1 hr
    obtain ho | ho := h i hi <;> simp_all

theorem mem_minority {n : Nat} {fs : List (Lane × VoteForm)} {l : Lane} {i : Nat} (hi : i ∈ itemsOf fs)
    (h : voteItem n fs i = .ok (some l)) : l ∈ minority n fs := by
  rw [minority, List.mem_eraseDups]
  exact List.mem_filterMap.2 ⟨_, List.mem_map_of_mem hi, by rw [h]⟩

/-- Two lanes in the minority leave no form to use. -/
theorem voteAll_of_two {act : List Lane} {fs : List (Lane × VoteForm)} {l m : Lane} (hlm : l ≠ m)
    (hl : ∃ i ∈ itemsOf fs, voteItem act.length fs i = .ok (some l))
    (hm : ∃ i ∈ itemsOf fs, voteItem act.length fs i = .ok (some m)) : voteAll act fs = none := by
  by_cases h : ∀ i ∈ itemsOf fs, ∃ o, voteItem act.length fs i = .ok o
  · obtain ⟨i, hi, ho⟩ := hl
    obtain ⟨j, hj, hp⟩ := hm
    have hlout : l ∈ leftOut act fs := List.mem_eraseDups.2 (List.mem_append_left _ (mem_minority hi ho))
    have hmout : m ∈ leftOut act fs := List.mem_eraseDups.2 (List.mem_append_left _ (mem_minority hj hp))
    rw [voteAll_of_ok h]
    match leftOut act fs, hlout, hmout with
    | [x], hlout, hmout => exact absurd ((List.mem_singleton.1 hlout).trans (List.mem_singleton.1 hmout).symm) hlm
    | _ :: _ :: _, _, _ => rfl
  · obtain ⟨i, h⟩ := Classical.not_forall.1 h
    obtain ⟨hi, hno⟩ := Classical.not_imp.1 h
    refine voteAll_of_error hi ?_
    cases ho : voteItem act.length fs i with
    | ok o => exact absurd ⟨o, ho⟩ hno
    | error e => rfl

section items
variable (n : Nat) {a b c : VoteForm} {i : Nat}

/-- The forms of the three lanes. -/
def threeForms (a b c : VoteForm) : List (Lane × VoteForm) := [(.a, a), (.b, b), (.c, c)]

theorem voteItem_agree (hab : itemOf a i = itemOf b i) (hbc : itemOf b i = itemOf c i) :
    voteItem n (threeForms a b c) i = .ok none := by simp [threeForms, voteItem, hab, hbc]

theorem voteItem_odd_a (h : OddOne a b c i) : voteItem n (threeForms a b c) i = .ok (some .a) := by
  obtain ⟨hne, heq⟩ := h
  simp [threeForms, voteItem, ← heq, hne]

theorem voteItem_odd_b (h : OddOne b a c i) : voteItem n (threeForms a b c) i = .ok (some .b) := by
  obtain ⟨hne, heq⟩ := h
  simp [threeForms, voteItem, ← heq, hne, hne.symm]

theorem voteItem_odd_c (h : OddOne c a b i) : voteItem n (threeForms a b c) i = .ok (some .c) := by
  obtain ⟨hne, heq⟩ := h
  simp [threeForms, voteItem, ← heq, hne.symm]

theorem voteItem_differ (hab : itemOf a i ≠ itemOf b i) (hbc : itemOf b i ≠ itemOf c i) (hac : itemOf a i ≠ itemOf c i) :
    voteItem n (threeForms a b c) i = .error () := by simp [threeForms, voteItem, hab, hbc, hac]

/-- Two forms that agree in an item vote it either unanimously or against the third. -/
theorem voteItem_ab (hab : itemOf a i = itemOf b i) : voteItem n (threeForms a b c) i = .ok none ∨
    voteItem n (threeForms a b c) i = .ok (some .c) := by
  by_cases hbc : itemOf b i = itemOf c i
  · exact .inl (voteItem_agree n hab hbc)
  · exact .inr (voteItem_odd_c n ⟨fun h => hbc (hab ▸ h.symm), hab⟩)

theorem voteItem_ac (hac : itemOf a i = itemOf c i) : voteItem n (threeForms a b c) i = .ok none ∨
    voteItem n (threeForms a b c) i = .ok (some .b) := by
  by_cases hab : itemOf a i = itemOf b i
  · exact .inl (voteItem_agree n hab (hab ▸ hac))
  · exact .inr (voteItem_odd_b n ⟨fun h => hab h.symm, hac⟩)

theorem voteItem_bc (hbc : itemOf b i = itemOf c i) : voteItem n (threeForms a b c) i = .ok none ∨
    voteItem n (threeForms a b c) i = .ok (some .a) := by
  by_cases hab : itemOf a i = itemOf b i
  · exact .inl (voteItem_agree n hab hbc)
  · exact .inr (voteItem_odd_a n ⟨hab, hbc⟩)

end items

/-- Three forms of which one lane's alone is ever the odd one: that lane is left out, and the first other form used. -/
theorem voteAll_one_odd {a b c : VoteForm} {l : Lane}
    (h : ∀ i ∈ itemsOf (threeForms a b c), voteItem 3 (threeForms a b c) i = .ok none ∨
      voteItem 3 (threeForms a b c) i = .ok (some l))
    (hodd : ∃ i ∈ itemsOf (threeForms a b c), voteItem 3 (threeForms a b c) i = .ok (some l)) :
    voteAll [.a, .b, .c] (threeForms a b c) = some ([l], if l = .a then b else a) := by
  have hout : leftOut [.a, .b, .c] (threeForms a b c) = [l] := by
    have hminor : minority [Lane.a, .b, .c].length (threeForms a b c) = [l] := minority_eq_singleton h hodd
    rw [leftOut, hminor]
    cases l <;> rfl
  rw [voteAll_of_ok fun i hi => (h i hi).elim (⟨_, ·⟩) (⟨_, ·⟩), hout]
  cases l <;> rfl

theorem voteAll_agree {a b c : VoteForm}
    (h : ∀ i ∈ itemsOf (threeForms a b c), itemOf a i = itemOf b i ∧ itemOf b i = itemOf c i) :
    voteAll [.a, .b, .c] (threeForms a b c) = some ([], a) := by
  have hitem : ∀ i ∈ itemsOf (threeForms a b c), voteItem 3 (threeForms a b c) i = .ok none :=
    fun i hi => voteItem_agree 3 (h i hi).1 (h i hi).2
  have hout : leftOut [.a, .b, .c] (threeForms a b c) = [] := by
    have hminor : minority [Lane.a, .b, .c].length (threeForms a b c) = [] := minority_eq_nil hitem
    rw [leftOut, hminor]
    rfl
  rw [voteAll_of_ok fun i hi => ⟨_, hitem i hi⟩, hout]
  rfl

/-- Two forms that agree in every item: the lanes without a form are left out. -/
theorem voteAll_pair {x y : VoteForm} {l m : Lane} {act : List Lane}
    (h : ∀ i ∈ itemsOf [(l, x), (m, y)], itemOf x i = itemOf y i) :
    voteAll act [(l, x), (m, y)] =
      match (act.filter fun k => !([(l, x), (m, y)].any fun z => z.1 == k)).eraseDups,
        [(l, x), (m, y)].find? fun z =>
          !((act.filter fun k => !([(l, x), (m, y)].any fun z => z.1 == k)).eraseDups).contains z.1 with
      | [], some z => some ([], z.2)
      | [k], some z => some ([k], z.2)
      | _, _ => none := by
  have hitem : ∀ i ∈ itemsOf [(l, x), (m, y)], voteItem act.length [(l, x), (m, y)] i = .ok none :=
    fun i hi => by simp [voteItem, h i hi]
  rw [voteAll_of_ok fun i hi => ⟨_, hitem i hi⟩]
  simp only [leftOut, minority_eq_nil hitem, List.nil_append]

theorem voteAll_pair_differ {x y : VoteForm} {l m : Lane} (act : List Lane) {i : Nat} (hi : i ∈ itemsOf [(l, x), (m, y)])
    (h : itemOf x i ≠ itemOf y i) : voteAll act [(l, x), (m, y)] = none :=
  voteAll_of_error hi (by simp [voteItem, h])

/-- Settles O50: three forms vote each item by the two that agree, and one lane in the minority is left out; two must agree;
one or none is no vote. -/
theorem voteRules : Obligations.VoteRules := by
  unfold Obligations.VoteRules
  refine ⟨?three, ?two, ?one⟩
  case three =>
    rintro a b c is rfl
    have odd_a : (∃ i ∈ itemsOf (threeForms a b c), OddOne a b c i) →
        ∃ i ∈ itemsOf (threeForms a b c), voteItem 3 (threeForms a b c) i = .ok (some .a) :=
      fun ⟨i, hi, h⟩ => ⟨i, hi, voteItem_odd_a 3 h⟩
    have odd_b : (∃ i ∈ itemsOf (threeForms a b c), OddOne b a c i) →
        ∃ i ∈ itemsOf (threeForms a b c), voteItem 3 (threeForms a b c) i = .ok (some .b) :=
      fun ⟨i, hi, h⟩ => ⟨i, hi, voteItem_odd_b 3 h⟩
    have odd_c : (∃ i ∈ itemsOf (threeForms a b c), OddOne c a b i) →
        ∃ i ∈ itemsOf (threeForms a b c), voteItem 3 (threeForms a b c) i = .ok (some .c) :=
      fun ⟨i, hi, h⟩ => ⟨i, hi, voteItem_odd_c 3 h⟩
    exact ⟨voteAll_agree,
      fun hodd hab => voteAll_one_odd (fun i hi => voteItem_ab 3 (hab i hi)) (odd_c hodd),
      fun hodd hac => voteAll_one_odd (fun i hi => voteItem_ac 3 (hac i hi)) (odd_b hodd),
      fun hodd hbc => voteAll_one_odd (fun i hi => voteItem_bc 3 (hbc i hi)) (odd_a hodd),
      fun ⟨i, hi, hab, hbc, hac⟩ => voteAll_of_error hi (voteItem_differ _ hab hbc hac),
      fun ha hb => voteAll_of_two (by decide) (odd_a ha) (odd_b hb),
      fun ha hc => voteAll_of_two (by decide) (odd_a ha) (odd_c hc),
      fun hb hc => voteAll_of_two (by decide) (odd_b hb) (odd_c hc)⟩
  case two =>
    intro x y l m n hlm hmn hln
    refine ⟨fun h => ⟨?_, ?_⟩, fun ⟨i, hi, h⟩ act => voteAll_pair_differ act hi h⟩
    · rw [voteAll_pair h]
      simp
    · intro act hact
      have hfilter : (act.filter fun k => !([(l, x), (m, y)].any fun z => z.1 == k)) = [n] := by
        simp only [List.mem_cons, List.not_mem_nil, or_false] at hact
        obtain rfl | rfl | rfl := hact <;> simp [hmn, hln]
      rw [voteAll_pair h, hfilter]
      simp [List.eraseDups_cons, hln]
  case one =>
    intro x l act hact
    have hlen : (act.length == 0) = false := by simpa using hact
    exact ⟨voteAll_of_error (i := 0) (by simp [itemsOf]) (by simp [voteItem, hlen]),
      voteAll_of_error (i := 0) (by simp [itemsOf]) (by simp [voteItem, hlen])⟩

/-! ### Counting escalation -/

section escalation
variable {s : State} {f : Fsid} {dflt base ceil n w : Nat} {past : List Nat}

/-- The events of a source that still count: those within W of OT. -/
def State.pastOf (s : State) (f : Fsid) (w : Nat) : List Nat :=
  (s.flt.esc.find? (·.fsid == f)).elim [] fun e => e.times.filter fun t => s.time.ot - t < w

theorem State.reachesN_iff (hset : detSettings s f dflt = (base, ceil, n, w)) :
    s.reachesN f dflt = true ↔ 0 < n ∧ n ≤ (s.pastOf f w).length + 1 := by
  simp only [State.reachesN, hset, State.pastOf]
  cases s.flt.esc.find? (·.fsid == f) <;> simp

/-- An event counted: its class, whether counting raised it, and the count of its source, at the end of the counts. -/
theorem State.countEvent_eq (hset : detSettings s f dflt = (base, ceil, n, w)) (hn : n ≠ 0) :
    ∃ cls, cls = (if s.reachesN f dflt then s.countCap f base (max (s.presentClass f dflt)
        (min (s.presentClass f dflt + 1) ceil)) else s.presentClass f dflt) ∧
      (s.countEvent f dflt).1 = cls ∧
      (s.countEvent f dflt).2.1 = (s.reachesN f dflt && decide (s.presentClass f dflt < cls)) ∧
      (s.countEvent f dflt).2.2.flt.esc = (s.flt.esc.filter fun x => !(x.fsid == f)) ++
        [⟨f, if s.reachesN f dflt then [] else s.pastOf f w ++ [s.time.ot], s.time.ot, cls⟩] := by
  simp only [State.countEvent, hset, beq_iff_eq, hn, if_false]
  refine ⟨_, rfl, rfl, rfl, ?_⟩
  rw [State.pastOf]
  cases s.flt.esc.find? (·.fsid == f) <;> rfl

theorem find?_own_count (esc : List EscSt) (e : EscSt) :
    ((esc.filter fun x => !(x.fsid == e.fsid)) ++ [e]).find? (·.fsid == e.fsid) = some e := by
  have hnone : (esc.filter fun x => !(x.fsid == e.fsid)).find? (·.fsid == e.fsid) = none := by
    rw [List.find?_eq_none]
    intro x hx
    simpa using (List.mem_filter.1 hx).2
  rw [List.find?_append, hnone]
  simp

theorem find?_other_count (esc : List EscSt) (e : EscSt) {g : Fsid} (hg : g ≠ e.fsid) :
    ((esc.filter fun x => !(x.fsid == e.fsid)) ++ [e]).find? (·.fsid == g) = esc.find? (·.fsid == g) := by
  have hkeep : ∀ x : EscSt, decide ((!(x.fsid == e.fsid)) = true ∧ (x.fsid == g) = true) = (x.fsid == g) := by
    intro x
    by_cases hx : x.fsid = g <;> simp [hx, hg]
  have hnone : [e].find? (·.fsid == g) = none := by simp [hg.symm]
  rw [List.find?_append, List.find?_filter, funext hkeep, hnone, Option.or_none]

theorem State.countEvent_uncounted (hset : detSettings s f dflt = (base, ceil, n, w)) (hn : n = 0) :
    s.countEvent f dflt = (s.presentClass f dflt, false, s) := by
  simp [State.countEvent, hset, hn]

/-- Settles O51: below N an event is added to the counts of its source, at N the source's class rises and its count is
cleared; the entry of the source alone is written. -/
theorem escalationRule : Obligations.EscalationRule := by
  unfold Obligations.EscalationRule
  rintro s f dflt base ceil n w past hset rfl
  refine ⟨State.countEvent_uncounted hset, ?below, ?reached, ?others, ?present, ?absent, ?uncapped, ?capped⟩
  case below =>
    intro hlt
    obtain ⟨cls, hcls, h1, h2, hesc⟩ := State.countEvent_eq hset (by omega)
    have hreach : s.reachesN f dflt = false := by
      rw [← Bool.not_eq_true, State.reachesN_iff hset]
      exact fun h => absurd hlt (Nat.not_lt.2 h.2)
    simp only [hreach, Bool.false_and, Bool.false_eq_true, if_false] at hcls h2 hesc
    subst hcls
    refine ⟨(s.countEvent f dflt).2.2, Prod.ext h1 (Prod.ext h2 rfl), ?_⟩
    rw [hesc]
    exact find?_own_count s.flt.esc ⟨f, s.pastOf f w ++ [s.time.ot], s.time.ot, s.presentClass f dflt⟩
  case reached =>
    intro hn hle hceil
    obtain ⟨cls, hcls, h1, h2, hesc⟩ := State.countEvent_eq hset (by omega)
    have hreach : s.reachesN f dflt = true := (State.reachesN_iff hset).2 ⟨hn, hle⟩
    have hmax : max (s.presentClass f dflt) (min (s.presentClass f dflt + 1) ceil) = min (s.presentClass f dflt + 1) ceil :=
      Nat.max_eq_right (Nat.le_min.2 ⟨Nat.le_succ _, hceil⟩)
    simp only [hreach, Bool.true_and, if_true, hmax] at hcls h2 hesc
    refine ⟨(s.countEvent f dflt).2.2, cls, hcls, Prod.ext h1 (Prod.ext h2 rfl), ?_⟩
    rw [hesc]
    exact find?_own_count s.flt.esc ⟨f, [], s.time.ot, cls⟩
  case others =>
    intro g hg
    by_cases hn : n = 0
    · rw [State.countEvent_uncounted hset hn]
    · obtain ⟨cls, -, -, -, hesc⟩ := State.countEvent_eq hset hn
      rw [hesc]
      exact find?_other_count s.flt.esc ⟨f, _, s.time.ot, cls⟩ hg
  case present =>
    intro e he
    simp only [State.presentClass, hset, he]
  case absent =>
    intro hnone
    simp only [State.presentClass, hset, hnone]
  case uncapped =>
    intro c hc
    rw [State.countCap]
    split
    · next l hl => rw [if_neg (Nat.not_le.2 (hc l hl))]
    · rfl
  case capped =>
    intro c l hl htwo
    simp only [State.countCap, hl, htwo, if_true]

end escalation

end Sys2Proof.Machine
end


section
/-! The end of a session (12 R355), and the safe state that a power-fail warning takes (10 R302, 17 R454). -/

namespace Sys2Proof.Machine

/-! ### The end of a session -/

theorem State.setSlot_upd (s : State) (kind : Nat) (b : Bool) (x : Slot) : ∃ u : UpdSt, s.setSlot kind b x = { s with upd := u } := by
  unfold State.setSlot
  split <;> exact ⟨_, rfl⟩

/-- The end of an update session leaves no session, and but for the update state it records and notifies alone. -/
theorem State.abortUpd_notes (s : State) (cause : Nat) :
    ∃ u : UpdSt, u.sess = none ∧ OnlyNotes { s with upd := u } (s.abortUpd cause) := by
  unfold State.abortUpd
  split
  case h_1 h => exact ⟨s.upd, h, OnlyNotes.refl s⟩
  case h_2 x h =>
    dsimp only
    obtain ⟨u, hu⟩ := s.setSlot_upd x.kind (!s.runSlot x.kind) (s.slotOf x.kind (!s.runSlot x.kind)).invalid
    rw [hu]
    have hchange := (OnlyRecs.change { s with upd := { u with sess := none, verify := none, state := 8 } } 0x37 0 0 0xFF 0
      (le 1 cause)).notes
    refine ⟨{ u with sess := none, verify := none, state := 8 }, rfl, ?_⟩
    split
    · exact hchange.trans (OnlyNotes.complete _ _ _ _)
    · exact hchange

/-- The mailbox part of a session's end: its entry and its first steps go, and its endpoint's mailboxes become these. -/
def State.dropSession (s : State) (id : Nat) (boxes : List Mbox) : State :=
  { s with mail := { s.mail with
      sessions := s.mail.sessions.filter fun y => !(y.id == id)
      boxes := boxes
      steps := s.mail.steps.filter fun f => !(f.session == id) } }

theorem State.dropSession_steps (s : State) (id : Nat) (boxes : List Mbox) :
    ∀ f ∈ (s.dropSession id boxes).mail.steps, f.session ≠ id := by simp [State.dropSession]

/-- A state that holds these sessions, no first step and no cursor of session id, and this cold frame. -/
structure State.Ended (s : State) (id : Nat) (left : List Sess) (st : StageSt) : Prop where
  sessions : s.mail.sessions = left
  steps    : ∀ f ∈ s.mail.steps, f.session ≠ id
  cursor   : ∀ c, s.recs.cursor = some c → c.session ≠ id
  stage    : s.stage = st

section ended
variable {s : State} {id : Nat} {left : List Sess} {st : StageSt}

theorem State.ended_closeCursor {t : State} (ht : t = if s.recs.cursor.any (·.session == id) then s.closeCursor else s)
    (hsessions : s.mail.sessions = left) (hsteps : ∀ f ∈ s.mail.steps, f.session ≠ id) (hstage : s.stage = st) :
    t.Ended id left st := by
  subst ht
  split
  · exact ⟨hsessions, hsteps, nofun, hstage⟩
  · next h =>
    refine ⟨hsessions, hsteps, fun c hc he => h ?_, hstage⟩
    simp [hc, he]

theorem State.Ended.abortUpd (h : s.Ended id left st) (cause : Nat) : (s.abortUpd cause).Ended id left st := by
  obtain ⟨u, -, heq, hcursor, hsessions, hsteps, -, -⟩ := s.abortUpd_notes cause
  exact ⟨by rw [hsessions]; exact h.sessions, by rw [hsteps]; exact h.steps, by rw [hcursor]; exact h.cursor,
    by rw [heq]; exact h.stage⟩

theorem State.abortUpd_sess (s : State) (cause : Nat) : (s.abortUpd cause).upd.sess = none := by
  obtain ⟨u, hu, heq, -⟩ := s.abortUpd_notes cause
  rw [heq, ← hu]

/-- The update session of a mail session aborted with it. -/
theorem State.Ended.abortOwn (h : s.Ended id left st) {t : State}
    (ht : t = if s.upd.sess.any (·.mailSession == id) then s.abortUpd 2 else s) :
    t.Ended id left st ∧ ∀ u, t.upd.sess = some u → u.mailSession ≠ id := by
  subst ht
  split
  · refine ⟨h.abortUpd 2, ?_⟩
    rw [s.abortUpd_sess 2]
    nofun
  · next hown =>
    refine ⟨h, fun u hu he => hown ?_⟩
    simp [hu, he]

end ended

/-- Settles O15: the parts of the session's end clear its steps, its cursor and its update session in turn, and no later
one writes them again. -/
theorem sessionEndLeavesNothing : Obligations.SessionEndLeavesNothing := by
  unfold Obligations.SessionEndLeavesNothing
  intro s id hid
  dsimp only
  obtain ⟨x, hx⟩ : ∃ x, s.mail.sessions.find? (·.id == id) = some x := by
    rw [← Option.isSome_iff_exists, List.find?_isSome]
    simpa using hid
  simp only [State.endSession, hx]
  generalize hboxes : (if (s.mail.sessions.filter fun y => !(y.id == id)).any (·.ep == x.ep) then s.mail.boxes
    else freeBoxes x.ep s.mail.boxes) = boxes
  generalize hc : @ite State (s.recs.cursor.any (·.session == id) = true) _ _ _ = c
  have hcursor := State.ended_closeCursor (s := s.dropSession id boxes) hc.symm rfl (s.dropSession_steps id boxes) rfl
  generalize ht : (if c.upd.sess.any (·.mailSession == id) then c.abortUpd 2 else c) = t
  obtain ⟨⟨hsessions, hsteps, hnone, hstage⟩, hupd⟩ := hcursor.abortOwn ht.symm
  split
  · exact ⟨hsessions, hsteps, hnone, fun _ _ _ => ⟨rfl, rfl⟩, hupd⟩
  · next hkept =>
    refine ⟨hsessions, hsteps, hnone, fun howner happly happlying => absurd ?_ hkept, hupd⟩
    have hkeeps : t.stage = s.stage := hstage
    simp [hkeeps, howner, happly, happlying]

/-! ### The safe state of a power-fail warning -/

/-- What holds the outputs off: the safe-state latch, the cells, the drive gates, the cycle, the module state. -/
def State.outParts (s : State) : Bool × List CellSt × (Lane → Bool) × CycleSt × ModState :=
  (s.flt.safelatch, s.cells, fun l => (s.lane l).gate, s.cyc, s.pow.mod)

theorem OnlyNotes.outParts {s t : State} (h : OnlyNotes s t) : t.outParts = s.outParts := by
  obtain ⟨heq, -⟩ := h
  exact (congrArg State.outParts heq).trans rfl

theorem OnlyRecs.outParts {s t : State} (h : OnlyRecs s t) : t.outParts = s.outParts := h.notes.outParts

theorem State.complete_outParts (s : State) (r : CmdRef) (status : Nat) (body : Bytes) :
    (s.complete r status body).outParts = s.outParts := (OnlyNotes.complete s r status body).outParts

theorem State.ownChange_outParts (s : State) (kind : Nat) (body : Bytes) : (s.ownChange kind body).outParts = s.outParts :=
  (OnlyRecs.change s kind 0 0 0xFF 0 body).outParts

theorem State.setPair_outParts (s : State) (p : PairState) : (s.setPair p).outParts = s.outParts := by
  unfold State.setPair
  split
  · rfl
  · exact ((OnlyRecs.record _ _ _ _).notes.trans (OnlyNotes.notify _ _)).outParts

theorem State.setMod_outParts (s : State) (m : ModState) :
    (s.setMod m).outParts = (s.flt.safelatch, s.cells, fun l => (s.lane l).gate, s.cyc, m) := by
  unfold State.setMod
  split
  · next h => rw [← beq_iff_eq.1 h]; rfl
  · exact (OnlyRecs.record _ _ _ _).outParts

theorem State.setSlot_outParts (s : State) (kind : Nat) (b : Bool) (x : Slot) : (s.setSlot kind b x).outParts = s.outParts := by
  obtain ⟨u, hu⟩ := s.setSlot_upd kind b x
  rw [hu]
  rfl

theorem State.endFallback_outParts (s : State) : s.endFallback.outParts = s.outParts := by
  unfold State.endFallback
  split
  · rfl
  · next a ha =>
    have hslot := s.setSlot_outParts a.kind a.slot (s.slotOf a.kind a.slot).invalid
    dsimp only
    split
    · rw [State.complete_outParts]; exact hslot
    · exact hslot

theorem State.updLanes_outParts (s : State) (f : LaneSt → LaneSt) (h : ∀ x, (f x).gate = x.gate) :
    (s.updLanes f).outParts = s.outParts := by
  have hgate : ∀ l, ((s.updLanes f).lane l).gate = (s.lane l).gate := fun l => by
    cases l <;> exact h _
  simp only [State.outParts, State.updLanes_flt, State.updLanes_cells, hgate, State.updLanes_cyc, State.updLanes_pow]

/-- A cancelled application image takes the other slot and a cold restart. -/
theorem State.failAct_app_outParts (s : State) {a : ActSt} (ha : s.upd.act = some a) (hkind : a.kind = 2) (item : Nat) :
    (s.failAct item).outParts = s.outParts := by
  have hrec : (s.fallbackRec a item).outParts = s.outParts := s.ownChange_outParts _ _
  simp only [State.failAct, ha, hkind]
  split
  · rfl
  · exact (State.endFallback_outParts _).trans hrec

theorem State.kernelMapBack_outParts (s : State) (a : ActSt) : (s.kernelMapBack a).outParts = s.outParts :=
  s.updLanes_outParts _ fun _ => rfl

theorem State.actSafe_outParts (s : State) : s.actSafe.outParts = s.outParts := by
  unfold State.actSafe
  split
  · next a ha =>
    split
    · rw [State.endFallback_outParts, State.kernelMapBack_outParts]
      split
      · rfl
      · exact s.ownChange_outParts _ _
    · split
      · next h => exact s.failAct_app_outParts ha (beq_iff_eq.1 h) 2
      · rfl
  · rfl

theorem State.abandonTest_outParts (s : State) (status cause : Nat) : (s.abandonTest status cause).outParts = s.outParts := by
  unfold State.abandonTest State.abandonWith
  split
  · rfl
  · split
    · rfl
    · exact (State.complete_outParts _ _ _ _).trans (OnlyRecs.change _ _ _ _ _ _ _).outParts

theorem State.updRecs_outParts (s : State) (f : RecSt → RecSt) : (s.updRecs f).outParts = s.outParts := rfl

theorem State.updTime_outParts (s : State) (f : TimeSt → TimeSt) : (s.updTime f).outParts = s.outParts := rfl

theorem State.flush_outParts (s : State) : s.flush.outParts = s.outParts := by
  simp only [State.flush, State.updTime_outParts]
  split
  · exact s.updRecs_outParts _
  · rfl

/-- A state whose outputs are all held off, its cycle ended. -/
structure State.Safe (s : State) (m : ModState) : Prop where
  latch  : s.flt.safelatch = true
  cells  : ∀ x ∈ s.cells, x.eff = false
  gates  : ∀ l, (s.lane l).gate = false
  tosend : s.cyc.tosend = []
  phase  : s.cyc.phase = .idle
  mod    : s.pow.mod = m

theorem State.Safe.of_outParts {s t : State} {m : ModState} (hs : s.Safe m) (h : t.outParts = s.outParts) : t.Safe m := by
  simp only [State.outParts, Prod.mk.injEq] at h
  obtain ⟨hlatch, hcells, hgates, hcyc, hmod⟩ := h
  exact ⟨hlatch ▸ hs.latch, hcells ▸ hs.cells, fun l => (congrFun hgates l).trans (hs.gates l), hcyc ▸ hs.tosend,
    hcyc ▸ hs.phase, hmod ▸ hs.mod⟩

theorem State.Safe.setMod {s : State} {m : ModState} (hs : s.Safe m) (k : ModState) : (s.setMod k).Safe k := by
  have h := s.setMod_outParts k
  exact State.Safe.of_outParts (s := { s with pow := { s.pow with mod := k } })
    ⟨hs.latch, hs.cells, hs.gates, hs.tosend, hs.phase, rfl⟩ h

theorem State.dropEffs_frame (s : State) (cs : List Nat) : s.dropEffs cs = { s with cells := (s.dropEffs cs).cells } := by
  unfold State.dropEffs
  induction cs generalizing s with
  | nil => rfl
  | cons c cs ih =>
    have hput : s.putEff c false = { s with cells := (s.putEff c false).cells } := by
      unfold State.putEff
      split <;> rfl
    rw [List.foldl_cons, ih, hput]

/-- The drop of every cell reaches all of them. -/
theorem State.dropEffs_all (s : State) (hlen : s.cells.length = 48) :
    ∀ x ∈ (s.dropEffs (List.range Config.nCells)).cells, x.eff = false := by
  intro x hx
  obtain ⟨i, hi⟩ := List.getElem?_of_mem hx
  obtain h | ⟨hout, h⟩ := State.dropEffs_get _ _ _ _ hi
  · exact h
  · obtain ⟨hlt, -⟩ := List.getElem?_eq_some_iff.1 h
    rw [hlen] at hlt
    exact absurd (List.mem_range.2 hlt) hout

theorem State.safeActions_safe (s : State) (hlen : s.cells.length = 48) : s.safeActions.Safe s.pow.mod := by
  unfold State.safeActions
  have hcells := (s.updLanes fun l => { l with gate := false }).dropEffs_all hlen
  rw [State.dropEffs_frame]
  generalize ((s.updLanes fun l => { l with gate := false }).dropEffs (List.range Config.nCells)).cells = cs at hcells
  dsimp only
  refine State.Safe.of_outParts ?_ ((State.actSafe_outParts _).trans (State.abandonTest_outParts _ _ _))
  have hsafe (s' : State) (h : s'.flt.safelatch = true ∧ s'.cells = cs ∧ s'.lanes = (s.lanes.map fun l => { l with gate := false }) ∧
      s'.cyc.tosend = [] ∧ s'.cyc.phase = .idle ∧ s'.pow = s.pow) : s'.Safe s.pow.mod := by
    obtain ⟨hlatch, hcs, hlanes, htosend, hphase, hpow⟩ := h
    refine ⟨hlatch, hcs ▸ hcells, fun l => ?_, htosend, hphase, by rw [hpow]⟩
    rw [State.lane, hlanes]
    cases l <;> rfl
  split
  · refine State.Safe.of_outParts (hsafe _ ?_) (State.setPair_outParts _ _)
    exact ⟨rfl, rfl, rfl, rfl, rfl, rfl⟩
  · exact hsafe _ ⟨rfl, rfl, rfl, rfl, rfl, rfl⟩

/-- Settles O47: the warning takes the actions of the safe state; what follows them moves no output. -/
theorem powerFailMakesSafe : Obligations.PowerFailMakesSafe := by
  unfold Obligations.PowerFailMakesSafe
  intro s hup hpfail hlen
  have hsafe := (s.updPow fun p => { p with pfail := true }).safeActions_safe hlen
  refine ⟨_, rfl, ?_⟩
  simp only [hup, hpfail, Bool.not_false, Bool.and_true, if_true]
  rw [State.updPow_pow] at hsafe
  generalize (s.updPow fun p => { p with pfail := true }).safeActions = t at hsafe
  rw [hsafe.mod]
  by_cases h : s.pow.mod = .terminal
  · rw [h] at hsafe ⊢
    obtain ⟨hlatch, hcells, hgates, htosend, hphase, hterm⟩ := hsafe.of_outParts t.flush_outParts
    exact ⟨hlatch, hcells, hgates, htosend, hphase, hterm⟩
  · rw [if_neg (by simpa using h), if_neg h]
    obtain ⟨hlatch, hcells, hgates, htosend, hphase, hmod⟩ := (hsafe.setMod .safe).of_outParts (State.flush_outParts _)
    exact ⟨hlatch, hcells, hgates, htosend, hphase, hmod⟩

end Sys2Proof.Machine
end


section
/-! The clocks of a millisecond (14 R383, R387): wall time, and what else a step on an empty queue leaves. -/

set_option linter.unusedSimpArgs false

namespace Sys2Proof.Machine

/-! ### What leaves wall time alone -/

/-- Wall time and the cycle count. -/
def State.wall (s : State) : Nat × Nat := (s.time.wt, s.time.pc)

@[simp] theorem State.wall_mk (pending id lanes cyc app trl image set cells banks frame conns nets pair flt mail stage bridge
    tunnels ports recs time be upd pow netTx legacyTx plTx splits free) :
    State.wall (State.mk pending id lanes cyc app trl image set cells banks frame conns nets pair flt mail stage bridge
      tunnels ports recs time be upd pow netTx legacyTx plTx splits free) = (time.wt, time.pc) := rfl

@[simp] theorem State.wall_eta (s : State) : (s.time.wt, s.time.pc) = s.wall := rfl

@[simp] theorem State.wall_ite (p : Prop) [Decidable p] (a b : State) :
    State.wall (if p then a else b) = if p then State.wall a else State.wall b := apply_ite State.wall p a b
@[simp] theorem State.each_wall {α : Type} (s : State) (xs : List α) (f : State → α → State) (h : ∀ s x, State.wall (f s x) = s.wall) : State.wall (s.each xs f) = s.wall := by
  unfold State.each
  induction xs generalizing s with
  | nil => rfl
  | cons x xs ih => simp only [List.foldl_cons, ih, h]
@[simp] theorem State.updLane_wall (s : State) (l : Lane) (f : LaneSt → LaneSt) :
    State.wall (State.updLane s l f) = State.wall s := by
  rfl
@[simp] theorem State.updLanes_wall (s : State) (f : LaneSt → LaneSt) :
    State.wall (State.updLanes s f) = State.wall s := by
  rfl
@[simp] theorem State.updCell_wall (s : State) (c : Nat) (f : CellSt → CellSt) :
    State.wall (State.updCell s c f) = State.wall s := by
  rfl
@[simp] theorem State.updBank_wall (s : State) (b : Nat) (f : BankSt → BankSt) :
    State.wall (State.updBank s b f) = State.wall s := by
  rfl
@[simp] theorem State.updNet_wall (s : State) (n : Net) (f : NetSt → NetSt) :
    State.wall (State.updNet s n f) = State.wall s := by
  rfl
@[simp] theorem State.updConn_wall (s : State) (n : Nat) (f : ConnSt → ConnSt) :
    State.wall (State.updConn s n f) = State.wall s := by
  rfl
@[simp] theorem State.updBox_wall (s : State) (mb : Nat) (f : Mbox → Mbox) :
    State.wall (State.updBox s mb f) = State.wall s := by
  rfl
@[simp] theorem State.putEff_wall (s : State) (c : Nat) (e : Bool) :
    State.wall (State.putEff s c e) = State.wall s := by
  simp [State.putEff]
@[simp] theorem State.dropEffs_wall (s : State) (cs : List Nat) :
    State.wall (State.dropEffs s cs) = State.wall s := by
  unfold State.dropEffs
  induction cs generalizing s with
  | nil => rfl
  | cons c cs ih => simp only [List.foldl_cons, ih, State.putEff_wall]
@[simp] theorem State.passToken_wall (s : State) :
    State.wall (State.passToken s) = State.wall s := by
  rfl
@[simp] theorem State.settleToken_wall (s : State) :
    State.wall (State.settleToken s) = State.wall s := by
  simp [State.settleToken]
@[simp] theorem State.spendToken_wall (s : State) (t : Token) :
    State.wall (State.spendToken s t) = State.wall s := by
  simp [State.spendToken]
@[simp] theorem State.addHedge_wall (s : State) (h : Hedge) :
    State.wall (State.addHedge s h) = State.wall s := by
  simp [State.addHedge]
@[simp] theorem State.fresh_wall (s : State) :
    State.wall (State.fresh s).2 = State.wall s := by
  rfl
@[simp] theorem State.freshNat_wall (s : State) (n : Nat) :
    State.wall (State.freshNat s n).2 = State.wall s := by
  rfl
@[simp] theorem State.takeSeq_wall (s : State) :
    State.wall (State.takeSeq s).2 = State.wall s := by
  rfl
@[simp] theorem State.updRecs_wall (s : State) (f : RecSt → RecSt) :
    State.wall (State.updRecs s f) = State.wall s := by
  rfl
@[simp] theorem State.toRc_wall (s : State) (prio : Nat) (x : Rec) :
    State.wall (State.toRc s prio x) = State.wall s := by
  simp [State.toRc]
@[simp] theorem State.logFault_wall (s : State) (x : FaultRec) :
    State.wall (State.logFault s x) = State.wall s := by
  rfl
@[simp] theorem State.logCount_wall (s : State) (c : Coal) (seq : Nat) :
    State.wall (State.logCount s c seq) = State.wall s := by
  simp [State.logCount]
@[simp] theorem State.alarmSeq_wall (s : State) (kind : Nat) (source : Nat) (seq : Nat) :
    State.wall (State.alarmSeq s kind source seq) = State.wall s := by
  simp [State.alarmSeq]
@[simp] theorem State.closeCoal_wall (s : State) (c : Coal) :
    State.wall (State.closeCoal s c) = State.wall s := by
  simp [State.closeCoal]
@[simp] theorem State.openCoal_wall (s : State) (kind : Nat) (source : Nat) (prio : Nat) (ot : Nat) (x : Rec) (body : Bytes) :
    State.wall (State.openCoal s kind source prio ot x body) = State.wall s := by
  simp [State.openCoal]
@[simp] theorem State.recordAt_wall (s : State) (kind : Nat) (source : Nat) (seq : Nat) (ot : Nat) (flags : Nat) (cls : Nat) (body : Bytes) :
    State.wall (State.recordAt s kind source seq ot flags cls body) = State.wall s := by
  unfold State.recordAt; split <;> simp
@[simp] theorem State.record_wall (s : State) (kind : Nat) (source : Nat) (body : Bytes) :
    State.wall (State.record s kind source body).2 = State.wall s := by
  simp [State.record]
@[simp] theorem State.refill_wall (s : State) :
    State.wall (State.refill s) = State.wall s := by
  simp [State.refill]
@[simp] theorem State.archiveEnd_wall (s : State) :
    State.wall (State.archiveEnd s) = State.wall s := by
  simp [State.archiveEnd]
@[simp] theorem State.drain_wall (s : State) (n : Nat) :
    State.wall (State.drain s n) = State.wall s := by
  simp [State.drain]
@[simp] theorem State.archiveTrigger_wall (s : State) (cause : Nat) :
    State.wall (State.archiveTrigger s cause) = State.wall s := by
  simp [State.archiveTrigger]
@[simp] theorem State.changeAt_wall (s : State) (seq : Nat) (kind : Nat) (cred : Nat) (session : Nat) (ep : Nat) (cmd : Nat) (cbody : Bytes) :
    State.wall (State.changeAt s seq kind cred session ep cmd cbody) = State.wall s := by
  simp [State.changeAt]
@[simp] theorem State.change_wall (s : State) (kind : Nat) (cred : Nat) (session : Nat) (ep : Nat) (cmd : Nat) (cbody : Bytes) :
    State.wall (State.change s kind cred session ep cmd cbody) = State.wall s := by
  simp [State.change]
@[simp] theorem State.ownChange_wall (s : State) (kind : Nat) (cbody : Bytes) :
    State.wall (State.ownChange s kind cbody) = State.wall s := by
  simp [State.ownChange]
@[simp] theorem State.ringPut_wall (s : State) (n : Notif) :
    State.wall (State.ringPut s n) = State.wall s := by
  rfl
@[simp] theorem State.flushWaiting_wall (s : State) :
    State.wall (State.flushWaiting s) = State.wall s := by
  simp [State.flushWaiting]
@[simp] theorem State.notify_wall (s : State) (n : Notif) :
    State.wall (State.notify s n) = State.wall s := by
  simp [State.notify]
@[simp] theorem State.closeAlarm_wall (s : State) (w : AlarmWin) :
    State.wall (State.closeAlarm s w) = State.wall s := by
  simp [State.closeAlarm]
@[simp] theorem State.openAlarm_wall (s : State) (f : Fsid) (seq : Nat) (body : Bytes) :
    State.wall (State.openAlarm s f seq body) = State.wall s := by
  simp [State.openAlarm]
@[simp] theorem State.alarm_wall (s : State) (f : Fsid) (raised : Nat) (applied : Nat) (parent : Nat) (seq : Nat) (full : Bool) :
    State.wall (State.alarm s f raised applied parent seq full) = State.wall s := by
  unfold State.alarm; split <;> simp
@[simp] theorem State.writeCompl_wall (s : State) (c : Compl) :
    State.wall (State.writeCompl s c) = State.wall s := by
  simp [State.writeCompl]
@[simp] theorem State.complete_wall (s : State) (r : CmdRef) (status : Nat) (result : Bytes) :
    State.wall (State.complete s r status result) = State.wall s := by
  simp [State.complete]
@[simp] theorem State.recordState_wall (s : State) (subject : Nat) (index : Nat) (old : Nat) (new : Nat) :
    State.wall (State.recordState s subject index old new).2 = State.wall s := by
  simp [State.recordState]
@[simp] theorem State.laneEvent_wall (s : State) (l : Lane) (old : Nat) (new : Nat) (latch : Bool) (f : Option Fsid) :
    State.wall (State.laneEvent s l old new latch f) = State.wall s := by
  simp [State.laneEvent]
@[simp] theorem State.pairNotice_wall (s : State) (old : PairState) :
    State.wall (State.pairNotice s old) = State.wall s := by
  simp [State.pairNotice]
@[simp] theorem State.setPair_wall (s : State) (p : PairState) :
    State.wall (State.setPair s p) = State.wall s := by
  simp [State.setPair]
@[simp] theorem State.setMod_wall (s : State) (m : ModState) :
    State.wall (State.setMod s m) = State.wall s := by
  simp [State.setMod]
@[simp] theorem State.progress_wall (s : State) (r : Option CmdRef) (cmd : Nat) (step : Nat) (steps : Nat) :
    State.wall (State.progress s r cmd step steps) = State.wall s := by
  simp [State.progress]
@[simp] theorem State.postErr_wall (s : State) (source : Nat) (window : Nat) (addr : Nat) (fstat : Nat) (ep : Nat) :
    State.wall (State.postErr s source window addr fstat ep) = State.wall s := by
  simp [State.postErr]
@[simp] theorem State.refChange_wall (s : State) (r : CmdRef) (kind : Nat) (body : Bytes) :
    State.wall (State.refChange s r kind body) = State.wall s := by
  simp [State.refChange]
@[simp] theorem State.setSlot_wall (s : State) (kind : Nat) (b : Bool) (x : Slot) :
    State.wall (State.setSlot s kind b x) = State.wall s := by
  unfold State.setSlot; split <;> simp
@[simp] theorem State.updAct_wall (s : State) (f : ActSt → ActSt) :
    State.wall (State.updAct s f) = State.wall s := by
  rfl
@[simp] theorem State.abortUpd_wall (s : State) (cause : Nat) :
    State.wall (State.abortUpd s cause) = State.wall s := by
  unfold State.abortUpd; dsimp only; (repeat' split) <;> simp_all
@[simp] theorem State.emptyFrame_wall (s : State) :
    State.wall (State.emptyFrame s) = State.wall s := by
  rfl
@[simp] theorem State.closeCursor_wall (s : State) :
    State.wall (State.closeCursor s) = State.wall s := by
  rfl
@[simp] theorem State.endSession_wall (s : State) (id : Nat) :
    State.wall (State.endSession s id) = State.wall s := by
  unfold State.endSession; split <;> simp
@[simp] theorem State.serviceDown_wall (s : State) (rc : Bool) :
    State.wall (State.serviceDown s rc) = State.wall s := by
  simp [State.serviceDown]
@[simp] theorem State.updBridge_wall (s : State) (f : BridgeSt → BridgeSt) :
    State.wall (State.updBridge s f) = State.wall s := by
  rfl
@[simp] theorem State.postedFailed_wall (s : State) (x : Xfer) (fstat : Nat) :
    State.wall (State.postedFailed s x fstat) = State.wall s := by
  simp [State.postedFailed]
@[simp] theorem State.endXfer_wall (s : State) (x : Xfer) (fstat : Nat) (data : Bytes) :
    State.wall (State.endXfer s x fstat data) = State.wall s := by
  unfold State.endXfer; split <;> simp
@[simp] theorem State.resetSb_wall (s : State) :
    State.wall (State.resetSb s) = State.wall s := by
  simp [State.resetSb]
@[simp] theorem State.useSet_wall (s : State) (x : Option SlotSet) :
    State.wall (State.useSet s x) = State.wall s := by
  rfl
@[simp] theorem State.switchFw_wall (s : State) :
    State.wall (State.switchFw s) = State.wall s := by
  unfold State.switchFw; dsimp only; (repeat' split) <;> simp_all
@[simp] theorem State.revertFw_wall (s : State) :
    State.wall (State.revertFw s) = State.wall s := by
  unfold State.revertFw; dsimp only; (repeat' split) <;> simp_all
@[simp] theorem State.endFallback_wall (s : State) :
    State.wall (State.endFallback s) = State.wall s := by
  unfold State.endFallback; (repeat' split) <;> simp
@[simp] theorem State.fallbackRec_wall (s : State) (a : ActSt) (item : Nat) :
    State.wall (State.fallbackRec s a item) = State.wall s := by
  simp [State.fallbackRec]
@[simp] theorem State.kernelBack_wall (s : State) (a : ActSt) :
    State.wall (State.kernelBack s a) = State.wall s := by
  simp [State.kernelBack]
@[simp] theorem State.kernelMapBack_wall (s : State) (a : ActSt) :
    State.wall (State.kernelMapBack s a) = State.wall s := by
  rfl
@[simp] theorem State.failAct_wall (s : State) (item : Nat) :
    State.wall (State.failAct s item) = State.wall s := by
  unfold State.failAct; (repeat' split) <;> simp
@[simp] theorem State.actLane_wall (s : State) (l : Lane) :
    State.wall (State.actLane s l) = State.wall s := by
  unfold State.actLane; split <;> simp
@[simp] theorem State.actSafe_wall (s : State) :
    State.wall (State.actSafe s) = State.wall s := by
  unfold State.actSafe; split <;> simp
@[simp] theorem State.actService_wall (s : State) :
    State.wall (State.actService s) = State.wall s := by
  unfold State.actService; split <;> simp
@[simp] theorem State.recordEvent_wall (s : State) (f : Fsid) (raised : Nat) (applied : Nat) (conseq : Bool) (escal : Bool) (parent : Option Nat) :
    State.wall (State.recordEvent s f raised applied conseq escal parent).2 = State.wall s := by
  simp [State.recordEvent]
@[simp] theorem State.noteFault_wall (s : State) (seq : Nat) (x : List Nat) :
    State.wall (State.noteFault s seq x) = State.wall s := by
  rfl
@[simp] theorem State.startGrace_wall (s : State) (f : Fsid) (seq : Nat) (cls : Nat) (out : Option Lane) :
    State.wall (State.startGrace s f seq cls out) = State.wall s := by
  simp [State.startGrace]
@[simp] theorem State.abandonWith_wall (s : State) (status : Nat) (cause : Nat) (result : Bytes) :
    State.wall (State.abandonWith s status cause result) = State.wall s := by
  unfold State.abandonWith; split <;> simp
@[simp] theorem State.abandonTest_wall (s : State) (status : Nat) (cause : Nat) :
    State.wall (State.abandonTest s status cause) = State.wall s := by
  simp [State.abandonTest]
@[simp] theorem State.safeActions_wall (s : State) :
    State.wall (State.safeActions s) = State.wall s := by
  simp [State.safeActions]
@[simp] theorem State.enterTerminal_wall (s : State) :
    State.wall (State.enterTerminal s) = State.wall s := by
  simp [State.enterTerminal]
@[simp] theorem State.safeLimit_wall (s : State) :
    State.wall (State.safeLimit s) = State.wall s := by
  simp [State.safeLimit]
@[simp] theorem State.enterSafe_wall (s : State) (seq : Nat) :
    State.wall (State.enterSafe s seq) = State.wall s := by
  simp [State.enterSafe]
@[simp] theorem State.latchMark_wall (s : State) (l : Lane) :
    State.wall (State.latchMark s l) = State.wall s := by
  simp [State.latchMark]
@[simp] theorem State.withdraw_wall (s : State) (l : Lane) (f : Fsid) (seq : Nat) (hold : LHold) (counted : Bool) :
    State.wall (State.withdraw s l f seq hold counted) = State.wall s := by
  simp [State.withdraw]
@[simp] theorem State.afterWithdraw_wall (s : State) (l : Lane) (f : Fsid) :
    State.wall (State.afterWithdraw s l f) = State.wall s := by
  rfl
@[simp] theorem State.countEvent_wall (s : State) (f : Fsid) (dflt : Nat) :
    State.wall (State.countEvent s f dflt).2.2 = State.wall s := by
  unfold State.countEvent; (repeat' split) <;> simp
@[simp] theorem State.serviceRestart_wall (s : State) (rc : Bool) :
    State.wall (State.serviceRestart s rc) = State.wall s := by
  simp [State.serviceRestart]
@[simp] theorem State.openCut_wall (s : State) (b : Nat) :
    State.wall (State.openCut s b) = State.wall s := by
  simp [State.openCut]
@[simp] theorem State.cutOf_wall (s : State) (blk : Nat) :
    State.wall (State.cutOf s blk) = State.wall s := by
  simp [State.cutOf]
@[simp] theorem State.hedgeUnsettled_wall (s : State) (blk : Nat) (f : Fsid) (seq : Nat) :
    State.wall (State.hedgeUnsettled s blk f seq) = State.wall s := by
  simp [State.hedgeUnsettled]
@[simp] theorem State.notSettled_wall (s : State) (blk : Nat) (parent : Option Nat) :
    State.wall (State.notSettled s blk parent) = State.wall s := by
  unfold State.notSettled; dsimp only; (repeat' split) <;> simp
@[simp] theorem State.clearBlock_wall (s : State) (blk : Nat) :
    State.wall (State.clearBlock s blk) = State.wall s := by
  simp [State.clearBlock]
@[simp] theorem State.postedMasked_wall (s : State) (k seq : Nat) :
    State.wall (State.postedMasked s k seq) = State.wall s := by
  simp [State.postedMasked]
@[simp] theorem State.resetBlock_wall (s : State) (blk : Nat) (f : Fsid) (seq : Nat) :
    State.wall (State.resetBlock s blk f seq) = State.wall s := by
  unfold State.resetBlock; split <;> simp
@[simp] theorem State.hedgeCell_wall (s : State) (c : Nat) (f : Fsid) (seq : Nat) :
    State.wall (State.hedgeCell s c f seq) = State.wall s := by
  simp [State.hedgeCell]
@[simp] theorem State.containCm_wall (s : State) (f : Fsid) (seq : Nat) :
    State.wall (State.containCm s f seq) = State.wall s := by
  simp [State.containCm]
@[simp] theorem State.hedgeEngine_wall (s : State) (l : Lane) (f : Fsid) (seq : Nat) :
    State.wall (State.hedgeEngine s l f seq) = State.wall s := by
  simp [State.hedgeEngine]
@[simp] theorem State.failResync_wall (s : State) (l : Lane) (parent : Option Nat) :
    State.wall (State.failResync s l parent) = State.wall s := by
  unfold State.failResync; dsimp only; (repeat' split) <;> simp_all
@[simp] theorem State.reactLane_wall (s : State) (l : Lane) (f : Fsid) (cls : Nat) (seq : Nat) :
    State.wall (State.reactLane s l f cls seq) = State.wall s := by
  unfold State.reactLane; split <;> simp
@[simp] theorem State.react_wall (s : State) (f : Fsid) (cls : Nat) (seq : Nat) (named : Option Lane) :
    State.wall (State.react s f cls seq named) = State.wall s := by
  unfold State.react; (repeat' split) <;> simp
@[simp] theorem State.collectFull_wall (s : State) (f : Fsid) (dflt : Nat) (parent : Option Nat) (named : Option Lane) (via : Option Net) :
    State.wall (State.collectFull s f dflt parent named via).2 = State.wall s := by
  unfold State.collectFull; dsimp only; (repeat' split) <;> simp_all
@[simp] theorem State.collect_wall (s : State) (f : Fsid) :
    State.wall (State.collect s f) = State.wall s := by
  simp [State.collect]
@[simp] theorem State.collectNamed_wall (s : State) (f : Fsid) (x : List Nat) :
    State.wall (State.collectNamed s f x) = State.wall s := by
  simp [State.collectNamed]
@[simp] theorem State.updCh_wall (s : State) (c : Nat) (l : Lane) (f : ChSt → ChSt) :
    State.wall (State.updCh s c l f) = State.wall s := by
  rfl
@[simp] theorem State.pairTick_wall (s : State) (c : Nat) (l : Lane) :
    State.wall (State.pairTick s c l) = State.wall s := by
  simp [State.pairTick]
@[simp] theorem State.pairTicks_wall (s : State) (c : Nat) :
    State.wall (State.pairTicks s c) = State.wall s := by
  simp [State.pairTicks]
@[simp] theorem State.pairsTick_wall (s : State) :
    State.wall (State.pairsTick s) = State.wall s := by
  simp [State.pairsTick]
@[simp] theorem State.setEff_wall (s : State) (c : Nat) :
    State.wall (State.setEff s c) = State.wall s := by
  simp [State.setEff]
@[simp] theorem State.setEffs_wall (s : State) (cs : List Nat) :
    State.wall (State.setEffs s cs) = State.wall s := by
  simp [State.setEffs]
@[simp] theorem State.raiseNamed_wall (s : State) (c : Nat) (det : Nat) (x : List Nat) :
    State.wall (State.raiseNamed s c det x) = State.wall s := by
  simp [State.raiseNamed]
@[simp] theorem State.raiseOut_wall (s : State) (c : Nat) (det : Nat) :
    State.wall (State.raiseOut s c det) = State.wall s := by
  simp [State.raiseOut]
@[simp] theorem State.updTest_wall (s : State) (f : TestSt → TestSt) :
    State.wall (State.updTest s f) = State.wall s := by
  rfl
@[simp] theorem State.cutTest_wall (s : State) (cs : List Nat) :
    State.wall (State.cutTest s cs) = State.wall s := by
  simp [State.cutTest]
@[simp] theorem State.cutBank_wall (s : State) (b : Nat) :
    State.wall (State.cutBank s b) = State.wall s := by
  simp [State.cutBank]
@[simp] theorem State.readFault_wall (s : State) (c : Nat) :
    State.wall (State.readFault s c) = State.wall s := by
  simp [State.readFault]
@[simp] theorem State.readOne_wall (s : State) (c : Nat) (l : Lane) (v : Bool) :
    State.wall (State.readOne s c l v) = State.wall s := by
  simp [State.readOne]
@[simp] theorem State.readTick_wall (s : State) (c : Nat) :
    State.wall (State.readTick s c) = State.wall s := by
  simp [State.readTick]
@[simp] theorem State.cellTick_wall (s : State) :
    State.wall (State.cellTick s) = State.wall s := by
  simp [State.cellTick]
@[simp] theorem State.sendOn_wall (s : State) (n : Net) (f : Frame) :
    State.wall (State.sendOn s n f) = State.wall s := by
  simp [State.sendOn]
@[simp] theorem State.sendBoth_wall (s : State) (udp : Option Nat) (g : Gvt) :
    State.wall (State.sendBoth s udp g) = State.wall s := by
  simp [State.sendBoth]
@[simp] theorem State.actProgress_wall (s : State) (step : Nat) :
    State.wall (State.actProgress s step) = State.wall s := by
  unfold State.actProgress; split <;> simp
@[simp] theorem State.release_wall (s : State) (k : ConnCfg) (g : Gvt) :
    State.wall (State.release s k g) = State.wall s := by
  simp [State.release]
@[simp] theorem State.updMail_wall (s : State) (f : MailSt → MailSt) :
    State.wall (State.updMail s f) = State.wall s := by
  rfl
@[simp] theorem State.freeBox_wall (s : State) (mb : Nat) :
    State.wall (State.freeBox s mb) = State.wall s := by
  simp [State.freeBox]
@[simp] theorem State.respond_wall (s : State) (mb : Nat) (status : Nat) (body : Bytes) :
    State.wall (State.respond s mb status body) = State.wall s := by
  rfl
@[simp] theorem State.answerBad_wall (x0 : Nat) (x1 : State) :
    State.wall (State.answerBad x0 x1) = State.wall x1 := by
  induction x0 generalizing x1 with
  | zero => rfl
  | succ n ih => simp only [State.answerBad]; (repeat' split) <;> simp [ih]
@[simp] theorem State.grantFirst_wall (s : State) (c : FabricClass) :
    State.wall (State.grantFirst s c) = State.wall s := by
  simp [State.grantFirst]
@[simp] theorem State.settle_wall (s : State) :
    State.wall (State.settle s) = State.wall s := by
  simp [State.settle]
@[simp] theorem State.dropStep_wall (s : State) (c : Ctx) :
    State.wall (State.dropStep s c) = State.wall s := by
  rfl
@[simp] theorem State.tickCells_wall (s : State) :
    State.wall (State.tickCells s) = State.wall s := by
  simp [State.tickCells]
@[simp] theorem State.tickCycle_wall (s : State) :
    State.wall (State.tickCycle s) = State.wall s := by
  rfl
@[simp] theorem State.tickRecs_wall (s : State) :
    State.wall (State.tickRecs s) = State.wall s := by
  simp [State.tickRecs]
@[simp] theorem State.restartFw_wall (s : State) :
    State.wall (State.restartFw s) = State.wall s := by
  simp [State.restartFw]

/-! ### A step on an empty queue -/

theorem tick_wall {s : State} (hon : s.pow.on = true) (hcommons : s.pow.commons = true) :
    (tick s).wall = s.clearOut.clocked.wall := by
  rw [tick_powered hon hcommons, State.restartFw_wall, State.tickRecs_wall, State.tickCells_wall, State.tickCycle_wall]

/-- Without slewing, a millisecond of operating time is one of wall time. -/
theorem TimeSt.tick_free {t : TimeSt} (h : t.source = 0) : t.tick.wt = (t.wt + 1) % 2 ^ 48 := by
  simp [TimeSt.tick, h]

/-- Settles O38: an empty queue ticks; the clocks alone write operating and wall time. -/
theorem emptyQueueIsTick : Obligations.EmptyQueueIsTick := by
  unfold Obligations.EmptyQueueIsTick
  intro s hq
  have hstep : step s = .next (tick s) := by simp only [step, hq]
  rw [hstep]
  refine ⟨fun hoff => by rw [tick_unpowered hoff], fun hon hcommons => ⟨_, rfl, ?_, fun hsource => ?_, ?_⟩⟩
  · exact State.time_ot_of_fixed (tick_fixed_of_powered hon hcommons)
  · exact (congrArg Prod.fst (tick_wall hon hcommons)).trans (TimeSt.tick_free hsource)
  · exact congrArg Prod.snd (tick_wall hon hcommons)

/-- Settles O37: a queue that is not empty gives its front command. -/
theorem stepRunsFrontCommand : Obligations.StepRunsFrontCommand := by
  unfold Obligations.StepRunsFrontCommand
  exact fun _ _ _ => rfl

/-! ### Reset -/

/-- Settles O39: the reset state, field by field. -/
theorem resetState : Obligations.ResetState := by
  unfold Obligations.ResetState
  have hoff : ∀ x ∈ State.reset.cells, x.eff = false := fun x hx => by
    rw [List.eq_of_mem_replicate hx]
    rfl
  exact ⟨rfl, rfl, rfl, rfl, rfl, rfl, rfl, rfl, rfl, rfl, rfl, rfl, hoff, fun l => by cases l <;> rfl,
    ⟨rfl, fun x hx _ => hoff x hx⟩, rfl, nofun⟩

/-! ### Fault source IDs (01 R18) -/

/-- Settles O49: each field has its own digits in the word. -/
theorem faultSourceWord : Obligations.FaultSourceWord := by
  unfold Obligations.FaultSourceWord
  refine ⟨fun f hlevel hregion hblock hcell hdet => ?_, fun w hw => ?_, rfl, rfl⟩
  · simp only [fword, Nat.mod_eq_of_lt hlevel, Nat.mod_eq_of_lt hregion, Nat.mod_eq_of_lt hblock, Nat.mod_eq_of_lt hcell,
      Nat.mod_eq_of_lt hdet]
    omega
  · simp only [fword]
    omega

end Sys2Proof.Machine
end


section
/-! Bridge frames from other modules (13 R365, R366, R369 to R373): which part of the bridge takes a frame, and what an
inbound transfer does to the potting bench. -/

namespace Sys2Proof.Machine

/-! ### Which part of the bridge takes a frame -/

section frames
variable {s : State} {net : Net} {f : Frame}

/-- A frame that is handed on has passed what the telegram engine asks of any frame. -/
theorem State.handedOn_iff : s.handedOn net f = true ↔
    s.cmUp = true ∧ s.netUp net = true ∧ s.tgReset = false ∧ s.frameOk net f = true ∧ reservedOk f.gvt = true := by
  simp only [State.handedOn, Bool.and_eq_true, Bool.not_eq_true', and_assoc]

theorem State.frameOk_fcs (h : s.frameOk net f = true) : f.fcsOk = true := by
  simp only [State.frameOk, Bool.and_eq_true] at h
  obtain ⟨⟨⟨⟨hfcs, -⟩, -⟩, -⟩, -⟩ := h
  exact hfcs

theorem State.frameOk_isGvt (h : s.frameOk net f = true) : isGvt f = true := by
  simp only [State.frameOk, Bool.and_eq_true] at h
  obtain ⟨⟨⟨-, h⟩, -⟩, -⟩ := h
  unfold State.carriageOk at h
  unfold isGvt
  split at h
  case h_1 he => rw [he]
  case h_2 he => rw [he]
  case h_3 he => cases h

theorem State.handedOn_taken (h : s.handedOn net f = true) : s.tgTakes net f = true := by
  obtain ⟨hup, hnet, hreset, hok, -⟩ := State.handedOn_iff.1 h
  simp only [State.tgTakes, hup, hnet, hreset, State.frameOk_isGvt hok, Bool.not_false, Bool.and_self]

theorem State.notOwn_foreign {k : State} (h : f.gvt.src.toNat ≠ s.id.modaddr) : s.notOwn f k = k := by
  simp only [State.notOwn, beq_iff_eq, h, if_false]

theorem State.notOwn_duplicate {k : State} (h : f.gvt.src.toNat = s.id.modaddr) (hserial : f.gvt.serial ≠ s.id.serial)
    (hfcs : f.fcsOk = true) : s.notOwn f k = s.duplicate := by
  simp [State.notOwn, h, hserial, hfcs]

/-- A frame of this module's address. -/
theorem exec_bridgeFrame_own (hon : s.handedOn net f = true) (htyp : f.gvt.typ = 8) (hsrc : f.gvt.src.toNat = s.id.modaddr)
    (hserial : f.gvt.serial ≠ s.id.serial) : exec (.bridgeFrameReceived net f) s = .next s.duplicate := by
  obtain ⟨-, -, -, hok, -⟩ := State.handedOn_iff.1 hon
  simp only [exec, execBridgeFrameReceived, htyp, State.handedOn_taken hon,
    State.notOwn_duplicate hsrc hserial (State.frameOk_fcs hok)]
  rfl

/-- A bridge frame of another module. -/
theorem exec_bridgeFrame (hon : s.handedOn net f = true) (htyp : f.gvt.typ = 8) (hblock : s.blockOut 0x1E = false)
    (hsrc : f.gvt.src.toNat ≠ s.id.modaddr) : exec (.bridgeFrameReceived net f) s = .next (
      if !crcOkGvt f.gvt then s.tvFail
      else if s.sbOut then s
      else
        let bop := ofLe (slice f.gvt.payload 0 1)
        if bop == 1 || bop == 2 || bop == 3 then s.inbound f.gvt
        else if bop == 0x81 || bop == 0x82 || bop == 0x83 then s.completion f.gvt
        else s) := by
  simp only [exec, execBridgeFrameReceived, htyp, State.handedOn_taken hon, State.notOwn_foreign hsrc, hon, hblock]
  rfl

theorem exec_bridgeFrame_request (hon : s.handedOn net f = true) (htyp : f.gvt.typ = 8) (hblock : s.blockOut 0x1E = false)
    (hsrc : f.gvt.src.toNat ≠ s.id.modaddr) (hcrc : crcOkGvt f.gvt = true) (hout : s.sbOut = false) {bop : Nat}
    (hbop : bop = ofLe (slice f.gvt.payload 0 1)) (hreq : bop = 1 ∨ bop = 2 ∨ bop = 3) :
    exec (.bridgeFrameReceived net f) s = .next (s.inbound f.gvt) := by
  rw [exec_bridgeFrame hon htyp hblock hsrc]
  simp only [hcrc, hout, ← hbop]
  obtain rfl | rfl | rfl := hreq <;> rfl

theorem exec_bridgeFrame_completion (hon : s.handedOn net f = true) (htyp : f.gvt.typ = 8) (hblock : s.blockOut 0x1E = false)
    (hsrc : f.gvt.src.toNat ≠ s.id.modaddr) (hcrc : crcOkGvt f.gvt = true) (hout : s.sbOut = false) {bop : Nat}
    (hbop : bop = ofLe (slice f.gvt.payload 0 1)) (hreq : bop = 0x81 ∨ bop = 0x82 ∨ bop = 0x83) :
    exec (.bridgeFrameReceived net f) s = .next (s.completion f.gvt) := by
  rw [exec_bridgeFrame hon htyp hblock hsrc]
  simp only [hcrc, hout, ← hbop]
  obtain rfl | rfl | rfl := hreq <;> rfl

end frames

/-! ### Inbound requests -/

section inbound
variable {s : State} {g : Gvt} {bop len addr : Nat}

theorem State.inbound_repeated {k : KeptDone}
    (hk : s.bridge.kept.find? (fun k => k.src == g.src.toNat && k.seq == g.seq) = some k) :
    s.inbound g = s.sendBoth none k.gvt := by
  simp only [State.inbound, hk]

theorem State.inbound_busy (hk : s.bridge.kept.find? (fun k => k.src == g.src.toNat && k.seq == g.seq) = none)
    (hslot : s.inSlot g.src.toNat = none) (hbop : bop = ofLe (slice g.payload 0 1))
    (hlen : len = ofLe (slice g.payload 2 2).reverse) (haddr : addr = ofLe (slice g.payload 4 4).reverse) :
    s.inbound g = (s.updBridge fun b => { b with cntbusy := satInc 32 b.cntbusy, inctr := b.inctr + 1 }).sendBoth none
      (bridgeAnswer s g bop len addr 3 []) := by
  simp only [State.inbound, hk, hslot, ← hbop, ← hlen, ← haddr, bridgeAnswer]

theorem State.inbound_served {e : State} {i st : Nat} {d : Bytes}
    (hk : s.bridge.kept.find? (fun k => k.src == g.src.toNat && k.seq == g.seq) = none)
    (hslot : s.inSlot g.src.toNat = some i) (hbop : bop = ofLe (slice g.payload 0 1))
    (hlen : len = ofLe (slice g.payload 2 2).reverse) (haddr : addr = ofLe (slice g.payload 4 4).reverse)
    (hserve : s.serve bop addr len ((g.payload.drop 8).take len) = (st, d, e)) :
    s.inbound g = (e.updBridge fun b => { b.takeSlot i with
        cntresv := if i == 15 then satInc 32 b.cntresv else b.cntresv
        kept := keepDone ⟨g.src.toNat, g.seq, bridgeAnswer e g bop len addr st d⟩ b.kept }).sendBoth none
      (bridgeAnswer e g bop len addr st d) := by
  simp only [State.inbound, hk, hslot, ← hbop, ← hlen, ← haddr, hserve, bridgeAnswer]

/-- What an inbound request in a free slot leaves of the bench is what serving it leaves. -/
theorem State.inbound_served_bench {data : Bytes}
    (hk : s.bridge.kept.find? (fun k => k.src == g.src.toNat && k.seq == g.seq) = none)
    (hslot : s.inSlot g.src.toNat ≠ none) (hbop : bop = ofLe (slice g.payload 0 1))
    (hlen : len = ofLe (slice g.payload 2 2).reverse) (haddr : addr = ofLe (slice g.payload 4 4).reverse)
    (hdata : data = (g.payload.drop 8).take len) : (s.inbound g).bench = (s.serve bop addr len data).2.2.bench := by
  obtain ⟨i, hi⟩ := Option.ne_none_iff_exists'.1 hslot
  subst hdata
  rw [State.inbound_served hk hi hbop hlen haddr rfl, State.sendBoth_bench]
  rfl

/-- The bench is the range of 64 KiB at 0x100000 of the module space. -/
theorem inboundStat_bench (h4 : 4 ≤ len) (h256 : len ≤ 256) (hmod : len % 4 = 0) (hlow : 0x100000 ≤ addr)
    (hhigh : addr + len ≤ 0x110000) : inboundStat bop addr len = 0 := by
  simp [inboundStat, lenOk, h4, h256, hmod, hlow, hhigh]

theorem State.serve_bench_write {data : Bytes} (hstat : inboundStat bop addr len = 0) (hbop : bop ≠ 1) :
    (s.serve bop addr len data).2.2.bench = Memory.writes (addr - 0x100000) data s.bench := by
  have hread : (bop == 1) = false := by simpa using hbop
  simp only [State.serve, hstat, hread]
  rfl

theorem State.serve_bench_read {data : Bytes} (hstat : inboundStat 1 addr len = 0) (hlow : 0x100000 ≤ addr) :
    (s.serve 1 addr len data).2.2.bench = s.bench := by
  simp [State.serve, hstat, Nat.not_lt.2 hlow]

end inbound

/-- Settles O48: serving a write writes its bytes and serving a read none; the answer touches no byte. -/
theorem bridgeBenchWriteRead : Obligations.BridgeBenchWriteRead := by
  unfold Obligations.BridgeBenchWriteRead
  intro s net f hon htyp hblock hsrc hout hcrc hbench hk hslot bop addr len data hbop hlen haddr hdata hlength h4 h256 hmod
    hlow hhigh
  have hinbound := State.inbound_served_bench hk hslot hbop hlen haddr hdata
  refine ⟨fun hwrite => ⟨_, exec_bridgeFrame_request hon htyp hblock hsrc hcrc hout hbop (.inr hwrite), fun a => ?_⟩,
    fun hread => ⟨_, exec_bridgeFrame_request hon htyp hblock hsrc hcrc hout hbop (.inl hread), ?_⟩⟩
  · rw [hinbound, State.serve_bench_write (inboundStat_bench h4 h256 hmod hlow hhigh) (by omega),
      Memory.read_writes _ _ _ _ hbench.1, hlength]
  · subst hread
    rw [hinbound, State.serve_bench_read (inboundStat_bench h4 h256 hmod hlow hhigh) hlow]

/-- Settles O30: a frame that is handed on reaches the inbound service by its BOP, or ends the transfer that it completes. -/
theorem bridgeFramesComplete : Obligations.BridgeFramesComplete := by
  unfold Obligations.BridgeFramesComplete
  intro s net f hon htyp hblock
  refine ⟨exec_bridgeFrame_own hon htyp, fun hsrc hcrc => ?_, fun hsrc hcrc hout => ?_, fun hsrc hcrc hout bop len addr hbop
    hlen haddr => ⟨fun hreq => ?_, exec_bridgeFrame_completion hon htyp hblock hsrc hcrc hout hbop⟩⟩
  · rw [exec_bridgeFrame hon htyp hblock hsrc, hcrc]
    rfl
  · rw [exec_bridgeFrame hon htyp hblock hsrc, hcrc, hout]
    rfl
  · rw [exec_bridgeFrame_request hon htyp hblock hsrc hcrc hout hbop hreq]
    exact ⟨fun k hk => by rw [State.inbound_repeated hk],
      fun hk hslot => by rw [State.inbound_busy hk hslot hbop hlen haddr],
      fun i st d e hk hslot hserve => by rw [State.inbound_served hk hslot hbop hlen haddr hserve]⟩

end Sys2Proof.Machine
end


section
/-! The mailbox commands that only read (12 R348, R351, R358). -/

namespace Sys2Proof.Machine

/-! ### Reads -/

/-- A state whose self-test and mailboxes alone are others: what a request in service reads. -/
def State.served (s : State) (t : Option TestSt) (bs : List Mbox) : State :=
  { s with be := { s.be with test := t }, mail := { s.mail with boxes := bs } }

theorem State.taken_served (s : State) (mb : Nat) : ∃ t bs, s.taken mb = s.served t bs :=
  ⟨(s.grantFirst .service).be.test, modAt (fun b => { b with st := .running }) mb s.mail.boxes, by
    rw [State.taken, State.grantFirst_only]
    rfl⟩

section reads
variable {s : State} {mb code st len first count total most : Nat} {resv : List (Nat × Nat)} {f : State → Ctx → Ans} {x : Ctx}
  {i : Instr} {body : Bytes}

/-- A query whose answer does not depend on the mailboxes or the self-test. -/
theorem Admitted.queries (h : Admitted s mb code (query len resv f) x)
    (he : exec i s = .next (s.serveCmd mb code (query len resv f))) (hf : ∀ t bs, f (s.served t bs) x = (st, body)) :
    Reads i s mb st body := by
  refine h.reads he ?_
  obtain ⟨t, bs, htaken⟩ := s.taken_served mb
  rw [htaken, ← hf t bs]
  rfl

theorem pick_eq_items {item : Nat → Bytes} (htotal : first + count ≤ total) (h1 : 1 ≤ count) (hmost : count ≤ most) :
    pick first count total most item = (0, (List.range count).flatMap fun k => item (first + k)) := by
  rw [pick, if_neg (Nat.not_lt.2 htotal), if_neg (by simp; omega), List.flatMap_map]

theorem pick_eq_notFound {item : Nat → Bytes} (htotal : total < first + count) :
    pick first count total most item = (0x8080, []) := by
  rw [pick, if_pos htotal]

theorem pick_eq_checkFail {item : Nat → Bytes} (htotal : first + count ≤ total) (hcount : count = 0 ∨ most < count) :
    pick first count total most item = (0x8070, []) := by
  rw [pick, if_neg (Nat.not_lt.2 htotal), if_pos (by simpa using hcount)]

/-- A query that picks a window of numbered items. -/
theorem Admitted.readsWindow {item : Nat → Bytes} (h : Admitted s mb code (query len resv f) x)
    (he : exec i s = .next (s.serveCmd mb code (query len resv f)))
    (hf : ∀ t bs, f (s.served t bs) x = pick first count total most item) :
    ReadsWindow i s mb first count total most item :=
  ⟨fun htotal h1 hmost => h.queries he fun t bs => (hf t bs).trans (pick_eq_items htotal h1 hmost),
    fun htotal => h.queries he fun t bs => (hf t bs).trans (pick_eq_notFound htotal),
    fun htotal hcount => h.queries he fun t bs => (hf t bs).trans (pick_eq_checkFail htotal hcount)⟩

theorem listFrom_eq_entries {items : List Bytes} (hfirst : first < items.length ∨ first = 0 ∧ items = []) :
    listFrom first most items.length items = (0, le 2 items.length ++ le 2 ((items.drop first).take most).length ++
      ((items.drop first).take most).flatten) := by
  have hin : ¬ (items.length < first ∨ first = items.length ∧ ¬ items.length = 0) := by
    obtain h | ⟨rfl, rfl⟩ := hfirst
    · omega
    · simp
  rw [listFrom, if_neg (by simpa using hin)]

theorem listFrom_eq_notFound {items : List Bytes} (hfirst : items.length ≤ first) (hne : first ≠ 0) :
    listFrom first most items.length items = (0x8080, []) := by
  rw [listFrom, if_pos]
  simp only [Bool.or_eq_true, decide_eq_true_eq, Bool.and_eq_true, beq_iff_eq, bne_iff_ne]
  omega

/-- A query of a list from a position. -/
theorem Admitted.readsList {items : List Bytes} (h : Admitted s mb code (query len resv f) x)
    (he : exec i s = .next (s.serveCmd mb code (query len resv f)))
    (hf : ∀ t bs, f (s.served t bs) x = listFrom first most items.length items) : ReadsList i s mb first most items :=
  ⟨fun hfirst => h.queries he fun t bs => (hf t bs).trans (listFrom_eq_entries hfirst),
    fun hlast hne => h.queries he fun t bs => (hf t bs).trans (listFrom_eq_notFound hlast hne)⟩

end reads

/-! ### Status blocks -/

/-- Settles O1: each command is a query of a block that no mailbox and no self-test changes. -/
theorem statusCommandsReadOnly : Obligations.StatusCommandsReadOnly := by
  unfold Obligations.StatusCommandsReadOnly
  intro s mb x
  refine ⟨fun h => h.queries rfl fun _ _ => rfl, fun h => h.queries rfl fun _ _ => rfl, fun h => h.queries rfl fun _ _ => rfl,
    fun h => h.queries rfl fun _ _ => rfl, fun h => h.queries rfl fun _ _ => rfl, fun h => h.queries rfl fun _ _ => ?_,
    fun h => h.queries rfl fun _ _ => rfl, fun h => h.queries rfl fun _ _ => rfl, fun h => h.queries rfl fun _ _ => rfl,
    fun h => h.queries rfl fun _ _ => rfl⟩
  have hempty : (s.image.imgid == 0 && s.image.role == 0) = true ↔ s.image.imgid = 0 ∧ s.image.role = 0 := by simp
  show (_, (if (s.image.imgid == 0 && s.image.role == 0) = true then zeros 64 else imageInfo s.image) ++ s.idleInfo) = _
  simp only [hempty]

/-- Settles O2: the same for the other groups. -/
theorem groupStatusReadOnly : Obligations.GroupStatusReadOnly := by
  unfold Obligations.GroupStatusReadOnly
  intro s mb x
  exact ⟨fun h => h.queries rfl fun _ _ => rfl, fun h => h.queries rfl fun _ _ => rfl, fun h => h.queries rfl fun _ _ => rfl,
    fun h => h.queries rfl fun _ _ => rfl, fun h => h.queries rfl fun _ _ => rfl, fun h => h.queries rfl fun _ _ => rfl⟩

/-! ### Items and lists -/

section stage
variable {s : State} {mb : Nat} {x : Ctx}

theorem owned_of_none {f : State → Ctx → Ans × State} (h : s.stage.owner = 0) : owned f s x = noAns 0x8030 s := by
  simp only [owned, State.notOwner, h, beq_self_eq_true, if_true]

theorem owned_of_other {f : State → Ctx → Ans × State} (h0 : s.stage.owner ≠ 0) (h : s.stage.owner ≠ x.ref.session) :
    owned f s x = noAns 0x8020 s := by
  simp [owned, State.notOwner, h0, h]

theorem owned_of_owner {f : State → Ctx → Ans × State} (h0 : s.stage.owner ≠ 0) (h : s.stage.owner = x.ref.session) :
    owned f s x = f s x := by
  have hnone : s.notOwner x = none := by
    rw [State.notOwner, if_neg (by simpa using h0), if_neg (by simpa using h)]
  simp only [owned, hnone]

theorem runStageRead_count (h : rd x.body 2 2 = 0 ∨ 101 < rd x.body 2 2) : runStageRead s x = noAns 0x8070 s := by
  simp [runStageRead, h]

theorem runStageRead_entries (h1 : 1 ≤ rd x.body 2 2) (h101 : rd x.body 2 2 ≤ 101) : runStageRead s x =
    okAns (((s.stage.entries.drop (rd x.body 0 2)).take (rd x.body 2 2)).flatMap shownEntry) s := by
  have hin : ¬ (rd x.body 2 2 = 0 ∨ 101 < rd x.body 2 2) := by omega
  simp [runStageRead, hin]

theorem reads_stageRead_entries (h : Admitted s mb 0x0403 cmdStageRead x) (howner : s.stage.owner = x.ref.session)
    (h0 : s.stage.owner ≠ 0) (h1 : 1 ≤ rd x.body 2 2) (h101 : rd x.body 2 2 ≤ 101) :
    Reads (.stageRead mb) s mb 0 (((s.stage.entries.drop (rd x.body 0 2)).take (rd x.body 2 2)).flatMap shownEntry) := by
  refine h.reads rfl ?_
  rw [← State.taken_stage s mb] at howner h0 ⊢
  exact (owned_of_owner h0 howner).trans (runStageRead_entries h1 h101)

theorem reads_stageRead_refused (h : Admitted s mb 0x0403 cmdStageRead x) :
    (s.stage.owner = 0 → Reads (.stageRead mb) s mb 0x8030 []) ∧
    (s.stage.owner ≠ 0 → s.stage.owner ≠ x.ref.session → Reads (.stageRead mb) s mb 0x8020 []) ∧
    (s.stage.owner ≠ 0 → s.stage.owner = x.ref.session → rd x.body 2 2 = 0 ∨ 101 < rd x.body 2 2 →
      Reads (.stageRead mb) s mb 0x8070 []) := by
  rw [← State.taken_stage s mb]
  exact ⟨fun h0 => h.reads rfl (owned_of_none h0), fun h0 hother => h.reads rfl (owned_of_other h0 hother),
    fun h0 howner hcount => h.reads rfl ((owned_of_owner h0 howner).trans (runStageRead_count hcount))⟩

end stage

/-- Settles O3: each command is a query that picks items or a list; STAGE_READ asks for the owner of the frame first. -/
theorem listCommandsReadOnly : Obligations.ListCommandsReadOnly := by
  unfold Obligations.ListCommandsReadOnly
  intro s mb x
  refine ⟨fun h => h.readsWindow rfl fun _ _ => rfl, fun h => h.readsWindow rfl fun _ _ => rfl,
    fun h hzero => h.queries rfl fun _ _ => if_pos (beq_iff_eq.2 hzero),
    fun h hpos => h.readsWindow rfl fun _ _ => if_neg (mt beq_iff_eq.1 hpos),
    fun h => h.readsWindow rfl fun _ _ => rfl, fun h => h.readsWindow rfl fun _ _ => rfl,
    fun h => h.readsWindow rfl fun _ _ => rfl, fun h => h.readsList rfl fun _ _ => ?_, fun h => h.readsList rfl fun _ _ => ?_,
    fun h => h.queries rfl fun _ _ => rfl, fun h hfirst => ?_, fun h hlast => h.queries rfl fun _ _ => if_pos hlast,
    reads_stageRead_refused, reads_stageRead_entries⟩
  · rw [List.length_map]
  · rw [List.length_map]
    rfl
  · have htests := reads_testList h hfirst
    rwa [State.testEntries, ← List.flatMap_def] at htests

end Sys2Proof.Machine
end


section
/-! The session, life-cycle and cold-frame commands of the mailboxes (11 R312 to R322, 12 R353 to R358, 15 R422 to R425). -/

namespace Sys2Proof.Machine

/-! ### Serving a request with an effect -/

/-- An admitted request, its mailbox RUNNING in s₁, whose command's effect and answer are known. -/
theorem Admitted.answersAs {s s₁ s' : State} {mb code st : Nat} {c : Cmd} {x : Ctx} {i : Instr} {body : Bytes}
    (h : Admitted s mb code c x) (he : exec i s = .next (s.serveCmd mb code c)) (ht : s.taken mb = s₁)
    (hr : c.run s₁ x = ((st, body), s')) : Answers i s mb st body s' :=
  h.answersBy he (ht ▸ hr)

section wrappers
variable (s : State) {x : Ctx} {f : State → Ctx → Ans × State}

theorem logged_of_in {r : Ans × State} (h : s.changeOut = false) (hf : f s x = r) : logged f s x = r := by
  simp only [logged, h, Bool.false_eq_true, if_false, hf]

theorem logged_of_out (h : s.changeOut = true) : logged f s x = noAns 0x8070 s := by
  simp only [logged, h, if_true]

theorem logged_of_refused (h : s.changeOut = true ∨ f s x = noAns 0x8070 s) : logged f s x = noAns 0x8070 s := by
  obtain h | h := h
  · exact logged_of_out s h
  · rw [logged, h]
    exact ite_self _

end wrappers

/-! ### Fresh values -/

theorem State.freshBytes_state (n : Nat) (s : State) : (State.freshBytes n s).2 = { s with free := s.free + n } := by
  induction n generalizing s with
  | zero => rfl
  | succ n ih =>
    simp only [State.freshBytes, State.fresh, ih]
    rw [Nat.add_assoc, Nat.add_comm 1 n]

theorem State.freshBytes_length (n : Nat) (s : State) : (State.freshBytes n s).1.length = n := by
  induction n generalizing s with
  | zero => rfl
  | succ n ih => simp only [State.freshBytes, List.length_cons, ih]

theorem State.newProv_state (s : State) (ep cred : Nat) (hostkey : Bytes) :
    (s.newProv ep cred hostkey).2 = { s with free := s.free + 34 } := by
  simp only [State.newProv, State.freshNat, State.freshBytes_state]

/-! ### The session commands -/

section session
variable (s : State) {x : Ctx}

theorem runOpen_opened {k : Cred} (hk : s.cred? (rd x.body 0 4) = some k) (hlc : s.id.lc.session k.role = true)
    (hroom : s.mail.sessions.length < 8) : runOpen s x =
      okAns (le 4 (s.newProv x.ep k.id (slice x.body 8 97)).1.id ++ (s.newProv x.ep k.id (slice x.body 8 97)).1.chal ++
          (s.newProv x.ep k.id (slice x.body 8 97)).1.modkey ++ zeros 3)
        { (s.newProv x.ep k.id (slice x.body 8 97)).2 with mail := { s.mail with
          prov := some (s.newProv x.ep k.id (slice x.body 8 97)).1 } } := by
  simp only [runOpen, hk, hlc, Bool.not_true, Bool.false_eq_true, if_false, Nat.not_le.2 hroom, State.newProv_state]
  rfl

theorem runAuth_passed {p : Prov} {k : Cred} (hp : s.mail.prov = some p) (hk : s.cred? p.cred = some k)
    (hok : x.tagged = true ∧ Config.ecdsaOk k.key p.digest (slice x.body 0 96) = true) : runAuth s x =
      okAns (le 1 k.role ++ zeros 3 ++ le 4 600)
        { s with mail := { s.mail with prov := none, sessions := s.mail.sessions ++ [p.open k.role] } } := by
  simp only [runAuth, hp, hk, hok, Bool.and_self, if_true]
  rfl

theorem runAuth_failed {p : Prov} {k : Cred} (hp : s.mail.prov = some p) (hk : s.cred? p.cred = some k)
    (hok : ¬ (x.tagged = true ∧ Config.ecdsaOk k.key p.digest (slice x.body 0 96) = true)) :
    runAuth s x = noAns 0x8060 s.dropProv := by
  simp only [runAuth, hp, hk]
  exact if_neg (by simpa using hok)

theorem runCredAdd_added (h1 : 1 ≤ rd x.body 4 1) (h4 : rd x.body 4 1 ≤ 4) (hnew : s.cred? (rd x.body 0 4) = none)
    (hroom : s.id.creds.length < 64) : runCredAdd s x = okAns []
      (State.ctxChange { s with id := { s.id with creds := s.id.creds ++ [⟨rd x.body 0 4, rd x.body 4 1, slice x.body 8 97⟩] } }
        x 0x12 (le 4 (rd x.body 0 4) ++ le 1 (rd x.body 4 1))) := by
  have hrole : ¬ (rd x.body 4 1 == 0 || decide (5 ≤ rd x.body 4 1)) = true := by
    simp only [Bool.or_eq_true, beq_iff_eq, decide_eq_true_eq]
    omega
  simp only [runCredAdd, hrole, hnew, Nat.not_le.2 hroom, Option.isSome_none, Bool.false_eq_true, if_false]

theorem runCredRevoke_revoked {k : Cred} (hk : s.cred? (rd x.body 0 4) = some k) (hself : rd x.body 0 4 ≠ x.ref.cred)
    (hfactory : k.role ≠ 5) : runCredRevoke s x = okAns []
      (State.ctxChange (State.each { s with id := { s.id with creds := s.id.creds.filter fun y => !(y.id == rd x.body 0 4) } }
        ((s.mail.sessions.filter (·.cred == rd x.body 0 4)).map (·.id)) State.endSession) x 0x13 (le 4 (rd x.body 0 4))) := by
  have hkeep : (rd x.body 0 4 == x.ref.cred || k.role == 5) = false := by simp [hself, hfactory]
  simp only [runCredRevoke, hk, hkeep, Bool.false_eq_true, if_false]

end session

/-- Settles O4: each session command's own checks pass, and its effect follows. -/
theorem sessionCommandsComplete : Obligations.SessionCommandsComplete := by
  unfold Obligations.SessionCommandsComplete
  intro s mb x
  obtain ⟨t, bs, ht⟩ := s.taken_served mb
  rw [ht]
  refine ⟨fun h k hk hlc hroom => ?_, fun h p k hp hk => ?_, fun h => h.answersAs rfl ht rfl,
    fun h hout h1 h4 hnew hroom => h.answersAs rfl ht (logged_of_in (s.served t bs) hout (runCredAdd_added _ h1 h4 hnew hroom)),
    fun h hout k hk hself hfactory =>
      h.answersAs rfl ht (logged_of_in (s.served t bs) hout (runCredRevoke_revoked _ hk hself hfactory))⟩
  · refine ⟨((s.served t bs).newProv x.ep k.id (slice x.body 8 97)).1, _, rfl,
      h.answersAs rfl ht ((runOpen_opened (s.served t bs) hk hlc hroom).trans ?_), rfl, rfl, Nat.succ_ne_zero _, ?_,
      State.freshBytes_length 32 _, rfl, rfl⟩
    · rw [State.newProv_state]
      rfl
    · have hmod := Nat.mod_lt (Config.freeValue s.free).toNat (show 0 < 2 ^ 32 by decide)
      show (Config.freeValue s.free).toNat % 2 ^ 32 % (2 ^ 32 - 1) + 1 < 2 ^ 32
      omega
  · split
    · next hok => exact h.answersAs rfl ht (runAuth_passed (s.served t bs) hp hk hok)
    · next hok => exact h.answersAs rfl ht (runAuth_failed (s.served t bs) hp hk hok)

/-! ### The life-cycle commands -/

section life
variable (s : State) {x : Ctx}

theorem runLcTransition_judged {target : LcState} (htarget : LcState.ofCode (rd x.body 0 1) = some target)
    (hlen : rd x.body 2 2 ≤ 1024) (hfree : s.id.lcReq = none) : runLcTransition s x =
      ((1, []), (s.opens x.ref 0).lcJudge target x.ref ((x.body.drop 4).take (rd x.body 2 2))) := by
  simp only [runLcTransition, htarget, Nat.not_lt.2 hlen, hfree, Option.isSome_none, Bool.false_eq_true, if_false]
  rfl

theorem runLcTransition_unknown (htarget : LcState.ofCode (rd x.body 0 1) = none) :
    runLcTransition s x = noAns 0x8070 s := by
  simp only [runLcTransition, htarget]

theorem runLcTransition_long (hlen : 1024 < rd x.body 2 2) : runLcTransition s x = noAns 0x8070 s := by
  unfold runLcTransition
  split
  · rfl
  · rw [if_pos hlen]

theorem runLcTransition_busy (htarget : LcState.ofCode (rd x.body 0 1) ≠ none) (hlen : rd x.body 2 2 ≤ 1024)
    (hbusy : s.id.lcReq ≠ none) : runLcTransition s x = noAns 0x80B0 s := by
  obtain ⟨target, htarget⟩ := Option.ne_none_iff_exists'.1 htarget
  simp only [runLcTransition, htarget, Nat.not_lt.2 hlen, Option.isSome_iff_ne_none.2 hbusy, if_true, if_false]

theorem runMode_waits (hm : rd x.body 0 1 ≤ 2) (hfree : s.cyc.modereq = none) : runMode s x =
    ((1, []), { s.opens x.ref 0 with cyc := { s.cyc with modereq := some (ExecMode.ofCode (rd x.body 0 1), x.ref) } }) := by
  simp only [runMode, Nat.not_lt.2 hm, hfree, Option.isSome_none, Bool.false_eq_true, if_false]
  rfl

theorem runMode_unknown (hm : 2 < rd x.body 0 1) : runMode s x = noAns 0x8070 s := by
  simp only [runMode, hm, if_true]

theorem runMode_busy (hm : rd x.body 0 1 ≤ 2) (hbusy : s.cyc.modereq ≠ none) : runMode s x = noAns 0x80B0 s := by
  simp only [runMode, Nat.not_lt.2 hm, Option.isSome_iff_ne_none.2 hbusy, if_true, if_false]

theorem State.askRestart_second {kind : RestartKind} (hbusy : s.pow.restart ≠ none) :
    s.askRestart kind = s.discardRestart kind := by
  simp only [State.askRestart, Option.isSome_iff_ne_none.2 hbusy, if_true]

theorem runRestart_asked (hkind : rd x.body 0 1 ≤ 1) (hfree : s.pow.restart = none) : runRestart s x = okAns []
    ((s.ctxChange x 0x16 (le 1 (rd x.body 0 1))).askRestart (if rd x.body 0 1 = 0 then .warm else .cold)) := by
  simp only [runRestart, Nat.not_lt.2 hkind, hfree, Option.isSome_none, Bool.false_eq_true, if_false, beq_iff_eq]

theorem runRestart_unknown (hkind : 1 < rd x.body 0 1) : runRestart s x = noAns 0x8070 s := by
  simp only [runRestart, hkind, if_true]

theorem runRestart_busy (hkind : rd x.body 0 1 ≤ 1) (hbusy : s.pow.restart ≠ none) : runRestart s x =
    noAns 0x80B0 (s.discardRestart (if rd x.body 0 1 = 0 then .warm else .cold)) := by
  simp only [runRestart, Nat.not_lt.2 hkind, Option.isSome_iff_ne_none.2 hbusy, if_true, if_false, beq_iff_eq,
    State.askRestart_second s hbusy]

theorem runMaint_waits (hv : rd x.body 0 1 ≤ 1) : runMaint s x =
    okAns [] { s with id := { s.id with maintReq := some (rd x.body 0 1 == 1, x.ref) } } := by
  simp only [runMaint, Nat.not_lt.2 hv, if_false]

theorem runMaint_unknown (hv : 1 < rd x.body 0 1) : runMaint s x = noAns 0x8070 s := by
  simp only [runMaint, hv, if_true]

end life

/-- Settles O5: each command answers by the change log, its parameter and the request of its kind that waits. -/
theorem lifeCycleCommandsComplete : Obligations.LifeCycleCommandsComplete := by
  unfold Obligations.LifeCycleCommandsComplete
  refine ⟨fun s mb x hin => ?_, fun s mb x => ?_⟩ <;> obtain ⟨t, bs, ht⟩ := s.taken_served mb <;> rw [ht]
  · have hrun {f : State → Ctx → Ans × State} {r : Ans × State} (hf : f (s.served t bs) x = r) :
        logged f (s.served t bs) x = r := logged_of_in _ hin hf
    exact ⟨fun h target htarget hlen hfree => h.answersAs rfl ht (hrun (runLcTransition_judged _ htarget hlen hfree)),
      fun h hm hfree => h.answersAs rfl ht (hrun (runMode_waits _ hm hfree)),
      fun h hkind hfree => h.answersAs rfl ht (hrun (runRestart_asked _ hkind hfree)),
      fun h hv => h.answersAs rfl ht (hrun (runMaint_waits _ hv))⟩
  · have hin {f : State → Ctx → Ans × State} {r : Ans × State} (h : s.changeOut = false) (hf : f (s.served t bs) x = r) :
        logged f (s.served t bs) x = r := logged_of_in _ h hf
    have hout {f : State → Ctx → Ans × State} (h : s.changeOut = true ∨ f (s.served t bs) x = noAns 0x8070 (s.served t bs)) :
        logged f (s.served t bs) x = noAns 0x8070 (s.served t bs) := logged_of_refused _ h
    exact ⟨fun h => ⟨fun hlog => h.answersAs rfl ht (hout (.inl hlog)),
        fun htarget => h.answersAs rfl ht (hout (.inr (runLcTransition_unknown _ htarget))),
        fun hlen => h.answersAs rfl ht (hout (.inr (runLcTransition_long _ hlen))),
        fun hlog htarget hlen hbusy => h.answersAs rfl ht (hin hlog (runLcTransition_busy _ htarget hlen hbusy))⟩,
      fun h => ⟨fun hbad => h.answersAs rfl ht (hout (hbad.imp_right (runMode_unknown _))),
        fun hlog hm hbusy => h.answersAs rfl ht (hin hlog (runMode_busy _ hm hbusy))⟩,
      fun h => ⟨fun hbad => h.answersAs rfl ht (hout (hbad.imp_right (runRestart_unknown _))),
        fun hlog hkind hbusy => h.answersAs rfl ht (hin hlog (runRestart_busy _ hkind hbusy))⟩,
      fun h hbad => h.answersAs rfl ht (hout (hbad.imp_right (runMaint_unknown _)))⟩

/-! ### The cold frame -/

section stage
variable (s : State) {x : Ctx}

/-- A command for the owner of the frame, where it owns it. -/
theorem owned_of_owns {f : State → Ctx → Ans × State} {r : Ans × State} (howner : s.stage.owner = x.ref.session)
    (h0 : s.stage.owner ≠ 0) (hf : f s x = r) : owned f s x = r := (owned_of_owner h0 howner).trans hf

theorem State.applyingNow_eq_false (h : s.stage.st ≠ .applying) : s.applyingNow = false := by
  simpa only [State.applyingNow, beq_eq_false_iff_ne] using h

theorem runStageOpen_taken (hfree : s.stage.owner = 0) (hsess : x.ref.session ≠ 0) : runStageOpen s x = okAns []
    (State.ctxChange { s with stage := { s.stage with owner := x.ref.session, st := .opened, chkcode := 0 } } x 0x01
      (le 4 x.ref.session ++ le 4 x.ref.cred)) := by
  have hother : (s.stage.owner == x.ref.session) = false := by simpa [hfree] using hsess.symm
  have hnone : (s.stage.owner != 0) = false := by simp [hfree]
  simp only [runStageOpen, hother, hnone, Bool.false_eq_true, if_false]
  rfl

theorem runStageOpen_again (howner : s.stage.owner = x.ref.session) : runStageOpen s x = okAns [] s := by
  simp only [runStageOpen, howner, beq_self_eq_true, if_true]

section write
variable (happlying : s.stage.st ≠ .applying) (h1 : 1 ≤ rd x.body 0 2) (h101 : rd x.body 0 2 ≤ 101)
  (hkeys : x.role ≥ 4 ∨ ∀ k < rd x.body 0 2, (entryIn (rawEntry x.body k)).cls ≠ 0x06)
include happlying h1 h101 hkeys

/-- A STAGE_WRITE in its bounds, with no key to be refused, comes to its entries. -/
theorem runStageWrite_entries {r : Ans × State} {y : Except Nat State}
    (hall : s.stageAll ((List.range (rd x.body 0 2)).map (rawEntry x.body)) 0 = y)
    (hr : r = y.casesOn (fun k => ((0x8030, le 2 0 ++ le 2 k), s))
      fun d => okAns (le 2 (rd x.body 0 2) ++ le 2 0xFFFF) d.afterWrite) : runStageWrite s x = r := by
  have hcount : (rd x.body 0 2 == 0 || decide (101 < rd x.body 0 2)) = false := by
    simp only [Bool.or_eq_false_iff, beq_eq_false_iff_ne, decide_eq_false_iff_not]
    omega
  have hrole : (decide (x.role < 4) && ((List.range (rd x.body 0 2)).map (rawEntry x.body)).any
      fun r => (entryIn r).cls == 0x06) = false := by
    simp only [Bool.and_eq_false_iff, decide_eq_false_iff_not, Nat.not_lt, List.any_eq_false, List.forall_mem_map,
      List.mem_range, beq_iff_eq]
    exact hkeys
  cases y <;>
    simp only [runStageWrite, hcount, State.writeEntries, s.applyingNow_eq_false happlying, hrole, hall, List.length_map,
      List.length_range, Bool.false_eq_true, if_false, hr]

end write

theorem runStageDiscard_discarded (happlying : s.stage.st ≠ .applying) : runStageDiscard s x =
    okAns [] (s.discardFrame.ctxChange x 0x01 (le 4 x.ref.session ++ le 4 x.ref.cred)) := by
  simp only [runStageDiscard, s.applyingNow_eq_false happlying, Bool.false_eq_true, if_false]

theorem runStageCheck_begins (happlying : s.stage.st ≠ .applying) (hchecking : s.stage.checking = none)
    (happly : s.stage.apply = none) : runStageCheck s x =
    ((1, []), { s.opens x.ref 0 with
      stage := { s.stage with st := .checking, checking := some x.ref, passedLanes := [] } }) := by
  have hfree : ¬ (s.stage.checking.isSome || s.stage.apply.isSome || s.applyingNow) = true := by
    simp [hchecking, happly, s.applyingNow_eq_false happlying]
  unfold runStageCheck
  exact (if_neg hfree).trans rfl

theorem runStageApply_refused (h : s.applyAdmitted = false) :
    runStageApply s x = noAns 0x8010 (s.ctxChange x 0x03 (le 4 (rd x.body 0 4) ++ le 2 0x8010)) := by
  simp only [runStageApply, h, Bool.false_eq_true, if_false]
  rfl

theorem runStageApply_accepted (hadmitted : s.applyAdmitted = true) (hin : s.changeOut = false)
    (howner : s.stage.owner = x.ref.session) (h0 : s.stage.owner ≠ 0) (hst : s.applyStatus (rd x.body 0 4) = 0) :
    runStageApply s x =
      ((1, []), ((s.ctxChange x 0x03 (le 4 (rd x.body 0 4) ++ le 2 1)).opens x.ref 0).acceptApply x.ref) := by
  rw [runStageApply, if_pos hadmitted]
  refine logged_of_in s hin (owned_of_owns s howner h0 ?_)
  simp only [takeApply, hst, beq_self_eq_true, if_true]
  rfl

/-- A key's entry, where the frame may be written. -/
theorem runConnKey_entry (happlying : s.stage.st ≠ .applying) (hslot : rd x.body 1 1 ≤ 1) {e : StgEntry}
    (he : e = ⟨0x06, rd x.body 0 1 * 2 + rd x.body 1 1, 0, slice x.body 4 16⟩) :
    (s.takesEntry e = true → runConnKey s x =
      okAns [] (s.updStage fun g => { g with entries := stageEntry e g.entries }).afterWrite) ∧
    (s.takesEntry e = false → runConnKey s x = noAns 0x8030 s) := by
  have hkey : keyEntry (rd x.body 0 1) (rd x.body 1 1) (slice x.body 4 16) = e := he.symm
  constructor <;> intro htakes <;>
    simp only [runConnKey, Nat.not_lt.2 hslot, State.writeKey, s.applyingNow_eq_false happlying, hkey, htakes,
      Bool.false_eq_true, if_false, if_true]

end stage

/-- Settles O6: each command of the frame is for its owner and answers by the frame's state. -/
theorem stageCommandsComplete : Obligations.StageCommandsComplete := by
  unfold Obligations.StageCommandsComplete
  intro s mb x
  obtain ⟨t, bs, ht⟩ := s.taken_served mb
  rw [ht]
  refine ⟨fun h hin hfree hsess => h.answersAs rfl ht (logged_of_in _ hin (runStageOpen_taken _ hfree hsess)),
    fun h hin howner => h.answersAs rfl ht (logged_of_in _ hin (runStageOpen_again _ howner)),
    fun h howner h0 happlying h1 h101 hkeys =>
      ⟨fun d hall => h.answersAs rfl ht
          (owned_of_owns _ howner h0 (runStageWrite_entries (s.served t bs) happlying h1 h101 hkeys hall rfl)),
        fun k hall => h.answersAs rfl ht
          (owned_of_owns _ howner h0 (runStageWrite_entries (s.served t bs) happlying h1 h101 hkeys hall rfl))⟩,
    fun h hin howner h0 happlying => h.answersAs rfl ht
      (logged_of_in _ hin (owned_of_owns _ howner h0 (runStageDiscard_discarded _ happlying))),
    fun h hin howner h0 happlying hchecking happly => h.answersAs rfl ht
      (logged_of_in _ hin (owned_of_owns _ howner h0 (runStageCheck_begins _ happlying hchecking happly))),
    fun _ => ⟨rfl, rfl, rfl⟩,
    fun h hrefused => h.answersAs rfl ht (runStageApply_refused _ hrefused),
    fun h hadmitted hin howner h0 hst => h.answersAs rfl ht (runStageApply_accepted _ hadmitted hin howner h0 hst),
    fun h howner h0 happlying hslot e he => ?_⟩
  obtain ⟨htaken, hrefused⟩ := runConnKey_entry (s.served t bs) happlying hslot he
  exact ⟨fun htakes => h.answersAs rfl ht (owned_of_owns _ howner h0 (htaken htakes)),
    fun htakes => h.answersAs rfl ht (owned_of_owns _ howner h0 (hrefused htakes))⟩

end Sys2Proof.Machine
end


section
/-! The update, records, self-test, hedge and operations commands of the mailboxes (10 R293, 12 R358, R359, 14 R398,
15 R412 to R417, 16 R435 to R446). -/

namespace Sys2Proof.Machine

/-! ### The update commands -/

section update
variable (s : State) {x : Ctx} {u : UpdSess}

theorem runActivate_eq : runActivate s x = ((s.appStatus (rd x.body 0 8), []),
    if s.appStatus (rd x.body 0 8) = 0 then s.activateApp x none else s) := by
  unfold runActivate
  by_cases h : s.appStatus (rd x.body 0 8) = 0
  · simp only [h, beq_self_eq_true, if_true, okAns]
  · simp only [beq_iff_eq, h, if_false, noAns]

/-- The update session that UPD_OPEN opens: its number is a fresh value. -/
def State.newUpd (s : State) (x : Ctx) : UpdSess :=
  updSessNew ((s.freshNat 32).1 % (2 ^ 32 - 1) + 1) (rd x.body 0 1) (rd x.body 4 4) x.ref.session
    ((x.body.drop 8).take (rd x.body 2 2))

theorem runUpdOpen_opened (h : s.updOpenStatus x = 0) (hu : u = s.newUpd x) : runUpdOpen s x =
    okAns (le 4 u.id ++ le 4 u.nblock)
      (State.ctxChange (State.updUpd (State.setSlot { s with free := s.free + 1 } u.kind (!s.runSlot u.kind)
          (s.slotOf u.kind (!s.runSlot u.kind)).invalid) fun y => { y with sess := some u, state := 1 }) x 0x30
        (le 1 u.kind ++ le 4 u.size ++ le 4 u.nblock)) := by
  subst hu
  unfold runUpdOpen
  simp only [h, bne_self_eq_false, Bool.false_eq_true, if_false]
  rfl

/-- A command that names the open update session. -/
theorem withUpd_named {f : UpdSess → State → Ctx → Ans × State} {r : Ans × State} (hu : s.upd.sess = some u)
    (hid : u.id = rd x.body 0 4) (hf : f { u with idle := 0 } (s.usedUpd u) x = r) : withUpd f s x = r := by
  have hnamed : s.updNamed x.body = some u := by simp [State.updNamed, hu, hid]
  simp only [withUpd, hnamed]
  exact hf

section data
variable {bytes : Bytes} (hverify : s.upd.verify = none) (hblock : rd x.body 4 4 < u.nblock)
  (hjoin : joinPart u (rd x.body 4 4) (rd x.body 8 4) ((x.body.drop 20).take (rd x.body 12 2)) = some bytes)
include hverify hblock hjoin

theorem takePart_part (hlast : rd x.body 14 2 = 0) : takePart u s x =
    okAns [] (s.putSess { u with part := some (rd x.body 4 4, bytes) }) := by
  simp only [takePart, hverify, Option.isSome_none, Nat.not_le.2 hblock, hjoin, hlast, Bool.false_eq_true, if_false]
  rfl

theorem takePart_last (hlast : rd x.body 14 2 = 1) (hlen : bytes.length = blockLen u.size u.nblock (rd x.body 4 4))
    (hcrc : crc32c bytes = rd x.body 16 4) : takePart u s x =
    okAns [] (((s.setSlot u.kind (!s.runSlot u.kind) ((s.slotOf u.kind (!s.runSlot u.kind)).putBlock (rd x.body 4 4) bytes)).putSess
      (UpdSess.check (rd x.body 4 4) u)).updUpd fun y => { y with state := 1 }) := by
  simp only [takePart, hverify, Option.isSome_none, Nat.not_le.2 hblock, hjoin, hlast, hlen, hcrc, Bool.false_eq_true,
    if_false, beq_self_eq_true, Bool.and_self, if_true]
  rfl

end data

theorem askVerify_begins (hverify : s.upd.verify = none) (hall : ∀ b < u.nblock, b ∈ u.checked) : askVerify u s x =
    ((1, []), (s.opens x.ref 0).updUpd fun y => { y with verify := some x.ref, state := 2 }) := by
  have hchecked : (List.range u.nblock).all u.checked.contains = true := by simpa using hall
  simp only [askVerify, hverify, Option.isSome_none, hchecked, Bool.not_true, Bool.false_eq_true, if_false]
  rfl

section activate
variable (hverify : s.upd.verify = none) (hvalid : (s.slotOf u.kind (!s.runSlot u.kind)).valid = true)
include hverify hvalid

theorem askActivate_firmware {r : Ans × State} (hkind : u.kind = 0) (hr : runFirmware s x = r) : askActivate u s x = r := by
  rw [hkind] at hvalid
  simp only [askActivate, hverify, hkind, hvalid, Option.isSome_none, Bool.not_true, Bool.false_eq_true, if_false]
  exact hr

theorem askActivate_kernel {r : Ans × State} (hkind : u.kind = 1) (hr : runKernel s x = r) : askActivate u s x = r := by
  rw [hkind] at hvalid
  simp only [askActivate, hverify, hkind, hvalid, Option.isSome_none, Bool.not_true, Bool.false_eq_true, if_false]
  exact hr

theorem askActivate_application {r : Ans × State} (hkind : 2 ≤ u.kind) (hr : runAppImage s x = r) : askActivate u s x = r := by
  obtain ⟨k, hk⟩ := Nat.exists_eq_add_of_le' hkind
  rw [hk] at hvalid
  simp only [askActivate, hverify, hk, hvalid, Option.isSome_none, Bool.not_true, Bool.false_eq_true, if_false]
  exact hr

end activate

theorem runFirmware_accepted {b rb : Bool} (hact : s.upd.act = none) (hb : s.upd.fwRun = b) (hrb : s.sessRollback = rb) :
    runFirmware s x = ((1, []),
      ((s.opens x.ref 0).acceptAct x 0 (s.slotOf 0 b).env.imgid (s.slotOf 0 (!b)).env.imgid).updUpd fun y => { y with
        act := some (actNew 0 (!b) (some x.ref) [] [] false y.lm rb), sess := none }) := by
  subst hb hrb
  simp only [runFirmware, hact, Option.isSome_none, Bool.false_eq_true, if_false, Bool.not_not]
  rfl

section kernel
variable {b : Bool} {e : Envelope} (hb : s.runSlot 1 = !b) (he : (s.slotOf 1 b).env = e)
include hb he

theorem runKernel_turns (hlevel : s.upd.lm ≤ e.level) (htc : s.tcTooShort = false)
    (hlatched : ∀ l, (s.lane l).latched = false) :
    runKernel s x = ((1, []), (s.opens x.ref 0).kernelTurns x b e) := by
  have hnone : (Lane.all.any fun l => (s.lane l).latched) = false := by simp [hlatched]
  simp only [runKernel, hb, Bool.not_not, he, Nat.not_lt.2 hlevel, htc, if_false, Bool.false_eq_true]
  exact if_neg (Bool.eq_false_iff.1 hnone)

theorem runKernel_down (hlevel : e.level < s.upd.lm) (hrestart : s.pow.restart = none) :
    runKernel s x = ((1, []), (s.opens x.ref 0).kernelDown x b e) := by
  simp only [runKernel, hb, Bool.not_not, he, hlevel, if_true, hrestart, Option.isSome_none, Bool.false_eq_true, if_false]
  rfl

end kernel

theorem runAppImage_accepted (h : s.appStatus (s.slotOf 2 (!s.upd.appRun)).env.imgid = 0) :
    runAppImage s x = ((1, []), (s.opens x.ref 0).activateApp x (some x.ref)) := by
  simp only [runAppImage, h, bne_self_eq_false, Bool.false_eq_true, if_false]
  rfl

theorem runAppImage_refused (h : s.appStatus (s.slotOf 2 (!s.upd.appRun)).env.imgid ≠ 0) :
    runAppImage s x = noAns (s.appStatus (s.slotOf 2 (!s.upd.appRun)).env.imgid) s := by
  simp only [runAppImage, bne_iff_ne, ne_eq, h, not_false_iff, if_true]

end update

/-- Settles O7: each command answers by its checks on the open session and the idle slot. -/
theorem updateCommandsComplete : Obligations.UpdateCommandsComplete := by
  unfold Obligations.UpdateCommandsComplete
  intro s mb x hlog
  obtain ⟨t, bs, ht⟩ := s.taken_served mb
  rw [ht]
  have hin {f : State → Ctx → Ans × State} {r : Ans × State} (hf : f (s.served t bs) x = r) :
      logged f (s.served t bs) x = r := logged_of_in _ hlog hf
  have hnamed {f : UpdSess → State → Ctx → Ans × State} {r : Ans × State} {u : UpdSess} (hu : s.upd.sess = some u)
      (hid : u.id = rd x.body 0 4) (hf : f { u with idle := 0 } ((s.served t bs).usedUpd u) x = r) :
      withUpd f (s.served t bs) x = r := withUpd_named _ hu hid hf
  refine ⟨fun h => h.answersAs rfl ht (hin (runActivate_eq _)),
    fun h hst => ⟨(s.served t bs).newUpd x, _, _, h.answersAs rfl ht (hin (runUpdOpen_opened (s.served t bs) hst rfl)), rfl,
      rfl, Nat.succ_ne_zero _, rfl, rfl, rfl, rfl, rfl, rfl⟩,
    fun h u bytes hu hid hverify hblock hjoin =>
      ⟨fun hlast => h.answersAs rfl ht (hnamed hu hid (takePart_part _ hverify hblock hjoin hlast)),
        fun hlast hlen hcrc => ⟨_, rfl, h.answersAs rfl ht
          (hnamed hu hid (takePart_last _ hverify hblock hjoin hlast hlen hcrc))⟩⟩,
    fun h u hu hid hverify hall => h.answersAs rfl ht (hin (hnamed hu hid (askVerify_begins _ hverify hall))),
    ?activate, fun h u hu hid => h.answersAs rfl ht (hin (hnamed hu hid rfl))⟩
  intro h u hu hid hverify hvalid
  let d : State := (s.served t bs).usedUpd u
  have hdone {st : Nat} {s' : State} (hr : askActivate { u with idle := 0 } d x = ((st, []), s')) :
      Answers (.updActivate mb) s mb st [] s' := h.answersAs rfl ht (hin (hnamed hu hid hr))
  refine ⟨d, rfl, fun hkind hact => ⟨_, rfl, hdone ?firmware⟩, fun hkind hlevel htc hlatched => hdone ?turns,
    fun hkind hlevel hrestart => hdone ?down, fun hkind => ⟨_, rfl, ?application⟩⟩
  case firmware =>
    exact askActivate_firmware d (u := { u with idle := 0 }) hverify hvalid hkind
      (runFirmware_accepted d (b := s.upd.fwRun) (rb := u.rollback) hact rfl rfl)
  case turns =>
    exact askActivate_kernel d (u := { u with idle := 0 }) hverify hvalid hkind
      (runKernel_turns d (b := !s.runSlot 1) (Bool.not_not _).symm rfl hlevel htc hlatched)
  case down =>
    exact askActivate_kernel d (u := { u with idle := 0 }) hverify hvalid hkind
      (runKernel_down d (b := !s.runSlot 1) (Bool.not_not _).symm rfl hlevel hrestart)
  case application =>
    split
    · next hst => exact hdone (askActivate_application d (u := { u with idle := 0 }) hverify hvalid hkind
        (runAppImage_accepted d hst))
    · next hst => exact hdone (askActivate_application d (u := { u with idle := 0 }) hverify hvalid hkind
        (runAppImage_refused d hst))

/-! ### The records, self-test and hedge commands -/

/-- A request in service leaves a self-test in hand or none, as there was. -/
theorem State.taken_test (s : State) (mb : Nat) : (s.taken mb).be.test = s.be.test ∨
    (s.taken mb).be.test = s.be.test.map fun t => { t with asked := s.time.ot } := by
  show (s.grantFirst .service).be.test = _ ∨ (s.grantFirst .service).be.test = _
  unfold State.grantFirst
  split
  · exact .inr rfl
  · exact .inl rfl

theorem State.taken_test_none {s : State} {mb : Nat} (h : s.be.test = none) : (s.taken mb).be.test = none := by
  obtain he | he := s.taken_test mb <;> rw [he, h]
  rfl

theorem State.taken_test_any (s : State) (mb : Nat) {p : TestSt → Bool} (hp : ∀ t ot, p { t with asked := ot } = p t) :
    (s.taken mb).be.test.any p = s.be.test.any p := by
  obtain he | he := s.taken_test mb
  · rw [he]
  · rw [he, Option.any_map]
    exact congrArg (s.be.test.any ·) (funext fun t => hp t _)

theorem State.taken_testIs (s : State) (mb id target : Nat) : (s.taken mb).testIs id target = s.testIs id target :=
  s.taken_test_any mb fun _ _ => rfl

theorem State.taken_itemUnder (s : State) (mb kind index : Nat) :
    (s.taken mb).itemUnder kind index = s.itemUnder kind index := by
  have hany := s.taken_test_any mb (p := fun t => t.running && testTarget t.id == 1 && t.target == index) fun _ _ => rfl
  obtain ⟨t, bs, ht⟩ := s.taken_served mb
  rw [ht] at hany ⊢
  unfold State.itemUnder
  split
  · rfl
  · exact hany
  · rfl

section records
variable (s : State) {x : Ctx}

theorem runRecOpen_opened {log : Log} (hlog : logOfCode (rd x.body 0 1) = some log) : runRecOpen s x =
    okAns (le 8 (s.recs.hwm log)) { s with recs := { s.recs with cursor := some ⟨log, x.ref.session,
      nextSeq (s.recs.recsOf log) (rd x.body 4 8) (s.recs.hwm log), s.recs.hwm log, 0⟩ } } := by
  simp only [runRecOpen, hlog]
  rfl

theorem runRecNext_batch {k : Cursor} (hk : s.recs.cursor = some k) (hsess : k.session = x.ref.session)
    (hsize : recSize k.log ≤ rd x.body 0 4) (hmax : rd x.body 0 4 ≤ 65536) :
    runRecNext s x = s.nextBatch k (rd x.body 0 4) := by
  have hbounds : (decide (65536 < rd x.body 0 4) || decide (rd x.body 0 4 < recSize k.log)) = false := by
    simp only [Bool.or_eq_false_iff, decide_eq_false_iff_not]
    omega
  simp only [runRecNext, hk, hsess, bne_self_eq_false, hbounds, Bool.false_eq_true, if_false]

theorem State.testFsv_qtyBytes (id target fsv : Nat) : (s.testFsv id target).2.qtyBytes fsv = s.qtyBytes fsv := by
  unfold State.testFsv
  split <;> rfl

theorem runTestRun_accepted (h0 : rd x.body 0 2 ≠ 0) (h8 : rd x.body 0 2 ≤ 8)
    (htarget : s.targetOk (rd x.body 0 2) (rd x.body 2 2) = true) (hfree : s.be.test = none)
    (hlane : s.laneBusy (rd x.body 0 2) (rd x.body 2 2) = false)
    (hqty : s.badQty s.be.q (rd x.body 0 2) (rd x.body 2 2) = none) {e : Nat × State}
    (he : e = s.testFsv (rd x.body 0 2) (rd x.body 2 2)) {d : State} (hd : d = e.2.ctxChange x 0x20 (x.body ++ s.qtyBytes e.1)) :
    runTestRun s x = ((1, []), State.opens
      { d with be := { d.be with test := some (testNew (rd x.body 0 2) (rd x.body 2 2) x.ref s.time.ot) } } x.ref (rd x.body 2 2)) := by
  subst he hd
  have hid : (rd x.body 0 2 == 0 || decide (8 < rd x.body 0 2) || !s.targetOk (rd x.body 0 2) (rd x.body 2 2)) = false := by
    simp [h0, Nat.not_lt.2 h8, htarget]
  have hot : ((s.testFsv (rd x.body 0 2) (rd x.body 2 2)).2.ctxChange x 0x20
      (x.body ++ s.qtyBytes (s.testFsv (rd x.body 0 2) (rd x.body 2 2)).1)).time.ot = s.time.ot :=
    State.time_ot_of_fixed ((State.ctxChange_fixed ..).trans (State.testFsv_fixed ..))
  simp only [runTestRun, hid, hfree, hlane, hqty, s.testFsv_qtyBytes, hot, Option.isSome_none, Bool.or_self,
    Bool.false_eq_true, if_false]
  rfl

theorem runTestAbort_aborted (h : s.testIs (rd x.body 0 2) (rd x.body 2 2) = true) :
    runTestAbort s x = okAns [] (s.abandonTest 0x80B0 2) := by
  simp only [runTestAbort, h, if_true]

section hedge
variable (h1 : 1 ≤ rd x.body 0 1) (h5 : rd x.body 0 1 ≤ 5) (hlatched : s.releasable (rd x.body 0 1) (rd x.body 2 2) = true)
  (hunder : s.itemUnder (rd x.body 0 1) (rd x.body 2 2) = false)
  (hrel : s.releasing (rd x.body 0 1) (rd x.body 2 2) = false)
include h1 h5 hlatched hunder hrel

theorem runHedgeRelease_accepted : runHedgeRelease s x =
    ((1, []), if s.needsTest (rd x.body 0 1) (rd x.body 2 2)
      then (s.opens x.ref (rd x.body 2 2)).relDone (rd x.body 0 1) (rd x.body 2 2) x.ref 0x8070
      else (s.opens x.ref (rd x.body 2 2)).beginRelease (rd x.body 0 1) (rd x.body 2 2) x.ref) := by
  have hkind : (rd x.body 0 1 == 0 || decide (5 < rd x.body 0 1)) = false := by
    simp only [Bool.or_eq_false_iff, beq_eq_false_iff_ne, decide_eq_false_iff_not]
    omega
  have haccepted : s.accepted x (rd x.body 2 2) = ((1, []), s.opens x.ref (rd x.body 2 2)) := rfl
  have hneeds : (s.opens x.ref (rd x.body 2 2)).needsTest (rd x.body 0 1) (rd x.body 2 2) =
    s.needsTest (rd x.body 0 1) (rd x.body 2 2) := rfl
  simp only [runHedgeRelease, hkind, hlatched, hunder, hrel, haccepted, hneeds, Bool.not_true, Bool.false_eq_true, if_false]
  exact (apply_ite (fun d : State => (((1, []), d) : Ans × State)) _ _ _).symm

end hedge

end records

/-- Settles O8: the cursor's, the test's and the release's own checks pass, and its effect follows. -/
theorem recordTestHedgeComplete : Obligations.RecordTestHedgeComplete := by
  unfold Obligations.RecordTestHedgeComplete
  intro s mb x
  have hnone := State.taken_test_none (s := s) (mb := mb)
  have htestIs := s.taken_testIs mb (rd x.body 0 2) (rd x.body 2 2)
  have hitem := s.taken_itemUnder mb (rd x.body 0 1) (rd x.body 2 2)
  obtain ⟨t, bs, ht⟩ := s.taken_served mb
  rw [ht] at hnone htestIs hitem ⊢
  have hin {f : State → Ctx → Ans × State} {r : Ans × State} (h : s.changeOut = false) (hf : f (s.served t bs) x = r) :
      logged f (s.served t bs) x = r := logged_of_in _ h hf
  refine ⟨fun h log hlog => h.answersAs rfl ht (runRecOpen_opened (s.served t bs) hlog),
    fun h k hk hsess hsize hmax => ⟨_, _, _, rfl, rfl, rfl,
      h.answersAs rfl ht (runRecNext_batch (s.served t bs) hk hsess hsize hmax)⟩,
    fun h => h.answersAs rfl ht rfl,
    fun h hlog h0 h8 htarget hfree hlane hqty => ⟨_, _, rfl, rfl, h.answersAs rfl ht
      (hin hlog (runTestRun_accepted (s.served t bs) h0 h8 htarget (hnone hfree) hlane hqty rfl rfl))⟩,
    fun h hlog his => h.answersAs rfl ht (hin hlog (runTestAbort_aborted _ (htestIs.trans his))),
    fun h hlog h1 h5 hlatched hunder hrel hneeds => h.answersAs rfl ht
      (hin hlog ((runHedgeRelease_accepted (s.served t bs) h1 h5 hlatched (hitem.trans hunder) hrel).trans ?_)),
    fun h hlog h1 h5 hlatched hunder hrel hneeds => h.answersAs rfl ht
      (hin hlog ((runHedgeRelease_accepted (s.served t bs) h1 h5 hlatched (hitem.trans hunder) hrel).trans ?_))⟩
  · exact congrArg (Prod.mk _) (if_neg (Bool.eq_false_iff.1 hneeds))
  · exact congrArg (Prod.mk _) (if_pos hneeds)

/-! ### One-step operations commands -/

section operations
variable {s : State} {mb : Nat} {x : Ctx} {resv : List (Nat × Nat)} {ok : Bytes → Bool} {k : Bytes → OpKind} {i : Instr} {code : Nat}

/-- An operations command in its bounds is queued while there is room. -/
theorem Admitted.queuesOp (h : Admitted s mb code (opCmd resv ok k) x)
    (he : exec i s = .next (s.serveCmd mb code (opCmd resv ok k))) (hroom : s.trl.ops.length < 256) (hok : ok x.body = true) :
    Answers i s mb 1 [] (opQueued s mb x (rd x.body 0 2) (k x.body)) := by
  obtain ⟨t, bs, ht⟩ := s.taken_served mb
  have hfull : (s.served t bs).opsFull = false := decide_eq_false (Nat.not_le.2 hroom)
  refine h.answersAs he ht ?_
  simp only [opCmd, hok, hfull, opQueued, ht, Bool.not_true, Bool.false_eq_true, if_false]
  rfl

end operations

/-- Settles O9: five commands of one form. -/
theorem operationsQueued : Obligations.OperationsQueued := by
  unfold Obligations.OperationsQueued
  intro s mb x hroom
  exact ⟨fun h => h.queuesOp rfl hroom rfl, fun h => h.queuesOp rfl hroom rfl,
    fun h hauto => h.queuesOp rfl hroom (decide_eq_true hauto), fun h => h.queuesOp rfl hroom rfl,
    fun h => h.queuesOp rfl hroom rfl⟩

end Sys2Proof.Machine
end


section
/-! Two-step commands (12 R357), and the time, pair, bridge, tunnel and force commands of the mailboxes (09 R279, 11 R331,
13 R363, R364, R376, R382, 14 R387 to R389). -/

namespace Sys2Proof.Machine

/-! ### First and second steps -/

section steps
variable (s : State) {mb : Nat} {x : Ctx} {i : Instr} {off code : Nat}

/-- A pending first step that this second step repeats, in the window where the command has one. -/
def State.Confirms (s : State) (x : Ctx) (off : Nat) (window : Bool) : Prop :=
  ∃ f ∈ s.mail.steps, Repeats x off f ∧ (window = true → f.givenAt + 2000 ≤ s.time.ot ∧ s.time.ot ≤ f.givenAt + 30000)

theorem State.secondStep_eq (window : Bool) : s.secondStep x off window = ((s.secondStep x off window).1, s.dropStep x) := rfl

theorem State.secondStep_iff (window : Bool) : (s.secondStep x off window).1 = true ↔ s.Confirms x off window := by
  simp only [State.secondStep, List.any_eq_true, State.Confirms, Repeats, sameStep, plainBody, Bool.and_eq_true, beq_iff_eq,
    Bool.or_eq_true, Bool.not_eq_true', decide_eq_true_eq]
  refine exists_congr fun f => and_congr_right fun _ => ?_
  cases window <;> simp [and_assoc]

theorem State.secondStep_confirmed {window : Bool} (h : s.Confirms x off window) :
    s.secondStep x off window = (true, s.dropStep x) := by
  rw [s.secondStep_eq, (s.secondStep_iff window).2 h]

theorem State.secondStep_other {window : Bool} (h : ¬ s.Confirms x off window) :
    s.secondStep x off window = (false, s.dropStep x) := by
  rw [s.secondStep_eq, Bool.eq_false_iff.2 (mt (s.secondStep_iff window).1 h)]

/-- A first step pending, with its fresh code. -/
def State.pendStep (s : State) (x : Ctx) (off code : Nat) : State :=
  State.updMail { s.dropStep x with free := s.free + 1 } fun m => { m with
    steps := m.steps ++ [⟨x.ref.session, x.ref.cmd, x.body.take off ++ x.body.drop (off + 2), code, s.time.ot⟩] }

theorem State.firstStep_eq : ∃ code, 1 ≤ code ∧ code < 2 ^ 16 ∧ s.firstStep x off = (code, s.pendStep x off code) := by
  refine ⟨_, Nat.succ_pos _, ?_, rfl⟩
  have hmod := Nat.mod_lt (Config.freeValue s.free).toNat (show 0 < 2 ^ 16 - 1 by decide)
  show (Config.freeValue s.free).toNat % (2 ^ 16 - 1) + 1 < 2 ^ 16
  omega

end steps

/-! ### The two-step commands -/

section twostep
variable (s : State) {x : Ctx} {code : Nat}

theorem State.opsFull_eq_false (h : s.trl.ops.length < 256) : s.opsFull = false := decide_eq_false (Nat.not_le.2 h)

theorem State.opsFull_eq_true (h : 256 ≤ s.trl.ops.length) : s.opsFull = true := decide_eq_true h

theorem State.secondOp_full {window : Bool} {k : OpKind} (h : 256 ≤ s.trl.ops.length) :
    s.secondOp x window k = noAns 0x80B0 s := by
  simp only [State.secondOp, s.opsFull_eq_true h, if_true]

theorem State.secondOp_confirmed {window : Bool} {k : OpKind} (hroom : s.trl.ops.length < 256) (h : s.Confirms x 4 window) :
    s.secondOp x window k = ((1, []), ((s.dropStep x).queueOp x (rd x.body 0 2) k).2) := by
  simp only [State.secondOp, s.opsFull_eq_false hroom, s.secondStep_confirmed h, if_true, Bool.false_eq_true, if_false]
  rfl

theorem State.secondOp_other {window : Bool} {k : OpKind} (hroom : s.trl.ops.length < 256) (h : ¬ s.Confirms x 4 window) :
    s.secondOp x window k = noAns 0x8004 (s.dropStep x) := by
  simp only [State.secondOp, s.opsFull_eq_false hroom, s.secondStep_other h, Bool.false_eq_true, if_false]

section emergency

theorem runEmergRelease_first (htwo : x.two = false) (hcode : rd x.body 4 2 = 0)
    (hstep : s.firstStep x 4 = (code, s.pendStep x 4 code)) :
    runEmergRelease s x = okAns (le 2 code) (s.pendStep x 4 code) := by
  simp only [runEmergRelease, htwo, hcode, hstep, bne_self_eq_false, Bool.false_eq_true, if_false]

theorem runEmergRelease_coded (htwo : x.two = false) (hcode : rd x.body 4 2 ≠ 0) :
    runEmergRelease s x = noAns 0x8070 s := by
  simp only [runEmergRelease, htwo, bne_iff_ne, ne_eq, hcode, not_false_iff, if_true, Bool.false_eq_true, if_false]

theorem runEmergRelease_second (htwo : x.two = true) :
    runEmergRelease s x = s.secondOp x true (.emergRelease (rd x.body 0 2)) := by
  simp only [runEmergRelease, htwo, if_true]

end emergency

section axle

theorem runAxleReset_arms (htwo : x.two = false) (hcode : rd x.body 4 2 = 0) (hroom : s.trl.ops.length < 256) :
    runAxleReset s x = ((1, []), ((s.dropStep x).queueOp x (rd x.body 0 2) (.axleArm (rd x.body 0 2))).2) := by
  simp only [runAxleReset, htwo, hcode, s.opsFull_eq_false hroom, bne_self_eq_false, Bool.false_eq_true, if_false]
  rfl

theorem runAxleReset_coded (htwo : x.two = false) (hcode : rd x.body 4 2 ≠ 0) : runAxleReset s x = noAns 0x8070 s := by
  simp only [runAxleReset, htwo, bne_iff_ne, ne_eq, hcode, not_false_iff, if_true, Bool.false_eq_true, if_false]

theorem runAxleReset_second (htwo : x.two = true) :
    runAxleReset s x = s.secondOp x false (.axleReset (rd x.body 0 2)) := by
  simp only [runAxleReset, htwo, if_true]

theorem runAxleReset_full (h : x.two = true ∨ rd x.body 4 2 = 0) (hfull : 256 ≤ s.trl.ops.length) :
    runAxleReset s x = noAns 0x80B0 s := by
  cases htwo : x.two
  case true => rw [runAxleReset_second s htwo, s.secondOp_full hfull]
  case false =>
    have hcode : rd x.body 4 2 = 0 := h.resolve_left (by simp [htwo])
    simp only [runAxleReset, htwo, hcode, s.opsFull_eq_true hfull, bne_self_eq_false, Bool.false_eq_true, if_false, if_true]

end axle

section assume

theorem runColdAssume_first (htwo : x.two = false) (hcode : rd x.body 0 2 = 0)
    (hstep : s.firstStep x 0 = (code, s.pendStep x 0 code)) :
    runColdAssume s x = okAns (le 2 code) (s.pendStep x 0 code) := by
  simp only [runColdAssume, htwo, hcode, hstep, bne_self_eq_false, Bool.false_eq_true, if_false]

theorem runColdAssume_coded (htwo : x.two = false) (hcode : rd x.body 0 2 ≠ 0) : runColdAssume s x = noAns 0x8070 s := by
  simp only [runColdAssume, htwo, bne_iff_ne, ne_eq, hcode, not_false_iff, if_true, Bool.false_eq_true, if_false]

theorem runColdAssume_busy (htwo : x.two = true) (h : s.pair.assume ≠ none) : runColdAssume s x = noAns 0x80B0 s := by
  simp only [runColdAssume, htwo, Option.isSome_iff_ne_none.2 h, if_true]

theorem runColdAssume_confirmed (htwo : x.two = true) (h : s.pair.assume = none) (hstep : s.Confirms x 0 true) :
    runColdAssume s x = ((1, []), ((s.dropStep x).opens x.ref 0).updPair fun p => { p with assume := some x.ref }) := by
  simp only [runColdAssume, htwo, h, s.secondStep_confirmed hstep, Option.isSome_none, if_true, Bool.false_eq_true, if_false]
  rfl

theorem runColdAssume_other (htwo : x.two = true) (h : s.pair.assume = none) (hstep : ¬ s.Confirms x 0 true) :
    runColdAssume s x = noAns 0x8004 (s.dropStep x) := by
  simp only [runColdAssume, htwo, h, s.secondStep_other hstep, Option.isSome_none, if_true, Bool.false_eq_true, if_false]

end assume

section force

theorem runForceClear_unknown (h : rd x.body 0 1 = 0 ∨ 4 < rd x.body 0 1) : runForceClear s x = noAns 0x8070 s := by
  have hkind : (rd x.body 0 1 == 0 || decide (4 < rd x.body 0 1)) = true := by simpa using h
  simp only [runForceClear, hkind, if_true]

theorem runForceClear_coded (htwo : x.two = false) (hcode : rd x.body 8 2 ≠ 0) : runForceClear s x = noAns 0x8070 s := by
  simp only [runForceClear, htwo, bne_iff_ne, ne_eq, hcode, not_false_iff, if_true, Bool.false_eq_true, if_false]
  exact ite_self _

variable (h1 : 1 ≤ rd x.body 0 1) (h4 : rd x.body 0 1 ≤ 4)
include h1 h4

theorem forceKind_ok : (rd x.body 0 1 == 0 || decide (4 < rd x.body 0 1)) = false := by
  simp only [Bool.or_eq_false_iff, beq_eq_false_iff_ne, decide_eq_false_iff_not]
  omega

theorem runForceClear_first (htwo : x.two = false) (hcode : rd x.body 8 2 = 0)
    (hstands : s.forceStands (rd x.body 0 1) (rd x.body 4 4) = true)
    (hstep : s.firstStep x 8 = (code, s.pendStep x 8 code)) :
    runForceClear s x = okAns (le 2 code) (s.pendStep x 8 code) := by
  simp only [runForceClear, forceKind_ok h1 h4, htwo, hcode, hstands, hstep, bne_self_eq_false, Bool.not_true,
    Bool.false_eq_true, if_false]

theorem runForceClear_absent (htwo : x.two = false) (hcode : rd x.body 8 2 = 0)
    (hstands : s.forceStands (rd x.body 0 1) (rd x.body 4 4) = false) : runForceClear s x = noAns 0x8080 s := by
  simp only [runForceClear, forceKind_ok h1 h4, htwo, hcode, hstands, bne_self_eq_false, Bool.not_false, if_true,
    Bool.false_eq_true, if_false]

theorem runForceClear_confirmed (htwo : x.two = true) (hstep : s.Confirms x 8 true)
    (hstands : s.forceStands (rd x.body 0 1) (rd x.body 4 4) = true) : runForceClear s x =
    ((1, []), ((s.dropStep x).queueForce x ⟨x.ref, false, rd x.body 0 1, 0, rd x.body 4 4⟩).2) := by
  have hstill : (s.dropStep x).forceStands (rd x.body 0 1) (rd x.body 4 4) = true := hstands
  simp only [runForceClear, forceKind_ok h1 h4, htwo, s.secondStep_confirmed hstep, hstill, Bool.not_true, if_true,
    Bool.false_eq_true, if_false]
  rfl

theorem runForceClear_confirmed_absent (htwo : x.two = true) (hstep : s.Confirms x 8 true)
    (hstands : s.forceStands (rd x.body 0 1) (rd x.body 4 4) = false) :
    runForceClear s x = noAns 0x8080 (s.dropStep x) := by
  have hstill : (s.dropStep x).forceStands (rd x.body 0 1) (rd x.body 4 4) = false := hstands
  simp only [runForceClear, forceKind_ok h1 h4, htwo, s.secondStep_confirmed hstep, hstill, Bool.not_true, Bool.not_false,
    if_true, Bool.false_eq_true, if_false]

theorem runForceClear_other (htwo : x.two = true) (hstep : ¬ s.Confirms x 8 true) :
    runForceClear s x = noAns 0x8004 (s.dropStep x) := by
  simp only [runForceClear, forceKind_ok h1 h4, htwo, s.secondStep_other hstep, Bool.not_false, if_true, Bool.false_eq_true,
    if_false]

end force

end twostep

section settle
variable {s : State} {mb code off : Nat} {x : Ctx} {c : Cmd} {i : Instr} {t : Option TestSt} {bs : List Mbox}

theorem State.confirms_of_window (h : ∃ f ∈ s.mail.steps, Repeats x off f ∧ f.givenAt + 2000 ≤ s.time.ot ∧
    s.time.ot ≤ f.givenAt + 30000) : (s.served t bs).Confirms x off true := by
  obtain ⟨f, hf, hrep, hwin⟩ := h
  exact ⟨f, hf, hrep, fun _ => hwin⟩

theorem State.not_confirms_of_window (h : ∀ f ∈ s.mail.steps, ¬ (Repeats x off f ∧ f.givenAt + 2000 ≤ s.time.ot ∧
    s.time.ot ≤ f.givenAt + 30000)) : ¬ (s.served t bs).Confirms x off true :=
  fun ⟨f, hf, hrep, hwin⟩ => h f hf ⟨hrep, hwin rfl⟩

theorem State.confirms_of_repeats (h : ∃ f ∈ s.mail.steps, Repeats x off f) : (s.served t bs).Confirms x off false := by
  obtain ⟨f, hf, hrep⟩ := h
  exact ⟨f, hf, hrep, nofun⟩

theorem State.not_confirms_of_repeats (h : ∀ f ∈ s.mail.steps, ¬ Repeats x off f) :
    ¬ (s.served t bs).Confirms x off false := fun ⟨f, hf, hrep, _⟩ => h f hf hrep

/-- A first step whose command pends it with its fresh code. -/
theorem Admitted.firstStepOf (h : Admitted s mb code c x) (he : exec i s = .next (s.serveCmd mb code c))
    (ht : s.taken mb = s.served t bs)
    (hr : ∀ n, (s.served t bs).firstStep x off = (n, (s.served t bs).pendStep x off n) →
      c.run (s.served t bs) x = okAns (le 2 n) ((s.served t bs).pendStep x off n)) : FirstStepOf i s mb x off := by
  obtain ⟨n, h1, hn, hstep⟩ := (s.served t bs).firstStep_eq (x := x) (off := off)
  refine ⟨n, h1, hn, h.answersAs he ht ?_⟩
  rw [hr n hstep, stepDropped, ht]
  rfl

end settle

/-- Settles O10: each command pends its first step, or judges its second by the steps pending. -/
theorem twoStepCommandsComplete : Obligations.TwoStepCommandsComplete := by
  unfold Obligations.TwoStepCommandsComplete
  refine ⟨fun s mb x hroom hlog => ?_, fun s mb x => ?_⟩ <;> obtain ⟨t, bs, ht⟩ := s.taken_served mb
  · have hin {f : State → Ctx → Ans × State} {r : Ans × State} (hf : f (s.served t bs) x = r) :
        logged f (s.served t bs) x = r := logged_of_in _ hlog hf
    simp only [stepDropped, ht]
    refine ⟨fun h => ⟨fun htwo hcode => h.firstStepOf rfl ht fun n => runEmergRelease_first _ htwo hcode,
        fun htwo hstep => h.answersAs rfl ht ((runEmergRelease_second _ htwo).trans
          (State.secondOp_confirmed _ hroom (State.confirms_of_window hstep))),
        fun htwo hstep => h.answersAs rfl ht ((runEmergRelease_second _ htwo).trans
          (State.secondOp_other _ hroom (State.not_confirms_of_window hstep)))⟩,
      fun h => ⟨fun htwo hcode => h.answersAs rfl ht (runAxleReset_arms (s.served t bs) htwo hcode hroom),
        fun htwo hstep => h.answersAs rfl ht ((runAxleReset_second _ htwo).trans
          (State.secondOp_confirmed _ hroom (State.confirms_of_repeats hstep))),
        fun htwo hstep => h.answersAs rfl ht ((runAxleReset_second _ htwo).trans
          (State.secondOp_other _ hroom (State.not_confirms_of_repeats hstep)))⟩,
      fun h hassume => ⟨fun htwo hcode => h.firstStepOf rfl ht fun n hstep => hin (runColdAssume_first _ htwo hcode hstep),
        fun htwo hstep => h.answersAs rfl ht (hin (runColdAssume_confirmed _ htwo hassume (State.confirms_of_window hstep))),
        fun htwo hstep => h.answersAs rfl ht
          (hin (runColdAssume_other _ htwo hassume (State.not_confirms_of_window hstep)))⟩,
      fun h h1 h4 hstands =>
        ⟨fun htwo hcode => h.firstStepOf rfl ht fun n hstep => hin (runForceClear_first _ h1 h4 htwo hcode hstands hstep),
        fun htwo hstep => h.answersAs rfl ht
          (hin (runForceClear_confirmed _ h1 h4 htwo (State.confirms_of_window hstep) hstands)),
        fun htwo hstep => h.answersAs rfl ht
          (hin (runForceClear_other _ h1 h4 htwo (State.not_confirms_of_window hstep)))⟩⟩
  · have hin {f : State → Ctx → Ans × State} {r : Ans × State} (h : s.changeOut = false) (hf : f (s.served t bs) x = r) :
        logged f (s.served t bs) x = r := logged_of_in _ h hf
    have hout {f : State → Ctx → Ans × State} (h : s.changeOut = true ∨ f (s.served t bs) x = noAns 0x8070 (s.served t bs)) :
        logged f (s.served t bs) x = noAns 0x8070 (s.served t bs) := logged_of_refused _ h
    simp only [stepDropped, ht]
    refine ⟨fun h => ⟨fun htwo hcode => h.answersAs rfl ht (runEmergRelease_coded _ htwo hcode),
        fun htwo hfull => h.answersAs rfl ht ((runEmergRelease_second _ htwo).trans (State.secondOp_full _ hfull))⟩,
      fun h => ⟨fun htwo hcode => h.answersAs rfl ht (runAxleReset_coded _ htwo hcode),
        fun hasked hfull => h.answersAs rfl ht (runAxleReset_full (s.served t bs) hasked hfull)⟩,
      fun h => ⟨fun hlog => h.answersAs rfl ht (hout (.inl hlog)),
        fun htwo hcode => h.answersAs rfl ht (hout (.inr (runColdAssume_coded _ htwo hcode))),
        fun hlog htwo hbusy => h.answersAs rfl ht (hin hlog (runColdAssume_busy _ htwo hbusy)),
        fun hlog htwo hcode => h.firstStepOf rfl ht fun n hstep => hin hlog (runColdAssume_first _ htwo hcode hstep)⟩,
      fun h => ⟨fun hbad => h.answersAs rfl ht (hout (hbad.imp_right (runForceClear_unknown _))),
        fun htwo hcode => h.answersAs rfl ht (hout (.inr (runForceClear_coded _ htwo hcode))),
        fun hlog h1 h4 hstands =>
          ⟨fun htwo hcode => h.answersAs rfl ht (hin hlog (runForceClear_absent _ h1 h4 htwo hcode hstands)),
          fun htwo hstep => h.answersAs rfl ht
            (hin hlog (runForceClear_confirmed_absent _ h1 h4 htwo (State.confirms_of_window hstep) hstands))⟩⟩⟩

end Sys2Proof.Machine
end


section
/-! The time, pair, bridge, tunnel and force commands of the mailboxes (09 R279, 11 R331, 13 R363, R364, R376, R382, 14 R387 to
R389), and what a finished command leaves in its mailbox (12 R348, R351). -/

namespace Sys2Proof.Machine

/-! ### Time, pair, bridge, tunnel and force -/

section commands
variable (s : State) {x : Ctx}

theorem runTimeSet_set (hwt : rd x.body 0 8 < 2 ^ 48) (hlock : ¬ (s.time.source = 1 ∧ s.time.lock = true)) :
    runTimeSet s x = okAns [] ((s.setWt (rd x.body 0 8) 0 x.ref.cred x.ref.session x.ep x.ref.cmd).updTime
      fun t => { t with wtvalid := true }) := by
  have hfree : (s.time.source == 1 && s.time.lock) = false := by simpa using hlock
  simp only [runTimeSet, Nat.not_le.2 hwt, hfree, Bool.false_eq_true, if_false]

theorem runTimeSource_same (h1 : rd x.body 0 1 ≤ 1) (h : rd x.body 0 1 = s.time.source) : runTimeSource s x = okAns [] s := by
  simp only [runTimeSource, Nat.not_lt.2 h1, if_false]
  exact if_pos (beq_iff_eq.2 h)

theorem runTimeSource_other (h1 : rd x.body 0 1 ≤ 1) (h : rd x.body 0 1 ≠ s.time.source) : runTimeSource s x =
    okAns [] ((s.ctxChange x 0x11 (le 1 s.time.source ++ le 1 (rd x.body 0 1))).updTime fun t =>
      { t with source := rd x.body 0 1, lock := false, good := 0, synced := none, slew := 0, master := none }) := by
  simp only [runTimeSource, Nat.not_lt.2 h1, if_false]
  exact (if_neg (mt beq_iff_eq.1 h)).trans rfl

theorem runHandover_asked (hstep : s.partnerInStep = true) (hfree : s.pair.handover = none) : runHandover s x =
    ((1, []), (s.opens x.ref 0).updPair fun p => { p with relinq := true, handover := some x.ref }) := by
  simp only [runHandover, hstep, hfree, Option.isSome_none, Bool.not_true, Bool.or_self, Bool.false_eq_true, if_false]
  rfl

theorem runForceSet_queued (h1 : 1 ≤ rd x.body 0 1) (h4 : rd x.body 0 1 ≤ 4) : runForceSet s x =
    ((1, []), (s.queueForce x ⟨x.ref, true, rd x.body 0 1, rd x.body 1 1, rd x.body 4 4⟩).2) := by
  simp only [runForceSet, forceKind_ok h1 h4, Bool.false_eq_true, if_false]
  rfl

section window

/-- A change-log record changes no window and nothing that a window is checked by. -/
theorem State.ctxChange_takenWindow (kind n : Nat) (b body : Bytes) :
    (s.ctxChange x kind b).takenWindow n body = s.takenWindow n body := by
  obtain ⟨heq, -⟩ := OnlyRecs.ctxChange s x kind b
  exact (congrArg (fun d : State => d.takenWindow n body) heq).trans rfl

/-- ENABLE of a descriptor read is a bit of the request alone. -/
theorem wEnable_readWindow (old old' : Window) (b : Bytes) : wEnable (readWindow old b) = wEnable (readWindow old' b) := rfl

theorem State.takenWindow_disabled (n : Nat) (b : Bytes) (old : Window) (h : wEnable (readWindow old b) = false) :
    wEnable (s.takenWindow n b) = false := by
  unfold State.takenWindow
  dsimp only
  split
  · exact h
  · simp [wEnable]

theorem runWindowSet_enabled (hn : rd x.body 0 1 < 64)
    (hok : s.windowOk (readWindow (s.window (rd x.body 0 1)) x.body) = true) (hfree : s.windowBusy (rd x.body 0 1) = false)
    (henable : wEnable (readWindow (s.window (rd x.body 0 1)) x.body) = true) : runWindowSet s x =
    okAns [] ((s.ctxChange x 0x17 (le 1 (rd x.body 0 1) ++ slice x.body 4 16)).updBridge fun b =>
      { b with windows := b.windows.set (rd x.body 0 1) (readWindow (s.window (rd x.body 0 1)) x.body) }) := by
  have htaken : s.takenWindow (rd x.body 0 1) x.body = readWindow (s.window (rd x.body 0 1)) x.body := if_pos hok
  simp only [runWindowSet, Nat.not_le.2 hn, henable, hok, hfree, Bool.not_true, Bool.and_false, Bool.false_eq_true, if_false,
    s.ctxChange_takenWindow, htaken]
  rfl

theorem runWindowSet_disabled (hn : rd x.body 0 1 < 64) (hold : wEnable (s.window (rd x.body 0 1)) = true)
    (hclear : wEnable (readWindow (s.window (rd x.body 0 1)) x.body) = false) {d : State}
    (hd : d = (s.closeWindow (rd x.body 0 1)).ctxChange x 0x17 (le 1 (rd x.body 0 1) ++ slice x.body 4 16)) :
    runWindowSet s x = okAns [] (d.updBridge fun b =>
      { b with windows := b.windows.set (rd x.body 0 1) (d.takenWindow (rd x.body 0 1) x.body) }) := by
  subst hd
  simp only [runWindowSet, Nat.not_le.2 hn, hold, hclear, Bool.not_true, Bool.not_false, Bool.and_self, Bool.false_and,
    Bool.false_eq_true, if_false, if_true]
  rfl

end window

theorem runTunnelSet_changed (hn : rd x.body 0 1 < 16) {old t : Tunnel} (hold : old = s.tunnel (rd x.body 0 1))
    (ht : t = readTunnel old x.body) (hok : s.tunnelOk (rd x.body 0 1) t = true) (hne : t ≠ old) {d : State}
    (hd : d = s.ctxChange x 0x17 (le 1 (rd x.body 0 1) ++ slice x.body 4 16)) : runTunnelSet s x =
    okAns [] (State.updTunnel { d with
        tunnels := d.tunnels.map (Tunnel.emptied [old.port, t.port])
        ports := d.ports.zipIdx.map (LegacyPort.restarted [old.port, t.port]) } (rd x.body 0 1)
      fun _ => { Tunnel.joined old t with queue := [] }) := by
  have hchanged : (t == old) = false := beq_eq_false_iff_ne.2 hne
  simp only [runTunnelSet, Nat.not_le.2 hn, ← hold, ← ht, hok, hchanged, ← hd, Bool.not_true, Bool.false_eq_true, if_false]

end commands

/-- Settles O12: each command's own checks pass, and its effect follows. -/
theorem timePairBridgeForceComplete : Obligations.TimePairBridgeForceComplete := by
  unfold Obligations.TimePairBridgeForceComplete
  intro s mb x
  obtain ⟨t, bs, ht⟩ := s.taken_served mb
  rw [ht]
  have hin {f : State → Ctx → Ans × State} {r : Ans × State} (h : s.changeOut = false) (hf : f (s.served t bs) x = r) :
      logged f (s.served t bs) x = r := logged_of_in _ h hf
  exact ⟨fun h hlog hwt hlock => h.answersAs rfl ht (hin hlog (runTimeSet_set _ hwt hlock)),
    fun h hlog h1 => ⟨fun hsame => h.answersAs rfl ht (hin hlog (runTimeSource_same _ h1 hsame)),
      fun hother => h.answersAs rfl ht (hin hlog (runTimeSource_other _ h1 hother))⟩,
    fun h hlog hstep hfree => h.answersAs rfl ht (hin hlog (runHandover_asked _ hstep hfree)),
    fun h => h.answersAs rfl ht rfl,
    fun h hlog hn hok hfree henable => h.answersAs rfl ht (hin hlog (runWindowSet_enabled _ hn hok hfree henable)),
    fun h hlog hn hold hclear => ⟨_, rfl, h.answersAs rfl ht (hin hlog (runWindowSet_disabled (s.served t bs) hn hold hclear rfl)),
      State.takenWindow_disabled _ _ _ (s.window (rd x.body 0 1)) hclear⟩,
    fun h hlog hn hok hne => ⟨_, _, _, rfl, rfl, rfl,
      h.answersAs rfl ht (hin hlog (runTunnelSet_changed (s.served t bs) hn rfl rfl hok hne rfl))⟩,
    fun h h1 h4 => h.answersAs rfl ht (runForceSet_queued (s.served t bs) h1 h4)⟩

/-! ### Finished commands -/

theorem Reads.finished {i : Instr} {s : State} {mb st : Nat} {body : Bytes} (h : Reads i s mb st body) :
    ∃ t, exec i s = .next t ∧ OnlyMailboxes s t ∧ Finished s t mb st body := by
  obtain ⟨t, he, honly, hdone, hfree⟩ := h
  exact ⟨t, he, honly, hdone, hfree⟩

/-- A state but for the mailboxes and the queue of posted requests. -/
def State.withBoxes (s : State) (bs : List Mbox) (order : List Nat) : State :=
  { s with mail := { s.mail with boxes := bs, order := order } }

/-- An admitted request whose command leaves s' and no other mailbox: its answer, in its own mailbox, is all that comes after. -/
theorem Admitted.finishesAs {s s₁ s' : State} {mb code st : Nat} {c : Cmd} {x : Ctx} {i : Instr} {body : Bytes}
    (h : Admitted s mb code c x) (he : exec i s = .next (s.serveCmd mb code c)) (ht : s.taken mb = s₁)
    (hr : c.run s₁ x = ((st, body), s')) (hboxes : s'.mail.boxes = s₁.mail.boxes) :
    ∃ t, exec i s = .next t ∧ Finished s t mb st body ∧ ∃ bs order, t = s'.withBoxes bs order := by
  subst ht
  obtain ⟨-, -, hposted, -⟩ := id h
  have hlt := State.box_lt s mb hposted
  have htaken : (s.taken mb).box mb = { s.box mb with st := .running } := by
    rw [State.taken, State.box_updBox _ mb _ (by simpa using hlt), State.box, State.grantFirst_mail, State.box]
  have hbox : s'.box mb = { s.box mb with st := .running } := by
    rw [← htaken, State.box, State.box, hboxes]
  have hlen : mb < s'.mail.boxes.length := by
    rw [hboxes, State.taken_mail]
    simpa using hlt
  have hanswered := State.answered_box s' mb st body 16 hlen
  rw [hbox, reqOf_taken] at hanswered
  refine ⟨_, h.answersBy he hr, ⟨fun ho => ?_, fun ho => ?_⟩, ((s'.respond mb st body).answerBad 16).mail.boxes,
    ((s'.respond mb st body).answerBad 16).mail.order, (State.answerBad_frame 16 (s'.respond mb st body)).trans ?_⟩
  · rw [hanswered]
    simp [Mbox.answered, ho]
  · rw [hanswered]
    simp [Mbox.answered, ho, Mbox.release]
  · rfl

/-- An answer changes neither the identity nor the power state that its command leaves. -/
theorem Answers.leaves {s s' : State} {mb st : Nat} {i : Instr} {body : Bytes} (h : Answers i s mb st body s') :
    ∃ t, exec i s = .next t ∧ t.id = s'.id ∧ t.pow = s'.pow := by
  refine ⟨_, h, ?_, ?_⟩ <;> rw [State.answerBad_frame] <;> rfl

theorem listsComplete (s : State) (mb : Nat) (x : Ctx) : ListsComplete s mb x := by
  obtain ⟨hinput, houtput, -, hconn, helem, hroute, hident, hesc, hforce, hcred, htest, -, -, hstage⟩ :=
    listCommandsReadOnly s mb x
  refine ⟨fun h => (hcred h).finished, fun h h1 hle => ((hinput h).1 hle h1 (by omega)).finished,
    fun h h1 hle => ((houtput h).1 hle h1 (by omega)).finished,
    fun h h0 h1 hmost hle => ((hconn h h0).1 hle h1 hmost).finished,
    fun h h1 hmost hle => ((helem h).1 hle h1 hmost).finished, fun h h1 hmost hle => ((hroute h).1 hle h1 hmost).finished,
    fun h h1 hmost hle => ((hident h).1 hle h1 hmost).finished,
    fun h howner h0 h1 hmost => (hstage h howner h0 h1 hmost).finished, fun h hfirst => (htest h hfirst).finished,
    fun h hfirst => ?_, fun h fs hfs hfirst => ?_⟩
  · have hread := (hesc h).1 (.inl (by rwa [List.length_map]))
    simp only [List.length_map, ← List.map_drop, ← List.map_take, ← List.flatMap_def] at hread
    exact hread.finished
  · subst hfs
    have hin : rd x.body 0 2 < ((s.stage.forces.filter (·.fkind != 0)).map forceBytes).length ∨
        rd x.body 0 2 = 0 ∧ (s.stage.forces.filter (·.fkind != 0)).map forceBytes = [] := by
      rw [List.length_map, List.map_eq_nil_iff, ← List.length_eq_zero_iff]
      omega
    have hread := (hforce h).1 hin
    simp only [List.length_map, ← List.map_drop, ← List.map_take, ← List.flatMap_def] at hread
    exact hread.finished

/-! ### Life-cycle commands, finished -/

section life
variable (s : State) {x : Ctx}

theorem State.complete_id (r : CmdRef) (status : Nat) (b : Bytes) : (s.complete r status b).id = s.id := by
  obtain ⟨heq, -⟩ := OnlyNotes.complete s r status b
  rw [heq]

theorem State.refChange_id (r : CmdRef) (kind : Nat) (b : Bytes) : (s.refChange r kind b).id = s.id := by
  obtain ⟨heq, -⟩ := OnlyRecs.change s kind r.cred r.session
    (((s.mail.sessions.find? (·.id == r.session)).map (·.ep)).getD 0xFF) r.cmd b
  rw [State.refChange, heq]

theorem State.makeTransition_id (target : LcState) (r : CmdRef) (signer : Nat) (reason : Bytes) :
    (s.makeTransition target r signer reason).id = { s.id with lc := target, lccnt := wrapInc 32 s.id.lccnt } := by
  rw [State.makeTransition, State.complete_id, State.refChange_id]

theorem State.abandonTest_id (status cause : Nat) : (s.abandonTest status cause).id = s.id := by
  unfold State.abandonTest State.abandonWith
  split
  · rfl
  · split
    · rfl
    · exact (State.complete_id _ _ _ _).trans (State.refChange_id _ _ _ _)

theorem State.lcErase_lc (src target : LcState) : (s.lcErase src target).id.lc = s.id.lc ∧
    (s.lcErase src target).id.lccnt = s.id.lccnt := by
  unfold State.lcErase
  split <;> exact ⟨rfl, rfl⟩

/-- A transition made at once: the state and LCCNT, and the cold restart that follows. -/
theorem State.lcNow_made (target : LcState) (r : CmdRef) (signer : Nat) (reason : Bytes) :
    (s.lcNow target r signer reason).id.lc = target ∧
    (s.lcNow target r signer reason).id.lccnt = wrapInc 32 s.id.lccnt ∧
    (s.lcNow target r signer reason).pow.restart = some .cold := by
  have hid : (if target.tests then s.makeTransition target r signer reason
      else (s.makeTransition target r signer reason).abandonTest 0x8010 7).id =
      { s.id with lc := target, lccnt := wrapInc 32 s.id.lccnt } := by
    split
    · exact s.makeTransition_id target r signer reason
    · rw [State.abandonTest_id, State.makeTransition_id]
  simp only [State.lcNow, State.lcErase_lc, hid, and_self]

theorem State.lcJudge_passed {target : LcState} {r : CmdRef} {token : Bytes} {k : Cred} {role : Nat}
    (hk : s.cred? (rd token 0x0C 4) = some k) (htoken : s.lcTokenOk target.code token = true)
    (hsig : Config.ecdsaOk k.key (Config.sha384 (token.take 0x30)) (token.drop 0x30) = true)
    (htrans : s.transition target = some (role, true)) (hrole : role ≤ k.role) : s.lcJudge target r token =
    if lcWaits s.id.lc target then
      { s with id := { s.id with lcReq := some (target, r, rd token 0x0C 4, slice token 0x10 16) } }
    else s.lcNow target r (rd token 0x0C 4) (slice token 0x10 16) := by
  simp only [State.lcJudge, hk, htoken, hsig, htrans, Nat.not_lt.2 hrole, Bool.and_self, Bool.not_true, Bool.false_eq_true,
    if_false]

/-- A restart asked for while none waits. -/
theorem State.askRestart_first {s : State} {k : RestartKind} (h : s.pow.restart = none) : s.askRestart k = s.updPow fun p => { p with restart := some k } := by
  simp only [State.askRestart, h, Option.isSome_none, Bool.false_eq_true, if_false]

end life

/-- Each life-cycle command, finished. -/
theorem lifeCycleDone (s : State) (mb : Nat) (x : Ctx) (hlog : s.changeOut = false) : LifeCycleDone s mb x := by
  obtain ⟨t, bs, ht⟩ := s.taken_served mb
  have hin {f : State → Ctx → Ans × State} {r : Ans × State} (hf : f (s.served t bs) x = r) :
      logged f (s.served t bs) x = r := logged_of_in _ hlog hf
  refine ⟨fun h target token k role htarget hlen hfree htok hk hok hsig htrans hrole => ?_, fun h hm hfree => ?_,
    fun h hkind hfree => ?_, fun h hv => ?_⟩
  · subst htok
    have hjudge := State.lcJudge_passed (r := x.ref) ((s.served t bs).opens x.ref 0) hk hok hsig htrans hrole
    obtain ⟨u, he, hid, hpow⟩ :=
      (h.answersAs (i := .lcTransition mb) rfl ht (hin (runLcTransition_judged (s.served t bs) htarget hlen hfree))).leaves
    refine ⟨u, he, fun hwaits => ?_, fun hnow => ?_⟩
    · rw [hid, hjudge.trans (if_pos hwaits)]
      exact ⟨rfl, rfl⟩
    · rw [hid, hpow, hjudge.trans (if_neg (Bool.eq_false_iff.1 hnow))]
      exact State.lcNow_made ((s.served t bs).opens x.ref 0) target x.ref _ _
  · obtain ⟨u, he, hdone, bs', order, rfl⟩ := h.finishesAs (i := .mode mb) rfl ht (hin (runMode_waits (s.served t bs) hm hfree)) rfl
    exact ⟨_, he, hdone, rfl⟩
  · obtain ⟨heq, -⟩ := OnlyRecs.ctxChange (s.served t bs) x 0x16 (le 1 (rd x.body 0 1))
    have hfree' : ((s.served t bs).ctxChange x 0x16 (le 1 (rd x.body 0 1))).pow.restart = none := by rw [heq, ← hfree]; rfl
    have hrun := runRestart_asked (s.served t bs) hkind hfree
    rw [State.askRestart_first hfree'] at hrun
    obtain ⟨u, he, hdone, bs', order, rfl⟩ :=
      h.finishesAs (i := .restart mb) rfl ht (hin hrun) (by rw [State.updPow, heq])
    exact ⟨_, he, hdone, rfl⟩
  · obtain ⟨u, he, hdone, bs', order, rfl⟩ := h.finishesAs (i := .maint mb) rfl ht (hin (runMaint_waits (s.served t bs) hv)) rfl
    exact ⟨_, he, hdone, rfl⟩

/-! ### Two-step commands, finished -/

section queue
variable (s : State) (x : Ctx) (item : Nat)

theorem State.plSend_kept (m : PlMsg) : (s.plSend m).trl = s.trl ∧ (s.plSend m).stage = s.stage ∧ (s.plSend m).mail = s.mail := by
  unfold State.plSend
  split <;> exact ⟨rfl, rfl, rfl⟩

theorem State.queueOp_kept (k : OpKind) : (s.queueOp x item k).2.trl.ops = s.trl.ops ++ [⟨x.ref, k, 0⟩] ∧
    (s.queueOp x item k).2.mail.boxes = s.mail.boxes := by
  unfold State.queueOp
  dsimp only [State.accepted, State.updMail]
  split
  · obtain ⟨htrl, -, hmail⟩ :=
      State.plSend_kept { s with trl := { s.trl with ops := s.trl.ops ++ [⟨x.ref, k, 0⟩] } } (.cmdfwd (.op ⟨x.ref, k, 0⟩))
    exact ⟨congrArg (·.ops) htrl, congrArg (·.boxes) hmail⟩
  · exact ⟨rfl, rfl⟩

theorem State.queueForce_kept (f : ForceCmd) : (s.queueForce x f).2.stage.forceWait = s.stage.forceWait ++ [⟨f, 2⟩] ∧
    (s.queueForce x f).2.mail.boxes = s.mail.boxes := by
  unfold State.queueForce
  dsimp only [State.accepted, State.updMail]
  split
  · obtain ⟨-, hstage, hmail⟩ :=
      State.plSend_kept { s with stage := { s.stage with forceWait := s.stage.forceWait ++ [⟨f, 2⟩] } } (.cmdfwd (.force f))
    exact ⟨congrArg (·.forceWait) hstage, congrArg (·.boxes) hmail⟩
  · exact ⟨rfl, rfl⟩

end queue

section steps
variable {s : State} {mb code off : Nat} {x : Ctx} {c : Cmd} {i : Instr} {t : Option TestSt} {bs : List Mbox}

/-- A first step, finished: the code answered is that of a step pending. -/
theorem Admitted.firstStepDone (h : Admitted s mb code c x) (he : exec i s = .next (s.serveCmd mb code c))
    (ht : s.taken mb = s.served t bs) (hr : ∀ n, (s.served t bs).firstStep x off = (n, (s.served t bs).pendStep x off n) →
      c.run (s.served t bs) x = okAns (le 2 n) ((s.served t bs).pendStep x off n)) :
    ∃ u n, exec i s = .next u ∧ 1 ≤ n ∧ n < 2 ^ 16 ∧ Finished s u mb 0 (le 2 n) ∧
      ∃ f ∈ u.mail.steps, f.session = x.ref.session ∧ f.cmd = x.ref.cmd ∧ f.code = n := by
  obtain ⟨n, hn1, hn2, hstep⟩ := State.firstStep_eq (s.served t bs) (x := x) (off := off)
  obtain ⟨u, hu, hdone, bs', order, rfl⟩ := h.finishesAs he ht (hr n hstep) rfl
  exact ⟨_, n, hu, hn1, hn2, hdone, _, List.mem_append_right _ (List.mem_singleton.2 rfl), rfl, rfl, rfl⟩

/-- An order for the lanes, finished. -/
theorem Admitted.orderDone {item : Nat} {k : OpKind} (h : Admitted s mb code c x)
    (he : exec i s = .next (s.serveCmd mb code c)) (ht : s.taken mb = s.served t bs)
    (hr : c.run (s.served t bs) x = ((1, []), (((s.served t bs).dropStep x).queueOp x item k).2)) :
    ∃ u, exec i s = .next u ∧ Finished s u mb 1 [] ∧ u.trl.ops = s.trl.ops ++ [⟨x.ref, k, 0⟩] := by
  obtain ⟨hops, hboxes⟩ := State.queueOp_kept ((s.served t bs).dropStep x) x item k
  obtain ⟨u, hu, hdone, bs', order, rfl⟩ := h.finishesAs he ht hr hboxes
  exact ⟨_, hu, hdone, hops⟩

/-- A forced value's order, finished. -/
theorem Admitted.forceDone {f : ForceCmd} (h : Admitted s mb code c x)
    (he : exec i s = .next (s.serveCmd mb code c)) (ht : s.taken mb = s.served t bs)
    (hr : c.run (s.served t bs) x = ((1, []), (((s.served t bs).dropStep x).queueForce x f).2)) :
    ∃ u, exec i s = .next u ∧ Finished s u mb 1 [] ∧ u.stage.forceWait = s.stage.forceWait ++ [⟨f, 2⟩] := by
  obtain ⟨hwait, hboxes⟩ := State.queueForce_kept ((s.served t bs).dropStep x) x f
  obtain ⟨u, hu, hdone, bs', order, rfl⟩ := h.finishesAs he ht hr hboxes
  exact ⟨_, hu, hdone, hwait⟩

theorem State.checkReq_cmd {k : CmdRow} {q : Req} (h : s.checkReq mb k c q = .ok x) : x.ref.cmd = q.cmd := by
  simp only [State.checkReq] at h
  iterate 6
    split at h
    · cases h
  cases h
  rfl

theorem Admitted.cmd_eq (h : Admitted s mb code c x) : x.ref.cmd = code := by
  obtain ⟨-, -, -, hcode, k, -, hcheck⟩ := h
  rw [State.checkReq_cmd hcheck, hcode]

end steps

/-- Each two-step command, finished. -/
theorem twoStepsDone (s : State) (mb : Nat) (x : Ctx) : TwoStepsDone s mb x := by
  obtain ⟨t, bs, ht⟩ := s.taken_served mb
  have hin {f : State → Ctx → Ans × State} {r : Ans × State} (h : s.changeOut = false) (hf : f (s.served t bs) x = r) :
      logged f (s.served t bs) x = r := logged_of_in _ h hf
  refine ⟨fun h => ⟨fun htwo hcode => ?_, fun htwo hstep hroom => ?_⟩, fun h hroom => ⟨fun htwo hcode => ?_, fun htwo hstep => ?_⟩,
    fun h hlog => ⟨fun htwo hcode => ?_, fun htwo hstep hassume => ?_⟩,
    fun h hlog h1 h4 hstands => ⟨fun htwo hcode => ?_, fun htwo hstep => ?_⟩⟩
  · rw [← h.cmd_eq]
    exact h.firstStepDone rfl ht fun n => runEmergRelease_first _ htwo hcode
  · exact h.orderDone rfl ht ((runEmergRelease_second _ htwo).trans
      (State.secondOp_confirmed _ hroom (State.confirms_of_window hstep)))
  · exact h.orderDone rfl ht (runAxleReset_arms (s.served t bs) htwo hcode hroom)
  · exact h.orderDone rfl ht ((runAxleReset_second _ htwo).trans
      (State.secondOp_confirmed _ hroom (State.confirms_of_repeats hstep)))
  · rw [← h.cmd_eq]
    exact h.firstStepDone rfl ht fun n hn => hin hlog (runColdAssume_first _ htwo hcode hn)
  · obtain ⟨u, hu, hdone, bs', order, rfl⟩ :=
      h.finishesAs (i := .coldAssume mb) rfl ht (hin hlog (runColdAssume_confirmed (s.served t bs) htwo hassume (State.confirms_of_window hstep))) rfl
    exact ⟨_, hu, hdone, rfl⟩
  · rw [← h.cmd_eq]
    exact h.firstStepDone rfl ht fun n hn => hin hlog (runForceClear_first _ h1 h4 htwo hcode hstands hn)
  · exact h.forceDone rfl ht (hin hlog (runForceClear_confirmed (s.served t bs) h1 h4 htwo (State.confirms_of_window hstep) hstands))

/-- Settles O11: each command's result, with the answer to it in the mailbox. -/
theorem readLifeCycleTwoStepFinish : Obligations.ReadLifeCycleTwoStepFinish :=
  fun s mb x => ⟨listsComplete s mb x, lifeCycleDone s mb x, twoStepsDone s mb x⟩

end Sys2Proof.Machine
end


section
/-! The register window as hosts write and read it, by either transport, and the time-outs of mailboxes, sessions and
transfers (12 R337 to R349, R354, R355, 01 R21, 15 R417). -/

namespace Sys2Proof.Machine

/-! ### A write of a mailbox, at its address -/

section window
variable {mb off ep : Nat}

theorem mapped_ctl (hmb : mb < 16) (hoff : off < 0x40) : mapped (0x2000 + mb * 0x40 + off) = true := by
  simp only [mapped, Bool.or_eq_true, decide_eq_true_eq, Bool.and_eq_true]
  omega

theorem mboxAt_ctl (hmb : mb < 16) (hoff : off < 0x40) : mboxAt (0x2000 + mb * 0x40 + off) = some mb := by
  rw [mboxAt, if_pos (by simp only [Bool.and_eq_true, decide_eq_true_eq]; omega)]
  congr 1
  omega

theorem mapped_buffer (hmb : mb < 16) (hoff : off < 0x2000) : mapped (0x10000 + 0x2000 * mb + off) = true := by
  simp only [mapped, Bool.or_eq_true, decide_eq_true_eq, Bool.and_eq_true]
  omega

theorem mboxAt_buffer (hmb : mb < 16) (hoff : off < 0x2000) : mboxAt (0x10000 + 0x2000 * mb + off) = some mb := by
  rw [mboxAt, if_neg (by simp only [Bool.and_eq_true, decide_eq_true_eq]; omega),
    if_pos (by simp only [Bool.and_eq_true, decide_eq_true_eq]; omega)]
  congr 1
  omega

variable (s : State) {t : State} {data : Bytes} {who : Option Nat}

/-- A write of four bytes of a mailbox's control block has the effect of its word. -/
theorem State.winWrite_ctl (hmb : mb < 16) (hoff : off < 0x40) (hlen : data.length = 4)
    (h : s.ctlWrite ep mb off (ofLe data) = some t) : s.winWrite ep (0x2000 + mb * 0x40 + off) data who = (0, t) := by
  have hlow : 0x2000 + mb * 0x40 + off < 0x2400 := by omega
  have hpos : (0x2000 + mb * 0x40 + off) % 0x40 = off := by omega
  simp only [State.winWrite, mapped_ctl hmb hoff, mboxAt_ctl hmb hoff, hlow, hpos, hlen, h, Bool.not_true,
    bne_self_eq_false, Bool.false_eq_true, if_false, if_true]

theorem State.winWrite_buffer (hmb : mb < 16) (hlen : off + data.length ≤ 0x1000) (hown : s.ownWrite ep mb = true) :
    s.winWrite ep (0x10000 + 0x2000 * mb + off) data who = (0, s.updBox mb (Mbox.put off data who)) := by
  have hoff : off < 0x2000 := by omega
  have hhigh : ¬ 0x10000 + 0x2000 * mb + off < 0x2400 := by omega
  have hpos : (0x10000 + 0x2000 * mb + off - 0x10000) % 0x2000 = off := by omega
  simp only [State.winWrite, mapped_buffer hmb hoff, mboxAt_buffer hmb hoff, hhigh, hpos, hlen, hown, Bool.not_true,
    decide_true, Bool.and_self, Bool.false_eq_true, if_false, if_true]

end window

/-! ### The words of a control block -/

section words
variable (s : State) {ep mb key tag : Nat}

theorem ofLe_append (a b : Bytes) : ofLe (a ++ b) = ofLe a + 256 ^ a.length * ofLe b := by
  induction a with
  | nil => simp [ofLe]
  | cons x a ih =>
    simp only [List.cons_append, ofLe, ih, List.length_cons, Nat.pow_succ', Nat.mul_add, Nat.mul_assoc, Nat.add_assoc]

/-- A word of two halves, the low one first. -/
theorem ofLe_halves {a b : Nat} (ha : a < 65536) (hb : b < 65536) : ofLe (le 2 a ++ le 2 b) = a + 65536 * b := by
  rw [ofLe_append, ofLe_le, ofLe_le, length_le_bytes]
  omega

theorem State.ownWrite_of_owner (hep : (s.box mb).ep = ep) (hst : (s.box mb).st = .owned ∨ (s.box mb).st = .done) :
    s.ownWrite ep mb = true := by
  simp only [State.ownWrite, hep, beq_self_eq_true, Bool.true_and, Bool.or_eq_true, beq_iff_eq]
  exact hst

theorem endsBox_iff {b : Mbox} : endsBox mb b = true ↔ mb = 0 ∧ b.st = .done ∧ b.openOk = false := by
  simp [endsBox, and_assoc]

theorem State.ctlWrite_claim (hkey : key < 65536) (h14 : mb ≠ 14) (hfree : (s.box mb).st = .free)
    (hsess : mb = 0 ∨ s.mail.sessions.any (·.ep == ep) = true) :
    s.ctlWrite ep mb 0 (ofLe (le 2 1 ++ le 2 key)) = some (s.updBox mb (Mbox.claim ep key)) := by
  have hlow : (1 + 65536 * key) % 65536 = 1 := by omega
  have hhigh : (1 + 65536 * key) / 65536 = key := by omega
  have hadmit : (mb == 14 || (s.box mb).st != .free || (mb != 0 && !s.mail.sessions.any (·.ep == ep))) = false := by
    rcases hsess with rfl | hany
    · simp [hfree]
    · simp [hfree, h14, hany]
  rw [ofLe_halves (by decide) hkey, State.ctlWrite, if_pos (by rfl), if_pos (by rw [hlow]; rfl), hhigh, State.claim, hadmit]
  rfl

theorem State.ctlWrite_release (hown : s.ownWrite ep mb = true) : s.ctlWrite ep mb 0 (ofLe (le 4 2)) = some (s.freeBox mb) := by
  rw [ofLe_le, State.ctlWrite, if_pos (by rfl), if_neg (by decide), if_pos (by decide), State.release0, if_pos hown]

theorem State.ctlWrite_ring (htag : tag < 65536) :
    s.ctlWrite ep mb 8 (ofLe (le 2 tag ++ le 2 0x8000)) = s.ring ep mb tag := by
  have hlow : (tag + 65536 * 0x8000) % 65536 = tag := by omega
  have hhigh : (tag + 65536 * 0x8000) / 65536 = 0x8000 := by omega
  rw [ofLe_halves htag (by decide), State.ctlWrite, if_neg (by decide), if_pos (by rfl), if_pos (by rw [hhigh]; rfl), hlow]

theorem State.ctlWrite_ack : s.ctlWrite ep mb 8 (ofLe (le 4 0x40000000)) = s.ack ep mb := by
  rw [ofLe_le, State.ctlWrite, if_neg (by decide), if_pos (by rfl), if_neg (by decide), if_pos (by decide)]

section owned
variable (hown : s.ownWrite ep mb = true)
include hown

theorem State.ring_ends (htag : rd (s.box mb).req 2 2 = tag) (hend : endsBox mb (s.box mb) = true) :
    s.ring ep mb tag = some (s.freeBox mb) := by
  simp only [State.ring, hown, htag, hend, Bool.not_true, bne_self_eq_false, Bool.or_self, Bool.false_eq_true, if_false, if_true]

theorem State.ring_posts (htag : rd (s.box mb).req 2 2 = tag) (hend : endsBox mb (s.box mb) = false) :
    s.ring ep mb tag = some ((s.updBox mb (Mbox.post s.time.ot)).updMail fun m =>
      { m with order := m.order ++ [mb], sessions := m.sessions.map (Sess.touch ep) }) := by
  simp only [State.ring, hown, htag, hend, Bool.not_true, bne_self_eq_false, Bool.or_self, Bool.false_eq_true, if_false]

theorem State.ack_ends (hdone : (s.box mb).st = .done) (hend : endsBox mb (s.box mb) = true) :
    s.ack ep mb = some (s.freeBox mb) := by
  simp only [State.ack, hown, hdone, hend, beq_self_eq_true, Bool.and_self, Bool.not_true, Bool.false_eq_true, if_false, if_true]

theorem State.ack_keeps (hdone : (s.box mb).st = .done) (hend : endsBox mb (s.box mb) = false) :
    s.ack ep mb = some (s.updBox mb fun b => { b with st := .owned, age := 0 }) := by
  simp only [State.ack, hown, hdone, hend, beq_self_eq_true, Bool.and_self, Bool.not_true, Bool.false_eq_true, if_false]

end owned
end words

/-! ### What carries a write -/

section carried
variable {s pre t : State} {acc : Access} {addr ep : Nat} {data : Bytes} {who : Option Nat} {wrap : State → State}

/-- The status byte of a CSPI frame, with the level of CSALRT where it is low. -/
theorem State.cspiBegin_eq (s : State) : ∃ alert n, (s.csalrt = true → alert = true) ∧
    s.cspiBegin = { s with free := n, mail := { s.mail with
      cspiStat := BitVec.ofNat 8 (b2n s.pow.sv + 2 * b2n alert + 4 * b2n s.mail.cspiBad), cspiOut := [], cspiBad := false } } := by
  rcases hc : s.csalrt with _ | _
  · by_cases hz : s.mail.alert = 0
    · refine ⟨false, s.free, nofun, ?_⟩
      simp only [State.cspiBegin, State.cspiAlert, hc, beq_iff_eq.2 hz, if_true, Bool.false_eq_true, if_false]
      rfl
    · refine ⟨(s.freshNat 1).1 == 1, s.free + 1, nofun, ?_⟩
      simp only [State.cspiBegin, State.cspiAlert, hc, beq_eq_false_iff_ne.2 hz, Bool.false_eq_true, if_false]
      rfl
  · refine ⟨true, s.free, fun _ => rfl, ?_⟩
    simp only [State.cspiBegin, State.cspiAlert, hc, if_true]
    rfl

theorem statusByte_bits (sv alert bad : Bool) :
    (BitVec.ofNat 8 (b2n sv + 2 * b2n alert + 4 * b2n bad)).getLsbD 0 = sv ∧
    (BitVec.ofNat 8 (b2n sv + 2 * b2n alert + 4 * b2n bad)).getLsbD 1 = alert ∧
    (BitVec.ofNat 8 (b2n sv + 2 * b2n alert + 4 * b2n bad)).getLsbD 2 = bad := by
  revert sv alert bad
  decide

/-- The state as a write finds it has the mailboxes and the time of before, and sessions of the same endpoints. -/
theorem Carried.found (h : Carried s acc addr data ep who pre wrap) :
    pre.mail.boxes = s.mail.boxes ∧ pre.time = s.time ∧
    ∀ e, pre.mail.sessions.any (·.ep == e) = s.mail.sessions.any (·.ep == e) := by
  obtain ⟨-, ⟨-, -, -, rfl, -⟩ | ⟨hd, e, -, -, -, -, -, -, -, ⟨-, -, -, rfl⟩ | ⟨key, last, -, -, -, -, -, rfl⟩, -⟩⟩ := h
  · obtain ⟨alert, n, -, heq⟩ := s.cspiBegin_eq
    rw [heq]
    exact ⟨rfl, rfl, fun _ => rfl⟩
  · exact ⟨rfl, rfl, fun _ => rfl⟩
  · refine ⟨rfl, rfl, fun e => (List.any_map ..).trans ?_⟩
    congr 1
    funext y
    simp only [Function.comp, Sess.useXid]
    split <;> rfl

/-- The tag of a datagram that carries a write: absent where none is needed, or valid. -/
theorem State.tagVerdict_untagged {h : NspHead} (hflag : h.nflag.getLsbD 0 = false) (hneed : s.needsTag ep addr = false) :
    s.tagVerdict ep h addr data = (0, none) := by
  simp only [State.tagVerdict, hflag, hneed, Bool.false_eq_true, if_false]

theorem State.tagVerdict_valid {h : NspHead} {key : Bytes} {last : Option Nat} (hflag : h.nflag.getLsbD 0 = true)
    (hsess : s.tagSess ep h.nsess = some (key, last)) (htag : h.tag = tagOf key h addr data)
    (hlast : last.all (fun old => serialAfter 32 h.xid old) = true) : s.tagVerdict ep h addr data = (0, some h.nsess) := by
  simp only [State.tagVerdict, hflag, hsess, htag, hlast, bne_self_eq_false, Bool.false_eq_true, if_false, if_true]

theorem State.nspWrite_done {h : NspHead} (hverdict : s.tagVerdict ep h addr data = (0, who))
    (hwrite : (s.useXid who h.xid).winWrite ep addr data who = (0, t)) :
    s.nspWrite ep h addr data = t.reply ⟨ep, 0x82, h.xid, 0, []⟩ true := by
  simp only [State.nspWrite, hverdict, hwrite, bne_self_eq_false, Bool.false_eq_true, if_false]
  rfl

/-- A datagram of a served endpoint, on an open path, with a transaction number not answered before. -/
theorem State.nspFrame_fresh {h : NspHead} {e : Endpoint} (hep : s.mail.eps.find? (fun e =>
      e.path == h.path && e.ip == h.ip && e.port == h.port) = some e) (hnew : ∀ k ∈ e.kept, k.xid ≠ h.xid)
    (hok : nspOk h addr data = true) : s.nspFrame h addr data =
    if 0x50000 < addr + h.dlen then
      if h.op == 1 then s.reply ⟨e.num, replyOp h, h.xid, 1, []⟩ true
      else (s.reply ⟨e.num, replyOp h, h.xid, 1, []⟩ true).refusedWrite 1 addr e.num
    else if h.op == 1 then s.nspRead e.num h addr
    else s.nspWrite e.num h addr data := by
  have hnone : e.kept.find? (·.xid == h.xid) = none := List.find?_eq_none.2 fun k hk => by simpa using hnew k hk
  simp only [State.nspFrame, State.endpoint, hep, hnone, hok, Bool.not_true, Bool.false_eq_true, if_false]

theorem dlen_of_nspOk {h : NspHead} (hok : nspOk h addr data = true) (hop : h.op = 2) : h.dlen = data.length := by
  simp only [nspOk, hop, Bool.and_eq_true, beq_iff_eq] at hok
  obtain ⟨⟨⟨⟨-, hform⟩, -⟩, -⟩, -⟩ := hok
  simpa using hform

theorem State.access_serving (hserve : s.serving = true) : s.pow.sv = true ∧ (!s.pow.on || s.blockOut 0x21) = false := by
  simp only [State.serving, Bool.and_eq_true, Bool.not_eq_true'] at hserve
  obtain ⟨⟨hon, hsv⟩, hout⟩ := hserve
  exact ⟨hsv, by simp [hon, hout]⟩

/-- A write that its transport carries and the window takes: its effect, and what the transport adds. -/
theorem Carried.access (h : Carried s acc addr data ep who pre wrap) (hne : data ≠ []) (hlen : data.length ≤ 4096)
    (hin : addr + data.length ≤ 0x50000) (hwrite : pre.winWrite ep addr data who = (0, t)) :
    s.access acc addr data = wrap t := by
  obtain ⟨hserve, htransport⟩ := h
  obtain ⟨hsv, hup⟩ := State.access_serving hserve
  obtain ⟨rfl, rfl, rfl, rfl, rfl⟩ | ⟨hd, e, rfl, hpath, hop, hep, rfl, hnew, hok, htag, rfl⟩ := htransport
  · have hsize : (data.isEmpty || decide (4096 < data.length)) = false := by
      simp only [Bool.or_eq_false_iff, List.isEmpty_eq_false_iff, decide_eq_false_iff_not]
      exact ⟨hne, by omega⟩
    simp only [State.access, hup, hsv, State.cspiWrite, hsize, hwrite, Bool.false_eq_true, if_false, if_true]
    rfl
  · have hdlen : ¬ 0x50000 < addr + hd.dlen := by
      rw [dlen_of_nspOk hok hop]
      omega
    simp only [State.access, hup, hsv, hpath, Bool.and_self, Bool.false_eq_true, if_false, if_true,
      State.nspFrame_fresh hep hnew hok, hdlen, hop]
    obtain ⟨hflag, hneed, rfl, rfl⟩ | ⟨key, last, hflag, hsess, hmac, hlast, rfl, rfl⟩ := htag
    · exact (if_neg (by decide)).trans (State.nspWrite_done (State.tagVerdict_untagged hflag hneed) hwrite)
    · exact (if_neg (by decide)).trans (State.nspWrite_done (State.tagVerdict_valid hflag hsess hmac hlast) hwrite)

end carried

/-! ### Reads of the window -/

section reads
variable {s : State} {addr : Nat}

theorem State.access_cspiRead {n : Nat} (hon : s.pow.on = true) (hout : s.blockOut 0x21 = false) (h1 : 1 ≤ n)
    (hn : n ≤ 4096) : s.access (.cspiRead n) addr [] =
    (s.cspiBegin.updMail fun m => { m with cspiOut := s.windowRead addr n }).seeRing addr n := by
  have hsize : (n == 0 || decide (4096 < n)) = false := by
    simp only [Bool.or_eq_false_iff, beq_eq_false_iff_ne, decide_eq_false_iff_not]
    omega
  simp only [State.access, hon, hout, State.cspiRead, hsize, Bool.not_true, Bool.or_self, Bool.false_eq_true, if_false]

theorem windowReads (s : State) (addr : Nat) : WindowReads s addr := by
  refine ⟨fun n hon hout h1 hn => ?_, fun h e hserve hpath hep hnew hok hop => ?_⟩
  · obtain ⟨alert, n', halert, heq⟩ := s.cspiBegin_eq
    obtain ⟨hbit0, hbit1, hbit2⟩ := statusByte_bits s.pow.sv alert s.mail.cspiBad
    refine ⟨congrArg (fun t : State => Host.Outcome.next t.settle) (State.access_cspiRead hon hout h1 hn), ?_, ?_, fun hc => ?_, ?_⟩
    · rw [heq]
      exact hbit0
    · rw [heq]
      exact hbit2
    · rw [heq]
      exact hbit1.trans (halert hc)
    · rw [heq]
  · obtain ⟨hsv, hup⟩ := State.access_serving hserve
    have haccess : s.access (.nsp h) addr [] = s.nspFrame h addr [] := by
      simp only [State.access, hup, hsv, hpath, Bool.and_self, Bool.false_eq_true, if_false, if_true]
    rw [State.nspFrame_fresh hep hnew hok] at haccess
    have hreply : replyOp h = 0x81 := by rw [replyOp, hop]; rfl
    refine ⟨fun hin => congrArg (fun t : State => Host.Outcome.next t.settle) (haccess.trans ?_),
      fun hbeyond => congrArg (fun t : State => Host.Outcome.next t.settle) (haccess.trans ?_)⟩
    · rw [if_neg (by omega), if_pos (by rw [hop]; rfl)]
      rfl
    · rw [if_pos hbeyond, if_pos (by rw [hop]; rfl), hreply]

end reads

/-! ### The rows of the mailbox writes -/

section rows
variable {s pre t : State} {acc : Access} {ep mb key tag : Nat} {who : Option Nat} {wrap : State → State}

theorem Carried.box_eq {addr : Nat} {data : Bytes} (h : Carried s acc addr data ep who pre wrap) : pre.box mb = s.box mb := by
  obtain ⟨hboxes, -⟩ := h.found
  rw [State.box, State.box, hboxes]

/-- A write of a control block that has an effect, carried. -/
theorem Carried.ctl {off : Nat} {data : Bytes} (h : Carried s acc (0x2000 + mb * 0x40 + off) data ep who pre wrap)
    (hmb : mb < 16) (hoff : off < 0x40) (hlen : data.length = 4) (heffect : pre.ctlWrite ep mb off (ofLe data) = some t) :
    s.hostWrite acc (0x2000 + mb * 0x40 + off) data = (wrap t).settle := by
  rw [State.hostWrite, h.access (by rintro rfl; cases hlen) (by omega) (by omega)
    (State.winWrite_ctl pre hmb hoff hlen heffect)]

theorem exec_mailboxClaim (hmb : mb < 16) (hkey : key < 65536) :
    exec (.mailboxClaim acc mb key) s = .next (s.hostWrite acc (ctlAddr mb) (le 2 1 ++ le 2 key)) := by
  have hin : (decide (mb < 16) && decide (key < 65536)) = true := by simp [hmb, hkey]
  exact congrArg Host.Outcome.next (if_pos hin)

theorem exec_mailboxRelease (hmb : mb < 16) :
    exec (.mailboxRelease acc mb) s = .next (s.hostWrite acc (ctlAddr mb) (le 4 2)) :=
  congrArg Host.Outcome.next (if_pos hmb)

theorem exec_doorbellRing (hmb : mb < 16) (htag : tag < 65536) :
    exec (.doorbellRing acc mb tag) s = .next (s.hostWrite acc (dbAddr mb) (le 2 tag ++ le 2 0x8000)) := by
  have hin : (decide (mb < 16) && decide (tag < 65536)) = true := by simp [hmb, htag]
  exact congrArg Host.Outcome.next (if_pos hin)

theorem exec_doorbellAck (hmb : mb < 16) :
    exec (.doorbellAck acc mb) s = .next (s.hostWrite acc (dbAddr mb) (le 4 0x40000000)) :=
  congrArg Host.Outcome.next (if_pos hmb)

end rows

/-- Settles O13: each write reaches its mailbox at its address, and has the effect of its word or of its bytes. -/
theorem mailboxWritesComplete : Obligations.MailboxWritesComplete := by
  unfold Obligations.MailboxWritesComplete
  refine ⟨fun s acc ep mb who pre wrap hmb => ⟨fun key hkey h h14 hfree hsess => ?_, fun h hep hst => ?_,
    fun tag htag h hep hst hreq => ?_, fun h hep hst => ?_, fun off data hlen hne h hep hst => ?_⟩, windowReads⟩
  · rw [← h.box_eq] at hfree
    obtain ⟨-, -, hsessions⟩ := h.found
    rw [← hsessions] at hsess
    rw [exec_mailboxClaim hmb hkey]
    exact congrArg Host.Outcome.next (Carried.ctl (off := 0) h hmb (by decide) (by simp) (pre.ctlWrite_claim hkey h14 hfree hsess))
  · rw [← h.box_eq] at hep hst
    rw [exec_mailboxRelease hmb]
    exact congrArg Host.Outcome.next (Carried.ctl (off := 0) h hmb (by decide) (by simp)
      (pre.ctlWrite_release (pre.ownWrite_of_owner hep hst)))
  · obtain ⟨-, htime, -⟩ := h.found
    rw [← h.box_eq] at hep hst hreq
    have hown := pre.ownWrite_of_owner hep hst
    rw [exec_doorbellRing hmb htag, ← h.box_eq (mb := mb), ← endsBox_iff]
    refine ⟨fun hend => congrArg Host.Outcome.next (Carried.ctl (off := 8) h hmb (by decide) (by simp) ((pre.ctlWrite_ring htag).trans ?_)),
      fun hend => congrArg Host.Outcome.next (Carried.ctl (off := 8) h hmb (by decide) (by simp) ((pre.ctlWrite_ring htag).trans ?_))⟩
    · rw [pre.ring_posts hown hreq (Bool.eq_false_iff.2 hend), htime]
      rfl
    · exact pre.ring_ends hown hreq hend
  · rw [← h.box_eq] at hep hst
    have hown := pre.ownWrite_of_owner hep (.inr hst)
    rw [exec_doorbellAck hmb, ← h.box_eq (mb := mb)]
    refine ⟨fun hend => congrArg Host.Outcome.next (Carried.ctl (off := 8) h hmb (by decide) (by simp) (pre.ctlWrite_ack.trans ?_)),
      fun hend => congrArg Host.Outcome.next (Carried.ctl (off := 8) h hmb (by decide) (by simp) (pre.ctlWrite_ack.trans ?_))⟩
    · refine pre.ack_keeps hown hst (Bool.eq_false_iff.2 fun h => hend ?_)
      obtain ⟨hmb0, -, hopen⟩ := endsBox_iff.1 h
      exact ⟨hmb0, hopen⟩
    · obtain ⟨hmb0, hopen⟩ := hend
      exact pre.ack_ends hown hst (endsBox_iff.2 ⟨hmb0, hst, hopen⟩)
  · rw [← h.box_eq] at hep hst
    refine ⟨_, congrArg (fun t : State => Host.Outcome.next t.settle) (h.access hne (by omega) (by omega)
      (pre.winWrite_buffer hmb hlen (pre.ownWrite_of_owner hep hst))), rfl⟩

/-! ### Time-outs -/

/-- Settles O14: each time-out that is due has its effect. -/
theorem mailboxTimeoutsComplete : Obligations.MailboxTimeoutsComplete := by
  unfold Obligations.MailboxTimeoutsComplete
  intro s mb
  have hretry (hst : (s.box mb).st = .posted) : s.retryBox mb = (s.respond mb 0x80B0 []).settle :=
    if_pos (beq_iff_eq.2 hst)
  refine ⟨fun hserve hst hdue => ?_, fun hserve hst hdue => ?_, fun t ht hrun hdue => ?_, fun hst hage => ?_,
    fun x hx hidle => ?_, fun p hp hage => ?_⟩ <;> refine congrArg Host.Outcome.next ?_
  · exact (if_pos (by simp [hserve, hdue])).trans (hretry hst)
  · exact (if_pos (by simp [hserve, hdue])).trans (hretry hst)
  · exact if_pos (by simp [ht, hrun, hdue])
  · exact if_pos (by simpa [hage] using hst)
  · exact if_pos (List.any_eq_true.2 ⟨x, hx, by simp [hidle]⟩)
  · exact if_pos (by simp [hp, hage])

end Sys2Proof.Machine
end


section
/-! The events of the vital cycle, of the lanes, of the regions and of the fault collectors (01, 04, 05, 08 R237, 10). -/

namespace Sys2Proof.Machine

/-- An effect while the commons are supplied. -/
theorem State.fed_of_cmUp {s : State} (f : State → State) (h : s.cmUp = true) : s.fed f = f s := if_pos h

/-! ### The vital cycle -/

section cycle
variable (s : State)

theorem State.recordSafe_eq : s.recordSafe =
    if s.computes = true ∧ s.cyc.graftslot = false then s.recordList 0x10 else s := by
  simp only [State.recordSafe, Bool.and_eq_true, Bool.not_eq_true']

/-- The release of the next telegram, up to the end of the cycle: e is the state that its emission leaves. -/
theorem exec_telegramRelease {conn : Nat} {sc1 sc2 : Option Nat} {comp : Trio Nat} {done : Trio Bool} {t : OutTg}
    {rest : List OutTg} {e : State} (hcyc : s.cycling = true) (htosend : s.cyc.tosend = t :: rest)
    (hphase : s.cyc.phase = .emit) (hconn : t.conn = conn)
    (he : e =
      if t.gvt.typ == 3 then (s.updCyc fun c => { c with tosend := rest }).release (connOf s.set conn) t.gvt
      else match s.rolesNow with
        | none => s.updCyc fun c => { c with tosend := rest }
        | some r =>
          if sc1.any (· != s.sc1 (connOf s.set conn) t.gvt) || sc2.any (· != s.sc2 (connOf s.set conn) t.gvt) then
            (s.updCyc fun c => { c with tosend := rest }).scFailed conn
              ((if sc1.any (· != s.sc1 (connOf s.set conn) t.gvt) then [r.chk1, r.sc1] else []) ++
                (if sc2.any (· != s.sc2 (connOf s.set conn) t.gvt) then [r.chk2, r.sc2] else [])).eraseDups
          else (s.updCyc fun c => { c with tosend := rest }).release (connOf s.set conn)
            { t.gvt with sc1 := s.sc1 (connOf s.set conn) t.gvt, sc2 := s.sc2 (connOf s.set conn) t.gvt }) :
    exec (.telegramRelease conn sc1 sc2 comp done) s =
      .next (if rest.isEmpty && e.cycling then e.cycleDone comp done else e) := by
  refine congrArg Host.Outcome.next ?_
  subst he
  simp only [htosend, hphase, hconn, hcyc, bne_self_eq_false, Bool.not_true, Bool.or_self, Bool.false_eq_true, if_false] <;> rfl

end cycle

/-- Settles O16: each event of a slot, by the phase that the cycle is in. -/
theorem vitalCycleCompletes : Obligations.VitalCycleCompletes := by
  unfold Obligations.VitalCycleCompletes
  intro s hon hcyc
  refine ⟨fun lane env hcounted hsplit hactive hring => ⟨_, rfl, ?_⟩, fun lane env hcounted hsplit hst hring hsupply => ?_,
    ?_, ?_, fun forms issued comp done hsplit hphase => ?_, fun forms issued comp done hsplit hidle hemit hvote => ?_,
    fun forms issued comp done out f hsplit hidle hemit hvote => ⟨_, _, rfl, rfl, ?_⟩,
    fun conn sc1 sc2 comp done t rest htosend hphase hconn => ?_, fun hclosing hlead => ?_,
    fun lane r hst hrsync hphase hdone h1 h2 hwhole => ?_, fun lane t hretry hdue => ?_, fun lane hst hrsync => ?_⟩
  · refine congrArg Host.Outcome.next ?_
    simp only [hon, hcyc, hcounted, hsplit, hactive, hring, Bool.not_true, Bool.or_self, Bool.true_or, Bool.and_self,
      Bool.false_eq_true, if_false, if_true]
  · refine congrArg Host.Outcome.next ?_
    simp only [hon, hcyc, hcounted, hsplit, hst, hring, hsupply, Bool.not_true, Bool.or_self, beq_self_eq_true, Bool.and_self,
      Bool.false_eq_true, if_false, if_true]
  · exact congrArg Host.Outcome.next (if_pos hcyc)
  · exact congrArg Host.Outcome.next (if_pos hcyc)
  · refine congrArg Host.Outcome.next ?_
    simp only [hon, hcyc, hsplit, hphase, Bool.not_true, Bool.or_self, beq_self_eq_true, Bool.false_eq_true, if_false, if_true]
  · refine congrArg Host.Outcome.next ?_
    simp only [hon, hcyc, hsplit, beq_eq_false_iff_ne.2 hidle, beq_eq_false_iff_ne.2 hemit, hvote, Bool.not_true, Bool.or_self,
      Bool.false_eq_true, if_false, State.recordSafe_eq]
    rfl
  · refine congrArg Host.Outcome.next ?_
    simp only [hon, hcyc, hsplit, beq_eq_false_iff_ne.2 hidle, beq_eq_false_iff_ne.2 hemit, hvote, Bool.not_true, Bool.or_self,
      Bool.false_eq_true, if_false, State.recordSafe_eq, Bool.not_eq_true']
  · have hrun := exec_telegramRelease s (sc1 := sc1) (sc2 := sc2) (comp := comp) (done := done) hcyc htosend hphase hconn rfl
    refine ⟨_, _, _, rfl, rfl, fun htyp => if_pos (beq_iff_eq.2 htyp), fun htyp hroles => ?_, fun r htyp hroles => ?_, hrun⟩
    · rw [if_neg (mt beq_iff_eq.1 htyp), hroles]
    · rw [if_neg (mt beq_iff_eq.1 htyp), hroles]
  · exact congrArg Host.Outcome.next (if_pos (by simp [hclosing, hlead]))
  · exact congrArg Host.Outcome.next (if_pos (by simp [hst, hrsync, hphase, hdone, h1, h2, hwhole]))
  · exact congrArg Host.Outcome.next (if_pos (by simp [hretry, hdue]))
  · exact congrArg Host.Outcome.next (if_pos (by simp [hst, hrsync]))

/-! ### The lanes' own checks -/

/-- Settles O17: each check of a lane, by what it found. -/
theorem laneChecksComplete : Obligations.LaneChecksComplete := by
  unfold Obligations.LaneChecksComplete
  intro s lane hup
  refine ⟨fun input core0 core1 hsplit => ?_, fun input core0 core1 hsplit => ?_, fun core0 core1 cmp harb hst => ⟨_, rfl, ?_⟩,
    fun harb => ?_, fun cmpOk bankOk hst hcheck harb hturn hlatched hsupply => ?_, fun hcyc hstarted hdone => ?_,
    ⟨_, rfl, ?_⟩, fun hwds => ?_, rfl, fun core => ?_, fun core => ?_, fun core => ?_, fun upper => ?_, fun upper => ?_⟩
  · refine congrArg Host.Outcome.next ((State.fed_of_cmUp _ hup).trans ?_)
    simp only [hsplit, Bool.false_eq_true, if_false]
    rfl
  · exact congrArg Host.Outcome.next ((State.fed_of_cmUp _ hup).trans (if_pos hsplit))
  · refine congrArg Host.Outcome.next ((if_pos (by simp [harb, hst])).trans ?_)
    cases core0 <;> cases core1 <;> simp
  · exact congrArg Host.Outcome.next (if_pos harb)
  · refine congrArg Host.Outcome.next ((if_pos (by simp [hst, hcheck, harb, hturn, hlatched, hsupply])).trans ?_)
    simp only [Bool.not_eq_true']
    rfl
  · exact congrArg Host.Outcome.next ((State.fed_of_cmUp _ hup).trans (if_pos (by simp [State.laneBusyCycle, hcyc, hstarted, hdone])))
  · refine congrArg Host.Outcome.next ((State.fed_of_cmUp _ hup).trans ?_)
    simp only [State.twoDrive, decide_eq_true_eq]
    rfl
  · exact congrArg Host.Outcome.next (if_pos hwds)
  · exact congrArg Host.Outcome.next (State.fed_of_cmUp _ hup)
  · exact congrArg Host.Outcome.next (State.fed_of_cmUp _ hup)
  · exact congrArg Host.Outcome.next (State.fed_of_cmUp _ hup)
  · exact congrArg Host.Outcome.next (State.fed_of_cmUp _ hup)
  · exact congrArg Host.Outcome.next (State.fed_of_cmUp _ hup)

/-! ### Supplies, timebases, token and dual-rail codes -/

/-- Settles O18: each event of a region, under the commons' supply. -/
theorem regionEventsComplete : Obligations.RegionEventsComplete := by
  unfold Obligations.RegionEventsComplete
  intro s hup
  refine ⟨fun lane hsupply => ?_, fun lane hsupply => ?_, ⟨_, rfl, ?_⟩, fun hservice => ⟨_, rfl, ?_⟩, fun hsv => ⟨_, rfl, ?_⟩,
    fun offs hoff hlost => ?_, fun offs hoff hlost => ?_, ?_, ?_, fun region block hin hmf => ?_, fun region hin => ?_⟩ <;>
    refine congrArg Host.Outcome.next ((State.fed_of_cmUp _ hup).trans ?_)
  · exact if_pos hsupply
  · exact if_neg (Bool.eq_false_iff.1 hsupply)
  · rfl
  · exact if_pos hservice
  · rw [if_neg (Bool.eq_false_iff.1 hsv)]
    simp only [Bool.not_eq_true']
  · simp only [beq_eq_false_iff_ne.2 hoff, hlost, Bool.false_eq_true, if_false]
  · simp only [hoff, hlost, beq_self_eq_true, Bool.false_eq_true, if_false, if_true]
  · rfl
  · rfl
  · simp only [hin, beq_eq_false_iff_ne.2 hmf, Bool.not_true, Bool.false_eq_true, if_false]
  · simp only [hin, beq_self_eq_true, Bool.not_true, Bool.false_eq_true, if_false, if_true]

/-! ### Fault collection -/

section collect
variable {s : State} {f : Fsid}

theorem exec_faultEventCollected (hup : s.cmUp = true) : exec (.faultEventCollected f) s = .next
    (if numbered f then s.collect f
     else if located f then
       if f.block == 0x20 then s.firmwareFault f
       else (s.collectFull f (Config.openClass (fword f + 1) % 6) none none none).2
     else s) :=
  congrArg Host.Outcome.next (State.fed_of_cmUp _ hup)

theorem exec_faultEventCollected_firmware (hup : s.cmUp = true) (hnumbered : numbered f = false) (hlocated : located f = true)
    (hblock : f.block = 0x20) : exec (.faultEventCollected f) s = .next (s.firmwareFault f) := by
  rw [exec_faultEventCollected hup]
  simp only [hnumbered, hlocated, hblock, beq_self_eq_true, Bool.false_eq_true, if_false, if_true]

/-- The faulty firmware's event is collected, and the request at the head answered. -/
theorem State.firmwareFault_eq {d : State} (hd : d = (s.collectFull f 1 none none none).2) :
    (∀ mb, d.serving = true → d.nextBox = some mb → s.firmwareFault f = (d.respond mb 0x80F0 []).settle) ∧
    (d.serving = false ∨ d.nextBox = none → s.firmwareFault f = d) := by
  subst hd
  refine ⟨fun mb hserve hnext => ?_, ?_⟩
  · simp only [State.firmwareFault, hserve, hnext, if_true]
  · rintro (hserve | hnext)
    · simp only [State.firmwareFault, hserve, Bool.false_eq_true, if_false]
    · simp only [State.firmwareFault, hnext, ite_self]

end collect

/-- Settles O19: each event of the collectors, by its guard. -/
theorem faultEventsComplete : Obligations.FaultEventsComplete := by
  unfold Obligations.FaultEventsComplete
  intro s
  refine ⟨fun f hup hnumbered => ?_, fun f hup hnumbered hlocated hblock => ?_, fun f d hup hnumbered hlocated hblock hd => ?_,
    fun f hup hnumbered hreaches => ?_, fun f => rfl, fun hsafe => ?_, rfl, fun lane seq => rfl, fun seq g hg => ⟨_, _, rfl, rfl, ?_⟩,
    fun block pass x hx => ⟨_, rfl, ?_⟩, fun agree illegal conducting hup => ⟨_, rfl, ?_⟩, fun hcyc hactive hlim hdue => ?_,
    fun lane hcyc hhold hactive hdue => ⟨_, rfl, ?_⟩⟩
  · rw [exec_faultEventCollected hup, if_pos hnumbered]
  · rw [exec_faultEventCollected hup, if_neg (Bool.eq_false_iff.1 hnumbered), if_pos hlocated, if_neg (mt beq_iff_eq.1 hblock)]
  · rw [exec_faultEventCollected_firmware hup hnumbered hlocated hblock]
    obtain ⟨hanswered, halone⟩ := State.firmwareFault_eq hd
    exact ⟨fun mb hserve hnext => congrArg Host.Outcome.next (hanswered mb hserve hnext),
      fun hno => congrArg Host.Outcome.next (halone hno)⟩
  · exact congrArg Host.Outcome.next ((State.fed_of_cmUp _ hup).trans (if_pos (by simp [hnumbered, hreaches])))
  · exact congrArg Host.Outcome.next (if_pos (by simp [hsafe]))
  · refine congrArg Host.Outcome.next ?_
    simp only [hg]
    rfl
  · refine congrArg Host.Outcome.next ?_
    simp only [hx]
  · refine congrArg Host.Outcome.next ((State.fed_of_cmUp _ hup).trans ?_)
    simp only [List.any_eq_true, Bool.and_eq_true, Bool.or_eq_true, Bool.not_eq_true']
  · exact congrArg Host.Outcome.next (if_pos (by simp [hcyc, hactive, hlim, hdue]))
  · refine congrArg Host.Outcome.next ((if_pos (by simp [hcyc, hhold, hactive, hdue])).trans ?_)
    simp only [Bool.and_eq_true, Bool.not_eq_true', decide_eq_true_eq]
    rfl

end Sys2Proof.Machine
end


section
/-! The timers of elements and routes and the stages of the vital inputs (02 R48 to R62, R70, R71, 03 R84 to R101, 06 R181 to
R199). -/

namespace Sys2Proof.Machine

/-! ### Element timers -/

/-- An event of an element that makes e of it. -/
theorem State.elemEvent_eq {s : State} {n : Nat} {e0 e : Elem} {f : Elem → Elem} (he0 : s.elem? n = some e0) (hf : f e0 = e) :
    s.elemEvent n f = elemChanged s n e0 e := by
  subst hf
  simp only [State.elemEvent, he0]
  rfl

/-- Settles O20: the event of each timer, on the body that it finds. -/
theorem elementTimersComplete : Obligations.ElementTimersComplete := by
  unfold Obligations.ElementTimersComplete
  intro s n e he
  refine ⟨fun b hb hmoving hdue hpos => ?_, fun b hb hdue hheld hshown => ?_, fun b hb hvalid h0 hdue => ?_,
    fun b hb hvalid h0 h1 hdue hocc => ?_, fun b hb hrst hdue => ?_, fun b hb hclosing hvalid hdue hproved => ?_,
    fun b hb hlock hclaim hdue hclosed hfault => ?_, fun b hb hstate hout hdue => ?_⟩ <;>
    refine congrArg Host.Outcome.next (State.elemEvent_eq he ?_) <;> simp only [hb]
  · exact if_pos (by simp [hmoving, hdue, hpos])
  · refine if_pos ?_
    rw [← bne_iff_ne, ← bne_iff_ne] at hshown
    simp only [hdue, hheld, Bool.not_false, Bool.and_self, Bool.true_and, Bool.or_eq_true, hshown]
  · exact if_pos (by simp only [hvalid, h0, hdue, Bool.and_self])
  · refine if_pos ?_
    rcases hocc with hocc | ⟨hocc, hswept⟩
    · simp only [hvalid, h0, h1, hdue, hocc, Bool.and_self, beq_self_eq_true, Bool.true_or]
    · simp only [hvalid, h0, h1, hdue, hocc, hswept, Bool.and_self, beq_self_eq_true, Bool.or_true]
  · exact if_pos (by simp [hrst, hdue])
  · refine if_pos ?_
    have hunproved : (e.curin.getLsbD 0 && e.curin.getLsbD 1 && e.curin.getLsbD 2) = false := by
      rw [Bool.eq_false_iff]
      simpa only [ne_eq, Bool.and_eq_true, and_assoc] using hproved
    simp only [hclosing, hvalid, hdue, hunproved, Bool.and_self, beq_self_eq_true, Bool.not_false]
  · exact if_pos (by simp only [holdOpen, hlock, hclaim, hdue, hclosed, hfault, beq_self_eq_true, Bool.and_self])
  · exact if_pos (by simp only [hstate, hout, hdue, beq_self_eq_true, Bool.and_self])

/-! ### Route timers -/

/-- A timer of a route in one of its states, due, moves it on. -/
theorem State.routeEvent_eq {s : State} {r : Nat} {t : RouteEntry} {states : List Nat} {due : RouteEntry → RouteCell → Bool}
    (ht : s.entry? r = some t) (hstate : (s.cellRec r).rstate ∈ states) (hdue : due t (s.cellRec r) = true) :
    s.routeEvent r states due = routeMoved s r t := by
  simp only [State.routeEvent, ht, List.contains_iff_mem.2 hstate, hdue, Bool.and_self, if_true]
  rfl

/-- Settles O21: each timer's state and preset, and the watch of a quiet RELEASING route. -/
theorem routeTimersComplete : Obligations.RouteTimersComplete := by
  unfold Obligations.RouteTimersComplete
  intro s r t ht
  refine ⟨fun hstate hdue => ?_, fun hstate hpre hdue => ?_, fun hstate hdue hdanger => ?_, fun hstate hgroups hused hover hsome => ?_,
    fun hquiet => ⟨_, rfl, ?_⟩⟩
  · exact congrArg Host.Outcome.next (State.routeEvent_eq ht (by simp [hstate]) hdue)
  · exact congrArg Host.Outcome.next (State.routeEvent_eq ht (by simp [hstate]) (by simp [hpre, hdue]))
  · refine congrArg Host.Outcome.next (State.routeEvent_eq ht ?_ ?_)
    · rcases hstate with h | ⟨h | h, -⟩ <;> simp [h]
    · rcases hstate with h | ⟨-, h⟩ <;> simp [hdue, hdanger, h]
  · obtain ⟨o, ho⟩ := Option.ne_none_iff_exists'.1 hsome
    exact congrArg Host.Outcome.next (State.routeEvent_eq ht (by simp [hstate]) (by simp [hgroups, hused, ho, hover o ho]))
  · exact congrArg Host.Outcome.next ((State.quietCheck_due hquiet).trans rfl)

/-! ### Vital inputs -/

section filter
variable {out v : Bool} {tfilt : Nat} {ch : ChSt}

theorem ChSt.sample_hist : (ChSt.sample false out tfilt ch v).hist = (v :: ch.hist).take 256 := by
  simp only [ChSt.sample, Bool.false_and, Bool.false_eq_true, if_false]
  split
  · split <;> rfl
  · rfl

/-- The latest samples of a run of one level show that level. -/
theorem ChSt.take_hist_foldl {n : Nat} (hn : n ≤ 256) :
    (((List.replicate n v).foldl (ChSt.sample false out tfilt) ch).hist).take n = List.replicate n v := by
  induction n with
  | zero => rfl
  | succ n ih =>
    rw [List.replicate_succ', List.foldl_append, List.foldl_cons, List.foldl_nil, ChSt.sample_hist, List.take_take,
      Nat.min_eq_left hn, List.take_succ_cons, ih (by omega), ← List.replicate_succ, List.replicate_succ']

/-- The filtered value takes a level that all of its samples show. -/
theorem ChSt.sample_settles (h : ((v :: ch.hist).take 256).take (tfilt + 1) = List.replicate (tfilt + 1) v) :
    if out then (ChSt.sample false out tfilt ch v).fx = v else (ChSt.sample false out tfilt ch v).filt = v := by
  have hall : ((List.replicate (tfilt + 1) v).length == tfilt + 1 && (List.replicate (tfilt + 1) v).all (· == v)) = true := by
    simp
  cases out <;>
    simp only [ChSt.sample, Bool.false_and, Bool.false_eq_true, if_false, h, hall, if_true]

theorem ChSt.foldl_settles (ht : tfilt < 256) :
    if out then ((List.replicate (tfilt + 1) v).foldl (ChSt.sample false out tfilt) ch).fx = v
    else ((List.replicate (tfilt + 1) v).foldl (ChSt.sample false out tfilt) ch).filt = v := by
  rw [List.replicate_succ', List.foldl_append, List.foldl_cons, List.foldl_nil]
  refine ChSt.sample_settles ?_
  rw [List.take_take, Nat.min_eq_left (by omega), List.take_succ_cons, ChSt.take_hist_foldl (by omega), List.replicate_succ]

/-- One tick of a frame that falls in the cell's own pulse window repeats the sample before it. -/
theorem ChSt.sample_held (h : ch.ownTick = false) : ChSt.sample true false tfilt ch v =
    { ChSt.sample false false tfilt ch (ch.hist.headD v) with ownTick := true } := by
  simp only [ChSt.sample, h, Bool.not_false, Bool.and_self, Bool.false_and, Bool.or_true, Bool.or_false, if_true,
    Bool.false_eq_true, if_false]
  split <;> rfl

theorem ChSt.sample_after_held (h : ch.ownTick = true) :
    ChSt.sample true false tfilt ch v = ChSt.sample false false tfilt ch v := by
  simp only [ChSt.sample, h, Bool.not_true, Bool.and_false]

end filter

/-- Settles O22: each event of the input stages, by its guard. -/
theorem inputStagesComplete : Obligations.InputStagesComplete := by
  unfold Obligations.InputStagesComplete
  intro s hon
  refine ⟨fun lane us ticks hmarks hfirst hcounted => ⟨_, rfl, ?_⟩, fun cell on hrun hslot hcell hunder hpulse => ⟨_, rfl, ?_⟩,
    fun cell dropped hpulse => ?_, fun slot dropped recovered nextOn sxFell sxBack hpulse => ⟨_, _, _, rfl, rfl, rfl, ?_⟩,
    fun cell hcell hused hunder => ?_, fun lane cell samples hcell hused => ?_,
    fun v tfilt ch ht => ⟨ChSt.foldl_settles (out := false) ht, ChSt.foldl_settles (out := true) ht, ChSt.sample_held,
      ChSt.sample_after_held⟩,
    fun lane cell hactive hdis => ?_, fun lane cell t0 hrun hpair hlatch hsusp hab htd => ?_, fun bank high hbank => ⟨_, _, rfl, rfl, ?_⟩,
    fun bank hout => ?_⟩ <;> refine congrArg Host.Outcome.next ?_
  · have hslot : s.slotCounted ticks = true := by
      cases hr : s.frame.running with
      | false => simp [State.slotCounted, hr]
      | true => simp [State.slotCounted, hcounted hr]
    simp only [hmarks, hfirst, hon, hslot, Bool.not_true, Bool.or_self, Bool.false_eq_true, if_false]
  · exact (if_pos (by simp [hrun, hslot, Config.nCells, hcell, hunder, hpulse])).trans rfl
  · exact if_pos (by simp [hpulse])
  · exact (if_pos (by simp [hpulse])).trans rfl
  · exact if_pos (by simp [Config.nCells, hcell, hused, hunder, hon])
  · refine (if_pos (by simp [Config.nCells, hcell, hused, hon])).trans ?_
    simp only [State.ownWindow, Bool.decide_and, Bool.beq_eq_decide_eq]
  · exact if_pos (by simp [hactive, hdis])
  · simp only [hrun]
    exact if_pos (by simp [hpair, hlatch, hsusp, hab, htd])
  · exact (if_pos (by simp [hbank, hon])).trans rfl
  · exact if_pos (by simp [hout, hon])

end Sys2Proof.Machine
end


section
/-! The output rounds, the faults of the output cells, and their reactions (07 R210 to R228). -/

namespace Sys2Proof.Machine

/-- Settles O23: each mark, position and step's end, by its guard. -/
theorem outputRoundsComplete : Obligations.OutputRoundsComplete := by
  unfold Obligations.OutputRoundsComplete
  intro s hon
  refine ⟨fun lane hactive hmark hcounted => ⟨_, rfl, ?_⟩, fun cell lane hmissed => ?_,
    fun bank midOk hbank hrounds hpos hstep hdue hcyc => ⟨_, _, _, rfl, rfl, rfl, ?_⟩,
    fun bank x current hx hdark => ⟨_, _, rfl, rfl, ?_⟩,
    fun bank x mids current pxOn hx hlight => ⟨_, _, _, _, _, _, rfl, rfl, rfl, rfl, rfl, rfl, ?_⟩, fun bank hbank => ?_⟩ <;>
    refine congrArg Host.Outcome.next ?_
  · simp only [hactive, hmark, hon, hcounted, Bool.not_true, Bool.or_self, Bool.false_eq_true, if_false]
  · exact if_pos hmissed
  · exact (if_pos (by simp [hbank, hrounds, hpos, hdue, hstep, hcyc, hon])).trans rfl
  · simp only [hx, hdark, Bool.not_true, Bool.false_eq_true, if_false]
  · simp only [hx, hlight, Bool.false_eq_true, if_false, Bool.and_eq_true, List.isEmpty_iff, Bool.not_eq_true', and_assoc, beq_iff_eq]
  · exact if_pos (by simp [hbank, hon])

/-! ### Readback channels -/

section readback
variable {s d : State} {cell : Nat} {lane : Lane} {v : Bool}

/-- One conversion: the channel's reading, and at the third in succession that differs the fault. -/
theorem State.readOne_eq (hunder : (s.cell cell).under = false) (hd : d = s.updCh cell lane (ChSt.readPx (s.cell cell).eff v))
    (hunder' : (d.cell cell).under = (s.cell cell).under) :
    s.readOne cell lane v = if ((d.cell cell).ch.get lane).diff = 3 then d.readFault cell else d := by
  subst hd
  simp only [State.readOne, hunder', hunder, Bool.not_false, Bool.and_true, beq_iff_eq]

/-- A channel of a cell changed: its drive and its place under the cloche are not. -/
theorem State.updCh_cell (f : ChSt → ChSt) : ((s.updCh cell lane f).cell cell).under = (s.cell cell).under ∧
    ((s.updCh cell lane f).cell cell).eff = (s.cell cell).eff := by
  rw [State.updCh, State.cell_updCell]
  split <;> exact ⟨rfl, rfl⟩

end readback

/-- Settles O24: each fault of a used output cell, by its guard. -/
theorem outputFaultsComplete : Obligations.OutputFaultsComplete := by
  unfold Obligations.OutputFaultsComplete
  intro s cell hon hcell hout
  have hcells : decide (cell < Config.nCells) = true := decide_eq_true hcell
  refine ⟨fun path high heff hunder hstep hrail hfsv => ?_, fun path hunder hlanes => ?_,
    fun lane samples n hunder hstep hst hsettle hn => ?_, fun lane v d hunder hd => ?_,
    fun t cells hcut hin hdue hprot => ?_, fun cause => ?_, ?_, fun lane hdiffers hunder hmarks hend => ?_⟩
  · exact congrArg Host.Outcome.next (if_pos (by simp [hcells, hout, heff, hunder, hstep, hrail, hfsv, hon]))
  · refine congrArg Host.Outcome.next (if_pos ?_)
    rw [← Bool.and_eq_true, Bool.not_eq_true, ← Bool.not_eq_true'] at hlanes
    exact Bool.and_eq_true_iff.2 ⟨by simp only [hcells, hout, hunder, hon, Bool.not_false, Bool.and_self], hlanes⟩
  · subst hn
    exact congrArg Host.Outcome.next (if_pos (by simp [State.samples, hcells, hout, hunder, hstep, hst, hsettle, hon]))
  · have hread := State.readOne_eq hunder hd (by rw [hd, (State.updCh_cell _).1])
    have hkept : (d.cell cell).eff = (s.cell cell).eff := by rw [hd, (State.updCh_cell _).2]
    refine ⟨fun hfew => by rw [hread, if_neg hfew], fun hthird heff => ?_, fun hthird heff => ?_⟩
    · rw [hread, if_pos hthird, State.readFault, if_pos (hkept.trans heff)]
    · rw [hread, if_pos hthird, State.readFault, if_neg (Bool.eq_false_iff.1 (hkept.trans heff))]
  · refine congrArg Host.Outcome.next ?_
    simp only [hcut]
    exact (if_pos (by simp only [hin, hdue, hprot, decide_true, Bool.and_self])).trans rfl
  · exact congrArg Host.Outcome.next (if_pos (by simp only [hcells, hout, hon, Bool.and_self]))
  · exact congrArg Host.Outcome.next (if_pos (by simp only [hcells, hout, hon, Bool.and_self]))
  · exact congrArg Host.Outcome.next (if_pos (by simp only [hcells, hdiffers, hunder, hmarks, hend, hon, Bool.not_false, decide_true, Bool.and_self]))

end Sys2Proof.Machine
end


section
/-! The telegram engine, the ring supervision and the switch (08 R229 to R260, 01 R36). -/

namespace Sys2Proof.Machine

/-! ### The telegram engine -/

section telegrams
variable {s : State} {net : Net} {f : Frame} {us : Nat}

theorem State.notOwn_own {k : State} (h : f.gvt.src.toNat = s.id.modaddr) :
    s.notOwn f k = if f.gvt.serial ≠ s.id.serial ∧ f.fcsOk = true then s.duplicate else s := by
  rw [State.notOwn, if_pos (beq_iff_eq.2 h)]
  by_cases hserial : f.gvt.serial = s.id.serial
  · simp [hserial]
  · cases hfcs : f.fcsOk <;> simp [hserial]

/-- A GVT frame that reaches the telegram engine. -/
theorem exec_frameReceived (hup : s.cmUp = true) (hnet : s.netUp net = true) (hreset : s.tgReset = false)
    (hgvt : isGvt f = true) : exec (.frameReceived net f us) s = .next (s.notOwn f <|
      if f.gvt.typ == 8 || f.gvt.typ == 9 || f.gvt.typ == 0xE then s
      else if f.gvt.typ == 2 && f.gvt.conn == 0 && s.paired then s
      else if !(1 ≤ f.gvt.typ && f.gvt.typ ≤ 3) || !s.frameOk net f then s.discard f.gvt
      else
        match s.identify f.gvt with
        | none => s
        | some (k, p) =>
          if f.gvt.len == k.len && f.gvt.payload.length == f.gvt.len && s.macOk k f.gvt then
            s.arrive k p ⟨f.gvt, s.time.ot * 1000 + us % 1000, net⟩
          else s.discard f.gvt) := by
  refine congrArg Host.Outcome.next ((if_neg ?_).trans rfl)
  simp only [hup, hnet, hreset, hgvt, Bool.not_true, Bool.or_self, Bool.false_eq_true, not_false_iff]

theorem pairBeat_false (h : ¬ (f.gvt.typ = 2 ∧ f.gvt.conn = 0 ∧ s.paired = true)) :
    (f.gvt.typ == 2 && f.gvt.conn == 0 && s.paired) = false := by
  rw [Bool.eq_false_iff]
  simpa only [ne_eq, Bool.and_eq_true, beq_iff_eq, and_assoc] using h

end telegrams

/-- Settles O25: a frame by its source, TYPE and checks; a held copy and a silent network by their time. -/
theorem telegramsComplete : Obligations.TelegramsComplete := by
  unfold Obligations.TelegramsComplete
  intro s hup
  refine ⟨fun net f us hnet hreset hgvt hsrc => ?_, fun net f us hnet hreset hgvt hsrc h1 h3 hbeat hok k p hid => ?_,
    fun net f us hnet hreset hgvt hsrc h8 h9 he hbeat hbad => ?_, fun conn peer2 c k x hc hk hx hdue => ?_,
    fun conn c r hc hr hvalid => ⟨fun hold hnew hsilent => ?_, fun hold hnew hsilent => ?_⟩⟩
  · rw [exec_frameReceived hup hnet hreset hgvt, State.notOwn_own hsrc]
  · have htype : (f.gvt.typ == 8 || f.gvt.typ == 9 || f.gvt.typ == 0xE) = false := by
      simp only [Bool.or_eq_false_iff, beq_eq_false_iff_ne]
      omega
    rw [exec_frameReceived hup hnet hreset hgvt, State.notOwn_foreign hsrc]
    simp only [htype, pairBeat_false hbeat, h1, h3, hok, hid, decide_true, Bool.and_self, Bool.not_true, Bool.or_self,
      Bool.false_eq_true, if_false, Bool.and_eq_true, beq_iff_eq, and_assoc]
  · have hcheck : (!(decide (1 ≤ f.gvt.typ) && decide (f.gvt.typ ≤ 3)) || !s.frameOk net f) = true := by
      rw [← Bool.not_and, Bool.not_eq_true', Bool.eq_false_iff]
      simpa only [ne_eq, Bool.and_eq_true, decide_eq_true_eq, and_assoc] using hbad
    rw [exec_frameReceived hup hnet hreset hgvt, State.notOwn_foreign hsrc]
    simp only [beq_eq_false_iff_ne.2 h8, beq_eq_false_iff_ne.2 h9, beq_eq_false_iff_ne.2 he, pairBeat_false hbeat, hcheck,
      Bool.or_self, Bool.false_eq_true, if_false, if_true]
  · refine congrArg Host.Outcome.next ?_
    simp only [hc, hk, hx, hdue, if_true]
  · refine congrArg Host.Outcome.next ?_
    simp only [hc, hr, hvalid, hup, hold, Nat.not_le.2 hnew, hsilent, beq_self_eq_true, decide_true, decide_false, Bool.and_self,
      Bool.not_false, if_true]
  · refine congrArg Host.Outcome.next ?_
    simp only [hc, hr, hvalid, hup, hold, Nat.not_le.2 hnew, hsilent, beq_self_eq_true, decide_true, decide_false, Bool.and_self,
      Bool.not_false, Bool.not_true, Bool.false_and, Bool.false_eq_true, if_false, if_true]

/-! ### Ring and switch -/

/-- A RINGTEST that passes the checks of the ring supervision. -/
theorem exec_ringtestReceived {s : State} {net : Net} {port2 : Bool} {f : Frame} (hup : s.cmUp = true) (hnet : s.netUp net = true)
    (hlink : (s.net net).link.sel port2 = true) (hfcs : f.fcsOk = true) (hlength : f.lengthOk = true) (hver : f.gvt.ver = 1)
    (htyp : f.gvt.typ = 0xE) (hcrc : crcOkGvt f.gvt = true) (hcarriage : s.carriageOk net f = true)
    (hreserved : reservedOk f.gvt = true) : exec (.ringtestReceived net port2 f) s = .next (
      if f.gvt.src.toNat == s.id.modaddr && f.gvt.serial != s.id.serial then s.duplicate
      else if s.manager net then
        if port2 && f.gvt.src.toNat == s.id.modaddr then s.updNet net (NetSt.ringBack s.time.ot) else s
      else if (s.set.nets.at net).ringmode == 1 then
        State.updNet (if f.gvt.payload.head? == some 2 then s.updNet net NetSt.flush else s) net
          fun x => (x.learn f.srcMac (if port2 then 2 else 1) s.time.ot).queueTo f (if port2 then 1 else 2)
      else s) := by
  refine congrArg Host.Outcome.next ((if_neg ?_).trans ?_)
  · simp [hup, hnet, hlink, hfcs, hlength, hver, htyp, hcrc, hcarriage, hreserved]
  · cases f.gvt.payload.head? == some 2 <;> rfl

/-- Settles O26: each event of a ring or of the switch, by its guard. -/
theorem ringAndSwitchComplete : Obligations.RingAndSwitchComplete := by
  unfold Obligations.RingAndSwitchComplete
  intro s net hup
  refine ⟨fun hmanager hnet hsent => ?_, fun port2 f hnet hlink hfcs hlength hver htyp hcrc hcarriage hreserved => ?_,
    fun hmanager hblocked hlast => ⟨_, _, rfl, rfl, ?_⟩, fun t u hmanager hblocked hsince hlong hlast hrecent => ?_,
    fun port2 up => ?_, fun port2 f hnet hfcs hlength hring => ?_, fun mac => rfl⟩
  · refine congrArg Host.Outcome.next (if_pos ?_)
    have hdue : (s.net net).ringsent.all (fun t => t + 2 ≤ s.time.ot) = true := by
      cases h : (s.net net).ringsent with
      | none => rfl
      | some t => exact decide_eq_true (hsent t h)
    simp only [hmanager, hup, hnet, hdue, Bool.and_self]
  · rw [exec_ringtestReceived hup hnet hlink hfcs hlength hver htyp hcrc hcarriage hreserved]
    have hnotOwn (h : f.gvt.src.toNat ≠ s.id.modaddr ∨ f.gvt.serial = s.id.serial) :
        ¬ (f.gvt.src.toNat == s.id.modaddr && f.gvt.serial != s.id.serial) = true := by
      simp only [Bool.and_eq_true, beq_iff_eq, bne_iff_ne]
      rintro ⟨hsrc, hserial⟩
      exact h.elim (fun hn => hn hsrc) hserial
    refine ⟨fun hsrc hserial => ?_, fun hsrc hmanager => ?_, fun hsrc hmanager hmode => ?_⟩
    · rw [if_pos (by simp [hsrc, hserial])]
    · rw [if_neg (hnotOwn hsrc), if_pos hmanager]
      simp only [Bool.and_eq_true, beq_iff_eq]
    · rw [if_neg (hnotOwn hsrc), if_neg (Bool.eq_false_iff.1 hmanager), if_pos (beq_iff_eq.2 hmode)]
      simp only [beq_iff_eq]
  · refine congrArg Host.Outcome.next ((if_pos ?_).trans rfl)
    have hbroken : ((s.net net).ringlast.any fun t => s.time.ot < t + 6) = false := by
      cases h : (s.net net).ringlast with
      | none => rfl
      | some t => exact decide_eq_false (Nat.not_lt.2 (hlast t h))
    simp only [hmanager, hblocked, hup, hbroken, Bool.not_false, Bool.and_self]
  · exact congrArg Host.Outcome.next (if_pos (by simp [hmanager, hblocked, hup, hsince, hlong, hlast, hrecent]))
  · exact congrArg Host.Outcome.next (if_pos hup)
  · refine congrArg Host.Outcome.next (if_pos ?_)
    have hother : (isGvt f && f.gvt.typ == 0xE && (s.set.nets.at net).ringmode != 0) = false := by
      rcases hring with h | h | h
      · simp only [h, Bool.false_and]
      · simp only [beq_eq_false_iff_ne.2 h, Bool.and_false, Bool.false_and]
      · simp only [h, bne_self_eq_false, Bool.and_false]
    simp only [hup, hnet, hfcs, hlength, hother, Bool.not_false, Bool.and_self]

end Sys2Proof.Machine
end


section
/-! The pair: the messages that the pair link hands on, heartbeats, links and the pair's timers (09 R263 to R284, 11 R322, 01
R36). -/

namespace Sys2Proof.Machine

/-- Settles O27: each message, by its code and by the copy that came first. -/
theorem pairMessagesComplete : Obligations.PairMessagesComplete := by
  unfold Obligations.PairMessagesComplete
  intro s hon hlink
  refine ⟨fun m us hcrc hnotPacer hnew => ?_, fun m us hpacer hlead => ?_, fun m us htaken => ?_, fun m us hcrc => ?_,
    fun m hnotLead => ?_, fun m => ?_, fun ok h => ?_, fun c => ?_, fun c htook => ?_, fun c hnew => ?_, fun c htook => ?_,
    fun c hnew => ?_, fun id => ?_, ?_⟩ <;> refine congrArg Host.Outcome.next ?_
  · have hfollower : (s.pair.pacer && s.pair.st == .lead) = false := by
      rw [Bool.eq_false_iff]
      simpa only [ne_eq, Bool.and_eq_true, beq_iff_eq] using hnotPacer
    exact if_pos (by simp only [hon, hlink, hcrc, bne_iff_ne.2 hnew, hfollower, Bool.not_false, Bool.and_self])
  · exact if_neg (by simp [hpacer, hlead])
  · exact if_neg (by simp [htaken])
  · exact if_neg (by simp [hcrc])
  · have hcopy : (∃ b ∈ s.pair.blocks, b.pcyc = m.pcyc ∧ b.index = m.index) ↔
        (s.pair.blocks.any fun b => b.pcyc == m.pcyc && b.index == m.index) = true := by simp
    have hlate : (∃ b ∈ s.pair.blocks, serialAfter 64 b.pcyc m.pcyc = true) ↔
        (s.pair.blocks.any fun b => serialAfter 64 b.pcyc m.pcyc) = true := by simp
    simp only [hon, hlink, bne_iff_ne.2 hnotLead, hcopy, hlate]
    cases m.crcOk <;> cases s.pair.blocks.any fun b => b.pcyc == m.pcyc && b.index == m.index <;>
      cases s.pair.blocks.any fun b => serialAfter 64 b.pcyc m.pcyc <;> rfl
  · simp only [hon, hlink, Bool.true_and, Bool.and_eq_true, bne_iff_ne]
  · simp only [hon, hlink, Bool.true_and, Bool.and_eq_true, bne_iff_ne]
  · exact if_neg (by simp)
  · exact (if_pos (by simp [hon, hlink])).trans (if_pos htook)
  · refine (if_pos (by simp [hon, hlink])).trans ((if_neg (Bool.eq_false_iff.1 hnew)).trans ?_)
    by_cases hroom : s.trl.ops.length < 256
    · exact (if_pos hroom).trans (by rw [if_pos hroom]; rfl)
    · exact (if_neg hroom).trans (by rw [if_neg hroom]; rfl)
  · exact (if_pos (by simp [hon, hlink])).trans (if_pos htook)
  · exact (if_pos (by simp [hon, hlink])).trans ((if_neg (Bool.eq_false_iff.1 hnew)).trans rfl)
  · exact (if_pos (by simp [hon, hlink])).trans rfl
  · exact (if_pos (by simp [hon, hlink])).trans rfl

/-- Settles O28: each event of the pair, by its guard. -/
theorem pairTimersComplete : Obligations.PairTimersComplete := by
  unfold Obligations.PairTimersComplete
  intro s hup
  refine ⟨fun net f htakes hfcs hsrc hserial => ?_, fun net f hon hhanded hsrc => ?_, fun link2 hlink => ?_,
    fun link2 k hoptic hother hrole => ?_, fun link2 kind => ⟨_, rfl, ?_⟩, fun hon hsilent hmay => ?_,
    fun hon hinstep hst => ?_, fun hon hlead hboth => ?_, fun t hon hst hhome hlead hjoining hjoin hdue => ?_, fun hmay => ?_,
    fun a t hbound happly hlisted hot hfar hdue => ?_⟩ <;> refine congrArg Host.Outcome.next ?_
  · refine (if_neg (by simp [htakes])).trans ?_
    exact State.notOwn_duplicate hsrc hserial hfcs
  · refine (if_neg (by simp [State.handedOn_taken hhanded])).trans ((State.notOwn_foreign hsrc).trans ?_)
    simp only [hon, hhanded, Bool.true_and]
  · exact if_pos (by simp [hup, hlink])
  · exact if_pos (by simp [hup, hoptic, hother, hrole])
  · refine (if_pos hup).trans ?_
    simp only [beq_iff_eq]
  · exact if_pos (by simp [hon, hsilent, hmay])
  · refine (if_pos ?_).trans rfl
    rcases hst with h | h <;> simp [hon, hinstep, h]
  · exact (if_pos (by simp [hon, hlead, hboth])).trans rfl
  · exact if_pos (by simp [hon, hst, hhome, hlead, hjoining, hjoin, hdue])
  · exact if_pos hmay
  · refine (if_pos (by simp [hbound, happly, hlisted, hfar, hot, hdue])).trans ?_
    simp only [State.retryApply, happly]

end Sys2Proof.Machine
end


section
/-! Local transfers of the span bridge, and the tunnels (13 R365 to R382). -/

namespace Sys2Proof.Machine

/-! ### The span bridge -/

section bridge
variable {s : State} {win off len : Nat} {data : Bytes}

theorem State.sbIssueWrite_write : s.sbIssueWrite .sp win off 2 data =
    match s.sbRefusal .sp win off 2 data.length with
    | some st => s.sbAnswer .sp win off 2 st (st == 3) []
    | none => (s.spoil win off data.length).sbTake .sp win off 2 data.length data := by
  unfold State.sbIssueWrite
  cases s.sbRefusal .sp win off 2 data.length <;> rfl

theorem State.sbIssueWrite_posted : s.sbIssueWrite .sp win off 3 data =
    match s.sbRefusal .sp win off 3 data.length with
    | some st => if st = 5 then s.postedOff win off data else s.sbAnswer .sp win off 3 st (st == 3) []
    | none => (s.spoil win off data.length).sbTake .sp win off 3 data.length data := by
  unfold State.sbIssueWrite
  cases s.sbRefusal .sp win off 3 data.length with
  | none => rfl
  | some st =>
    by_cases h : st = 5
    · subst h
      rfl
    · exact (if_neg (by simp [h])).trans (if_neg h).symm

theorem State.sbIssueRead_refused {ini : Initiator} {st : Nat} (h : s.sbRefusal ini win off 1 len = some st) :
    s.sbIssueRead ini win off len = s.sbAnswer ini win off 1 st (st == 3) [] := by
  simp only [State.sbIssueRead, h]

theorem State.sbIssueRead_held {ini : Initiator} {r : HeldRes} (h : s.sbRefusal ini win off 1 len = none)
    (hheld : s.bridge.held.find? (sameRead ini win off len) = some r) : s.sbIssueRead ini win off len =
    (s.updBridge fun b => { b with held := b.held.filter fun x => !sameRead ini win off len x }).sbAnswer
      ini win off 1 r.fstat false r.data := by
  simp only [State.sbIssueRead, h, hheld]

theorem State.sbIssueRead_fetches {ini : Initiator} (h : s.sbRefusal ini win off 1 len = none)
    (hheld : s.bridge.held.find? (sameRead ini win off len) = none)
    (hfetch : (s.fetching.any fun x => x.ini == ini && x.win == win && x.off == off && x.len == len) = false)
    (hroom : s.bridge.held.length + s.fetching.length < 32) (hslots : s.bridge.out.length < 32) :
    s.sbIssueRead ini win off len = (s.sbAnswer ini win off 1 0 true []).sbTake ini win off 1 len [] := by
  simp only [State.sbIssueRead, h, hheld, hfetch, Nat.not_le.2 hroom, Nat.not_le.2 hslots, Bool.false_eq_true, if_false]

end bridge

/-- Settles O29: each request by its refusal, each transfer and held result by its timer. -/
theorem bridgeTransfersComplete : Obligations.BridgeTransfersComplete := by
  unfold Obligations.BridgeTransfersComplete
  intro s hup
  refine ⟨fun hsv => ?_, fun seq x t hx hsent hdue => ?_, fun seq x t hx hbusy hdue => ?_,
    fun vk win off len h hmem hsame hold => ?_⟩
  · have hserves : (s.cmUp && s.pow.sv) = true := by simp [hup, hsv]
    refine ⟨fun win off data => ?_, fun win off data => ?_, fun win off len st href => ?_, fun win off len h href hheld => ?_,
      fun win off len href hheld hfetch hroom hslots => ?_⟩ <;> refine congrArg Host.Outcome.next ((if_pos hserves).trans ?_)
    · exact State.sbIssueWrite_write
    · exact State.sbIssueWrite_posted
    · exact State.sbIssueRead_refused href
    · exact State.sbIssueRead_held href hheld
    · refine State.sbIssueRead_fetches href hheld (List.any_eq_false.2 fun x hx => ?_) hroom hslots
      simpa only [Bool.and_eq_true, beq_iff_eq, and_assoc] using hfetch x hx
  · refine congrArg Host.Outcome.next ?_
    simp only [hx]
    exact if_pos (by simp [hsent, hdue, hup])
  · refine congrArg Host.Outcome.next ?_
    simp only [hx]
    exact if_pos (by simp only [hbusy, Option.any_some, hdue, hup, decide_true, Bool.and_self])
  · refine congrArg Host.Outcome.next (if_pos ?_)
    rw [hup, Bool.and_true]
    exact List.any_eq_true.2 ⟨h, hmem, by simp only [hsame, hold, decide_true, Bool.and_self]⟩

/-! ### Tunnels -/

section tunnels
variable {s : State} {net : Net} {f : Frame}

/-- An intact frame for an enabled tunnel whose far end sent it. -/
theorem exec_tunnelFrameReceived (hhanded : s.handedOn net f = true) (htyp : f.gvt.typ = 9)
    (hsrc : f.gvt.src.toNat ≠ s.id.modaddr) (hblock : s.blockOut 0x1E = false) (hcrc : crcOkGvt f.gvt = true)
    (h1 : 1 ≤ f.gvt.conn) (h16 : f.gvt.conn ≤ 16) (henable : tEnable (s.tunnel (f.gvt.conn - 1)) = true)
    (hfar : (s.tunnel (f.gvt.conn - 1)).fmod = f.gvt.src.toNat) (hlp : s.blockOut 0x1B = false) :
    exec (.tunnelFrameReceived net f) s = .next (s.tunnelData (f.gvt.conn - 1) f.gvt) := by
  have htakes : (f.gvt.typ != 9 || !s.tgTakes net f) = false := by simp [htyp, State.handedOn_taken hhanded]
  have hconn : (f.gvt.conn == 0 || decide (16 < f.gvt.conn) || !tEnable (s.tunnel (f.gvt.conn - 1)) ||
      (s.tunnel (f.gvt.conn - 1)).fmod != f.gvt.src.toNat || s.blockOut 0x1B) = false := by
    have h0 : (f.gvt.conn == 0) = false := beq_eq_false_iff_ne.2 (by omega)
    simp [h0, Nat.not_lt.2 h16, henable, hfar, hlp]
  refine congrArg Host.Outcome.next ((if_neg (Bool.eq_false_iff.1 htakes)).trans ((State.notOwn_foreign hsrc).trans ?_))
  simp only [hhanded, hblock, hcrc, hconn, Bool.not_true, Bool.false_eq_true, if_false]

theorem State.tunnelData_runs (n : Nat) (g : Gvt) (hrun : s.tunnelsRun = true) : s.tunnelData n g =
    if g.payload = [] ∨ (s.tunnel n).taken = some g.seq then s.updTunnel n (Tunnel.hear s.time.ot)
    else if 1500 < g.payload.length ∨ (s.tunnel n).newer g.seq = false then
      (s.updTunnel n (Tunnel.hear s.time.ot)).updTunnel n fun t => { t with ndisc := satInc 32 t.ndisc }
    else if 8 ≤ (s.tunnel n).queue.length then
      State.collect (((s.updTunnel n (Tunnel.hear s.time.ot)).updTunnel n fun t => { t with taken := some g.seq }).updTunnel n
        fun t => { t with ndisc := satInc 32 t.ndisc }) (fLp (s.tunnel n).port 0x02)
    else ((s.updTunnel n (Tunnel.hear s.time.ot)).updTunnel n fun t => { t with taken := some g.seq }).updTunnel n
      fun t => { t with queue := t.queue ++ [g.payload], nrecv := satInc 32 t.nrecv } := by
  simp only [State.tunnelData, hrun, Bool.not_true, Bool.false_eq_true, if_false, Bool.or_eq_true, List.isEmpty_iff, beq_iff_eq,
    decide_eq_true_eq, Bool.not_eq_true']
  rfl

end tunnels

/-- Settles O31: each event of a port or tunnel, by its guard. -/
theorem tunnelsComplete : Obligations.TunnelsComplete := by
  unfold Obligations.TunnelsComplete
  intro s hup
  refine ⟨fun port data ending => ?_, fun port n0 t0 ts data ending hport => ?_, fun net f htakes htyp hfcs hsrc hserial => ?_,
    fun net f hhanded htyp hsrc hblock hcrc h1 h16 henable hfar hlp => ⟨fun hrun => ?_, fun hrun => ⟨_, _, _, rfl, rfl, rfl, ?_⟩⟩,
    fun n x rest hqueue hrun henable hidle => ⟨_, rfl, ?_⟩, fun n hn henable hrun hdue => ?_, fun n hn hisUp hheard => ?_⟩
  · refine congrArg Host.Outcome.next ?_
    have hstill : (s.updPort port (LegacyPort.heard s.time.ot)).cmUp = true := hup
    simp only [hstill, Bool.not_true, Bool.or_false, Bool.or_eq_true, beq_iff_eq]
    rfl
  · simp only [State.lineFrame, hport, State.carryOr, List.isEmpty_iff]
    cases ending <;> cases s.tunnelsRun <;> simp <;> rfl
  · refine congrArg Host.Outcome.next ((if_neg (by simp [htyp, htakes])).trans ?_)
    exact State.notOwn_duplicate hsrc hserial hfcs
  · rw [exec_tunnelFrameReceived hhanded htyp hsrc hblock hcrc h1 h16 henable hfar hlp]
    simp only [State.tunnelData, hrun, Bool.not_false, if_true, List.isEmpty_iff]
  · rw [exec_tunnelFrameReceived hhanded htyp hsrc hblock hcrc h1 h16 henable hfar hlp, State.tunnelData_runs _ _ hrun]
  · refine congrArg Host.Outcome.next ?_
    have hline : s.lineIdle (s.tunnel n) = true := by
      rcases htwo : tTwoWire (s.tunnel n) with _ | _
      · simp only [State.lineIdle, htwo, Bool.not_false, Bool.true_or]
      · cases hbusy : (s.port (s.tunnel n).port).busy with
        | none => simp only [State.lineIdle, hbusy, Option.all_none, Bool.or_true]
        | some b => simp only [State.lineIdle, hbusy, Option.all_some, hidle htwo b hbusy, decide_true, Bool.or_true]
    simp only [hqueue]
    exact (if_pos (by simp only [hrun, henable, hline, Bool.and_self])).trans rfl
  · exact congrArg Host.Outcome.next (if_pos (by simp [hn, henable, hrun, hdue]))
  · refine congrArg Host.Outcome.next (if_pos ?_)
    have hquiet : ((s.tunnel n).heard.any fun h => s.time.ot < h + 3000) = false := by
      cases h : (s.tunnel n).heard with
      | none => rfl
      | some t => exact decide_eq_false (Nat.not_lt.2 (hheard t h))
    simp only [hn, hisUp, hquiet, hup, decide_true, Bool.not_false, Bool.and_self]

end Sys2Proof.Machine
end


section
/-! The events of the records and clocks, and what ends a stage-check, a verification, a kernel turn, a level switch and an
activation (14, 11 R322, 16 R434 to R446). -/

namespace Sys2Proof.Machine

/-! ### Records and clocks -/

/-- Which master the slave follows. -/
theorem TimeSt.takesMaster_iff {t : TimeSt} {m : PtpMaster} : t.takesMaster m = true ↔ ∀ i r, t.master = some (i, r) →
    i = m.ident ∨ m.rank < r ∨ ∀ k, t.synced = some k → k + 10000 ≤ t.ot := by
  cases hmaster : t.master with
  | none => simp [TimeSt.takesMaster, hmaster]
  | some x =>
    obtain ⟨i, r⟩ := x
    have hsilent : t.synced.all (· + 10000 ≤ t.ot) = true ↔ ∀ k, t.synced = some k → k + 10000 ≤ t.ot := by
      cases t.synced <;> simp
    simp only [TimeSt.takesMaster, hmaster, Bool.or_eq_true, beq_iff_eq, decide_eq_true_eq, hsilent, or_assoc]
    exact ⟨fun h j q hq => by cases hq; exact h, fun h => h i r rfl⟩

/-- Settles O32: each event of the records and clocks, by its guard. -/
theorem recordAndClockEventsComplete : Obligations.RecordAndClockEventsComplete := by
  unfold Obligations.RecordAndClockEventsComplete
  intro s hup
  refine ⟨?_, ?_, fun t ht hdue => ?_, fun kind source c hkind hc hdue => ?_, fun hdrops hsecond => ⟨_, _, rfl, rfl, ?_⟩,
    fun log segment n k out len hshape hseg hout => ⟨_, _, _, rfl, rfl, rfl, ?_⟩,
    fun offs m hsource hopen => ⟨_, rfl, ?_⟩, fun t m => TimeSt.takesMaster_iff, fun hlock hsynced => ?_⟩
  · exact congrArg Host.Outcome.next (State.fed_of_cmUp _ hup)
  · exact congrArg Host.Outcome.next (State.fed_of_cmUp _ hup)
  · exact congrArg Host.Outcome.next (if_pos (by simp [ht, hdue]))
  · refine congrArg Host.Outcome.next ?_
    have hnone (t : State) : t.mail.alarms.find? (fun w => kind == 1 && fword w.fsid == source) = none :=
      List.find?_eq_none.2 fun w _ => by simp [hkind]
    simp only [hc, hdue, hnone, if_true]
  · exact congrArg Host.Outcome.next ((if_neg (by simp [hdrops, hsecond])).trans rfl)
  · refine congrArg Host.Outcome.next ((State.fed_of_cmUp _ hup).trans ?_)
    have hin : (decide (n ≤ segment) || out.contains segment) = false := by simp only [Nat.not_le.2 hseg, hout, decide_false, Bool.or_self]
    simp only [hshape, hin, Bool.false_eq_true, if_false, beq_iff_eq]
  · refine congrArg Host.Outcome.next ((State.fed_of_cmUp _ hup).trans ?_)
    simp only [hsource, hopen, bne_self_eq_false, Bool.not_true, Bool.or_self, Bool.false_or, Bool.not_eq_true', Bool.or_eq_true,
      decide_eq_true_eq, Bool.and_eq_true]
  · refine congrArg Host.Outcome.next (if_pos ?_)
    have hsilent : s.time.synced.all (· + 10000 ≤ s.time.ot) = true := by
      cases h : s.time.synced with
      | none => rfl
      | some t => exact decide_eq_true (hsynced t h)
    simp only [hlock, hsilent, Bool.and_self]

/-! ### Checks and image changes in progress -/

/-- A lane's turn begins where the start admits it. -/
theorem State.turnStart_due {s : State} {a : ActSt} {lane : Lane} (ha : s.upd.act = some a) (hasked : a.asked = some lane)
    (hdue : s.turnDue a lane = true) : s.turnStart = s.beginTurn a lane := by
  simp only [State.turnStart, ha, hasked, hdue, if_true]

/-- The level switch asked for, at a start that admits it. -/
theorem State.switchStart_ready {s : State} {a : ActSt} (ha : s.upd.act = some a) (hasked : a.askedLevel = true)
    (hready : s.switchReady = true) (hactive : s.nActive = 3) (hquiet : s.quietStart = true) (hmod : s.pow.mod = .service) :
    s.switchStart = if s.switchBound then
      if s.pair.pacer then s else (s.plSend (.cmdfwd .levelReady)).updAct fun a => { a with askedLevel := false }
    else s.switchLevel :=
  if_pos (by simp [ha, hasked, hready, hactive, hquiet, hmod])

/-- Settles O33: each end of a check or of an image change, by its guard. -/
theorem imageChangeEventsComplete : Obligations.ImageChangeEventsComplete := by
  unfold Obligations.ImageChangeEventsComplete
  intro s
  refine ⟨fun differs r hr => ⟨fun hall => ?_, fun l hodd hactive => ?_, fun hmany => ?_⟩,
    fun r u hr hu => ⟨_, _, _, _, _, _, rfl, rfl, rfl, rfl, rfl, rfl, ?_⟩, fun u hu hidle => ?_,
    fun lane a ha hkind hnext hturn => ?_, fun lane a ha hasked hdue => ⟨_, _, _, rfl, rfl, rfl, ?_⟩,
    fun lane hturn hst => ?_, fun hready => ?_,
    fun a ha hasked hready hactive hquiet hmod => ⟨fun hbound => ?_, fun hbound hpacer => ?_⟩,
    fun a ha hpassed => ⟨_, _, rfl, rfl, ?_⟩, fun a ha => ⟨fun hkind hswitched hsv hage => ?_, fun hkind hmod hage => ?_⟩⟩
  · refine congrArg Host.Outcome.next ?_
    simp only [hr, hall]
  · refine congrArg Host.Outcome.next ?_
    simp only [hr, hodd, hactive, beq_self_eq_true, if_true]
  · refine congrArg Host.Outcome.next ?_
    simp only [hr]
    rcases hodd : s.actives.filter (fun l => differs.get l) with _ | ⟨l, _ | ⟨m, rest⟩⟩
    · rw [hodd] at hmany
      simp at hmany
    · rw [hodd] at hmany
      have hfew : s.nActive ≠ 3 := by simpa using hmany
      exact if_neg (mt beq_iff_eq.1 hfew)
    · rfl
  · refine congrArg Host.Outcome.next ?_
    simp only [hr, hu]
  · exact congrArg Host.Outcome.next (if_pos (by simp [hu, hidle]))
  · refine congrArg Host.Outcome.next ?_
    simp only [ha]
    exact if_pos (by simp [hkind, hnext, hturn])
  · rw [State.turnStart_due ha hasked hdue]
    rfl
  · exact congrArg Host.Outcome.next (if_pos (by simp [hturn, hst]))
  · exact congrArg Host.Outcome.next (if_pos hready)
  · rw [State.switchStart_ready ha hasked hready hactive hquiet hmod, if_neg (Bool.eq_false_iff.1 hbound)]
  · rw [State.switchStart_ready ha hasked hready hactive hquiet hmod, if_pos hbound, if_neg (Bool.eq_false_iff.1 hpacer)]
  · refine congrArg Host.Outcome.next ?_
    simp only [ha]
    refine (if_pos hpassed).trans ?_
    cases a.ref <;> rfl
  · refine congrArg Host.Outcome.next ?_
    simp only [ha]
    exact if_pos (by simp [hkind, hswitched, hsv, hage])
  · refine congrArg Host.Outcome.next ?_
    simp only [ha]
    exact (if_neg (by simp [hkind])).trans (if_pos (by simp [hkind, hmod, hage]))

end Sys2Proof.Machine
end


section
/-! The self-test engine, tamper detection, power, boot, and the front (15 R409 to R429, 17 R448 to R470, 18 R471 to R485). -/

namespace Sys2Proof.Machine

/-! ### Self-test and tamper -/

/-- A measurement of the precondition quantities, by the service region. -/
theorem exec_preconditionCheck {s : State} {q : Quantities} (hon : s.pow.on = true) (hsv : s.pow.sv = true) :
    (s.be.test = none → exec (.preconditionCheck q) s = .next { s with be := { s.be with q := q } }) ∧
    ∀ t, s.be.test = some t →
      (State.badQty { s with be := { s.be with q := q } } q t.id t.target = none →
        exec (.preconditionCheck q) s = .next { s with be := { s.be with q := q } }) ∧
      ∀ n v, State.badQty { s with be := { s.be with q := q } } q t.id t.target = some (n, v) →
        exec (.preconditionCheck q) s =
          .next (State.abandonWith { s with be := { s.be with q := q } } 0x8070 1 (le 1 n ++ le 4 v)) := by
  have hserves : (!s.pow.on || !s.pow.sv) = false := by simp [hon, hsv]
  refine ⟨fun htest => ?_, fun t htest => ⟨fun hok => ?_, fun n v hbad => ?_⟩⟩ <;>
    refine congrArg Host.Outcome.next ((if_neg (Bool.eq_false_iff.1 hserves)).trans ?_)
  · simp only [htest]
  · simp only [htest] at hok ⊢
    simp only [hok]
  · simp only [htest] at hbad ⊢
    simp only [hbad]

/-- Settles O34: each event of the bench engine, by its guard. -/
theorem testAndTamperEventsComplete : Obligations.TestAndTamperEventsComplete := by
  unfold Obligations.TestAndTamperEventsComplete
  intro s
  refine ⟨fun codes t htest hrun habandoned hended => ⟨_, _, _, _, _, rfl, rfl, rfl, rfl, rfl,
      exec_testComplete_running codes htest hrun habandoned hended rfl rfl rfl⟩,
    fun q hon hsv => ?_, fun off hon hsv => ?_, fun hon => ?_, fun intact hon hsv => ?_, fun hoff => ?_⟩
  · obtain ⟨hnone, hsome⟩ := exec_preconditionCheck (q := q) hon hsv
    exact ⟨_, rfl, hnone, fun t ht => (hsome t ht).1, fun t n v ht => (hsome t ht).2 n v⟩
  · exact congrArg Host.Outcome.next (if_pos (by simp [hon, hsv]))
  · exact congrArg Host.Outcome.next (if_pos hon)
  · refine congrArg Host.Outcome.next ((if_neg (by simp [hon, hsv])).trans ?_)
    simp only [Bool.and_eq_true, Bool.not_eq_true']
  · refine congrArg Host.Outcome.next (if_neg ?_)
    rcases hoff with h | h <;> simp [h]

/-! ### Power and boot -/

/-- Settles O35: each event of the supply and of a boot, by its guard. -/
theorem powerAndBootComplete : Obligations.PowerAndBootComplete := by
  unfold Obligations.PowerAndBootComplete
  intro s
  refine ⟨fun env kaFed offMs hoff => ⟨_, rfl, ?_⟩, fun kind env hup hpfail hrestart hmod => ⟨_, rfl, ?_⟩,
    fun hup hpfail => ⟨_, rfl, ?_⟩, fun hon hpfail => ?_,
    fun lane pass hup hhold hcheck harb hturn hpassed hsupply hst hstopped => ?_,
    fun lane hup hhold hcheck harb hturn hpassed hst hcycle hstopped hplug htemp hdup himage => ?_, fun hsync => ?_,
    fun hboot htemp => ?_⟩ <;> refine congrArg Host.Outcome.next ?_
  · refine (if_neg ?_).trans rfl
    rcases hoff with h | h | h <;> simp [h]
  · refine (if_pos (by simp [hup, hpfail, hrestart, hmod])).trans ?_
    simp only [Bool.or_eq_true, Bool.and_eq_true, beq_iff_eq, bne_iff_ne]
  · refine (if_pos (by simp [hup, hpfail])).trans ?_
    simp only [beq_iff_eq]
  · refine (if_pos (by simp [hon, hpfail])).trans ?_
    simp only [beq_iff_eq]
  · refine (State.fed_of_cmUp _ hup).trans ((if_neg ?_).trans ?_)
    · simp [hhold, hcheck, harb, hturn, hpassed, hsupply, hst, hstopped]
    · simp only [Bool.not_eq_true', beq_iff_eq]
  · refine (State.fed_of_cmUp _ hup).trans (if_pos ?_)
    simp [hhold, hcheck, harb, hturn, hpassed, hst, hcycle, hstopped, hplug, htemp, hdup, himage]
  · exact if_pos (by simp [hsync])
  · exact if_pos (by simp [hboot, htemp])

/-! ### Supply inputs, plug, temperature and button -/

/-- Settles O36: each event of the front, by its guard. -/
theorem supplyAndFrontComplete : Obligations.SupplyAndFrontComplete := by
  unfold Obligations.SupplyAndFrontComplete
  intro s hup
  refine ⟨fun second => ?_, fun second => rfl, fun plug => ?_, ?_, ?_, ?_, fun ms hmod hstuck hbad => ?_, fun hstuck => ?_,
    fun hbad => ?_, ?_⟩
  · refine congrArg Host.Outcome.next ((State.fed_of_cmUp _ hup).trans ?_)
    simp only [Bool.or_eq_true]
  · refine congrArg Host.Outcome.next ((State.fed_of_cmUp _ hup).trans ?_)
    cases plugOk plug <;> simp
  · exact congrArg Host.Outcome.next (State.fed_of_cmUp _ hup)
  · rfl
  · exact congrArg Host.Outcome.next (State.fed_of_cmUp _ hup)
  · refine congrArg Host.Outcome.next ((State.fed_of_cmUp _ hup).trans ?_)
    simp only [beq_eq_false_iff_ne.2 hmod, hstuck, hbad, Bool.or_self, Bool.false_or, Bool.or_eq_true, decide_eq_true_eq]
  · exact congrArg Host.Outcome.next ((State.fed_of_cmUp _ hup).trans (if_neg (by simp [hstuck])))
  · exact congrArg Host.Outcome.next ((State.fed_of_cmUp _ hup).trans (if_neg (by simp [hbad])))
  · rfl

end Sys2Proof.Machine
end
